-- ==== Sys2Proof/Word.lean ====
section
/-! DEFINITION. The word types and their plainest arithmetic: a register is a 32-bit word (00_scope, Registers),
a line is 64 bytes (01_architecture, R10), a control-space offset has 24 bits (20_register_map). -/

namespace Sys2Proof

/-- A control-space register: 32 bits, little-endian (00_scope, Registers). -/
abbrev Word := BitVec 32

/-- A control-space byte offset: 24 bits (20_register_map). -/
abbrev Offset := BitVec 24

/-- One 64-byte line of DRAM, byte 0 in bits 7:0. -/
abbrev Line := BitVec 512

/-- One byte. -/
abbrev Byte := BitVec 8

/-- The all-ones word of `w` bits as a number. -/
def onesBelow (w : Nat) : Nat := 2 ^ w - 1

end Sys2Proof
end

