-- ==== Sys2Proof/Syntax.lean ====
section
/-!
DEFINITION. Sys2Proof/Syntax.lean: the commands of the block, one constructor of `Instr` per row of
spec/opcode_table.json, with the operands that the outside world brings to each: what a host, a die, a device, a pin or
a bus partner shows at that step. Values that the spec leaves to the outside are operands, never choices of the model.
-/
namespace Sys2Proof

/-! ## Index types (Table 1.4) -/

abbrev QuadIx := Fin 4
abbrev ScIx := Fin 16
abbrev FcIx := Fin 16
abbrev DieIx := Fin 128
abbrev PairIx := Fin 52
abbrev HeadIx := Fin 2
abbrev RailIx := Fin 32
/-- TW1 to TW4 as 0 to 3. -/
abbrev TwIx := Fin 4
abbrev PosIx := Fin 32
/-- The register paths of R32: Head 0, Head 1, TW0, the management cluster, the configuration loader. -/
abbrev PathIx := Fin 5

/-! ## Data that commands carry -/

/-- A key, held as where it came from: two keys are the same key when they are made the same way. Key bytes are not
modelled (the ciphers are symbolic). -/
inductive Key where
  /-- A key fixed in silicon, in factory data or in an image: device, family, configuration, pack, ... -/
  | fixed (what : Nat)
  /-- The n-th draw of the random number generator (R373). -/
  | drawn (n : Nat)
  /-- A key that came from outside in a blob (R348). -/
  | given (v : Nat)
  /-- A derived key (R345, R346). -/
  | kdf (k : Key) (label : Nat) (ctx : Nat)
  /-- A key blended with a draw (R353). -/
  | xor (a b : Key)
  deriving DecidableEq, Repr

/-- The data of a write: a line, its byte enables, and the poison flag (R51, R330). -/
structure WriteData where
  line   : Line
  be     : BitVec 64
  poison : Bool
  deriving DecidableEq, Repr

/-- A CXL.mem request as a head receives it (R12, R51, R318): when its last symbol came (the CCLK cycle of the frame),
the LD it names, the address in the LD and the host's tag. -/
structure HostReq where
  head : HeadIx
  cyc  : Nat
  ld   : Nat
  addr : Nat
  tag  : Nat
  deriving DecidableEq, Repr

/-- A fault message (Table 16.1). -/
structure FaultMsg where
  src   : Nat
  kind  : Nat
  sev   : Nat
  req   : Nat
  acc   : Nat
  time  : Nat
  space : Nat
  addr  : Nat
  deriving DecidableEq, Repr

/-- Why a die read runs (R151, R165, R193, R201, R207, R209); the last reads a stripe member for the rebuild of the unit of
the same number on another die (R8, R9). -/
inductive ReadWhy where
  | fill (patch : Nat)
  | heal (patch : Nat)
  | relocate
  | patrol
  | merge (patch : Nat)
  | rebuild (die : Nat)
  deriving DecidableEq, Repr

/-- What an LDPC engine's syndrome recheck finds (R287): nothing, a fault that the spare does not repeat, or a fault on the
spare as well. -/
inductive EngineCheck where
  | fine | fault | both
  deriving DecidableEq, Repr

/-- The modes of the control engine (R368). -/
inductive CtrlMode where
  | cbc | cfb | ofb | ctr | gcm | cmac | kw | kwp | kdf
  deriving DecidableEq, Repr

/-- A transaction that a user asks of a controller segment (R463, Table 15.4): its position, whether it is an authentication,
a SAVE_NOTE or a GROUP_SAVE, the target's address, the bytes written and how many are read. -/
structure TwReq where
  who    : Fin 2
  urgent : Bool
  addr   : Nat
  bytes  : List Nat
  reads  : Nat
  deriving DecidableEq, Repr

/-- The instructions of the JTAG port (R580). -/
inductive JtagOp where
  | idcode | bypass | sample | extest | highz
  deriving DecidableEq, Repr

/-- What a frame shows at its end (R25 to R28, R132, R379, R401, R425, R481, R482): the units without frame-done (256 ×
class + index), the ring segments whose idle token is missing, the monitor codes of the rails, the PACK_SENSE code, the
shunt's mean voltage over the frame in nV, and whether GRP_FAULT_N is sampled low. -/
structure FrameIn where
  notDone : List Nat
  silent  : List Nat
  vmon    : List (Nat × Nat)
  pack    : Nat
  shunt   : Int
  groupFault : Bool
  deriving DecidableEq, Repr

/-- What reading the SV2400 pack EEPROM shows (Table 13.7): whether magic and CRC are correct, and its fields. -/
structure Eeprom where
  ok        : Bool
  design    : Option Nat
  serial    : Nat
  cycles    : Nat
  fcc       : Nat
  z         : List Nat
  deriving DecidableEq, Repr

/-- What a superframe shows at its end: the XTAL_IN and AON counts (R26), the cell taps and thermistors as converter
codes (R380), the raw die temperatures in 0.1 °C (none: a sensor has failed; Table 17.7), PACK_ALERT_N low, the folds that came back wrong (R47: class, unit, COMMON or OWN), what the pack EEPROM
reads as and whether the charger takes its writes, should the pack have changed (R397, R409). -/
structure SuperIn where
  xtal      : Nat
  aon       : Nat
  tap0      : Nat
  tap1      : Nat
  ntc0      : Nat
  ntc1      : Nat
  dieTemps  : List (Option Int)
  alertLow  : Bool
  folds     : List (Nat × Nat × Bool)
  eeprom    : Eeprom
  chargerOk : Bool
  deriving DecidableEq, Repr

/-- A DFI clock of a sub-channel (R225): its CCLK cycle, and the banks (32 × rank + bank) to which the timing set lets no
column command, and no row command, go in it. -/
structure IssueIn where
  cyc     : Nat
  colBusy : List Nat
  rowBusy : List Nat
  deriving DecidableEq, Repr

/-- What the Reed–Solomon decoder finds in the oldest read on its way (R260): the codeword positions of Table 9.3 that it
locates as wrong, and whether it locates all errors. -/
structure ReadBack where
  errs    : List Nat
  located : Bool
  deriving DecidableEq, Repr

/-- What CS and CA training finds at one operating point (Table 9.1, step 1): CA delay and CA Vref. -/
structure CaTrain where
  op    : Nat
  delay : Nat
  vref  : Nat
  deriving DecidableEq, Repr

/-- What training finds on one lane (R247 to R249): operating point, rank, device, direction (write or read), the coarse write
delay of write levelling, each DQ bit's passing window at the mid-range Vref, and for each Vref step the delay steps at which all
four bits pass. -/
structure LaneTrain where
  op    : Nat
  rank  : Nat
  lane  : Nat
  write : Bool
  coarse : Nat
  bits  : List (Nat × Nat)
  sweep : List (BitVec 256)
  deriving DecidableEq, Repr

/-- What a tracking step measures on one lane (R252): the read window's width, and the shifts of its read and write
centres in steps. -/
structure LaneTrack where
  lane  : Nat
  width : Nat
  read  : Int
  write : Int
  deriving DecidableEq, Repr

/-- What a full gauge step meets: whether the EEPROM block checks after a write-back (R409). -/
structure FullStepIn where
  backOk : Bool
  deriving DecidableEq, Repr

/-- What the authenticator answers (R392): the response that the CMAC gives, another one, or a transaction that failed. -/
inductive AuthResp where
  | good | bad | none
  deriving DecidableEq, Repr

/-! ## Images (17, 18) -/

/-- One rank's write to a register that a table section makes: offset, mask, value. -/
structure RegSet where
  off  : Nat
  mask : Word
  val  : Word
  deriving DecidableEq, Repr

/-- A record (R503). -/
structure CfgRecord where
  off      : Nat
  bcast    : Bool
  qmask    : Nat
  scmask   : Nat
  fcmask   : Nat
  mask     : Word
  value    : Word
  /-- Reserved bits, and bits 31:25 of bytes 3:0, are 0. -/
  clean    : Bool
  deriving DecidableEq, Repr

/-- The media profile (Table 17.3): bands, units per band, planes, P/E cycles, spare percentage, the populated dies D
(Table 3.5), read-level offset sets. -/
structure Media where
  bands     : Nat := 0
  unitsPerBand : Nat := 0
  planes    : Nat := 4
  pe        : Nat := 0
  sparePct  : Nat := 0
  d         : Nat := 0
  levels    : Nat := 0
  deriving DecidableEq, Repr

/-- The pack dividers and thermistors (section 0x0042). -/
structure Dividers where
  cell  : List Nat := []
  pack  : Nat := 0
  vin   : Nat := 0
  ntc   : List (Nat × Int) := []
  deriving DecidableEq, Repr

inductive SecBody where
  | media (m : Media) (sets : List RegSet)
  | rankMap (height : Nat) (sets : List RegSet)
  | sets (l : List RegSet)
  | modeSets (l : List (Nat × List Nat))
  | ocv (l : List Nat)
  | impedance (l : List Nat)
  | dividers (d : Dividers)
  | charger (l : List (Nat × List Nat))
  | topcoat (l : List (Nat × Int × Int))
  | records (l : List CfgRecord)
  deriving DecidableEq, Repr

/-- A section and its directory entry (R500, R504): whether it lies inside IMAGE_LEN and has its type's length. -/
structure Section where
  type   : Nat
  inst   : Nat
  inside : Bool
  lenOk  : Bool
  body   : SecBody
  deriving DecidableEq, Repr

/-- A configuration image (Table 17.2). Its CMAC is held as the key it was made under, and whether it is intact. -/
structure CfgImage where
  formatOk  : Bool
  encrypted : Bool
  len       : Nat
  seq       : Nat
  layoutCrc : Nat
  dirCount  : Nat
  checks    : Nat
  cmacKey   : Key
  intact    : Bool
  bytes     : List Byte
  sections  : List Section
  deriving DecidableEq, Repr

/-- A firmware header (Table 18.1) and what the checks of R520 find on its image. -/
structure FwHdr where
  formatOk    : Bool
  commitSvn   : Bool
  liveOk      : Bool
  svn         : Nat
  buildSeq    : Nat
  revision    : Nat
  payloadLen  : Nat
  codeLen     : Nat
  preserveFmt : Nat
  pubkeyOk    : Bool
  sigOk       : Bool
  tagOk       : Bool
  deriving DecidableEq, Repr

inductive ImageHdr where
  | fw (h : FwHdr)
  | cfg (c : CfgImage)
  deriving DecidableEq, Repr

/-- One firmware area: its image, if it holds a whole one, and its activation record (R521). -/
structure FwSlot where
  image : Option FwHdr := none
  act   : Option Nat := none
  deriving DecidableEq, Repr

/-- One configuration area: its image and whether its MAGIC bytes are programmed (R521). -/
structure CfgSlot where
  image : Option CfgImage := none
  magic : Bool := true
  deriving DecidableEq, Repr

/-- What was programmed into the SPI NOR from outside while PORST_N was asserted (R499): firmware and configuration areas, and
the factory module data with the owner import key blob's use mask, if it holds one. -/
structure NorIn where
  fwA     : Option FwSlot
  fwB     : Option FwSlot
  cfgA    : Option CfgSlot
  cfgB    : Option CfgSlot
  factory : Option (Bool × Option Nat)
  deriving DecidableEq, Repr

/-- What PORST_N release meets: the straps of Table 21.6, whether the first entropy samples pass their tests (R373, R374),
and the NOR. -/
structure BootIn where
  recoveryLow : Bool
  bootMode    : Fin 4
  straps      : Fin 8
  rngOk       : Bool
  nor         : NorIn
  deriving DecidableEq, Repr

/-- What a configuration load meets: how long it takes, the Undercoat as the OTP reads (R513: gain with 22 fraction bits and
offset of each channel, and the blocks whose CRC passes), and whether SEQ_IN has been low for 1 ms (R439). -/
structure LoadIn where
  loadMs      : Nat
  undercoat   : List (Nat × Int)
  undercoatOk : List Bool
  seqInLow    : Bool
  deriving DecidableEq, Repr

/-- What a die's read shows (R286 to R291): how many retry passes its worst codeword needs (none: no pass decodes it), how
many codewords the soft decoder decodes, the engine's recheck, and the dies of its channel whose reads ask for the bus in the
same cycle (R295). -/
structure FlashRead where
  need   : Option Nat
  soft   : Nat
  engine : EngineCheck
  others : List (Fin 8)
  deriving DecidableEq, Repr

/-- What one die of a channel shows at initialisation (R299, R312, Table 10.6): whether it is populated, its ID and parameter
page match, its training passes, the newer and the older copy of its block map are valid, and the blocks of each plane marked
bad in the factory. -/
structure DieInit where
  present : Bool
  idOk    : Bool
  trains  : Bool
  mapNew  : Bool
  mapOld  : Bool
  factory : List Nat
  deriving DecidableEq, Repr

/-- The data key that a quadrant's cache lacks (R364): an LD's for a generation, or the ledger's. -/
inductive KeyDerivation where
  | data (ld : Fin 16) (g : Nat)
  | ledger (g : Nat)
  deriving DecidableEq, Repr

/-- A request at the control engine's queue (R368 to R371): who asks (position of R371), its class (0 urgent, 1 normal,
2 bulk), the slot, the use of Table 12.2 it needs, the slot generation it names if any, its mode and direction (an encryption,
a MAC generation or a wrap, or else the opposite), and the IV that a GCM decryption brings (R369). -/
structure CtrlArrival where
  who  : Fin 8
  cls  : Fin 3
  slot : Fin 64
  use  : Fin 7
  gen  : Option Nat
  mode : CtrlMode
  encrypt : Bool
  iv   : BitVec 96
  deriving DecidableEq, Repr

/-- One step of the control engine: the request in progress ends, with what its two round units and the spare's compare
(R372), and requests arrive at the queue's entry port. -/
structure CtrlReqIn where
  ends    : Option (Bool × Bool)
  arrives : List CtrlArrival
  deriving DecidableEq, Repr

/-- What a rail's comparators declare (R424): over-voltage, under-voltage, PG lost. -/
inductive RailFaultKind where
  | ov | uv | pg
  deriving DecidableEq, Repr

/-- An MCTP packet as it arrives on TW0 (R459, R460): whether its PEC is correct, its source endpoint, tag and sequence number,
whether it starts and ends its message, and its payload (the message type first). -/
structure MctpPacket where
  pecOk : Bool
  src   : Fin 256
  tag   : Fin 16
  seq   : Fin 4
  som   : Bool
  eom   : Bool
  data  : List Byte
  deriving DecidableEq, Repr

/-- How a transaction of a controller segment ends (Table 15.6), but for the ends that other commands bring. -/
inductive TwResult where
  | ok | nackAddr | nackData | pecErr | conflict
  deriving DecidableEq, Repr

/-- A fault that a unit finds in itself and reports on its source (R478, Tables 16.9 to 16.12): the message but for its
time. -/
structure RaiseIn where
  src   : Fin 0x500
  kind  : Fin 256
  sev   : Fin 5
  req   : Fin 64
  acc   : Fin 16
  space : Fin 6
  addr  : Nat
  deriving DecidableEq, Repr

/-- A segment that delivers in a cycle (R479), and whether its message's CHECK fails (R480). -/
structure Delivery where
  seg     : Fin 5
  corrupt : Bool
  deriving DecidableEq, Repr

/-- Functions: 0 to 15 those of the LDs, 16 the FM-owned LD reached over TW0 (R323), 17 the one function that Head 0 presents
in RECOVERY (R534). -/
abbrev FnIx := Fin 18

/-- A part of a firmware transfer (R527, R528): its offset and length in bytes, and whether it was programmed into staging and
read back equal. -/
structure FwPart where
  off : Nat
  len : Nat
  ok  : Bool
  deriving DecidableEq, Repr

/-- What a Load Key Blob command carries and its blob unwraps to (R348): the target and wrapping slots, whether the unwrap
passes its integrity check, and the inner key, slot, use mask and PERSIST. -/
structure KeyBlob where
  target  : Nat
  wrap    : Nat
  intact  : Bool
  key     : Nat
  slot    : Nat
  use     : Nat
  persist : Bool
  deriving DecidableEq, Repr

/-- The reference clock of a link (R578): common, separate, or separate with spread spectrum. -/
inductive RefClock where
  | common | separate | separateSpread
  deriving DecidableEq, Repr

/-- The order in which a link's lanes are connected (R578): straight, the whole link reversed, or another. -/
inductive LaneOrder where
  | straight | reversed | mixed
  deriving DecidableEq, Repr

/-- What a link's training shows (R314, R315, R578): the highest speed that the partner supports (0 to 2 for 16, 32 and
64 GT/s), whether lanes 0-7 and lanes 8-15 are whole, the reference clock, the lane order and the lanes of inverted polarity. -/
structure TrainIn where
  speed : Fin 3
  low   : Bool
  high  : Bool
  clock : RefClock
  order : LaneOrder
  inverted : BitVec 16
  deriving DecidableEq, Repr

/-- One register write as a path brings it (R555, R556): its length in bytes, its data, low byte first, and BAR2's byte enables;
`sets` are the bits that the hardware sets in the registers in that cycle (R563). -/
structure RegAccess where
  path  : PathIx
  off   : Offset
  len   : Nat
  value : BitVec 64
  be    : BitVec 8
  sets  : BitVec 64 := 0
  deriving DecidableEq, Repr

inductive RetCode where
  | success | invalidInput | invalidSlot | busy | unsupported | transferError | activationFailed | invalidHandle
  | backgroundStarted
  deriving DecidableEq, Repr

/-- The commands: one constructor per row of spec/opcode_table.json, in the table's order. -/
inductive Instr where
  /-- FRAME_BOUNDARY (R20). -/
  | frameBoundary (i : FrameIn)
  /-- TICK_SKEW (R25). -/
  | tickSkew (treeB : Bool)
  /-- SUPERFRAME_BOUNDARY (R20). -/
  | superframeBoundary (i : SuperIn)
  /-- AON_TICK (R21). -/
  | aonTick
  /-- MAIN_CLOCK_START (R22). -/
  | mainClockStart
  /-- AON_POWER_APPLY (R23). -/
  | aonPowerApply (straps : Nat)
  /-- AON_RESET (R591). -/
  | aonReset
  /-- REGISTER_WRITE (R32). -/
  | registerWrite (accesses : List RegAccess)
  /-- CLR_OVERRUNS (R4). -/
  | clrOverruns (path : PathIx)
  /-- BROADCAST_WRITE (R35). -/
  | broadcastWrite (access : RegAccess)
  /-- BROADCAST_READ (R36). -/
  | broadcastRead (path : PathIx) (off : Offset)
  /-- EPOCH_COMMIT (R38). -/
  | epochCommit (path : PathIx) (value : Word)
  /-- EPOCH_VOTE (R40). -/
  | epochVote (notReady : List Nat)
  /-- EPOCH_APPLY (R41). -/
  | epochApply
  /-- UNIT_POWER_RETURN (R44). -/
  | unitPowerReturn (unit : Nat)
  /-- HOST_WRITE (R51). -/
  | hostWrite (r : HostReq) (d : WriteData)
  /-- HOST_READ (R12). -/
  | hostRead (r : HostReq)
  /-- STATE_PROBE_ANSWER (R104). -/
  | stateProbeAnswer (head : HeadIx) (id : Nat) (mates : Nat)
  /-- HELD_WRITE_RELEASE (R104). -/
  | heldWriteRelease (head : HeadIx)
  /-- HOLD_ESCALATE (R328). -/
  | holdEscalate (head : HeadIx)
  /-- SC_QUEUE_ENTRY (R224). -/
  | scQueueEntry (sc : ScIx)
  /-- DRAM_COMMAND_ISSUE (R225). -/
  | dramCommandIssue (sc : ScIx) (i : IssueIn)
  /-- DRAM_READ_DATA (R260). -/
  | dramReadData (reads : List (ScIx × ReadBack))
  /-- HEAL_WAIT_EXPIRY (R165). -/
  | healWaitExpiry (q : QuadIx) (patch : Nat)
  /-- HEAL_COMPLETE (R166). -/
  | healComplete (q : QuadIx) (patch : Nat) (lines : List Nat)
  /-- PAGE_IDLE_CLOSE (R228). -/
  | pageIdleClose (sc : ScIx) (bank : Nat)
  /-- REFRESH_DUE (R239). -/
  | refreshDue (sc : ScIx) (rank : Nat) (bank : Nat)
  /-- MR4_POLL (R238). -/
  | mr4Poll (sc : ScIx) (temps : List Nat)
  /-- RANK_IDLE_SELF_REFRESH (R246). -/
  | rankIdleSelfRefresh (sc : ScIx) (rank : Nat)
  /-- IDLE_OP_ENTER (R242). -/
  | idleOpEnter (sc : ScIx)
  /-- IDLE_OP_EXIT (R242). -/
  | idleOpExit (sc : ScIx)
  /-- OP_CHANGE_START (R241). -/
  | opChangeStart (sc : ScIx)
  /-- STANDBY_GENERATOR_LOCKED (R241). -/
  | standbyGeneratorLocked (sc : ScIx)
  /-- OP_CHANGE_SWITCH (R241). -/
  | opChangeSwitch (sc : ScIx)
  /-- OP_CHANGE_DONE (R241). -/
  | opChangeDone (sc : ScIx)
  /-- DRAM_TRAINING (R247). -/
  | dramTraining (sc : ScIx) (ca : List CaTrain) (res : List LaneTrain)
  /-- TRACKING_PASS_START (R252). -/
  | trackingPassStart (sc : ScIx)
  /-- TRACKING_STEP (R253). -/
  | trackingStep (sc : ScIx) (res : List LaneTrack)
  /-- TRACKING_PASS_APPLY (R254). -/
  | trackingPassApply (sc : ScIx)
  /-- DRAM_WRITE_CRC_ALERT (R263). -/
  | dramWriteCrcAlert (sc : ScIx) (rank : Nat) (fails : Nat) (res : List LaneTrack)
  /-- PATROL_SCRUB_READ (R264). -/
  | patrolScrubRead (sc : ScIx)
  /-- MIGRATION_CHUNK (R273). -/
  | migrationChunk (q : QuadIx) (bad : List Nat)
  /-- PATCH_SETTING_EXPIRY (R84). -/
  | patchSettingExpiry (q : QuadIx) (mates : Nat)
  /-- SKIM_START (R91). -/
  | skimStart (q : QuadIx) (bad : List Nat) (mates : Nat)
  /-- VERSION_RECORDED (R127). -/
  | versionRecorded (die : DieIx) (unit : Nat)
  /-- WEAR_ALLOWANCE_RECOMPUTE (R95). -/
  | wearAllowanceRecompute (q : QuadIx)
  /-- GAUGE_FULL_STEP (R387). -/
  | gaugeFullStep (i : FullStepIn)
  /-- IMPEDANCE_STEP_QUALIFY (R390). -/
  | impedanceStepQualify
  /-- PACK_AUTH_START (R392). -/
  | packAuthStart
  /-- PACK_AUTH_RESPONSE (R392). -/
  | packAuthResponse (resp : AuthResp)
  /-- CHG_SELF_GRANT (R396). -/
  | chgSelfGrant
  /-- LEARN_DUE (R399). -/
  | learnDue
  /-- LEARN_NOT_STARTED (R399). -/
  | learnNotStarted
  /-- LEARNED_WRITE_START (R406). -/
  | learnedWriteStart
  /-- LEARNED_WRITE_READBACK (R405). -/
  | learnedWriteReadback (ok : Bool)
  /-- VIN_SENSE_LOW (R112). -/
  | vinSenseLow
  /-- PFW_N_ASSERT (R112). -/
  | pfwNAssert
  /-- INPUT_RETURN (R419). -/
  | inputReturn (mv : Nat)
  /-- SAVE_BACKUP_ENABLE (R115). -/
  | saveBackupEnable
  /-- SAVE_DECIDE (R116). -/
  | saveDecide
  /-- SAVE_COMMIT_ARRIVE (R120). -/
  | saveCommitArrive
  /-- QUADRANT_WRITE_DRAINED (R121). -/
  | quadrantWriteDrained (q : QuadIx)
  /-- PERSISTENCE_POINT (R121). -/
  | persistencePoint
  /-- FABRIC_PHY_OFF (R122). -/
  | fabricPhyOff
  /-- SAVE_WRITE_START (R126). -/
  | saveWriteStart (q : QuadIx) (bad : List Nat)
  /-- SAVE_QUADRANT_TAIL_DONE (R137). -/
  | saveQuadrantTailDone (q : QuadIx)
  /-- SEAL_WRITE (R138). -/
  | sealWrite
  /-- SEAL_READBACK (R139). -/
  | sealReadback (ok : List Bool)
  /-- BKP_EN_RELEASE (R142). -/
  | bkpEnRelease
  /-- PORST_N_RELEASE (R541). -/
  | porstNRelease (i : BootIn)
  /-- PORST_N_ASSERT (R433). -/
  | porstNAssert
  /-- CONFIG_LOAD (R506). -/
  | configLoad (i : LoadIn)
  /-- WARM_LOAD (R507). -/
  | warmLoad (i : LoadIn)
  /-- SEAL_SEARCH (R144). -/
  | sealSearch (unreadable : List Nat)
  /-- LEDGER_LOAD (R145). -/
  | ledgerLoad (lost : List (Nat × Nat))
  /-- RUN_OPEN_WRITE (R148). -/
  | runOpenWrite (ok : List Bool)
  /-- MEDIA_READY (R147). -/
  | mediaReady
  /-- BACKGROUND_FILL_START (R153). -/
  | backgroundFillStart (q : QuadIx)
  /-- FAULT_IN_PLACE_TAKEN (R159). -/
  | faultInPlaceTaken (die : DieIx)
  /-- FILL_COMPLETE (R151). -/
  | fillComplete (q : QuadIx) (patch : Nat)
  /-- STRIPE_REBUILD (R9). -/
  | stripeRebuild (die : DieIx) (unit : Nat)
  /-- QUADRANT_REFILL (R173). -/
  | quadrantRefill (q : QuadIx) (lost : List (Nat × Nat))
  /-- FLASH_PROGRAM_CONFIRM (R294). -/
  | flashProgramConfirm (die : DieIx) (engine : EngineCheck)
  /-- FLASH_PROGRAM_STATUS (R297). -/
  | flashProgramStatus (die : DieIx) (failed : Option (Fin 4))
  /-- FLASH_ERASE_STATUS (R303). -/
  | flashEraseStatus (die : DieIx) (failed : Option (Fin 4))
  /-- FLASH_READ_DATA (R289). -/
  | flashReadData (die : DieIx) (r : FlashRead)
  /-- FLASH_STATUS_TIMEOUT (R298). -/
  | flashStatusTimeout (die : DieIx)
  /-- DIE_OP_START (R293). -/
  | dieOpStart (die : DieIx)
  /-- DIE_REBUILD_RELOCATE (R209). -/
  | dieRebuildRelocate (die : DieIx)
  /-- FC_FAILED (R307). -/
  | fcFailed (fc : FcIx)
  /-- FLASH_CHANNEL_INIT (R312). -/
  | flashChannelInit (fc : FcIx) (busFails : Nat) (r : List DieInit)
  /-- STRIPE_CLOSE (R182). -/
  | stripeClose (pos : Nat) (unit : Nat)
  /-- JOURNAL_FLUSH (R190). -/
  | journalFlush (q : QuadIx)
  /-- CHECKPOINT_START (R191). -/
  | checkpointStart (q : QuadIx)
  /-- CHECKPOINT_SEAL (R191). -/
  | checkpointSeal (ok : List Bool)
  /-- GC_START (R200). -/
  | gcStart (pos : Nat)
  /-- WEAR_LEVEL_RELOCATE (R310). -/
  | wearLevelRelocate (pos : Nat)
  /-- RELOCATION_UPDATE (R201). -/
  | relocationUpdate (die : DieIx) (unit : Nat) (mates : Nat)
  /-- IMAGE_PATROL_START (R207). -/
  | imagePatrolStart (q : QuadIx)
  /-- CIPHER_CODEWORD_DONE (R366). -/
  | cipherCodewordDone (pair : PairIx) (mismatch spareMismatch : Bool)
  /-- TAG_COMPARE (R363). -/
  | tagCompare (q : QuadIx) (patch : Nat)
  /-- DATA_KEY_DERIVATION (R364). -/
  | dataKeyDerivation (q : QuadIx) (r : KeyDerivation)
  /-- CONTROL_ENGINE_REQUEST (R370). -/
  | controlEngineRequest (r : CtrlReqIn)
  /-- RETIRING_KEY_ZEROIZE (R352). -/
  | retiringKeyZeroize (slot : Nat)
  /-- DRBG_RESEED (R373). -/
  | drbgReseed (ok : Bool)
  /-- ENTROPY_TEST_FAIL (R374). -/
  | entropyTestFail
  /-- POWER_UP_START (R419). -/
  | powerUpStart
  /-- MAIN_RAIL_POWER_UP (R420). -/
  | mainRailPowerUp
  /-- RAIL_STAGE_START (R420). -/
  | railStageStart
  /-- RAIL_GOOD (R421). -/
  | railGood (k : RailIx)
  /-- RAIL_UP_FAIL (R421). -/
  | railUpFail (k : RailIx)
  /-- RAIL_RETRY (R422). -/
  | railRetry (k : RailIx)
  /-- RAILS_UP (R423). -/
  | railsUp
  /-- RAIL_FAULT (R426). -/
  | railFault (k : RailIx) (kind : RailFaultKind)
  /-- FIRST_FAILURE_RECORD (R435). -/
  | firstFailureRecord
  /-- POWER_DOWN_START (R428). -/
  | powerDownStart
  /-- POWER_DOWN_STAGE (R428). -/
  | powerDownStage (slow : List Nat)
  /-- PWRBTN_PRESS (R429). -/
  | pwrbtnPress
  /-- PWRBTN_RELEASE (R430). -/
  | pwrbtnRelease
  /-- FORCED_OFF (R429). -/
  | forcedOff
  /-- OFF_REQUEST (R431). -/
  | offRequest (path : PathIx)
  /-- SHIP_OFF_REQUEST (R550). -/
  | shipOffRequest (path : PathIx)
  /-- OFF_ACK (R548). -/
  | offAck (path : PathIx)
  /-- OFF_HANDSHAKE_TIMEOUT (R548). -/
  | offHandshakeTimeout
  /-- MR_N_WARM_RESET (R432). -/
  | mrNWarmReset
  /-- WARM_RESET_REBUILD (R175). -/
  | warmResetRebuild
  /-- CASCADE_TRAIN_RECEIVED (R439). -/
  | cascadeTrainReceived (pulses : Nat)
  /-- CASCADE_MASTER_TRAIN (R439). -/
  | cascadeMasterTrain
  /-- CASCADE_TIMEOUT (R440). -/
  | cascadeTimeout
  /-- DISCOVERY_END (R441). -/
  | discoveryEnd
  /-- GROUP_POWER_UP_START (R441). -/
  | groupPowerUpStart
  /-- GRP_FAULT_ASSERT (R442). -/
  | grpFaultAssert
  /-- SYNC (R443). -/
  | sync (period : Nat) (size : Nat)
  /-- POWER_UP (R441). -/
  | powerUp (staggerMs : Nat)
  /-- FP_REPORT (R50). -/
  | fpReport (pos : PosIx) (epoch : Nat) (fp : Nat)
  /-- CHG_REQ (R444). -/
  | chgReq (pos : PosIx)
  /-- CHG_GRANT (R396). -/
  | chgGrant
  /-- CHG_END (R444). -/
  | chgEnd (pos : PosIx)
  /-- LEARN_REQ (R444). -/
  | learnReq (pos : PosIx)
  /-- LEARN_GRANT (R400). -/
  | learnGrant
  /-- LEARN_END_MSG (R444). -/
  | learnEndMsg (pos : PosIx)
  /-- SAVE_NOTE (R445). -/
  | saveNote (pos : PosIx) (cause : Nat)
  /-- GROUP_SAVE (R112). -/
  | groupSave (powerDown : Bool)
  /-- STATUS_POLL (R441). -/
  | statusPoll (pos : PosIx) (answer : Option Nat)
  /-- MASTER_LOST (R446). -/
  | masterLost
  /-- TW0_PAGE_WRITE (R450). -/
  | tw0PageWrite (page : Byte)
  /-- TW0_PAGE_READ (R450). -/
  | tw0PageRead
  /-- TW0_REG_WRITE (R452). -/
  | tw0RegWrite (bytes : List Byte)
  /-- TW0_REG_READ (R453). -/
  | tw0RegRead (ptr : Nat) (count : Nat)
  /-- TW0_STATUS_READ (R450). -/
  | tw0StatusRead
  /-- TW0_BLOCK_READ (R453). -/
  | tw0BlockRead (ptr : Nat) (count : Nat)
  /-- TW0_MCTP_PACKET (R459). -/
  | tw0MctpPacket (p : MctpPacket)
  /-- TW0_MCTP_RESPONSE (R461). -/
  | tw0MctpResponse (sent : Bool)
  /-- TW0_TIMEOUT (R455). -/
  | tw0Timeout
  /-- TW0_AON_WAKE (R456). -/
  | tw0AonWake
  /-- TW0_AON_SLEEP (R458). -/
  | tw0AonSleep
  /-- ON_REQ (R457). -/
  | onReq (path : PathIx)
  /-- ALERT_RESPONSE (R462). -/
  | alertResponse (won : Bool)
  /-- TW_TRANSACTION_START (R463). -/
  | twTransactionStart (k : TwIx) (reqs : List TwReq)
  /-- TW_TRANSACTION_END (R465). -/
  | twTransactionEnd (k : TwIx) (r : TwResult) (data : List Byte)
  /-- TW_ARB_RETRY (R471). -/
  | twArbRetry (k : TwIx) (backoff : Fin 16)
  /-- TW_SCL_TIMEOUT (R466). -/
  | twSclTimeout (k : TwIx) (still : Bool)
  /-- TW_SDA_TIMEOUT (R467). -/
  | twSdaTimeout (k : TwIx)
  /-- BUS_CLEAR (R468). -/
  | busClear (k : TwIx) (freedAt : Option (Fin 3))
  /-- TW_HUNG_RETRY (R468). -/
  | twHungRetry (k : TwIx) (freedAt : Option (Fin 3))
  /-- FAULT_MESSAGE_RAISE (R478). -/
  | faultMessageRaise (m : RaiseIn)
  /-- FAULT_MESSAGE_DELIVERY (R484). -/
  | faultMessageDelivery (l : List Delivery) (mates : Nat)
  /-- FIRST_CLR (R485). -/
  | firstClr (path : PathIx)
  /-- NEXT_POP (R486). -/
  | nextPop (path : PathIx)
  /-- GF_RELEASE (R488). -/
  | gfRelease (path : PathIx)
  /-- ALERT_PEND_CLEAR (R488). -/
  | alertPendClear (path : PathIx)
  /-- LOCKSTEP_MISMATCH (R492). -/
  | lockstepMismatch (pair : Fin 2)
  /-- UPD_BOOT_OK (R524). -/
  | updBootOk (path : PathIx)
  /-- BOOT_TIMEOUT (R524). -/
  | bootTimeout
  /-- UPDATE_LOCK_IDLE_TIMEOUT (R527). -/
  | updateLockIdleTimeout
  /-- TRANSFER_FW_INITIATE (R526). -/
  | transferFwInitiate (fn : FnIx) (slot : Nat) (h : ImageHdr)
  /-- TRANSFER_FW_CONTINUE (R528). -/
  | transferFwContinue (fn : FnIx) (p : FwPart)
  /-- TRANSFER_FW_END (R528). -/
  | transferFwEnd (fn : FnIx) (p : FwPart) (copyOk : Bool)
  /-- TRANSFER_FW_ABORT (R527). -/
  | transferFwAbort (fn : FnIx)
  /-- ACTIVATE_FW_OFFLINE (R529). -/
  | activateFwOffline (fn : FnIx) (slot : Nat) (recoveryHigh : Bool)
  /-- ACTIVATE_FW_ONLINE (R530). -/
  | activateFwOnline (fn : FnIx) (slot : Nat)
  /-- RECOVERY_ENTERED (R533). -/
  | recoveryEntered (cause : Fin 4)
  /-- IDENTIFY (R334). -/
  | identify (fn : FnIx)
  /-- GET_EVENT_RECORDS (R335). -/
  | getEventRecords (fn : FnIx) (log : Nat)
  /-- CLEAR_EVENT_RECORDS (R335). -/
  | clearEventRecords (fn : FnIx) (log : Nat) (all : Bool) (handles : List Nat)
  /-- GET_EVENT_INTERRUPT_POLICY (R335). -/
  | getEventInterruptPolicy (fn : FnIx)
  /-- SET_EVENT_INTERRUPT_POLICY (R342). -/
  | setEventInterruptPolicy (fn : FnIx) (settings : List Nat)
  /-- GET_FW_INFO (R521). -/
  | getFwInfo (fn : FnIx)
  /-- GET_TIMESTAMP (R24). -/
  | getTimestamp (fn : FnIx)
  /-- SET_TIMESTAMP (R24). -/
  | setTimestamp (fn : FnIx) (ts : Nat)
  /-- GET_SUPPORTED_LOGS (R334). -/
  | getSupportedLogs (fn : FnIx)
  /-- GET_LOG (R334). -/
  | getLog (fn : FnIx)
  /-- IDENTIFY_MEMORY_DEVICE (R56). -/
  | identifyMemoryDevice (fn : FnIx)
  /-- GET_PARTITION_INFO (R334). -/
  | getPartitionInfo (fn : FnIx)
  /-- SET_PARTITION_INFO (R57). -/
  | setPartitionInfo (fn : FnIx) (vol : Nat) (immediate : Bool)
  /-- GET_HEALTH_INFO (R334). -/
  | getHealthInfo (fn : FnIx)
  /-- GET_ALERT_CONFIGURATION (R334). -/
  | getAlertConfiguration (fn : FnIx)
  /-- SET_ALERT_CONFIGURATION (R334). -/
  | setAlertConfiguration (fn : FnIx) (settings : List Nat)
  /-- GET_SHUTDOWN_STATE (R81). -/
  | getShutdownState (fn : FnIx)
  /-- SET_SHUTDOWN_STATE (R81). -/
  | setShutdownState (fn : FnIx) (value : Nat)
  /-- GET_POISON_LIST (R332). -/
  | getPoisonList (fn : FnIx) (start len : Nat)
  /-- INJECT_POISON (R333). -/
  | injectPoison (fn : FnIx) (addr : Nat)
  /-- CLEAR_POISON (R333). -/
  | clearPoison (fn : FnIx) (addr : Nat) (data : Line)
  /-- GET_SCAN_MEDIA_CAPABILITIES (R341). -/
  | getScanMediaCapabilities (fn : FnIx) (start len : Nat)
  /-- SCAN_MEDIA (R341). -/
  | scanMedia (fn : FnIx) (start len : Nat)
  /-- GET_SCAN_MEDIA_RESULTS (R341). -/
  | getScanMediaResults (fn : FnIx)
  /-- SECURE_ERASE (R337). -/
  | secureErase (fn : FnIx)
  /-- SANITIZE (R337). -/
  | sanitize (fn : FnIx)
  /-- DEVICE_ERASE_KEY_SWITCH (R340). -/
  | deviceEraseKeySwitch (ok : List Bool)
  /-- BACKGROUND_COMMAND_DONE (R342). -/
  | backgroundCommandDone (fn : FnIx) (bad : List Nat)
  /-- LOAD_KEY_BLOB (R348). -/
  | loadKeyBlob (fn : FnIx) (b : KeyBlob)
  /-- ERASE_KEY_SLOT (R354). -/
  | eraseKeySlot (fn : FnIx) (slot : Nat) (urgent regenerate : Bool)
  /-- GET_KEY_SLOT_STATUS (R347). -/
  | getKeySlotStatus (fn : FnIx) (slot : Nat)
  /-- REQUEST_LEARN_CYCLE (R399). -/
  | requestLearnCycle (fn : FnIx)
  /-- GET_LEARN_STATUS (R399). -/
  | getLearnStatus (fn : FnIx)
  /-- GET_VENDOR_LOG (R570). -/
  | getVendorLog (fn : FnIx) (type start count : Nat)
  /-- SET_LD_ALLOCATIONS (R317). -/
  | setLdAllocations
  /-- SET_ENDPOINT_ID (R459). -/
  | setEndpointId (eid : Nat)
  /-- GET_ENDPOINT_ID (R459). -/
  | getEndpointId
  /-- GET_MCTP_VERSION_SUPPORT (R459). -/
  | getMctpVersionSupport
  /-- GET_MESSAGE_TYPE_SUPPORT (R459). -/
  | getMessageTypeSupport
  /-- GPF_PHASE1 (R60). -/
  | gpfPhase1 (head : HeadIx)
  /-- GPF_PHASE2 (R60). -/
  | gpfPhase2 (head : HeadIx)
  /-- LINK_TRAIN (R314). -/
  | linkTrain (head : HeadIx) (t : TrainIn)
  /-- LINK_DOWN (R316). -/
  | linkDown (head : HeadIx) (perst : Bool)
  /-- CONV_SAT (R379). -/
  | convSat
  /-- UNSUPPORTED_OPCODE (R334). -/
  | unsupportedOpcode (fn : FnIx) (opcode : Nat)
  /-- TW0_OTHER_COMMAND_BYTE (R450). -/
  | tw0OtherCommandByte (b : Byte)
  /-- CRC_ERROR_WITH_REPLAY (R51). -/
  | crcErrorWithReplay (head : HeadIx)
  /-- CA_PARITY_ALERT (R575). -/
  | caParityAlert (sc : ScIx)
  /-- JTAG_INSTRUCTION (R580). -/
  | jtagInstruction (op : JtagOp)
  deriving DecidableEq, Repr

end Sys2Proof
end

