-- ==== Sys2Proof/Decode.lean ====
section
/-!
DEFINITION. Sys2Proof/Decode.lean: the command that a word spells by the bits of spec/opcode_table.json. No row of that
table gives bits: the block takes commands from its ports, and decodes no instruction words.
-/
namespace Sys2Proof

/-- The command spelled by `nbits` bits `w`: none, since no row of the table gives bits. -/
def decodeTableWord (_nbits _w : Nat) : Option Instr := none

end Sys2Proof
end

