-- ==== Sys2Proof/Config.lean ====
section
/-!
DEFINITION. Sys2Proof/Config.lean: what one device fixes and the values the spec leaves open. Each is a constant without
a body: nothing can be proved of its value, so a statement that mentions one holds for every value of it.
-/
namespace Sys2Proof

/-- The device serial number of DEV_SERIAL (Table 20.10): from OTP, unique to each device. -/
opaque Config.serial : BitVec 64

/-- The value of the n-th thing the spec leaves open in a run (a value it does not state, an undefined result). -/
opaque Config.freeNat : Nat → Nat

/-- The n-th draw of the random number generator as a number (R373): the spec gives its way of coming about, not its
value. -/
opaque Config.drawNat : Nat → Nat

/-- The CRC-32C fold of a unit's configuration words (R45): the spec names the polynomial and not the order of the fields
in the words. `which` is 0 for COMMON and 1 for OWN. -/
opaque Config.plumbFold (cls unit which : Nat) (words : List (Nat × BitVec 32)) : BitVec 32

/-- The frame of a superframe in which a unit folds a configuration word (R45): the spec gives it by the word's number and not
the numbers of the words. -/
opaque Config.foldFrame (cls unit off : Nat) : Nat

/-- The effect word of an opcode in the Command Effects Log (R334): the spec names the log and not its words. -/
opaque Config.effectWord (opcode : Nat) : Nat

/-- The physical block that a die's block map, as built from the factory marks, names for a block group and plane (R299), and
the n-th spare block that it lists for a plane: the spec leaves the choice to the die. -/
opaque Config.mapBlock (die band plane : Nat) : Nat
opaque Config.spareBlock (die plane n : Nat) : Nat

/-- The 480 bytes of LDPC parity of a codeword (R283): the matrix is fixed in silicon and the spec does not give it. -/
opaque Config.ldpcParity (info : List Byte) : List Byte

/-- The 16 check symbols of a line's codeword from its 72 information symbols (R258): the spec gives the field and not the
generator's roots. -/
opaque Config.rsCheck (info : List Byte) : List Byte

/-- AES-256 of one block (FIPS 197). Keys are held as where they came from, so that the cipher of one is not evaluated. -/
opaque Config.aes256 (key : Key) (block : BitVec 128) : BitVec 128

/-- Plaintext block j of the ledger unit with a nonce (R190, R191): the spec does not lay the unit's bytes out. -/
opaque Config.ledgerBlock (iv : BitVec 96) (j : Nat) : BitVec 128

end Sys2Proof
end

