-- ==== Sys2Proof/Machine/Sparse.lean ====
section
/-!
DEFINITION. Sys2Proof/Machine/Sparse.lean: a finite map held as one list of (key, value) pairs in a canonical form: keys
strictly rising, and no entry whose value is what an unlisted key reads as. Equal maps are then equal lists. Registers,
memory, patch states and every repeated unit of the block are held so.
-/
namespace Sys2Proof.Machine

/-- The list form of a finite map with a default. -/
abbrev Sparse (α : Type) := List (Nat × α)

/-- What a map lists at a key, if it lists it. -/
def sparseFind {α : Type} : Sparse α → Nat → Option α
  | [], _ => none
  | (k, v) :: rest, key => if k = key then some v else sparseFind rest key

/-- What a map reads as at a key, with `d` for an unlisted one. -/
def sparseGet {α : Type} (d : α) (m : Sparse α) (key : Nat) : α := (sparseFind m key).getD d

/-- The map without a key. -/
def sparseErase {α : Type} : Sparse α → Nat → Sparse α
  | [], _ => []
  | (k, v) :: rest, key => if k = key then sparseErase rest key else (k, v) :: sparseErase rest key

/-- Places an entry before the first greater key. -/
def sparsePlace {α : Type} : Sparse α → Nat → α → Sparse α
  | [], key, v => [(key, v)]
  | (k, w) :: rest, key, v => if key < k then (key, v) :: (k, w) :: rest else (k, w) :: sparsePlace rest key v

/-- The map with a key's value changed; a value equal to the default is not listed. -/
def sparseSet {α : Type} [DecidableEq α] (d : α) (m : Sparse α) (key : Nat) (v : α) : Sparse α :=
  if v = d then sparseErase m key else sparsePlace (sparseErase m key) key v

/-- A map changed at one key by a function. -/
def sparseUpd {α : Type} [DecidableEq α] (d : α) (m : Sparse α) (key : Nat) (f : α → α) : Sparse α :=
  sparseSet d m key (f (sparseGet d m key))

/-- Keys strictly rising from `lo`. -/
def sparseRising {α : Type} (lo : Nat) : Sparse α → Bool
  | [] => true
  | (k, _) :: rest => decide (lo ≤ k) && sparseRising (k + 1) rest

/-- The canonical form: keys strictly rising, no entry at its default. -/
def sparseWf {α : Type} [DecidableEq α] (d : Nat → α) (m : Sparse α) : Bool :=
  sparseRising 0 m && m.all (fun e => decide (e.2 ≠ d e.1))

/-- A set of numbers held as a strictly rising list. -/
def setInsert : List Nat → Nat → List Nat
  | [], n => [n]
  | m :: rest, n => if n < m then n :: m :: rest else if n = m then m :: rest else m :: setInsert rest n

/-- A set without a number. -/
def setErase (l : List Nat) (n : Nat) : List Nat := l.filter (fun m => m ≠ n)

/-- The i-th entry of a list replaced by a function of itself. -/
def listUpd {α : Type} : List α → Nat → (α → α) → List α
  | [], _, _ => []
  | a :: rest, 0, f => f a :: rest
  | a :: rest, n + 1, f => a :: listUpd rest n f

end Sys2Proof.Machine
end

