-- ==== Sys2Proof/Machine/RegMap.lean ====
section
/-!
DEFINITION. Sys2Proof/Machine/RegMap.lean: every register of Tables 20.13 and 20.14 (R572), written out from the register
tables of the chapters: offset, fields, access types (Table 0.6) and reset values; and one name for every field.
Reserved fields (R3) are the bits no field covers.
-/
namespace Sys2Proof.Machine

/-- One field of a register: the register's control-space offset and the field's bits. -/
structure Fld where
  off   : Nat
  lo    : Nat
  width : Nat
  deriving DecidableEq, Repr

/-- The access types of Table 0.6 (R4). -/
inductive Acc where
  | ro | rw | rw1c | wo | rws | rwl
  deriving DecidableEq, Repr

/-- A field as a register table lists it: lowest bit, width, access type, reset value. -/
structure FieldDef where
  lo    : Nat
  width : Nat
  acc   : Acc
  reset : Nat
  deriving DecidableEq, Repr

/-- What kind of unit repeats a register (Tables 20.2 and 20.3). -/
inductive UnitKind where
  | ctl | quadrant | sc | fc | die | pair | ldpc | head | ld | rail | tw
  deriving DecidableEq, Repr

/-- One register of Tables 20.13 and 20.14: its name, the units that repeat it, its offset in the unit's block, the
arrays (count, stride) it forms there, and its fields. -/
structure RegDef where
  name   : String
  kind   : UnitKind
  off    : Nat
  arrays : List (Nat × Nat)
  fields : List FieldDef
  deriving DecidableEq, Repr

/-! ## Block bases (Tables 20.2, 20.3 and 20.13; index rules of Table 1.4) -/

def qdBase (q : Nat) : Nat := 0x200000 + 0x40000 * q
def scBase (n : Nat) : Nat := qdBase (n / 4) + 0x10000 + 0x4000 * (n % 4)
def fcBase (n : Nat) : Nat := qdBase (n / 4) + 0x20000 + 0x4000 * (n % 4)
def dieBase (n : Nat) : Nat := qdBase (n / 32) + 0x30000 + 0x100 * (n % 32)
def pairBase (n : Nat) : Nat := qdBase (n / 13) + 0x34000 + 0x100 * (n % 13)
def ldpcBase (n : Nat) : Nat := qdBase (n / 5) + 0x36000 + 0x100 * (n % 5)
def headBase (h : Nat) : Nat := 0x080000 + 0x100 * h
def ldBase (k : Nat) : Nat := 0x081000 + 0x20 * k
def railBase (k : Nat) : Nat := 0x061000 + 0x20 * k
/-- TW1 to TW4 are segments 1 to 4. -/
def twBase (k : Nat) : Nat := 0x070000 + 0x100 * k

/-- How many units of a kind there are, and the first unit's number (Table 1.4). -/
def UnitKind.units : UnitKind → List Nat
  | .ctl => [0] | .quadrant => List.range 4 | .sc => List.range 16 | .fc => List.range 16 | .die => List.range 128
  | .pair => List.range 52 | .ldpc => List.range 20 | .head => List.range 2 | .ld => List.range 16
  | .rail => List.range 32 | .tw => [1, 2, 3, 4]

/-- Where a unit's block of registers starts. -/
def UnitKind.base : UnitKind → Nat → Nat
  | .ctl, _ => 0 | .quadrant, n => qdBase n | .sc, n => scBase n | .fc, n => fcBase n | .die, n => dieBase n
  | .pair, n => pairBase n | .ldpc, n => ldpcBase n | .head, n => headBase n | .ld, n => ldBase n
  | .rail, n => railBase n | .tw, n => twBase n

/-! ## The register tables -/

/-- Registers of the identity and global block (Tables 20.7 to 20.10). -/
def regsGlobal : List RegDef := [
  ⟨"DEV_ID", .ctl, 0x000000, [],
    [⟨0, 16, .ro, 18528⟩, ⟨16, 16, .ro, 21334⟩]⟩,
  ⟨"DEV_STEPPING", .ctl, 0x000004, [],
    [⟨0, 4, .ro, 0⟩, ⟨4, 4, .ro, 1⟩, ⟨8, 8, .ro, 1⟩]⟩,
  ⟨"DEV_STATE", .ctl, 0x000008, [],
    [⟨0, 3, .ro, 1⟩, ⟨3, 1, .ro, 0⟩, ⟨4, 1, .ro, 0⟩, ⟨5, 2, .ro, 0⟩, ⟨7, 1, .ro, 0⟩, ⟨8, 1, .ro, 0⟩, ⟨9, 1, .ro, 0⟩, ⟨10, 1, .ro, 0⟩, ⟨11, 1, .ro, 0⟩, ⟨12, 1, .ro, 0⟩]⟩,
  ⟨"DEV_SERIAL_LO", .ctl, 0x00000C, [],
    [⟨0, 32, .ro, 0⟩]⟩,
  ⟨"DEV_SERIAL_HI", .ctl, 0x000010, [],
    [⟨0, 32, .ro, 0⟩]⟩,
  ⟨"DEV_POP", .ctl, 0x000014, [],
    [⟨0, 16, .ro, 0⟩, ⟨16, 8, .ro, 0⟩, ⟨24, 6, .ro, 0⟩]⟩,
  ⟨"TIME_NS_LO", .ctl, 0x000018, [],
    [⟨0, 32, .ro, 0⟩]⟩,
  ⟨"TIME_NS_HI", .ctl, 0x00001C, [],
    [⟨0, 32, .ro, 0⟩]⟩,
  ⟨"FRAME_NUM_LO", .ctl, 0x000020, [],
    [⟨0, 32, .ro, 0⟩]⟩,
  ⟨"FRAME_NUM_HI", .ctl, 0x000024, [],
    [⟨0, 22, .ro, 0⟩]⟩,
  ⟨"DEV_ACCESS", .ctl, 0x000030, [],
    [⟨0, 1, .rw1c, 0⟩, ⟨1, 1, .rw1c, 0⟩, ⟨2, 1, .rw1c, 0⟩, ⟨3, 1, .rw1c, 0⟩, ⟨8, 24, .ro, 0⟩]⟩,
  ⟨"DEV_SCRATCH", .ctl, 0x000040, [],
    [⟨0, 32, .rw, 0⟩]⟩]

/-- Registers of the tick, broadcast, epoch and Plumb block (Tables 2.1 to 2.12, 20.11). -/
def regsTick : List RegDef := [
  ⟨"TICK_STATUS", .ctl, 0x010000, [],
    [⟨0, 1, .ro, 1⟩, ⟨1, 1, .ro, 1⟩, ⟨2, 1, .rw1c, 0⟩, ⟨3, 1, .rw1c, 0⟩, ⟨8, 16, .ro, 0⟩, ⟨31, 1, .wo, 0⟩]⟩,
  ⟨"BCAST_QMASK", .ctl, 0x010100, [],
    [⟨0, 4, .rw, 15⟩]⟩,
  ⟨"BCAST_SCMASK", .ctl, 0x010104, [],
    [⟨0, 4, .rw, 15⟩]⟩,
  ⟨"BCAST_FCMASK", .ctl, 0x010108, [],
    [⟨0, 4, .rw, 15⟩]⟩,
  ⟨"BCAST_STATUS", .ctl, 0x01010C, [],
    [⟨0, 1, .rw1c, 0⟩, ⟨1, 1, .rw1c, 0⟩, ⟨4, 8, .ro, 0⟩]⟩,
  ⟨"EPOCH_TARGET", .ctl, 0x010200, [],
    [⟨0, 32, .rw, 0⟩]⟩,
  ⟨"EPOCH_COMMIT", .ctl, 0x010204, [],
    [⟨0, 16, .wo, 0⟩]⟩,
  ⟨"EPOCH_STATUS", .ctl, 0x010208, [],
    [⟨0, 16, .ro, 0⟩, ⟨16, 1, .ro, 0⟩, ⟨17, 7, .ro, 0⟩, ⟨24, 3, .ro, 0⟩]⟩,
  ⟨"EPOCH_CLASS", .ctl, 0x010240, [(12, 4)],
    [⟨0, 16, .ro, 0⟩, ⟨16, 1, .ro, 1⟩, ⟨24, 8, .ro, 255⟩]⟩,
  ⟨"PLUMB_STATUS", .ctl, 0x010300, [],
    [⟨0, 1, .rw1c, 0⟩, ⟨1, 1, .ro, 0⟩, ⟨2, 1, .rw1c, 0⟩, ⟨8, 4, .ro, 0⟩, ⟨12, 8, .ro, 0⟩]⟩,
  ⟨"PLUMB_FP_LO", .ctl, 0x010308, [],
    [⟨0, 32, .ro, 0⟩]⟩,
  ⟨"PLUMB_FP_HI", .ctl, 0x01030C, [],
    [⟨0, 32, .ro, 0⟩]⟩,
  ⟨"PLUMB_SEL", .ctl, 0x010310, [],
    [⟨0, 4, .rw, 0⟩, ⟨4, 8, .rw, 0⟩, ⟨12, 2, .rw, 0⟩]⟩,
  ⟨"PLUMB_DATA", .ctl, 0x010314, [],
    [⟨0, 32, .ro, 0⟩]⟩]

/-- Registers of the event collector (Tables 16.15 to 16.22). -/
def regsEvent : List RegDef := [
  ⟨"EVT_CTRL", .ctl, 0x020000, [],
    [⟨0, 1, .wo, 0⟩, ⟨1, 1, .wo, 0⟩, ⟨2, 1, .wo, 0⟩, ⟨4, 3, .rws, 1⟩]⟩,
  ⟨"EVT_STATUS", .ctl, 0x020004, [],
    [⟨0, 1, .ro, 0⟩, ⟨1, 1, .rw1c, 0⟩, ⟨2, 1, .rw1c, 0⟩, ⟨3, 1, .ro, 0⟩, ⟨4, 1, .rw1c, 0⟩, ⟨5, 1, .rw1c, 0⟩, ⟨8, 3, .ro, 0⟩, ⟨16, 9, .ro, 0⟩]⟩,
  ⟨"EVT_FIRST_W0", .ctl, 0x020010, [],
    [⟨0, 32, .ro, 0⟩]⟩,
  ⟨"EVT_FIRST_W1", .ctl, 0x020014, [],
    [⟨0, 32, .ro, 0⟩]⟩,
  ⟨"EVT_FIRST_W2", .ctl, 0x020018, [],
    [⟨0, 32, .ro, 0⟩]⟩,
  ⟨"EVT_FIRST_W3", .ctl, 0x02001C, [],
    [⟨0, 32, .ro, 0⟩]⟩,
  ⟨"EVT_FIRST_TIME_HI", .ctl, 0x020020, [],
    [⟨0, 32, .ro, 0⟩]⟩,
  ⟨"EVT_NEXT_W0", .ctl, 0x020030, [],
    [⟨0, 32, .ro, 0⟩]⟩,
  ⟨"EVT_NEXT_W1", .ctl, 0x020034, [],
    [⟨0, 32, .ro, 0⟩]⟩,
  ⟨"EVT_NEXT_W2", .ctl, 0x020038, [],
    [⟨0, 32, .ro, 0⟩]⟩,
  ⟨"EVT_NEXT_W3", .ctl, 0x02003C, [],
    [⟨0, 32, .ro, 0⟩]⟩,
  ⟨"EVT_NEXT_TIME_HI", .ctl, 0x020040, [],
    [⟨0, 32, .ro, 0⟩]⟩,
  ⟨"EVT_FIRST_INFO", .ctl, 0x020024, [],
    [⟨0, 1, .ro, 0⟩, ⟨1, 1, .ro, 0⟩, ⟨2, 3, .ro, 0⟩, ⟨8, 3, .ro, 0⟩]⟩,
  ⟨"EVT_NEXT_INFO", .ctl, 0x020044, [],
    [⟨0, 1, .ro, 0⟩, ⟨1, 1, .ro, 0⟩, ⟨2, 3, .ro, 0⟩, ⟨8, 3, .ro, 0⟩]⟩,
  ⟨"EVT_DROPPED", .ctl, 0x020050, [],
    [⟨0, 32, .ro, 0⟩]⟩,
  ⟨"EVT_NEXT_LOST", .ctl, 0x020054, [],
    [⟨0, 32, .ro, 0⟩]⟩,
  ⟨"EVT_SFG_STATUS", .ctl, 0x020070, [],
    [⟨0, 1, .ro, 0⟩, ⟨1, 1, .ro, 0⟩, ⟨2, 1, .ro, 0⟩, ⟨3, 1, .ro, 0⟩, ⟨4, 1, .ro, 0⟩, ⟨5, 1, .ro, 0⟩, ⟨6, 1, .ro, 0⟩, ⟨7, 1, .ro, 0⟩, ⟨8, 1, .ro, 0⟩]⟩,
  ⟨"EVT_CFG", .ctl, 0x021000, [(1280, 4)],
    [⟨0, 1, .rws, 1⟩, ⟨1, 1, .rws, 1⟩, ⟨2, 1, .rws, 1⟩, ⟨3, 1, .rws, 0⟩, ⟨4, 1, .rws, 0⟩, ⟨5, 1, .rws, 0⟩, ⟨6, 1, .rws, 0⟩, ⟨8, 3, .rws, 3⟩]⟩,
  ⟨"EVT_COUNT", .ctl, 0x023000, [(1280, 4)],
    [⟨0, 16, .ro, 0⟩, ⟨16, 3, .ro, 0⟩]⟩]

/-- Registers of the persistence contract and life cycle (Tables 3.8 to 3.12, 19.9, 19.10). -/
def regsPers : List RegDef := [
  ⟨"PERS_STATUS", .ctl, 0x030000, [],
    [⟨0, 1, .ro, 0⟩, ⟨1, 1, .ro, 0⟩, ⟨2, 1, .ro, 0⟩, ⟨3, 1, .ro, 0⟩, ⟨4, 2, .ro, 0⟩, ⟨6, 1, .ro, 0⟩, ⟨7, 1, .ro, 0⟩]⟩,
  ⟨"PERS_DSC", .ctl, 0x030004, [],
    [⟨0, 32, .ro, 0⟩]⟩,
  ⟨"PERS_LAST_SHUTDOWN", .ctl, 0x030008, [],
    [⟨0, 4, .ro, 0⟩, ⟨4, 1, .ro, 0⟩, ⟨5, 1, .ro, 0⟩, ⟨6, 1, .ro, 0⟩]⟩,
  ⟨"PERS_LAST_SHUTDOWN_TIME_LO", .ctl, 0x03000C, [],
    [⟨0, 32, .ro, 0⟩]⟩,
  ⟨"PERS_LAST_SHUTDOWN_TIME_HI", .ctl, 0x030010, [],
    [⟨0, 32, .ro, 0⟩]⟩,
  ⟨"PERS_GPF", .ctl, 0x030014, [],
    [⟨0, 16, .rwl, 20⟩, ⟨16, 16, .rwl, 68⟩]⟩,
  ⟨"PERS_OFF", .ctl, 0x030018, [],
    [⟨0, 1, .ro, 0⟩, ⟨1, 1, .ro, 0⟩, ⟨2, 1, .rw1c, 0⟩, ⟨3, 1, .wo, 0⟩, ⟨8, 8, .rws, 30⟩, ⟨16, 3, .ro, 0⟩]⟩,
  ⟨"PERS_START", .ctl, 0x03001C, [],
    [⟨0, 1, .ro, 0⟩, ⟨1, 2, .ro, 0⟩, ⟨4, 12, .ro, 0⟩, ⟨16, 12, .ro, 0⟩]⟩]

/-- Registers of exposure, skim and wear (Tables 4.5 to 4.23). -/
def regsExpo : List RegDef := [
  ⟨"EXPO_CUR", .ctl, 0x030100, [],
    [⟨0, 32, .ro, 0⟩]⟩,
  ⟨"EXPO_BUDGET", .ctl, 0x030104, [],
    [⟨0, 32, .ro, 0⟩]⟩,
  ⟨"EXPO_MAX", .ctl, 0x030108, [],
    [⟨0, 11, .rws, 64⟩]⟩,
  ⟨"EXPO_FLOOR", .ctl, 0x03010C, [],
    [⟨0, 11, .rwl, 4⟩]⟩,
  ⟨"EXPO_HOLDUP", .ctl, 0x030110, [],
    [⟨0, 20, .rwl, 2048⟩]⟩,
  ⟨"EXPO_SAVES", .ctl, 0x030114, [],
    [⟨0, 3, .rwl, 2⟩]⟩,
  ⟨"EXPO_LEVEL", .ctl, 0x030118, [],
    [⟨0, 2, .ro, 0⟩, ⟨2, 2, .ro, 0⟩, ⟨4, 8, .ro, 0⟩, ⟨12, 1, .ro, 0⟩]⟩,
  ⟨"EXPO_THROTTLE", .ctl, 0x03011C, [],
    [⟨0, 8, .rws, 224⟩]⟩,
  ⟨"EXPO_STALL_FRAMES", .ctl, 0x030120, [],
    [⟨0, 32, .ro, 0⟩]⟩,
  ⟨"EXPO_Q", .ctl, 0x030130, [(4, 4)],
    [⟨0, 32, .ro, 0⟩]⟩,
  ⟨"SKIM_CTRL", .ctl, 0x030200, [],
    [⟨0, 1, .rws, 1⟩]⟩,
  ⟨"SKIM_SETTING_TIME", .ctl, 0x030204, [],
    [⟨0, 16, .rws, 64⟩]⟩,
  ⟨"SKIM_MAX", .ctl, 0x030208, [],
    [⟨0, 10, .rws, 80⟩]⟩,
  ⟨"SKIM_RATE", .ctl, 0x03020C, [],
    [⟨0, 16, .ro, 0⟩, ⟨16, 1, .ro, 0⟩]⟩,
  ⟨"SKIM_PATCHES_LO", .ctl, 0x030210, [],
    [⟨0, 32, .ro, 0⟩]⟩,
  ⟨"SKIM_PATCHES_HI", .ctl, 0x030214, [],
    [⟨0, 32, .ro, 0⟩]⟩,
  ⟨"SKIM_SUPERSEDED", .ctl, 0x030218, [],
    [⟨0, 32, .ro, 0⟩]⟩,
  ⟨"SKIM_Q", .ctl, 0x030240, [(4, 4)],
    [⟨0, 14, .ro, 0⟩, ⟨14, 1, .ro, 0⟩, ⟨15, 1, .ro, 0⟩, ⟨16, 1, .ro, 0⟩]⟩,
  ⟨"WEAR_LIFE_TARGET", .ctl, 0x030300, [],
    [⟨0, 13, .rws, 2557⟩]⟩,
  ⟨"WEAR_CREDIT_MAX", .ctl, 0x030304, [],
    [⟨0, 16, .rws, 1⟩]⟩,
  ⟨"WEAR_DEBT_WARN", .ctl, 0x030308, [],
    [⟨0, 16, .rws, 256⟩]⟩,
  ⟨"WEAR_STATUS", .ctl, 0x03030C, [],
    [⟨0, 1, .ro, 0⟩, ⟨1, 1, .ro, 0⟩, ⟨2, 1, .ro, 0⟩, ⟨3, 1, .ro, 0⟩]⟩,
  ⟨"WEAR_ALLOW", .ctl, 0x030340, [(4, 4)],
    [⟨0, 32, .ro, 0⟩]⟩,
  ⟨"WEAR_ACCOUNT", .ctl, 0x030350, [(4, 4)],
    [⟨0, 32, .ro, 0⟩]⟩,
  ⟨"WEAR_PROGRAMMED_LO", .ctl, 0x030360, [(4, 8)],
    [⟨0, 32, .ro, 0⟩]⟩,
  ⟨"WEAR_PROGRAMMED_HI", .ctl, 0x030364, [(4, 8)],
    [⟨0, 32, .ro, 0⟩]⟩]

/-- Registers of save, restore, image, ledger and garbage collection (Tables 5.7 to 7.16). -/
def regsSave : List RegDef := [
  ⟨"SAVE_CTRL", .ctl, 0x030400, [],
    [⟨0, 1, .rwl, 1⟩, ⟨1, 1, .rwl, 1⟩, ⟨2, 1, .rwl, 1⟩, ⟨3, 1, .rwl, 0⟩]⟩,
  ⟨"SAVE_VIN", .ctl, 0x030404, [],
    [⟨0, 11, .rwl, 900⟩, ⟨16, 7, .rwl, 25⟩]⟩,
  ⟨"SAVE_STATUS", .ctl, 0x030408, [],
    [⟨0, 4, .ro, 0⟩, ⟨4, 4, .ro, 0⟩, ⟨8, 7, .ro, 0⟩, ⟨15, 1, .ro, 0⟩, ⟨16, 1, .ro, 0⟩, ⟨17, 1, .ro, 0⟩, ⟨18, 1, .rw1c, 0⟩]⟩,
  ⟨"SAVE_TOKENS", .ctl, 0x03040C, [],
    [⟨0, 8, .ro, 0⟩, ⟨8, 4, .ro, 0⟩, ⟨16, 8, .ro, 0⟩]⟩,
  ⟨"SAVE_P_BASE", .ctl, 0x030410, [],
    [⟨0, 12, .rwl, 440⟩]⟩,
  ⟨"SAVE_P_DIE", .ctl, 0x030414, [],
    [⟨0, 11, .rwl, 230⟩]⟩,
  ⟨"SAVE_R_DIE", .ctl, 0x030418, [],
    [⟨0, 11, .rwl, 390⟩]⟩,
  ⟨"SAVE_E_FIXED", .ctl, 0x03041C, [],
    [⟨0, 8, .rwl, 12⟩]⟩,
  ⟨"SAVE_POWER", .ctl, 0x030420, [],
    [⟨0, 8, .rwl, 32⟩, ⟨16, 12, .rwl, 0⟩]⟩,
  ⟨"SAVE_LAST_DURATION", .ctl, 0x030430, [],
    [⟨0, 32, .ro, 0⟩]⟩,
  ⟨"SAVE_LAST_PATCHES", .ctl, 0x030434, [],
    [⟨0, 32, .ro, 0⟩]⟩,
  ⟨"SAVE_LAST_ENERGY", .ctl, 0x030438, [],
    [⟨0, 32, .ro, 0⟩]⟩,
  ⟨"SAVE_LAST_PP", .ctl, 0x03043C, [],
    [⟨0, 8, .ro, 0⟩, ⟨8, 8, .ro, 0⟩]⟩,
  ⟨"SAVE_Q", .ctl, 0x030440, [(4, 4)],
    [⟨0, 24, .ro, 0⟩, ⟨24, 6, .ro, 0⟩]⟩,
  ⟨"RESTORE_CTRL", .ctl, 0x030500, [],
    [⟨0, 1, .rws, 1⟩, ⟨1, 1, .rws, 1⟩, ⟨8, 8, .rws, 120⟩]⟩,
  ⟨"RESTORE_STATUS", .ctl, 0x030504, [],
    [⟨0, 3, .ro, 0⟩, ⟨4, 4, .ro, 0⟩, ⟨8, 2, .ro, 0⟩, ⟨12, 4, .ro, 0⟩]⟩,
  ⟨"RESTORE_Q", .ctl, 0x030510, [(4, 4)],
    [⟨0, 25, .ro, 0⟩, ⟨25, 4, .ro, 0⟩]⟩,
  ⟨"RESTORE_LOAD", .ctl, 0x030520, [],
    [⟨0, 12, .ro, 0⟩, ⟨12, 8, .ro, 0⟩, ⟨20, 12, .ro, 0⟩]⟩,
  ⟨"RESTORE_FI_COUNT", .ctl, 0x030530, [],
    [⟨0, 32, .ro, 0⟩]⟩,
  ⟨"RESTORE_FI_MAX_US", .ctl, 0x030534, [],
    [⟨0, 32, .ro, 0⟩]⟩,
  ⟨"RESTORE_FI_SLOT_WAITS", .ctl, 0x030538, [],
    [⟨0, 32, .ro, 0⟩]⟩,
  ⟨"RESTORE_FI_FAILED", .ctl, 0x03053C, [],
    [⟨0, 32, .ro, 0⟩]⟩,
  ⟨"HEAL_WAIT", .ctl, 0x030600, [],
    [⟨0, 10, .rws, 100⟩]⟩,
  ⟨"HEAL_COUNT_IN_TIME", .ctl, 0x030608, [],
    [⟨0, 32, .ro, 0⟩]⟩,
  ⟨"HEAL_COUNT_LATE", .ctl, 0x03060C, [],
    [⟨0, 32, .ro, 0⟩]⟩,
  ⟨"HEAL_COUNT_POISON", .ctl, 0x030610, [],
    [⟨0, 32, .ro, 0⟩]⟩,
  ⟨"HEAL_COUNT_FAILED", .ctl, 0x030614, [],
    [⟨0, 32, .ro, 0⟩]⟩,
  ⟨"IMG_GEOM", .ctl, 0x030700, [],
    [⟨0, 12, .rwl, 576⟩]⟩,
  ⟨"IMG_STRIPE", .ctl, 0x030704, [],
    [⟨0, 8, .rws, 32⟩]⟩,
  ⟨"IMG_STATUS", .ctl, 0x030708, [],
    [⟨0, 24, .ro, 0⟩, ⟨24, 7, .ro, 0⟩, ⟨31, 1, .ro, 0⟩]⟩,
  ⟨"IMG_COUNT_FILLER", .ctl, 0x030710, [],
    [⟨0, 32, .ro, 0⟩]⟩,
  ⟨"IMG_COUNT_EARLY_CLOSE", .ctl, 0x030714, [],
    [⟨0, 32, .ro, 0⟩]⟩,
  ⟨"IMG_COUNT_REBUILD", .ctl, 0x030718, [],
    [⟨0, 32, .ro, 0⟩]⟩,
  ⟨"IMG_COUNT_LOST", .ctl, 0x03071C, [],
    [⟨0, 32, .ro, 0⟩]⟩,
  ⟨"IMG_PATROL", .ctl, 0x030720, [],
    [⟨0, 8, .rws, 7⟩, ⟨8, 8, .ro, 0⟩, ⟨16, 16, .ro, 0⟩]⟩,
  ⟨"LEDGER_CTRL", .ctl, 0x030800, [],
    [⟨0, 8, .rws, 16⟩]⟩,
  ⟨"LEDGER_RECORD_SEQ_LO", .ctl, 0x030808, [],
    [⟨0, 32, .ro, 0⟩]⟩,
  ⟨"LEDGER_RECORD_SEQ_HI", .ctl, 0x03080C, [],
    [⟨0, 32, .ro, 0⟩]⟩,
  ⟨"GC_CTRL", .ctl, 0x030900, [],
    [⟨0, 8, .rwl, 40⟩, ⟨8, 8, .rwl, 20⟩]⟩,
  ⟨"GC_STATUS", .ctl, 0x030904, [],
    [⟨0, 8, .ro, 0⟩, ⟨8, 3, .ro, 0⟩, ⟨11, 1, .ro, 0⟩, ⟨12, 1, .ro, 0⟩]⟩]

/-- Registers of cipher and keys (Tables 12.8 to 12.12). -/
def regsKey : List RegDef := [
  ⟨"CIPH_CTRL_STATUS", .ctl, 0x040000, [],
    [⟨0, 1, .ro, 0⟩, ⟨1, 1, .ro, 1⟩, ⟨2, 1, .ro, 0⟩, ⟨8, 6, .ro, 0⟩, ⟨14, 2, .ro, 0⟩]⟩,
  ⟨"CIPH_CTRL_COUNT", .ctl, 0x040004, [],
    [⟨0, 32, .ro, 0⟩]⟩,
  ⟨"CIPH_CTRL_SUSPENDS", .ctl, 0x040008, [],
    [⟨0, 32, .ro, 0⟩]⟩,
  ⟨"KEY_STATUS", .ctl, 0x040010, [],
    [⟨0, 2, .ro, 0⟩, ⟨2, 1, .ro, 0⟩, ⟨3, 1, .ro, 0⟩, ⟨8, 8, .ro, 0⟩]⟩,
  ⟨"KEY_SLOT", .ctl, 0x040100, [(64, 4)],
    [⟨0, 2, .ro, 0⟩, ⟨2, 2, .ro, 0⟩, ⟨4, 1, .ro, 0⟩, ⟨5, 7, .ro, 0⟩, ⟨16, 16, .ro, 0⟩]⟩,
  ⟨"KEY_USAGE", .ctl, 0x040200, [(64, 4)],
    [⟨0, 32, .ro, 0⟩]⟩]

/-- Registers of gauge and pack (Tables 13.10 to 13.26). -/
def regsGauge : List RegDef := [
  ⟨"GAUGE_STATUS", .ctl, 0x050000, [],
    [⟨0, 1, .ro, 0⟩, ⟨1, 1, .ro, 0⟩, ⟨2, 1, .ro, 0⟩, ⟨3, 1, .ro, 0⟩, ⟨4, 1, .rw1c, 0⟩, ⟨5, 2, .ro, 0⟩, ⟨7, 1, .ro, 0⟩, ⟨8, 1, .ro, 0⟩]⟩,
  ⟨"GAUGE_CHARGE_LO", .ctl, 0x050004, [],
    [⟨0, 32, .ro, 0⟩]⟩,
  ⟨"GAUGE_CHARGE_HI", .ctl, 0x050008, [],
    [⟨0, 16, .ro, 0⟩]⟩,
  ⟨"GAUGE_MEAS", .ctl, 0x05000C, [],
    [⟨0, 16, .ro, 0⟩, ⟨16, 8, .ro, 0⟩, ⟨24, 8, .ro, 0⟩]⟩,
  ⟨"GAUGE_CELLS", .ctl, 0x050010, [],
    [⟨0, 16, .ro, 0⟩, ⟨16, 16, .ro, 0⟩]⟩,
  ⟨"GAUGE_SOC", .ctl, 0x050014, [],
    [⟨0, 16, .ro, 0⟩, ⟨16, 16, .ro, 0⟩]⟩,
  ⟨"GAUGE_FCC", .ctl, 0x050018, [],
    [⟨0, 16, .ro, 0⟩, ⟨16, 16, .rwl, 1100⟩]⟩,
  ⟨"GAUGE_EAVAIL", .ctl, 0x05001C, [],
    [⟨0, 32, .ro, 0⟩]⟩,
  ⟨"GAUGE_PMAX", .ctl, 0x050020, [],
    [⟨0, 16, .ro, 0⟩]⟩,
  ⟨"GAUGE_LIMITS", .ctl, 0x050024, [],
    [⟨0, 6, .rwl, 10⟩, ⟨16, 13, .rwl, 3300⟩]⟩,
  ⟨"GAUGE_CFG", .ctl, 0x050028, [],
    [⟨0, 12, .rwl, 600⟩, ⟨12, 4, .rwl, 5⟩, ⟨16, 8, .rwl, 30⟩]⟩,
  ⟨"GAUGE_SHUNT", .ctl, 0x05002C, [],
    [⟨0, 16, .rwl, 1000⟩]⟩,
  ⟨"GAUGE_SYNC", .ctl, 0x050030, [],
    [⟨0, 16, .ro, 0⟩, ⟨16, 8, .ro, 0⟩, ⟨24, 8, .ro, 0⟩]⟩,
  ⟨"GAUGE_TBL_SEL", .ctl, 0x050034, [],
    [⟨0, 7, .rw, 0⟩, ⟨7, 2, .rw, 0⟩, ⟨9, 1, .rw, 0⟩]⟩,
  ⟨"GAUGE_TBL_DATA", .ctl, 0x050038, [],
    [⟨0, 16, .ro, 0⟩]⟩,
  ⟨"PACK_STATE", .ctl, 0x050100, [],
    [⟨0, 3, .ro, 0⟩, ⟨4, 4, .ro, 0⟩, ⟨8, 1, .ro, 0⟩, ⟨9, 1, .ro, 0⟩, ⟨10, 1, .ro, 0⟩, ⟨11, 1, .ro, 0⟩]⟩,
  ⟨"PACK_CFG", .ctl, 0x050104, [],
    [⟨0, 7, .rwl, 80⟩, ⟨8, 7, .rwl, 44⟩, ⟨15, 1, .rwl, 1⟩, ⟨16, 1, .rwl, 1⟩]⟩,
  ⟨"PACK_CHG", .ctl, 0x050108, [],
    [⟨0, 8, .rwl, 55⟩, ⟨8, 7, .rwl, 97⟩, ⟨16, 4, .rwl, 0⟩, ⟨20, 4, .rwl, 9⟩, ⟨24, 8, .rwl, 240⟩]⟩,
  ⟨"PACK_CYCLES", .ctl, 0x05010C, [],
    [⟨0, 16, .ro, 0⟩]⟩,
  ⟨"PACK_SERIAL_LO", .ctl, 0x050110, [],
    [⟨0, 32, .ro, 0⟩]⟩,
  ⟨"PACK_SERIAL_HI", .ctl, 0x050114, [],
    [⟨0, 32, .ro, 0⟩]⟩,
  ⟨"LEARN_CFG", .ctl, 0x050200, [],
    [⟨0, 8, .rws, 90⟩, ⟨8, 8, .rws, 45⟩, ⟨16, 8, .rws, 240⟩, ⟨24, 7, .rwl, 60⟩]⟩,
  ⟨"LEARN_STATUS", .ctl, 0x050204, [],
    [⟨0, 2, .ro, 0⟩, ⟨2, 1, .ro, 0⟩, ⟨4, 3, .ro, 0⟩, ⟨7, 1, .ro, 0⟩, ⟨8, 16, .ro, 0⟩]⟩,
  ⟨"LEARN_LAST_LO", .ctl, 0x050208, [],
    [⟨0, 32, .ro, 0⟩]⟩,
  ⟨"LEARN_LAST_HI", .ctl, 0x05020C, [],
    [⟨0, 32, .ro, 0⟩]⟩]

/-- Registers of the sequencer (Tables 14.11 to 14.18). -/
def regsSeq : List RegDef := [
  ⟨"SEQ_STATUS", .ctl, 0x060000, [],
    [⟨0, 3, .ro, 1⟩, ⟨3, 3, .ro, 0⟩, ⟨6, 1, .ro, 0⟩, ⟨7, 1, .ro, 0⟩, ⟨8, 1, .ro, 0⟩, ⟨9, 1, .ro, 0⟩, ⟨10, 1, .ro, 0⟩, ⟨11, 1, .ro, 0⟩, ⟨12, 1, .ro, 0⟩]⟩,
  ⟨"SEQ_CTRL", .ctl, 0x060004, [],
    [⟨0, 1, .rwl, 1⟩, ⟨1, 1, .wo, 0⟩, ⟨2, 1, .wo, 0⟩]⟩,
  ⟨"SEQ_TIMING", .ctl, 0x060008, [],
    [⟨0, 8, .rwl, 10⟩, ⟨8, 8, .rwl, 50⟩, ⟨16, 8, .rwl, 2⟩, ⟨24, 8, .rwl, 64⟩]⟩,
  ⟨"SEQ_BTN", .ctl, 0x06000C, [],
    [⟨0, 16, .ro, 0⟩, ⟨16, 8, .ro, 0⟩, ⟨24, 8, .ro, 0⟩]⟩,
  ⟨"SEQ_FIRST", .ctl, 0x060010, [],
    [⟨0, 5, .ro, 0⟩, ⟨5, 3, .ro, 0⟩, ⟨8, 6, .ro, 0⟩]⟩,
  ⟨"SEQ_FIRST_TIME_LO", .ctl, 0x060014, [],
    [⟨0, 32, .ro, 0⟩]⟩,
  ⟨"SEQ_FIRST_TIME_HI", .ctl, 0x060018, [],
    [⟨0, 32, .ro, 0⟩]⟩,
  ⟨"SEQ_LOG", .ctl, 0x06001C, [],
    [⟨0, 15, .ro, 0⟩, ⟨16, 16, .ro, 0⟩]⟩,
  ⟨"SEQ_GROUP", .ctl, 0x060100, [],
    [⟨0, 5, .rwl, 0⟩, ⟨8, 8, .rwl, 20⟩, ⟨16, 5, .rwl, 4⟩, ⟨21, 1, .rwl, 0⟩, ⟨22, 1, .rwl, 0⟩, ⟨23, 1, .rwl, 0⟩, ⟨24, 8, .rwl, 100⟩]⟩,
  ⟨"SEQ_GROUP_STATUS", .ctl, 0x060104, [],
    [⟨0, 6, .ro, 63⟩, ⟨6, 1, .ro, 0⟩, ⟨7, 1, .ro, 0⟩, ⟨8, 6, .ro, 0⟩, ⟨14, 6, .ro, 0⟩, ⟨20, 6, .ro, 63⟩, ⟨26, 1, .ro, 0⟩, ⟨27, 1, .ro, 0⟩, ⟨28, 1, .ro, 0⟩]⟩,
  ⟨"SEQ_MEMBERS", .ctl, 0x060108, [],
    [⟨0, 32, .ro, 0⟩]⟩]

/-- Registers of two-wire, heads, configuration and update (Tables 11.13, 15.11 to 15.15, 17.9 to 17.17, 18.5 to 18.10). -/
def regsTail : List RegDef := [
  ⟨"FAB_CTRL", .ctl, 0x080200, [],
    [⟨0, 10, .rws, 100⟩]⟩,
  ⟨"TW0_CFG", .ctl, 0x070000, [],
    [⟨0, 1, .rwl, 0⟩, ⟨1, 1, .rwl, 1⟩]⟩,
  ⟨"TW0_STATUS", .ctl, 0x070004, [],
    [⟨0, 7, .ro, 88⟩, ⟨7, 1, .ro, 0⟩, ⟨8, 1, .rw1c, 0⟩, ⟨9, 1, .rw1c, 0⟩, ⟨10, 1, .rw1c, 0⟩, ⟨11, 1, .rw1c, 0⟩, ⟨12, 1, .rw1c, 0⟩, ⟨16, 8, .ro, 0⟩]⟩,
  ⟨"TW0_PAGE", .ctl, 0x070008, [],
    [⟨0, 8, .rw, 0⟩]⟩,
  ⟨"TW0_AON_CMD", .ctl, 0x07000C, [],
    [⟨0, 1, .wo, 0⟩]⟩,
  ⟨"TW0_COUNT_MCTP_DROP", .ctl, 0x070010, [],
    [⟨0, 32, .ro, 0⟩]⟩,
  ⟨"CFG_STATUS", .ctl, 0x090000, [],
    [⟨0, 1, .ro, 0⟩, ⟨1, 1, .ro, 0⟩, ⟨2, 1, .ro, 0⟩, ⟨3, 1, .ro, 0⟩, ⟨4, 1, .ro, 0⟩, ⟨5, 3, .ro, 0⟩, ⟨8, 8, .ro, 0⟩]⟩,
  ⟨"CFG_IMAGE_SEQ_LO", .ctl, 0x090004, [],
    [⟨0, 32, .ro, 0⟩]⟩,
  ⟨"CFG_IMAGE_SEQ_HI", .ctl, 0x090008, [],
    [⟨0, 32, .ro, 0⟩]⟩,
  ⟨"CFG_LOAD", .ctl, 0x09000C, [],
    [⟨0, 8, .ro, 0⟩, ⟨8, 16, .ro, 0⟩, ⟨24, 8, .ro, 0⟩]⟩,
  ⟨"CFG_REJECT", .ctl, 0x090010, [],
    [⟨0, 16, .ro, 0⟩, ⟨16, 16, .ro, 0⟩]⟩,
  ⟨"CFG_LAYOUT_CRC", .ctl, 0x090014, [],
    [⟨0, 32, .ro, 0⟩]⟩,
  ⟨"CAL_STATUS", .ctl, 0x090100, [],
    [⟨0, 4, .ro, 0⟩]⟩,
  ⟨"CAL_SEL", .ctl, 0x090104, [],
    [⟨0, 6, .rw, 0⟩, ⟨6, 2, .rw, 0⟩, ⟨8, 1, .rw, 0⟩]⟩,
  ⟨"CAL_DATA", .ctl, 0x090108, [],
    [⟨0, 32, .ro, 0⟩]⟩,
  ⟨"CAL_REJECTED_LO", .ctl, 0x090110, [],
    [⟨0, 32, .ro, 0⟩]⟩,
  ⟨"CAL_REJECTED_HI", .ctl, 0x090114, [],
    [⟨0, 32, .ro, 0⟩]⟩,
  ⟨"UPD_STATUS", .ctl, 0x0A0000, [],
    [⟨0, 1, .ro, 0⟩, ⟨1, 2, .ro, 0⟩, ⟨3, 3, .ro, 0⟩, ⟨6, 1, .ro, 0⟩, ⟨7, 2, .ro, 0⟩, ⟨9, 1, .ro, 0⟩, ⟨10, 3, .ro, 0⟩]⟩,
  ⟨"UPD_BOOT", .ctl, 0x0A0004, [],
    [⟨0, 1, .wo, 0⟩]⟩,
  ⟨"UPD_SVN", .ctl, 0x0A0008, [],
    [⟨0, 7, .ro, 0⟩, ⟨8, 7, .ro, 0⟩]⟩,
  ⟨"UPD_ACT_SEQ", .ctl, 0x0A000C, [],
    [⟨0, 32, .ro, 0⟩]⟩,
  ⟨"UPD_CTRL", .ctl, 0x0A0010, [],
    [⟨0, 8, .rwl, 30⟩]⟩,
  ⟨"UPD_STAGED", .ctl, 0x0A0014, [],
    [⟨0, 25, .ro, 0⟩, ⟨25, 3, .ro, 0⟩]⟩]

/-- Registers of the units repeated in the controller tier: rails, segments, heads, LDs (Tables 11.10 to 11.19, 14.19 to 14.23, 15.16 to 15.18). -/
def regsUnit : List RegDef := [
  ⟨"FAB_STATUS", .head, 0x000000, [],
    [⟨0, 1, .ro, 0⟩, ⟨1, 2, .ro, 0⟩, ⟨3, 2, .ro, 0⟩, ⟨5, 1, .ro, 1⟩, ⟨8, 16, .ro, 0⟩]⟩,
  ⟨"FAB_LOAD", .head, 0x000004, [],
    [⟨0, 2, .ro, 0⟩, ⟨2, 1, .ro, 0⟩, ⟨3, 1, .ro, 0⟩, ⟨4, 8, .ro, 0⟩]⟩,
  ⟨"FAB_COUNT_HELD", .head, 0x000008, [],
    [⟨0, 32, .ro, 0⟩]⟩,
  ⟨"FAB_COUNT_DECODE_ERR", .head, 0x00000C, [],
    [⟨0, 32, .ro, 0⟩]⟩,
  ⟨"LD_CFG", .ld, 0x000000, [],
    [⟨0, 1, .rwl, 0⟩, ⟨1, 1, .rwl, 0⟩, ⟨2, 1, .rwl, 0⟩, ⟨3, 2, .rws, 0⟩]⟩,
  ⟨"LD_RANGE", .ld, 0x000004, [],
    [⟨0, 15, .rwl, 0⟩, ⟨16, 15, .rwl, 0⟩]⟩,
  ⟨"LD_PART", .ld, 0x000008, [],
    [⟨0, 15, .ro, 0⟩, ⟨16, 15, .ro, 0⟩]⟩,
  ⟨"LD_QOS_TARGET", .ld, 0x00000C, [],
    [⟨0, 16, .rws, 2000⟩]⟩,
  ⟨"LD_BW_LIMIT", .ld, 0x000010, [],
    [⟨0, 11, .rws, 1280⟩, ⟨16, 8, .rws, 64⟩]⟩,
  ⟨"LD_STATUS", .ld, 0x000014, [],
    [⟨0, 1, .ro, 0⟩, ⟨8, 24, .ro, 0⟩]⟩,
  ⟨"RAIL_CFG0", .rail, 0x000000, [],
    [⟨0, 1, .rwl, 0⟩, ⟨1, 1, .rwl, 0⟩, ⟨2, 1, .rwl, 0⟩, ⟨3, 2, .rwl, 0⟩, ⟨5, 3, .rwl, 3⟩, ⟨8, 3, .rwl, 0⟩, ⟨11, 2, .rwl, 0⟩]⟩,
  ⟨"RAIL_CFG1", .rail, 0x000004, [],
    [⟨0, 6, .rwl, 0⟩, ⟨6, 6, .rwl, 0⟩, ⟨12, 6, .rwl, 0⟩, ⟨18, 6, .rwl, 0⟩]⟩,
  ⟨"RAIL_CFG2", .rail, 0x000008, [],
    [⟨0, 8, .rwl, 0⟩, ⟨8, 8, .rwl, 40⟩, ⟨16, 8, .rwl, 16⟩]⟩,
  ⟨"RAIL_CFG3", .rail, 0x00000C, [],
    [⟨0, 8, .rwl, 0⟩, ⟨8, 8, .rwl, 0⟩, ⟨16, 8, .rwl, 255⟩, ⟨24, 8, .rwl, 255⟩]⟩,
  ⟨"RAIL_STATUS", .rail, 0x000010, [],
    [⟨0, 3, .ro, 0⟩, ⟨3, 1, .ro, 0⟩, ⟨4, 3, .ro, 0⟩, ⟨7, 3, .ro, 0⟩, ⟨10, 4, .ro, 0⟩]⟩,
  ⟨"RAIL_ADC", .rail, 0x000014, [],
    [⟨0, 12, .ro, 0⟩, ⟨16, 16, .ro, 0⟩]⟩,
  ⟨"TW_CTRL", .tw, 0x000000, [],
    [⟨0, 2, .rwl, 1⟩, ⟨8, 8, .rwl, 16⟩]⟩,
  ⟨"TW_STATUS", .tw, 0x000004, [],
    [⟨0, 1, .ro, 0⟩, ⟨1, 1, .rw1c, 0⟩, ⟨2, 1, .rw1c, 0⟩, ⟨3, 1, .ro, 0⟩, ⟨4, 1, .rw1c, 0⟩, ⟨5, 3, .ro, 0⟩]⟩,
  ⟨"TW_COUNT_ARB_LOST", .tw, 0x000008, [],
    [⟨0, 32, .ro, 0⟩]⟩,
  ⟨"TW_COUNT_CLEAR", .tw, 0x00000C, [],
    [⟨0, 32, .ro, 0⟩]⟩,
  ⟨"TW_COUNT_FAIL", .tw, 0x000010, [],
    [⟨0, 32, .ro, 0⟩]⟩]

/-- Registers of the quadrant common area, cipher pairs and LDPC engines. -/
def regsQuadrant : List RegDef := [
  ⟨"QD_HOUSE", .quadrant, 0x000100, [],
    [⟨0, 12, .rwl, 0⟩, ⟨16, 8, .rwl, 0⟩]⟩,
  ⟨"QD_SPARE_EXT", .quadrant, 0x000110, [(4, 8), (2, 4)],
    [⟨0, 1, .rwl, 0⟩, ⟨1, 2, .rwl, 0⟩, ⟨3, 3, .rwl, 0⟩, ⟨6, 7, .rwl, 0⟩, ⟨13, 7, .rwl, 0⟩]⟩,
  ⟨"QD_MIG_CTRL", .quadrant, 0x000200, [],
    [⟨0, 8, .rws, 40⟩]⟩,
  ⟨"QD_MIG_STATUS", .quadrant, 0x000204, [],
    [⟨0, 2, .ro, 0⟩, ⟨2, 3, .ro, 0⟩, ⟨5, 2, .ro, 0⟩, ⟨7, 1, .ro, 0⟩, ⟨8, 3, .ro, 0⟩, ⟨11, 1, .ro, 0⟩]⟩,
  ⟨"QD_MIG_WM", .quadrant, 0x000208, [],
    [⟨0, 23, .ro, 0⟩]⟩,
  ⟨"LDPC_STATUS", .ldpc, 0x000000, [],
    [⟨0, 2, .ro, 0⟩, ⟨2, 2, .ro, 0⟩, ⟨4, 1, .ro, 0⟩]⟩,
  ⟨"LDPC_COUNT_SOFT", .ldpc, 0x000004, [],
    [⟨0, 32, .ro, 0⟩]⟩,
  ⟨"LDPC_COUNT_FAULT", .ldpc, 0x000008, [],
    [⟨0, 32, .ro, 0⟩]⟩,
  ⟨"CIPH_QCOUNT", .quadrant, 0x000300, [],
    [⟨0, 32, .ro, 0⟩]⟩,
  ⟨"CIPH_DKC_MISS", .quadrant, 0x000304, [],
    [⟨0, 32, .ro, 0⟩]⟩,
  ⟨"PAIR_STATUS", .pair, 0x000000, [],
    [⟨0, 2, .ro, 0⟩, ⟨2, 4, .ro, 0⟩]⟩,
  ⟨"PAIR_COUNT_CODEWORDS", .pair, 0x000004, [],
    [⟨0, 32, .ro, 0⟩]⟩,
  ⟨"PAIR_COUNT_MISMATCH", .pair, 0x000008, [],
    [⟨0, 32, .ro, 0⟩]⟩]

/-- Registers of a sub-channel (Tables 8.12 to 8.21, 9.8 to 9.17). -/
def regsSc : List RegDef := [
  ⟨"SC_STATUS", .sc, 0x000000, [],
    [⟨0, 2, .ro, 3⟩, ⟨2, 3, .ro, 6⟩, ⟨5, 1, .ro, 0⟩, ⟨6, 2, .ro, 0⟩, ⟨8, 8, .ro, 0⟩, ⟨16, 7, .ro, 0⟩, ⟨24, 8, .ro, 0⟩]⟩,
  ⟨"SC_PAGE_IDLE", .sc, 0x000004, [],
    [⟨0, 10, .rws, 64⟩]⟩,
  ⟨"SC_WQ", .sc, 0x000008, [],
    [⟨0, 7, .rws, 64⟩, ⟨8, 7, .rws, 24⟩, ⟨16, 4, .rws, 8⟩]⟩,
  ⟨"SC_OP", .sc, 0x00000C, [],
    [⟨0, 2, .rws, 0⟩]⟩,
  ⟨"SC_IDLE", .sc, 0x000010, [],
    [⟨0, 1, .rws, 0⟩, ⟨1, 1, .rws, 0⟩, ⟨2, 1, .rws, 0⟩, ⟨8, 7, .rws, 5⟩, ⟨16, 8, .rws, 16⟩, ⟨24, 8, .rws, 100⟩]⟩,
  ⟨"SC_REF", .sc, 0x000014, [],
    [⟨0, 1, .rws, 1⟩, ⟨1, 3, .rws, 4⟩]⟩,
  ⟨"SC_REF_STATUS", .sc, 0x000018, [],
    [⟨0, 8, .ro, 0⟩, ⟨8, 8, .ro, 0⟩, ⟨16, 16, .ro, 0⟩]⟩,
  ⟨"SC_QOS_MISS", .sc, 0x00001C, [],
    [⟨0, 32, .ro, 0⟩]⟩,
  ⟨"SC_RANK", .sc, 0x000040, [(8, 4)],
    [⟨0, 1, .rwl, 0⟩, ⟨1, 2, .rwl, 0⟩, ⟨4, 10, .rwl, 0⟩, ⟨14, 7, .rwl, 0⟩]⟩,
  ⟨"SC_TIMING_OP_W0", .sc, 0x000100, [(4, 64)],
    [⟨0, 8, .rwl, 0⟩, ⟨8, 8, .rwl, 0⟩, ⟨16, 8, .rwl, 0⟩, ⟨24, 8, .rwl, 0⟩]⟩,
  ⟨"SC_TIMING_OP_W1", .sc, 0x000104, [(4, 64)],
    [⟨0, 8, .rwl, 0⟩, ⟨8, 8, .rwl, 0⟩, ⟨16, 8, .rwl, 0⟩, ⟨24, 8, .rwl, 0⟩]⟩,
  ⟨"SC_TIMING_OP_W2", .sc, 0x000108, [(4, 64)],
    [⟨0, 8, .rwl, 0⟩, ⟨8, 8, .rwl, 0⟩, ⟨16, 8, .rwl, 0⟩, ⟨24, 8, .rwl, 0⟩]⟩,
  ⟨"SC_TIMING_OP_W3", .sc, 0x00010C, [(4, 64)],
    [⟨0, 16, .rwl, 0⟩, ⟨16, 16, .rwl, 0⟩]⟩,
  ⟨"SC_TIMING_OP_W4", .sc, 0x000110, [(4, 64)],
    [⟨0, 16, .rwl, 0⟩, ⟨16, 16, .rwl, 0⟩]⟩,
  ⟨"SC_TIMING_OP_W5", .sc, 0x000114, [(4, 64)],
    [⟨0, 16, .rwl, 0⟩, ⟨16, 16, .rwl, 0⟩]⟩,
  ⟨"SC_TIMING_OP_W6", .sc, 0x000118, [(4, 64)],
    [⟨0, 8, .rwl, 0⟩, ⟨8, 8, .rwl, 0⟩]⟩,
  ⟨"SC_TRAIN_CFG", .sc, 0x000200, [],
    [⟨0, 6, .rwl, 4⟩, ⟨8, 8, .rwl, 64⟩]⟩,
  ⟨"SC_TRAIN_SEL", .sc, 0x000204, [],
    [⟨0, 4, .rw, 0⟩, ⟨4, 3, .rw, 0⟩, ⟨7, 2, .rw, 0⟩, ⟨9, 1, .rw, 0⟩]⟩,
  ⟨"SC_TRAIN_RESULT", .sc, 0x000208, [],
    [⟨0, 9, .ro, 0⟩, ⟨9, 6, .ro, 0⟩, ⟨15, 8, .ro, 0⟩, ⟨23, 6, .ro, 0⟩, ⟨29, 1, .ro, 0⟩]⟩,
  ⟨"SC_DESKEW", .sc, 0x00020C, [],
    [⟨0, 5, .ro, 0⟩, ⟨8, 5, .ro, 0⟩, ⟨16, 5, .ro, 0⟩, ⟨24, 5, .ro, 0⟩]⟩,
  ⟨"SC_TRACK", .sc, 0x000210, [],
    [⟨0, 8, .rws, 16⟩, ⟨16, 8, .ro, 0⟩]⟩,
  ⟨"SC_ECC_CFG", .sc, 0x000300, [],
    [⟨0, 16, .rws, 256⟩, ⟨16, 8, .rws, 1⟩, ⟨24, 8, .rws, 4⟩]⟩,
  ⟨"SC_ECC_CE", .sc, 0x000304, [],
    [⟨0, 32, .ro, 0⟩]⟩,
  ⟨"SC_ECC_UE", .sc, 0x000308, [],
    [⟨0, 32, .ro, 0⟩]⟩,
  ⟨"SC_ECC_UE_ADDR", .sc, 0x00030C, [],
    [⟨0, 32, .ro, 0⟩]⟩,
  ⟨"SC_WCRC_RETRY", .sc, 0x000310, [],
    [⟨0, 32, .ro, 0⟩]⟩,
  ⟨"SC_UE_LAST", .sc, 0x000314, [],
    [⟨0, 29, .ro, 0⟩, ⟨29, 3, .ro, 0⟩]⟩,
  ⟨"SC_RANK_HEALTH", .sc, 0x000320, [(8, 4)],
    [⟨0, 4, .ro, 0⟩, ⟨4, 1, .ro, 0⟩, ⟨5, 1, .ro, 0⟩, ⟨6, 1, .ro, 0⟩, ⟨7, 1, .ro, 0⟩, ⟨8, 8, .ro, 0⟩]⟩,
  ⟨"SC_SCRUB", .sc, 0x000380, [],
    [⟨0, 8, .rws, 24⟩, ⟨8, 8, .ro, 0⟩, ⟨16, 16, .ro, 0⟩]⟩]

/-- Registers of a flash channel and a die (Tables 10.7 to 10.15). -/
def regsFlash : List RegDef := [
  ⟨"FC_STATUS", .fc, 0x000000, [],
    [⟨0, 3, .ro, 0⟩, ⟨8, 8, .ro, 0⟩, ⟨16, 3, .ro, 0⟩, ⟨19, 1, .ro, 0⟩]⟩,
  ⟨"FC_CTRL", .fc, 0x000004, [],
    [⟨0, 2, .rwl, 0⟩, ⟨8, 4, .rws, 8⟩]⟩,
  ⟨"FC_TIMING_W0", .fc, 0x000010, [],
    [⟨0, 16, .rwl, 1000⟩, ⟨16, 16, .rwl, 20000⟩]⟩,
  ⟨"FC_TIMING_W1", .fc, 0x000014, [],
    [⟨0, 8, .rwl, 100⟩, ⟨8, 8, .rwl, 40⟩, ⟨16, 8, .rwl, 30⟩]⟩,
  ⟨"FC_RETRY", .fc, 0x000018, [],
    [⟨0, 2, .rwl, 2⟩, ⟨2, 3, .rwl, 5⟩, ⟨8, 8, .rwl, 16⟩]⟩,
  ⟨"FC_WEAR", .fc, 0x00001C, [],
    [⟨0, 16, .rws, 500⟩]⟩,
  ⟨"DIE_STATUS", .die, 0x000000, [],
    [⟨0, 3, .ro, 0⟩, ⟨3, 1, .ro, 0⟩, ⟨4, 1, .ro, 0⟩, ⟨8, 4, .ro, 0⟩]⟩,
  ⟨"DIE_WEAR", .die, 0x000004, [],
    [⟨0, 16, .ro, 0⟩, ⟨16, 16, .ro, 0⟩]⟩,
  ⟨"DIE_BAD", .die, 0x000008, [],
    [⟨0, 10, .ro, 0⟩, ⟨10, 10, .ro, 0⟩, ⟨20, 10, .ro, 0⟩]⟩,
  ⟨"DIE_COUNT_RETRY", .die, 0x00000C, [],
    [⟨0, 32, .ro, 0⟩]⟩,
  ⟨"DIE_COUNT_UNDECODABLE", .die, 0x000010, [],
    [⟨0, 32, .ro, 0⟩]⟩,
  ⟨"DIE_COUNT_PFAIL", .die, 0x000014, [],
    [⟨0, 32, .ro, 0⟩]⟩,
  ⟨"DIE_COUNT_EFAIL", .die, 0x000018, [],
    [⟨0, 32, .ro, 0⟩]⟩]

/-! ## A name for every field -/

namespace Reg

def TICK_STATUS_TICK_A_OK : Fld := ⟨0x010000, 0, 1⟩
def TICK_STATUS_TICK_B_OK : Fld := ⟨0x010000, 1, 1⟩
def TICK_STATUS_AON_RESTART : Fld := ⟨0x010000, 2, 1⟩
def TICK_STATUS_CLK_DRIFT : Fld := ⟨0x010000, 3, 1⟩
def TICK_STATUS_OVERRUNS : Fld := ⟨0x010000, 8, 16⟩
def TICK_STATUS_CLR_OVERRUNS : Fld := ⟨0x010000, 31, 1⟩
def BCAST_QMASK_MASK : Fld := ⟨0x010100, 0, 4⟩
def BCAST_SCMASK_MASK : Fld := ⟨0x010104, 0, 4⟩
def BCAST_FCMASK_MASK : Fld := ⟨0x010108, 0, 4⟩
def BCAST_STATUS_MISMATCH : Fld := ⟨0x01010C, 0, 1⟩
def BCAST_STATUS_EMPTY : Fld := ⟨0x01010C, 1, 1⟩
def BCAST_STATUS_DIFF_INDEX : Fld := ⟨0x01010C, 4, 8⟩
def EPOCH_TARGET_FRAME_LO : Fld := ⟨0x010200, 0, 32⟩
def EPOCH_COMMIT_EPOCH : Fld := ⟨0x010204, 0, 16⟩
def EPOCH_STATUS_APPLIED : Fld := ⟨0x010208, 0, 16⟩
def EPOCH_STATUS_PENDING : Fld := ⟨0x010208, 16, 1⟩
def EPOCH_STATUS_SLIPS : Fld := ⟨0x010208, 17, 7⟩
def EPOCH_STATUS_RESULT : Fld := ⟨0x010208, 24, 3⟩
def EPOCH_CLASS_APPLIED (k : Nat) : Fld := ⟨0x010240 + 0x4 * k, 0, 16⟩
def EPOCH_CLASS_LAST_VOTE (k : Nat) : Fld := ⟨0x010240 + 0x4 * k, 16, 1⟩
def EPOCH_CLASS_FIRST_NOT_READY (k : Nat) : Fld := ⟨0x010240 + 0x4 * k, 24, 8⟩
def PLUMB_STATUS_MISMATCH : Fld := ⟨0x010300, 0, 1⟩
def PLUMB_STATUS_FOLD : Fld := ⟨0x010300, 1, 1⟩
def PLUMB_STATUS_SPLIT_WRITE : Fld := ⟨0x010300, 2, 1⟩
def PLUMB_STATUS_CLASS : Fld := ⟨0x010300, 8, 4⟩
def PLUMB_STATUS_UNIT : Fld := ⟨0x010300, 12, 8⟩
def PLUMB_FP_LO_FP : Fld := ⟨0x010308, 0, 32⟩
def PLUMB_FP_HI_FP : Fld := ⟨0x01030C, 0, 32⟩
def PERS_STATUS_MEDIA_READY : Fld := ⟨0x030000, 0, 1⟩
def PERS_STATUS_EXPO_STALL : Fld := ⟨0x030000, 1, 1⟩
def PERS_STATUS_RESTORE_PENDING : Fld := ⟨0x030000, 2, 1⟩
def PERS_STATUS_SAVE_ACTIVE : Fld := ⟨0x030000, 3, 1⟩
def PERS_STATUS_START_STATE : Fld := ⟨0x030000, 4, 2⟩
def PERS_STATUS_LAST_DIRTY : Fld := ⟨0x030000, 6, 1⟩
def PERS_STATUS_HOST_SHUTDOWN_STATE : Fld := ⟨0x030000, 7, 1⟩
def PERS_DSC_COUNT : Fld := ⟨0x030004, 0, 32⟩
def PERS_LAST_SHUTDOWN_CAUSE : Fld := ⟨0x030008, 0, 4⟩
def PERS_LAST_SHUTDOWN_SEALED : Fld := ⟨0x030008, 4, 1⟩
def PERS_LAST_SHUTDOWN_INCOMPLETE : Fld := ⟨0x030008, 5, 1⟩
def PERS_LAST_SHUTDOWN_SINGLE_COPY : Fld := ⟨0x030008, 6, 1⟩
def PERS_LAST_SHUTDOWN_TIME_LO_TIME : Fld := ⟨0x03000C, 0, 32⟩
def PERS_LAST_SHUTDOWN_TIME_HI_TIME : Fld := ⟨0x030010, 0, 32⟩
def PERS_GPF_PH2_DURATION_US : Fld := ⟨0x030014, 0, 16⟩
def PERS_GPF_PH2_POWER_W : Fld := ⟨0x030014, 16, 16⟩
def EXPO_CUR_PATCHES : Fld := ⟨0x030100, 0, 32⟩
def EXPO_BUDGET_PATCHES : Fld := ⟨0x030104, 0, 32⟩
def EXPO_MAX_GIB : Fld := ⟨0x030108, 0, 11⟩
def EXPO_FLOOR_GIB : Fld := ⟨0x03010C, 0, 11⟩
def EXPO_HOLDUP_MIB : Fld := ⟨0x030110, 0, 20⟩
def EXPO_SAVES_N : Fld := ⟨0x030114, 0, 3⟩
def EXPO_LEVEL_LEVEL : Fld := ⟨0x030118, 0, 2⟩
def EXPO_LEVEL_DEVLOAD : Fld := ⟨0x030118, 2, 2⟩
def EXPO_LEVEL_WITHHELD : Fld := ⟨0x030118, 4, 8⟩
def EXPO_LEVEL_PACK_HOLD : Fld := ⟨0x030118, 12, 1⟩
def EXPO_THROTTLE_W_MAX : Fld := ⟨0x03011C, 0, 8⟩
def EXPO_STALL_FRAMES_COUNT : Fld := ⟨0x030120, 0, 32⟩
def EXPO_Q_PATCHES (q : Nat) : Fld := ⟨0x030130 + 0x4 * q, 0, 32⟩
def SKIM_CTRL_ENABLE : Fld := ⟨0x030200, 0, 1⟩
def SKIM_SETTING_TIME_SUPERFRAMES : Fld := ⟨0x030204, 0, 16⟩
def SKIM_MAX_RATE : Fld := ⟨0x030208, 0, 10⟩
def SKIM_RATE_MBPS : Fld := ⟨0x03020C, 0, 16⟩
def SKIM_RATE_UNPACED : Fld := ⟨0x03020C, 16, 1⟩
def SKIM_PATCHES_LO_COUNT : Fld := ⟨0x030210, 0, 32⟩
def SKIM_PATCHES_HI_COUNT : Fld := ⟨0x030214, 0, 32⟩
def SKIM_SUPERSEDED_COUNT : Fld := ⟨0x030218, 0, 32⟩
def SKIM_Q_LIST_FILL (q : Nat) : Fld := ⟨0x030240 + 0x4 * q, 0, 14⟩
def SKIM_Q_OVERFLOW (q : Nat) : Fld := ⟨0x030240 + 0x4 * q, 14, 1⟩
def SKIM_Q_SWEEP (q : Nat) : Fld := ⟨0x030240 + 0x4 * q, 15, 1⟩
def SKIM_Q_WETC_FULL (q : Nat) : Fld := ⟨0x030240 + 0x4 * q, 16, 1⟩
def WEAR_LIFE_TARGET_DAYS : Fld := ⟨0x030300, 0, 13⟩
def WEAR_CREDIT_MAX_GIB : Fld := ⟨0x030304, 0, 16⟩
def WEAR_DEBT_WARN_GIB : Fld := ⟨0x030308, 0, 16⟩
def WEAR_STATUS_DEBT_HIGH : Fld := ⟨0x03030C, 0, 1⟩
def WEAR_STATUS_REPAYING : Fld := ⟨0x03030C, 1, 1⟩
def WEAR_STATUS_EXHAUSTED : Fld := ⟨0x03030C, 2, 1⟩
def WEAR_STATUS_LIFE_EXCEEDED : Fld := ⟨0x03030C, 3, 1⟩
def WEAR_ALLOW_VALUE (q : Nat) : Fld := ⟨0x030340 + 0x4 * q, 0, 32⟩
def WEAR_ACCOUNT_VALUE (q : Nat) : Fld := ⟨0x030350 + 0x4 * q, 0, 32⟩
def WEAR_PROGRAMMED_LO_COUNT (q : Nat) : Fld := ⟨0x030360 + 0x8 * q, 0, 32⟩
def WEAR_PROGRAMMED_HI_COUNT (q : Nat) : Fld := ⟨0x030364 + 0x8 * q, 0, 32⟩
def SAVE_CTRL_VIN_EN : Fld := ⟨0x030400, 0, 1⟩
def SAVE_CTRL_PFW_EN : Fld := ⟨0x030400, 1, 1⟩
def SAVE_CTRL_GROUP_EN : Fld := ⟨0x030400, 2, 1⟩
def SAVE_CTRL_GRP_FAULT_SAVE : Fld := ⟨0x030400, 3, 1⟩
def SAVE_VIN_THRESH_MV : Fld := ⟨0x030404, 0, 11⟩
def SAVE_VIN_HYST_MV : Fld := ⟨0x030404, 16, 7⟩
def SAVE_STATUS_PHASE : Fld := ⟨0x030408, 0, 4⟩
def SAVE_STATUS_TRIGGER : Fld := ⟨0x030408, 4, 4⟩
def SAVE_STATUS_LATE_TRIGGERS : Fld := ⟨0x030408, 8, 7⟩
def SAVE_STATUS_INCOMPLETE : Fld := ⟨0x030408, 15, 1⟩
def SAVE_STATUS_ON_HOLDUP : Fld := ⟨0x030408, 16, 1⟩
def SAVE_STATUS_VBUS_LOW : Fld := ⟨0x030408, 17, 1⟩
def SAVE_STATUS_RIDE_THROUGH : Fld := ⟨0x030408, 18, 1⟩
def SAVE_TOKENS_ALLOT : Fld := ⟨0x03040C, 0, 8⟩
def SAVE_TOKENS_WRITING : Fld := ⟨0x03040C, 8, 4⟩
def SAVE_TOKENS_HELD : Fld := ⟨0x03040C, 16, 8⟩
def SAVE_P_BASE_DECIW : Fld := ⟨0x030410, 0, 12⟩
def SAVE_P_DIE_MW : Fld := ⟨0x030414, 0, 11⟩
def SAVE_R_DIE_MBPS : Fld := ⟨0x030418, 0, 11⟩
def SAVE_E_FIXED_J : Fld := ⟨0x03041C, 0, 8⟩
def SAVE_POWER_HOLDUP_TOKENS : Fld := ⟨0x030420, 0, 8⟩
def SAVE_POWER_VBUS_MIN_CV : Fld := ⟨0x030420, 16, 12⟩
def SAVE_LAST_DURATION_VALUE : Fld := ⟨0x030430, 0, 32⟩
def SAVE_LAST_PATCHES_VALUE : Fld := ⟨0x030434, 0, 32⟩
def SAVE_LAST_ENERGY_VALUE : Fld := ⟨0x030438, 0, 32⟩
def SAVE_LAST_PP_PP_FRAMES : Fld := ⟨0x03043C, 0, 8⟩
def SAVE_LAST_PP_OP_FRAMES : Fld := ⟨0x03043C, 8, 8⟩
def SAVE_Q_REMAIN (q : Nat) : Fld := ⟨0x030440 + 0x4 * q, 0, 24⟩
def SAVE_Q_HELD (q : Nat) : Fld := ⟨0x030440 + 0x4 * q, 24, 6⟩
def RESTORE_CTRL_BG_EN : Fld := ⟨0x030500, 0, 1⟩
def RESTORE_CTRL_PANEL_FOLLOW : Fld := ⟨0x030500, 1, 1⟩
def RESTORE_CTRL_RATE : Fld := ⟨0x030500, 8, 8⟩
def RESTORE_STATUS_PHASE : Fld := ⟨0x030504, 0, 3⟩
def RESTORE_STATUS_FILL_DONE : Fld := ⟨0x030504, 4, 4⟩
def RESTORE_STATUS_SEAL_COPIES : Fld := ⟨0x030504, 8, 2⟩
def RESTORE_STATUS_REFILL_Q : Fld := ⟨0x030504, 12, 4⟩
def RESTORE_Q_REMAIN (q : Nat) : Fld := ⟨0x030510 + 0x4 * q, 0, 25⟩
def RESTORE_Q_FOLLOW (q : Nat) : Fld := ⟨0x030510 + 0x4 * q, 25, 4⟩
def RESTORE_LOAD_READY_MS : Fld := ⟨0x030520, 0, 12⟩
def RESTORE_LOAD_SEARCH_MS : Fld := ⟨0x030520, 12, 8⟩
def RESTORE_LOAD_LEDGER_MS : Fld := ⟨0x030520, 20, 12⟩
def RESTORE_FI_COUNT_VALUE : Fld := ⟨0x030530, 0, 32⟩
def RESTORE_FI_MAX_US_VALUE : Fld := ⟨0x030534, 0, 32⟩
def RESTORE_FI_SLOT_WAITS_VALUE : Fld := ⟨0x030538, 0, 32⟩
def RESTORE_FI_FAILED_VALUE : Fld := ⟨0x03053C, 0, 32⟩
def HEAL_WAIT_US : Fld := ⟨0x030600, 0, 10⟩
def HEAL_COUNT_IN_TIME_VALUE : Fld := ⟨0x030608, 0, 32⟩
def HEAL_COUNT_LATE_VALUE : Fld := ⟨0x03060C, 0, 32⟩
def HEAL_COUNT_POISON_VALUE : Fld := ⟨0x030610, 0, 32⟩
def HEAL_COUNT_FAILED_VALUE : Fld := ⟨0x030614, 0, 32⟩
def IMG_GEOM_UNITS_PER_BAND : Fld := ⟨0x030700, 0, 12⟩
def IMG_STRIPE_CLOSE_SF : Fld := ⟨0x030704, 0, 8⟩
def IMG_STATUS_GEN : Fld := ⟨0x030708, 0, 24⟩
def IMG_STATUS_OPEN_SETS : Fld := ⟨0x030708, 24, 7⟩
def IMG_STATUS_GEN_EXHAUSTED : Fld := ⟨0x030708, 31, 1⟩
def IMG_COUNT_FILLER_VALUE : Fld := ⟨0x030710, 0, 32⟩
def IMG_COUNT_EARLY_CLOSE_VALUE : Fld := ⟨0x030714, 0, 32⟩
def IMG_COUNT_REBUILD_VALUE : Fld := ⟨0x030718, 0, 32⟩
def IMG_COUNT_LOST_VALUE : Fld := ⟨0x03071C, 0, 32⟩
def IMG_PATROL_DAYS : Fld := ⟨0x030720, 0, 8⟩
def IMG_PATROL_PASS_PCT : Fld := ⟨0x030720, 8, 8⟩
def IMG_PATROL_PASSES : Fld := ⟨0x030720, 16, 16⟩
def LEDGER_CTRL_FLUSH_SF : Fld := ⟨0x030800, 0, 8⟩
def LEDGER_RECORD_SEQ_LO_SEQ : Fld := ⟨0x030808, 0, 32⟩
def LEDGER_RECORD_SEQ_HI_SEQ : Fld := ⟨0x03080C, 0, 32⟩
def GC_CTRL_FREE_LOW : Fld := ⟨0x030900, 0, 8⟩
def GC_CTRL_FREE_CRIT : Fld := ⟨0x030900, 8, 8⟩
def GC_STATUS_MIN_FREE : Fld := ⟨0x030904, 0, 8⟩
def GC_STATUS_MIN_POS : Fld := ⟨0x030904, 8, 3⟩
def GC_STATUS_ACTIVE : Fld := ⟨0x030904, 11, 1⟩
def GC_STATUS_CRIT : Fld := ⟨0x030904, 12, 1⟩
def SC_STATUS_OP (n : Nat) : Fld := ⟨scBase n + 0x0, 0, 2⟩
def SC_STATUS_STATE (n : Nat) : Fld := ⟨scBase n + 0x0, 2, 3⟩
def SC_STATUS_WRITE_MODE (n : Nat) : Fld := ⟨scBase n + 0x0, 5, 1⟩
def SC_STATUS_TARGET (n : Nat) : Fld := ⟨scBase n + 0x0, 6, 2⟩
def SC_STATUS_RQ_FILL (n : Nat) : Fld := ⟨scBase n + 0x0, 8, 8⟩
def SC_STATUS_WQ_FILL (n : Nat) : Fld := ⟨scBase n + 0x0, 16, 7⟩
def SC_STATUS_SR_RANKS (n : Nat) : Fld := ⟨scBase n + 0x0, 24, 8⟩
def SC_PAGE_IDLE_DFI_CLOCKS (n : Nat) : Fld := ⟨scBase n + 0x4, 0, 10⟩
def SC_WQ_HI (n : Nat) : Fld := ⟨scBase n + 0x8, 0, 7⟩
def SC_WQ_LO (n : Nat) : Fld := ⟨scBase n + 0x8, 8, 7⟩
def SC_WQ_MIN_BURST (n : Nat) : Fld := ⟨scBase n + 0x8, 16, 4⟩
def SC_OP_RUN_OP (n : Nat) : Fld := ⟨scBase n + 0xC, 0, 2⟩
def SC_IDLE_EN (n : Nat) : Fld := ⟨scBase n + 0x10, 0, 1⟩
def SC_IDLE_OP (n : Nat) : Fld := ⟨scBase n + 0x10, 1, 1⟩
def SC_IDLE_SR_EN (n : Nat) : Fld := ⟨scBase n + 0x10, 2, 1⟩
def SC_IDLE_LOW_PCT (n : Nat) : Fld := ⟨scBase n + 0x10, 8, 7⟩
def SC_IDLE_SF (n : Nat) : Fld := ⟨scBase n + 0x10, 16, 8⟩
def SC_IDLE_SR_US (n : Nat) : Fld := ⟨scBase n + 0x10, 24, 8⟩
def SC_REF_MODE (n : Nat) : Fld := ⟨scBase n + 0x14, 0, 1⟩
def SC_REF_POSTPONE (n : Nat) : Fld := ⟨scBase n + 0x14, 1, 3⟩
def SC_REF_STATUS_HOT (n : Nat) : Fld := ⟨scBase n + 0x18, 0, 8⟩
def SC_REF_STATUS_OVERTEMP (n : Nat) : Fld := ⟨scBase n + 0x18, 8, 8⟩
def SC_REF_STATUS_FORCED (n : Nat) : Fld := ⟨scBase n + 0x18, 16, 16⟩
def SC_QOS_MISS_COUNT (n : Nat) : Fld := ⟨scBase n + 0x1C, 0, 32⟩
def SC_RANK_PRESENT (n r : Nat) : Fld := ⟨scBase n + 0x40 + 0x4 * r, 0, 1⟩
def SC_RANK_DENSITY (n r : Nat) : Fld := ⟨scBase n + 0x40 + 0x4 * r, 1, 2⟩
def SC_RANK_BASE (n r : Nat) : Fld := ⟨scBase n + 0x40 + 0x4 * r, 4, 10⟩
def SC_RANK_SIZE (n r : Nat) : Fld := ⟨scBase n + 0x40 + 0x4 * r, 14, 7⟩
def SC_TIMING_OP_W0_CL (n op : Nat) : Fld := ⟨scBase n + 0x100 + 0x40 * op, 0, 8⟩
def SC_TIMING_OP_W0_CWL (n op : Nat) : Fld := ⟨scBase n + 0x100 + 0x40 * op, 8, 8⟩
def SC_TIMING_OP_W0_TRCD (n op : Nat) : Fld := ⟨scBase n + 0x100 + 0x40 * op, 16, 8⟩
def SC_TIMING_OP_W0_TRP (n op : Nat) : Fld := ⟨scBase n + 0x100 + 0x40 * op, 24, 8⟩
def SC_TIMING_OP_W1_TRAS (n op : Nat) : Fld := ⟨scBase n + 0x104 + 0x40 * op, 0, 8⟩
def SC_TIMING_OP_W1_TRTP (n op : Nat) : Fld := ⟨scBase n + 0x104 + 0x40 * op, 8, 8⟩
def SC_TIMING_OP_W1_TWR (n op : Nat) : Fld := ⟨scBase n + 0x104 + 0x40 * op, 16, 8⟩
def SC_TIMING_OP_W1_TWTR_L (n op : Nat) : Fld := ⟨scBase n + 0x104 + 0x40 * op, 24, 8⟩
def SC_TIMING_OP_W2_TRRD_S (n op : Nat) : Fld := ⟨scBase n + 0x108 + 0x40 * op, 0, 8⟩
def SC_TIMING_OP_W2_TRRD_L (n op : Nat) : Fld := ⟨scBase n + 0x108 + 0x40 * op, 8, 8⟩
def SC_TIMING_OP_W2_TFAW (n op : Nat) : Fld := ⟨scBase n + 0x108 + 0x40 * op, 16, 8⟩
def SC_TIMING_OP_W2_TCCD_L (n op : Nat) : Fld := ⟨scBase n + 0x108 + 0x40 * op, 24, 8⟩
def SC_TIMING_OP_W3_TRFC1 (n op : Nat) : Fld := ⟨scBase n + 0x10C + 0x40 * op, 0, 16⟩
def SC_TIMING_OP_W3_TRFCSB (n op : Nat) : Fld := ⟨scBase n + 0x10C + 0x40 * op, 16, 16⟩
def SC_TIMING_OP_W4_TREFI1 (n op : Nat) : Fld := ⟨scBase n + 0x110 + 0x40 * op, 0, 16⟩
def SC_TIMING_OP_W4_TREFI_SB (n op : Nat) : Fld := ⟨scBase n + 0x110 + 0x40 * op, 16, 16⟩
def SC_TIMING_OP_W5_TXS (n op : Nat) : Fld := ⟨scBase n + 0x114 + 0x40 * op, 0, 16⟩
def SC_TIMING_OP_W5_TXS_DLL (n op : Nat) : Fld := ⟨scBase n + 0x114 + 0x40 * op, 16, 16⟩
def SC_TIMING_OP_W6_T_TAIL (n op : Nat) : Fld := ⟨scBase n + 0x118 + 0x40 * op, 0, 8⟩
def SC_TIMING_OP_W6_MR_SET (n op : Nat) : Fld := ⟨scBase n + 0x118 + 0x40 * op, 8, 8⟩
def QD_HOUSE_BASE (q : Nat) : Fld := ⟨qdBase q + 0x100, 0, 12⟩
def QD_HOUSE_SIZE (q : Nat) : Fld := ⟨qdBase q + 0x100, 16, 8⟩
def QD_SPARE_EXT_PRESENT (q k e : Nat) : Fld := ⟨qdBase q + 0x110 + 0x8 * k + 0x4 * e, 0, 1⟩
def QD_SPARE_EXT_J (q k e : Nat) : Fld := ⟨qdBase q + 0x110 + 0x8 * k + 0x4 * e, 1, 2⟩
def QD_SPARE_EXT_R (q k e : Nat) : Fld := ⟨qdBase q + 0x110 + 0x8 * k + 0x4 * e, 3, 3⟩
def QD_SPARE_EXT_OFFSET (q k e : Nat) : Fld := ⟨qdBase q + 0x110 + 0x8 * k + 0x4 * e, 6, 7⟩
def QD_SPARE_EXT_SIZE (q k e : Nat) : Fld := ⟨qdBase q + 0x110 + 0x8 * k + 0x4 * e, 13, 7⟩
def SC_TRAIN_CFG_VREF_MIN (n : Nat) : Fld := ⟨scBase n + 0x200, 0, 6⟩
def SC_TRAIN_CFG_BURSTS (n : Nat) : Fld := ⟨scBase n + 0x200, 8, 8⟩
def SC_TRAIN_SEL_LANE (n : Nat) : Fld := ⟨scBase n + 0x204, 0, 4⟩
def SC_TRAIN_SEL_RANK (n : Nat) : Fld := ⟨scBase n + 0x204, 4, 3⟩
def SC_TRAIN_SEL_OP (n : Nat) : Fld := ⟨scBase n + 0x204, 7, 2⟩
def SC_TRAIN_SEL_DIR (n : Nat) : Fld := ⟨scBase n + 0x204, 9, 1⟩
def SC_TRAIN_RESULT_CENTRE (n : Nat) : Fld := ⟨scBase n + 0x208, 0, 9⟩
def SC_TRAIN_RESULT_VREF (n : Nat) : Fld := ⟨scBase n + 0x208, 9, 6⟩
def SC_TRAIN_RESULT_WIDTH (n : Nat) : Fld := ⟨scBase n + 0x208, 15, 8⟩
def SC_TRAIN_RESULT_RUN (n : Nat) : Fld := ⟨scBase n + 0x208, 23, 6⟩
def SC_TRAIN_RESULT_PASS (n : Nat) : Fld := ⟨scBase n + 0x208, 29, 1⟩
def SC_DESKEW_BIT0 (n : Nat) : Fld := ⟨scBase n + 0x20C, 0, 5⟩
def SC_DESKEW_BIT1 (n : Nat) : Fld := ⟨scBase n + 0x20C, 8, 5⟩
def SC_DESKEW_BIT2 (n : Nat) : Fld := ⟨scBase n + 0x20C, 16, 5⟩
def SC_DESKEW_BIT3 (n : Nat) : Fld := ⟨scBase n + 0x20C, 24, 5⟩
def SC_TRACK_SF (n : Nat) : Fld := ⟨scBase n + 0x210, 0, 8⟩
def SC_TRACK_PASSES_DISCARDED (n : Nat) : Fld := ⟨scBase n + 0x210, 16, 8⟩
def SC_ECC_CFG_CE_ERASE (n : Nat) : Fld := ⟨scBase n + 0x300, 0, 16⟩
def SC_ECC_CFG_UE_LIMIT (n : Nat) : Fld := ⟨scBase n + 0x300, 16, 8⟩
def SC_ECC_CFG_ADDR_LIMIT (n : Nat) : Fld := ⟨scBase n + 0x300, 24, 8⟩
def SC_ECC_CE_COUNT (n : Nat) : Fld := ⟨scBase n + 0x304, 0, 32⟩
def SC_ECC_UE_COUNT (n : Nat) : Fld := ⟨scBase n + 0x308, 0, 32⟩
def SC_ECC_UE_ADDR_COUNT (n : Nat) : Fld := ⟨scBase n + 0x30C, 0, 32⟩
def SC_WCRC_RETRY_COUNT (n : Nat) : Fld := ⟨scBase n + 0x310, 0, 32⟩
def SC_UE_LAST_LINE (n : Nat) : Fld := ⟨scBase n + 0x314, 0, 29⟩
def SC_UE_LAST_RANK (n : Nat) : Fld := ⟨scBase n + 0x314, 29, 3⟩
def SC_RANK_HEALTH_DEVICE (n r : Nat) : Fld := ⟨scBase n + 0x320 + 0x4 * r, 0, 4⟩
def SC_RANK_HEALTH_ERASED (n r : Nat) : Fld := ⟨scBase n + 0x320 + 0x4 * r, 4, 1⟩
def SC_RANK_HEALTH_SOURCE (n r : Nat) : Fld := ⟨scBase n + 0x320 + 0x4 * r, 5, 1⟩
def SC_RANK_HEALTH_OUT (n r : Nat) : Fld := ⟨scBase n + 0x320 + 0x4 * r, 6, 1⟩
def SC_RANK_HEALTH_MIGRATING (n r : Nat) : Fld := ⟨scBase n + 0x320 + 0x4 * r, 7, 1⟩
def SC_RANK_HEALTH_UE_PERIOD (n r : Nat) : Fld := ⟨scBase n + 0x320 + 0x4 * r, 8, 8⟩
def SC_SCRUB_HOURS (n : Nat) : Fld := ⟨scBase n + 0x380, 0, 8⟩
def SC_SCRUB_PASS_PCT (n : Nat) : Fld := ⟨scBase n + 0x380, 8, 8⟩
def SC_SCRUB_PASSES (n : Nat) : Fld := ⟨scBase n + 0x380, 16, 16⟩
def QD_MIG_CTRL_RATE (q : Nat) : Fld := ⟨qdBase q + 0x200, 0, 8⟩
def QD_MIG_STATUS_J (q : Nat) : Fld := ⟨qdBase q + 0x204, 0, 2⟩
def QD_MIG_STATUS_RANK (q : Nat) : Fld := ⟨qdBase q + 0x204, 2, 3⟩
def QD_MIG_STATUS_SPARE (q : Nat) : Fld := ⟨qdBase q + 0x204, 5, 2⟩
def QD_MIG_STATUS_ACTIVE (q : Nat) : Fld := ⟨qdBase q + 0x204, 7, 1⟩
def QD_MIG_STATUS_WAITING (q : Nat) : Fld := ⟨qdBase q + 0x204, 8, 3⟩
def QD_MIG_STATUS_EXHAUSTED (q : Nat) : Fld := ⟨qdBase q + 0x204, 11, 1⟩
def QD_MIG_WM_CHUNK (q : Nat) : Fld := ⟨qdBase q + 0x208, 0, 23⟩
def FC_STATUS_STATE (n : Nat) : Fld := ⟨fcBase n + 0x0, 0, 3⟩
def FC_STATUS_RETIRED (n : Nat) : Fld := ⟨fcBase n + 0x0, 8, 8⟩
def FC_STATUS_RECORD_D (n : Nat) : Fld := ⟨fcBase n + 0x0, 16, 3⟩
def FC_STATUS_LDPC_SHARED (n : Nat) : Fld := ⟨fcBase n + 0x0, 19, 1⟩
def FC_CTRL_RATE (n : Nat) : Fld := ⟨fcBase n + 0x4, 0, 2⟩
def FC_CTRL_MAX_BUSY (n : Nat) : Fld := ⟨fcBase n + 0x4, 8, 4⟩
def FC_TIMING_W0_TPROG_MAX_US (n : Nat) : Fld := ⟨fcBase n + 0x10, 0, 16⟩
def FC_TIMING_W0_TBERS_MAX_US (n : Nat) : Fld := ⟨fcBase n + 0x10, 16, 16⟩
def FC_TIMING_W1_TR_MAX_US (n : Nat) : Fld := ⟨fcBase n + 0x14, 0, 8⟩
def FC_TIMING_W1_TSUSP_MAX_US (n : Nat) : Fld := ⟨fcBase n + 0x14, 8, 8⟩
def FC_TIMING_W1_TPSUSP_MAX_US (n : Nat) : Fld := ⟨fcBase n + 0x14, 16, 8⟩
def FC_RETRY_URGENT_PASSES (n : Nat) : Fld := ⟨fcBase n + 0x18, 0, 2⟩
def FC_RETRY_MAX_PASSES (n : Nat) : Fld := ⟨fcBase n + 0x18, 2, 3⟩
def FC_RETRY_RETIRE_UNDEC (n : Nat) : Fld := ⟨fcBase n + 0x18, 8, 8⟩
def FC_WEAR_SPREAD (n : Nat) : Fld := ⟨fcBase n + 0x1C, 0, 16⟩
def DIE_STATUS_STATE (n : Nat) : Fld := ⟨dieBase n + 0x0, 0, 3⟩
def DIE_STATUS_TOKEN (n : Nat) : Fld := ⟨dieBase n + 0x0, 3, 1⟩
def DIE_STATUS_ERASE_SUSPENDED (n : Nat) : Fld := ⟨dieBase n + 0x0, 4, 1⟩
def DIE_STATUS_QUEUED (n : Nat) : Fld := ⟨dieBase n + 0x0, 8, 4⟩
def DIE_WEAR_ERASE_MEAN (n : Nat) : Fld := ⟨dieBase n + 0x4, 0, 16⟩
def DIE_WEAR_ERASE_MAX (n : Nat) : Fld := ⟨dieBase n + 0x4, 16, 16⟩
def DIE_BAD_FACTORY (n : Nat) : Fld := ⟨dieBase n + 0x8, 0, 10⟩
def DIE_BAD_GROWN (n : Nat) : Fld := ⟨dieBase n + 0x8, 10, 10⟩
def DIE_BAD_SPARE_LEFT (n : Nat) : Fld := ⟨dieBase n + 0x8, 20, 10⟩
def DIE_COUNT_RETRY_COUNT (n : Nat) : Fld := ⟨dieBase n + 0xC, 0, 32⟩
def DIE_COUNT_UNDECODABLE_COUNT (n : Nat) : Fld := ⟨dieBase n + 0x10, 0, 32⟩
def DIE_COUNT_PFAIL_COUNT (n : Nat) : Fld := ⟨dieBase n + 0x14, 0, 32⟩
def DIE_COUNT_EFAIL_COUNT (n : Nat) : Fld := ⟨dieBase n + 0x18, 0, 32⟩
def LDPC_STATUS_STATE (n : Nat) : Fld := ⟨ldpcBase n + 0x0, 0, 2⟩
def LDPC_STATUS_CHANNEL (n : Nat) : Fld := ⟨ldpcBase n + 0x0, 2, 2⟩
def LDPC_STATUS_SECOND (n : Nat) : Fld := ⟨ldpcBase n + 0x0, 4, 1⟩
def LDPC_COUNT_SOFT_COUNT (n : Nat) : Fld := ⟨ldpcBase n + 0x4, 0, 32⟩
def LDPC_COUNT_FAULT_COUNT (n : Nat) : Fld := ⟨ldpcBase n + 0x8, 0, 32⟩
def FAB_STATUS_LINK_UP (h : Nat) : Fld := ⟨headBase h + 0x0, 0, 1⟩
def FAB_STATUS_SPEED (h : Nat) : Fld := ⟨headBase h + 0x0, 1, 2⟩
def FAB_STATUS_WIDTH (h : Nat) : Fld := ⟨headBase h + 0x0, 3, 2⟩
def FAB_STATUS_PERST (h : Nat) : Fld := ⟨headBase h + 0x0, 5, 1⟩
def FAB_STATUS_LDS (h : Nat) : Fld := ⟨headBase h + 0x0, 8, 16⟩
def FAB_LOAD_DEVLOAD_Q (h : Nat) : Fld := ⟨headBase h + 0x4, 0, 2⟩
def FAB_LOAD_REQ_HELD (h : Nat) : Fld := ⟨headBase h + 0x4, 2, 1⟩
def FAB_LOAD_ESCALATED (h : Nat) : Fld := ⟨headBase h + 0x4, 3, 1⟩
def FAB_LOAD_RWD_WITHHELD (h : Nat) : Fld := ⟨headBase h + 0x4, 4, 8⟩
def FAB_COUNT_HELD_COUNT (h : Nat) : Fld := ⟨headBase h + 0x8, 0, 32⟩
def FAB_COUNT_DECODE_ERR_COUNT (h : Nat) : Fld := ⟨headBase h + 0xC, 0, 32⟩
def FAB_CTRL_HOLD_ESC_MS : Fld := ⟨0x080200, 0, 10⟩
def LD_CFG_ENABLE (k : Nat) : Fld := ⟨ldBase k + 0x0, 0, 1⟩
def LD_CFG_HEAD (k : Nat) : Fld := ⟨ldBase k + 0x0, 1, 1⟩
def LD_CFG_MGMT (k : Nat) : Fld := ⟨ldBase k + 0x0, 2, 1⟩
def LD_CFG_HINT (k : Nat) : Fld := ⟨ldBase k + 0x0, 3, 2⟩
def LD_RANGE_BASE (k : Nat) : Fld := ⟨ldBase k + 0x4, 0, 15⟩
def LD_RANGE_SIZE (k : Nat) : Fld := ⟨ldBase k + 0x4, 16, 15⟩
def LD_PART_VOL (k : Nat) : Fld := ⟨ldBase k + 0x8, 0, 15⟩
def LD_PART_VOL_NEXT (k : Nat) : Fld := ⟨ldBase k + 0x8, 16, 15⟩
def LD_QOS_TARGET_NS (k : Nat) : Fld := ⟨ldBase k + 0xC, 0, 16⟩
def LD_BW_LIMIT_RATE (k : Nat) : Fld := ⟨ldBase k + 0x10, 0, 11⟩
def LD_BW_LIMIT_BURST_KIB (k : Nat) : Fld := ⟨ldBase k + 0x10, 16, 8⟩
def LD_STATUS_MEDIA_BUSY (k : Nat) : Fld := ⟨ldBase k + 0x14, 0, 1⟩
def LD_STATUS_OVER (k : Nat) : Fld := ⟨ldBase k + 0x14, 8, 24⟩
def CIPH_CTRL_STATUS_ACTIVE : Fld := ⟨0x040000, 0, 1⟩
def CIPH_CTRL_STATUS_SPARE_LEFT : Fld := ⟨0x040000, 1, 1⟩
def CIPH_CTRL_STATUS_FAULT : Fld := ⟨0x040000, 2, 1⟩
def CIPH_CTRL_STATUS_QUEUED : Fld := ⟨0x040000, 8, 6⟩
def CIPH_CTRL_STATUS_SUSPENDED : Fld := ⟨0x040000, 14, 2⟩
def CIPH_CTRL_COUNT_COUNT : Fld := ⟨0x040004, 0, 32⟩
def CIPH_CTRL_SUSPENDS_COUNT : Fld := ⟨0x040008, 0, 32⟩
def KEY_STATUS_RECORD_VALID : Fld := ⟨0x040010, 0, 2⟩
def KEY_STATUS_RECORD_LOST : Fld := ⟨0x040010, 2, 1⟩
def KEY_STATUS_RNG_OK : Fld := ⟨0x040010, 3, 1⟩
def KEY_STATUS_RNG_FAILS : Fld := ⟨0x040010, 8, 8⟩
def KEY_SLOT_STATE (slot : Nat) : Fld := ⟨0x040100 + 0x4 * slot, 0, 2⟩
def KEY_SLOT_SOURCE (slot : Nat) : Fld := ⟨0x040100 + 0x4 * slot, 2, 2⟩
def KEY_SLOT_PERSIST (slot : Nat) : Fld := ⟨0x040100 + 0x4 * slot, 4, 1⟩
def KEY_SLOT_USE (slot : Nat) : Fld := ⟨0x040100 + 0x4 * slot, 5, 7⟩
def KEY_SLOT_GEN (slot : Nat) : Fld := ⟨0x040100 + 0x4 * slot, 16, 16⟩
def KEY_USAGE_COUNT (slot : Nat) : Fld := ⟨0x040200 + 0x4 * slot, 0, 32⟩
def CIPH_QCOUNT_COUNT (q : Nat) : Fld := ⟨qdBase q + 0x300, 0, 32⟩
def CIPH_DKC_MISS_COUNT (q : Nat) : Fld := ⟨qdBase q + 0x304, 0, 32⟩
def PAIR_STATUS_STATE (n : Nat) : Fld := ⟨pairBase n + 0x0, 0, 2⟩
def PAIR_STATUS_SERVES (n : Nat) : Fld := ⟨pairBase n + 0x0, 2, 4⟩
def PAIR_COUNT_CODEWORDS_COUNT (n : Nat) : Fld := ⟨pairBase n + 0x4, 0, 32⟩
def PAIR_COUNT_MISMATCH_COUNT (n : Nat) : Fld := ⟨pairBase n + 0x8, 0, 32⟩
def GAUGE_STATUS_READY : Fld := ⟨0x050000, 0, 1⟩
def GAUGE_STATUS_DISAGREE : Fld := ⟨0x050000, 1, 1⟩
def GAUGE_STATUS_REST : Fld := ⟨0x050000, 2, 1⟩
def GAUGE_STATUS_SOCV_VALID : Fld := ⟨0x050000, 3, 1⟩
def GAUGE_STATUS_CONV_SAT : Fld := ⟨0x050000, 4, 1⟩
def GAUGE_STATUS_NTC_VALID : Fld := ⟨0x050000, 5, 2⟩
def GAUGE_STATUS_WRITE_PENDING : Fld := ⟨0x050000, 7, 1⟩
def GAUGE_STATUS_WRITING : Fld := ⟨0x050000, 8, 1⟩
def GAUGE_CHARGE_LO_CHARGE : Fld := ⟨0x050004, 0, 32⟩
def GAUGE_CHARGE_HI_CHARGE : Fld := ⟨0x050008, 0, 16⟩
def GAUGE_MEAS_CURRENT_MA : Fld := ⟨0x05000C, 0, 16⟩
def GAUGE_MEAS_T0 : Fld := ⟨0x05000C, 16, 8⟩
def GAUGE_MEAS_T1 : Fld := ⟨0x05000C, 24, 8⟩
def GAUGE_CELLS_V0_MV : Fld := ⟨0x050010, 0, 16⟩
def GAUGE_CELLS_V1_MV : Fld := ⟨0x050010, 16, 16⟩
def GAUGE_SOC_COUNT : Fld := ⟨0x050014, 0, 16⟩
def GAUGE_SOC_V : Fld := ⟨0x050014, 16, 16⟩
def GAUGE_FCC_FCC_MAH : Fld := ⟨0x050018, 0, 16⟩
def GAUGE_FCC_DESIGN_MAH : Fld := ⟨0x050018, 16, 16⟩
def GAUGE_EAVAIL_J : Fld := ⟨0x05001C, 0, 32⟩
def GAUGE_PMAX_DECIW : Fld := ⟨0x050020, 0, 16⟩
def GAUGE_LIMITS_RESERVE_PCT : Fld := ⟨0x050024, 0, 6⟩
def GAUGE_LIMITS_WRITE_FLOOR_MV : Fld := ⟨0x050024, 16, 13⟩
def GAUGE_CFG_VMIN : Fld := ⟨0x050028, 0, 12⟩
def GAUGE_CFG_MARGIN_PCT : Fld := ⟨0x050028, 12, 4⟩
def GAUGE_CFG_IMAX : Fld := ⟨0x050028, 16, 8⟩
def GAUGE_SHUNT_UOHM : Fld := ⟨0x05002C, 0, 16⟩
def GAUGE_SYNC_ERR : Fld := ⟨0x050030, 0, 16⟩
def GAUGE_SYNC_KIND : Fld := ⟨0x050030, 16, 8⟩
def GAUGE_SYNC_Z_REJECTS : Fld := ⟨0x050030, 24, 8⟩
def GAUGE_TBL_SEL_ROW : Fld := ⟨0x050034, 0, 7⟩
def GAUGE_TBL_SEL_COL : Fld := ⟨0x050034, 7, 2⟩
def GAUGE_TBL_SEL_TABLE : Fld := ⟨0x050034, 9, 1⟩
def GAUGE_TBL_DATA_VALUE : Fld := ⟨0x050038, 0, 16⟩
def PACK_STATE_STATE : Fld := ⟨0x050100, 0, 3⟩
def PACK_STATE_FAULT : Fld := ⟨0x050100, 4, 4⟩
def PACK_STATE_FET : Fld := ⟨0x050100, 8, 1⟩
def PACK_STATE_CHG : Fld := ⟨0x050100, 9, 1⟩
def PACK_STATE_CHG_INHIBIT : Fld := ⟨0x050100, 10, 1⟩
def PACK_STATE_AUTH_OK : Fld := ⟨0x050100, 11, 1⟩
def PACK_CFG_EEPROM_ADDR : Fld := ⟨0x050104, 0, 7⟩
def PACK_CFG_AUTH_ADDR : Fld := ⟨0x050104, 8, 7⟩
def PACK_CFG_AUTH_EN : Fld := ⟨0x050104, 15, 1⟩
def PACK_CFG_GROUP_CHG : Fld := ⟨0x050104, 16, 1⟩
def PACK_CHG_TAPER_MA : Fld := ⟨0x050108, 0, 8⟩
def PACK_CHG_RECHARGE_PCT : Fld := ⟨0x050108, 8, 7⟩
def PACK_CHG_TMIN : Fld := ⟨0x050108, 16, 4⟩
def PACK_CHG_TMAX : Fld := ⟨0x050108, 20, 4⟩
def PACK_CHG_TIMEOUT_MIN : Fld := ⟨0x050108, 24, 8⟩
def PACK_CYCLES_COUNT : Fld := ⟨0x05010C, 0, 16⟩
def PACK_SERIAL_LO_SERIAL : Fld := ⟨0x050110, 0, 32⟩
def PACK_SERIAL_HI_SERIAL : Fld := ⟨0x050114, 0, 32⟩
def LEARN_CFG_DAYS : Fld := ⟨0x050200, 0, 8⟩
def LEARN_CFG_POWER_DW : Fld := ⟨0x050200, 8, 8⟩
def LEARN_CFG_MAX_MIN : Fld := ⟨0x050200, 16, 8⟩
def LEARN_CFG_FCC_MIN_PCT : Fld := ⟨0x050200, 24, 7⟩
def LEARN_STATUS_PHASE : Fld := ⟨0x050204, 0, 2⟩
def LEARN_STATUS_PERMIT : Fld := ⟨0x050204, 2, 1⟩
def LEARN_STATUS_RESULT : Fld := ⟨0x050204, 4, 3⟩
def LEARN_STATUS_NS : Fld := ⟨0x050204, 7, 1⟩
def LEARN_STATUS_Q_MAH : Fld := ⟨0x050204, 8, 16⟩
def LEARN_LAST_LO_TIME : Fld := ⟨0x050208, 0, 32⟩
def LEARN_LAST_HI_TIME : Fld := ⟨0x05020C, 0, 32⟩
def SEQ_STATUS_STATE : Fld := ⟨0x060000, 0, 3⟩
def SEQ_STATUS_STAGE : Fld := ⟨0x060000, 3, 3⟩
def SEQ_STATUS_RAILS_UP : Fld := ⟨0x060000, 6, 1⟩
def SEQ_STATUS_ON_LATCH : Fld := ⟨0x060000, 7, 1⟩
def SEQ_STATUS_OFF_LATCH : Fld := ⟨0x060000, 8, 1⟩
def SEQ_STATUS_ARMED : Fld := ⟨0x060000, 9, 1⟩
def SEQ_STATUS_GF_IN : Fld := ⟨0x060000, 10, 1⟩
def SEQ_STATUS_GF_OUT : Fld := ⟨0x060000, 11, 1⟩
def SEQ_STATUS_INCIDENT : Fld := ⟨0x060000, 12, 1⟩
def SEQ_CTRL_AUTO_ON : Fld := ⟨0x060004, 0, 1⟩
def SEQ_CTRL_OFF_REQ : Fld := ⟨0x060004, 1, 1⟩
def SEQ_CTRL_SHIP : Fld := ⟨0x060004, 2, 1⟩
def SEQ_TIMING_STAGE_GAP_MS : Fld := ⟨0x060008, 0, 8⟩
def SEQ_TIMING_UP_SETTLE_MS : Fld := ⟨0x060008, 8, 8⟩
def SEQ_TIMING_OFF_GAP_MS : Fld := ⟨0x060008, 16, 8⟩
def SEQ_TIMING_RETRY_SF : Fld := ⟨0x060008, 24, 8⟩
def SEQ_BTN_LAST_HOLD_MS : Fld := ⟨0x06000C, 0, 16⟩
def SEQ_BTN_SHORT : Fld := ⟨0x06000C, 16, 8⟩
def SEQ_BTN_IGNORED : Fld := ⟨0x06000C, 24, 8⟩
def SEQ_FIRST_RAIL : Fld := ⟨0x060010, 0, 5⟩
def SEQ_FIRST_KIND : Fld := ⟨0x060010, 5, 3⟩
def SEQ_FIRST_SAME_FRAME : Fld := ⟨0x060010, 8, 6⟩
def SEQ_FIRST_TIME_LO_TIME : Fld := ⟨0x060014, 0, 32⟩
def SEQ_FIRST_TIME_HI_TIME : Fld := ⟨0x060018, 0, 32⟩
def SEQ_LOG_NEXT : Fld := ⟨0x06001C, 0, 15⟩
def SEQ_LOG_WRAPS : Fld := ⟨0x06001C, 16, 16⟩
def SEQ_GROUP_SIZE_M1 : Fld := ⟨0x060100, 0, 5⟩
def SEQ_GROUP_STAGGER_MS : Fld := ⟨0x060100, 8, 8⟩
def SEQ_GROUP_CHG_MAX : Fld := ⟨0x060100, 16, 5⟩
def SEQ_GROUP_SAVE_RELAY : Fld := ⟨0x060100, 21, 1⟩
def SEQ_GROUP_RELAY_OFF : Fld := ⟨0x060100, 22, 1⟩
def SEQ_GROUP_GF_ON_SAVE : Fld := ⟨0x060100, 23, 1⟩
def SEQ_GROUP_DISCOVER : Fld := ⟨0x060100, 24, 8⟩
def SEQ_GROUP_STATUS_POSITION : Fld := ⟨0x060104, 0, 6⟩
def SEQ_GROUP_STATUS_MASTER : Fld := ⟨0x060104, 6, 1⟩
def SEQ_GROUP_STATUS_STANDALONE : Fld := ⟨0x060104, 7, 1⟩
def SEQ_GROUP_STATUS_FOUND : Fld := ⟨0x060104, 8, 6⟩
def SEQ_GROUP_STATUS_GRANTS : Fld := ⟨0x060104, 14, 6⟩
def SEQ_GROUP_STATUS_LEARNER : Fld := ⟨0x060104, 20, 6⟩
def SEQ_GROUP_STATUS_CHG_PERMIT : Fld := ⟨0x060104, 26, 1⟩
def SEQ_GROUP_STATUS_LEARN_PERMIT : Fld := ⟨0x060104, 27, 1⟩
def SEQ_GROUP_STATUS_MASTER_SEEN : Fld := ⟨0x060104, 28, 1⟩
def SEQ_MEMBERS_MAP : Fld := ⟨0x060108, 0, 32⟩
def RAIL_CFG0_PRESENT (k : Nat) : Fld := ⟨railBase k + 0x0, 0, 1⟩
def RAIL_CFG0_USE_PG (k : Nat) : Fld := ⟨railBase k + 0x0, 1, 1⟩
def RAIL_CFG0_GF (k : Nat) : Fld := ⟨railBase k + 0x0, 2, 1⟩
def RAIL_CFG0_REACTION (k : Nat) : Fld := ⟨railBase k + 0x0, 3, 2⟩
def RAIL_CFG0_RETRIES (k : Nat) : Fld := ⟨railBase k + 0x0, 5, 3⟩
def RAIL_CFG0_DOMAIN (k : Nat) : Fld := ⟨railBase k + 0x0, 8, 3⟩
def RAIL_CFG0_INDEX (k : Nat) : Fld := ⟨railBase k + 0x0, 11, 2⟩
def RAIL_CFG1_PARENT0 (k : Nat) : Fld := ⟨railBase k + 0x4, 0, 6⟩
def RAIL_CFG1_PARENT1 (k : Nat) : Fld := ⟨railBase k + 0x4, 6, 6⟩
def RAIL_CFG1_PARENT2 (k : Nat) : Fld := ⟨railBase k + 0x4, 12, 6⟩
def RAIL_CFG1_PARENT3 (k : Nat) : Fld := ⟨railBase k + 0x4, 18, 6⟩
def RAIL_CFG2_ON_DELAY (k : Nat) : Fld := ⟨railBase k + 0x8, 0, 8⟩
def RAIL_CFG2_RAMP (k : Nat) : Fld := ⟨railBase k + 0x8, 8, 8⟩
def RAIL_CFG2_GAIN (k : Nat) : Fld := ⟨railBase k + 0x8, 16, 8⟩
def RAIL_CFG3_UV_FAULT (k : Nat) : Fld := ⟨railBase k + 0xC, 0, 8⟩
def RAIL_CFG3_UV_WARN (k : Nat) : Fld := ⟨railBase k + 0xC, 8, 8⟩
def RAIL_CFG3_OV_WARN (k : Nat) : Fld := ⟨railBase k + 0xC, 16, 8⟩
def RAIL_CFG3_OV_FAULT (k : Nat) : Fld := ⟨railBase k + 0xC, 24, 8⟩
def RAIL_STATUS_STATE (k : Nat) : Fld := ⟨railBase k + 0x10, 0, 3⟩
def RAIL_STATUS_WARN (k : Nat) : Fld := ⟨railBase k + 0x10, 3, 1⟩
def RAIL_STATUS_LAST_FAULT (k : Nat) : Fld := ⟨railBase k + 0x10, 4, 3⟩
def RAIL_STATUS_RETRIES_LEFT (k : Nat) : Fld := ⟨railBase k + 0x10, 7, 3⟩
def RAIL_STATUS_STAGE (k : Nat) : Fld := ⟨railBase k + 0x10, 10, 4⟩
def RAIL_ADC_RAW (k : Nat) : Fld := ⟨railBase k + 0x14, 0, 12⟩
def RAIL_ADC_MV (k : Nat) : Fld := ⟨railBase k + 0x14, 16, 16⟩
def TW0_CFG_PEC_REQ : Fld := ⟨0x070000, 0, 1⟩
def TW0_CFG_MCTP_EN : Fld := ⟨0x070000, 1, 1⟩
def TW0_STATUS_ADDR : Fld := ⟨0x070004, 0, 7⟩
def TW0_STATUS_AON : Fld := ⟨0x070004, 7, 1⟩
def TW0_STATUS_PEC_ERR : Fld := ⟨0x070004, 8, 1⟩
def TW0_STATUS_MALFORMED : Fld := ⟨0x070004, 9, 1⟩
def TW0_STATUS_UNMAPPED : Fld := ⟨0x070004, 10, 1⟩
def TW0_STATUS_TIMEOUT : Fld := ⟨0x070004, 11, 1⟩
def TW0_STATUS_OFF_ACCESS : Fld := ⟨0x070004, 12, 1⟩
def TW0_STATUS_EID : Fld := ⟨0x070004, 16, 8⟩
def TW0_PAGE_PAGE : Fld := ⟨0x070008, 0, 8⟩
def TW0_AON_CMD_ON_REQ : Fld := ⟨0x07000C, 0, 1⟩
def TW0_COUNT_MCTP_DROP_COUNT : Fld := ⟨0x070010, 0, 32⟩
def TW_CTRL_SPEED (k : Nat) : Fld := ⟨twBase k + 0x0, 0, 2⟩
def TW_CTRL_RST_US (k : Nat) : Fld := ⟨twBase k + 0x0, 8, 8⟩
def TW_STATUS_BUSY (k : Nat) : Fld := ⟨twBase k + 0x4, 0, 1⟩
def TW_STATUS_SCL_TIMEOUT (k : Nat) : Fld := ⟨twBase k + 0x4, 1, 1⟩
def TW_STATUS_SDA_TIMEOUT (k : Nat) : Fld := ⟨twBase k + 0x4, 2, 1⟩
def TW_STATUS_HUNG (k : Nat) : Fld := ⟨twBase k + 0x4, 3, 1⟩
def TW_STATUS_CONFLICT (k : Nat) : Fld := ⟨twBase k + 0x4, 4, 1⟩
def TW_STATUS_LAST (k : Nat) : Fld := ⟨twBase k + 0x4, 5, 3⟩
def TW_COUNT_ARB_LOST_COUNT (k : Nat) : Fld := ⟨twBase k + 0x8, 0, 32⟩
def TW_COUNT_CLEAR_COUNT (k : Nat) : Fld := ⟨twBase k + 0xC, 0, 32⟩
def TW_COUNT_FAIL_COUNT (k : Nat) : Fld := ⟨twBase k + 0x10, 0, 32⟩
def EVT_CTRL_FIRST_CLR : Fld := ⟨0x020000, 0, 1⟩
def EVT_CTRL_NEXT_POP : Fld := ⟨0x020000, 1, 1⟩
def EVT_CTRL_GF_RELEASE : Fld := ⟨0x020000, 2, 1⟩
def EVT_CTRL_FIRST_MIN : Fld := ⟨0x020000, 4, 3⟩
def EVT_STATUS_FIRST_VALID : Fld := ⟨0x020004, 0, 1⟩
def EVT_STATUS_NEXT_OVF : Fld := ⟨0x020004, 1, 1⟩
def EVT_STATUS_ALERT_PEND : Fld := ⟨0x020004, 2, 1⟩
def EVT_STATUS_GF_HELD : Fld := ⟨0x020004, 3, 1⟩
def EVT_STATUS_RESET_DROPPED : Fld := ⟨0x020004, 4, 1⟩
def EVT_STATUS_RING_ERR : Fld := ⟨0x020004, 5, 1⟩
def EVT_STATUS_WORST : Fld := ⟨0x020004, 8, 3⟩
def EVT_STATUS_NEXT_FILL : Fld := ⟨0x020004, 16, 9⟩
def EVT_FIRST_W0_VALUE : Fld := ⟨0x020010, 0, 32⟩
def EVT_FIRST_W1_VALUE : Fld := ⟨0x020014, 0, 32⟩
def EVT_FIRST_W2_VALUE : Fld := ⟨0x020018, 0, 32⟩
def EVT_FIRST_W3_VALUE : Fld := ⟨0x02001C, 0, 32⟩
def EVT_FIRST_TIME_HI_VALUE : Fld := ⟨0x020020, 0, 32⟩
def EVT_NEXT_W0_VALUE : Fld := ⟨0x020030, 0, 32⟩
def EVT_NEXT_W1_VALUE : Fld := ⟨0x020034, 0, 32⟩
def EVT_NEXT_W2_VALUE : Fld := ⟨0x020038, 0, 32⟩
def EVT_NEXT_W3_VALUE : Fld := ⟨0x02003C, 0, 32⟩
def EVT_NEXT_TIME_HI_VALUE : Fld := ⟨0x020040, 0, 32⟩
def EVT_FIRST_INFO_VALID : Fld := ⟨0x020024, 0, 1⟩
def EVT_FIRST_INFO_SAME_CYCLE : Fld := ⟨0x020024, 1, 1⟩
def EVT_FIRST_INFO_SEGMENT : Fld := ⟨0x020024, 2, 3⟩
def EVT_FIRST_INFO_SAME_COUNT : Fld := ⟨0x020024, 8, 3⟩
def EVT_NEXT_INFO_VALID : Fld := ⟨0x020044, 0, 1⟩
def EVT_NEXT_INFO_SAME_CYCLE : Fld := ⟨0x020044, 1, 1⟩
def EVT_NEXT_INFO_SEGMENT : Fld := ⟨0x020044, 2, 3⟩
def EVT_NEXT_INFO_SAME_COUNT : Fld := ⟨0x020044, 8, 3⟩
def EVT_DROPPED_COUNT : Fld := ⟨0x020050, 0, 32⟩
def EVT_NEXT_LOST_COUNT : Fld := ⟨0x020054, 0, 32⟩
def EVT_SFG_STATUS_SEALED : Fld := ⟨0x020070, 0, 1⟩
def EVT_SFG_STATUS_PLUMB_CLEAN : Fld := ⟨0x020070, 1, 1⟩
def EVT_SFG_STATUS_PATROLS : Fld := ⟨0x020070, 2, 1⟩
def EVT_SFG_STATUS_LOCKSTEP : Fld := ⟨0x020070, 3, 1⟩
def EVT_SFG_STATUS_DRAIN_BOUND : Fld := ⟨0x020070, 4, 1⟩
def EVT_SFG_STATUS_IN_LIMITS : Fld := ⟨0x020070, 5, 1⟩
def EVT_SFG_STATUS_ARMED : Fld := ⟨0x020070, 6, 1⟩
def EVT_SFG_STATUS_OBSERVERS : Fld := ⟨0x020070, 7, 1⟩
def EVT_SFG_STATUS_HOLDS : Fld := ⟨0x020070, 8, 1⟩
def EVT_CFG_RECORD (src : Nat) : Fld := ⟨0x021000 + 0x4 * src, 0, 1⟩
def EVT_CFG_CXL (src : Nat) : Fld := ⟨0x021000 + 0x4 * src, 1, 1⟩
def EVT_CFG_ALERT (src : Nat) : Fld := ⟨0x021000 + 0x4 * src, 2, 1⟩
def EVT_CFG_RETIRE (src : Nat) : Fld := ⟨0x021000 + 0x4 * src, 3, 1⟩
def EVT_CFG_GF (src : Nat) : Fld := ⟨0x021000 + 0x4 * src, 4, 1⟩
def EVT_CFG_SAVE (src : Nat) : Fld := ⟨0x021000 + 0x4 * src, 5, 1⟩
def EVT_CFG_RESET (src : Nat) : Fld := ⟨0x021000 + 0x4 * src, 6, 1⟩
def EVT_CFG_ACT_SEV (src : Nat) : Fld := ⟨0x021000 + 0x4 * src, 8, 3⟩
def EVT_COUNT_RAISED (src : Nat) : Fld := ⟨0x023000 + 0x4 * src, 0, 16⟩
def EVT_COUNT_MAX_SEV (src : Nat) : Fld := ⟨0x023000 + 0x4 * src, 16, 3⟩
def CFG_STATUS_SEALED : Fld := ⟨0x090000, 0, 1⟩
def CFG_STATUS_COPY : Fld := ⟨0x090000, 1, 1⟩
def CFG_STATUS_FALLBACK : Fld := ⟨0x090000, 2, 1⟩
def CFG_STATUS_ENCRYPTED : Fld := ⟨0x090000, 3, 1⟩
def CFG_STATUS_WARM_LOAD : Fld := ⟨0x090000, 4, 1⟩
def CFG_STATUS_CIETTE_CHECKS : Fld := ⟨0x090000, 5, 3⟩
def CFG_STATUS_TOPCOAT_REJECTS : Fld := ⟨0x090000, 8, 8⟩
def CFG_IMAGE_SEQ_LO_SEQ : Fld := ⟨0x090004, 0, 32⟩
def CFG_IMAGE_SEQ_HI_SEQ : Fld := ⟨0x090008, 0, 32⟩
def CFG_LOAD_LOAD_MS : Fld := ⟨0x09000C, 0, 8⟩
def CFG_LOAD_RECORDS : Fld := ⟨0x09000C, 8, 16⟩
def CFG_LOAD_SECTIONS : Fld := ⟨0x09000C, 24, 8⟩
def CFG_REJECT_TYPE : Fld := ⟨0x090010, 0, 16⟩
def CFG_REJECT_INDEX : Fld := ⟨0x090010, 16, 16⟩
def CFG_LAYOUT_CRC_CRC : Fld := ⟨0x090014, 0, 32⟩
def CAL_STATUS_UNDERCOAT_OK : Fld := ⟨0x090100, 0, 4⟩
def CAL_SEL_CHANNEL : Fld := ⟨0x090104, 0, 6⟩
def CAL_SEL_LAYER : Fld := ⟨0x090104, 6, 2⟩
def CAL_SEL_ITEM : Fld := ⟨0x090104, 8, 1⟩
def CAL_DATA_VALUE : Fld := ⟨0x090108, 0, 32⟩
def CAL_REJECTED_LO_MAP : Fld := ⟨0x090110, 0, 32⟩
def CAL_REJECTED_HI_MAP : Fld := ⟨0x090114, 0, 32⟩
def UPD_STATUS_LOCK : Fld := ⟨0x0A0000, 0, 1⟩
def UPD_STATUS_OWNER : Fld := ⟨0x0A0000, 1, 2⟩
def UPD_STATUS_PHASE : Fld := ⟨0x0A0000, 3, 3⟩
def UPD_STATUS_RUNNING : Fld := ⟨0x0A0000, 6, 1⟩
def UPD_STATUS_BOOT_FAILS : Fld := ⟨0x0A0000, 7, 2⟩
def UPD_STATUS_RECOVERY : Fld := ⟨0x0A0000, 9, 1⟩
def UPD_STATUS_RECOVERY_CAUSE : Fld := ⟨0x0A0000, 10, 3⟩
def UPD_BOOT_OK : Fld := ⟨0x0A0004, 0, 1⟩
def UPD_SVN_FUSED : Fld := ⟨0x0A0008, 0, 7⟩
def UPD_SVN_RUNNING : Fld := ⟨0x0A0008, 8, 7⟩
def UPD_ACT_SEQ_SEQ : Fld := ⟨0x0A000C, 0, 32⟩
def UPD_CTRL_IDLE_S : Fld := ⟨0x0A0010, 0, 8⟩
def UPD_STAGED_BYTES : Fld := ⟨0x0A0014, 0, 25⟩
def UPD_STAGED_TARGET : Fld := ⟨0x0A0014, 25, 3⟩
def PERS_OFF_PENDING : Fld := ⟨0x030018, 0, 1⟩
def PERS_OFF_SHIP : Fld := ⟨0x030018, 1, 1⟩
def PERS_OFF_TIMEOUT : Fld := ⟨0x030018, 2, 1⟩
def PERS_OFF_ACK : Fld := ⟨0x030018, 3, 1⟩
def PERS_OFF_WAIT_S : Fld := ⟨0x030018, 8, 8⟩
def PERS_OFF_ENDED_BY : Fld := ⟨0x030018, 16, 3⟩
def PERS_START_DECIDED : Fld := ⟨0x03001C, 0, 1⟩
def PERS_START_ORIGIN : Fld := ⟨0x03001C, 1, 2⟩
def PERS_START_RAILS_UP_MS : Fld := ⟨0x03001C, 4, 12⟩
def PERS_START_READY_MS : Fld := ⟨0x03001C, 16, 12⟩
def DEV_ID_PART : Fld := ⟨0x000000, 0, 16⟩
def DEV_ID_FAMILY : Fld := ⟨0x000000, 16, 16⟩
def DEV_STEPPING_DIGIT : Fld := ⟨0x000004, 0, 4⟩
def DEV_STEPPING_LETTER : Fld := ⟨0x000004, 4, 4⟩
def DEV_STEPPING_ROM_REV : Fld := ⟨0x000004, 8, 8⟩
def DEV_STATE_POWER : Fld := ⟨0x000008, 0, 3⟩
def DEV_STATE_MEDIA_READY : Fld := ⟨0x000008, 3, 1⟩
def DEV_STATE_SAVE_ACTIVE : Fld := ⟨0x000008, 4, 1⟩
def DEV_STATE_START_STATE : Fld := ⟨0x000008, 5, 2⟩
def DEV_STATE_DECIDED : Fld := ⟨0x000008, 7, 1⟩
def DEV_STATE_ARMED : Fld := ⟨0x000008, 8, 1⟩
def DEV_STATE_SFG_HOLDS : Fld := ⟨0x000008, 9, 1⟩
def DEV_STATE_COLLECTOR_LOST : Fld := ⟨0x000008, 10, 1⟩
def DEV_STATE_ALERT : Fld := ⟨0x000008, 11, 1⟩
def DEV_STATE_AON_COPY : Fld := ⟨0x000008, 12, 1⟩
def DEV_SERIAL_LO_SERIAL : Fld := ⟨0x00000C, 0, 32⟩
def DEV_SERIAL_HI_SERIAL : Fld := ⟨0x000010, 0, 32⟩
def DEV_POP_SC_PRESENT : Fld := ⟨0x000014, 0, 16⟩
def DEV_POP_DIES : Fld := ⟨0x000014, 16, 8⟩
def DEV_POP_RAILS : Fld := ⟨0x000014, 24, 6⟩
def TIME_NS_LO_TIME : Fld := ⟨0x000018, 0, 32⟩
def TIME_NS_HI_TIME : Fld := ⟨0x00001C, 0, 32⟩
def FRAME_NUM_LO_FRAME : Fld := ⟨0x000020, 0, 32⟩
def FRAME_NUM_HI_FRAME : Fld := ⟨0x000024, 0, 22⟩
def DEV_ACCESS_UNMAPPED : Fld := ⟨0x000030, 0, 1⟩
def DEV_ACCESS_PARTIAL : Fld := ⟨0x000030, 1, 1⟩
def DEV_ACCESS_MISALIGNED : Fld := ⟨0x000030, 2, 1⟩
def DEV_ACCESS_DISCARDED : Fld := ⟨0x000030, 3, 1⟩
def DEV_ACCESS_OFFSET : Fld := ⟨0x000030, 8, 24⟩
def DEV_SCRATCH_VALUE : Fld := ⟨0x000040, 0, 32⟩
def PLUMB_SEL_CLASS : Fld := ⟨0x010310, 0, 4⟩
def PLUMB_SEL_UNIT : Fld := ⟨0x010310, 4, 8⟩
def PLUMB_SEL_WHICH : Fld := ⟨0x010310, 12, 2⟩
def PLUMB_DATA_CRC : Fld := ⟨0x010314, 0, 32⟩

end Reg

end Sys2Proof.Machine
end

