-- ==== Sys2Proof/Machine/State.lean ====
section
/-!
DEFINITION. Sys2Proof/Machine/State.lean: everything the spec gives the block, as plain data: registers, tables, queues,
engines, pins, what DRAM and flash hold, and the queue of waiting commands; the reasons a step stops; the state after
reset.
-/
namespace Sys2Proof.Machine

/-! ## Time, tick and reduction tree (02_frame_tick_and_epochs) -/

/-- Time and the tick generator (R20 to R28). `devTime` is the device time of the current frame's start while the main
clocks run, and the AON domain's device time otherwise; `cycle` is the CCLK cycle within the frame at which the latest
command came (R20: one cycle is 1 ns). -/
structure Tick where
  devTime    : Nat := 0
  cycle      : Nat := 0
  aonCount   : Nat := 0
  aonFrac    : Nat := 0
  clocksOn   : Bool := false
  /-- Waiting for the AON tick at which the main clocks' first frame is placed (R22). -/
  starting   : Bool := false
  aonPowered : Bool := true
  inTimeA    : Nat := 1024
  inTimeB    : Nat := 1024
  /-- Consecutive missed frame-dones of a unit, keyed 256 × class + index (R28). -/
  misses     : Sparse Nat := []
  failed     : List Nat := []
  /-- Contributions latched at the latest boundary (R15, R16): exposure by quadrant. -/
  formExpo   : List Nat := [0, 0, 0, 0]
  /-- The budget and the pack state (Table 13.2) formed in the frame, delivered at the next boundary (Table 1.10). -/
  formBudget : Nat := 0
  formPack   : Nat := 0
  /-- The latest superframe whose boundary has been worked. -/
  superAt    : Nat := 0
  /-- The setting time as the latest superframe boundary found it (R65, R87); 0 before the first. -/
  setting    : Nat := 0
  deriving DecidableEq, Repr

/-- An epoch commit that waits for its boundary (R38 to R42). -/
structure Commit where
  epoch    : Nat
  target   : Nat
  /-- The snapshot of the shadow copies taken at the vote (R40), once a vote was ready. -/
  snapshot : Option (Sparse Word) := none
  abandon  : Bool := false
  deriving DecidableEq, Repr

/-- The epoch and Plumb block (R33 to R50). -/
structure Plumb where
  commit    : Option Commit := none
  /-- Shadow copies of RWS registers: a listed word is the shadow, an unlisted one equals the live word (R4, R5). -/
  shadow    : Sparse Word := []
  /-- The reference copy of the RWL and RWS words (R46), as the live words were at the seal or the latest epoch. -/
  reference : Sparse Word := []
  /-- Common fields (R45, R505): the bits of each register that a broadcast record, or a section for every unit, last set,
  keyed 2^24 × kind of unit + offset in the unit's block. -/
  common    : Sparse Word := []
  /-- The reference as it stood at the latest superframe boundary, and the folds that came back wrong there with their
  values (R47, R569), keyed 2 × (256 × class + unit) + fold. -/
  foldRef   : Sparse Word := []
  /-- The references that epochs of a superframe replaced, each with the frame of the superframe at whose boundary it ceased to
  hold (R46): those of the running superframe, and those of the one before it. -/
  epochs    : List (Nat × Sparse Word) := []
  foldPast  : List (Nat × Sparse Word) := []
  wrong     : Sparse Word := []
  /-- Units held powered down, 256 × class + index (R39, R44, R48). -/
  heldDown  : List Nat := []
  deriving DecidableEq, Repr

/-- What one register path keeps of its own (R33, R561, R562): banked registers, and captured snapshot members. -/
structure PathState where
  banked   : Sparse Word := []
  captured : Sparse Word := []
  deriving DecidableEq, Repr

/-! ## Patches, skim and wear (03, 04) -/

/-- The four states of Table 3.2. -/
inductive PatchSt where
  | dry | wet | set | skimming
  deriving DecidableEq, Repr

/-- One patch of the persistent partition: its patch state table entry (R63, R65, R145), whether its entry stands in
the wet cache (R82), and the mark of R172. -/
structure Patch where
  st       : PatchSt := .dry
  sw       : Nat := 0
  unfilled : Bool := false
  cached   : Bool := false
  lost     : Bool := false
  /-- Generation of the tenant key slot at the latest write (R355). -/
  keyGen   : Nat := 0
  deriving DecidableEq, Repr

/-- A ledger entry (Table 7.3), and the entry of a lost ledger page (R193), which fills as a failed version. -/
inductive LEntry where
  | none
  | version (die unit gen ctrLo : Nat)
  | revoked
  | failed
  deriving DecidableEq, Repr

/-- A journal entry (R189). -/
structure JEntry where
  patch : Nat
  entry : LEntry
  sf    : Nat
  deriving DecidableEq, Repr

/-! ## The flash image (07_image_and_ledger) -/

/-- A unit's type (Table 7.1), the fields of its header (Table 7.2) and what it holds. QUAD of a DATA unit is its patch's
quadrant; NONCE is the generation and the invocation counter field; UNIT is where the unit stands. -/
inductive UnitBody where
  | data (patch ld gen ctr : Nat) (key : Key) (content : List Host.Cell) (poison : BitVec 1024)
  | parity (quad : Nat) (members : List Nat)
  | journal (quad seq gen ctr : Nat) (key : Key) (entries : List JEntry)
  | checkpoint (quad page seq gen ctr : Nat) (key : Key) (entries : List (Nat × LEntry))
  | map (quad seq gen ctr : Nat) (key : Key) (pages : List (Nat × Nat × Nat))
  | filler (quad : Nat)
  deriving DecidableEq, Repr

/-- One 64 KiB unit of a die (R176, R186): programmed with good status, or a void (R183, R184); a JOURNAL unit whose
relocated copy has taken its place (R201). -/
structure FUnit where
  body  : UnitBody
  good  : Bool
  stale : Bool := false
  deriving DecidableEq, Repr

/-- An open or closed-but-unfinished stripe set (R179 to R185). -/
structure StripeSet where
  pos      : Nat
  unit     : Nat
  members  : List Nat := []
  voids    : List Nat := []
  firstSf  : Option Nat := none
  /-- A checkpoint closes it (R182, R191). -/
  asked    : Bool := false
  closed   : Bool := false
  deriving DecidableEq, Repr

/-- A version in flight (R64, R66, R124, R127). -/
inductive VStage where
  | handed | executing | programmed
  /-- The parity of its set is programmed too (R185). -/
  | covered
  deriving DecidableEq, Repr

structure Version where
  patch      : Nat
  ld         : Nat
  keyGen     : Nat
  gen        : Nat
  ctr        : Nat
  die        : Nat
  unit       : Option Nat := none
  stage      : VStage := .handed
  superseded : Bool := false
  abandoned  : Bool := false
  bySave     : Bool := false
  body       : UnitBody
  deriving DecidableEq, Repr

/-- The record kinds of Table 7.5. -/
inductive RecKind where
  | runOpen | sealSave | sealCheckpoint | sealRoll
  deriving DecidableEq, Repr

/-- A record (Table 7.5). The CMAC is held as the key it was made under (R194). -/
structure Record where
  kind         : RecKind
  incomplete   : Bool := false
  cause        : Nat := 0
  seq          : Nat
  run          : Nat
  gen          : Nat
  time         : Nat
  dsc          : Nat
  mapLoc       : List (Option (Nat × Nat))
  journalTail  : List (Option (Nat × Nat × Nat))
  ckptSf       : Nat
  pq           : List Nat
  firstRunTime : Nat
  key          : Key
  deriving DecidableEq, Repr

/-- One programmed copy of a record on a channel's record area (R178, R195). -/
structure RecCopy where
  record : Record
  copy   : Nat
  good   : Bool
  deriving DecidableEq, Repr

/-- A channel's record area (R178): the pages of the active block group and, still standing, those of the other one, oldest
first. -/
structure RecArea where
  other  : List RecCopy := []
  active : List RecCopy := []
  deriving DecidableEq, Repr

/-- A record copy's course (R138, R139, R195): its program is handed out, then its retry's; it has read back valid, or not
after its retry. -/
inductive CopyStage where
  | first | retry | valid | failed
  deriving DecidableEq, Repr

/-- A seal being written (R138, R195) and its two copies. -/
structure RecWrite where
  record : Record
  copy0  : CopyStage := .first
  copy1  : CopyStage := .first
  deriving DecidableEq, Repr

/-- A rebuild in the stripe parity unit's accumulator (R8, R9): the unit, the channels whose pages are still to come, and
those that could not be read. -/
structure Rebuild where
  die    : Nat
  unit   : Nat
  wait   : List Nat
  bad    : List Nat := []
  deriving DecidableEq, Repr

/-- The image as a whole (Table 7.5, R191 to R200, R207). -/
structure Image where
  ledger       : Sparse LEntry := []
  sets         : List StripeSet := []
  records      : Sparse RecArea := []
  writing      : Option RecWrite := none
  rebuild      : Option Rebuild := none
  run          : Nat := 0
  runOpen      : Bool := false
  gen          : Nat := 0
  genOpen      : Bool := false
  genWarned    : Bool := false
  /-- The number the next generation takes. -/
  genNext      : Nat := 0
  /-- The ledger is loaded, or kept and the maps rebuilt, in this start (R147), and when the start's latest phase ended. -/
  loaded       : Bool := false
  phaseAt      : Nat := 0
  firstRunTime : Option Nat := none
  /-- The two newest valid seals (R199). -/
  seals        : List Record := []
  ckptSf       : Nat := 0
  /-- The superframe of the checkpoint in progress. -/
  ckptNew      : Nat := 0
  /-- Quadrants still to finish the checkpoint in progress (R191). -/
  ckptWait     : List Nat := []
  ckptActive   : Bool := false
  /-- Per position: open band, closed bands still holding units, erase sums by band (R177, R309). -/
  openBand     : Sparse (Option Nat) := []
  freshBand    : List Nat := []
  /-- Erase counts of bands, keyed 4096 × position + band (R308, R309). -/
  erases       : Sparse Nat := []
  usedBands    : List Nat := []
  /-- Collection in progress: (position, band), and bands waiting for levelling (R200, R310). -/
  collecting   : List (Nat × Nat) := []
  /-- Bands that the Sanitize of a function still wants erased: (function, position, band) (R337, R338). -/
  eraseBands   : List (Nat × Nat × Nat) := []
  /-- Image patrol (R207): when the pass began; by quadrant the place it has come to, 2^20 × die + unit, and how many units it
  has read; the quadrants whose part is complete. -/
  patrolStart  : Option Nat := none
  patrolPos    : Sparse Nat := []
  patrolRead   : Sparse Nat := []
  patrolDone   : List Nat := []
  deriving DecidableEq, Repr

/-! ## One quadrant: skim, save and restore engine, migration engine (04 to 06, 09) -/

/-- The class a fill runs at (R152, R155, R158, R165). -/
inductive FillCls where
  | background | faultIn | merge
  deriving DecidableEq, Repr

/-- A fill in flight (R151, R152, R158). -/
structure Fill where
  patch   : Nat
  cls     : FillCls
  /-- Raised to fault-in class after its read had started (R152): it needs no place any more. -/
  passed  : Bool := false
  /-- The die place a fault-in holds (R159), once taken. -/
  placed  : Bool := false
  placedAt : Nat := 0
  /-- Whether the version has been read, or rebuilt, and found decodable (R151). -/
  read    : Option Bool := none
  /-- Whether its tag compared (R363). -/
  tag     : Option Bool := none
  deriving DecidableEq, Repr

/-- A read that waits for a heal (R165): whom it answers, its line, when it arrived at its sub-channel. -/
structure HealWait where
  head    : Nat
  ld      : Nat
  tag     : Nat
  line    : Nat
  arrival : Nat
  deriving DecidableEq, Repr

/-- A heal of a patch in flight (R165 to R170): its lines that read uncorrectable, whether one of them showed an address
error, and the reads that wait for it. -/
structure Heal where
  patch   : Nat
  lines   : List Nat
  addrErr : Bool := false
  waiting : List HealWait := []
  read    : Option Bool := none
  tag     : Option Bool := none
  deriving DecidableEq, Repr

/-- A migration of one rank to a spare (R272 to R276). -/
structure Migration where
  j      : Nat
  rank   : Nat
  chunk  : Nat := 0
  deriving DecidableEq, Repr

/-- A relocation in flight (R201, R202): where the unit was, and where it goes. -/
structure Reloc where
  body     : UnitBody
  fromDie  : Nat
  fromUnit : Nat
  die      : Nat
  unit     : Option Nat := none
  programmed : Bool := false
  covered    : Bool := false
  deriving DecidableEq, Repr

/-- A unit at a quadrant's cipher dispatch (R362, R365): for an encryption no patch, for a decryption the patch that is filled or
healed; the next codeword to go out, the codewords running on pairs (local pair, codeword), the partial values Q_i formed, and
the tag once all sixteen are there. -/
structure CipherJob where
  patch   : Option Nat := none
  body    : UnitBody
  next    : Nat := 0
  running : List (Nat × Nat) := []
  parts   : List (Nat × BitVec 128) := []
  tag     : Option (BitVec 128) := none
  deriving DecidableEq, Repr

/-- One quadrant's engines. -/
structure Quad where
  /-- What a patch of this quadrant is when it is not listed in `patches` (R145, R146). -/
  dflt       : Patch := {}
  panelMap   : List Nat := []
  /-- The setting list, head first: panel and due superframe (R88). -/
  setting    : List (Nat × Nat) := []
  /-- The panel being worked on, and its patches that were refused since it was taken up (R91, R358, R604). -/
  panel      : Option (Nat × List Nat) := none
  /-- The frame in which no die could take a skim (R94). -/
  noStart    : Option Nat := none
  sweepPtr   : Nat := 0
  sweepClean : Bool := true
  /-- A panel whose 32 entries are being read (R89): no write to it since the read began. -/
  reading    : Option Nat := none
  /-- Pace accumulator and wear account, in 1/256 byte (R96, R101). -/
  pace       : Int := 0
  wear       : Int := 0
  /-- The superframe of the latest allowance; whether it found the endurance spent, and the life target past (R95, R99). -/
  allowSf    : Nat := 0
  wornOut    : Bool := false
  lifeOver   : Bool := false
  layoutPos  : Nat := 0
  /-- Skim programs completed in the running superframe (Table 4.16). -/
  skimSf     : Nat := 0
  versions   : List Version := []
  encCount   : Nat := 0
  ciph       : List CipherJob := []
  /-- By local channel, the LDPC engine that serves it (R285, R287, R288). -/
  engines    : List Nat := [0, 1, 2, 3]
  /-- Save: the walk's next local patch, patches given up, further failures of a patch (R126, R130). -/
  saveNext   : Nat := 0
  saveOn     : Bool := false
  saveFails  : Sparse Nat := []
  /-- Lines that the save's reads find uncorrectable (R129). -/
  saveBad    : List Nat := []
  saveDrained : Bool := false
  /-- The quadrant's bit of SAVE_TOKENS.WRITING as it contributes it (R133, R137). -/
  saveMask   : Bool := false
  /-- Fills, follow list, background sweep, merges (R153, R154, R164). -/
  fills      : List Fill := []
  follow     : List Nat := []
  fillPtr    : Nat := 0
  fillPace   : Nat := 0
  merges     : Sparse (BitVec 1024) := []
  heals      : List Heal := []
  railLost   : Bool := false
  /-- Ledger pages lost under R193. -/
  lostPages  : List Nat := []
  /-- Journal (R189, R190): the open unit's entries, its oldest superframe, the sequence number. -/
  journal    : List JEntry := []
  journalSf  : Option Nat := none
  journalSeq : Nat := 0
  journalTail : Option (Nat × Nat × Nat) := none
  changed    : List Nat := []
  pageLoc    : Sparse (Option (Nat × Nat)) := []
  mapLoc     : Option (Nat × Nat) := none
  /-- Checkpoint in progress (R191): 0 none, 1 its pages, 2 its MAP unit, 3 its journal unit; the pages still to be
  placed, and the journal sequence number that ends it. -/
  ckptStage  : Nat := 0
  ckptPages  : List Nat := []
  ckptSeq    : Nat := 0
  /-- The wear state kept in the house region across a warm reset (R605): account, P_q, A_q. -/
  houseWear  : Option (Int × Nat × Nat) := none
  /-- Migration (R271): the running one, the waiting list (j, rank), spares assigned by (j, rank), all ended ones. -/
  migration  : Option Migration := none
  migWait    : List (Nat × Nat) := []
  relocs     : List Reloc := []
  /-- Ledger units, and relocations (die, unit, within its channel only, order), that wait for a die that takes them. -/
  ledgerWait : List UnitBody := []
  relocWait  : List (Nat × Nat × Bool × Nat) := []
  spares     : List (Nat × Nat × Nat) := []
  migPace    : Nat := 0
  exhausted  : List (Nat × Nat) := []
  /-- Data key cache, most recent first: (slot, generation of the slot's key, generation g) (R364). -/
  dkc        : List (Nat × Nat × Nat) := []
  deriving DecidableEq, Repr

/-! ## Sub-channels (08, 09) -/

/-- Where a line stands below its quadrant (R216, R217, R221). -/
structure Loc where
  sc   : Nat
  rank : Nat
  bank : Nat
  row  : Nat
  col  : Nat
  off  : Nat
  deriving DecidableEq, Repr

/-- One request in a sub-channel queue (R223 to R233). `origin` is its position of Table 8.4; `dpa` is its line's DPA, or
its house-region offset. -/
structure QEntry where
  id       : Nat
  origin   : Nat
  dpa      : Nat
  house    : Bool := false
  loc      : Loc
  /-- A write's data; a scrub's write-back carries none, since it changes no content (R265). -/
  isWrite  : Bool := false
  write    : Option WriteData := none
  deadline : Nat
  saveCls  : Bool := false
  hint     : Nat := 0
  entered  : Nat
  head     : Option Nat := none
  ld       : Nat := 0
  tag      : Nat := 0
  /-- A write whose completion was returned; a scrub read that a later write to its line overtook (R265). -/
  done     : Bool := false
  /-- It reached its patch while that was unfilled (R162). -/
  fillWait : Bool := false
  /-- The order in which the sub-channel received it (R162, R226, R231). -/
  seq      : Nat := 0
  /-- No completion is returned any more: its head's link went down (R316). -/
  orphan   : Bool := false
  deriving DecidableEq, Repr

/-- A read whose column command issued, with what DRAM held then (R12, R260). -/
structure InFlight where
  entry  : QEntry
  data   : Line
  poison : Bool
  deriving DecidableEq, Repr

/-- An open bank: its row and the time of its latest column command (R227, R228). -/
structure Bank where
  row     : Nat
  lastCol : Nat
  hintOpen : Bool := false
  /-- The bank asks for PRE after its idle time (R228). -/
  idle     : Bool := false
  deriving DecidableEq, Repr

/-- What training keeps for one operating point, rank, lane and direction (R248 to R250). -/
structure TrainRes where
  centre : Nat := 0
  vref   : Nat := 0
  width  : Nat := 0
  run    : Nat := 0
  pass   : Bool := false
  deskew : List Nat := [0, 0, 0, 0]
  coarse : Nat := 0
  deriving DecidableEq, Repr

/-- A tracking pass (R252 to R257). -/
structure Pass where
  op       : Nat
  /-- Ranks whose step is still to end, the rank whose step runs, and the superframe in which the next step was asked for. -/
  todo     : List Nat
  running  : Option Nat := none
  asked    : Nat := 0
  /-- Measured (rank, lane, read shift, write shift, width). -/
  measured : List (Nat × Nat × Int × Int × Nat) := []
  deriving DecidableEq, Repr

/-- One sub-channel. -/
structure Sc where
  readQ     : List QEntry := []
  writeQ    : List QEntry := []
  inFlight  : List InFlight := []
  banks     : Sparse (Option Bank) := []
  /-- Banks in in-order mode and the write each waits for (R231). -/
  inOrder   : List (Nat × Nat) := []
  modeWrites : Nat := 0
  /-- The standby generator's point and whether it is locked (R215). -/
  standbyOp : Nat := 2
  locked    : Bool := true
  /-- The operating point that an epoch, a resume or a request has asked for (Table 8.10). -/
  want      : Option Nat := none
  /-- Refreshes due and not issued, less those pulled in, keyed 64 × rank + bank index (63 for all-bank) (R239). -/
  refDebt   : Sparse Int := []
  /-- When a refresh of each such key last fell due, and the ranks that run at halved intervals since their latest refresh (R236,
  R237). -/
  refAt     : Sparse Nat := []
  halved    : List Nat := []
  /-- The superframe of the latest MR4 poll (R238). -/
  mr4Sf     : Option Nat := none
  /-- Superframes below SC_IDLE.LOW_PCT, and column commands of the running superframe (R242). -/
  idleSf    : Nat := 0
  cols      : Nat := 0
  lastUse   : Sparse Nat := []
  qosSeen   : Nat := 0
  /-- Erasure and failure counts of the scrub period, keyed 10 × rank + device, or by rank (R268, R270). -/
  ceCount   : Sparse Nat := []
  addrCount : Sparse Nat := []
  wcrcCount : Sparse Nat := []
  scrubPos  : Nat := 0
  /-- When the scrub pass began (R264). -/
  scrubStart : Nat := 0
  /-- Write-backs of corrected scrub reads waiting at the entry port (R265). -/
  writeBack : List QEntry := []
  /-- Requests of the quadrant engine (1), the migration engine (2) and the state unit (4) that wait at the entry port, by
  its positions (R224). -/
  port      : List (Nat × QEntry) := []
  trained   : Sparse TrainRes := []
  /-- CA results by operating point (Table 9.1). -/
  ca        : List CaTrain := []
  pass      : Option Pass := none
  passDue   : Nat := 0
  narrow    : Sparse Nat := []
  trainFails : List (Nat × Nat) := []
  /-- Trained results hold for all four points (R147). -/
  ready     : Bool := false
  deriving DecidableEq, Repr

/-! ## Flash channels, dies, LDPC engines (10_flash_media) -/

/-- What a die operation does (Table 10.4). -/
inductive OpKind where
  | read (unit : Nat) (why : ReadWhy)
  | program (body : UnitBody) (unit : Option Nat)
  | record (rec : RecCopy)
  | erase (band : Nat)
  deriving DecidableEq, Repr

/-- A pending or running operation of a die queue (R292, R293): its order of Table 10.4, and the quadrant it serves. -/
structure DieOp where
  order : Nat
  kind  : OpKind
  quad  : Nat
  entered : Nat
  patch : Option Nat := none
  token : Bool := false
  /-- A program's data transfer (R294, R295): 1 it holds the channel's bus, 2 the data is loaded. 2 for a read: its data waits at
  the LDPC engine (R285). -/
  load  : Nat := 0
  /-- The program counts as failed whatever its status says (R287, R367). -/
  spoiled : Bool := false
  deriving DecidableEq, Repr

/-- One stored copy of a die's block map (R299): the blocks that replacements put into it, the spares left by plane, and what is
marked grown bad (plane, block) and pending bad (block group, plane). -/
structure BlockMap where
  seq       : Nat
  blocks    : Sparse Nat
  spareLeft : List Nat
  grown     : List (Nat × Nat)
  pending   : List (Nat × Nat)
  deriving DecidableEq, Repr

/-- One die and its queue. -/
structure Die where
  units    : Sparse (Option FUnit) := []
  nextUnit : Nat := 0
  /-- The die has no open band yet in this run (R213). -/
  noBand   : Bool := true
  /-- Units whose sets closed without them (R183). -/
  voids    : List Nat := []
  queue    : List DieOp := []
  /-- Requests whose class has no place left; they wait at their issuers (R292). -/
  held     : List DieOp := []
  current  : Option DieOp := none
  suspended : List DieOp := []
  timeouts : Nat := 0
  /-- Failed program units by band, for Table 10.5 (R305). -/
  failUnits : List (Nat × Nat) := []
  /-- Block map (R299 to R304): spare blocks left by plane, factory, grown and pending bad (band, plane), sequence. -/
  spareLeft : List Nat := [0, 0, 0, 0]
  spareInit : Nat := 0
  /-- The blocks that replacements put into the map, keyed 4 × block group + plane (R299, R302), and those marked grown bad
  (plane, block). -/
  blockMap  : Sparse Nat := []
  grownBad  : List (Nat × Nat) := []
  pendingBad : List (Nat × Nat) := []
  mapSeq   : Nat := 0
  /-- The two stored copies, the newer first. -/
  mapCopies : List BlockMap := []
  /-- Blocks retired (R95, R302 to R304). -/
  retiredBlocks : Nat := 0
  /-- Erase counts per block group and program total (R308, R311). -/
  bandErases : Sparse Nat := []
  wornOut  : List Nat := []
  programs : Nat := 0
  undecAtPatrol : Nat := 0
  sparesLowRaised : Bool := false
  /-- Live units to rebuild and move (R208, R209), and those of them that patrol found. -/
  rebuild  : List Nat := []
  patrolBad : List Nat := []
  deriving DecidableEq, Repr

/-- The retired-die list keeps (die, condition) (R306, Table 20.12). -/
abbrev RetiredList := List (Nat × Nat)

/-! ## Heads, logical devices, mailbox (11_fabric_ports) -/

/-- How far a request accepted by a head has come (R51, R104, R105, R163). -/
inductive HStage where
  /-- Waiting for the state probe's answer at level 3 (R104). -/
  | probing
  /-- Held with its completion until a frame below level 3, or behind such a write (R104, R105). -/
  | held
  /-- Free to enter its sub-channel queue. -/
  | ready
  deriving DecidableEq, Repr

/-- A host request a head has accepted and that has not yet entered a sub-channel queue (R12, R51). -/
structure HReq where
  id       : Nat
  ld       : Nat
  tag      : Nat
  dpa      : Nat
  write    : Option WriteData := none
  arrival  : Nat
  deadline : Nat
  stage    : HStage := .ready
  heldAt   : Nat := 0
  /-- Its patch was unfilled when it came (R163). -/
  fillWait : Bool := false
  /-- The completion has been returned (R51). -/
  done     : Bool := false
  /-- No completion is returned any more: its link went down (R316). -/
  orphan   : Bool := false
  deriving DecidableEq, Repr

/-- One fabric head (R313 to R328). -/
structure Head where
  reqs       : List HReq := []
  /-- Peak fills of the Req and RwD pools in the previous frame (R326). -/
  peakReq    : Nat := 0
  peakRwd    : Nat := 0
  earlyRaised : Bool := false
  /-- LDs for which LD_DECODE_ERR was raised in this frame (R319). -/
  decodeRaised : List Nat := []
  mediaReady : Bool := false
  /-- GPF Phase 2 waits for these completed writes, by identity, to enter DRAM (R60). -/
  gpf        : Option (List Nat) := none
  /-- The credits of the Req and RwD pools that the host was left with when their withholding last changed or a request took
  one (R327). -/
  reqCredit  : Nat := 0
  rwdCredit  : Nat := 0
  discarding : Bool := false
  phyOn      : Bool := false
  /-- How the link's lanes are connected, as its latest training found them (R578). -/
  reversed   : Bool := false
  inverted   : BitVec 16 := 0#16
  deriving DecidableEq, Repr

/-- One record of an event log (R335, Table 11.9). -/
structure LogRec where
  handle : Nat
  msg    : FaultMsg
  /-- 0 DRAM, 1 General Media, 2 Memory Module, 3 vendor. -/
  kind   : Nat
  time   : Nat
  /-- What Table 11.9 has the record hold beside the message. -/
  fields : List Nat := []
  deriving DecidableEq, Repr

/-- One of the four event logs of a function. -/
structure EvLog where
  recs     : List LogRec := []
  overflow : Option Nat := none
  lost     : Nat := 0
  next     : Nat := 1
  deriving DecidableEq, Repr

/-- What a background command still has to do (R334, R337 to R342). -/
inductive BgKind where
  | scan (start len : Nat)
  | erase (sanitize : Bool)
  | eraseSlot (regenerate : Bool)
  | deviceErase (sanitize : Bool)
  deriving DecidableEq, Repr

/-- A background command of a function: the LD it works on, and whether it waits for the random number generator (R374). -/
structure BgCmd where
  kind : BgKind
  ld   : Nat
  draws : Bool := false
  deriving DecidableEq, Repr

/-- One logical device and its function (R317 to R342). The FM-owned LD reached over TW0 is number 16. -/
structure Ld where
  /-- Token bucket in 1/1000 byte (R324), and the requests of this and the previous frame (R326). -/
  bucket    : Nat := 0
  reqs      : Nat := 0
  overs     : Nat := 0
  prevReqs  : Nat := 0
  prevOver  : Nat := 0
  logs      : Sparse EvLog := []
  /-- Event interrupt settings by log, and alert configuration, as last set (R334, R335). -/
  policy    : List Nat := [0, 0, 0, 0]
  alerts    : List Nat := []
  bg        : Option BgCmd := none
  notReady  : Bool := false
  scanRes   : List Nat := []
  corrVol   : Nat := 0
  corrPers  : Nat := 0
  deriving DecidableEq, Repr

/-- The sources of a poison list entry (R330 to R333). -/
inductive PoisonSrc where
  | external | internal | injected
  deriving DecidableEq, Repr

/-- An Inject Poison (no data) or Clear Poison that waits. -/
structure PoisonWait where
  fn   : FnIx
  dpa  : Nat
  data : Option Line
  deriving DecidableEq, Repr

/-- What the heads and functions share: poison list (R332), device-wide locks (R336, R527), host offset (R24). -/
structure Fabric where
  poisonList : List (Nat × PoisonSrc) := []
  poisonOvf  : Option Nat := none
  /-- The device-wide erase in progress: its function, the keys drawn and held outside the slots, and how far it has come
  (R338, R340). -/
  eraseLock  : Option Nat := none
  newKeys    : Option (List Key) := none
  recordDone : Bool := false
  switched   : Bool := false
  rootOpened : Bool := false
  /-- Inject and Clear Poison commands that wait for the fill of their patch (R333). -/
  poisonWaits : List PoisonWait := []
  /-- Next request identity. -/
  nextId     : Nat := 0
  hostOffset : Int := 0
  deriving DecidableEq, Repr

/-! ## Cipher and keys (12_cipher_and_keys) -/

/-- The states of Table 12.3. -/
inductive SlotSt where
  | empty | valid | retiring | exhausted
  deriving DecidableEq, Repr

/-- One key slot (R347 to R358). The generation number is 16 bits. -/
structure Slot where
  st      : SlotSt := .empty
  source  : Nat := 0
  persist : Bool := false
  use     : Nat := 0
  gen     : Nat := 0
  key     : Option Key := none
  /-- The superseded key of a RETIRING slot and the requests still bound to it (R352). -/
  old     : Option Key := none
  oldBound : Nat := 0
  usage   : Nat := 0
  warned  : Bool := false
  deriving DecidableEq, Repr

/-- One entry of the key record (R375). -/
structure KeyEntry where
  slot : Nat
  gen  : Nat
  use  : Nat
  key  : Key
  deriving DecidableEq, Repr

/-- One copy of the key record. -/
structure KeyRecord where
  seq     : Nat
  entries : List KeyEntry
  deriving DecidableEq, Repr

/-- A key store command that waits for its key record (R350): the slot, what it becomes, and the function to answer (none
for a background command, which ends later). -/
structure KeyChange where
  slot  : Nat
  value : Slot
  fn    : Option FnIx
  deriving DecidableEq, Repr

/-- A control engine request (R368 to R371). -/
structure CtrlReq where
  id     : Nat
  who    : Nat
  /-- 0 urgent, 1 normal, 2 bulk (Table 12.6). -/
  cls    : Nat
  slot   : Nat
  slotGen : Nat
  mode   : CtrlMode
  encrypt : Bool := false
  /-- The IV of a GCM request (R369). -/
  iv     : BitVec 96 := 0#96
  deriving DecidableEq, Repr

/-- The key store, the control engine and the random number generator. -/
structure Keys where
  slots      : Sparse Slot := []
  ctrlQueue  : List CtrlReq := []
  /-- Requests that wait at the queue's entry port (R371), with their identities, oldest first. -/
  ctrlPort   : List (Nat × CtrlArrival) := []
  ctrlActive : Option CtrlReq := none
  ctrlSusp   : List CtrlReq := []
  ctrlNext   : Nat := 0
  /-- Which control pairs are retired (R372). -/
  ctrlRetired : List Nat := []
  /-- Draws so far (each draw is a fresh value), requests and superframes since the last reseed (R373, R374). -/
  draws      : Nat := 0
  requests   : Nat := 0
  reseedSf   : Nat := 0
  refused    : Bool := true
  /-- Commands that change a kept slot, waiting for the key record (R350), oldest first. -/
  pendingLoad : List KeyChange := []
  keyLost    : Bool := false
  deriving DecidableEq, Repr

/-! ## Gauge, pack and charger (13_backup_energy) -/

/-- The gauge record of Table 13.6. -/
structure GaugeRecord where
  serial    : Nat
  fcc       : Nat
  design    : Nat
  cycles    : Nat
  discharge : Nat
  soc       : Nat
  time      : Nat
  learnLast : Nat
  z         : List Nat
  deriving DecidableEq, Repr

/-- One copy of the learned area (Table 13.6): gauge record, key record, partition record. -/
structure Learned where
  seq   : Nat
  gauge : GaugeRecord
  keys  : KeyRecord
  volNext : List Nat
  deriving DecidableEq, Repr

/-- A learned write in progress (R404 to R407): its copy, its content, whether it is the repeat, and how many of the
commands that wait under R350 it carries. -/
structure LearnedWrite where
  copyB    : Bool
  image    : Learned
  repeated : Bool := false
  covers   : Nat := 0
  /-- It carries the new keys of a device-wide erase (R340). -/
  carries  : Bool := false
  deriving DecidableEq, Repr

/-- A current step being judged (R390). -/
structure ImpStep where
  sf    : Nat
  vOld  : Int
  iOld  : Int
  iNew  : Int
  deriving DecidableEq, Repr

/-- The gauge and pack controller. The charge is in pC, currents in mA (positive into the pack), voltages in mV,
temperatures in degrees C, impedances in 0.1 mΩ, states of charge in 0.01 %. -/
structure Gauge where
  charge     : Int := 0
  socSync    : Nat := 0
  chargeSync : Int := 0
  z          : List Nat := []
  temp       : Int := 0
  ntc        : List (Option Int) := [none, none]
  frameCur   : Int := 0
  /-- The running gauge step's frames, and the sum and bounds of their currents (R383). -/
  stepN      : Nat := 0
  stepSum    : Int := 0
  stepMin    : Int := 0
  stepMax    : Int := 0
  lastStepSf : Option Nat := none
  restSince  : Option Nat := none
  belowFloor : Bool := false
  present    : Bool := false
  lowSf      : Nat := 0
  absentAt   : Option Nat := none
  alertLow   : Bool := false
  /-- The conditions of Table 13.3 that hold, by code. -/
  faults     : List Nat := []
  /-- PACK_FET may go high: the rails have been up since PORST_N (R395); the 70 °C latch of fault 6. -/
  fetArmed   : Bool := false
  fetHeld    : Bool := false
  coolSf     : Nat := 0
  ntcGoodSf  : Nat := 0
  imbalance  : Bool := false
  ntcFail    : Bool := false
  auth       : Bool := false
  /-- Attempts in a row that failed on TW3, the end of the latest attempt, the challenge that waits for its response. -/
  authTried  : Nat := 0
  authLast   : Option Nat := none
  challenge  : Option Nat := none
  challengeAt : Nat := 0
  terminated : Bool := false
  full       : Bool := false
  taperSf    : Nat := 0
  chgSince   : Option Nat := none
  chgGrant   : Bool := false
  chgWanted  : Bool := false
  selfGrantAt : Option Nat := none
  learnGrant : Bool := false
  learnDueAt : Option Nat := none
  /-- A learn that was void or did not start falls due again at this time (R399, R403). -/
  learnNext  : Option Nat := none
  learnStart : Nat := 0
  learnCStart : Int := 0
  learnBadSf : Nat := 0
  duty       : Nat := 0
  pulseUntil : Nat := 0
  pulsePoint : Nat := 0
  imp        : Option ImpStep := none
  /-- Charge discharged since the cycle count's latest step, in pC. -/
  discharge  : Nat := 0
  /-- The start's first gauge step is done (R542); the pack's serial has been compared at this start (R394). -/
  started    : Bool := false
  serialSeen : Bool := false
  /-- The charger table has been written in this start (R397). -/
  chargerSet : Bool := false
  eepromRewrite : Bool := false
  learnedA   : Option Learned := none
  learnedB   : Option Learned := none
  writing    : Option LearnedWrite := none
  lastWrite  : Nat := 0
  /-- VOL_NEXT of each LD (R321). -/
  volNext    : List Nat := []
  shipWrite  : Bool := false
  deriving DecidableEq, Repr

/-! ## Rails, power, buttons, group (14_power_sequencing) -/

/-- One rail's supervision beyond its registers. -/
structure Rail where
  en        : Bool := false
  /-- When its EN rises or rose, after its ON_DELAY (R420); when it last became good, failed or was held off. -/
  enabledAt : Nat := 0
  endedAt   : Nat := 0
  goodSince : Option Nat := none
  /-- The superframe of its next attempt (R422). -/
  retryDue  : Option Nat := none
  /-- Samples in a row beyond, and within, its warning levels (R425). -/
  warnHigh  : Nat := 0
  warnClear : Nat := 0
  everGood  : Bool := false
  /-- Held off until the next power-up (R422). -/
  spent     : Bool := false
  deriving DecidableEq, Repr

/-- Rails that are brought up stage by stage (R420, R422): those whose stage is still to start, those of the stage in
progress, and the time before which the first stage does not start. -/
structure RailRun where
  todo   : List Nat
  active : List Nat := []
  due    : Nat
  deriving DecidableEq, Repr

/-- What ended the previous power cycle (R419). -/
inductive LastDown where
  | none | inputLoss | systemReset | other
  deriving DecidableEq, Repr

/-- A first-failure record being gathered (R435). -/
structure Incident where
  rail      : Nat
  kind      : Nat
  frame     : Nat
  time      : Nat
  sameFrame : List Nat
  recorded  : Bool := false
  deriving DecidableEq, Repr

/-- A record of the log ring (Table 14.8, Table 20.12). -/
inductive LogBody where
  | firstFailure (rail kind state reaction : Nat) (same : List Nat) (adc vin pack save : Nat)
  | dramHealth (q : Nat) (mig : Option (Nat × Nat × Nat)) (ranks : List (Nat × Nat × Option Nat × Bool × Nat))
  | retiredDie (die cond : Nat)
  | dsc (count run : Nat)
  deriving DecidableEq, Repr

structure LogRecord where
  seq  : Nat
  time : Nat
  body : LogBody
  deriving DecidableEq, Repr

/-- What the device is doing as a whole (DEV_STATE.POWER, SEQ_STATUS.STATE, Table 1.8). -/
inductive Power where
  | off | boot | powerUp | run | save | warmReset | powerDown | recovery
  deriving DecidableEq, Repr

/-- The sequencer. -/
structure Seq where
  power      : Power := .off
  runs       : List RailRun := []
  mainStarted : Bool := false
  /-- The origin of the current start (PERS_START). -/
  startAt    : Option Nat := none
  en0ReleasedAt : Option Nat := none
  onLatch    : Bool := false
  offLatch   : Bool := false
  lastDown   : LastDown := .none
  /-- V_AON_IN was applied since the last power-down (R419). -/
  aonApplied : Bool := true
  /-- Device time restarted since PORST_N last set TICK_STATUS.AON_RESTART (R23). -/
  aonRestart : Bool := true
  aonAutoOn  : Bool := true
  /-- AON copies (R568, R609, R507): serial and population, CAUSE code, image sequence and layout CRC. -/
  aonSerial  : Bool := false
  aonPop     : Word := 0
  aonCause   : Nat := 0
  aonImage   : Option (Nat × Nat) := none
  incident   : Option Incident := none
  blocked    : Bool := false
  pressAt    : Option Nat := none
  pressActed : Bool := false
  downAt     : Nat := 0
  downCause  : LastDown := .none
  offWaiting : Bool := false
  /-- Rails whose SYSTEM_RESET reaction fell in a save, judged at media ready (R434). -/
  sysRails   : List Nat := []
  vinLowAt   : Option Nat := none
  ring       : List LogRecord := []
  ringSeq    : Nat := 0
  /-- The hottest die sensor in 0.1 °C, once sampled; the sensors that have failed (Tables 11.8, 16.12). -/
  dieTemp    : Option Int := none
  dieFail    : List Nat := []
  /-- A save is in progress for the epoch block: from a commit to the next media ready (R38). -/
  saveOpen   : Bool := false
  /-- The cause of R533 that has come, until RECOVERY is entered. -/
  recoveryDue : Option Nat := none
  mrLatched  : Bool := false
  /-- Steps 1 and 2 of a warm reset run (R432); DRAM is held in self-refresh in RECOVERY (R507). -/
  warmDrain  : Bool := false
  dramHeld   : Bool := false
  deriving DecidableEq, Repr

/-- The pins the block drives or has last sampled (21_balls_and_package, Table 21.6). -/
structure Pins where
  porstN    : Bool := false
  resetOutN : Bool := false
  bkpEn     : Bool := false
  chgEn     : Bool := false
  learnLoad : Nat := 0
  packFet   : Bool := false
  alertN    : Bool := true
  grpFaultOut : Bool := false
  /-- GRP_FAULT_N as sampled from outside is low; the latest frame in which this controller drove it (R442). -/
  grpFaultIn  : Bool := false
  grpDrove  : Option Nat := none
  seqInLow  : Bool := false
  /-- NWP_N of each quadrant is released (Table 10.1). -/
  wpN       : List Bool := [false, false, false, false]
  vinMv     : Nat := 0
  pfwN      : Bool := true
  /-- Input is present (R140, R419), and since when. -/
  inputOk   : Bool := false
  inputAt   : Nat := 0
  pwrbtnN   : Bool := true
  straps    : Nat := 0
  /-- BOOT_MODE[1:0] as latched at PORST_N release. -/
  bootMode  : Nat := 0
  perstN    : List Bool := [false, false]
  /-- The JTAG instruction that is loaded (R580). -/
  jtag      : JtagOp := .idcode
  deriving DecidableEq, Repr

/-- What the master keeps of a member (R443, R444, R50). -/
structure Member where
  answered : Bool := false
  fp       : Option (Nat × Nat) := none
  missed   : Nat := 0
  /-- The fingerprint of the running period differs; closed periods in succession that ended so. -/
  offNow   : Bool := false
  differs  : Nat := 0
  driftRaised : Bool := false
  chgGrant : Bool := false
  chgPend  : Bool := false
  deriving DecidableEq, Repr

/-- The cascade and Burnor (R439 to R446). -/
structure Group where
  members    : Sparse Member := []
  discovering : Bool := false
  sealedAt   : Nat := 0
  positionAt : Nat := 0
  powerUpAt  : Option Nat := none
  learner    : Option Nat := none
  learnPend  : List Nat := []
  period     : Nat := 0
  syncSf     : Nat := 0
  syncHeard  : Option Nat := none
  /-- Superframe of the master's latest train; whether this period's FP_REPORT was sent. -/
  trainSf    : Option Nat := none
  fpSent     : Bool := false
  deriving DecidableEq, Repr

/-! ## The save (05_save) -/

/-- The triggers of Table 5.1 by their CAUSE, as they come in frame 0 (R113), and the save's course. -/
structure SaveSt where
  /-- The frame of detection, while a save is detected or runs. -/
  frame0    : Option Nat := none
  causes    : List Nat := []
  late      : List Nat := []
  phaseBefore : Nat := 0
  chgBefore : Bool := false
  learnBefore : Nat := 0
  enabled   : Bool := false
  committed : Bool := false
  /-- The frame of the commit (R17); the units have it once it has arrived. -/
  commitAt  : Nat := 0
  arrived   : Bool := false
  ppFrame   : Option Nat := none
  opFrame   : Option Nat := none
  writing   : Bool := false
  /-- Allotments published in the preceding 256 frames, newest first (R136). -/
  history   : List Nat := []
  patches   : Nat := 0
  /-- Energy drawn from the pack since frame 0, in fJ (Table 5.13). -/
  energy    : Int := 0
  isSealed  : Bool := false
  groupOff  : Bool := false
  /-- A latched toggle (R430), forced off (Table 5.6), MR_N. -/
  toggle    : Bool := false
  forcedOff : Bool := false
  holdAt    : Option Nat := none
  deriving DecidableEq, Repr

/-! ## Two-wire buses (15_two_wire_buses) -/

/-- An MCTP message being reassembled on TW0 (R459, R460). -/
structure Mctp where
  src   : Nat
  tag   : Nat
  seq   : Nat
  bytes : List Byte
  deriving DecidableEq, Repr

/-- The TW0 target. -/
structure Tw0 where
  addr     : Nat := 0x58
  mctp     : Option Mctp := none
  /-- Responses waiting to be sent, and the failed sends of the first (R461). -/
  replies  : List (RetCode × List Nat) := []
  retries  : Nat := 0
  aonAwake : Bool := false
  aonMatch : Nat := 0
  deriving DecidableEq, Repr

/-- A controller segment TW1 to TW4: the transaction in progress, its arbitration losses in a row and the latest backoff in frames
(R471), and the superframe of the latest bus clear of a hung segment. -/
structure Tw where
  current  : Option TwReq := none
  losses   : Nat := 0
  backoff  : Nat := 0
  hungSf   : Nat := 0
  /-- The Burnor message whose latest sends failed, and how often it has (R443). -/
  failed   : Option (TwReq × Nat) := none
  /-- A reset of the segment's controller is past and no bus clear has come since: it goes before any transaction (R467, R474). -/
  clearFirst : Bool := true
  deriving DecidableEq, Repr

/-! ## Event collector (16_faults_and_events) -/

/-- An entry of EVT_FIRST or NEXT (R484 to R486). -/
structure EvEntry where
  msg    : FaultMsg
  timeHi : Nat
  seg    : Nat
  same   : Bool := false
  sameCount : Nat := 0
  deriving DecidableEq, Repr

/-- The fault ring and the collector. -/
structure Events where
  pending   : Sparse FaultMsg := []
  first     : Option EvEntry := none
  next      : List EvEntry := []
  alerts    : List FaultMsg := []
  /-- Frames in which GF holds began (R488). -/
  gfHolds   : List Nat := []
  resetSf   : Option Nat := none
  /-- Consecutive boundaries without a segment's idle token, and the superframe of its latest RING_LOST (R481). -/
  silent    : List Nat := [0, 0, 0, 0, 0]
  lostSf    : List (Option Nat) := [none, none, none, none, none]
  missed    : Nat := 0
  lost      : Bool := false
  /-- The frame of the latest SAVE reaction, and whether a RESET reaction waits for its frame to end (Table 16.8). -/
  saveFrame : Option Nat := none
  resetWanted : Bool := false
  /-- First complete checks since the seal (R496): boundaries at which all observers delivered (up to 2), and superframe
  boundaries since the seal (up to 2; 3 after a mismatch). -/
  obsSeen   : Nat := 0
  plumbSeen : Nat := 0
  /-- Writes of FIRST_CLR and NEXT_POP and alert responses still waiting whose clear a delivery of their own cycle has let go first
  (R485, R486, Table 16.8). -/
  earlyClr  : Nat := 0
  earlyPop  : Nat := 0
  earlyAlert : Nat := 0
  deferRetire : List Nat := []
  deriving DecidableEq, Repr

/-- The management cluster (R492, R524). -/
structure Cluster where
  running  : Bool := false
  activePair : Nat := 0
  standby  : Bool := true
  halted   : Bool := false
  releasedAt : Nat := 0
  lockstep : Bool := true
  bootOk   : Bool := false
  deriving DecidableEq, Repr

/-! ## Configuration and calibration (17_configuration_and_calibration) -/

/-- What the configuration in force says beside the registers (Table 17.3). -/
structure CfgSt where
  media     : Media := {}
  height    : Nat := 1
  modeSets  : List (Nat × List Nat) := []
  ocv       : List Nat := []
  impSeed   : List Nat := []
  dividers  : Dividers := {}
  charger   : List (Nat × List Nat) := []
  /-- Accepted Topcoat entries by channel: gain in ppm, offset (R515, R516). -/
  topcoat   : Sparse (Option (Int × Int)) := []
  /-- The applied image's bytes as authenticated (R49). -/
  bytes     : List Byte := []
  deriving DecidableEq, Repr

/-- What on-die OTP holds: the Undercoat blocks (R513) with each channel's gain (22 fraction bits) and offset, and the
security version fuses (R525). -/
structure Otp where
  undercoatOk : List Bool := [true, true, true, true]
  undercoat   : List (Nat × Int) := []
  svn         : Nat := 0
  deriving DecidableEq, Repr

/-! ## Firmware update (18_firmware_update) -/

/-- An update in progress (R526 to R528). -/
structure Staging where
  slot  : Nat
  hdr   : ImageHdr
  next  : Nat
  at_   : Nat
  deriving DecidableEq, Repr

/-- Slots, staging and what the AON domain and the preserved area keep of updates. -/
structure Update where
  fwA      : FwSlot := {}
  fwB      : FwSlot := {}
  cfgA     : CfgSlot := {}
  cfgB     : CfgSlot := {}
  staging  : Option Staging := none
  /-- Factory module data: whole, and the owner import key blob's use mask (R376, R499). -/
  factoryOk : Bool := false
  importUse : Option Nat := none
  aonFails : Nat := 0
  aonSlot  : Option Nat := none
  /-- Format and CRC verdict of the preserved area (R531). -/
  keptFmt  : Nat := 0
  keptOk   : Bool := false
  /-- An online activation: the function to answer, the slot before it (R530). -/
  online   : Option (FnIx × Nat) := none
  releasedAt : Nat := 0
  deriving DecidableEq, Repr

/-! ## Off handshake (19_life_cycle) -/

/-- The handshake of R547 to R549. -/
structure Handshake where
  openAt    : Nat := 0
  linksUp   : List Nat := []
  shipEnded : Bool := true
  /-- The first condition of group A that was met (R548). -/
  met       : Option Nat := none
  deriving DecidableEq, Repr

/-! ## What the block answers and shows (outputs of the latest command) -/

inductive Out where
  /-- A register read's word. -/
  | word (v : Word)
  /-- Bytes returned on TW0. -/
  | bytes (l : List Byte)
  /-- TW0 does not acknowledge. -/
  | nack
  /-- A CXL.mem write completion (R51). -/
  | writeDone (head ld tag devLoad : Nat)
  /-- CXL.mem read data (R12), with its poison. -/
  | readDone (head ld tag : Nat) (data : Line) (poison : Bool) (devLoad : Nat)
  /-- The return of a mailbox command: its code and its payload's fields in order. -/
  | mailbox (fn : FnIx) (code : RetCode) (payload : List Nat)
  /-- MSI-X vector of a function. -/
  | msix (fn : FnIx) (vector : Nat)
  /-- A Burnor message sent (Table 14.x): command, position or broadcast, arguments. -/
  | burnor (cmd : Nat) (pos : Option Nat) (args : List Nat)
  /-- A DRAM command on a sub-channel: command, chip select and 3DS chip ID of the rank (R214), bank, row or column. -/
  | dram (sc cmd cs cid bank addr : Nat)
  /-- A flash command on a die. -/
  | flash (die cmd arg : Nat)
  /-- A transaction on TW1 to TW4, and the result that its requester gets with the bytes read (Table 15.6). -/
  | twTx (k addr : Nat) (bytes : List Nat) (reads : Nat)
  | twEnd (k who code : Nat) (data : List Byte)
  /-- TW_RST_N of a segment driven low for some microseconds. -/
  | twReset (k us : Nat)
  /-- An MCTP response sent on TW0, and a message that TW0 has reassembled for the management cluster. -/
  | mctp (code : RetCode) (payload : List Nat)
  | mctpMessage (src tag : Nat) (bytes : List Byte)
  /-- A cascade train sent on SEQ_OUT: pulses, and the time of its first one. -/
  | train (pulses : Nat)
  /-- GPF Phase answers. -/
  | gpf (head phase : Nat)
  /-- A key store request ends: its identity, and 0 done, 1 KEY_USE, 2 KEY_STALE, 3 KEY_EXHAUSTED, 4 ENGINE_FAULT,
  5 KEY_REVOKED, 6 ENTROPY_FAIL. -/
  | key (id code : Nat)
  /-- A unit's pages as they are programmed (R282, R284): die, unit, and the scrambler seeds of its four planes' pages. -/
  | program (die unit : Nat) (seeds : List Nat)
  /-- A head's completion with Completer Abort (R555). -/
  | abort
  /-- The log writer suspends an erase of the SPI NOR, or the erase goes on (R437). -/
  | norErase (resumed : Bool)
  /-- Pack EEPROM or NOR programming, challenge writes: device and what. -/
  | nor (area what : Nat)
  /-- The JTAG instruction that took effect. -/
  | jtag (what : JtagOp)
  /-- The boot ROM copies its progress to UART_TX (R522). -/
  | uart
  deriving DecidableEq, Repr

/-! ## The block -/

structure State where
  /-- Every register of Tables 20.13 and 20.14 by offset: a listed word, or the reset word. -/
  regs     : Sparse Word
  tick     : Tick
  plumb    : Plumb
  paths    : Sparse PathState
  events   : Events
  cluster  : Cluster
  patches  : Sparse Patch
  retired  : RetiredList
  image    : Image
  quads    : Sparse Quad
  scs      : Sparse Sc
  dies     : Sparse Die
  heads    : Sparse Head
  lds      : Sparse Ld
  fabric   : Fabric
  keys     : Keys
  gauge    : Gauge
  rails    : Sparse Rail
  seq      : Seq
  pins     : Pins
  group    : Group
  save     : SaveSt
  tw0      : Tw0
  tws      : Sparse Tw
  cfg      : CfgSt
  otp      : Otp
  upd      : Update
  shake    : Option Handshake
  /-- DRAM data by DPA: bytes that differ from 0, by address. -/
  dram     : List Host.Cell
  /-- Lines holding the poisoned pattern (R261), by patch. -/
  poison   : Sparse (BitVec 1024)
  /-- The model's own: how many free values have been taken. -/
  fresh    : Nat
  /-- The model's own: what the latest command answered and showed outside. -/
  out      : List Out
  /-- The commands that wait, first in first out. -/
  pending  : List Instr
  deriving DecidableEq, Repr

/-- Why a step stops with a fault: no command of this block does. -/
inductive Fault where
  /-- Raised by no meaning: the spec gives every command of the table an effect. Safe. -/
  | unreachable
  deriving DecidableEq, Repr

/-- Why a command is not carried out. -/
inductive Refusal where
  /-- Raised by Dispatch.lean alone, for a command whose meaning is not written. Safe. -/
  | notModelled (mnemonic : String)
  deriving DecidableEq, Repr

/-- The block right after reset: V_AON_IN applied, no configuration loaded, every register at its reset value. -/
def State.reset : State where
  regs := []
  tick := {}
  plumb := {}
  paths := []
  events := {}
  cluster := {}
  patches := []
  retired := []
  image := {}
  quads := []
  scs := []
  dies := []
  heads := []
  lds := []
  fabric := {}
  keys := {}
  gauge := {}
  rails := []
  seq := {}
  pins := {}
  group := {}
  save := {}
  tw0 := {}
  tws := []
  cfg := {}
  otp := {}
  upd := {}
  shake := none
  dram := []
  poison := []
  fresh := 0
  out := []
  pending := []

end Sys2Proof.Machine
end

