-- ==== Sys2Proof/Machine/Regs.lean ====
section
/-!
DEFINITION. Sys2Proof/Machine/Regs.lean: which register stands at an offset (R558, R559, R572), what it resets to, and the
one way in which the block's own units read and write register fields.
-/
namespace Sys2Proof.Machine

/-- Where an offset lies among the blocks of a kind: the unit and the offset in its block (Tables 20.2, 20.3, 20.13). -/
def UnitKind.locate (k : UnitKind) (off : Nat) : Option (Nat × Nat) :=
  let r := (off - 0x200000) % 0x40000
  let q := (off - 0x200000) / 0x40000
  let inQ := decide (0x200000 ≤ off ∧ off < 0x300000)
  match k with
  | .ctl => some (0, off)
  | .head => if 0x080000 ≤ off ∧ off < 0x080200 then some ((off - 0x080000) / 0x100, (off - 0x080000) % 0x100) else none
  | .ld => if 0x081000 ≤ off ∧ off < 0x081200 then some ((off - 0x081000) / 0x20, (off - 0x081000) % 0x20) else none
  | .rail => if 0x061000 ≤ off ∧ off < 0x061400 then some ((off - 0x061000) / 0x20, (off - 0x061000) % 0x20) else none
  | .tw => if 0x070100 ≤ off ∧ off < 0x070500 then some ((off - 0x070000) / 0x100, (off - 0x070000) % 0x100) else none
  | .quadrant => if inQ && decide (r < 0x10000) then some (q, r) else none
  | .sc => if inQ && decide (0x10000 ≤ r ∧ r < 0x20000) then some (4 * q + (r - 0x10000) / 0x4000, r % 0x4000) else none
  | .fc => if inQ && decide (0x20000 ≤ r ∧ r < 0x30000) then some (4 * q + (r - 0x20000) / 0x4000, r % 0x4000) else none
  | .die => if inQ && decide (0x30000 ≤ r ∧ r < 0x32000) then some (32 * q + (r - 0x30000) / 0x100, r % 0x100) else none
  | .pair => if inQ && decide (0x34000 ≤ r ∧ r < 0x34D00) then some (13 * q + (r - 0x34000) / 0x100, r % 0x100) else none
  | .ldpc => if inQ && decide (0x36000 ≤ r ∧ r < 0x36500) then some (5 * q + (r - 0x36000) / 0x100, r % 0x100) else none

/-- Whether a remainder is the offset of one element of nested arrays. -/
def arrayHit : List (Nat × Nat) → Nat → Bool
  | [], rem => decide (rem = 0)
  | (count, stride) :: rest, rem => decide (rem / stride < count) && arrayHit rest (rem % stride)

/-- The unit whose copy of a register stands at an offset. -/
def RegDef.unitAt (d : RegDef) (off : Nat) : Option Nat :=
  match d.kind.locate off with
  | some (u, loc) => if decide (d.off ≤ loc) && arrayHit d.arrays (loc - d.off) then some u else none
  | none => none

/-- The register tables that may hold an offset. -/
def regsNear (off : Nat) : List RegDef :=
  if off < 0x010000 then regsGlobal else if off < 0x020000 then regsTick else if off < 0x030000 then regsEvent
  else if off < 0x030100 then regsPers else if off < 0x030400 then regsExpo else if off < 0x040000 then regsSave
  else if off < 0x050000 then regsKey else if off < 0x060000 then regsGauge
  else if off < 0x061000 then regsSeq
  else if off < 0x0B0000 then regsUnit ++ regsTail
  else regsQuadrant ++ regsSc ++ regsFlash

/-- The first register of a table that stands at an offset, with its unit. -/
def findReg : List RegDef → Nat → Option (RegDef × Nat)
  | [], _ => none
  | d :: rest, off =>
    match d.unitAt off with
    | some u => some (d, u)
    | none => findReg rest off

/-- The register at an offset, if there is one (R572). -/
def regAt (off : Nat) : Option (RegDef × Nat) := findReg (regsNear off) off

/-- The word that fields reset to. -/
def fieldsReset (l : List FieldDef) : Word := l.foldl (fun w f => w ||| BitVec.ofNat 32 (f.reset <<< f.lo)) 0#32

/-- The word a register holds after PORST_N release and before the loader runs: the Reset column of its table. -/
def resetWord (off : Nat) : Word :=
  if off = 0x00000C then Config.serial.extractLsb' 0 32
  else if off = 0x000010 then Config.serial.extractLsb' 32 32
  else if off = 0x070400 then 0x1002#32
  else match regAt off with
    | some (d, _) => fieldsReset d.fields
    | none => 0#32

/-- A register's live word. -/
def State.rd (s : State) (off : Nat) : Word :=
  match sparseFind s.regs off with
  | some w => w
  | none => resetWord off

/-- A register file with one word changed; a word at its reset value is not listed. -/
def setWord (m : Sparse Word) (off : Nat) (w : Word) : Sparse Word :=
  if w = resetWord off then sparseErase m off else sparsePlace (sparseErase m off) off w

/-- A register's live word changed. -/
def State.wr (s : State) (off : Nat) (w : Word) : State := { s with regs := setWord s.regs off w }

/-- The bits a field covers. -/
def Fld.mask (f : Fld) : Word := BitVec.ofNat 32 ((2 ^ f.width - 1) <<< f.lo)

/-- A field's value in a word. -/
def Fld.of (f : Fld) (w : Word) : Nat := (w.toNat >>> f.lo) % 2 ^ f.width

/-- A word with a field's value replaced (the value taken modulo the field's width). -/
def Fld.into (f : Fld) (w : Word) (v : Nat) : Word :=
  (w &&& ~~~ f.mask) ||| BitVec.ofNat 32 ((v % 2 ^ f.width) <<< f.lo)

/-- A field's live value. -/
def State.get (s : State) (f : Fld) : Nat := f.of (s.rd f.off)

/-- A one-bit field's live value. -/
def State.flag (s : State) (f : Fld) : Bool := decide (s.get f ≠ 0)

/-- A field set by the hardware. -/
def State.put (s : State) (f : Fld) (v : Nat) : State := s.wr f.off (f.into (s.rd f.off) v)

/-- A one-bit field set by the hardware. -/
def State.putB (s : State) (f : Fld) (b : Bool) : State := s.put f b.toNat

/-- A field raised by an amount, stopping at its largest value (the counters of the register tables saturate). -/
def State.bump (s : State) (f : Fld) (n : Nat) : State := s.put f (min (s.get f + n) (2 ^ f.width - 1))

/-- A value that saturates at a field's largest value. -/
def State.putSat (s : State) (f : Fld) (v : Nat) : State := s.put f (min v (2 ^ f.width - 1))

/-- A 64-bit quantity in a LO and a HI register. -/
def State.get64 (s : State) (lo hi : Nat) : Nat := (s.rd lo).toNat + 2 ^ 32 * (s.rd hi).toNat

def State.put64 (s : State) (lo hi : Nat) (v : Nat) : State :=
  (s.wr lo (BitVec.ofNat 32 v)).wr hi (BitVec.ofNat 32 (v / 2 ^ 32))

/-! ## Units and their configuration (R39, R44 to R46, Table 2.5) -/

/-- The bits of a register that fields of an access type cover. -/
def accMask (d : RegDef) (a : Acc) : Word :=
  d.fields.foldl (fun m f => if f.acc = a then m ||| BitVec.ofNat 32 ((2 ^ f.width - 1) <<< f.lo) else m) 0#32

/-- How many units a class of Table 2.5 has. -/
def classCount (c : Nat) : Nat := [16, 16, 8, 52, 20, 2, 16, 1, 1, 5, 1, 1].getD c 0

/-- The class of Table 2.5 that a kind of register block belongs to; a controller-tier block by its offset. -/
def classOf (k : UnitKind) (off : Nat) : Nat :=
  match k with
  | .sc => 0 | .fc => 1 | .die => 1 | .quadrant => 2 | .pair => 3 | .ldpc => 4 | .head => 5 | .ld => 6 | .rail => 8 | .tw => 9
  | .ctl => if off < 0x020000 then 11 else if off < 0x030000 then 10 else if off < 0x040000 then 2 else if off < 0x050000 then 3
    else if off < 0x060000 then 7 else if off < 0x070000 then 8 else if off < 0x080000 then 9 else if off < 0x090000 then 5 else 11

/-- The unit of its class that a register belongs to. -/
def unitOf (k : UnitKind) (u : Nat) : Nat :=
  match k with
  | .die => u / 8
  | .ctl => 0
  | _ => u

/-- A register belongs to a unit of a class; a register of the controller tier to every unit of its class. -/
def unitHolds (cls unit off : Nat) : Bool :=
  match regAt off with
  | none => false
  | some (d, u) => decide (classOf d.kind off = cls) && (match d.kind with
      | .ctl => true
      | .quadrant => decide (u = unit % 4)
      | k => decide (unitOf k u = unit))

/-- The RWS bits, and the RWL and RWS bits, of the register at an offset. -/
def rwsMask (off : Nat) : Word := match regAt off with | some (d, _) => accMask d .rws | none => 0#32
def cfgMask (off : Nat) : Word := match regAt off with | some (d, _) => accMask d .rws ||| accMask d .rwl | none => 0#32

/-- A unit is held powered down (256 × class + index). -/
def State.isHeldDown (s : State) (cls unit : Nat) : Bool := s.plumb.heldDown.contains (256 * cls + unit)

def unitKindIx : UnitKind → Nat
  | .ctl => 0 | .quadrant => 1 | .sc => 2 | .fc => 3 | .die => 4 | .pair => 5 | .ldpc => 6 | .head => 7 | .ld => 8 | .rail => 9 | .tw => 10

/-- The key under which a register's common bits are kept. -/
def commonKey (off : Nat) : Nat :=
  match regAt off with
  | some (d, _) => 2 ^ 24 * unitKindIx d.kind + ((d.kind.locate off).map (·.2)).getD 0
  | none => 0

/-- The reference copy's word of a register (R46). -/
def Plumb.refWord (p : Plumb) (off : Nat) : Word := (sparseFind p.reference off).getD (resetWord off)

/-- A unit loses its power: it is held powered down (R39). -/
def State.unitFalls (s : State) (cls unit : Nat) : State :=
  { s with plumb := { s.plumb with heldDown := setInsert s.plumb.heldDown (256 * cls + unit) } }

/-- A unit returns from being held powered down: it takes its live configuration from the reference copy (R44). -/
def State.unitReturns (s : State) (cls unit : Nat) : State :=
  let offs := ((s.regs ++ s.plumb.reference).map (·.1)).filter fun a => unitHolds cls unit a && decide (cfgMask a ≠ 0#32)
  let s := { s with plumb := { s.plumb with heldDown := s.plumb.heldDown.filter fun u => decide (u ≠ 256 * cls + unit) } }
  offs.foldl (fun s a => s.wr a ((s.rd a &&& ~~~ cfgMask a) ||| (s.plumb.refWord a &&& cfgMask a))) s

end Sys2Proof.Machine
end

