-- ==== Sys2Proof/Machine/Ops.lean ====
section
/-!
DEFINITION. Sys2Proof/Machine/Ops.lean: the operations every command shares: time, units, outputs, rotating pointers, and
DRAM data by device physical address.
-/
namespace Sys2Proof.Machine

/-! ## Outcome -/

abbrev Result := Host.Outcome State Fault Refusal

/-- A command begins: what the previous one showed outside is gone. -/
def State.begin (s : State) : State := { s with out := [] }

/-- What a command shows outside. -/
def State.emit (s : State) (o : Out) : State := { s with out := s.out ++ [o] }

/-- A DRAM command goes out to a logical rank r = H × cs + cid, H the stack height of the media profile (R214). -/
def State.dramOut (s : State) (sc cmd rank bank addr : Nat) : State :=
  s.emit (.dram sc cmd (rank / max 1 s.cfg.height) (rank % max 1 s.cfg.height) bank addr)

/-- Applies an operation when a condition holds. -/
def State.when (s : State) (c : Bool) (f : State → State) : State := if c then f s else s

/-- Applies an operation for each member of a list. -/
def State.each {α : Type} (s : State) (l : List α) (f : State → α → State) : State := l.foldl f s

/-- A command that does its work when its occurrence condition holds, and changes nothing otherwise. -/
def occurs (c : Bool) (s : State) (f : State → State) : Result :=
  .next (if c then f s.begin else s.begin)

/-- A fresh number for a value the spec leaves open. -/
def State.takeFree (s : State) : Nat × State := (Config.freeNat s.fresh, { s with fresh := s.fresh + 1 })

/-! ## Time (R20) -/

/-- Device time in ns. -/
def State.now (s : State) : Nat := s.tick.devTime + s.tick.cycle

def State.frame (s : State) : Nat := s.tick.devTime / 1024

def State.sf (s : State) : Nat := s.tick.devTime / 1048576

/-- The command came at a CCLK cycle of the frame; time does not go back. -/
def State.atCycle (s : State) (c : Nat) : State :=
  { s with tick := { s.tick with cycle := max s.tick.cycle (min c 1023) } }

/-- Nanoseconds per millisecond and second of device time. -/
def ms (n : Nat) : Nat := n * 1000000
def sec (n : Nat) : Nat := n * 1000000000

/-! ## Pointers and division of allotments (R29 to R31) -/

/-- A resource's rotating pointer (R30). -/
def State.ptr (s : State) (seed n : Nat) : Nat := (s.frame + seed) % n

/-- The distance of a requester from a pointer (R29). -/
def ptrDist (i p n : Nat) : Nat := (i + n - p % n) % n

/-- The share of requester i when A whole units are divided among n (R31). -/
def share (a n p i : Nat) : Nat := a / n + (if ptrDist i p n < a % n then 1 else 0)

/-- The grant of R29 among requesters (position, save class, urgency): the best position, or none. -/
def grant (p n : Nat) (l : List (Nat × Bool × Nat)) : Option Nat :=
  let better (a b : Nat × Bool × Nat) : Bool :=
    if a.2.1 != b.2.1 then a.2.1
    else if a.2.2 != b.2.2 then decide (b.2.2 < a.2.2)
    else decide (ptrDist a.1 p n < ptrDist b.1 p n)
  (l.foldl (fun best x => match best with
    | none => some x
    | some b => if better x b then some x else some b) none).map (·.1)

/-! ## Units -/

def State.quad (s : State) (q : Nat) : Quad := sparseGet {} s.quads q
def State.modQuad (s : State) (q : Nat) (f : Quad → Quad) : State := { s with quads := sparseUpd {} s.quads q f }
def State.sc (s : State) (n : Nat) : Sc := sparseGet {} s.scs n
def State.modSc (s : State) (n : Nat) (f : Sc → Sc) : State := { s with scs := sparseUpd {} s.scs n f }
def State.die (s : State) (n : Nat) : Die := sparseGet {} s.dies n
def State.modDie (s : State) (n : Nat) (f : Die → Die) : State := { s with dies := sparseUpd {} s.dies n f }
/-- A die's waiting operations cut down to those an operation keeps. -/
def Die.keepOps (d : Die) (keep : DieOp → Bool) : Die := { d with queue := d.queue.filter keep, held := d.held.filter keep }
/-- A die's waiting operations without those of one kind. -/
def Die.without (k : OpKind) (d : Die) : Die := d.keepOps fun o => decide (o.kind ≠ k)
/-- A change is over and the sub-channel wants no other; at an operating point other than OP2 the standby generator
relocks to OP2 unless it is there (R215, R242). -/
def Sc.standbyAt2 (op : Nat) (x : Sc) : Sc :=
  if op = 2 ∨ x.standbyOp = 2 then { x with want := none } else { x with want := none, standbyOp := 2, locked := false }
def State.head (s : State) (h : Nat) : Head := sparseGet {} s.heads h
def State.modHead (s : State) (h : Nat) (f : Head → Head) : State := { s with heads := sparseUpd {} s.heads h f }
def State.ld (s : State) (k : Nat) : Ld := sparseGet {} s.lds k
def State.modLd (s : State) (k : Nat) (f : Ld → Ld) : State := { s with lds := sparseUpd {} s.lds k f }
def State.rail (s : State) (k : Nat) : Rail := sparseGet {} s.rails k
def State.modRail (s : State) (k : Nat) (f : Rail → Rail) : State := { s with rails := sparseUpd {} s.rails k f }
/-- Two-wire segment k, 1 to 4. -/
def State.tw (s : State) (k : Nat) : Tw := sparseGet {} s.tws k
/-- The segments that the management cluster's restart and a warm reset reset: TW1 and TW2 (Table 15.9, R467). -/
def State.twReenabled (s : State) : State := { s with tws := [1, 2].foldl (fun m k => sparseUpd {} m k fun t => { t with clearFirst := true }) s.tws }
def State.modTw (s : State) (k : Nat) (f : Tw → Tw) : State := { s with tws := sparseUpd {} s.tws k f }
def State.path (s : State) (p : Nat) : PathState := sparseGet {} s.paths p
def State.modPath (s : State) (p : Nat) (f : PathState → PathState) : State := { s with paths := sparseUpd {} s.paths p f }
def State.slot (s : State) (k : Nat) : Slot := sparseGet {} s.keys.slots k
def State.modSlot (s : State) (k : Nat) (f : Slot → Slot) : State :=
  { s with keys := { s.keys with slots := sparseUpd {} s.keys.slots k f } }
def State.modImage (s : State) (f : Image → Image) : State := { s with image := f s.image }
def State.modGauge (s : State) (f : Gauge → Gauge) : State := { s with gauge := f s.gauge }
def State.modSeq (s : State) (f : Seq → Seq) : State := { s with seq := f s.seq }
def State.modPins (s : State) (f : Pins → Pins) : State := { s with pins := f s.pins }
def State.modSave (s : State) (f : SaveSt → SaveSt) : State := { s with save := f s.save }
def State.modGroup (s : State) (f : Group → Group) : State := { s with group := f s.group }
def State.modKeys (s : State) (f : Keys → Keys) : State := { s with keys := f s.keys }
def State.modTick (s : State) (f : Tick → Tick) : State := { s with tick := f s.tick }
def State.modEvents (s : State) (f : Events → Events) : State := { s with events := f s.events }
def State.modFabric (s : State) (f : Fabric → Fabric) : State := { s with fabric := f s.fabric }
def State.modUpd (s : State) (f : Update → Update) : State := { s with upd := f s.upd }
def State.modPlumb (s : State) (f : Plumb → Plumb) : State := { s with plumb := f s.plumb }
def State.modTw0 (s : State) (f : Tw0 → Tw0) : State := { s with tw0 := f s.tw0 }

/-! ## Rails (R427, Tables 14.5, 14.23) -/

/-- A rail that is good, under IGNORE too. -/
def State.railIsGood (s : State) (k : Nat) : Bool :=
  decide (s.get (Reg.RAIL_STATUS_STATE k) = 3) || decide (s.get (Reg.RAIL_STATUS_STATE k) = 6)

def State.railPresent (s : State) (k : Nat) : Bool := s.flag (Reg.RAIL_CFG0_PRESENT k)

/-- Every present rail of a DOMAIN is good; q is the quadrant of DOMAIN 1 and 2. -/
def State.domainGood (s : State) (dom q : Nat) : Bool :=
  (List.range 32).all fun k => !(s.railPresent k && decide (s.get (Reg.RAIL_CFG0_DOMAIN k) = dom) &&
    (decide (dom = 3) || decide (s.get (Reg.RAIL_CFG0_INDEX k) = q))) || s.railIsGood k

/-! ## What runs (R17, R110) -/

/-- The device runs, or is in a save whose commit has not reached the units. -/
def State.working (s : State) : Bool :=
  decide (s.seq.power = .run) || (decide (s.seq.power = .save) && !s.save.arrived)

/-! ## Answers of the heads (R102, R326) -/

/-- The DevLoad of an LD's meter (Table 11.5). -/
def meterLoad (reqs overs : Nat) : Nat := if overs = 0 then 0 else if 4 * overs ≤ reqs then 2 else 3

/-- The DevLoad that a head's messages for an LD carry (R102, R159, R326). -/
def State.devLoad (s : State) (h k : Nat) : Nat :=
  if s.flag (Reg.FAB_LOAD_REQ_HELD h) then 3
  else max (s.get Reg.EXPO_LEVEL_DEVLOAD) (max (s.get (Reg.FAB_LOAD_DEVLOAD_Q h)) (meterLoad (s.ld k).prevReqs (s.ld k).prevOver))

/-- A write's completion (NDR) goes to the host. -/
def State.sendNdr (s : State) (h ld tag : Nat) : State := s.emit (.writeDone h ld tag (s.devLoad h ld))

/-- A read's data (DRS) goes to the host; poisoned data carries zeros. -/
def State.sendDrs (s : State) (h ld tag : Nat) (data : Line) (poison : Bool) : State :=
  s.emit (.readDone h ld tag (if poison then 0#512 else data) poison (s.devLoad h ld))

/-! ## Credits (R103, R107, R159, R327, R328) -/

/-- Requests of one kind in a head's pool. -/
def Head.pooled (x : Head) (wr : Bool) : Nat := (x.reqs.filter fun r => r.write.isSome == wr).length

/-- The credits of a pool that the host has: those it was left with, or, where more are free, all that are neither in use nor
withheld. Withholding takes no credit back from the host; it returns none that would leave fewer withheld. -/
def State.credits (s : State) (h : Nat) (wr : Bool) : Nat :=
  let x := s.head h
  if wr then max x.rwdCredit (192 - x.pooled true - s.get (Reg.FAB_LOAD_RWD_WITHHELD h))
  else max x.reqCredit (256 - x.pooled false - if s.flag (Reg.FAB_LOAD_REQ_HELD h) then 256 else 0)

/-- The credits that the host has now stay with it whatever is withheld from now on. -/
def State.keepCredits (s : State) : State :=
  s.each [0, 1] fun s h => s.modHead h fun x => { x with rwdCredit := s.credits h true, reqCredit := s.credits h false }

/-- A request takes a credit. -/
def State.useCredit (s : State) (h : Nat) (wr : Bool) : State :=
  let c := s.credits h wr - 1
  s.modHead h fun x => if wr then { x with rwdCredit := c } else { x with reqCredit := c }

/-- A request reaches the head: the link is up, requests are not discarded (R120), the pool has an entry for it and the host a
credit (256 Req, 192 RwD: R327). -/
def State.receives (s : State) (h : Nat) (wr : Bool) : Bool :=
  s.flag (Reg.FAB_STATUS_LINK_UP h) && !(s.head h).discarding &&
    decide ((s.head h).pooled wr < if wr then 192 else 256) && decide (0 < s.credits h wr)

/-! ## DRAM data by DPA -/

/-- A line of zeros, the enables of all 64 bytes, and masks of a patch's 1,024 lines. -/
def zeroLine : Line := 0#512
def allBytes : BitVec 64 := BitVec.allOnes 64
def noLines : BitVec 1024 := 0#1024
def allLines : BitVec 1024 := BitVec.allOnes 1024
def lineBit (i : Nat) : BitVec 1024 := 1#1024 <<< i

/-- One byte of DRAM. -/
def dramByte (m : List Host.Cell) (a : Nat) : Byte := sparseGet 0#8 m a

/-- The n bytes from an address, lowest first. -/
def dramBytes (m : List Host.Cell) (a n : Nat) : List Byte := (List.range n).map (fun i => dramByte m (a + i))

/-- A line of 64 bytes, its lowest byte in bits 7:0. -/
def dramLine (m : List Host.Cell) (a : Nat) : Line :=
  (List.range 64).foldl (fun l i => l ||| ((dramByte m (a + i)).zeroExtend 512 <<< (8 * i))) zeroLine

/-- A line written under its byte enables. -/
def dramStore (m : List Host.Cell) (a : Nat) (line : Line) (be : BitVec 64) : List Host.Cell :=
  (List.range 64).foldl (fun m i => if be.getLsbD i then sparseSet 0#8 m (a + i) (line.extractLsb' (8 * i) 8) else m) m

/-- The bytes listed in an address range, as offsets from its start. -/
def dramSlice (m : List Host.Cell) (a n : Nat) : List Host.Cell :=
  m.filterMap (fun c => if a ≤ c.1 ∧ c.1 < a + n then some (c.1 - a, c.2) else none)

/-- An address range given the bytes listed (all others 0). -/
def dramLoad (m : List Host.Cell) (a n : Nat) (content : List Host.Cell) : List Host.Cell :=
  content.foldl (fun m c => if c.1 < n then sparseSet 0#8 m (a + c.1) c.2 else m)
    (m.filter (fun c => decide (c.1 < a ∨ a + n ≤ c.1)))

/-- A write reaches DRAM (R51, R261, R330): the poisoned pattern replaces the whole line; a write of all 64 bytes ends a
line's poison; a write of fewer leaves a poisoned line poisoned. -/
def State.writeLine (s : State) (dpa : Nat) (d : WriteData) : State :=
  let p := dpa / 65536
  let a := dpa / 64 * 64
  let bit := lineBit (dpa / 64 % 1024)
  if d.poison then
    { s with dram := dramStore s.dram a zeroLine allBytes, poison := sparseUpd noLines s.poison p fun m => m ||| bit }
  else
    { s with
      dram := dramStore s.dram a d.line d.be
      poison := if d.be = allBytes then sparseUpd noLines s.poison p fun m => m &&& ~~~ bit else s.poison }

/-- Whether DRAM holds the poisoned pattern at a line. -/
def State.linePoisoned (s : State) (dpa : Nat) : Bool :=
  (sparseGet noLines s.poison (dpa / 65536)).getLsbD (dpa / 64 % 1024)

/-- The completed writes to a patch that wait in head write buffers and write queues, in the order of their arrival. -/
def State.queuedWrites (s : State) (p : Nat) : Sparse (Nat × WriteData) :=
  let heads := s.heads.flatMap fun e => e.2.reqs.filterMap fun r =>
    if r.done && decide (r.dpa / 65536 = p) then r.write.map fun d => (r.id, (r.dpa, d)) else none
  let queues := s.scs.flatMap fun e => e.2.writeQ.filterMap fun r =>
    if !r.house && (r.done || r.saveCls) && decide (r.dpa / 65536 = p) then r.write.map fun d => (r.id, (r.dpa, d)) else none
  (heads ++ queues).foldl (fun m e => sparsePlace m e.1 e.2) []

/-- The state once the queued writes of a patch have reached DRAM. -/
def State.drained (s : State) (p : Nat) : State := (s.queuedWrites p).foldl (fun s e => s.writeLine e.2.1 e.2.2) s

end Sys2Proof.Machine
end

