-- ==== Sys2Proof/Machine/Flags.lean ====
section
/-!
DEFINITION. Sys2Proof/Machine/Flags.lean: fault messages and event sources (16_faults_and_events): raising a message on its
source (R478), the sources of every unit (R493), severities, requesters and access types, and the single-fault status.
-/
namespace Sys2Proof.Machine

/-! ## Codes (Tables 16.2 to 16.4) -/

namespace Sev
def note : Nat := 0
def corrected : Nat := 1
def degraded : Nat := 2
def uncorrected : Nat := 3
def fatal : Nat := 4
end Sev

namespace Who
def skim : Nat := 16
def save : Nat := 17
def restore : Nat := 18
def heal : Nat := 19
def scrub : Nat := 20
def migration : Nat := 21
def training : Nat := 22
def cores : Nat := 23
def loader : Nat := 24
def cipher : Nat := 25
def gc : Nat := 26
def stateUnit : Nat := 27
def tw0 : Nat := 28
def gauge : Nat := 29
def nobody : Nat := 63
end Who

namespace Access
def read : Nat := 0
def write : Nat := 1
def partialWrite : Nat := 2
def scrub : Nat := 3
def migrate : Nat := 4
def program : Nat := 5
def flashRead : Nat := 6
def erase : Nat := 7
def regRead : Nat := 8
def regWrite : Nat := 9
def key : Nat := 10
def none : Nat := 15
end Access

/-! ## Sources (Table 16.9) -/

def srcSc (n off : Nat) : Nat := 24 * n + off
def srcFc (n off : Nat) : Nat := 0x180 + 12 * n + off
def srcDie (n : Nat) : Nat := 0x240 + n
def srcHead (h off : Nat) : Nat := 0x2C0 + 32 * h + off
def srcRail (k off : Nat) : Nat := 0x300 + 4 * k + off
def srcPair (n off : Nat) : Nat := 0x380 + 2 * n + off
def srcLdpc (n off : Nat) : Nat := 0x400 + 3 * n + off
def srcTw (k off : Nat) : Nat := 0x440 + 8 * k + off
def srcPers (q off : Nat) : Nat := 0x4C0 + 8 * q + off

/-! ## Raising (R476, R478) -/

/-- A message about a source, without requester, access or address. -/
def msgPlain (src kind sev : Nat) : FaultMsg :=
  { src := src, kind := kind, sev := sev, req := Who.nobody, acc := Access.none, time := 0, space := 0, addr := 0 }

/-- A unit address (ADDR_SPACE 5): class and global index. -/
def unitAddr (cls idx : Nat) : Nat := cls + 256 * idx

/-- A flash address (ADDR_SPACE 3): die and unit. -/
def flashAddr (die unit : Nat) : Nat := die * 2 ^ 20 + unit % 2 ^ 20

/-- A source raises a message (R478): it is counted; while one is pending the more severe stays, the older on a tie. -/
def State.raise (s : State) (m : FaultMsg) : State :=
  let m : FaultMsg := { m with time := s.now }
  let s := s.bump (Reg.EVT_COUNT_RAISED m.src) 1
  let s := s.put (Reg.EVT_COUNT_MAX_SEV m.src) (max (s.get (Reg.EVT_COUNT_MAX_SEV m.src)) m.sev)
  match sparseFind s.events.pending m.src with
  | none => s.modEvents fun e => { e with pending := sparsePlace (sparseErase e.pending m.src) m.src m }
  | some old =>
    (if old.sev < m.sev
      then s.modEvents fun e => { e with pending := sparsePlace (sparseErase e.pending m.src) m.src m }
      else s).bump Reg.EVT_DROPPED_COUNT 1

/-- Raises kind and severity on a source, with no more in the message. -/
def State.event (s : State) (src kind sev : Nat) : State := s.raise (msgPlain src kind sev)

/-- Raises with a requester, an access type and an address. -/
def State.eventAt (s : State) (src kind sev req acc space addr : Nat) : State :=
  s.raise { src := src, kind := kind, sev := sev, req := req, acc := acc, time := 0, space := space, addr := addr }

/-- HEARTBEAT_LOST's source for a unit of Table 2.5, and whether it is the unit's own (R493, R494). -/
def heartbeatSrc (cls idx : Nat) : Nat :=
  match cls with
  | 0 => srcSc idx 21
  | 1 => srcFc idx 4
  | 2 => if idx < 4 then srcPers idx 7 else 0x4E4
  | 4 => srcLdpc idx 2
  | 5 => srcHead idx 10
  | _ => 0x4E4

/-! ## Message words (Table 16.1) -/

/-- CRC-8 with polynomial x^8 + x^2 + x + 1 and initial value 0 over the low `n` bits of a number, highest bit first. -/
def crc8 (n v : Nat) : Nat :=
  (List.range n).foldl (fun c i =>
    let bit := v / 2 ^ (n - 1 - i) % 2
    let top := (c / 128 + bit) % 2
    let c := c * 2 % 256
    if top = 1 then c ^^^ 7 else c) 0

/-- Bits 119:0 of a message. -/
def msgBody (m : FaultMsg) : Nat :=
  m.src % 2 ^ 11 + (m.kind % 256) * 2 ^ 11 + (m.sev % 8) * 2 ^ 19 + (m.req % 64) * 2 ^ 22 + (m.acc % 16) * 2 ^ 28 +
  (m.time % 2 ^ 32) * 2 ^ 32 + (if m.space = 0 then 0 else (m.addr % 2 ^ 52) * 2 ^ 64 + 2 ^ 116) +
  (m.space % 8) * 2 ^ 117

/-- The whole 128-bit message, CHECK in bits 127:120. -/
def msgBits (m : FaultMsg) : Nat := msgBody m + crc8 120 (msgBody m) * 2 ^ 120

/-- Word n of a message. -/
def msgWord (m : FaultMsg) (n : Nat) : Word := BitVec.ofNat 32 (msgBits m / 2 ^ (32 * n))

/-! ## The fault ring's segments (R479) -/

/-- The ring segment of a source and its position there (Table 16.9: 225 sources a quadrant, 376 in segment 4). -/
def segOf (src : Nat) : Nat × Nat :=
  if src < 0x180 then (src / 96, src % 96)
  else if src < 0x240 then ((src - 0x180) / 48, 96 + (src - 0x180) % 48)
  else if src < 0x2C0 then ((src - 0x240) / 32, 144 + (src - 0x240) % 32)
  else if src < 0x380 then (4, src - 0x2C0)
  else if src < 0x3E8 then ((src - 0x380) / 26, 176 + (src - 0x380) % 26)
  else if src < 0x400 then (4, 192 + (src - 0x3E8))
  else if src < 0x43C then ((src - 0x400) / 15, 202 + (src - 0x400) % 15)
  else if src < 0x440 then (5, 0)
  else if src < 0x4C0 then (4, 216 + (src - 0x440))
  else if src < 0x4E0 then ((src - 0x4C0) / 8, 217 + (src - 0x4C0) % 8)
  else (4, 344 + (src - 0x4E0))

def segSize (seg : Nat) : Nat := if seg < 4 then 225 else 376

/-! ## The single-fault status (R496) -/

/-- HOLDS is set while bits 0 to 7 of EVT_SFG_STATUS are all set. -/
def State.judgeSfg (s : State) : State :=
  s.putB Reg.EVT_SFG_STATUS_HOLDS (decide ((s.rd 0x020070).toNat % 256 = 255))

/-- One bit of EVT_SFG_STATUS as it is judged. -/
def State.sfg (s : State) (f : Fld) (b : Bool) : State := (s.putB f b).judgeSfg

end Sys2Proof.Machine
end

