-- ==== Sys2Proof/Machine/Operands.lean ====
section
/-!
DEFINITION. Sys2Proof/Machine/Operands.lean: how the addresses that commands carry are read: LD decode (R318, R319), the
placement of a DPA on quadrant, patch and sub-channel (R10), and the place in rank, bank, row and column (R216, R217).
-/
namespace Sys2Proof.Machine

/-! ## Placing an address (R10) -/

/-- Patch number. -/
def patchOf (dpa : Nat) : Nat := dpa / 65536

/-- Quadrant-local patch index of a patch. -/
def localOf (p : Nat) : Nat := p / 4

/-- Quadrant of a patch: P[1:0] XOR L[1:0] XOR L[9:8]. -/
def quadOf (p : Nat) : Nat := p % 4 ^^^ (localOf p % 4) ^^^ (localOf p / 256 % 4)

/-- The patch of a quadrant with a local index: R10 read backwards. -/
def patchAt (q l : Nat) : Nat := 4 * l + (q ^^^ (l % 4) ^^^ (l / 256 % 4))

/-- Quadrant-local sub-channel of a DPA. -/
def jOf (dpa : Nat) : Nat := (dpa / 256 % 4) ^^^ (dpa / 4096 % 4)

/-- Sub-channel that serves a DPA. -/
def scOf (dpa : Nat) : Nat := 4 * quadOf (patchOf dpa) + jOf dpa

/-- The line of a DPA, and its index in its patch. -/
def lineOf (dpa : Nat) : Nat := dpa / 64 * 64
def lineIx (dpa : Nat) : Nat := dpa / 64 % 1024

/-- Panel of a quadrant-local patch index: 32 patches. -/
def panelOf (p : Nat) : Nat := localOf p / 32

/-! ## Logical devices (R317 to R320) -/

/-- 256 MiB in bytes and in patches. -/
def unit256 : Nat := 0x10000000
def patches256 : Nat := 4096

def State.ldOn (s : State) (k : Nat) : Bool := s.flag (Reg.LD_CFG_ENABLE k)
def State.ldHead (s : State) (k : Nat) : Nat := s.get (Reg.LD_CFG_HEAD k)
def State.ldBase (s : State) (k : Nat) : Nat := s.get (Reg.LD_RANGE_BASE k) * unit256
def State.ldSize (s : State) (k : Nat) : Nat := s.get (Reg.LD_RANGE_SIZE k) * unit256
def State.ldVol (s : State) (k : Nat) : Nat := s.get (Reg.LD_PART_VOL k) * unit256

/-- A request's LD and address name a place that its head serves (R319). -/
def State.decodes (s : State) (head ld addr : Nat) : Bool :=
  decide (ld < 16) && s.ldOn ld && decide (s.ldHead ld = head) && decide (addr < s.ldSize ld)

/-- The enabled LD that holds a DPA. -/
def State.ldOfDpa (s : State) (dpa : Nat) : Option Nat :=
  (List.range 16).find? fun k => s.ldOn k && decide (s.ldBase k ≤ dpa) && decide (dpa < s.ldBase k + s.ldSize k)

/-- Whether a DPA lies in an LD's persistent partition (R318). -/
def State.persistent (s : State) (dpa : Nat) : Bool :=
  match s.ldOfDpa dpa with
  | some k => decide (s.ldBase k + s.ldVol k ≤ dpa)
  | none => false

def State.patchPersistent (s : State) (p : Nat) : Bool := s.persistent (p * 65536)

/-- How many patches of persistent partitions one quadrant holds: each group of four patches has one in each (R10). -/
def State.quadPatches (s : State) : Nat :=
  (List.range 16).foldl (fun n k => if s.ldOn k
    then n + (s.get (Reg.LD_RANGE_SIZE k) - s.get (Reg.LD_PART_VOL k)) * patches256 / 4 else n) 0

/-- The persistent patches of a quadrant in one LD, as ranges of local indices. -/
def State.ldLocals (s : State) (k : Nat) : Nat × Nat :=
  ((s.get (Reg.LD_RANGE_BASE k) + s.get (Reg.LD_PART_VOL k)) * patches256 / 4,
   (s.get (Reg.LD_RANGE_BASE k) + s.get (Reg.LD_RANGE_SIZE k)) * patches256 / 4)

/-- The next local index at or after `l` that lies in a persistent partition, going round once. -/
def State.nextLocal (s : State) (l : Nat) : Option Nat :=
  let ranges := (List.range 16).filterMap fun k =>
    if s.ldOn k && decide ((s.ldLocals k).1 < (s.ldLocals k).2) then some (s.ldLocals k) else none
  let from_ := ranges.filterMap fun r => if l < r.2 then some (max l r.1) else none
  let all := ranges.map (·.1)
  (if from_.isEmpty then all else from_).foldl (fun b x => match b with | none => some x | some y => some (min x y)) none

/-! ## Rank, bank, row and column (R216, R217) -/

/-- The quadrant-local address of a DPA (R216). -/
def localAddr (dpa : Nat) : Nat := localOf (patchOf dpa) * 65536 + dpa % 65536

/-- The sub-channel of a quadrant-local address, and its address there. -/
def jOfLocal (x : Nat) : Nat := (x / 256 % 4) ^^^ (x / 4096 % 4)
def scAddr (x : Nat) : Nat := x / 65536 * 16384 + x / 1024 % 64 * 256 + x % 256

/-- 512 MiB. -/
def unit512 : Nat := 0x20000000

/-- The logical rank of sub-channel n whose range holds a sub-channel address. -/
def State.rankAt (s : State) (n a : Nat) : Option Nat :=
  (List.range 8).find? fun r => s.flag (Reg.SC_RANK_PRESENT n r) && decide (s.get (Reg.SC_RANK_BASE n r) * unit512 ≤ a) &&
    decide (a < (s.get (Reg.SC_RANK_BASE n r) + s.get (Reg.SC_RANK_SIZE n r)) * unit512)

/-- Where a rank offset lies (R217). -/
def locIn (n r off : Nat) : Loc :=
  { sc := n, rank := r, bank := (off / 8192 % 32) ^^^ (off / 262144 % 32), row := off / 262144, col := off / 64 % 128, off := off }

/-- Where a quadrant-local address lies; an address in no rank range, which the loader lets no configuration have, is
counted in rank 0. -/
def State.locLocal (s : State) (q x : Nat) : Loc :=
  let n := 4 * q + jOfLocal x
  let r := (s.rankAt n (scAddr x)).getD 0
  locIn n r (scAddr x - s.get (Reg.SC_RANK_BASE n r) * unit512)

/-- Where a DPA's line lies. -/
def State.locOf (s : State) (dpa : Nat) : Loc := s.locLocal (quadOf (patchOf dpa)) (localAddr (lineOf dpa))

/-! ## Mailbox replies (R334, R342) -/

/-- A return code that reports a failure. -/
def codeFails : RetCode → Bool
  | .success | .backgroundStarted => false
  | _ => true

/-- A mailbox command completes: on MSI-X vector 0 of its function, or in an MCTP response on TW0 (R461). -/
def State.reply (s : State) (fn : FnIx) (code : RetCode) (payload : List Nat) : State :=
  let s := s.emit (.mailbox fn code payload)
  if fn.val = 16 then s.modTw0 fun t => { t with replies := t.replies ++ [(code, payload)] }
  else
    let s := if fn.val < 16 then s.emit (.msix fn 0) else s
    if codeFails code then s.event (srcHead (if fn.val < 16 then s.ldHead fn else 0) 8) 1 Sev.note else s

/-! ## Calibration (R513 to R515) -/

/-- The Undercoat block of a channel (Table 17.6). -/
def calBlock (ch : Nat) : Nat := if ch < 38 then 0 else if ch = 38 then 1 else 2

/-- Undercoat gain (22 fraction bits) and offset; nominal where the block fails its CRC (R514). -/
def State.undercoat (s : State) (ch : Nat) : Nat × Int :=
  if s.otp.undercoatOk.getD (calBlock ch) true then s.otp.undercoat.getD ch (4194304, 0) else (4194304, 0)

/-- The accepted Topcoat entry of a channel: ppm and offset. -/
def State.topcoat (s : State) (ch : Nat) : Option (Int × Int) := sparseGet none s.cfg.topcoat ch

/-- The effective gain with 22 fraction bits, rounded to the nearest, and the effective offset. -/
def State.effective (s : State) (ch : Nat) : Int × Int :=
  let u := s.undercoat ch
  match s.topcoat ch with
  | some (ppm, o) => (((u.1 : Int) * (1000000 + ppm) + 500000) / 1000000, u.2 + o)
  | none => (u.1, u.2)

/-- R515: (raw − effective offset) × effective gain, rounded to the nearest unit; the offset's unit is `scale` raw units. -/
def State.corrected (s : State) (ch : Nat) (scale raw : Int) : Int :=
  let u := s.undercoat ch
  let t := (s.topcoat ch).getD (0, 0)
  ((raw - scale * (u.2 + t.2)) * ((u.1 : Int) * (1000000 + t.1)) + 2097152000000) / 4194304000000

/-- Millivolts at a pin of a monitor code, and behind a divider of a ratio in 1/1000: 4,096 codes are 1.2 V. -/
def codeMv (code : Int) (ratio : Nat) : Int := code * 1200 * ratio / 4096000

/-! ## Phases 5 and 6 of a start (Table 19.2) -/

/-- Every sub-channel holds trained results and every flash channel has ended its initialisation (phases 5 and 6 of
Table 19.2). -/
def State.mediaUp (s : State) : Bool :=
  (List.range 16).all fun n => (s.sc n).ready && (decide (s.get (Reg.FC_STATUS_STATE n) = 2) || decide (s.get (Reg.FC_STATUS_STATE n) = 3))

/-- The start's latest phase ends: phase 7 begins once both have ended. -/
def State.phaseEnds (s : State) : State := if s.mediaUp then s.modImage fun i => { i with phaseAt := s.now } else s

end Sys2Proof.Machine
end

