-- ==== Sys2Proof/Machine/Patches.lean ====
section
/-!
DEFINITION. Sys2Proof/Machine/Patches.lean: the state of every patch of the persistent partition and the transitions of
Table 3.3 (R63 to R68), the wet cache (R82, R83), the setting list (R88, R604) and the panel map (R89).
-/
namespace Sys2Proof.Machine

/-! ## Reading and changing one patch -/

/-- The state table entry of a patch. -/
def State.patch (s : State) (p : Nat) : Patch :=
  match sparseFind s.patches p with
  | some x => x
  | none => (s.quad (quadOf p)).dflt

/-- A patch's entry changed. -/
def State.modPatch (s : State) (p : Nat) (f : Patch → Patch) : State :=
  { s with patches := sparseSet (s.quad (quadOf p)).dflt s.patches p (f (s.patch p)) }

/-- Whether a state counts as exposure (Table 3.2). -/
def PatchSt.exposed : PatchSt → Bool
  | .dry => false
  | _ => true

/-- Exposed patches of a quadrant (R68). -/
def State.exposedOf (s : State) (q : Nat) : Nat :=
  (s.patches.filter fun e => decide (quadOf e.1 = q) && e.2.st.exposed).length

/-- Wet cache entries of a quadrant. -/
def State.cachedOf (s : State) (q : Nat) : List (Nat × Patch) :=
  s.patches.filter fun e => decide (quadOf e.1 = q) && e.2.cached

/-- Unfilled patches of a quadrant (the fill map of R145). -/
def State.unfilledOf (s : State) (q : Nat) : Nat :=
  let listed := s.patches.filter fun e => decide (quadOf e.1 = q)
  if (s.quad q).dflt.unfilled then s.quadPatches - (listed.filter fun e => !e.2.unfilled).length
  else (listed.filter fun e => e.2.unfilled).length

/-- The setting time in force: 0 acts as 1 (Table 4.14). -/
def State.settingTime (s : State) : Nat := max 1 (s.get Reg.SKIM_SETTING_TIME_SUPERFRAMES)

/-! ## Setting list and panel map -/

/-- A panel's map bit set (R89). -/
def Quad.mapSet (d : Quad) (panel : Nat) : Quad := { d with panelMap := setInsert d.panelMap panel }

/-- The setting list has no place for a panel (R88, R93): a sweep starts, or the pass in progress has met an overflow. The
severity NOTE of the event is the model's: no chapter states one. DESIGN CHOICE -/
def State.listOverflow (s : State) (q : Nat) : State :=
  let on := s.flag (Reg.SKIM_Q_SWEEP q)
  (((s.putB (Reg.SKIM_Q_OVERFLOW q) true).putB (Reg.SKIM_Q_SWEEP q) true).modQuad q fun d => { d with
    sweepClean := !on, sweepPtr := if on then d.sweepPtr else 0 }).event (srcPers q 0) 1 Sev.note

/-- A panel joins the setting list (R88): one already there keeps its place and the earlier due superframe; when 8,192
entries stand there the panel is not added, and the list has overflowed (R93). -/
def State.listPanel (s : State) (q panel due : Nat) : State :=
  let l := (s.quad q).setting
  if l.any (fun e => decide (e.1 = panel)) then
    s.modQuad q fun d => { d with setting := d.setting.map fun e => if e.1 = panel then (panel, min e.2 due) else e }
  else if l.length < 8192 then s.modQuad q fun d => { d with setting := d.setting ++ [(panel, due)] }
  else s.listOverflow q

/-- R604: a patch that turned SET other than by time, or was refused, has its panel listed as due now. The panel stands at the
head of the list, since the engine takes it no later than any other panel already due. -/
def State.relist (s : State) (p : Nat) : State :=
  let q := quadOf p
  let panel := panelOf p
  let l := (s.quad q).setting
  match l.find? fun e => decide (e.1 = panel) with
  | some e => s.modQuad q fun d => { d with setting := (panel, min e.2 s.sf) :: d.setting.filter fun x => decide (x.1 ≠ panel) }
  | none => if l.length < 8192 then s.modQuad q fun d => { d with setting := (panel, s.sf) :: d.setting } else s.listOverflow q

/-! ## Wet cache -/

/-- The entry that a full wet cache gives up: the oldest S_w, then the lowest patch index (R83). -/
def oldestWet (l : List (Nat × Patch)) : Option (Nat × Patch) :=
  l.foldl (fun b e => match b with
    | none => some e
    | some x => if e.2.sw < x.2.sw ∨ (e.2.sw = x.2.sw ∧ e.1 < x.1) then some e else some x) none

/-! ## Requests at a sub-channel's entry port (R224, R230, R232) -/

/-- A request of an engine waits at the entry port of its sub-channel, at a position of R224. A request with target t carries
t in its deadline less its entry time until it enters. -/
def State.askPort (s : State) (pos : Nat) (e : QEntry) : State :=
  (s.modSc e.loc.sc fun x => { x with port := x.port ++ [(pos, { e with id := s.fabric.nextId })] }).modFabric fun f => { f with
    nextId := f.nextId + 1 }

/-- The rows of a patch: two in each sub-channel of its quadrant, by the address of their first line. -/
def patchRows (p : Nat) : List Nat := (List.range 8).map fun i => p * 65536 + 256 * (i % 4) + 32768 * (i / 4)

/-- An engine of the quadrant asks for the rows of a patch. One request stands for the 128 column commands of a row, the last of
which closes it (R230). DESIGN CHOICE -/
def State.askRows (s : State) (p origin target : Nat) (wr save : Bool) : State :=
  s.each (patchRows p) fun s a => s.askPort 1 {
    id := 0, origin := origin, dpa := a, loc := s.locOf a, isWrite := wr, deadline := s.now + target, saveCls := save, hint := 2
    entered := s.now }

/-- The state unit's access to a patch's entry of the patch state table (R218, Table 8.2): for a host write at its LD's position
and deadline, otherwise at position 23 (Table 8.4). -/
def State.askEntry (s : State) (p : Nat) (wr : Bool) (ld : Option Nat) : State :=
  let h := 8 * localOf p / 64 * 64
  let x := s.get (Reg.QD_HOUSE_BASE (quadOf p)) * unit512 + h
  s.askPort 4 {
    id := 0, origin := ld.getD 23, dpa := h, house := true, loc := s.locLocal (quadOf p) x, isWrite := wr
    deadline := s.now + 20000, hint := 2, entered := s.now, ld := ld.getD 0 }

/-- R83: room is made in a full wet cache; the evicted patch's panel joins the setting list. -/
def State.wetRoom (s : State) (q : Nat) : State :=
  let l := s.cachedOf q
  if l.length < 65536 then s
  else match oldestWet l with
    | none => s
    | some e => ((s.modPatch e.1 fun x => { x with cached := false }).askEntry e.1 true none).listPanel q (panelOf e.1)
        (e.2.sw + s.settingTime)

/-! ## Transitions -/

/-- A version in flight of a patch that a write overtook (R66). -/
def State.supersede (s : State) (p : Nat) : State :=
  s.modQuad (quadOf p) fun d => { d with versions := d.versions.map fun v =>
    if v.patch = p then { v with superseded := true } else v }

/-- A completed write is applied to its patch's state (R63, R65, R66, R82): it is WET with its S_w renewed. -/
def State.patchWritten (s : State) (p : Nat) : State :=
  let q := quadOf p
  let x := s.patch p
  let s := if x.st = .skimming then s.supersede p else s
  let s := if x.cached then s else (s.wetRoom q).askEntry p false (s.ldOfDpa (p * 65536))
  let g := match s.ldOfDpa (p * 65536) with
    | some k => (s.slot (4 + k)).gen
    | none => 0
  let s := s.modPatch p fun x => { x with st := .wet, sw := s.sf, cached := true, keyGen := g }
  s.modQuad q fun d =>
    let d := d.mapSet (panelOf p)
    if d.reading = some (panelOf p) then { d with reading := none } else d

/-- A patch turns SET and is listed (R604). -/
def State.patchSet (s : State) (p : Nat) : State :=
  ((s.modPatch p fun x => { x with st := .set, cached := false }).modQuad (quadOf p)
    fun d => d.mapSet (panelOf p)).relist p

/-- A patch turns SKIMMING: it leaves the wet cache. -/
def State.patchSkimming (s : State) (p : Nat) : State :=
  s.modPatch p fun x => { x with st := .skimming, cached := false }

/-- A patch turns DRY. -/
def State.patchDry (s : State) (p : Nat) : State := s.modPatch p fun x => { x with st := .dry, cached := false }

/-- The setting time that decides which patches have turned SET: the one the latest superframe boundary found (R65, R87). -/
def State.settledTime (s : State) : Nat := if s.tick.setting = 0 then s.settingTime else s.tick.setting

/-- R84 to R87: every WET patch of a quadrant whose setting time has passed turns SET, but those that a completed write reaches
in the same cycle (R85); a patch that stood in the wet cache leaves it and its panel joins the setting list. -/
def State.settleQuad (s : State) (q : Nat) (written : List Nat) : State :=
  let due := s.patches.filter fun e => decide (quadOf e.1 = q) && decide (e.2.st = .wet) &&
    decide (e.2.sw + s.settledTime ≤ s.sf) && !written.contains e.1
  s.each due fun s e =>
    let s := s.modPatch e.1 fun x => { x with st := .set, cached := false }
    if e.2.cached then s.listPanel q (panelOf e.1) s.sf else s

/-! ## Levels (Table 4.1) -/

/-- EXPO_MAX in force, in GiB: 1 to 1,024, and not below EXPO_FLOOR (R71, R109). -/
def State.expoMaxGib (s : State) : Nat := max (s.get Reg.EXPO_FLOOR_GIB) (max 1 (min 1024 (s.get Reg.EXPO_MAX_GIB)))

/-- The exposure level of an exposure and a budget in patches. -/
def levelOf (cur budget : Nat) : Nat :=
  if budget ≤ cur then 3 else if 9 * budget ≤ 10 * cur then 2 else if 3 * budget ≤ 4 * cur then 1 else 0

/-- Levels are judged while skim is enabled (R111). -/
def State.level (s : State) : Nat :=
  if s.flag Reg.SKIM_CTRL_ENABLE then s.get Reg.EXPO_LEVEL_LEVEL else 0

end Sys2Proof.Machine
end

