-- ==== Sys2Proof/Machine/Keys.lean ====
section
/-!
DEFINITION. Sys2Proof/Machine/Keys.lean: the key store, the data keys, the cipher pairs and the control engine
(12_cipher_and_keys).
-/
namespace Sys2Proof.Machine

/-! ## Derived keys (R345, R346); labels 0 GEN, 1 DATA, 2 LEDGER, 3 STORE, 4 FACTORY -/

/-- The tenant slot of LD k (R322). -/
def tenantSlot (k : Nat) : Nat := 4 + k

/-- The slot of generation g's key (Table 12.1). -/
def genSlot (g : Nat) : Nat := 20 + g % 4

/-- G_g, derived from slot 1. -/
def State.genKey (s : State) (g : Nat) : Option Key := (s.slot 1).key.map fun k => .kdf k 0 g

/-- DK(k, g): the tenant key's derivation blended with G_g. -/
def State.dataKey (s : State) (ld g : Nat) : Option Key :=
  match (s.slot (tenantSlot ld)).key, s.genKey g with
  | some t, some gk => some (.xor (.kdf t 1 g) gk)
  | _, _ => none

/-- LK(g). -/
def State.ledgerKey (s : State) (g : Nat) : Option Key := (s.slot 2).key.map fun k => .kdf k 2 g

/-- The key the record CMAC is made under: slot 0 (Table 7.5). -/
def State.recordKey (s : State) : Option Key := (s.slot 0).key

/-! ## Random draws (R373, R374) -/

/-- The next draw of the DRBG, as a key. -/
def State.drawKey (s : State) : Key × State :=
  (.drawn s.keys.draws, s.modKeys fun k => { k with draws := k.draws + 1, requests := k.requests + 1 })

/-- The next draw as a number. -/
def State.drawNat (s : State) : Nat × State :=
  (Config.drawNat s.keys.draws, s.modKeys fun k => { k with draws := k.draws + 1, requests := k.requests + 1 })

def State.rngOk (s : State) : Bool := s.flag Reg.KEY_STATUS_RNG_OK && !s.keys.refused

/-! ## Slots (R347, R351 to R353) -/

/-- The use mask a slot has by Table 12.2, for the slots whose mask the table sets. -/
def fixedUse (slot : Nat) : Nat :=
  if slot = 0 ∨ slot = 24 then 8 else if slot = 1 ∨ slot = 2 then 64 else if 4 ≤ slot ∧ slot ≤ 19 then 65
  else if 20 ≤ slot ∧ slot ≤ 23 then 64 else if slot = 25 then 12 else if slot = 26 then 4 else 0

/-- Whether a slot is kept across power-down by Table 12.1 (slots 27 to 63 only when loaded with PERSIST). -/
def fixedPersist (slot : Nat) : Bool := decide (slot ≤ 19) || decide (slot = 24)

/-- A key placed in a slot as a VALID key, its generation number unchanged, its usage at 0. -/
def Slot.fill (x : Slot) (slot source use : Nat) (persist : Bool) (k : Key) : Slot :=
  { x with st := .valid, source := source, use := if slot < 27 then fixedUse slot else use,
           persist := fixedPersist slot || persist, key := some k, usage := 0, warned := false }

/-- R352: an ordinary rewrite. The old key serves the requests bound to it, as RETIRING, while there are any. -/
def Slot.rewrite (x : Slot) (slot source use : Nat) (persist : Bool) (k : Key) (bound : Nat) : Slot :=
  let y := x.fill slot source use persist k
  { y with gen := (x.gen + 1) % 65536, old := if bound = 0 then none else x.key, oldBound := bound,
           st := if bound = 0 then .valid else .retiring }

/-- The slot zeroized with its generation number incremented (R353). -/
def Slot.erase (x : Slot) : Slot :=
  { x with st := .empty, gen := (x.gen + 1) % 65536, key := none, old := none, oldBound := 0, usage := 0, warned := false,
           use := 0, persist := false }

/-- Control engine requests bound to a slot. -/
def State.boundTo (s : State) (slot : Nat) : Nat :=
  ((s.keys.ctrlQueue ++ s.keys.ctrlSusp ++ s.keys.ctrlActive.toList).filter fun r => decide (r.slot = slot)).length

/-- An ordinary rewrite of a slot by the key store. -/
def State.rewriteSlot (s : State) (slot source use : Nat) (persist : Bool) (k : Key) : State :=
  s.modSlot slot fun x => x.rewrite slot source use persist k (s.boundTo slot)

/-- R353: an urgent erase aborts every request bound to the slot with KEY_REVOKED, purges the data key caches of what was
derived from it, and zeroizes it. -/
def State.urgentErase (s : State) (slot : Nat) : State :=
  let hit (r : CtrlReq) : Bool := decide (r.slot = slot)
  let gone := (s.keys.ctrlActive.toList ++ s.keys.ctrlSusp ++ s.keys.ctrlQueue).filter hit
  let s := s.each gone fun s r => s.emit (.key r.id 5)
  let s := s.modKeys fun k => { k with
    ctrlQueue := k.ctrlQueue.filter (fun r => !hit r), ctrlSusp := k.ctrlSusp.filter (fun r => !hit r),
    ctrlActive := match k.ctrlActive with | some r => if hit r then none else some r | none => none }
  let s := s.each (List.range 4) fun s q => s.modQuad q fun d => { d with dkc := d.dkc.filter fun e =>
    !(decide (e.1 = slot) || decide (slot = 1 ∧ e.1 ≠ 2) || decide (20 ≤ slot ∧ slot ≤ 23 ∧ e.1 ≠ 2 ∧ genSlot e.2.2 = slot)) }
  s.modSlot slot fun x => x.erase

/-- An invocation on a slot (R357). -/
def State.invoke (s : State) (slot : Nat) : State := s.modSlot slot fun x => { x with usage := min (x.usage + 1) 4294967295 }

/-- R357, once a frame: generation slots take the sum of the quadrants' counts beside their control engine uses; each key
past 2^31 is warned of once, and one at 2^32 − 4,096 is EXHAUSTED. -/
def State.keyUsageSum (s : State) : State :=
  let g := genSlot s.image.gen
  let sum := (List.range 4).foldl (fun n q => n + (s.quad q).encCount) 0
  s.each s.keys.slots fun s e =>
    let n := if e.1 = g ∧ s.image.genOpen then e.2.usage + sum else e.2.usage
    let s := if 2147483648 ≤ n ∧ e.2.st ≠ .empty ∧ ¬ e.2.warned
      then (s.modSlot e.1 fun x => { x with warned := true }).eventAt 0x3EA 1 Sev.note Who.nobody Access.key 0 0 else s
    if 4294963200 ≤ n ∧ e.2.st ≠ .empty ∧ e.2.st ≠ .exhausted
      then s.modSlot e.1 fun x => { x with st := .exhausted } else s

/-! ## Nonces (R361) -/

/-- A bulk encryption start in a quadrant: its count in the running generation, which then rises by one. -/
def State.takeNonce (s : State) (q : Nat) : Nat × State :=
  let n := (s.quad q).encCount
  (n, (s.modQuad q fun d => { d with encCount := n + 1 }).put (Reg.CIPH_QCOUNT_COUNT q) (n + 1))

/-- The 96-bit nonce of an encryption: LD (16 for ledger units), generation, quadrant and count. -/
def nonceOf (ld g q count : Nat) : Nat :=
  ld * 2 ^ 64 + (g % 2 ^ 24) * 2 ^ 40 + q * 2 ^ 38 + count % 2 ^ 38

/-- The counter field of a nonce (Table 7.3). -/
def ctrField (q count : Nat) : Nat := q * 2 ^ 38 + count % 2 ^ 38

/-- CTR_LO of a ledger entry. -/
def ctrLo (ctr : Nat) : Nat := ctr % 2048

/-! ## Bulk pairs -/

/-- A quadrant's active pairs. -/
def State.activePairs (s : State) (q : Nat) : Nat :=
  ((List.range 13).filter fun p => decide (s.get (Reg.PAIR_STATUS_STATE (13 * q + p)) = 0) ||
    decide (s.get (Reg.PAIR_STATUS_STATE (13 * q + p)) = 2)).length

/-- A pair is retired; the spare takes over its work if it is free (R367), and fewer than 11 active pairs are reported. -/
def State.retirePair (s : State) (n : Nat) : State :=
  let q := n / 13
  let sp := 13 * q + 12
  if s.get (Reg.PAIR_STATUS_STATE n) = 3 then s else
  let free := decide (n % 13 ≠ 12) && decide (s.get (Reg.PAIR_STATUS_STATE sp) = 1)
  let s := s.put (Reg.PAIR_STATUS_STATE n) 3
  let s := if free then (s.put (Reg.PAIR_STATUS_STATE sp) 2).put (Reg.PAIR_STATUS_SERVES sp) (n % 13) else s
  let s := s.event (srcPair n 0) 2 Sev.degraded
  if s.activePairs q < 11 then s.event (srcPair n 0) 3 Sev.degraded else s

/-! ## Counter mode and the tag (R360 to R363) -/

/-- A product in GCM's field (SP 800-38D): bit 127 is the coefficient of 1. -/
def gfMul (x y : BitVec 128) : BitVec 128 :=
  ((List.range 128).foldl (fun (a : BitVec 128 × BitVec 128) i =>
    (if x.getLsbD (127 - i) then a.1 ^^^ a.2 else a.1,
     if a.2.getLsbD 0 then (a.2 >>> 1) ^^^ (0xE1#128 <<< 120) else a.2 >>> 1)) (0#128, y)).1

/-- A power in that field, of an exponent below 2^13. -/
def gfPow (h : BitVec 128) (n : Nat) : BitVec 128 :=
  ((List.range 13).foldl (fun (a : BitVec 128 × BitVec 128) k =>
    (if n.testBit k then gfMul a.1 a.2 else a.1, gfMul a.2 a.2)) (1#128 <<< 127, h)).1

/-- The key a unit is encrypted under: DK(k, g) or LK(g). -/
def UnitBody.key : UnitBody → Option Key
  | .data _ _ _ _ k _ _ => some k
  | .journal _ _ _ _ k _ => some k
  | .checkpoint _ _ _ _ _ k _ => some k
  | .map _ _ _ _ k _ => some k
  | .parity _ _ => none
  | .filler _ => none

/-- The 96-bit nonce of a unit (R361). -/
def UnitBody.iv : UnitBody → BitVec 96
  | .data _ ld g ctr _ _ _ => BitVec.ofNat 96 (ld * 2 ^ 64 + g % 2 ^ 24 * 2 ^ 40 + ctr)
  | .journal _ _ g ctr _ _ => BitVec.ofNat 96 (16 * 2 ^ 64 + g % 2 ^ 24 * 2 ^ 40 + ctr)
  | .checkpoint _ _ _ g ctr _ _ => BitVec.ofNat 96 (16 * 2 ^ 64 + g % 2 ^ 24 * 2 ^ 40 + ctr)
  | .map _ _ g ctr _ _ => BitVec.ofNat 96 (16 * 2 ^ 64 + g % 2 ^ 24 * 2 ^ 40 + ctr)
  | .parity _ _ => 0#96
  | .filler _ => 0#96

/-- A number's lowest n bytes, low byte first. -/
def leBytes (n v : Nat) : List Byte := (List.range n).map fun i => BitVec.ofNat 8 (v / 256 ^ i)

/-- 16 bytes as a block, the first byte highest. -/
def blockOf (l : List Byte) : BitVec 128 := l.foldl (fun w b => (w <<< 8) ||| b.zeroExtend 128) 0#128

/-- The additional data block A (R360): PATCH, LD, TYPE and ten zero bytes. -/
def UnitBody.aad : UnitBody → BitVec 128
  | .data p ld _ _ _ _ _ => blockOf (leBytes 4 p ++ leBytes 1 ld ++ leBytes 11 1)
  | .journal _ seq _ _ _ _ => blockOf (leBytes 4 seq ++ leBytes 1 16 ++ leBytes 11 3)
  | .checkpoint _ _ seq _ _ _ _ => blockOf (leBytes 4 seq ++ leBytes 1 16 ++ leBytes 11 4)
  | .map _ seq _ _ _ _ => blockOf (leBytes 4 seq ++ leBytes 1 16 ++ leBytes 11 5)
  | .parity _ _ => 0#128
  | .filler _ => 0#128

/-- Plaintext block j of a unit, 1 to 4,096; of a ledger unit, whose bytes the spec does not lay out, a free value. -/
def UnitBody.plain (b : UnitBody) (j : Nat) : BitVec 128 :=
  match b with
  | .data _ _ _ _ _ c _ => blockOf ((List.range 16).map fun i => dramByte c (16 * (j - 1) + i))
  | b => Config.ledgerBlock b.iv j

/-- Ciphertext block j: counter block J0 + j, J0 = IV ‖ 1. -/
def UnitBody.cipher (b : UnitBody) (j : Nat) : BitVec 128 :=
  match b.key with
  | some k => b.plain j ^^^ Config.aes256 k (b.iv ++ BitVec.ofNat 32 (1 + j))
  | none => b.plain j

/-- H = E_K(0). -/
def UnitBody.hashKey (b : UnitBody) : BitVec 128 := (b.key.map fun k => Config.aes256 k 0#128).getD 0#128

/-- Codeword i's partial value Q_i = Σ C_{i,t} · H^(257 − t) (R362). -/
def UnitBody.partialQ (b : UnitBody) (i : Nat) : BitVec 128 :=
  (List.range 256).foldl (fun a t => gfMul (a ^^^ b.cipher (256 * i + t + 1)) b.hashKey) 0#128

/-- The tag unit's T = E_K(J0) ⊕ S from the sixteen partial values (R362). -/
def UnitBody.tagOf (b : UnitBody) (parts : List (Nat × BitVec 128)) : BitVec 128 :=
  let h := b.hashKey
  let s := parts.foldl (fun a x => a ^^^ gfMul x.2 (gfPow h (3841 - 256 * x.1))) (gfMul b.aad (gfPow h 4098))
  let s := s ^^^ gfMul (BitVec.ofNat 128 (128 * 2 ^ 64 + 524288)) h
  (b.key.map fun k => Config.aes256 k (b.iv ++ 1#32)).getD 0#128 ^^^ s

/-! ## Cipher dispatch (R362, R365) -/

/-- A pair does a quadrant's work: active, or the spare in use. -/
def State.pairActive (s : State) (n : Nat) : Bool :=
  decide (s.get (Reg.PAIR_STATUS_STATE n) = 0) || decide (s.get (Reg.PAIR_STATUS_STATE n) = 2)

def CipherJob.ofLedger (j : CipherJob) : Bool := match j.body with
  | .data _ _ _ _ _ _ _ => false
  | _ => true

/-- A unit's requester, class and urgency (Table 12.5). -/
def State.cipherAsk (s : State) (q : Nat) (j : CipherJob) : Nat × Bool × Nat :=
  match j.patch with
  | none => (0, s.flag Reg.PERS_STATUS_SAVE_ACTIVE, if j.ofLedger then 5 else 3)
  | some p => match (s.quad q).fills.find? fun f => decide (f.patch = p) with
    | some f => (match f.cls with
      | .background => (2, false, 2)
      | .faultIn => (1, false, 7)
      | .merge => (1, true, 7))
    | none => (1, false, 7)

/-- One grant: a requester's oldest codeword goes to the lowest-numbered idle active pair. -/
def State.cipherGrant (s : State) (q : Nat) : State :=
  let jobs := (s.quad q).ciph
  let busy (p : Nat) : Bool := jobs.any fun j => j.running.any fun x => decide (x.1 = p)
  let waits := jobs.filter fun j => decide (j.next < 16)
  let heads := [0, 1, 2].filterMap fun k => waits.find? fun j => decide ((s.cipherAsk q j).1 = k)
  match (List.range 13).find? (fun p => s.pairActive (13 * q + p) && !busy p), grant (s.ptr q 3) 3 (heads.map (s.cipherAsk q)) with
  | some p, some k => match heads.find? fun j => decide ((s.cipherAsk q j).1 = k) with
    | some j => s.modQuad q fun d => { d with ciph := d.ciph.map fun x =>
        if x = j then { x with next := x.next + 1, running := x.running ++ [(p, x.next)] } else x }
    | none => s
  | _, _ => s

/-- A unit that a program still carries to a die of its quadrant, or that waits for one. -/
def State.programs (s : State) (q : Nat) (b : UnitBody) : Bool :=
  let isIt (o : DieOp) : Bool := match o.kind with
    | .program x _ => decide (x = b)
    | _ => false
  (s.quad q).ledgerWait.contains b || (List.range 32).any fun i =>
    let d := s.die (32 * q + i)
    d.queue.any isIt || d.held.any isIt || d.current.any isIt || d.suspended.any isIt

/-- The patches whose version has been read and waits for its tag (R363). -/
def State.decrypts (s : State) (q : Nat) : List Nat :=
  (((s.quad q).fills.filter fun f => decide (f.read = some true) && f.tag.isNone).map (·.patch)) ++
  (((s.quad q).heals.filter fun h => decide (h.read = some true) && h.tag.isNone).map (·.patch))

/-- The version of a patch that its ledger entry names, as it stands on its die. -/
def State.storedVersion (s : State) (p : Nat) : Option UnitBody :=
  match sparseGet LEntry.none s.image.ledger p with
  | .version die unit _ _ => (sparseGet none (s.die die).units unit).bind fun x => if x.good then some x.body else none
  | _ => none

/-- The units at the dispatch: one whose program or reader is gone leaves, and a version just read joins. -/
def State.cipherSync (s : State) (q : Nat) : State :=
  let want := s.decrypts q
  let kept := (s.quad q).ciph.filter fun j => match j.patch with
    | some p => want.contains p
    | none => s.programs q j.body
  let fresh := (want.filter fun p => !(kept.any fun j => decide (j.patch = some p))).eraseDups
  let jobs := fresh.filterMap fun p => (s.storedVersion p).map fun b => ({ patch := some p, body := b } : CipherJob)
  s.modQuad q fun d => { d with ciph := kept ++ jobs }

/-- The dispatch of a quadrant. -/
def State.cipherGo (s : State) (q : Nat) : State := (s.cipherSync q).each (List.range 13) fun s _ => s.cipherGrant q

/-- A unit begins to be encrypted. -/
def State.encrypts (s : State) (q : Nat) (b : UnitBody) : State :=
  s.modQuad q fun d => { d with ciph := d.ciph ++ [{ body := b }] }

/-- A codeword of a unit ends on a pair: its Q_i joins the others, and with the sixteenth the tag is complete. -/
def CipherJob.codewordEnds (j : CipherJob) (p : Nat) : CipherJob :=
  let i := ((j.running.find? fun x => decide (x.1 = p)).map (·.2)).getD 0
  let parts := j.parts ++ [(i, j.body.partialQ i)]
  { j with running := j.running.filter (fun x => decide (x.1 ≠ p)), parts := parts
           tag := if parts.length = 16 then some (j.body.tagOf parts) else none }

/-- A unit's encryption is complete: its tag is there (R363). -/
def State.encrypted (s : State) (q : Nat) (b : UnitBody) : Bool :=
  (s.quad q).ciph.all fun j => j.patch.isSome || decide (j.body ≠ b) || j.tag.isSome

/-- A patch's version is decrypted, as far as its tag's compare. -/
def State.decrypted (s : State) (q p : Nat) : Bool :=
  (s.quad q).ciph.all fun j => decide (j.patch ≠ some p) || j.tag.isSome

/-- DATA_KEY_DERIVATION (R346, R364): the cache misses and the control engine derives the key at urgent class; with a slot
it needs EMPTY the derivation is refused. The entry replaces the one least recently used of 64. -/
def execDataKeyDerivation (q : QuadIx) (r : KeyDerivation) (s : State) : Result :=
  let miss (s : State) (e : Nat × Nat × Nat) (ok : Bool) : State :=
    let s := s.bump (Reg.CIPH_DKC_MISS_COUNT q) 1
    if ok then (s.modQuad q fun d => { d with dkc := (e :: d.dkc.filter (· ≠ e)).take 64 }).bump Reg.CIPH_CTRL_COUNT_COUNT 1
    else s.event 0x3EE 1 Sev.note
  let s := s.begin
  .next (match r with
    | .data ld g => miss s (tenantSlot ld, (s.slot (tenantSlot ld)).gen, g) (s.dataKey ld g).isSome
    | .ledger g => miss s (2, (s.slot 2).gen, g) (s.ledgerKey g).isSome)

/-! ## The control engine (R368 to R372) -/

/-- The class a request is served at: every request is urgent while a save is active (Table 12.6). -/
def State.ctrlClass (s : State) (r : CtrlReq) : Nat := if s.flag Reg.PERS_STATUS_SAVE_ACTIVE then 0 else r.cls

/-- A request ends on its slot; the last one bound to a superseded key frees it (R352). -/
def State.ctrlUnbind (s : State) (r : CtrlReq) : State :=
  s.modSlot r.slot fun x => if r.slotGen ≠ x.gen then { x with oldBound := x.oldBound - 1 } else x

/-- R372: the request in progress ends. -/
def State.ctrlEnd (s : State) (mismatch spareMismatch : Bool) : State :=
  match s.keys.ctrlActive with
  | none => s
  | some r =>
    let s := (s.modKeys fun k => { k with ctrlActive := none }).ctrlUnbind r
    let a := s.get Reg.CIPH_CTRL_STATUS_ACTIVE
    let done (s : State) : State := (s.bump Reg.CIPH_CTRL_COUNT_COUNT 1).emit (.key r.id 0)
    if !mismatch then done s
    else
      let s := s.event (0x3E8 + a) 1 Sev.corrected
      if s.flag Reg.CIPH_CTRL_STATUS_SPARE_LEFT && !spareMismatch then
        let s := ((s.put Reg.CIPH_CTRL_STATUS_ACTIVE (1 - a)).putB Reg.CIPH_CTRL_STATUS_SPARE_LEFT false).event (0x3E8 + a) 2 Sev.degraded
        done (s.modKeys fun k => { k with ctrlRetired := setInsert k.ctrlRetired a })
      else (((s.putB Reg.CIPH_CTRL_STATUS_FAULT true).event (0x3E8 + a) 3 Sev.uncorrected).bump
        Reg.CIPH_CTRL_COUNT_COUNT 1).emit (.key r.id 4)

/-- The oldest of the highest class present (0 is highest). -/
def State.ctrlBest (s : State) (l : List CtrlReq) : Option CtrlReq :=
  l.foldl (fun b r => match b with
    | none => some r
    | some x => if s.ctrlClass r < s.ctrlClass x then some r else some x) none

/-- The engine takes up the highest class that waits: a suspended request before a queued one of its class (R370). -/
def State.ctrlDispatch (s : State) : State :=
  match s.keys.ctrlActive, s.ctrlBest (s.keys.ctrlSusp ++ s.keys.ctrlQueue) with
  | none, some r => s.modKeys fun k => { k with
      ctrlActive := some r, ctrlSusp := k.ctrlSusp.filter (fun x => x.id ≠ r.id), ctrlQueue := k.ctrlQueue.filter (fun x => x.id ≠ r.id) }
  | some a, some r =>
    if s.ctrlClass r < s.ctrlClass a ∧ s.keys.ctrlSusp.length < 2 then
      (s.modKeys fun k => { k with
        ctrlActive := some r, ctrlQueue := k.ctrlQueue.filter (fun x => x.id ≠ r.id), ctrlSusp := k.ctrlSusp.filter (fun x => x.id ≠ r.id) ++ [a] }).bump Reg.CIPH_CTRL_SUSPENDS_COUNT 1
    else s
  | _, none => s

/-- The IV of a GCM request (R369): of an encryption the nonce formed from the slot and its invocation count, of a decryption
the request's own. -/
def ctrlIv (a : CtrlArrival) (usage : Nat) : BitVec 96 :=
  if a.mode ≠ .gcm then 0#96
  else if a.encrypt then BitVec.ofNat 96 ((2147483648 + a.slot.val) * 2 ^ 64 + usage % 2 ^ 40) else a.iv

/-- The queue accepts a request (R347, R351, R357): refused with KEY_USE, KEY_STALE or KEY_EXHAUSTED, or bound to the slot's
generation, counted where it encrypts or generates a MAC, and queued. -/
def State.ctrlAccept (s : State) (id : Nat) (a : CtrlArrival) : State :=
  let x := s.slot a.slot
  let refuse (code kind : Nat) : State := (s.eventAt 0x3EA kind Sev.note Who.cipher Access.key 0 0).emit (.key id code)
  let r : CtrlReq := { id := id, who := a.who, cls := a.cls, slot := a.slot, slotGen := x.gen, mode := a.mode, encrypt := a.encrypt
                       iv := ctrlIv a x.usage }
  if x.st = .empty ∨ x.use / 2 ^ a.use.val % 2 = 0 then refuse 1 3
  else if a.gen.isSome ∧ a.gen ≠ some x.gen then refuse 2 4
  else if x.st = .exhausted then refuse 3 2
  else (if a.encrypt ∧ a.mode ≠ .kdf then s.invoke a.slot else s).modKeys fun k => { k with ctrlQueue := k.ctrlQueue ++ [r] }

/-- The queue has a place for a request: 8 of the 32 are for urgent class (R370). -/
def State.ctrlFits (s : State) (a : CtrlArrival) : Bool :=
  decide (s.keys.ctrlQueue.length < if s.flag Reg.PERS_STATUS_SAVE_ACTIVE || decide (a.cls = 0) then 32 else 24)

/-- One grant of the entry port (R371): each requester presents its oldest request, one that finds no place waits. -/
def State.ctrlGrant (s : State) : State :=
  let heads := (List.range 8).filterMap fun w => s.keys.ctrlPort.find? fun x => decide (x.2.who.val = w)
  match grant (s.ptr 0 8) 8 ((heads.filter fun x => s.ctrlFits x.2).map fun x => (x.2.who.val, false, 0)) with
  | none => s
  | some w => match heads.find? fun x => decide (x.2.who.val = w) with
    | none => s
    | some x => (s.modKeys fun k => { k with ctrlPort := k.ctrlPort.filter fun y => decide (y.1 ≠ x.1) }).ctrlAccept x.1 x.2

/-- The entry port passes what the queue has places for. -/
def State.ctrlEnter (s : State) : State := s.each s.keys.ctrlPort fun s _ => s.ctrlGrant

/-- A request comes to the entry port. -/
def State.ctrlArrive (s : State) (a : CtrlArrival) : State :=
  s.modKeys fun k => { k with ctrlNext := k.ctrlNext + 1, ctrlPort := k.ctrlPort ++ [(k.ctrlNext, a)] }

/-- CONTROL_ENGINE_REQUEST. -/
def execControlEngineRequest (i : CtrlReqIn) (s : State) : Result :=
  let s := s.begin
  let s := match i.ends with | some (m, sm) => s.ctrlEnd m sm | none => s
  .next (((s.ctrlDispatch.each i.arrives State.ctrlArrive).ctrlEnter).ctrlDispatch)

/-- RETIRING_KEY_ZEROIZE (R352): a superseded key with no request bound to it any more is zeroized. -/
def execRetiringKeyZeroize (slot : Nat) (s : State) : Result :=
  occurs (decide ((s.slot slot).st = .retiring) && decide ((s.slot slot).oldBound = 0)) s fun s =>
    s.modSlot slot fun x => { x with st := if x.key.isSome then .valid else .empty, old := none }

/-- ENTROPY_TEST_FAIL (R374): the DRBG refuses every request until a good reseed. -/
def execEntropyTestFail (s : State) : Result :=
  let s := s.begin
  .next ((((s.putB Reg.KEY_STATUS_RNG_OK false).bump Reg.KEY_STATUS_RNG_FAILS 1).modKeys fun k => { k with refused := true }).event
    0x3ED 1 Sev.degraded)

end Sys2Proof.Machine
end

