-- ==== Sys2Proof/Machine/Media.lean ====
section
/-!
DEFINITION. Sys2Proof/Machine/Media.lean: the operations over dies, die queues, stripe sets, bands, the ledger and its
journal that skim, save, restore and collection share (07_image_and_ledger, 10_flash_media).
-/
namespace Sys2Proof.Machine

/-! ## Dies and layout -/

/-- Position d of a die in its channel, its channel, and the die at a position of a channel (R7). -/
def posOf (n : Nat) : Nat := n % 8
def chanOf (n : Nat) : Nat := n / 8
def dieAt (pos chan : Nat) : Nat := 8 * chan + pos

/-- The k-th die of a quadrant in layout order (R94; the example of R188): channel k mod 4, position k div 4. -/
def layoutDie (q k : Nat) : Nat := 8 * (4 * q + k % 4) + k / 4

/-- A die takes work: it is ready (DIE_STATUS.STATE 2). -/
def State.dieUp (s : State) (n : Nat) : Bool := decide (s.get (Reg.DIE_STATUS_STATE n) = 2)

/-- Populated dies that are not retired: D of Table 3.5. -/
def State.dieCount (s : State) : Nat := ((List.range 128).filter s.dieUp).length

/-- The record die of a channel (R178): its lowest-numbered die that is not retired. -/
def State.recordDie (s : State) (chan : Nat) : Option Nat :=
  ((List.range 8).map fun d => 8 * chan + d).find? s.dieUp

/-- The parity channel of stripe set (pos, u) (R179). -/
def State.parityChan (s : State) (pos u : Nat) : Option Nat :=
  ((List.range 16).map fun i => (u + pos + i) % 16).find? fun c => s.dieUp (dieAt pos c)

/-! ## Stripe sets -/

def State.stripe (s : State) (pos u : Nat) : Option StripeSet :=
  s.image.sets.find? fun x => decide (x.pos = pos) && decide (x.unit = u)

def State.modStripe (s : State) (pos u : Nat) (f : StripeSet → StripeSet) : State :=
  s.modImage fun i => { i with sets := i.sets.map fun x => if x.pos = pos ∧ x.unit = u then f x else x }

/-- A member joins its set's accumulator as its program starts (R180). -/
def State.stripeAdd (s : State) (pos u chan : Nat) : State :=
  let s := match s.stripe pos u with
    | some _ => s
    | none => s.modImage fun i => { i with sets := i.sets ++ [({ pos := pos, unit := u } : StripeSet)] }
  s.modStripe pos u fun x => { x with members := setInsert x.members chan }

/-- R184: a failed member is cancelled from its set and is a void. -/
def State.stripeVoid (s : State) (pos u chan : Nat) : State :=
  s.modStripe pos u fun x => { x with members := setErase x.members chan, voids := setInsert x.voids chan }

/-- The data dies of a set that have neither programmed nor voided their unit. -/
def State.stripeOpenDies (s : State) (x : StripeSet) : List Nat :=
  (List.range 16).filter fun c => s.dieUp (dieAt x.pos c) && decide (s.parityChan x.pos x.unit ≠ some c) &&
    !(x.members.contains c) && !(x.voids.contains c) && !((s.die (dieAt x.pos c)).voids.contains x.unit)

/-! ## Queues -/

/-- Operations of an order waiting in a die queue. -/
def Die.waiting (d : Die) (order : Nat) : List DieOp := d.queue.filter fun o => decide (o.order = order)

/-- The operations of a die that have not started. -/
def Die.asked (d : Die) : List DieOp := d.queue ++ d.held


/-- The places of a class (Table 10.4). -/
def classPlaces (order : Nat) : Nat := if order = 2 then 4 else if 6 ≤ order then 1 else 2

/-- The sort of an operation: garbage collection has a place for each. -/
def OpKind.sort : OpKind → Nat
  | .read _ _ => 0
  | .erase _ => 2
  | _ => 1

/-- Two operations share their class's places. -/
def DieOp.sharesPlace (a b : DieOp) : Bool :=
  decide (a.order = b.order) && (!(decide (a.order = 4 ∨ a.order = 6)) || decide (a.kind.sort = b.kind.sort))

/-- The parity program of a unit. -/
def OpKind.isParityOf (k : OpKind) (u : Nat) : Bool :=
  match k with
  | .program (.parity _ _) (some v) => decide (v = u)
  | _ => false

/-- An operation finds a place in its class (R292). Fault-in and heal reads take theirs under R159. A parity program whose die
stands at its unit needs none: what fills its class waits for it. -/
def Die.hasPlace (d : Die) (o : DieOp) : Bool :=
  decide (o.order = 2) || o.kind.isParityOf d.nextUnit ||
    decide ((d.queue.filter fun x => x.sharesPlace o).length < classPlaces o.order)

/-- Requests that wait for a place enter the queue, oldest first. -/
def Die.letIn (d : Die) : Die :=
  d.held.foldl (fun d o => if d.hasPlace o then { d with queue := d.queue ++ [o], held := d.held.erase o } else d) d

/-- The older copy of a die's block map is rewritten, as it is at every change of the map (R299). -/
def Die.writeMap (d : Die) : Die :=
  { d with
    mapSeq := d.mapSeq + 1
    mapCopies := ({ seq := d.mapSeq + 1, blocks := d.blockMap, spareLeft := d.spareLeft, grown := d.grownBad, pending := d.pendingBad }
      : BlockMap) :: d.mapCopies.take 1 }

/-- A die's block map as one of its copies has it. -/
def Die.takeMap (d : Die) (m : BlockMap) : Die :=
  { d with
    mapSeq := m.seq, blockMap := m.blocks, spareLeft := m.spareLeft, grownBad := m.grown, pendingBad := m.pending, mapCopies := [m] }

/-- An operation joins a die queue, or waits for a place of its class. -/
def State.pushOp (s : State) (n : Nat) (o : DieOp) : State :=
  s.modDie n fun d => ({ d with held := d.held ++ [{ o with entered := s.now }] } : Die).letIn

/-- A die whose next unit is its set's parity unit starts no data program (R181). -/
def State.dieBlocked (s : State) (n : Nat) : Bool :=
  let d := s.die n
  !d.noBand && decide (s.parityChan (posOf n) d.nextUnit = some (chanOf n))

/-! ## Bands (R177, R309, R213) -/

def State.unitsPerBand (s : State) : Nat := max 1 (s.get Reg.IMG_GEOM_UNITS_PER_BAND)

/-- The capacity of a record area's block group in pages (R178): a band member's units of four 16 KiB pages. -/
def State.recordPages (s : State) : Nat := 4 * s.unitsPerBand

/-- The pages of a channel's record area that stand, oldest first. -/
def RecArea.pages (a : RecArea) : List RecCopy := a.other ++ a.active
def State.recordsOn (s : State) (chan : Nat) : List RecCopy := (sparseGet {} s.image.records chan).pages

/-- A record copy is programmed on the next page of the active block group; when that is full, the other one is erased and
becomes the active one (R178). -/
def State.addCopy (s : State) (chan : Nat) (c : RecCopy) : State :=
  let full := decide (s.recordPages ≤ (sparseGet {} s.image.records chan).active.length)
  s.modImage fun i => { i with records := sparseUpd {} i.records chan fun a =>
    if full then { other := a.active, active := [c] } else { a with active := a.active ++ [c] } }

/-- A copy of a record that did not read back. -/
def State.spoilCopy (s : State) (chan : Nat) (r : Record) (k : Nat) : State :=
  let bad (l : List RecCopy) := l.map fun c => if c.record = r ∧ c.copy = k then { c with good := false } else c
  s.modImage fun i => { i with records := sparseUpd {} i.records chan fun a => { other := bad a.other, active := bad a.active } }

/-- Bands of a position that hold units. -/
def State.usedAt (s : State) (pos : Nat) : List Nat :=
  s.image.usedBands.filterMap fun k => if k / 4096 = pos then some (k % 4096) else none

/-- Free bands of a position. -/
def State.freeBands (s : State) (pos : Nat) : List Nat :=
  (List.range s.cfg.media.bands).filter fun b => !((s.usedAt pos).contains b)

/-- The summed erase count of a band over its position's dies (R309). -/
def State.bandWear (s : State) (pos b : Nat) : Nat := sparseGet 0 s.image.erases (4096 * pos + b)

/-- The free band a position opens next: the lowest summed erase count, then the lowest number (R309). -/
def State.nextBand (s : State) (pos : Nat) : Option Nat :=
  (s.freeBands pos).foldl (fun best b => match best with
    | none => some b
    | some x => if s.bandWear pos b < s.bandWear pos x then some b else some x) none

/-- GC_STATUS after a change of the free bands (Table 7.16); a position newly below FREE_CRIT is reported. -/
def State.judgeFree (s : State) : State :=
  let counts := (List.range 8).map fun p => (p, (s.freeBands p).length)
  let lo := counts.foldl (fun (b : Nat × Nat) x => if x.2 < b.2 then x else b) (0, (s.freeBands 0).length)
  let crit := counts.any fun x => decide (x.2 < s.get Reg.GC_CTRL_FREE_CRIT)
  let was := s.flag Reg.GC_STATUS_CRIT
  let s := ((s.putSat Reg.GC_STATUS_MIN_FREE lo.2).put Reg.GC_STATUS_MIN_POS lo.1).putB Reg.GC_STATUS_CRIT crit
  if crit && !was then s.event (srcPers 0 5) 1 Sev.degraded else s

/-- The band of the first parity program that waits in a die's queue (R181). -/
def State.parityBand (s : State) (d : Die) : Option Nat :=
  d.asked.findSome? fun o => match o.kind with
    | .program (.parity _ _) (some u) => some (u / s.unitsPerBand)
    | _ => none

/-- Whether a die has no unit to program: it has no band, or its band is full. -/
def State.bandFull (s : State) (n : Nat) : Bool :=
  let d := s.die n
  d.noBand || (decide (d.nextUnit % s.unitsPerBand = 0) && decide (d.nextUnit ≠ 0) &&
    decide (sparseGet none s.image.openBand (posOf n) ≠ some (d.nextUnit / s.unitsPerBand)) &&
    decide (s.parityBand d ≠ some (d.nextUnit / s.unitsPerBand)))

/-- A die goes on in the first unit of a band. -/
def State.enterBand (s : State) (n b : Nat) : State :=
  s.modDie n fun d => { d with nextUnit := b * s.unitsPerBand, noBand := false }

/-- A position opens its next band, if it has a free one, for a die. -/
def State.newBandFor (s : State) (n : Nat) : State :=
  match s.nextBand (posOf n) with
  | none => s
  | some b => ((s.modImage fun i => { i with
      openBand := sparseSet none i.openBand (posOf n) (some b), usedBands := setInsert i.usedBands (4096 * posOf n + b),
      freshBand := setErase i.freshBand (posOf n) }).enterBand n b).judgeFree

/-- A die is given a band to program in when its own is full or it has none: the band of a parity program that waits for it,
its position's open band, unless that is the one it has just filled, else a band newly opened. -/
def State.openBandFor (s : State) (n : Nat) : State :=
  if !s.bandFull n then s else
  let pos := posOf n
  let d := s.die n
  let own := if d.noBand then none else some (d.nextUnit / s.unitsPerBand - 1)
  match s.parityBand d, sparseGet none s.image.openBand pos with
  | some b, _ => s.enterBand n b
  | none, some b => if !(s.image.freshBand.contains pos) && own ≠ some b then s.enterBand n b else s.newBandFor n
  | none, none => s.newBandFor n

/-- Whether a die's next program must open a band, which R203 denies to skim in a position below FREE_CRIT. -/
def State.needsBand (s : State) (n : Nat) : Bool :=
  decide (sparseGet none (s.openBandFor n).image.openBand (posOf n) ≠ sparseGet none s.image.openBand (posOf n))

def State.posCrit (s : State) (pos : Nat) : Bool := decide ((s.freeBands pos).length < s.get Reg.GC_CTRL_FREE_CRIT)

/-- The order of collection's operations in a position: its own class, or skim class below FREE_CRIT (R203). -/
def State.gcOrder (s : State) (pos : Nat) : Nat := if s.posCrit pos then 4 else 6

/-! ## Handing programs out (R94, R181, R190) -/

/-- A program that takes the die's next unit, whichever that is. -/
def OpKind.takesNextUnit : OpKind → Bool
  | .program (.filler _) _ => false
  | .program _ none => true
  | _ => false

/-- The unit that follows one in a die's program order: the next of its band, else the first of the band it opens next. -/
def State.unitAfter (s : State) (n u : Nat) : Nat :=
  if (u + 1) % s.unitsPerBand ≠ 0 then u + 1
  else match sparseGet none s.image.openBand (posOf n) with
    | some b => if b ≠ u / s.unitsPerBand then b * s.unitsPerBand else ((s.nextBand (posOf n)).getD b) * s.unitsPerBand
    | none => ((s.nextBand (posOf n)).getD 0) * s.unitsPerBand

/-- Whether a program handed to a die now, behind `ahead` others from a unit on, would meet a parity unit that no set has
handed over yet: a void takes a FILLER (R183), a parity program in the queue takes its own unit. -/
def State.meetsParity (s : State) (n : Nat) (u ahead : Nat) : Nat → Bool
  | 0 => false
  | fuel + 1 =>
    let d := s.die n
    if d.voids.contains u then s.meetsParity n (s.unitAfter n u) ahead fuel
    else if s.parityChan (posOf n) u = some (chanOf n) then
      if d.asked.any fun o => o.kind.isParityOf u then s.meetsParity n (s.unitAfter n u) ahead fuel else true
    else if ahead = 0 then false
    else s.meetsParity n (s.unitAfter n u) (ahead - 1) fuel

/-- A die that would program the unit of an open set's parity takes no data program (R181); what waits in its queue comes
first. -/
def State.passedOver (s : State) (n : Nat) : Bool :=
  let d := (s.openBandFor n).die n
  !d.noBand && s.meetsParity n d.nextUnit (d.asked.filter fun o => o.kind.takesNextUnit).length (d.asked.length + d.voids.length + 2)

/-- The first die in layout order from a place that may take a program (R94), and its place. -/
def State.pickDie (s : State) (q from_ : Nat) (ok : Nat → Bool) : Option (Nat × Nat) :=
  (((List.range 32).map fun i => (from_ + i) % 32).find? fun k =>
    s.dieUp (layoutDie q k) && !s.passedOver (layoutDie q k) && ok (layoutDie q k)).map fun k => (k, layoutDie q k)

/-- The order and places of a program of each kind outside and during a save (Table 10.4). -/
def State.ledgerOrder (s : State) : Nat := if s.flag Reg.PERS_STATUS_SAVE_ACTIVE then 1 else 3

/-- A die whose queue has a place for one more program of an order. -/
def State.hasRoom (s : State) (order n : Nat) : Bool := decide (((s.die n).waiting order).length < 2)

/-- A quadrant hands a ledger unit (journal, CHECKPOINT or MAP) to the next die that takes it; while there is none, or an
earlier one waits, it waits (R292). -/
def State.pushLedgerUnit (s : State) (q : Nat) (body : UnitBody) : State :=
  match (s.quad q).ledgerWait, s.pickDie q (s.quad q).layoutPos (s.hasRoom s.ledgerOrder) with
  | [], some (k, n) =>
    (s.pushOp n { order := s.ledgerOrder, kind := .program body none, quad := q, entered := 0 }).modQuad q
      fun d => { d with layoutPos := (k + 1) % 32 }
  | _, _ => s.modQuad q fun d => { d with ledgerWait := d.ledgerWait ++ [body] }

/-- The ledger units that wait are handed out again, in their order. -/
def State.ledgerGo (s : State) (q : Nat) : State :=
  let w := (s.quad q).ledgerWait
  (s.modQuad q fun d => { d with ledgerWait := [] }).each w fun s b => s.pushLedgerUnit q b

/-- A unit's content under another invocation counter (R190). -/
def UnitBody.renonce (ctr : Nat) : UnitBody → UnitBody
  | .journal q seq gen _ k e => .journal q seq gen ctr k e
  | .checkpoint q page seq gen _ k e => .checkpoint q page seq gen ctr k e
  | .map q seq gen _ k p => .map q seq gen ctr k p
  | b => b

/-- A ledger unit is encrypted under the next nonce of its quadrant and handed out. -/
def State.sealLedgerUnit (s : State) (q : Nat) (body : UnitBody) : State :=
  let (ctr, s) := s.takeNonce q
  let body := body.renonce (ctrField q ctr)
  ((s.invoke 2).encrypts q body).pushLedgerUnit q body

/-! ## Wear (R96) -/

/-- The account's register: the balance in patches, rounded toward minus infinity (Table 4.22). -/
def State.showAccount (s : State) (q : Nat) : State :=
  s.put (Reg.WEAR_ACCOUNT_VALUE q) (((s.quad q).wear / 16777216) % 4294967296).toNat

/-- One program to a die of a quadrant is charged: 65,536 bytes from the account (held in 1/256 byte), one unit to P_q. -/
def State.chargeWear (s : State) (q : Nat) : State :=
  let s := (s.modQuad q fun d => { d with wear := d.wear - 16777216 }).showAccount q
  let lo := 0x030360 + 8 * q
  s.put64 lo (lo + 4) (s.get64 lo (lo + 4) + 1)

/-- P_q in units of 65,536 bytes. -/
def State.programmed (s : State) (q : Nat) : Nat := s.get64 (0x030360 + 8 * q) (0x030364 + 8 * q)

/-! ## Ledger and journal (R187 to R190) -/

/-- The ledger page of a patch: 8,192 consecutive entries of its quadrant. -/
def pageOf (p : Nat) : Nat := localOf p / 8192

/-- What an unlisted patch's entry is: NONE, or that of a lost ledger page (R193). -/
def State.ledgerDflt (s : State) (p : Nat) : LEntry :=
  if (s.quad (quadOf p)).lostPages.contains (pageOf p) then .failed else .none

/-- A ledger entry changed and journaled (R189). -/
def State.ledgerSet (s : State) (p : Nat) (e : LEntry) : State :=
  let q := quadOf p
  (s.modImage fun i => { i with ledger := sparseSet (s.ledgerDflt p) i.ledger p e }).modQuad q fun d => { d with
    journal := d.journal ++ [{ patch := p, entry := e, sf := s.sf % 2 ^ 32 }],
    journalSf := some (d.journalSf.getD s.sf), changed := setInsert d.changed (pageOf p) }

def State.ledger (s : State) (p : Nat) : LEntry := sparseGet (s.ledgerDflt p) s.image.ledger p

/-- The open journal unit, at most 4,080 entries, is handed to a die (R190), under a nonce of its own and the running
generation's ledger key. -/
def State.flushJournal (s : State) (q : Nat) : State :=
  let d := s.quad q
  match s.ledgerKey s.image.gen with
  | none => s
  | some k =>
    let body : UnitBody := .journal q d.journalSeq s.image.gen 0 k (d.journal.take 4080)
    (s.sealLedgerUnit q body).modQuad q fun d => { d with
      journal := d.journal.drop 4080
      journalSf := (d.journal.drop 4080).head?.map fun e => s.sf - (s.sf + 2 ^ 32 - e.sf) % 2 ^ 32
      journalSeq := (d.journalSeq + 1) % 2 ^ 48 }

/-- The entries of one ledger page that are not NONE. -/
def State.pageEntries (s : State) (q page : Nat) : List (Nat × LEntry) :=
  s.image.ledger.filter fun e => decide (quadOf e.1 = q) && decide (pageOf e.1 = page)

/-! ## Versions -/

def State.modVersion (s : State) (q : Nat) (b : UnitBody) (f : Version → Version) : State :=
  s.modQuad q fun d => { d with versions := d.versions.map fun v => if v.body = b then f v else v }

def State.dropVersion (s : State) (q : Nat) (b : UnitBody) : State :=
  s.modQuad q fun d => { d with versions := d.versions.filter fun v => decide (v.body ≠ b) }

/-- The content of a patch as a read through its sub-channels finds it, after the writes that wait for DRAM (R53, R231),
and its poisoned lines. -/
def State.patchContent (s : State) (p : Nat) : List Host.Cell := dramSlice (s.drained p).dram (p * 65536) 65536
def State.patchPoison (s : State) (p : Nat) : BitVec 1024 := sparseGet noLines (s.drained p).poison p

/-- A patch's DRAM content and poison replaced. -/
def State.loadPatch (s : State) (p : Nat) (content : List Host.Cell) (poison : BitVec 1024) : State :=
  { s with dram := dramLoad s.dram (p * 65536) 65536 content, poison := sparseSet noLines s.poison p poison }

/-- Whether a tenant key of an LD bars a version: the slot is EMPTY, or newer than the key at the patch's latest write
(R131, R205, R355). -/
def State.revoked (s : State) (p : Nat) : Bool :=
  match s.ldOfDpa (p * 65536) with
  | none => false
  | some k =>
    let x := s.slot (tenantSlot k)
    decide (x.st = .empty) || decide (x.gen ≠ (s.patch p).keyGen)

/-- A revoked marker: no program, the entry REVOKED, the patch DRY (R205). -/
def State.markRevoked (s : State) (p : Nat) : State := (s.patchDry p).ledgerSet p .revoked

/-- Whether a new version of a patch is refused for a used up key (R357, R358). -/
def State.keyExhausted (s : State) (p : Nat) : Bool :=
  decide ((s.slot (genSlot s.image.gen)).st = .exhausted) ||
  match s.ldOfDpa (p * 65536) with
  | none => false
  | some k => decide ((s.slot (tenantSlot k)).st = .exhausted)

/-- A version of a patch's content is made and handed to a die's queue (R64, R91, R126, R186): the nonce is taken, the
data key used, and the patch is SKIMMING. -/
def State.startVersion (s : State) (q p n order : Nat) (bySave : Bool) (content : List Host.Cell) (poison : BitVec 1024) : State :=
  match s.ldOfDpa (p * 65536) with
  | none => s
  | some k =>
    match s.dataKey k s.image.gen with
    | none => s
    | some key =>
      let (ctr, s) := s.takeNonce q
      let s := s.invoke (tenantSlot k)
      let body : UnitBody := .data p k s.image.gen (ctrField q ctr) key content poison
      let v : Version := {
        patch := p, ld := k, keyGen := (s.slot (tenantSlot k)).gen, gen := s.image.gen, ctr := ctrField q ctr, die := n,
        bySave := bySave, body := body }
      let s := ((s.patchSkimming p).modQuad q fun d => { d with versions := d.versions ++ [v] }).encrypts q body
      (s.askRows p (if bySave then 17 else 16) 100000 false bySave).pushOp n {
        order := order, kind := .program body none, quad := q, entered := 0, patch := some p }

/-- A version that cannot be recorded (Table 3.3): its patch turns SET and is listed; during a save the patch is written
again on the next die, until it has failed on 2 further dies and is left (R130). -/
def State.versionFailed (s : State) (v : Version) : State :=
  let q := quadOf v.patch
  let s := s.dropVersion q v.body
  if v.abandoned then s else
  let s := if (s.patch v.patch).st = .skimming ∧ ¬ v.superseded then s.patchSet v.patch else s
  if v.bySave ∧ s.flag Reg.PERS_STATUS_SAVE_ACTIVE then
    let n := sparseGet 0 (s.quad q).saveFails v.patch + 1
    let s := s.modQuad q fun d => { d with
      saveFails := sparseSet 0 d.saveFails v.patch n, saveNext := min d.saveNext (localOf v.patch) }
    if 3 ≤ n then s.putB Reg.SAVE_STATUS_INCOMPLETE true else s
  else s

/-- The quadrant that owns a unit (Table 7.2). -/
def UnitBody.owner : UnitBody → Nat
  | .data p _ _ _ _ _ _ => quadOf p
  | .parity q _ => q
  | .journal q _ _ _ _ _ => q
  | .checkpoint q _ _ _ _ _ _ => q
  | .map q _ _ _ _ _ => q
  | .filler q => q

/-- The patch that a DATA unit holds a version of. -/
def UnitBody.patch : UnitBody → Option Nat
  | .data p _ _ _ _ _ _ => some p
  | _ => none

/-- A relocation of a quadrant is discarded; one that a retired die wants is wanted still (R209). -/
def State.dropReloc (s : State) (q : Nat) (r : Reloc) : State :=
  let s := s.modQuad q fun d => { d with relocs := d.relocs.filter (· ≠ r) }
  if s.dieUp r.fromDie then s else s.modDie r.fromDie fun d => { d with rebuild := setInsert d.rebuild r.fromUnit }

/-- A program that goes back to its issuer unmade: a relocation is discarded, a version fails, a ledger unit is programmed
again on the next die under a new nonce (R190). -/
def State.programBack (s : State) (b : UnitBody) : State :=
  let q := b.owner
  match (s.quad q).relocs.find? (fun r => decide (r.body = b)), (s.quad q).versions.find? (fun v => decide (v.body = b)) with
  | some r, _ => s.dropReloc q r
  | none, some v => s.versionFailed v
  | none, none => match b with
    | .data _ _ _ _ _ _ _ => s
    | .parity _ _ => s
    | .filler _ => s
    | b => s.sealLedgerUnit q b

/-- The content of a unit programmed with good status. -/
def State.unitBody (s : State) (die unit : Nat) : Option UnitBody :=
  match sparseGet none (s.die die).units unit with
  | some x => if x.good then some x.body else none
  | none => none

/-- A member lost after all: it counts as failed, and its issuer programs it again (R184, R190, R606). -/
def State.memberLost (s : State) (n u : Nat) : State :=
  match s.unitBody n u with
  | some b => (s.modDie n fun d => { d with units := sparseSet none d.units u (some { body := b, good := false }) }).programBack b
  | none => s

/-- PARITY_PROGRAM_FAIL (R606): the set has no parity; its present members count as failed. -/
def State.parityFailed (s : State) (pos u : Nat) : State :=
  match s.stripe pos u with
  | none => s
  | some x =>
    let s := s.modImage fun i => { i with sets := i.sets.filter fun y => !(decide (y.pos = pos) && decide (y.unit = u)) }
    s.each x.members fun s c => s.memberLost (dieAt pos c) u

/-- An operation of a die that takes no more work goes back (R184, R305, R606): a parity program leaves its set without
parity, a program under way makes its unit a void. -/
def State.opBack (s : State) (n : Nat) (o : DieOp) : State :=
  match o.kind with
  | .program (.parity _ _) (some u) => s.parityFailed (posOf n) u
  | .program b (some u) => (s.stripeVoid (posOf n) u (chanOf n)).programBack b
  | .program b none => s.programBack b
  | _ => s

/-! ## Live units (R199) -/

/-- A DATA unit is live while a ledger entry names it. -/
def State.namedByLedger (s : State) (die unit : Nat) : Bool :=
  s.image.ledger.any fun e => match e.2 with
    | .version d u _ _ => decide (d = die) && decide (u = unit)
    | _ => false

/-- MAP units that the two newest valid seals name. -/
def State.sealedMaps (s : State) : List (Nat × Nat) := (s.image.seals.map fun r => r.mapLoc.filterMap id).flatten

/-- Units that a MAP unit names. -/
def State.mapPages (s : State) (die unit : Nat) : List (Nat × Nat) :=
  match sparseGet none (s.die die).units unit with
  | some { body := .map _ _ _ _ _ pages, .. } => pages.map fun x => (x.2.1, x.2.2)
  | _ => []

/-- A journal unit whose sequence number a later generation has used again: no replay reads it (R192). -/
def State.journalShadowed (s : State) (q seq gen : Nat) : Bool :=
  (List.range 32).any fun i => (s.die (32 * q + i)).units.any fun e => match e.2 with
    | some { body := .journal q' seq' gen' _ _ _, good := true, .. } => decide (q' = q) && decide (seq' = seq) && decide (gen < gen')
    | _ => false

/-- Whether a unit is live (Table 7.6). DESIGN CHOICE: units that the next seal will name count too, the newest MAP and pages
of a quadrant and the journal units written since the newest seal; Table 7.6 names only the two newest valid seals, and
collecting the others would leave that next seal naming erased units. -/
def State.live (s : State) (die unit : Nat) : Bool :=
  match sparseGet none (s.die die).units unit with
  | none => false
  | some x => x.good && !x.stale && match x.body with
    | .data _ _ _ _ _ _ _ => s.namedByLedger die unit
    | .map q _ _ _ _ _ => (s.sealedMaps.contains (die, unit)) || decide ((s.quad q).mapLoc = some (die, unit))
    | .checkpoint q page _ _ _ _ _ =>
      (s.sealedMaps.any fun m => (s.mapPages m.1 m.2).contains (die, unit)) ||
        decide (sparseGet none (s.quad q).pageLoc page = some (die, unit))
    | .journal q seq gen _ _ entries =>
      let lo := s.image.seals.foldl (fun m r => min m r.ckptSf) (s.image.seals.headD default_).ckptSf
      decide (seq < (s.quad q).journalSeq) && (entries.any fun e => decide (lo % 2 ^ 32 ≤ e.sf)) && !s.journalShadowed q seq gen
    | .parity _ _ => false
    | .filler _ => false
where
  default_ : Record := {
    kind := .sealCheckpoint, seq := 0, run := 0, gen := 0, time := 0, dsc := 0, mapLoc := [], journalTail := [], ckptSf := 0,
    pq := [], firstRunTime := 0, key := .fixed 0 }

/-- Units that lie in a band of a position, as (die, unit). -/
def State.bandUnits (s : State) (pos b : Nat) : List (Nat × Nat) :=
  ((List.range 16).map fun c => ((s.die (dieAt pos c)).units.filterMap fun e =>
    if e.1 / s.unitsPerBand = b then some (dieAt pos c, e.1) else none)).flatten

def State.liveInBand (s : State) (pos b : Nat) : List (Nat × Nat) := (s.bandUnits pos b).filter fun x => s.live x.1 x.2

/-! ## Retirement of a die (R305, R306) -/

/-- A die's live units, which its retirement leaves to be rebuilt (R209). -/
def State.liveOn (s : State) (n : Nat) : List Nat := ((s.die n).units.map (·.1)).filter fun u => s.live n u

/-- The sequence number of the newest DSC record of the log ring. -/
def newestDsc (l : List LogRecord) : Option LogRecord :=
  l.foldl (fun b r => match r.body with
    | .dsc _ _ => some r
    | _ => b) none

/-- One record put at the ring's next place (R436), and SEQ_LOG moved on. -/
def State.putLog (s : State) (t : Nat) (b : LogBody) : State :=
  let n := s.seq.ringSeq
  let s := s.modSeq fun x => { x with ring := x.ring ++ [{ seq := n, time := t, body := b }], ringSeq := n + 1 }
  (s.put Reg.SEQ_LOG_NEXT ((n + 1) % 32768)).putSat Reg.SEQ_LOG_WRAPS ((n + 1) / 32768)

/-- The log ring takes a record (R436): its sequence number counts across all types. A record that is the first of its
sector has the next sector erased, the newest DSC record being copied first if it lies there (R78). -/
def State.logRecordAt (s : State) (t : Nat) (b : LogBody) : State :=
  let n := s.seq.ringSeq
  let s := s.putLog t b
  if n % 64 ≠ 0 then s else
  let gone (r : LogRecord) : Bool := decide (r.seq + 32768 ≥ n + 64) && decide (r.seq + 32768 < n + 128)
  let s := match newestDsc s.seq.ring with
    | some r => if gone r then s.putLog r.time r.body else s
    | none => s
  s.modSeq fun x => { x with ring := x.ring.filter fun r => !gone r }

/-- A record of a change that comes about now (R571). -/
def State.logRecord (s : State) (b : LogBody) : State := s.logRecordAt s.now b

/-- C_q × PE in bytes (R95): the pseudo-SLC capacity of the quadrant's good blocks times the endurance. -/
def State.endurance (s : State) (q : Nat) : Nat :=
  let up := (List.range 32).filter fun i => s.dieUp (32 * q + i)
  let gone := up.foldl (fun n i => n + (s.die (32 * q + i)).retiredBlocks) 0
  (4 * up.length * s.cfg.media.bands - gone) * s.unitsPerBand * 16384 * s.cfg.media.pe

/-- WEAR_ALLOWANCE_RECOMPUTE for one quadrant (R95, R99): A_q in bytes per frame with 8 fraction bits, rounded down to 1/256
byte; each quadrant raises its own events once, and the flags show whether any quadrant has its condition. The rounding, the
severities DEGRADED and NOTE and the clearing of the flags are the model's: no chapter states them. DESIGN CHOICE -/
def State.wearAllowance (s : State) (q : Nat) : State :=
  let days := max 365 (min 7305 (s.get Reg.WEAR_LIFE_TARGET_DAYS))
  let tEnd : Int := ((s.image.firstRunTime.getD s.now) + sec (days * 86400) : Nat)
  let left : Int := tEnd - (s.now : Int)
  let remaining : Int := (s.endurance q : Int) - (s.programmed q * 65536 : Nat)
  let life : Int := max left (sec (30 * 86400) : Nat)
  let a : Nat := (max 0 remaining).toNat * 1024 * 256 / life.toNat
  let worn := decide (remaining ≤ 0)
  let past := decide (left < (sec (30 * 86400) : Nat))
  let was := s.quad q
  let s := (s.putSat (Reg.WEAR_ALLOW_VALUE q) a).modQuad q fun d => { d with allowSf := s.sf, wornOut := worn, lifeOver := past }
  let s := s.putB Reg.WEAR_STATUS_EXHAUSTED ((List.range 4).any fun k => (s.quad k).wornOut)
  let s := s.putB Reg.WEAR_STATUS_LIFE_EXCEEDED ((List.range 4).any fun k => (s.quad k).lifeOver)
  let s := if worn && !was.wornOut then s.event (srcPers q 0) 3 Sev.degraded else s
  if past && !was.lifeOver then s.event (srcPers q 0) 4 Sev.note else s

/-- A die's retirement under a condition of Table 10.5 (its row): it takes no more work, its queued requests go back to
their issuers, its live units wait to be rebuilt. -/
def State.retireDie (s : State) (n cond : Nat) : State :=
  if s.get (Reg.DIE_STATUS_STATE n) = 4 ∨ s.get (Reg.DIE_STATUS_STATE n) = 0 then s else
  let q := n / 32
  let live := s.liveOn n
  let failed := (s.die n).suspended ++ (s.die n).asked
  let s := s.put (Reg.DIE_STATUS_STATE n) 4
  let s := { s with retired := if s.retired.any (fun x => decide (x.1 = n)) then s.retired else s.retired ++ [(n, cond)] }
  let s := s.modDie n fun d => { d.writeMap with queue := [], held := [], suspended := [], rebuild := live }
  let s := s.put (Reg.FC_STATUS_RETIRED (n / 8)) (s.get (Reg.FC_STATUS_RETIRED (n / 8)) ||| 2 ^ (n % 8))
  let s := match s.recordDie (n / 8) with
    | some r => if s.get (Reg.FC_STATUS_RECORD_D (n / 8)) ≠ r % 8
        then ((s.put (Reg.FC_STATUS_RECORD_D (n / 8)) (r % 8)).modImage fun i => { i with
          records := sparseSet {} i.records (n / 8) {} }).event (srcFc (n / 8) 2) 1 Sev.note else s
    | none => s
  let s := s.logRecord (.retiredDie n cond)
  let s := s.eventAt (srcDie n) 7 Sev.degraded Who.nobody Access.none 3 (flashAddr n 0)
  let s := s.each failed fun s o => s.opBack n o
  s.wearAllowance q

/-! ## Poison list (R330 to R332) -/

/-- A line enters the poison list, unless it is there; a full list drops it and keeps the time of the first loss. -/
def State.addPoison (s : State) (line : Nat) (src : PoisonSrc) : State :=
  if s.fabric.poisonList.any (fun e => decide (e.1 = line)) then s
  else if s.fabric.poisonList.length < 8192 then s.modFabric fun f => { f with poisonList := f.poisonList ++ [(line, src)] }
  else s.modFabric fun f => { f with poisonOvf := some (f.poisonOvf.getD s.now) }

/-- A write of an engine: it is the latest to its line, over the writes that still wait for DRAM. -/
def State.writeOver (s : State) (dpa : Nat) (d : WriteData) : State :=
  let hit (x : Nat) : Bool := decide (lineOf x = lineOf dpa)
  let s := s.each [0, 1] fun s h => s.modHead h fun x => { x with
    reqs := x.reqs.map fun r => if r.done && r.write.isSome && hit r.dpa then { r with write := some d } else r }
  let n := scOf dpa
  (s.modSc n fun x => { x with writeQ := x.writeQ.map fun e => if !e.house && e.write.isSome && (e.done || e.saveCls) && hit e.dpa
    then { e with write := some d } else e }).writeLine dpa d

/-- The line of an Inject or Clear Poison command is written, and the command completes (R333). -/
def State.poisonWrite (s : State) (w : PoisonWait) : State :=
  let s := s.writeOver w.dpa { line := w.data.getD zeroLine, be := allBytes, poison := w.data.isNone }
  let s := if s.persistent w.dpa then s.patchWritten (patchOf w.dpa) else s
  let s := match w.data with
    | none => s.addPoison (lineOf w.dpa) .injected
    | some _ => s.modFabric fun f => { f with poisonList := f.poisonList.filter fun e => decide (e.1 ≠ lineOf w.dpa) }
  s.reply w.fn .success []

/-- Whether an access to a line waits for its patch's fill (R158, R163). -/
def State.waitsFill (s : State) (dpa : Nat) : Bool :=
  let x := s.patch (patchOf dpa)
  s.persistent dpa && decide (x.st = .dry) && x.unfilled

/-- Level 3 holds a write that would turn a DRY patch WET (R72, R104). -/
def State.levelHolds (s : State) (dpa : Nat) : Bool :=
  decide (s.level = 3) && s.persistent dpa && !(s.patch (patchOf dpa)).st.exposed && !(s.quad (quadOf (patchOf dpa))).railLost

/-- A write to a line may complete: neither its patch's fill (R163) nor the level (R104) holds it. -/
def State.completable (s : State) (dpa : Nat) : Bool := !s.waitsFill dpa && !s.levelHolds dpa

/-- Inject and Clear Poison commands whose patches have been filled, and that the level does not hold, go on (R72, R333). -/
def State.poisonGoes (s : State) : State :=
  let ready := s.fabric.poisonWaits.filter fun w => s.completable w.dpa
  (s.modFabric fun f => { f with poisonWaits := f.poisonWaits.filter fun w => !s.completable w.dpa }).each ready State.poisonWrite

/-- What a host write's completion, or its drain in a save, does to its patch and to the poison list (R54, R82, R330). -/
def State.writeApplied (s : State) (dpa : Nat) (w : Option WriteData) : State :=
  let s := if (w.map WriteData.poison).getD false then s.addPoison (lineOf dpa) .external else s
  if s.persistent dpa then s.patchWritten (patchOf dpa) else s

/-- A save drains a write without its holds: it turns its patch WET and is recorded in the merge mask of an unfilled one (R54,
R164). -/
def State.writeMerged (s : State) (dpa : Nat) (w : Option WriteData) : State :=
  let p := patchOf dpa
  let s := if s.persistent dpa && (s.patch p).unfilled then s.modQuad (quadOf p) fun d => { d with
      merges := sparseUpd noLines d.merges p fun m => m ||| lineBit (lineIx dpa) } else s
  s.writeApplied dpa w

/-- A request of the quadrant engine, the migration engine or the state unit (Table 8.4). -/
def QEntry.engine (e : QEntry) : Bool := [16, 17, 18, 19, 21, 23].contains e.origin

/-- A host write that waits in a write queue and whose completion has not been returned (R163). -/
def QEntry.undone (e : QEntry) : Bool := e.isWrite && e.head.isSome && !e.done && !e.saveCls

/-- An earlier write to a line has not completed: it waits in the head, or for its fill in a write queue. Writes to one line
complete in the order in which they came (R53). -/
def State.undoneBefore (s : State) (h id dpa : Nat) : Bool :=
  let hit (a : Nat) : Bool := decide (lineOf a = lineOf dpa)
  ((s.head h).reqs.any fun r => r.write.isSome && !r.done && decide (r.id < id) && hit r.dpa) ||
  s.scs.any fun x => x.2.writeQ.any fun e => e.undone && hit e.dpa

/-- A write to the same line waits in the head and is itself held (R105). -/
def State.heldBefore (s : State) (h dpa : Nat) : Bool :=
  (s.head h).reqs.any fun r => r.write.isSome && decide (r.stage ≠ .ready) && decide (lineOf r.dpa = lineOf dpa)

/-- An LD whose function reports Media Status Not Ready after media ready: an erase runs, or its key slot is EMPTY (R337,
R338, R354). -/
def State.ldNotReady (s : State) (k : Nat) : Bool := (s.ld k).notReady || decide ((s.slot (tenantSlot k)).st = .empty)

/-! ## Commands of one CCLK cycle (R64, R85, R90, R106, R202) -/

/-- The line to which a command completes a write of a persistent partition at once, if it does. -/
def State.writesNow (s : State) : Instr → Option Nat
  | .hostWrite r _ =>
    let h := r.head.val
    let dpa := lineOf (s.ldBase r.ld + r.addr)
    if s.receives h true && (s.head h).mediaReady && s.decodes h r.ld r.addr && !s.ldNotReady r.ld && s.persistent dpa &&
      s.completable dpa && decide (s.level ≠ 3) && !s.heldBefore h dpa && !s.undoneBefore h s.fabric.nextId dpa
    then some dpa else none
  | _ => none

/-- The patches to which the next commands of the queue, which come in the cycle of the present one, complete a write. -/
def State.matesWrite (s : State) (mates : Nat) : List Nat := ((s.pending.take mates).filterMap s.writesNow).map patchOf

/-- The position at which a command asks for the wet cache port of a quadrant (R90): the write path of a sub-channel, a state
probe, or the quadrant engine. -/
def State.wetAsk (s : State) (q : Nat) (c : Instr) : Option Nat :=
  match c, s.writesNow c with
  | .stateProbeAnswer h id _, _ =>
    ((s.head h).reqs.find? fun r => decide (r.id = id) && decide (r.stage = .probing) && decide (quadOf (patchOf r.dpa) = q)).map fun _ => 4
  | .skimStart k _ _, _ => if k.val = q then some 5 else none
  | _, some dpa => if quadOf (patchOf dpa) = q then some (jOf dpa) else none
  | _, none => none

/-- The wet cache port grants a requester over the others of its cycle (R90). Its requests carry no urgency; a write path that
loses waits within the step of its HOST_WRITE. DESIGN CHOICE -/
def State.wetGrants (s : State) (q pos mates : Nat) : Bool :=
  decide (grant (s.ptr q 6) 6 ((pos :: (s.pending.take mates).filterMap (s.wetAsk q)).map fun p => (p, false, 0)) = some pos)

/-- A write that waited in its write queue completes. -/
def State.completeQueued (s : State) (n : Nat) (e : QEntry) : State :=
  let s := s.modSc n fun x => { x with writeQ := x.writeQ.map fun y => if y.id = e.id then { y with done := true } else y }
  (if e.orphan then s else s.sendNdr (e.head.getD 0) e.ld e.tag).writeApplied e.dpa e.write

/-- The writes of a sub-channel whose holds have ended complete in the order in which its queue received them (R162, R163). -/
def State.releaseQueued (s : State) (n : Nat) : State :=
  s.each ((s.sc n).writeQ.filter QEntry.undone) fun s e => if s.completable e.dpa then s.completeQueued n e else s

/-- The uncorrectable event of a line's sub-channel and rank (Table 16.10: UE, or UE_ADDR for an address error). -/
def State.ueEvent (s : State) (dpa : Nat) (addrErr : Bool) (sev who acc : Nat) : State :=
  let l := s.locOf dpa
  s.eventAt (srcSc l.sc l.rank) (if addrErr then 3 else 2) sev who acc 1 (lineOf dpa)

/-- Lines of a patch that an engine's read finds uncorrectable, as a mask (R129, R267). -/
def badMask (p : Nat) (lines : List Nat) : BitVec 1024 :=
  lines.foldl (fun m a => if patchOf a = p then m ||| (lineBit (lineIx a)) else m) noLines

/-- The poison that a version of a patch carries when lines read uncorrectable, and the events of those lines (R129,
R267). -/
def State.badLines (s : State) (p : Nat) (lines : List Nat) (who : Nat) : State :=
  s.each (lines.filter fun a => decide (patchOf a = p)) fun s a => s.ueEvent a false Sev.uncorrected who Access.read

end Sys2Proof.Machine
end

