-- ==== Sys2Proof/Machine/Skim.lean ====
section
/-!
DEFINITION. Sys2Proof/Machine/Skim.lean: skim, exposure levels and the wear governor (04_skim_and_exposure).
-/
namespace Sys2Proof.Machine

/-! ## Choosing the next SET patch (R91 to R93) -/

/-- The first SET patch of a panel that has not been refused. -/
def State.setInPanel (s : State) (q panel : Nat) (refused : List Nat) : Option Nat :=
  (List.range 32).find? fun j => !refused.contains j && decide ((s.patch (patchAt q (32 * panel + j))).st = .set)

/-- The engine ends its work on a panel: WET patches put it back on the list (R92); 32 DRY entries with no write since the
read began clear its map bit (R89). -/
def State.leavePanel (s : State) (q panel : Nat) : State :=
  let entries := (List.range 32).map fun j => s.patch (patchAt q (32 * panel + j))
  let wets := entries.filter fun x => decide (x.st = .wet)
  let s := s.modQuad q fun d => { d with panel := none }
  match wets with
  | x :: rest => s.listPanel q panel (rest.foldl (fun m y => min m y.sw) x.sw + s.settingTime)
  | [] =>
    if entries.all (fun x => decide (x.st = .dry)) && decide ((s.quad q).reading = some panel)
    then s.modQuad q fun d => { d with panelMap := setErase d.panelMap panel, reading := none }
    else s

/-- The panel the engine turns to when it works on none: the head of the setting list once due, else the sweep's next
panel (R91); a sweep that has passed the whole map without overflow ends (R93). -/
def State.nextPanel (s : State) (q : Nat) : Bool × State :=
  let take (s : State) (p : Nat) : Bool × State := (true, s.modQuad q fun d => { d with panel := some (p, []), reading := some p })
  match (s.quad q).setting.head?.filter (fun e => decide (e.2 ≤ s.sf)) with
  | some (p, _) => take (s.modQuad q fun d => { d with setting := d.setting.tail }) p
  | none =>
    if !s.flag (Reg.SKIM_Q_SWEEP q) then (false, s) else
    match (s.quad q).panelMap.find? (fun p => decide ((s.quad q).sweepPtr ≤ p)) with
    | some p => take (s.modQuad q fun d => { d with sweepPtr := p + 1 }) p
    | none =>
      let s := if (s.quad q).sweepClean then (s.putB (Reg.SKIM_Q_SWEEP q) false).putB (Reg.SKIM_Q_OVERFLOW q) false else s
      (false, s.modQuad q fun d => { d with sweepPtr := 0, sweepClean := true })

/-- The next SET patch in the order of R91, and the state in which the engine stands at it. -/
def State.nextSet (s : State) (q : Nat) : Nat → Option Nat × State
  | 0 => (none, s)
  | fuel + 1 =>
    match (s.quad q).panel with
    | some (p, refused) =>
      match s.setInPanel q p refused with
      | some j => (some (patchAt q (32 * p + j)), s)
      | none => (s.leavePanel q p).nextSet q fuel
    | none =>
      match s.nextPanel q with
      | (true, s) => s.nextSet q fuel
      | (false, s) => (none, s)

/-- The engine goes past a patch that was refused. -/
def State.pastPatch (s : State) (q p : Nat) : State :=
  s.modQuad q fun d => { d with panel := d.panel.map fun e => (e.1, e.2 ++ [localOf p % 32]) }

/-! ## Pace and account (R96 to R101); both in 1/256 byte -/

/-- 65,536 bytes. -/
def patchCost : Nat := 16777216

/-- SKIM_MAX ÷ 4 for one frame: the rate in 0.1 GB/s, clamped to 10 to 500. -/
def State.skimMaxPace (s : State) : Nat := max 10 (min 500 (s.get Reg.SKIM_MAX_RATE)) * 65536 / 10

/-- The pace that Table 4.2 states for a quadrant, where it states one. -/
def State.pace (s : State) (q : Nat) : Option Nat :=
  let a := s.get (Reg.WEAR_ALLOW_VALUE q)
  match s.level with
  | 3 => none
  | 0 =>
    if 0 ≤ (s.quad q).wear then none
    else if s.get Reg.EXPO_BUDGET_PATCHES ≤ 2 * s.get Reg.EXPO_CUR_PATCHES then some (a * 15 / 16) else some (a * 15 / 32)
  | _ => some s.skimMaxPace

/-- Whether Table 4.2 lets skim start a program in a quadrant. -/
def State.maySkim (s : State) (q : Nat) : Bool :=
  match s.pace q with
  | some _ => decide ((patchCost : Int) ≤ (s.quad q).pace)
  | none => decide (s.level = 3) || decide ((patchCost : Int) ≤ (s.quad q).wear)

/-- WEAR_CREDIT_MAX and WEAR_DEBT_WARN in 1/256 byte. -/
def gib256 (n : Nat) : Nat := n * 2 ^ 38

/-- Levels, pace accumulators and withholding stand still from a save commit's arrival on (R110). -/
def State.frozen (s : State) : Bool := s.flag Reg.PERS_STATUS_SAVE_ACTIVE && !s.working

/-- WEAR_ACCOUNT_FRAME (R96, R98, R101), for every quadrant and then the summed debt. The severity NOTE of WEAR_DEBT_HIGH is
the model's: no chapter states one. DESIGN CHOICE -/
def State.wearFrame (s : State) : State :=
  let frozen := s.frozen
  let s := s.each (List.range 4) fun s q =>
    let s := s.modQuad q fun d => { d with
      wear := min (gib256 (min 64 (s.get Reg.WEAR_CREDIT_MAX_GIB)) : Int) (d.wear + s.get (Reg.WEAR_ALLOW_VALUE q)),
      pace := if frozen then d.pace else match s.pace q with | some p => min (patchCost : Int) (d.pace + p) | none => d.pace }
    s.showAccount q
  let debt := (List.range 4).foldl (fun n q => n + (max 0 (-(s.quad q).wear)).toNat) 0
  let warn := gib256 (max 1 (s.get Reg.WEAR_DEBT_WARN_GIB))
  let low := s.flag Reg.SKIM_CTRL_ENABLE && decide (s.level = 0)
  let s := s.putB Reg.WEAR_STATUS_REPAYING (low &&
    decide (2 * s.get Reg.EXPO_CUR_PATCHES < s.get Reg.EXPO_BUDGET_PATCHES) &&
    (List.range 4).any fun q => decide ((s.quad q).wear < 0))
  if warn < debt ∧ ¬ s.flag Reg.WEAR_STATUS_DEBT_HIGH then
    (s.putB Reg.WEAR_STATUS_DEBT_HIGH true).event (srcPers 0 0) 2 Sev.note
  else if 2 * debt < warn then s.putB Reg.WEAR_STATUS_DEBT_HIGH false else s

/-! ## Levels (R100 to R103, R107) -/

/-- The fraction withheld in 1/256 (R103). It is rounded down, as is the number of credits withheld: R103 gives the steps and no
rounding. DESIGN CHOICE -/
def withheldOf (wmax cur budget : Nat) : Nat :=
  if budget = 0 then wmax else min wmax (wmax * (10 * cur - 9 * budget) / budget)

/-- Pack states that count as faulted or absent (Table 13.2): ABSENT, AUTH, FAULTED and SHIP. -/
def packBad (st : Nat) : Bool := [0, 1, 6, 7].contains st

/-- EXPOSURE_LEVEL_JUDGE: the level, the exposure DevLoad, the credits withheld and the pack hold of the frame. -/
def State.judgeLevel (s : State) : State :=
  if s.frozen then s else
  let cur := s.get Reg.EXPO_CUR_PATCHES
  let budget := s.get Reg.EXPO_BUDGET_PATCHES
  let on := s.flag Reg.SKIM_CTRL_ENABLE
  let lv := if on then levelOf cur budget else 0
  let dev := if lv = 3 then 3 else if lv = 2 then (if 20 * cur < 19 * budget then 2 else 3) else 0
  let w := if lv = 3 then s.get Reg.EXPO_THROTTLE_W_MAX
    else if lv = 2 then withheldOf (s.get Reg.EXPO_THROTTLE_W_MAX) cur budget else 0
  let hold := on && packBad (s.get Reg.PACK_STATE_STATE) && decide (budget < cur)
  let s := (((s.put Reg.EXPO_LEVEL_LEVEL lv).put Reg.EXPO_LEVEL_DEVLOAD dev).put Reg.EXPO_LEVEL_WITHHELD w).putB
    Reg.EXPO_LEVEL_PACK_HOLD hold
  let s := s.putB Reg.PERS_STATUS_EXPO_STALL (decide (lv = 3))
  let s := if lv = 3 then s.bump Reg.EXPO_STALL_FRAMES_COUNT 1 else s
  let unpaced := on && (List.range 4).any fun q =>
    (decide (lv = 3) || (decide (lv = 0) && decide ((patchCost : Int) ≤ (s.quad q).wear))) &&
    s.patches.any fun e => decide (quadOf e.1 = q) && decide (e.2.st = .set)
  let s := s.putB Reg.SKIM_RATE_UNPACED unpaced
  s.each [0, 1] fun s h =>
    let all := hold || s.flag (Reg.FAB_LOAD_ESCALATED h)
    s.put (Reg.FAB_LOAD_RWD_WITHHELD h) (if all then 192 else 192 * w / 256)

/-! ## Commands -/

/-- PATCH_SETTING_EXPIRY (R65, R84 to R88). The next `mates` commands of the queue come in its CCLK cycle. -/
def execPatchSettingExpiry (q : QuadIx) (mates : Nat) (s : State) : Result :=
  .next (s.begin.settleQuad q (s.begin.matesWrite mates))

/-- Whether a quadrant's engines run: its DRAM rail is up, no save or warm reset holds them (R110). -/
def State.quadRuns (s : State) (q : Nat) : Bool :=
  !(s.quad q).railLost && s.working && s.flag Reg.PERS_STATUS_MEDIA_READY

/-- A SET patch is handed to a die as SKIMMING, lines that read uncorrectable as poison (R267); with no die that accepts it,
nothing starts in the frame (R94). -/
def State.skimOn (s : State) (q p : Nat) (bad : List Nat) : Option (Nat × Nat) → State
  | none => s.modQuad q fun d => { d with noStart := some s.frame }
  | some (k, n) =>
    let lines := bad.filter fun a => decide (patchOf a = p)
    let s := (s.badLines p bad Who.skim).each lines fun s a => s.addPoison (lineOf a) .internal
    (s.startVersion q p n 4 false (s.patchContent p) (s.patchPoison p ||| badMask p bad)).modQuad q fun d => { d with
      layoutPos := (k + 1) % 32, pace := d.pace - (patchCost : Int) }

/-- The die that takes a skim. -/
def State.skimDie (s : State) (q : Nat) : Option (Nat × Nat) :=
  s.pickDie q (s.quad q).layoutPos fun n =>
    decide (((s.die n).waiting 4).length < 2) && !(s.needsBand n && s.posCrit (posOf n))

/-- What the engine does with the next SET patch: it becomes a revoked marker, is refused for an exhausted key, or is handed
to a die. -/
def State.skimPatch (s : State) (q p : Nat) (bad : List Nat) : State :=
  if s.revoked p then s.markRevoked p
  else if !s.maySkim q || decide ((s.quad q).noStart = some s.frame) then s
  else if s.keyExhausted p then
    ((s.eventAt 0x3EA 2 Sev.degraded Who.skim Access.key 1 (p * 65536)).relist p).pastPatch q p
  else s.skimOn q p bad (s.skimDie q)

/-- The next SET patch in the order of R91, over the whole setting list and map. -/
def State.findSet (s : State) (q : Nat) : Option Nat × State :=
  s.nextSet q ((s.quad q).setting.length + 2 * (s.quad q).panelMap.length + 4)

/-- SKIM_START (R91, R94, R97, R101, R205, R355, R358). A start that a completed write meets at its patch is withdrawn
(R64). -/
def State.skimStart (s : State) (q : Nat) (bad written : List Nat) : State :=
  match s.findSet q with
  | (none, s) => s
  | (some p, s) => if written.contains p then s else s.skimPatch q p bad

/-- `bad` are the line addresses that the engine's read of the patch finds uncorrectable (R267); the next `mates` commands of
the queue come in its CCLK cycle. A start to which the wet cache port grants another requester (R90) takes no effect. -/
def execSkimStart (q : QuadIx) (bad : List Nat) (mates : Nat) (s : State) : Result :=
  occurs (s.quadRuns q && s.flag Reg.SKIM_CTRL_ENABLE && s.wetGrants q 5 mates) s fun s => s.skimStart q bad (s.matesWrite mates)

/-- VERSION_RECORDED (R66, R127, R187, R356): the version at a unit, programmed with its parity, enters the ledger and
its patch turns DRY; or it is discarded, as superseded or as bound to an older tenant key. -/
def State.recordVersion (s : State) (v : Version) (unit : Nat) : State :=
  let q := quadOf v.patch
  let s := s.dropVersion q v.body
  if v.abandoned then s
  else if v.superseded then s.bump Reg.SKIM_SUPERSEDED_COUNT 1
  else if (s.slot (tenantSlot v.ld)).gen ≠ v.keyGen then
    ((s.bump Reg.SKIM_SUPERSEDED_COUNT 1).ledgerSet v.patch .revoked).patchDry v.patch
  else
    let s := (s.ledgerSet v.patch (.version v.die unit v.gen (ctrLo v.ctr))).patchDry v.patch
    if v.bySave then
      (s.modSave fun x => { x with patches := x.patches + 1 }).modQuad q fun d => { d with merges := sparseErase d.merges v.patch }
    else s

def execVersionRecorded (die : DieIx) (unit : Nat) (s : State) : Result :=
  match (s.quad (die.val / 32)).versions.find? (fun v => decide (v.die = die.val) && decide (v.unit = some unit) && decide (v.stage = .covered)) with
  | some v => .next (s.begin.recordVersion v unit)
  | none => .next s.begin

/-- WEAR_ALLOWANCE_RECOMPUTE (R95, R99): every 4,194,304 superframes. The recomputations at a start, a retirement and a change of
the life target are made with those. -/
def execWearAllowanceRecompute (q : QuadIx) (s : State) : Result :=
  occurs (decide ((s.quad q).allowSf / 4194304 < s.sf / 4194304)) s fun s => s.wearAllowance q

end Sys2Proof.Machine
end

