-- ==== Sys2Proof/Machine/Walk.lean ====
section
/-!
DEFINITION. Sys2Proof/Machine/Walk.lean: the operations that fills, heals, merges and the save's walk share (05_save,
06_restore_and_heal): starting a fill or heal, judging a version, rebuilding a unit, handing a save's patches to dies.
-/
namespace Sys2Proof.Machine

/-! ## Versions as a fill finds them (R151, R188, R362) -/

/-- Where a patch's version lies. -/
def State.versionAt (s : State) (p : Nat) : Option (Nat × Nat) :=
  match s.ledger p with
  | .version die unit _ _ => some (die, unit)
  | _ => none

/-- The content and poison map of a patch's version when its unit is the one that the ledger entry names (R188) and its
tag compares under the LD's data key (R362). -/
def State.goodVersion (s : State) (p : Nat) : Option (List Host.Cell × BitVec 1024) :=
  match s.ledger p with
  | .version die unit gen lo =>
    match s.unitBody die unit with
    | some (.data p' ld g ctr key content poison) =>
      if p' = p ∧ g = gen ∧ ctrLo ctr = lo ∧ s.dataKey ld g = some key then some (content, poison) else none
    | _ => none
  | _ => none

/-- A patch's content with the lines of a mask taken from DRAM (R164). -/
def State.overlay (s : State) (p : Nat) (mask : BitVec 1024) (content : List Host.Cell) : List Host.Cell :=
  ((s.patchContent p).filter fun c => mask.getLsbD (c.1 / 64)).foldl (fun m c => sparseSet 0#8 m c.1 c.2)
    (content.filter fun c => !mask.getLsbD (c.1 / 64))

/-- The poison map that goes with it. -/
def State.overlayPoison (s : State) (p : Nat) (mask poison : BitVec 1024) : BitVec 1024 :=
  (poison &&& ~~~ mask) ||| (s.patchPoison p &&& mask)

/-! ## Fills, places and heals (R151 to R160, R165) -/

def State.fillOf (s : State) (q p : Nat) : Option Fill := (s.quad q).fills.find? fun f => decide (f.patch = p)
def State.healOf (s : State) (q p : Nat) : Option Heal := (s.quad q).heals.find? fun h => decide (h.patch = p)

def State.modFill (s : State) (q p : Nat) (f : Fill → Fill) : State :=
  s.modQuad q fun d => { d with fills := d.fills.map fun x => if x.patch = p then f x else x }

def State.modHeal (s : State) (q p : Nat) (f : Heal → Heal) : State :=
  s.modQuad q fun d => { d with heals := d.heals.map fun x => if x.patch = p then f x else x }

/-- Fault-ins that hold a place on a die, and those that wait for one (R159). -/
def State.placesOn (s : State) (n : Nat) : Nat :=
  ((s.quad (n / 32)).fills.filter fun f => f.placed && decide ((s.versionAt f.patch).map (·.1) = some n)).length
def Fill.waitsPlace (f : Fill) : Bool := decide (f.cls = .faultIn) && !f.placed && !f.passed
def State.placeWaiters (s : State) (n : Nat) : List Fill :=
  (s.quad (n / 32)).fills.filter fun f => f.waitsPlace && decide ((s.versionAt f.patch).map (·.1) = some n)

/-- REQ_HELD of both heads: all Req credits are withheld while any fault-in waits for a place (R159). -/
def State.judgePlaces (s : State) : State :=
  let w := (List.range 4).any fun q => (s.quad q).fills.any fun f => f.waitsPlace && (s.versionAt f.patch).isSome
  (s.keepCredits.putB (Reg.FAB_LOAD_REQ_HELD 0) w).putB (Reg.FAB_LOAD_REQ_HELD 1) w

/-- The die read of a fill is put in its die's queue, if the die takes work. -/
def State.pushFillRead (s : State) (p : Nat) (order : Nat) (why : ReadWhy) : State :=
  match s.versionAt p with
  | some (n, u) => if s.dieUp n then s.pushOp n { order := order, kind := .read u why, quad := n / 32, entered := 0, patch := some p } else s
  | none => s

/-- A patch's fill read that waits in its die queue, at whatever class. -/
def State.fillQueued (s : State) (p : Nat) : Bool :=
  match s.versionAt p with
  | some (n, u) => (s.die n).asked.any fun o => decide (o.kind = .read u (.fill p))
  | none => false

/-- A background fill's read that waits in its die queue rises to fault-in class (R152). -/
def State.raiseRead (s : State) (p : Nat) : State :=
  match s.versionAt p with
  | none => s
  | some (n, u) =>
    let up (o : DieOp) : DieOp := if o.kind = .read u (.fill p) then { o with order := 2 } else o
    s.modDie n fun d => ({ d with queue := d.queue.map up, held := d.held.map up } : Die).letIn

/-- A fault-in takes its place (R159): its read is queued, or rises from the background class. -/
def State.takePlace (s : State) (q p : Nat) : State :=
  let t := s.modFill q p fun f => { f with placed := true, placedAt := s.now }
  if s.fillQueued p then t.raiseRead p else t.pushFillRead p 2 (.fill p)

/-- A fault-in takes a place on its version's die at once, or waits for one (R159). -/
def State.askPlace (s : State) (q p n : Nat) : State :=
  if s.placesOn n < 4 ∧ (s.placeWaiters n).length ≤ 1 then s.takePlace q p
  else (s.bump Reg.RESTORE_FI_SLOT_WAITS_VALUE 1).judgePlaces

/-- A fill starts at a class (R153, R158). -/
def State.startFill (s : State) (q p : Nat) (cls : FillCls) : State :=
  let s := s.modQuad q fun d => { d with fills := d.fills ++ [({ patch := p, cls := cls } : Fill)] }
  match s.versionAt p, cls with
  | none, _ => s
  | some _, .background => s.pushFillRead p 5 (.fill p)
  | some _, .merge => s.pushFillRead p 1 (.merge p)
  | some (n, _), .faultIn => s.askPlace q p n

/-- FAULT_IN_START: a host access reaches a DRY unfilled patch (R158); a background fill in flight is raised to fault-in
class instead, at what it has not yet passed (R152): a read still in its die queue asks for a place. -/
def State.faultIn (s : State) (p : Nat) : State :=
  let q := quadOf p
  let x := s.patch p
  if x.st ≠ .dry ∨ ¬ x.unfilled ∨ (s.quad q).railLost then s else
  match s.fillOf q p with
  | none => s.startFill q p .faultIn
  | some f =>
    if f.cls ≠ .background then s else
    let passed := !s.fillQueued p
    let s := s.modFill q p fun f => { f with cls := .faultIn, passed := passed }
    match s.versionAt p with
    | none => s
    | some (n, _) => if passed then s else s.askPlace q p n

/-- HEAL_START (R165, R170, R171): a heal of a patch starts for a line, with the read that waits for it if one does; a
patch already under heal takes the line and the read into that heal. -/
def State.startHeal (s : State) (q p line : Nat) (addrErr : Bool) (waiting : List HealWait) : State :=
  match s.healOf q p with
  | some _ => s.modHeal q p fun h => { h with
      lines := if h.lines.contains line then h.lines else h.lines ++ [line], waiting := h.waiting ++ waiting }
  | none => (s.modQuad q fun d => { d with heals := d.heals ++ [({
      patch := p, lines := [line], addrErr := addrErr, waiting := waiting } : Heal)] }).pushFillRead p 2 (.heal p)

/-! ## Filled patches (R151, R156) -/

/-- FILL_DONE and, when every fill map is clear, RESTORE_COMPLETE. -/
def State.judgeFilled (s : State) (q : Nat) : State :=
  let bit := 2 ^ q
  let old := s.get Reg.RESTORE_STATUS_FILL_DONE
  let s := s.put Reg.RESTORE_STATUS_FILL_DONE (if s.unfilledOf q = 0 then old ||| bit else old - (old &&& bit))
  let s := if s.unfilledOf q = 0 then s.put Reg.RESTORE_STATUS_REFILL_Q
    (s.get Reg.RESTORE_STATUS_REFILL_Q - (s.get Reg.RESTORE_STATUS_REFILL_Q &&& bit)) else s
  if s.flag Reg.PERS_STATUS_RESTORE_PENDING && (List.range 4).all (fun i => decide (s.unfilledOf i = 0)) then
    (((s.putB Reg.PERS_STATUS_RESTORE_PENDING false).put Reg.RESTORE_STATUS_PHASE 5).event (srcPers 0 2) 2 Sev.note)
  else s

/-! ## Save walk (R126, R130, R131, R164, R358) -/

/-- The next exposed patch of a quadrant that the save has still to write, in ascending panel and patch index; none while a
device-wide erase has its new keys drawn (R340). -/
def State.saveNextPatch (s : State) (q : Nat) : Option Nat :=
  (s.patches.find? fun e => s.fabric.eraseLock.isNone && decide (quadOf e.1 = q) && decide ((s.quad q).saveNext ≤ localOf e.1) &&
    (decide (e.2.st = .wet) || decide (e.2.st = .set) || (e.2.lost && e.2.st.exposed)) &&
    decide (sparseGet 0 (s.quad q).saveFails e.1 < 3)).map (·.1)

/-- Every exposed patch of a quadrant has been handed to a die or left. -/
def State.saveWalked (s : State) (q : Nat) : Bool :=
  (s.quad q).saveOn && (s.saveNextPatch q).isNone && !((s.quad q).fills.any fun f => decide (f.cls = .merge))

/-- A patch is left unwritten (R130). -/
def State.leavePatch (s : State) (q p : Nat) : State :=
  (s.putB Reg.SAVE_STATUS_INCOMPLETE true).modQuad q fun d => { d with saveFails := sparseSet 0 d.saveFails p 3 }

/-- The die a save program goes to next: the first in layout order with a free place (R292). -/
def State.saveDie (s : State) (q : Nat) : Option (Nat × Nat) :=
  s.pickDie q (s.quad q).layoutPos fun n => decide (((s.die n).waiting 1).length < 2)

/-- A save write of a patch with its content starts on a die. -/
def State.saveWrite (s : State) (q p : Nat) (k n : Nat) (content : List Host.Cell) (poison : BitVec 1024) : State :=
  (s.startVersion q p n 1 true content poison).modQuad q fun d => { d with layoutPos := (k + 1) % 32 }

/-- The lines of a patch that the save's reads of DRAM find uncorrectable (R129), of those that it reads. -/
def State.saveBadOf (s : State) (q p : Nat) (mask : BitVec 1024) : List Nat :=
  (s.quad q).saveBad.filter fun a => decide (patchOf a = p) && mask.getLsbD (lineIx a)

/-- A version of the masked lines over an image version's content and poison (R164); a masked line that reads uncorrectable
is carried as poisoned and reported (R129). -/
def State.saveOver (s : State) (q p k n : Nat) (mask : BitVec 1024) (content : List Host.Cell) (poison : BitVec 1024) : State :=
  let bad := s.saveBadOf q p mask
  (s.badLines p bad Who.save).saveWrite q p k n (s.overlay p mask content) (s.overlayPoison p mask poison ||| badMask p bad)

/-- The masked lines over a version that failed: every other line is poisoned (R164, Table 6.2). -/
def State.saveOverLost (s : State) (q p k n : Nat) (mask : BitVec 1024) : State :=
  (s.eventAt (srcPers q 2) 1 Sev.uncorrected Who.save Access.flashRead 1 (p * 65536)).saveOver q p k n mask [] allLines

/-- A merge fill whose image version has been judged is written (R164): the masked lines over the version, or over
poison where the version failed. -/
def State.saveMerge (s : State) (q : Nat) (f : Fill) (k n : Nat) : State :=
  let mask := sparseGet noLines (s.quad q).merges f.patch
  let s := s.modQuad q fun d => { d with fills := d.fills.filter fun x => decide (x.patch ≠ f.patch) }
  match (if f.read = some true ∧ f.tag = some true then s.goodVersion f.patch else none) with
  | some (content, poison) => s.saveOver q f.patch k n mask content poison
  | none => s.saveOverLost q f.patch k n mask

/-- A save write of a patch with no image version to merge: the whole patch as DRAM holds it, or, of an unfilled one, its
merged lines over zeros, or over poison where its ledger page is lost (R146, R193). -/
def State.savePlain (s : State) (q p k n : Nat) : State :=
  if !(s.patch p).unfilled then
    let bad := s.saveBadOf q p allLines
    (s.badLines p bad Who.save).saveWrite q p k n (s.patchContent p) (s.patchPoison p ||| badMask p bad)
  else
    let mask := sparseGet noLines (s.quad q).merges p
    if s.ledger p = .failed then s.saveOverLost q p k n mask else s.saveOver q p k n mask [] noLines

/-- No die of a quadrant can accept a save program (R130): none is in service with a unit to program or a band to open. -/
def State.noDieAccepts (s : State) (q : Nat) : Bool :=
  (List.range 32).all fun i => !s.dieUp (32 * q + i) || (s.openBandFor (32 * q + i)).bandFull (32 * q + i)

/-- One step of the walk, or none when nothing can be handed to a die now. -/
def State.saveOne (s : State) (q : Nat) : Option State :=
  let ready := (s.quad q).fills.find? fun f => decide (f.cls = .merge) && (decide (f.read = some false) || f.tag.isSome)
  match ready, s.saveDie q with
  | some f, some (k, n) => some (s.saveMerge q f k n)
  | _, die =>
    match s.saveNextPatch q with
    | none => none
    | some p =>
      let s' := s.modQuad q fun d => { d with saveNext := localOf p + 1 }
      if s.revoked p then some ((s'.markRevoked p).modSave fun x => { x with patches := x.patches + 1 })
      else if (s.quad q).railLost ∨ s.noDieAccepts q then some (s'.leavePatch q p)
      else if s.keyExhausted p then
        some ((s'.eventAt 0x3EA 2 Sev.degraded Who.save Access.key 1 (p * 65536)).leavePatch q p)
      else if sparseGet noLines (s.quad q).merges p ≠ noLines ∧ (s.versionAt p).isSome then some (s'.startFill q p .merge)
      else match die with
        | none => none
        | some (k, n) => some (s'.savePlain q p k n)

/-- The walk goes on while dies have places. -/
def State.saveFillFor (s : State) (q : Nat) : Nat → State
  | 0 => s
  | fuel + 1 =>
    match s.saveOne q with
    | none => s
    | some t => t.saveFillFor q fuel

/-- The walk of a quadrant that writes its exposure (R126). -/
def State.saveFill (s : State) (q : Nat) : State :=
  if s.flag Reg.PERS_STATUS_SAVE_ACTIVE && (s.quad q).saveOn then s.saveFillFor q (s.patches.length + 65) else s

/-! ## Relocations (R201, R209) -/

/-- A relocation waits for a die. -/
def State.holdReloc (s : State) (q : Nat) (x : Nat × Nat × Bool × Nat) : State :=
  s.modQuad q fun d => { d with relocWait := if d.relocWait.contains x then d.relocWait else d.relocWait ++ [x] }

/-- A unit that is to move: its ciphertext goes unchanged to the next die in layout order (R201), of its own channel where
`same` says so (R209); it waits while no such die has a place for it. -/
def State.startReloc (s : State) (die unit : Nat) (same : Bool) (order : Nat) : State :=
  match s.unitBody die unit with
  | none => s
  | some (.parity _ _) => s
  | some (.filler _) => s
  | some body =>
    let q := die / 32
    let fits (n : Nat) : Bool := (!same || decide (chanOf n = chanOf die)) &&
      (s.die n).hasPlace { order := order, kind := .program body none, quad := q, entered := 0 }
    if (s.quad q).relocs.any (fun r => decide (r.fromDie = die) && decide (r.fromUnit = unit)) then s else
    match s.pickDie q (s.quad q).layoutPos fits with
    | none => s.holdReloc q (die, unit, same, order)
    | some (k, n) =>
      (s.pushOp n { order := order, kind := .program body none, quad := q, entered := 0 }).modQuad q fun d => { d with
        layoutPos := (k + 1) % 32,
        relocs := d.relocs ++ [({ body := body, fromDie := die, fromUnit := unit, die := n } : Reloc)] }

/-- The relocations that wait are tried again. -/
def State.relocGo (s : State) (q : Nat) : State :=
  let w := (s.quad q).relocWait
  (s.modQuad q fun d => { d with relocWait := [] }).each w fun s x =>
    if s.live x.1 x.2.1 then s.startReloc x.1 x.2.1 x.2.2.1 x.2.2.2 else s

/-- What a quadrant's engine does whenever a die queue has moved on: ledger units, relocations and save writes that waited for
a place are handed out. -/
def State.flashGo (s : State) (q : Nat) : State := (((s.ledgerGo q).relocGo q).saveFill q).cipherGo q

/-- A unit's work on the pairs failed for good (R367): an encryption as a compare failure that cannot be retried (Table 3.3), a
decryption as a failed version (Table 6.2). -/
def State.cipherFailed (s : State) (q : Nat) (j : CipherJob) : State :=
  match j.patch with
  | some p => (s.modQuad q fun d => { d with
      fills := d.fills.map fun f => if f.patch = p ∧ f.read = some true ∧ f.tag.isNone then { f with tag := some false } else f
      heals := d.heals.map fun h => if h.patch = p ∧ h.read = some true ∧ h.tag.isNone then { h with tag := some false } else h })
  | none =>
    let s := s.each (List.range 32) fun s i => s.modDie (32 * q + i) (Die.without (.program j.body none))
    (s.modQuad q fun d => { d with ledgerWait := d.ledgerWait.filter (· ≠ j.body) }).programBack j.body

/-- CIPHER_CODEWORD_DONE (R362, R365 to R367): the codeword that runs on a pair ends. On a mismatch it is repeated on the
quadrant's spare; when that agrees the spare takes over and the pair is retired. The dispatch then gives out what waits. -/
def execCipherCodewordDone (n : PairIx) (mismatch spareMismatch : Bool) (s : State) : Result :=
  let q := n.val / 13
  match (s.quad q).ciph.find? fun j => j.running.any fun x => decide (x.1 = n.val % 13) with
  | none => .next s.begin
  | some j =>
    let s := s.begin.bump (Reg.PAIR_COUNT_CODEWORDS_COUNT n) 1
    let ended (s : State) : State := s.modQuad q fun d => { d with ciph := d.ciph.map fun x => if x = j then x.codewordEnds (n.val % 13) else x }
    let sp := 13 * q + 12
    let spareOk := !spareMismatch && decide (n.val ≠ sp) && decide (s.get (Reg.PAIR_STATUS_STATE sp) ≠ 3)
    let noted (s : State) : State := (s.bump (Reg.PAIR_COUNT_MISMATCH_COUNT n) 1).event (srcPair n 0) 1 Sev.corrected
    .next ((if !mismatch then ended s
      else if spareOk then ended (((noted s).bump (Reg.PAIR_COUNT_CODEWORDS_COUNT sp) 1).retirePair n)
      else (noted s).cipherFailed q j).cipherGo q)

/-! ## Rebuilding a unit from its set (R9, R179, R209, R210) -/

/-- The present members that a set's parity unit records, wherever it was programmed. -/
def State.setMembers (s : State) (pos u : Nat) : Option (Nat × List Nat) :=
  ((List.range 16).filterMap fun c => match s.unitBody (dieAt pos c) u with
    | some (.parity _ m) => some (c, m)
    | _ => none).head?

/-- Whether the lost unit of a die can be rebuilt: its set has a parity unit that names it, and every other member and the
parity can be read. -/
def State.canRebuild (s : State) (die unit : Nat) (unreadable : List Nat) : Bool :=
  match s.setMembers (posOf die) unit with
  | none => false
  | some (pc, members) =>
    let ok (c : Nat) : Bool := s.dieUp (dieAt (posOf die) c) && !(unreadable.contains c) &&
      (s.unitBody (dieAt (posOf die) c) unit).isSome
    (members.contains (chanOf die)) && (members.filter fun c => decide (c ≠ chanOf die)).all ok && ok pc

/-- A ledger page lost (R193): its patches that are still to be filled fill as failed versions. -/
def State.losePage (s : State) (q page : Nat) : State :=
  let hit := s.image.ledger.filter fun e => decide (quadOf e.1 = q) && decide (pageOf e.1 = page) && (s.patch e.1).unfilled
  s.each hit fun s e => s.modImage fun i => { i with ledger := sparseSet (s.ledgerDflt e.1) i.ledger e.1 .failed }

/-- IMG_UNRECOVERABLE (R210). -/
def State.imgLost (s : State) (q die unit : Nat) : State :=
  (s.eventAt (srcPers q 4) 2 Sev.uncorrected Who.restore Access.flashRead 3 (flashAddr die unit)).bump Reg.IMG_COUNT_LOST_VALUE 1

/-- LEDGER_PAGE_LOST of a CHECKPOINT or MAP unit (R193). -/
def State.pageLostEvent (s : State) (q die unit : Nat) : State :=
  s.eventAt (srcPers q 4) 3 Sev.uncorrected Who.restore Access.flashRead 3 (flashAddr die unit)

/-- A filled patch whose version is lost turns SET (R210); during a save it is left unwritten (Table 5.6, R211). -/
def State.versionLost (s : State) (p : Nat) : State :=
  let s := s.patchSet p
  if s.flag Reg.PERS_STATUS_SAVE_ACTIVE then s.leavePatch (quadOf p) p else s

/-- A unit can be neither read nor rebuilt (R210, R193). -/
def State.unitLost (s : State) (die unit : Nat) : State :=
  let s := s.imgLost (die / 32) die unit
  match s.unitBody die unit with
  | some (.data p _ _ _ _ _ _) =>
    if (s.patch p).st = .dry ∧ ¬ (s.patch p).unfilled ∧ s.versionAt p = some (die, unit) then s.versionLost p else s
  | some (.checkpoint cq page _ _ _ _ _) => (s.losePage cq page).pageLostEvent cq die unit
  | some (.map cq _ _ _ _ pages) => (s.each pages fun s x => s.losePage cq x.1).pageLostEvent cq die unit
  | _ => s

end Sys2Proof.Machine
end

