-- ==== Sys2Proof/Machine/Codeword.lean ====
section
/-!
DEFINITION. Sys2Proof/Machine/Codeword.lean: the bytes that units and ledger entries consist of (07_image_and_ledger Tables 7.2 and
7.3; 10_flash_media R282 to R284, R299): metadata, codewords, the scrambler, and the physical page of a unit.
-/
namespace Sys2Proof.Machine

/-! ## Ledger entries (R187, R189) -/

/-- A ledger entry as its 8 bytes hold it (Table 7.3); the entry of a lost page has no bytes of its own and stands as NONE. -/
def LEntry.word : LEntry → BitVec 64
  | .none => 0#64
  | .failed => 0#64
  | .revoked => 2#64 <<< 62
  | .version die unit gen lo => BitVec.ofNat 64 (2 ^ 62 + die % 128 * 2 ^ 55 + unit % 2 ^ 20 * 2 ^ 35 + gen % 2 ^ 24 * 2 ^ 11 + lo % 2048)

/-- A journal entry's 16 bytes (R189). -/
def JEntry.bytes (e : JEntry) : List Byte := leBytes 4 e.patch ++ leBytes 8 e.entry.word.toNat ++ leBytes 4 e.sf

/-! ## Metadata (Table 7.2) -/

def UnitBody.type : UnitBody → Nat
  | .data _ _ _ _ _ _ _ => 1
  | .parity _ _ => 2
  | .journal _ _ _ _ _ _ => 3
  | .checkpoint _ _ _ _ _ _ _ => 4
  | .map _ _ _ _ _ _ => 5
  | .filler _ => 6

/-- PATCH, LD and the poison mask of a unit's header. -/
def UnitBody.header : UnitBody → Nat × Nat × BitVec 1024
  | .data p ld _ _ _ _ poison => (p, ld, poison)
  | .journal _ seq _ _ _ _ => (seq, 0, 0#1024)
  | .checkpoint _ _ seq _ _ _ _ => (seq, 0, 0#1024)
  | .map _ seq _ _ _ _ => (seq, 0, 0#1024)
  | .parity _ _ => (0, 0, 0#1024)
  | .filler _ => (0, 0, 0#1024)

/-- MEMBERS of a PARITY unit. -/
def UnitBody.memberBits : UnitBody → Nat
  | .parity _ members => members.foldl (fun m c => m ||| 2 ^ c) 0
  | _ => 0

/-- A unit's 512 bytes of metadata, with the tag that the cipher formed. -/
def UnitBody.metadata (b : UnitBody) (u : Nat) (tag : BitVec 128) : List Byte :=
  let (p, ld, poison) := b.header
  leBytes 1 b.type ++ leBytes 1 b.owner ++ leBytes 2 b.memberBits ++ leBytes 4 p ++ (leBytes 12 b.iv.toNat).reverse ++
    (leBytes 16 tag.toNat).reverse ++ leBytes 4 u ++ leBytes 1 ld ++ leBytes 7 0 ++ leBytes 128 poison.toNat ++ leBytes 336 0

/-! ## The scrambler (R284) -/

/-- The seed of a page's stream. -/
def scramblerSeed (die page : Nat) : Nat :=
  let v := (die * 2 ^ 20 + page) % 2 ^ 23
  if v = 0 then 1 else v

/-- One step of the register of x^23 + x^18 + 1: the bit put out is its highest. -/
def scramblerStep (r : BitVec 23) : BitVec 23 := (r <<< 1) ||| BitVec.zeroExtend 23 (BitVec.ofBool (r.getLsbD 22 ^^ r.getLsbD 17))

/-- The stream's next n bytes, each from its highest bit on: the spec gives the polynomial and the seed, not the bits' order.
DESIGN CHOICE -/
def scramblerStream : Nat → BitVec 23 → List Byte
  | 0, _ => []
  | n + 1, r =>
    let (b, r) := (List.range 8).foldl (fun (a : Byte × BitVec 23) _ =>
      ((a.1 <<< 1) ||| (BitVec.ofBool (a.2.getLsbD 22)).zeroExtend 8, scramblerStep a.2)) (0#8, r)
    b :: scramblerStream n r

/-- A codeword XORed with the stream of its page; the same takes the scrambler off again. -/
def scramble (die page : Nat) (l : List Byte) : List Byte :=
  l.zipWith (· ^^^ ·) (scramblerStream l.length (BitVec.ofNat 23 (scramblerSeed die page)))

/-! ## Pages and codewords (R282, R283, R299) -/

/-- The physical block behind a block group and plane of a die. -/
def State.physBlock (s : State) (n band plane : Nat) : Nat :=
  (sparseFind (s.die n).blockMap (4 * band + plane)).getD (Config.mapBlock n band plane)

/-- The physical page of a plane that holds its part of a unit. -/
def State.physPage (s : State) (n u plane : Nat) : Nat :=
  s.physBlock n (u / s.unitsPerBand) plane * s.unitsPerBand + u % s.unitsPerBand

/-- The scrambler seeds of a unit's four planes. -/
def State.seedsOf (s : State) (n u : Nat) : List Nat := [0, 1, 2, 3].map fun p => scramblerSeed n (s.physPage n u p)

/-- Ciphertext bytes 4,096 × i to 4,096 × i + 4,095 of a unit. -/
def UnitBody.cipherBytes (b : UnitBody) (i : Nat) : List Byte :=
  (List.range 256).flatMap fun t => (leBytes 16 (b.cipher (256 * i + t + 1)).toNat).reverse

/-- The unit bytes of codeword i: ciphertext; of a parity unit the XOR of its members', of a filler zeros. -/
def State.codewordData (s : State) (n u i : Nat) : UnitBody → List Byte
  | .filler _ => leBytes 4096 0
  | .parity _ members => members.foldl (fun a c => match s.unitBody (dieAt (posOf n) c) u with
      | some m => a.zipWith (· ^^^ ·) (m.cipherBytes i)
      | none => a) (leBytes 4096 0)
  | b => b.cipherBytes i

/-- Codeword i of a unit: unit data, metadata and LDPC parity (Table 10.2). -/
def State.codeword (s : State) (n u i : Nat) (b : UnitBody) (tag : BitVec 128) : List Byte :=
  let info := s.codewordData n u i b ++ ((b.metadata u tag).drop (32 * i)).take 32
  info ++ Config.ldpcParity info

/-- Codeword i as the page of plane i div 4 holds it. -/
def State.pageBytes (s : State) (n u i : Nat) (b : UnitBody) (tag : BitVec 128) : List Byte :=
  scramble n (s.physPage n u (i / 4)) (s.codeword n u i b tag)

/-- A codeword as read from its page, the scrambler removed before it is decoded. -/
def State.readCodeword (s : State) (n u i : Nat) (page : List Byte) : List Byte := scramble n (s.physPage n u (i / 4)) page

end Sys2Proof.Machine
end

