-- ==== Sys2Proof/Machine/Flash.lean ====
section
/-!
DEFINITION. Sys2Proof/Machine/Flash.lean: the flash media engine (10_flash_media): LDPC engines, die queues, programs,
erases, reads, failures and initialisation, with the stripe sets they fill (R179 to R185, R606).
-/
namespace Sys2Proof.Machine

/-! ## LDPC engines (R285 to R288) -/

/-- The engine that serves a channel: its own, the spare in its place, or one that serves two channels. -/
def State.engineOf (s : State) (fc : Nat) : Nat := 5 * (fc / 4) + (s.quad (fc / 4)).engines.getD (fc % 4) (fc % 4)

/-- The channels of a quadrant that an engine serves. -/
def State.servedBy (s : State) (g : Nat) : List Nat :=
  ((List.range 4).map fun c => 4 * (g / 5) + c).filter fun fc => decide (s.engineOf fc = g)

def State.serveBy (s : State) (fc g : Nat) : State :=
  s.modQuad (fc / 4) fun d => { d with engines := listUpd d.engines (fc % 4) fun _ => g % 5 }

/-- A channel whose engine is retired, with the spare in use, is served by the engine of the lowest-numbered other channel that
serves only one; with none left its dies are retired (R288). -/
def State.shareEngine (s : State) (fc : Nat) : State :=
  let others := ((List.range 4).map fun c => s.engineOf (4 * (fc / 4) + c)).filter fun e =>
    decide (s.get (Reg.LDPC_STATUS_STATE e) ≠ 3) && decide ((s.servedBy e).length = 1)
  match others with
  | e :: _ =>
    (((s.serveBy fc e).putB (Reg.LDPC_STATUS_SECOND e) true).putB (Reg.FC_STATUS_LDPC_SHARED fc) true).event (srcLdpc e 1) 1 Sev.degraded
  | [] => s.each ((List.range 8).map fun d => 8 * fc + d) fun s n => s.retireDie n 6

/-- An engine is retired (R287): the idle spare takes its channel over, or other engines do (R288). -/
def State.retireEngine (s : State) (g : Nat) : State :=
  if s.get (Reg.LDPC_STATUS_STATE g) = 3 then s else
  let sp := 5 * (g / 5) + 4
  let left := s.servedBy g
  let s := (s.put (Reg.LDPC_STATUS_STATE g) 3).event (srcLdpc g 0) 2 Sev.degraded
  match left, decide (s.get (Reg.LDPC_STATUS_STATE sp) = 1) with
  | fc :: _, true => ((s.put (Reg.LDPC_STATUS_STATE sp) 2).put (Reg.LDPC_STATUS_CHANNEL sp) (fc % 4)).serveBy fc sp
  | l, _ => s.each l State.shareEngine

/-- The requests at the input port of a channel's engine: read data that has come over the bus, and the program whose data is
being loaded (R285). They carry no urgency. -/
def State.engineAsks (s : State) (fc : Nat) : List (Nat × Bool × Nat) :=
  (List.range 8).filterMap fun d =>
    let x := s.die (8 * fc + d)
    match x.queue.find? (fun o => decide (o.load = 1)) with
    | some o => some (d, decide (o.order = 1), 0)
    | none => if x.current.any fun o => decide (o.load = 2) && decide (o.kind.sort = 0) then some (d, false, 0) else none

/-- The engine's input port grants a die queue: LDPC_PTR, with SEED the engine. -/
def State.engineGrants (s : State) (n : Nat) : Bool :=
  decide (grant (s.ptr (s.engineOf (n / 8)) 8) 8 (s.engineAsks (n / 8)) = some (posOf n))

/-- LDPC_ENGINE_FAULT: what an engine's syndrome recheck finds on a codeword of a channel (R287). -/
def State.engineCheck (s : State) (fc : Nat) (c : EngineCheck) : State :=
  let g := s.engineOf fc
  match c with
  | .fine => s
  | .fault => ((s.bump (Reg.LDPC_COUNT_FAULT_COUNT g) 1).event (srcLdpc g 0) 1 Sev.corrected).retireEngine g
  | .both => (s.bump (Reg.LDPC_COUNT_FAULT_COUNT g) 1).event (srcLdpc g 0) 1 Sev.corrected

/-! ## Power tokens (R133 to R135, R297) -/

def State.tokensOf (s : State) (q : Nat) : Nat :=
  ((List.range 32).filter fun i => (s.die (32 * q + i)).current.any fun o => o.token).length

def State.tokensHeld (s : State) : Nat := (List.range 4).foldl (fun n q => n + s.tokensOf q) 0

/-- The quadrants of the save mask, ascending. -/
def State.savers (s : State) : List Nat := (List.range 4).filter fun q => (s.get Reg.SAVE_TOKENS_WRITING).testBit q

/-- The share of a quadrant in the mask for the frame (R133). -/
def State.tokenShare (s : State) (q : Nat) : Nat :=
  let l := s.savers
  if l.contains q then share (s.get Reg.SAVE_TOKENS_ALLOT) l.length (s.ptr 0 l.length) (l.idxOf q) else 0

/-- The most dies that may program for a save (R136): 4 × ⌈A ÷ 4⌉ for the largest A of the preceding 256 frames. -/
def State.tokenBound (s : State) : Nat := 4 * (((s.save.history.foldl max (s.get Reg.SAVE_TOKENS_ALLOT)) + 3) / 4)

/-- Whether a save program on a die of a quadrant may take a token now (R134, R136, R138). -/
def State.tokenFree (s : State) (q : Nat) : Bool :=
  decide (s.tokensHeld < s.tokenBound) &&
    if s.savers.contains q then decide (s.tokensOf q < s.tokenShare q)
    else decide (s.tokensHeld < s.get Reg.SAVE_TOKENS_ALLOT)

/-! ## Choosing a die's next operation (R183, R293, R296) -/

def OpKind.isProgram : OpKind → Bool
  | .program _ _ => true
  | .record _ => true
  | _ => false

def OpKind.isErase : OpKind → Bool
  | .erase _ => true
  | _ => false

/-- A void stands at the next unit of a die that has one. -/
def State.atVoid (s : State) (n : Nat) : Bool := !s.bandFull n && (s.die n).voids.contains (s.die n).nextUnit

/-- A program of unit u is under way on a die, in its array or suspended. -/
def Die.programsUnit (d : Die) (u : Nat) : Bool :=
  (d.current.toList ++ d.suspended).any fun o => match o.kind with
    | .program _ (some v) => decide (v = u)
    | _ => false

/-- No member of unit u is still being programmed. -/
def State.membersDone (s : State) (pos u : Nat) : Bool :=
  !((List.range 16).any fun c => (s.die (dieAt pos c)).programsUnit u)

/-- A program that may start as far as places, sets and bands go, on the die with the band it would program in. -/
def State.programOk (s : State) (n : Nat) (o : DieOp) : Bool :=
  let t := s.openBandFor n
  match o.kind with
  | .program (.filler _) _ => t.atVoid n
  | .program (.parity _ _) (some u) => !t.bandFull n && decide ((t.die n).nextUnit = u) && s.membersDone (posOf n) u
  | .program _ _ => !t.bandFull n && !t.dieBlocked n && !t.atVoid n &&
      !(decide (o.order = 4) && o.patch.isSome && s.needsBand n && s.posCrit (posOf n))
  | _ => true

/-- The operation of lowest order, the oldest within it. -/
def bestOp (l : List DieOp) : Option DieOp :=
  l.foldl (fun b o => match b with
    | none => some o
    | some x => if o.order < x.order then some o else some x) none

/-- What a die starts next. -/
def State.nextOp (s : State) (n : Nat) : Option DieOp := bestOp ((s.die n).queue.filter fun o => s.programOk n o)

/-- Whether one more array operation outside a save keeps the channel within MAX_BUSY (R296). -/
def State.busyOk (s : State) (n : Nat) : Bool :=
  s.flag Reg.PERS_STATUS_SAVE_ACTIVE ||
  decide (((List.range 8).filter fun d => (s.die (8 * (n / 8) + d)).current.isSome).length <
    max 1 (min 8 (s.get (Reg.FC_CTRL_MAX_BUSY (n / 8)))))

def State.setCurrent (s : State) (n : Nat) (o : Option DieOp) : State := s.modDie n fun d => { d with current := o }

/-- An operation leaves the queue and its array operation starts; its place is free. -/
def State.startOp (s : State) (n : Nat) (o run : DieOp) : State :=
  s.modDie n fun d => ({ d with queue := d.queue.erase o, current := some run } : Die).letIn

/-- R183: a FILLER at the class of the program that finds the void. -/
def State.fillVoid (s : State) (n : Nat) : State :=
  let d := s.die n
  match bestOp (d.queue.filter fun o => o.kind.isProgram) with
  | some o => if (s.openBandFor n).atVoid n && !(d.queue.any fun x => decide (x.kind = .program (.filler (n / 32)) none))
      then s.modDie n fun d => { d with queue := d.queue ++ [{
        order := o.order, kind := .program (.filler (n / 32)) none, quad := n / 32, entered := s.now }] } else s
  | none => s

/-! ## A channel's data bus (R294, R295) -/

/-- The bus urgency of Table 10.4; a save's programs ask in the save class. Collection asks at 3 while it runs at skim class. -/
def busUrgency (order : Nat) : Nat :=
  match order with
  | 1 => 0 | 2 => 7 | 3 => 5 | 4 => 3 | 5 => 2 | 6 => 1 | _ => 0

/-- Whether a die's channel starts operations: it is ready, its quadrant's flash rails good (R427). -/
def State.flashOn (s : State) (n : Nat) : Bool := decide (s.get (Reg.FC_STATUS_STATE (n / 8)) = 2)

/-- A transfer holds the bus of a channel. -/
def State.busHeld (s : State) (fc : Nat) : Bool :=
  (List.range 8).any fun d => (s.die (8 * fc + d)).queue.any fun o => decide (o.load = 1)

/-- The program whose data a die would load next: none while another is loaded or being loaded, or a program is
suspended. -/
def State.loadOp (s : State) (n : Nat) : Option DieOp :=
  let d := s.die n
  if !(s.dieUp n && s.flashOn n) || (d.queue.any fun o => decide (o.load ≠ 0)) || d.suspended.any (fun o => o.kind.isProgram)
  then none else (s.nextOp n).filter fun o => o.kind.isProgram

/-- The die queues of a channel that ask for its bus to load a program. -/
def State.loadAsks (s : State) (fc : Nat) : List (Nat × Bool × Nat) :=
  (List.range 8).filterMap fun d => (s.loadOp (8 * fc + d)).map fun o => (d, decide (o.order = 1), busUrgency o.order)

/-- The bus of a channel grants a die's transfer: FC_BUS_PTR, with SEED the channel. -/
def State.busGrants (s : State) (n : Nat) (asks : List (Nat × Bool × Nat)) : Bool :=
  !s.busHeld (n / 8) && decide (grant (s.ptr (n / 8) 8) 8 asks = some (posOf n))

/-- A die's next program starts its data transfer, if the bus grants it. -/
def State.loadStart (s : State) (n : Nat) : State :=
  match s.loadOp n with
  | none => s
  | some o => if s.busGrants n (s.loadAsks (n / 8)) then
      s.modDie n fun d => { d with queue := d.queue.map fun x => if x = o then { x with load := 1 } else x } else s

/-- DIE_OP_START (R160, R183, R293 to R295): suspend, resume, start a read or an erase, or load the next program's data, with
a FILLER before the programs that find a void. -/
def State.dieOpStart (s : State) (n : Nat) : State :=
  let d := s.die n
  let faultIns := d.queue.any fun o => decide (o.order = 2)
  let savePrograms := d.queue.any fun o => decide (o.order = 1) && o.kind.isProgram
  match d.current with
  | some o =>
    if (o.kind.isErase && (faultIns || savePrograms)) || (o.kind.isProgram && !s.flag Reg.PERS_STATUS_SAVE_ACTIVE && faultIns)
    then (s.modDie n fun d => { d with suspended := o :: d.suspended, current := none }) else (s.fillVoid n).loadStart n
  | none =>
    match d.suspended with
    | o :: rest =>
      let hold := faultIns || (o.kind.isErase && d.queue.any fun x => x.kind.isProgram && decide (x.order ≤ 3))
      if !hold then s.modDie n fun d => { d with suspended := rest, current := some o }
      else if faultIns then
        match bestOp (d.queue.filter fun x => decide (x.order = 2)) with
        | some x => s.startOp n x x
        | none => s
      else (s.fillVoid n).loadStart n
    | [] =>
      match s.nextOp n with
      | some o => if o.kind.isProgram then (s.fillVoid n).loadStart n else if s.busyOk n then s.startOp n o o else s
      | none => (s.fillVoid n).loadStart n

def execDieOpStart (die : DieIx) (s : State) : Result :=
  occurs (s.dieUp die && s.flashOn die) s fun s => (s.dieOpStart die).flashGo (die.val / 32)

/-! ## Closing sets (R182, R185, R191, R606) -/

/-- A set closes (R182): its parity unit goes to the parity channel's die queue, and every data die that has not reached
the unit has a void there (R183). -/
def State.closeStripe (s : State) (pos u : Nat) : State :=
  match s.stripe pos u with
  | none => s
  | some x =>
    if x.closed then s else
    let lag := s.stripeOpenDies x
    let s := if lag.isEmpty then s else s.bump Reg.IMG_COUNT_EARLY_CLOSE_VALUE 1
    let s := s.modStripe pos u fun x => { x with closed := true }
    let s := s.each lag fun s c => s.modDie (dieAt pos c) fun d => { d with voids := setInsert d.voids u }
    match s.parityChan pos u with
    | none => s.parityFailed pos u
    | some pc =>
      let n := dieAt pos pc
      if (sparseGet none (s.die n).units u).isSome then s.parityFailed pos u
      else s.pushOp n { order := s.ledgerOrder, kind := .program (.parity (n / 32) x.members) (some u), quad := n / 32, entered := 0 }

/-- The checkpoint of a quadrant goes on (R191): its MAP unit after its pages, its open journal unit after the MAP, and
then its part is finished. -/
def State.ckptAdvance (s : State) (q : Nat) : State :=
  let d := s.quad q
  let finish (s : State) : State := (s.modQuad q fun d => { d with ckptStage := 0 }).modImage fun i => { i with
    ckptWait := setErase i.ckptWait q }
  if d.ckptStage = 1 ∧ d.ckptPages = [] then
    match s.ledgerKey s.image.gen with
    | none => s
    | some k =>
      let pages := d.pageLoc.filterMap fun e => e.2.map fun x => (e.1, x.1, x.2)
      (s.sealLedgerUnit q (.map q d.journalSeq s.image.gen 0 k pages)).modQuad q fun d => { d with ckptStage := 2 }
  else if d.ckptStage = 3 then
    if d.journal = [] then finish s
    else (s.modQuad q fun d => { d with ckptStage := 4, ckptSeq := d.journalSeq }).flushJournal q
  else if d.ckptStage = 5 then finish s
  else s

/-- A programmed member is covered by its set's parity (R185): versions and relocations may be recorded, and ledger units
may be named (R212). -/
def State.coverUnit (s : State) (n u : Nat) : State :=
  match s.unitBody n u with
  | some (.data p l g c k content poison) =>
    let b : UnitBody := .data p l g c k content poison
    let s := if s.dieUp n then s else s.modDie n fun d => { d with rebuild := setInsert d.rebuild u }
    s.modQuad (n / 32) fun d => { d with
      versions := d.versions.map fun v => if v.body = b ∧ v.die = n ∧ v.unit = some u then { v with stage := .covered } else v
      relocs := d.relocs.map fun r => if r.die = n ∧ r.unit = some u then { r with covered := true } else r }
  | some (.journal q seq _ _ _ _) =>
    let s := s.modQuad q fun d => { d with
      relocs := d.relocs.map fun r => if r.die = n ∧ r.unit = some u then { r with covered := true } else r
      journalTail := if (d.journalTail.map fun x => decide (x.2.2 ≤ seq)).getD true then some (n, u, seq) else d.journalTail
      ckptStage := if d.ckptStage = 4 ∧ d.ckptSeq ≤ seq then 5 else d.ckptStage }
    s.ckptAdvance q
  | some (.checkpoint q page _ _ _ _ _) =>
    let s := if (s.quad q).relocs.any (fun r => decide (r.die = n) && decide (r.unit = some u)) then
        s.modQuad q fun d => { d with relocs := d.relocs.map fun r => if r.die = n ∧ r.unit = some u then { r with covered := true } else r }
      else s.modQuad q fun d => { d with
        pageLoc := sparseSet none d.pageLoc page (some (n, u)), ckptPages := setErase d.ckptPages page }
    s.ckptAdvance q
  | some (.map q _ _ _ _ _) =>
    let s := if (s.quad q).relocs.any (fun r => decide (r.die = n) && decide (r.unit = some u)) then
        s.modQuad q fun d => { d with relocs := d.relocs.map fun r => if r.die = n ∧ r.unit = some u then { r with covered := true } else r }
      else s.modQuad q fun d => { d with mapLoc := some (n, u), ckptStage := if d.ckptStage = 2 then 3 else d.ckptStage }
    s.ckptAdvance q
  | _ => s

/-- A set's parity is programmed with good status: the set is finished (R185). -/
def State.parityGood (s : State) (pos u : Nat) : State :=
  match s.stripe pos u with
  | none => s
  | some x =>
    let s := s.modImage fun i => { i with sets := i.sets.filter fun y => !(decide (y.pos = pos) && decide (y.unit = u)) }
    s.each x.members fun s c => s.coverUnit (dieAt pos c) u

/-- The age in superframes at which a set closes early. -/
def State.closeSf (s : State) : Nat := max 1 (s.get Reg.IMG_STRIPE_CLOSE_SF)

/-- A quadrant has no program left that would join a stripe set: in its die queues, waiting for one, or executing. -/
def State.membersOut (s : State) (q : Nat) : Bool :=
  (s.quad q).ledgerWait.isEmpty && (s.quad q).relocWait.isEmpty && (List.range 32).all fun i =>
    let d := s.die (32 * q + i)
    let member (o : DieOp) : Bool := match o.kind with
      | .program (.parity _ _) _ => false
      | .program (.filler _) _ => false
      | .program _ _ => true
      | _ => false
    !(d.asked.any member || d.current.any member || d.suspended.any member)

/-- A quadrant has reached its save tail, or the end of its flash work before a warm reset (R137, R605): nothing of its exposure
is still to be handed to a die or executing; its open journal unit is programmed. -/
def State.atTail (s : State) (q : Nat) : Bool :=
  if s.seq.warmDrain then (s.quad q).journal.isEmpty && s.membersOut q
  else s.flag Reg.PERS_STATUS_SAVE_ACTIVE && s.saveWalked q &&
    !((s.quad q).versions.any fun v => decide (v.stage = .handed) || decide (v.stage = .executing))

/-- R182: whether a set is to close now. -/
def State.closeDue (s : State) (x : StripeSet) : Bool :=
  !x.closed && (((s.stripeOpenDies x).isEmpty && s.membersDone x.pos x.unit) ||
    (match x.firstSf with | some f => decide (f + s.closeSf ≤ s.sf) | none => false) || x.asked ||
    (x.members.any fun c => s.atTail (c / 4)))

/-- STRIPE_CLOSE (R182). -/
def execStripeClose (pos unit : Nat) (s : State) : Result :=
  occurs (match s.stripe pos unit with | some x => s.closeDue x | none => false) s fun s =>
    (s.closeStripe pos unit).each (List.range 4) State.flashGo

/-! ## Programs (R184, R190, R294, R297, R302) -/

/-- Before a die of a position starts unit u: set u − 8 closes if it is open (R182), and while 8 sets are open the first of
them closes, since the stripe parity unit holds no more accumulators (R180). DESIGN CHOICE: which one closes then, the oldest. -/
def State.closeOld (s : State) (pos u : Nat) : State :=
  let s := if 8 ≤ u then (match s.stripe pos (u - 8) with
    | some x => if x.closed then s else s.closeStripe pos (u - 8)
    | none => s) else s
  let opens := s.image.sets.filter fun x => decide (x.pos = pos) && !x.closed
  match opens, s.stripe pos u with
  | x :: _, none => if 8 ≤ opens.length then s.closeStripe pos x.unit else s
  | _, _ => s

/-- The unit that a program is given on a die, and the state with the program started. -/
def State.placeProgram (s : State) (n : Nat) (o : DieOp) (body : UnitBody) (spoiled token : Bool) : State :=
  let pos := posOf n
  let u := (s.die n).nextUnit
  let s := s.closeOld pos u
  let body : UnitBody := match body, s.stripe pos u with
    | .parity _ _, some x => .parity (n / 32) x.members
    | b, _ => b
  let s := s.startOp n o { o with kind := .program body (some u), token := token, spoiled := spoiled }
  let s := ((s.modDie n fun d => { d with nextUnit := u + 1, voids := setErase d.voids u }).chargeWear (n / 32)).emit
    (.program n u (s.seedsOf n u))
  match body with
  | .parity _ _ => s
  | .filler _ => s
  | b =>
    let s := s.stripeAdd pos u (chanOf n)
    s.modQuad (n / 32) fun d => { d with
      versions := d.versions.map fun v => if v.body = b ∧ v.die = n ∧ v.unit = none then { v with stage := .executing, unit := some u } else v
      relocs := d.relocs.map fun r => if r.body = b ∧ r.die = n ∧ r.unit = none then { r with unit := some u } else r }

/-! ## The confirm (R134, R135, R293 to R297) -/

/-- The program that a die could confirm now (R293, R294, R296): loaded, in its order, with the previous status read and,
outside a save, its channel below MAX_BUSY; in a save, while its quadrant may take a token (R134). -/
def State.confirmable (s : State) (n : Nat) : Option DieOp :=
  let d := s.die n
  if d.current.isSome || (d.suspended.any fun o => o.kind.isProgram) || !s.busyOk n || !(s.dieUp n && s.flashOn n) ||
      (s.save.arrived && !s.tokenFree (n / 32)) then none
  else d.queue.find? fun o => decide (o.load ≠ 0) && s.programOk n o && (match o.kind with
    | .program b _ => s.encrypted (n / 32) b
    | _ => true)

/-- The urgency of a program at its token port (R135, R138). -/
def OpKind.tokenUrgency : OpKind → Nat
  | .program (.parity _ _) _ => 1
  | .program (.journal _ _ _ _ _ _) _ => 1
  | .record _ => 1
  | _ => 0

/-- The token port of a quadrant in a save grants a die: SAVE_DIE_PTR, with SEED the quadrant (R135). -/
def State.tokenGrants (s : State) (n : Nat) : Bool :=
  let q := n / 32
  decide (grant (s.ptr q 32) 32 ((List.range 32).filterMap fun i => (s.confirmable (32 * q + i)).map fun o =>
    (i, false, o.kind.tokenUrgency)) = some (n % 32))

/-- A program whose ciphertext joins its set's accumulator. -/
def OpKind.isMember : OpKind → Bool
  | .program (.parity _ _) _ => false
  | .program (.filler _) _ => false
  | .program _ _ => true
  | _ => false

/-- The stripe parity unit's input grants a quadrant's page: SPU_PTR, positions Q0 to Q3 (R13, Table 1.6). -/
def State.spuGrants (s : State) (q : Nat) : Bool :=
  let asks := (List.range 4).filter fun k => (List.range 32).any fun i =>
    (s.confirmable (32 * k + i)).any fun o => o.kind.isMember
  decide (grant (s.ptr 0 4) 4 (asks.map fun k => (k, s.save.arrived, 0)) = some q)

/-- A confirm whose arbiters all grant it: the token port in a save, the stripe parity unit for a stripe member. -/
def State.confirmGranted (s : State) (n : Nat) (o : DieOp) : Bool :=
  (!s.save.arrived || s.tokenGrants n) && (!o.kind.isMember || s.spuGrants (n / 32))

/-- A die's data transfer has ended; data that is not its next program's any more is dropped. -/
def State.loadEnds (s : State) (n : Nat) : State :=
  s.modDie n fun d => { d with queue := d.queue.map fun o =>
    if o.load = 0 then o else { o with load := if s.programOk n o then 2 else 0 } }

/-- FLASH_PROGRAM_CONFIRM (R134, R135, R180, R183, R285, R293 to R297, R309): a die's transfer has ended, its codewords encoded; its confirm is issued if
the arbiters grant it, and the encoded codewords pass the engine's check or the program is bound to fail (R287). -/
def State.confirm (s : State) (n : Nat) (e : EngineCheck) : State :=
  if (s.die n).queue.any (fun o => decide (o.load = 1)) && !s.engineGrants n then s else
  let s := s.loadEnds n
  match s.confirmable n with
  | none => s
  | some o =>
    if !s.confirmGranted n o then s else
    let save := s.save.arrived
    match o.kind with
    | .record rc =>
      ((s.startOp n o { o with token := save, spoiled := decide (e = .both), kind := .record rc }).chargeWear (n / 32)).engineCheck (n / 8) e
    | .program body _ => ((s.openBandFor n).placeProgram n o body (decide (e = .both)) save).engineCheck (n / 8) e
    | _ => s

def execFlashProgramConfirm (die : DieIx) (e : EngineCheck) (s : State) : Result :=
  occurs (s.dieUp die && s.flashOn die && (s.die die).queue.any fun o => decide (o.load ≠ 0)) s fun s =>
    (s.confirm die e).flashGo (die.val / 32)

/-- The status of a program is good. -/
def State.programGood (s : State) (n u : Nat) (body : UnitBody) : State :=
  let q := n / 32
  let pos := posOf n
  let s := s.modDie n fun d => { d with units := sparseSet none d.units u (some { body := body, good := true }), programs := d.programs + 1 }
  let s := s.modStripe pos u fun x => { x with firstSf := some (x.firstSf.getD s.sf) }
  match body with
  | .parity _ _ => s.parityGood pos u
  | .filler _ => s.bump Reg.IMG_COUNT_FILLER_VALUE 1
  | .data _ _ _ _ _ _ _ =>
    let mine := (s.quad q).versions.find? fun v => decide (v.body = body) && decide (v.die = n) && decide (v.unit = some u)
    let s := match mine with
      | some v =>
        let s := if v.bySave then s else
          (s.put64 0x030210 0x030214 (s.get64 0x030210 0x030214 + 1)).modQuad q fun d => { d with skimSf := d.skimSf + 1 }
        if v.abandoned then s.dropVersion q body else s
      | none => s
    s.modQuad q fun d => { d with
      versions := d.versions.map fun v => if v.body = body ∧ v.die = n ∧ v.unit = some u then { v with stage := .programmed } else v
      relocs := d.relocs.map fun r => if r.die = n ∧ r.unit = some u then { r with programmed := true } else r }
  | .journal jq _ _ _ _ _ => if (s.quad jq).ckptStage = 4 then s.modStripe pos u fun x => { x with asked := true } else s
  | .checkpoint _ _ _ _ _ _ _ => s.modStripe pos u fun x => { x with asked := true }
  | .map _ _ _ _ _ _ => s.modStripe pos u fun x => { x with asked := true }

/-- A program has failed (R184, R302, R305): its unit is a void, its block is pending bad, its issuer writes again. -/
def State.programBad (s : State) (n u : Nat) (body : UnitBody) (plane : Option Nat) : State :=
  let pos := posOf n
  let band := u / s.unitsPerBand
  let s := (s.bump (Reg.DIE_COUNT_PFAIL_COUNT n) 1).eventAt (srcDie n) 1 Sev.corrected Who.nobody Access.program 3 (flashAddr n u)
  let s := s.modDie n fun d => { d with
    units := sparseSet none d.units u (some { body := body, good := false }), failUnits := d.failUnits ++ [(band, u)]
    pendingBad := match plane with
      | some p => if d.pendingBad.contains (band, p) then d.pendingBad else d.pendingBad ++ [(band, p)]
      | none => d.pendingBad }
  let s := if plane.isSome then (s.modDie n Die.writeMap).bump (Reg.DIE_BAD_GROWN n) 1 else s
  let s := match body with
    | .parity _ _ => s.parityFailed pos u
    | .filler _ => s
    | b => (s.stripeVoid pos u (chanOf n)).programBack b
  if 3 ≤ ((s.die n).failUnits.filter fun x => decide (x.1 = band)).length then s.retireDie n 2 else s

/-- The program in progress on a die ends. -/
def State.programEnds (s : State) (n : Nat) (failed : Bool) (plane : Option Nat) : State :=
  match (s.die n).current with
  | some o =>
    match o.kind with
    | .program body (some u) =>
      let s := s.setCurrent n none
      if failed || o.spoiled then s.programBad n u body plane else s.programGood n u body
    | .record rc =>
      let bad := failed || o.spoiled
      let s := (s.setCurrent n none).addCopy (n / 8) { rc with good := !bad }
      if bad then (s.bump (Reg.DIE_COUNT_PFAIL_COUNT n) 1).eventAt (srcDie n) 1 Sev.corrected Who.nobody Access.program 3 (flashAddr n 0)
      else s
    | _ => s
  | none => s

/-- FLASH_PROGRAM_STATUS (R184, R297, R302). -/
def execFlashProgramStatus (die : DieIx) (failed : Option (Fin 4)) (s : State) : Result :=
  occurs ((s.die die).current.any fun o => o.kind.isProgram) s fun s =>
    let s := (s.modDie die fun d => { d with timeouts := 0 }).programEnds die failed.isSome (failed.map (·.val))
    s.flashGo (die.val / 32)

/-! ## Erases (R302 to R304, R308, R311) -/

/-- DIE_WEAR over the block groups of a die (Table 10.13). -/
def State.showWear (s : State) (n : Nat) : State :=
  let e := (s.die n).bandErases
  let bands := max 1 s.cfg.media.bands
  (s.putSat (Reg.DIE_WEAR_ERASE_MEAN n) (e.foldl (fun t x => t + x.2) 0 / bands)).putSat (Reg.DIE_WEAR_ERASE_MAX n)
    (e.foldl (fun m x => max m x.2) 0)

/-- A block of a plane is replaced from the plane's spares (R302 to R305). -/
def State.replaceBlock (s : State) (n band plane : Nat) : State :=
  let left := (s.die n).spareLeft.getD plane 0
  let old := s.physBlock n band plane
  if left = 0 then s.retireDie n 4 else
  let s := (s.modDie n fun d => ({ d with
    spareLeft := listUpd d.spareLeft plane (· - 1)
    blockMap := sparsePlace (sparseErase d.blockMap (4 * band + plane)) (4 * band + plane)
      (Config.spareBlock n plane (d.spareInit - left))
    grownBad := d.grownBad ++ [(plane, old)], pendingBad := d.pendingBad.filter fun x => decide (x ≠ (band, plane))
    retiredBlocks := d.retiredBlocks + 1 } : Die).writeMap).wearAllowance (n / 32)
  let low := (s.die n).spareLeft.foldl min ((s.die n).spareLeft.headD 0)
  let s := s.putSat (Reg.DIE_BAD_SPARE_LEFT n) low
  if 4 * (left - 1) < (s.die n).spareInit ∧ ¬ (s.die n).sparesLowRaised then
    (s.modDie n fun d => { d with sparesLowRaised := true }).event (srcDie n) 5 Sev.degraded
  else s

/-- A band is free again once none of its position's dies in service holds units of it or has still to erase it. -/
def State.bandErased (s : State) (pos band : Nat) : State :=
  let dirty := (List.range 16).any fun c =>
    let n := dieAt pos c
    let d := s.die n
    let hit (o : DieOp) : Bool := decide (o.kind = .erase band)
    s.dieUp n && (d.asked.any hit || d.current.any hit || d.suspended.any hit ||
      d.units.any fun e => decide (e.1 / s.unitsPerBand = band))
  if dirty then s else
  let s := s.modImage fun i => { i with
    usedBands := setErase i.usedBands (4096 * pos + band), collecting := i.collecting.filter (· ≠ (pos, band))
    eraseBands := i.eraseBands.filter fun x => decide (x.2 ≠ (pos, band)) }
  (s.putB Reg.GC_STATUS_ACTIVE (!s.image.collecting.isEmpty)).judgeFree

/-- A band's block group on a die has been erased. -/
def State.eraseGood (s : State) (n band : Nat) : State :=
  let keep (u : Nat) : Bool := decide (u / s.unitsPerBand ≠ band)
  let bad := (s.die n).pendingBad.filter fun x => decide (x.1 = band)
  let s := s.each bad fun s x => s.replaceBlock n band x.2
  let s := s.modDie n fun d => { d with
    units := d.units.filter fun e => keep e.1
    voids := d.voids.filter keep, failUnits := d.failUnits.filter fun x => decide (x.1 ≠ band)
    pendingBad := d.pendingBad.filter fun x => decide (x.1 ≠ band)
    bandErases := sparseUpd 0 d.bandErases band (· + 1) }
  let s := s.modImage fun i => { i with erases := sparseUpd 0 i.erases (4096 * posOf n + band) (· + 1) }
  let count := sparseGet 0 (s.die n).bandErases band
  let s := if 3 * s.cfg.media.pe ≤ 2 * count ∧ ¬ (s.die n).wornOut.contains band then
      (s.modDie n fun d => { d with wornOut := setInsert d.wornOut band }).event (srcDie n) 6 Sev.note else s
  (s.showWear n).bandErased (posOf n) band

/-- The erase in progress on a die ends. -/
def State.eraseEnds (s : State) (n : Nat) (failed : Bool) (plane : Option Nat) : State :=
  match (s.die n).current with
  | some o =>
    match o.kind with
    | .erase band =>
      let s := s.setCurrent n none
      if o.spoiled then s
      else if !failed then s.eraseGood n band
      else
        let s := ((s.bump (Reg.DIE_COUNT_EFAIL_COUNT n) 1).eventAt (srcDie n) 2 Sev.corrected Who.gc Access.erase 3
          (flashAddr n (band * s.unitsPerBand))).bump (Reg.DIE_BAD_GROWN n) 1
        let s := match plane with | some p => s.replaceBlock n band p | none => s
        if s.dieUp n then s.pushOp n o else s
    | _ => s
  | none => s

/-- FLASH_ERASE_STATUS (R303). -/
def execFlashEraseStatus (die : DieIx) (failed : Option (Fin 4)) (s : State) : Result :=
  occurs ((s.die die).current.any fun o => o.kind.isErase) s fun s =>
    ((s.modDie die fun d => { d with timeouts := 0 }).eraseEnds die failed.isSome (failed.map (·.val))).flashGo (die.val / 32)

/-! ## Rebuilds (R8, R9, R208 to R211) -/

/-- A unit's rebuild has ended, for everyone who waits for the unit: fills, heals, merges, and the relocation that a
retirement, a collection or patrol wants (R208, R209). -/
def State.rebuildUnit (s : State) (n u : Nat) (good : Bool) : State :=
  let q := n / 32
  let at_ (p : Nat) : Bool := decide (s.versionAt p = some (n, u))
  let moves := (s.die n).rebuild.contains u
  let patrol := (s.die n).patrolBad.contains u
  let s := s.modQuad q fun d => { d with
    fills := d.fills.map fun f => if f.read.isNone && at_ f.patch then { f with read := some good } else f
    heals := d.heals.map fun h => if h.read.isNone && at_ h.patch then { h with read := some good } else h }
  let s := s.modDie n fun d => { d with rebuild := setErase d.rebuild u, patrolBad := setErase d.patrolBad u }
  if !good then s.unitLost n u
  else
    let s := s.bump Reg.IMG_COUNT_REBUILD_VALUE 1
    let s := if patrol then s.eventAt (srcPers q 4) 1 Sev.corrected Who.nobody Access.flashRead 3 (flashAddr n u) else s
    if moves && s.live n u then s.startReloc n u (!s.dieUp n) (s.gcOrder (posOf n)) else s

/-- The accumulator is free again: the unit is rebuilt, or it and every other unit of its set that could not be read are lost
(R210, R211). -/
def State.rebuildEnd (s : State) (r : Rebuild) : State :=
  let s := (s.modImage fun i => { i with rebuild := none }).rebuildUnit r.die r.unit r.bad.isEmpty
  s.each (r.bad.filter fun c => s.live (dieAt (posOf r.die) c) r.unit) fun s c => s.unitLost (dieAt (posOf r.die) c) r.unit

/-- A member's pages come to the accumulator, or cannot be read. -/
def State.memberRead (s : State) (die u chan : Nat) (ok : Bool) : State :=
  match s.image.rebuild with
  | none => s
  | some r =>
    if r.die ≠ die ∨ r.unit ≠ u then s else
    let r := { r with wait := r.wait.filter fun c => decide (c ≠ chan), bad := if ok then r.bad else r.bad ++ [chan] }
    if r.wait.isEmpty then s.rebuildEnd r else s.modImage fun i => { i with rebuild := some r }

/-! ## Reads (R160, R289 to R291, R208) -/

/-- How many retry passes a read may run (R160, Table 10.3): a fault-in runs its second soft pass only while no other
holds a place on the die. -/
def State.passLimit (s : State) (n : Nat) (why : ReadWhy) : Nat :=
  let urgent := min 2 (s.get (Reg.FC_RETRY_URGENT_PASSES (n / 8)))
  let slow := min (max 1 (s.get (Reg.FC_RETRY_MAX_PASSES (n / 8)))) (max 1 s.cfg.media.levels)
  match why with
  | .fill p =>
    match s.fillOf (n / 32) p with
    | some f => if f.cls = .background then slow else if (if f.placed then 1 else 0) < s.placesOn n then min 1 urgent else urgent
    | none => urgent
  | .heal _ => if 0 < s.placesOn n then min 1 urgent else urgent
  | .merge _ => urgent
  | _ => slow

/-- A read has ended undecodable (R290, R291): counted, and the die retired at its limit. -/
def State.undecodable (s : State) (n u : Nat) : State :=
  let s := (s.bump (Reg.DIE_COUNT_UNDECODABLE_COUNT n) 1).eventAt (srcDie n) 3 Sev.corrected Who.nobody Access.flashRead 3 (flashAddr n u)
  if max 1 (s.get (Reg.FC_RETRY_RETIRE_UNDEC (n / 8))) ≤ s.get (Reg.DIE_COUNT_UNDECODABLE_COUNT n) - (s.die n).undecAtPatrol
  then s.retireDie n 5 else s

/-- What a decoded unit, or one that cannot be decoded, means to its reader. -/
def State.readResult (s : State) (n u : Nat) (why : ReadWhy) (passes : Nat) (ok : Bool) : State :=
  let q := n / 32
  let later (s : State) : State := s.modDie n fun d => { d with rebuild := setInsert d.rebuild u }
  let order := s.gcOrder (posOf n)
  match why with
  | .fill p => if ok then s.modFill q p fun f => { f with read := some true } else s
  | .merge p => if ok then s.modFill q p fun f => { f with read := some true } else s
  | .heal p => if ok then s.modHeal q p fun h => { h with read := some true } else s
  | .relocate => if ok then s.startReloc n u false order else later s
  | .patrol =>
    if ok then (if 1 ≤ passes then s.startReloc n u false 6 else s)
    else match s.unitBody n u with
      | some (.parity _ _) =>
        s.each (s.liveInBand (posOf n) (u / s.unitsPerBand)) fun s x =>
          if s.dieUp x.1 then s.pushOp x.1 { order := 6, kind := .read x.2 .relocate, quad := x.1 / 32, entered := 0 }
          else s.modDie x.1 fun d => { d with rebuild := setInsert d.rebuild x.2 }
      | _ => (later s).modDie n fun d => { d with patrolBad := setInsert d.patrolBad u }
  | .rebuild die => s.memberRead die u (chanOf n) ok

/-- The asks for a channel's bus when reads of some of its dies, and the programs still to be loaded, want it at once. -/
def State.readAsks (s : State) (fc : Nat) (reads : List Nat) : List (Nat × Bool × Nat) :=
  ((List.range 8).filterMap fun d => if !reads.contains d then none else
    match (s.die (8 * fc + d)).current with
    | some o => if o.kind.sort = 0 then some (d, false, busUrgency o.order) else none
    | none => none) ++
  (s.loadAsks fc).filter fun x => !reads.contains x.1

/-- A read's codewords are decoded, with the retry passes its class allows (R287, R289 to R291). -/
def State.unitDecoded (s : State) (n u : Nat) (why : ReadWhy) (r : FlashRead) : State :=
  let s := (s.setCurrent n none).modDie n fun d => { d with timeouts := 0 }
  let limit := s.passLimit n why
  let ok := (match r.need with | some k => decide (k ≤ limit) | none => false) && decide (r.engine ≠ .both) && (s.unitBody n u).isSome
  let passes := match r.need with | some k => min k limit | none => limit
  let s := if 1 ≤ passes then (s.bump (Reg.DIE_COUNT_RETRY_COUNT n) 1).bump (Reg.LDPC_COUNT_SOFT_COUNT (s.engineOf (n / 8))) r.soft else s
  let s := s.engineCheck (n / 8) r.engine
  ((if ok then s else s.undecodable n u).readResult n u why passes ok).flashGo (n / 32)

/-- FLASH_READ_DATA (R285 to R291, R295): the bus grants the read's transfer, then the engine's input port its codewords, which
are decoded. Read data that the port does not grant waits there, for the next command of the die. -/
def execFlashReadData (die : DieIx) (r : FlashRead) (s : State) : Result :=
  let n := die.val
  match (s.die n).current with
  | some { kind := .read u why, load, .. } =>
    if load ≠ 2 ∧ s.busGrants n (s.readAsks (n / 8) (posOf n :: r.others.map (·.val))) = false then .next s.begin else
    let s := s.begin.modDie n fun d => { d with current := d.current.map fun o => { o with load := 2 } }
    .next (if s.engineGrants n then s.unitDecoded n u why r else s)
  | _ => .next s.begin

/-- FLASH_STATUS_TIMEOUT (R298): the LUN is reset; the program, erase or read has failed; a second timeout in succession
retires the die. -/
def execFlashStatusTimeout (die : DieIx) (s : State) : Result :=
  let n := die.val
  match (s.die n).current with
  | none => .next s.begin
  | some o =>
    let s := s.begin.emit (.flash n 0xFF 0)
    let s := s.event (srcFc (n / 8) 1) (if o.kind.isProgram then 1 else if o.kind.isErase then 2 else 3) Sev.corrected
    let s := s.modDie n fun d => { d with timeouts := d.timeouts + 1 }
    let s := match o.kind with
      | .read u why => ((s.setCurrent n none).undecodable n u).readResult n u why 0 false
      | .erase _ => s.eraseEnds n true none
      | _ => s.programEnds n true none
    .next ((if 2 ≤ (s.die n).timeouts then s.retireDie n 3 else s).flashGo (n / 32))

/-- A unit is wanted that its die cannot give: no read of it is queued or running. -/
def State.wantsRebuild (s : State) (n u : Nat) : Bool :=
  let d := s.die n
  let reads (o : DieOp) : Bool := match o.kind with | .read v _ => decide (v = u) | _ => false
  let at_ (p : Nat) : Bool := decide (s.versionAt p = some (n, u))
  d.rebuild.contains u ||
  (!(d.asked.any reads) && !(d.current.any reads) && !(d.suspended.any reads) &&
    (((s.quad (n / 32)).fills.any fun f => f.read.isNone && at_ f.patch && (!f.waitsPlace || !s.dieUp n)) ||
     ((s.quad (n / 32)).heals.any fun h => h.read.isNone && at_ h.patch)))

/-- The die-queue class of a rebuild's reads, that of the most urgent of those who wait for the unit. -/
def State.rebuildOrder (s : State) (n u : Nat) : Nat :=
  let at_ (p : Nat) : Bool := decide (s.versionAt p = some (n, u))
  let d := s.quad (n / 32)
  if (d.fills.any fun f => f.read.isNone && at_ f.patch && decide (f.cls ≠ .background)) || d.heals.any (fun h => h.read.isNone && at_ h.patch)
  then 2 else if d.fills.any fun f => f.read.isNone && at_ f.patch then 5 else 6

/-- A rebuild begins in the stripe parity unit's one accumulator: the die queues of the other present members and of the
parity read them (R8, R9). With a member that no die in service holds, the unit is lost at once. -/
def State.rebuildStart (s : State) (n u : Nat) : State :=
  match s.setMembers (posOf n) u with
  | none => s.rebuildUnit n u false
  | some (pc, members) =>
    let chans := (members.filter fun c => decide (c ≠ chanOf n)) ++ [pc]
    let bad := chans.filter fun c => !(s.dieUp (dieAt (posOf n) c) && (s.unitBody (dieAt (posOf n) c) u).isSome)
    if !(members.contains (chanOf n)) then s.rebuildUnit n u false
    else if !bad.isEmpty then s.rebuildEnd { die := n, unit := u, wait := [], bad := bad }
    else
      let order := s.rebuildOrder n u
      let s := s.modImage fun i => { i with rebuild := some { die := n, unit := u, wait := chans } }
      s.each chans fun s c => s.pushOp (dieAt (posOf n) c) {
        order := order, kind := .read u (.rebuild n), quad := n / 32, entered := 0 }

/-- The rebuild in progress cannot go on by itself: no read of its members is queued or running any more. -/
def State.rebuildStuck (s : State) (r : Rebuild) : Bool :=
  let reads (o : DieOp) : Bool := decide (o.kind = .read r.unit (.rebuild r.die))
  !(r.wait.any fun c =>
    let d := s.die (dieAt (posOf r.die) c)
    d.asked.any reads || d.current.any reads || d.suspended.any reads)

/-- STRIPE_REBUILD (R8, R9, R179, R209, R210): a unit that is wanted and cannot be read takes the accumulator when it is
free; a rebuild whose members' dies no longer read ends. -/
def execStripeRebuild (die : DieIx) (unit : Nat) (s : State) : Result :=
  match s.image.rebuild with
  | some r => occurs (s.rebuildStuck r) s fun s => (s.rebuildEnd { r with bad := r.bad ++ r.wait }).flashGo (r.die / 32)
  | none => occurs (s.wantsRebuild die unit) s fun s => (s.rebuildStart die unit).flashGo (die.val / 32)

/-- DIE_REBUILD_RELOCATE (R209): the next live unit of a retired die is rebuilt, to be relocated within its channel. -/
def execDieRebuildRelocate (die : DieIx) (s : State) : Result :=
  match decide (s.get (Reg.DIE_STATUS_STATE die) = 4) && s.image.rebuild.isNone, (s.die die).rebuild.find? (s.live die) with
  | true, some u => .next (s.begin.rebuildStart die u)
  | _, _ => .next s.begin

/-! ## Channels (R300, R301, R306, R307, R312) -/

/-- A channel fails (R307): its dies are retired. -/
def State.channelFailed (s : State) (fc : Nat) : State :=
  let s := (s.put (Reg.FC_STATUS_STATE fc) 3).event (srcFc fc 0) 1 Sev.degraded
  s.each ((List.range 8).map fun d => 8 * fc + d) fun s n => s.retireDie n 6

/-- FC_FAILED: the bus of a ready channel shows a training failure in run (R307). -/
def execFcFailed (fc : FcIx) (s : State) : Result :=
  occurs (decide (s.get (Reg.FC_STATUS_STATE fc) ≠ 3)) s fun s => s.channelFailed fc

/-- The spare blocks a plane reserves at first: the media profile's percentage of its blocks (R301). -/
def State.spareOf (s : State) (factory : Nat) : Nat :=
  let groups := s.cfg.media.bands + factory + 4
  (groups * s.cfg.media.sparePct + (100 - s.cfg.media.sparePct) - 1) / (100 - s.cfg.media.sparePct)

/-- The valid copy of a die's block map with the higher sequence number (R299). -/
def Die.validMap (d : Die) (i : DieInit) : Option BlockMap :=
  match d.mapCopies with
  | [] => none
  | m :: l => if i.mapNew then some m else if i.mapOld then l.head? else none

/-- A die's map built from its factory marks (R300, R301): nothing replaced, its spare pools whole. -/
def State.buildMap (s : State) (n : Nat) (factory : List Nat) : State :=
  let spare := s.spareOf (factory.foldl max 0)
  s.modDie n fun d => ({ d with
    spareLeft := [spare, spare, spare, spare], spareInit := spare, pendingBad := [], blockMap := [], grownBad := [], mapCopies := [] }
    : Die).writeMap

/-- One die at initialisation (Table 10.6, R299 to R301, R305). -/
def State.initDie (s : State) (n : Nat) (i : DieInit) : State :=
  if !i.present then s.put (Reg.DIE_STATUS_STATE n) 0
  else if s.retired.any (fun x => decide (x.1 = n)) then s.put (Reg.DIE_STATUS_STATE n) 4
  else
    let s := s.put (Reg.DIE_STATUS_STATE n) 2
    let s := s.modDie n fun d => { d with noBand := true, queue := [], held := [], current := none, suspended := [], timeouts := 0 }
    if !i.idOk || !i.trains then s.retireDie n 0
    else
      let map := (s.die n).validMap i
      let s := match map with
        | some m => s.modDie n fun d => d.takeMap m
        | none => (s.buildMap n i.factory).event (srcDie n) 4 Sev.note
      let s := s.putSat (Reg.DIE_BAD_FACTORY n) (i.factory.foldl (· + ·) 0)
      let s := s.putSat (Reg.DIE_BAD_GROWN n) ((s.die n).grownBad.length + (s.die n).pendingBad.length)
      let s := s.putSat (Reg.DIE_BAD_SPARE_LEFT n) ((s.die n).spareLeft.foldl min ((s.die n).spareLeft.headD 0))
      let s := s.showWear n
      if map.isNone && !(s.die n).units.isEmpty then s.retireDie n 1 else s

/-- The flash rails of a channel are lost in run (R427): a program in flight fails, a read or an erase in flight starts
again later. -/
def State.channelCut (s : State) (fc : Nat) : State :=
  let s := (s.put (Reg.FC_STATUS_STATE fc) 1).unitFalls 1 fc
  s.each ((List.range 8).map fun d => 8 * fc + d) fun s n =>
    let held := (s.die n).current.toList ++ (s.die n).suspended
    let s := s.modDie n fun d => { d with
      current := none, suspended := []
      queue := ((held.filter fun o => !o.kind.isProgram) ++ d.queue).map fun o => { o with load := 0 } }
    s.each (held.filter fun o => o.kind.isProgram) fun s o => (s.setCurrent n (some o)).programEnds n true none

/-- The rails are good again (R427): the channel repeats the steps of Table 10.6 that follow the block map load, which select
pseudo-SLC and write the read-level defaults, and resumes. -/
def State.channelBack (s : State) (fc : Nat) : State := ((s.unitReturns 1 fc).put (Reg.FC_STATUS_STATE fc) 2).flashGo (fc / 4)

/-- The retired dies of a channel, as FC_STATUS.RETIRED shows them. -/
def State.retiredBits (s : State) (fc : Nat) : Nat :=
  (List.range 8).foldl (fun m d => if s.get (Reg.DIE_STATUS_STATE (8 * fc + d)) = 4 then m + 2 ^ d else m) 0

/-- The channel's record die (R312). -/
def State.takeRecordDie (s : State) (fc : Nat) : State :=
  match s.recordDie fc with
  | some n => s.put (Reg.FC_STATUS_RECORD_D fc) (n % 8)
  | none => s

/-- The channel's LDPC engine serves it, and the spare engine stands by. -/
def State.takeEngines (s : State) (fc : Nat) : State :=
  let g := 5 * (fc / 4) + fc % 4
  let s := if s.get (Reg.LDPC_STATUS_STATE g) = 0 then s.put (Reg.LDPC_STATUS_CHANNEL g) (fc % 4) else s
  if s.get (Reg.LDPC_STATUS_STATE (5 * (fc / 4) + 4)) = 0 then s.put (Reg.LDPC_STATUS_STATE (5 * (fc / 4) + 4)) 1 else s

/-- NWP_N of a channel's quadrant is released once the quadrant's channels have ended their initialisation (Table 10.1). -/
def State.releaseWp (s : State) (fc : Nat) : State :=
  if (List.range 4).all fun c => decide (2 ≤ s.get (Reg.FC_STATUS_STATE (fc / 4 * 4 + c)))
  then s.modPins fun p => { p with wpN := listUpd p.wpN (fc / 4) fun _ => true } else s

/-- The steps of Table 10.6 on one channel. -/
def State.initChannel (s : State) (fc busFails : Nat) (r : List DieInit) : State :=
  let s := s.each (List.range 8) fun s d => s.initDie (8 * fc + d) (r.getD d ⟨false, false, false, false, false, []⟩)
  let s := s.takeEngines fc
  let s := (s.put (Reg.FC_STATUS_RETIRED fc) (s.retiredBits fc)).takeRecordDie fc
  let s := s.modImage fun i => { i with freshBand := List.range 8 }
  let s := if busFails = 0 then s else s.event (srcFc fc 0) 2 Sev.corrected
  ((if 3 ≤ busFails then s.channelFailed fc else s.put (Reg.FC_STATUS_STATE fc) 2).releaseWp fc).phaseEnds

/-- FLASH_CHANNEL_INIT (R307, R312, R427, R610): the steps of Table 10.6 on one channel, in every start but a WARM_RESUME,
and after its rails were lost in run. -/
def execFlashChannelInit (fc : FcIx) (busFails : Nat) (r : List DieInit) (s : State) : Result :=
  occurs (s.flag Reg.SEQ_STATUS_RAILS_UP && s.flag Reg.CFG_STATUS_SEALED && s.domainGood 2 (fc.val / 4) &&
      decide (s.get (Reg.FC_STATUS_STATE fc) < 2)) s fun s =>
    if s.get (Reg.FC_STATUS_STATE fc) = 1 then s.channelBack fc else s.initChannel fc busFails r

end Sys2Proof.Machine
end

