-- ==== Sys2Proof/Machine/Image.lean ====
section
/-!
DEFINITION. Sys2Proof/Machine/Image.lean: records and seals, generations, journal, checkpoints, garbage collection, wear
levelling and image patrol (07_image_and_ledger, R310).
-/
namespace Sys2Proof.Machine

/-! ## Records (R194 to R198, Table 7.5) -/

/-- The next record of a kind, made from what stands now (Table 7.5). -/
def State.newRecord (s : State) (kind : RecKind) (cause : Nat) : Record := {
  kind := kind, incomplete := decide (kind = .sealSave) && s.flag Reg.SAVE_STATUS_INCOMPLETE, cause := cause
  seq := s.get64 0x030808 0x03080C + 1, run := s.image.run, gen := s.image.gen, time := s.now, dsc := s.get Reg.PERS_DSC_COUNT
  mapLoc := (List.range 4).map fun q => (s.quad q).mapLoc, journalTail := (List.range 4).map fun q => (s.quad q).journalTail
  ckptSf := s.image.ckptSf, pq := (List.range 4).map s.programmed, firstRunTime := s.image.firstRunTime.getD s.now
  key := s.recordKey.getD (.fixed 0) }

/-- RECORD_SEQ of the newest record written (Table 7.14). -/
def State.putRecordSeq (s : State) (n : Nat) : State := s.put64 0x030808 0x03080C n

/-- The channel of copy k of a record, and the channel of its retry (R195). -/
def copyChan (seq k : Nat) : Nat := (seq + 6 * k) % 16
def retryChan (c : Nat) : Nat := 4 * (c / 4) + (c + 1) % 4

/-- One copy of a record programmed on the record die of a channel and read back (R178, R195). -/
def State.programCopy (s : State) (r : Record) (chan k : Nat) (ok : Bool) : Bool × State :=
  match s.recordDie chan with
  | none => (false, s)
  | some n =>
    let s := (s.chargeWear (n / 32)).addCopy chan { record := r, copy := k, good := ok }
    (ok, if ok then s else s.event (srcFc chan 2) 2 Sev.corrected)

/-- Copy k of a record with its one retry (R195). -/
def State.writeCopy (s : State) (r : Record) (k : Nat) (ok retryOk : Bool) : Bool × State :=
  match s.programCopy r (copyChan r.seq k) k ok with
  | (true, s) => (true, s)
  | (false, s) => s.programCopy r (retryChan (copyChan r.seq k)) k retryOk

/-- A record written in both its copies: which copies read back valid, from what the checks of copy 0, its retry, copy 1
and its retry show. -/
def State.writeRecord (s : State) (r : Record) (ok : List Bool) : Bool × Bool × State :=
  let (a, s) := s.writeCopy r 0 (ok.getD 0 false) (ok.getD 1 false)
  let (b, s) := s.writeCopy r 1 (ok.getD 2 false) (ok.getD 3 false)
  let s := (s.putRecordSeq r.seq).invoke 0
  (a, b, if a || b then s.modImage fun i => { i with
      seals := if r.kind = .runOpen then i.seals else (r :: i.seals).take 2 } else s)

/-- A generation opens (R197, R346, R361). -/
def State.openGeneration (s : State) (g : Nat) : State :=
  let s := (s.modImage fun i => { i with gen := g, genOpen := true, genNext := g + 1 }).put Reg.IMG_STATUS_GEN g
  let s := s.each (List.range 4) fun s q => (s.modQuad q fun d => { d with encCount := 0 }).put (Reg.CIPH_QCOUNT_COUNT q) 0
  match s.genKey g with
  | some k => s.rewriteSlot (genSlot g) 2 0 false k
  | none => s

/-- IMAGE_GEN_EXHAUSTED (R198), raised once. -/
def State.genExhausted (s : State) : State :=
  let s := s.putB Reg.IMG_STATUS_GEN_EXHAUSTED true
  if s.image.genWarned then s
  else (s.modImage fun i => { i with genWarned := true }).event (srcPers 0 4) 4 Sev.degraded

/-- The usage of a slot (R357): its invocations, and for the running generation's slot the quadrants' counts too. -/
def State.slotUsage (s : State) (k : Nat) : Nat :=
  (s.slot k).usage + if k = genSlot s.image.gen ∧ s.image.genOpen then (List.range 4).foldl (fun n q => n + (s.quad q).encCount) 0 else 0

/-- Whether a key that the running generation uses is past its usage warning (R197). -/
def State.genKeysWorn (s : State) : Bool :=
  (genSlot s.image.gen :: 2 :: (List.range 16).map tenantSlot).any fun k => decide (2147483648 ≤ s.slotUsage k)

/-! ## Journal and checkpoints (R189 to R191) -/

def State.flushSf (s : State) : Nat := max 1 (s.get Reg.LEDGER_CTRL_FLUSH_SF)

/-- R190: whether a quadrant's open journal unit is to be programmed now. -/
def State.flushDue (s : State) (q : Nat) : Bool :=
  let d := s.quad q
  !d.journal.isEmpty && (decide (4080 ≤ d.journal.length) ||
    (match d.journalSf with | some f => decide (f + s.flushSf ≤ s.sf) | none => false) ||
    s.seq.warmDrain || (s.flag Reg.PERS_STATUS_SAVE_ACTIVE && s.saveWalked q && d.versions.all fun v => v.abandoned))

/-- JOURNAL_FLUSH. -/
def execJournalFlush (q : QuadIx) (s : State) : Result := occurs (s.image.genOpen && s.flushDue q) s fun s => s.flushJournal q

/-- A quadrant's checkpoint begins: a CHECKPOINT unit for each ledger page changed since the previous one. -/
def State.startCheckpoint (s : State) (q : Nat) : State :=
  match s.ledgerKey s.image.gen with
  | none => s
  | some k =>
    let pages := (s.quad q).changed
    let s := s.each pages fun s page =>
      s.sealLedgerUnit q (.checkpoint q page (s.quad q).journalSeq s.image.gen 0 k (s.pageEntries q page))
    (s.modQuad q fun d => { d with ckptPages := pages, changed := [], ckptStage := 1 }).ckptAdvance q

/-- CHECKPOINT_START (R191): at a superframe boundary S with S mod 4,096 = 0. -/
def execCheckpointStart (q : QuadIx) (s : State) : Result :=
  let new := !s.image.ckptActive
  occurs (decide (s.sf % 4096 = 0) && s.image.runOpen && s.working &&
      decide ((s.quad q).ckptStage = 0) && (new && decide (s.image.ckptNew ≠ s.sf) ||
        s.image.ckptActive && decide (s.image.ckptNew = s.sf) && s.image.ckptWait.contains q.val)) s fun s =>
    let s := if new then s.modImage fun i => { i with ckptActive := true, ckptWait := [0, 1, 2, 3], ckptNew := s.sf } else s
    s.startCheckpoint q

/-- CHECKPOINT_SEAL (R191, R197, R198): all four quadrants have finished. -/
def execCheckpointSeal (ok : List Bool) (s : State) : Result :=
  occurs (s.image.ckptActive && s.image.ckptWait.isEmpty && s.working) s fun s =>
    let s := s.modImage fun i => { i with ckptActive := false, ckptSf := i.ckptNew }
    let last := decide (s.image.gen = 0xFFFFFF)
    let roll := s.genKeysWorn && !last
    let s := if s.genKeysWorn && last then s.genExhausted else s
    let (a, b, s) := s.writeRecord (s.newRecord (if roll then .sealRoll else .sealCheckpoint) 0) ok
    if roll && (a || b) then s.openGeneration (s.image.gen + 1) else s

/-! ## Garbage collection and levelling (R199 to R203, R310) -/

/-- A position's closed bands: used, not open, and not still being filled by one of its dies. -/
def State.closedBands (s : State) (pos : Nat) : List Nat :=
  (s.usedAt pos).filter fun b => decide (sparseGet none s.image.openBand pos ≠ some b) &&
    !((List.range 16).any fun c =>
      let d := s.die (dieAt pos c)
      !d.noBand && s.dieUp (dieAt pos c) && decide (d.nextUnit / s.unitsPerBand = b) && decide (d.nextUnit % s.unitsPerBand ≠ 0))

/-- The band of a list with the least measure, the lowest among equals. -/
def leastBand (f : Nat → Nat) (l : List Nat) : Option Nat :=
  l.foldl (fun best b => match best with
    | none => some b
    | some x => if f b < f x then some b else some x) none

/-- Whether garbage collection may start work in a position (R157, R203, Table 5.2). -/
def State.gcMay (s : State) (pos : Nat) : Bool :=
  s.working && s.flag Reg.PERS_STATUS_MEDIA_READY &&
    (!s.flag Reg.PERS_STATUS_RESTORE_PENDING || s.posCrit pos)

/-- A unit on its way to another place: it is being read, rebuilt or programmed there. -/
def State.moving (s : State) (x : Nat × Nat) : Bool :=
  let d := s.die x.1
  let reads (o : DieOp) : Bool := decide (o.kind = .read x.2 .relocate)
  let q := s.quad (x.1 / 32)
  d.asked.any reads || d.current.any reads || d.suspended.any reads || d.rebuild.contains x.2 ||
    q.relocs.any (fun r => decide (r.fromDie = x.1) && decide (r.fromUnit = x.2)) ||
    q.relocWait.any fun r => decide (r.1 = x.1) && decide (r.2.1 = x.2)

/-- A unit that stands at its patch's or page's current place, so that a relocation changes it (R201). A CHECKPOINT or MAP unit
that only a seal still names stays where the seal says it is, until two newer seals have come (Table 7.6). -/
def State.movable (s : State) (x : Nat × Nat) : Bool :=
  match s.unitBody x.1 x.2 with
  | some (.checkpoint q page _ _ _ _ _) => decide (sparseGet none (s.quad q).pageLoc page = some x)
  | some (.map q _ _ _ _ _) => decide ((s.quad q).mapLoc = some x)
  | _ => true

/-- A position's dies erase a band. -/
def State.eraseBand (s : State) (pos band order : Nat) : State :=
  let has (o : DieOp) : Bool := decide (o.kind = .erase band)
  let erasing := (List.range 16).any fun c =>
    let d := s.die (dieAt pos c)
    d.asked.any has || d.current.any has || d.suspended.any has
  if erasing then s else
  s.each ((List.range 16).filter fun c => s.dieUp (dieAt pos c)) fun s c =>
    let n := dieAt pos c
    s.pushOp n { order := order, kind := .erase band, quad := n / 32, entered := 0 }

/-- Work on a band being collected goes on (R200, R203): its live units are read, and once none is left and none is on its way
the position's dies erase it. -/
def State.collect (s : State) (pos band : Nat) : State :=
  let live := s.liveInBand pos band
  let order := s.gcOrder pos
  if live.isEmpty then s.eraseBand pos band order
  else s.each (live.filter fun x => s.movable x && !s.moving x) fun s x =>
    if s.dieUp x.1 then s.pushOp x.1 { order := order, kind := .read x.2 .relocate, quad := x.1 / 32, entered := 0 }
    else s.modDie x.1 fun d => { d with rebuild := setInsert d.rebuild x.2 }

/-- A band is chosen for collection, unless the position already works on one. -/
def State.collectBand (s : State) (pos : Nat) (choice : Option Nat) : State :=
  match s.image.collecting.find? (fun x => decide (x.1 = pos)), choice with
  | some x, _ => s.collect pos x.2
  | none, some b => ((s.modImage fun i => { i with collecting := i.collecting ++ [(pos, b)] }).putB Reg.GC_STATUS_ACTIVE true).collect pos b
  | none, none => s

/-- GC_START (R200, R337, R338): a position with fewer than FREE_LOW free bands, or a closed band that a Sanitize wants
erased. -/
def execGcStart (pos : Nat) (s : State) : Result :=
  let wanted := (s.closedBands pos).find? fun b => s.image.eraseBands.any fun x => decide (x.2 = (pos, b))
  occurs (decide (pos < 8) && s.gcMay pos && (decide ((s.freeBands pos).length < s.get Reg.GC_CTRL_FREE_LOW) || wanted.isSome ||
      s.image.collecting.any fun x => decide (x.1 = pos))) s fun s =>
    s.collectBand pos (wanted <|> leastBand (fun b => (s.liveInBand pos b).length) (s.closedBands pos))

/-- WEAR_LEVEL_RELOCATE (R310). -/
def execWearLevelRelocate (pos : Nat) (s : State) : Result :=
  let closed := s.closedBands pos
  let low := leastBand (s.bandWear pos) closed
  let spread := max 16 (s.get (Reg.FC_WEAR_SPREAD 0))
  let wide := match low with
    | some b => closed.any fun x => decide (16 * spread < s.bandWear pos x - s.bandWear pos b)
    | none => false
  occurs (decide (pos < 8) && s.gcMay pos && decide (s.get Reg.GC_CTRL_FREE_LOW ≤ (s.freeBands pos).length) && wide &&
      !(s.image.collecting.any fun x => decide (x.1 = pos))) s fun s => s.collectBand pos low

/-- A command changes the ledger entry of a patch: a recorded version, another relocation, a revoked marker. -/
def State.recordsNow (s : State) (p : Nat) : Instr → Bool
  | .versionRecorded die unit => (s.quad (die.val / 32)).versions.any fun v =>
      decide (v.die = die.val) && decide (v.unit = some unit) && decide (v.stage = .covered) && decide (v.patch = p) && !v.abandoned &&
        !v.superseded
  | .relocationUpdate die unit _ => (s.quad (die.val / 32)).relocs.any fun r =>
      decide (r.die = die.val) && decide (r.unit = some unit) && r.covered && decide (r.body.patch = some p)
  | .skimStart q _ _ => s.quadRuns q && s.flag Reg.SKIM_CTRL_ENABLE && decide ((s.findSet q).1 = some p) && s.revoked p
  | _ => false

/-- One of the next commands of the queue, which come in the cycle of the present one, changes a patch's ledger entry (R202). -/
def State.matesRecord (s : State) (p mates : Nat) : Bool := (s.pending.take mates).any (s.recordsNow p)

/-- RELOCATION_UPDATE (R201, R202): a relocated unit, programmed and covered at its new place, takes over the old place's
name, unless the entry has changed meanwhile. -/
def State.relocated (s : State) (q : Nat) (r : Reloc) (unit : Nat) : State :=
  let s := s.modQuad q fun d => { d with relocs := d.relocs.filter (· ≠ r) }
  match r.body with
  | .data p _ _ _ _ _ _ =>
    match s.ledger p with
    | .version die u gen lo =>
      if die = r.fromDie ∧ u = r.fromUnit then s.ledgerSet p (.version r.die unit gen lo)
      else s.bump Reg.SKIM_SUPERSEDED_COUNT 1
    | _ => s.bump Reg.SKIM_SUPERSEDED_COUNT 1
  | .checkpoint cq page _ _ _ _ _ =>
    if sparseGet none (s.quad cq).pageLoc page = some (r.fromDie, r.fromUnit)
    then s.modQuad cq fun d => { d with pageLoc := sparseSet none d.pageLoc page (some (r.die, unit)) } else s
  | .map cq _ _ _ _ _ =>
    if (s.quad cq).mapLoc = some (r.fromDie, r.fromUnit) then s.modQuad cq fun d => { d with mapLoc := some (r.die, unit) } else s
  | .journal jq seq _ _ _ _ =>
    let s := s.modDie r.fromDie fun d => { d with units := sparseUpd none d.units r.fromUnit fun x => x.map fun x => { x with stale := true } }
    if (s.quad jq).journalTail = some (r.fromDie, r.fromUnit, seq)
    then s.modQuad jq fun d => { d with journalTail := some (r.die, unit, seq) } else s
  | _ => s

def execRelocationUpdate (die : DieIx) (unit : Nat) (mates : Nat) (s : State) : Result :=
  match (s.quad (die.val / 32)).relocs.find? (fun r => decide (r.die = die.val) && decide (r.unit = some unit) && r.covered) with
  | none => .next s.begin
  | some r =>
    let s := s.begin
    .next (match r.body with
      | .data p _ _ _ _ _ _ =>
        if s.matesRecord p mates then (s.modQuad (die.val / 32) fun d => { d with relocs := d.relocs.filter (· ≠ r) }).bump
          Reg.SKIM_SUPERSEDED_COUNT 1
        else s.relocated (die.val / 32) r unit
      | _ => s.relocated (die.val / 32) r unit)

/-! ## Image patrol (R207) -/

/-- The units of a quadrant's dies that patrol reads: live ones, and the parity of bands that hold a live unit. -/
def State.patrolUnits (s : State) (q : Nat) : List (Nat × Nat) :=
  let liveBands := ((List.range 8).map fun pos => (s.usedAt pos).filterMap fun b =>
    if (s.liveInBand pos b).isEmpty then none else some (pos, b)).flatten
  ((List.range 32).map fun i =>
    let n := 32 * q + i
    if !s.dieUp n then [] else (s.die n).units.filterMap fun e => match e.2 with
      | some { body := .parity _ _, good := true, .. } =>
        if liveBands.contains (posOf n, e.1 / s.unitsPerBand) then some (n, e.1) else none
      | _ => if s.live n e.1 then some (n, e.1) else none).flatten

/-- A place in patrol's order. -/
def patrolKey (x : Nat × Nat) : Nat := 2 ^ 20 * x.1 + x.2

/-- The units that a quadrant's pass has still to read, from the place it has come to, in ascending die and unit. -/
def State.patrolLeft (s : State) (q : Nat) : List (Nat × Nat) :=
  (s.patrolUnits q).filter fun x => decide (sparseGet 0 s.image.patrolPos q ≤ patrolKey x)

/-- The patrol period in ns. -/
def State.patrolPeriod (s : State) : Nat := sec (86400 * max 1 (min 90 (s.get Reg.IMG_PATROL_DAYS)))

/-- A pass begins. -/
def State.patrolBegins (s : State) (t : Nat) : State :=
  s.modImage fun i => { i with patrolStart := some t, patrolPos := [], patrolRead := [], patrolDone := [] }

/-- A quadrant's next unit is due, at a pace spread evenly over the period (R207): with k units read and m still to read, k of
k + m periods' parts have passed since the pass began. -/
def State.patrolDue (s : State) (q : Nat) : Bool :=
  let k := sparseGet 0 s.image.patrolRead q
  decide (s.image.patrolStart.getD s.now + s.patrolPeriod * k / (k + (s.patrolLeft q).length) ≤ s.now)

/-- A quadrant's part of a pass is complete; the pass is complete with the fourth, and the next begins when the period is
over. -/
def State.patrolQuadDone (s : State) (q : Nat) : State :=
  let s := s.modImage fun i => { i with patrolDone := setInsert i.patrolDone q }
  if s.image.patrolDone.length < 4 then s
  else
    let s := (s.bump Reg.IMG_PATROL_PASSES 1).patrolBegins (max s.now (s.image.patrolStart.getD s.now + s.patrolPeriod))
    s.each (List.range 128) fun s n => s.modDie n fun d => { d with undecAtPatrol := s.get (Reg.DIE_COUNT_UNDECODABLE_COUNT n) }

/-- How far a quadrant's pass has come, in %. -/
def State.patrolPct (s : State) (q : Nat) : Nat :=
  let k := sparseGet 0 s.image.patrolRead q
  if s.image.patrolDone.contains q then 100 else k * 100 / max 1 (k + (s.patrolLeft q).length)

/-- A quadrant's patrol reads its next unit once that is due and its die has a place. -/
def State.patrolNext (s : State) (q : Nat) : State :=
  match (s.patrolLeft q).head? with
  | none => s.patrolQuadDone q
  | some (n, u) =>
    let o : DieOp := { order := 7, kind := .read u .patrol, quad := q, entered := 0 }
    if !s.patrolDue q || !(s.die n).hasPlace o then s
    else (s.pushOp n o).modImage fun x => { x with
      patrolPos := sparseSet 0 x.patrolPos q (patrolKey (n, u) + 1), patrolRead := sparseUpd 0 x.patrolRead q (· + 1) }

/-- IMAGE_PATROL_START (R157, R207). -/
def execImagePatrolStart (q : QuadIx) (s : State) : Result :=
  occurs (s.working && s.flag Reg.PERS_STATUS_MEDIA_READY &&
      !s.flag Reg.PERS_STATUS_RESTORE_PENDING && !(s.image.patrolDone.contains q.val) &&
      decide (s.image.patrolStart.getD s.now ≤ s.now)) s fun s =>
    let s := if s.image.patrolStart.isNone then s.patrolBegins s.now else s
    let s := s.patrolNext q
    s.put Reg.IMG_PATROL_PASS_PCT (min 99 ((List.range 4).foldl (fun t k => t + s.patrolPct k) 0 / 4))

end Sys2Proof.Machine
end

