-- ==== Sys2Proof/Machine/Restore.lean ====
section
/-!
DEFINITION. Sys2Proof/Machine/Restore.lean: seal search, ledger load, run-open record, fills, fault-ins, heals and quadrant
refill (06_restore_and_heal; R76 to R78, R192, R196, R538, R540, R609).
-/
namespace Sys2Proof.Machine

/-! ## Seal search (R144, R194 to R196, R76, R540) -/

/-- The valid record copies that the search finds on the record dies, but for unreadable channels: read back good and made
under the image root in force. -/
def State.validCopies (s : State) (unreadable : List Nat) : List (Nat × RecCopy) :=
  (s.image.records.filter fun e => !(unreadable.contains e.1)).flatMap fun e =>
    (e.2.pages.filter fun c => c.good && decide (s.recordKey = some c.record.key)).map fun c => (e.1, c)

/-- The record of highest RECORD_SEQ among some. -/
def newestOf (l : List Record) : Option Record :=
  l.foldl (fun b r => match b with
    | none => some r
    | some x => if x.seq < r.seq then some r else some x) none

/-- The newest DSC record of the log ring (R78). -/
def State.logDsc (s : State) : Option Nat :=
  s.seq.ring.foldl (fun b r => match r.body with
    | .dsc count _ => some count
    | _ => b) none

def RecKind.isSeal : RecKind → Bool
  | .runOpen => false
  | _ => true

/-- Bits of the copies of a record that are valid. -/
def copyBits (l : List (Nat × RecCopy)) (r : Record) : Nat :=
  (if l.any (fun c => decide (c.2.record = r) && decide (c.2.copy = 0)) then 1 else 0) +
  (if l.any (fun c => decide (c.2.record = r) && decide (c.2.copy = 1)) then 2 else 0)

/-- PERS_LAST_SHUTDOWN as Table 3.10 states it, and its time. -/
def State.putLastShutdown (s : State) (cause : Nat) (isSealed incomplete single : Bool) (time : Nat) : State :=
  ((((s.put Reg.PERS_LAST_SHUTDOWN_CAUSE cause).putB Reg.PERS_LAST_SHUTDOWN_SEALED isSealed).putB
    Reg.PERS_LAST_SHUTDOWN_INCOMPLETE incomplete).putB Reg.PERS_LAST_SHUTDOWN_SINGLE_COPY single).put64 0x03000C 0x030010 time

/-- The start state is decided (R538). -/
def State.decideStart (s : State) (st : Nat) : State :=
  (s.put Reg.PERS_STATUS_START_STATE st).putB Reg.PERS_START_DECIDED true

/-- The generation keys of slots 20 to 23: the generation given and the three before it (R376). -/
def State.deriveGens (s : State) (g : Nat) : State :=
  s.each [3, 2, 1, 0] fun s i => if i ≤ g then match s.genKey (g - i) with
    | some k => s.rewriteSlot (genSlot (g - i)) 2 0 false k
    | none => s
  else s

/-- The lowest generation that no run has opened after a record (R197): a SEAL_ROLL's run has opened the next one at once. -/
def Record.nextGen (r : Record) : Nat := if r.kind = .sealRoll then r.gen + 2 else r.gen + 1

/-- The programs counted so far, as the newest record states them (P_q of R95). -/
def State.takePq (s : State) (r : Record) : State :=
  s.each (List.range 4) fun s q => s.put64 (0x030360 + 8 * q) (0x030364 + 8 * q) (r.pq.getD q 0)

/-- SEAL_SEARCH (R144, R76 to R79, R196, R538, R540, R609). -/
def State.sealSearch (s : State) (unreadable : List Nat) : State :=
  let copies := s.validCopies unreadable
  let recs : List Record := copies.map fun c => c.2.record
  let runOpen : Option Record := newestOf (recs.filter fun (r : Record) => decide (r.kind = .runOpen))
  let newestSeal : Option Record := newestOf (recs.filter fun (r : Record) => r.kind.isSeal)
  let closing : Option Record := match runOpen with
    | some o => newestOf (recs.filter fun (r : Record) => decide (r.kind = .sealSave) && decide (r.run = o.run) && decide (o.seq < r.seq))
    | none => none
  let log := s.logDsc
  let base := max ((runOpen.map Record.dsc).getD 0) (log.getD 0)
  let dirty := (runOpen.isSome && closing.isNone) || (closing.any Record.incomplete) || (recs.isEmpty && log.isSome)
  let s := s.put Reg.PERS_DSC_COUNT (if dirty then min (base + 1) 4294967295 else base)
  let s := s.putB Reg.PERS_STATUS_LAST_DIRTY dirty
  let s := match closing with
    | some c => s.putLastShutdown c.cause true c.incomplete (decide (copyBits copies c ≠ 3)) c.time
    | none => s.putLastShutdown (if s.flag Reg.TICK_STATUS_AON_RESTART then 0 else s.seq.aonCause) false false false
        ((runOpen.map Record.time).getD 0)
  let top : Option Record := newestOf recs
  let s := s.modImage fun i => { i with
    run := (runOpen.map Record.run).getD 0, runOpen := false, genOpen := false, loaded := false
    genNext := (recs.foldl (fun m (r : Record) => max m r.nextGen) 0)
    seals := (newestSeal.toList ++ (newestOf (recs.filter fun (r : Record) => r.kind.isSeal && decide (some r ≠ newestSeal))).toList)
    firstRunTime := top.map Record.firstRunTime, ckptSf := (newestSeal.map Record.ckptSf).getD 0 }
  let s := s.putRecordSeq ((top.map Record.seq).getD 0)
  let s := match top with
    | some r => s.takePq r
    | none => s
  let s := s.putSat Reg.RESTORE_LOAD_SEARCH_MS ((s.now - s.image.phaseAt) / 1000000)
  let s := s.modImage fun i => { i with phaseAt := s.now }
  match newestSeal with
  | none => (s.decideStart 0).put Reg.RESTORE_STATUS_PHASE 3
  | some r =>
    (((s.deriveGens r.gen).decideStart 1).put Reg.RESTORE_STATUS_PHASE 2).put Reg.RESTORE_STATUS_SEAL_COPIES (copyBits copies r)

def execSealSearch (unreadable : List Nat) (s : State) : Result :=
  occurs (!s.flag Reg.PERS_START_DECIDED && s.flag Reg.CFG_STATUS_SEALED && s.flag Reg.SEQ_STATUS_RAILS_UP && s.mediaUp) s
    fun s => s.sealSearch unreadable

/-! ## Ledger load (R145, R146, R192, R193) -/

/-- A unit of the image as the load reads it: decodable or rebuilt. -/
def State.loadUnit (s : State) (lost : List (Nat × Nat)) (die unit : Nat) : Option UnitBody :=
  if !(lost.contains (die, unit)) && s.dieUp die then s.unitBody die unit
  else if s.canRebuild die unit [] then s.unitBody die unit else none

/-- Entries put into the ledger. -/
def State.putEntries (s : State) (l : List (Nat × LEntry)) : State :=
  s.each l fun s e => s.modImage fun i => { i with ledger := sparseSet (s.ledgerDflt e.1) i.ledger e.1 e.2 }

/-- Ledger pages lost with a CHECKPOINT or MAP unit that cannot be had (R193, R210): every patch they cover fills as a failed
version. DESIGN CHOICE (the spec does not say what the next checkpoint makes of such a page): it has no place, and the next
MAP leaves it out, so that a later load finds its patches NONE unless their entries have been journaled since. -/
def State.pagesLost (s : State) (q : Nat) (pages : List Nat) (die unit : Nat) : State :=
  ((s.modQuad q fun d => { d with lostPages := pages.foldl setInsert d.lostPages }).imgLost q die unit).pageLostEvent q die unit

/-- The journal units of a quadrant, with good status and of a generation up to one, in journal sequence order. DESIGN CHOICE
(R192 does not say which of two units with one sequence number is replayed, as after a run without a seal): the one of the
higher generation, and of two of one generation, which hold the same entries (R190, R201), the one on the higher die. -/
def State.journalUnits (s : State) (q gen : Nat) : List (Nat × (Nat × (Nat × Nat))) :=
  (List.range 32).foldl (fun m i =>
    let n := 32 * q + i
    (s.die n).units.foldl (fun m e => match e.2 with
      | some { body := .journal jq seq g _ _ _, good := true, .. } =>
        if jq = q ∧ g ≤ gen ∧ (sparseGet (0, 0, 0) m seq).1 ≤ g then sparsePlace (sparseErase m seq) seq (g, n, e.1) else m
      | _ => m) m) []

/-- R192: the journal units that replay reads, in sequence, up to a tail and generation, from the first that holds an entry of
the checkpoint superframe or later. -/
def State.replayList (s : State) (q tail gen ckptSf : Nat) : List (Nat × Nat) :=
  (((s.journalUnits q gen).filter fun e => decide (e.1 ≤ tail)).map fun e => e.2.2).dropWhile fun e =>
    match s.unitBody e.1 e.2 with
    | some (.journal _ _ _ _ _ entries) => entries.all fun j => decide (j.sf < ckptSf % 2 ^ 32)
    | _ => true

/-- The ledger pages that a record's MAP unit names. -/
def State.loadPages (s : State) (q : Nat) (lost : List (Nat × Nat)) (pages : List (Nat × Nat × Nat)) : State :=
  s.each pages fun s x =>
    match s.loadUnit lost x.2.1 x.2.2 with
    | some (.checkpoint _ _ _ _ _ _ entries) =>
      (s.putEntries entries).modQuad q fun d => { d with pageLoc := sparseSet none d.pageLoc x.1 (some x.2) }
    | _ => s.pagesLost q [x.1] x.2.1 x.2.2

/-- The MAP unit of a quadrant that a record names, and the pages it names. -/
def State.loadMap (s : State) (q : Nat) (r : Record) (lost : List (Nat × Nat)) : State :=
  match r.mapLoc.getD q none with
  | none => s
  | some (n, u) =>
    match s.loadUnit lost n u with
    | some (.map _ _ _ _ _ pages) => (s.modQuad q fun d => { d with mapLoc := some (n, u) }).loadPages q lost pages
    | _ => s.pagesLost q (List.range ((s.quadPatches + 8191) / 8192)) n u

/-- Journal entries put into the ledger, their pages counted as changed since the checkpoint. -/
def State.replay (s : State) (q : Nat) (entries : List JEntry) : State :=
  (s.putEntries (entries.map fun j => (j.patch, j.entry))).modQuad q fun d => { d with
    changed := entries.foldl (fun l j => setInsert l (pageOf j.patch)) d.changed }

/-- Journal units replayed in order; one that cannot be had is lost (R210). -/
def State.replayJournal (s : State) (q : Nat) (units : List (Nat × Nat)) (lost : List (Nat × Nat)) : State :=
  s.each units fun s e =>
    match s.loadUnit lost e.1 e.2 with
    | some (.journal _ _ _ _ _ entries) => s.replay q entries
    | _ => s.imgLost q e.1 e.2

/-- One quadrant's ledger loaded from a seal: its MAP, the pages the MAP names, then the journal up to the tail. -/
def State.loadQuad (s : State) (q : Nat) (r : Record) (lost : List (Nat × Nat)) : State :=
  let s := s.loadMap q r lost
  match r.journalTail.getD q none with
  | none => s
  | some t => (s.replayJournal q (s.replayList q t.2.2 r.gen r.ckptSf) lost).modQuad q fun d => { d with
      journalTail := some t, journalSeq := (t.2.2 + 1) % 2 ^ 48 }

/-- The patch tables of a quadrant after a load (R145, R146): every patch DRY and unfilled, the panel map clear. -/
def State.clearQuad (s : State) (q : Nat) : State :=
  let s := s.modQuad q fun d => { d with
    dflt := { unfilled := true }, panelMap := [], setting := [], panel := none, reading := none, fills := [], heals := [], ciph := [],
    follow := [], merges := [], versions := [], relocs := [], journal := [], journalSf := none, journalSeq := 0,
    journalTail := none, changed := [], pageLoc := [], mapLoc := none, ckptStage := 0, ckptPages := [], lostPages := [],
    saveOn := false, saveNext := 0, saveFails := [], fillPtr := 0, pace := 0, wear := 0, ledgerWait := [], relocWait := [] }
  ({ s with patches := s.patches.filter fun e => decide (quadOf e.1 ≠ q) }).showAccount q

/-- LEDGER_LOAD. -/
def State.ledgerLoad (s : State) (lost : List (Nat × Nat)) : State :=
  let s := s.each (List.range 4) fun s q => s.clearQuad q
  let s := s.modImage fun i => { i with ledger := [], sets := [], ckptActive := false, ckptWait := [], collecting := [] }
  let s := match s.image.seals.head?, s.get Reg.PERS_STATUS_START_STATE with
    | some r, 1 => s.each (List.range 4) fun s q => s.loadQuad q r lost
    | _, _ => s
  -- R58, R189: the versions of patches that are in no persistent partition now are released, and journaled so
  let s := s.each (s.image.ledger.filter fun e => !s.patchPersistent e.1) fun s e => s.ledgerSet e.1 .none
  let s := s.each (List.range 4) fun s q => (s.wearAllowance q).judgeFilled q
  let s := s.putSat Reg.RESTORE_LOAD_LEDGER_MS ((s.now - s.image.phaseAt) / 1000000)
  (s.modImage fun i => { i with loaded := true }).put Reg.RESTORE_STATUS_PHASE 3

def execLedgerLoad (lost : List (Nat × Nat)) (s : State) : Result :=
  occurs (s.flag Reg.PERS_START_DECIDED && decide (s.get Reg.PERS_STATUS_START_STATE ≤ 1) && !s.image.loaded) s
    fun s => s.ledgerLoad lost

/-! ## Run-open record (R148, R431) -/

/-- One attempt after another, at most four; each is a new record with the next RECORD_SEQ. -/
def State.tryRunOpen (s : State) (r : Record) (ok : List Bool) : Nat → Bool × State
  | 0 => (false, s)
  | n + 1 =>
    let (a, b, s) := s.writeRecord { r with seq := s.get64 0x030808 0x03080C + 1 } ok
    if a || b then (true, s) else s.tryRunOpen r (ok.drop 4) n

/-- Save triggers are armed (R431). -/
def State.arm (s : State) (b : Bool) : State := (s.putB Reg.SEQ_STATUS_ARMED b).sfg Reg.EVT_SFG_STATUS_ARMED b

/-- RUN_OPEN_WRITE (R148, R197, R198). -/
def State.runOpenWrite (s : State) (ok : List Bool) : State :=
  let g := s.image.genNext
  if 0xFFFFFF < g then s.genExhausted else
  let first := s.image.firstRunTime.getD s.now
  let r := { s.newRecord .runOpen 0 with run := s.image.run + 1, gen := g, firstRunTime := first }
  match s.tryRunOpen r ok 4 with
  | (true, s) =>
    let s := s.modImage fun i => { i with run := i.run + 1, runOpen := true, firstRunTime := some first }
    ((s.openGeneration g).modSeq fun x => { x with aonCause := 0 }).arm true
  | (false, s) => (s.modSeq fun x => { x with blocked := true }).event 0x4A9 1 Sev.fatal

def execRunOpenWrite (ok : List Bool) (s : State) : Result :=
  occurs (s.image.loaded && !s.image.runOpen && !s.seq.blocked && s.flag Reg.PERS_START_DECIDED && decide (s.seq.power ≠ .powerDown) &&
    decide (s.get Reg.PERS_STATUS_START_STATE ≠ 3) && !s.flag Reg.PERS_STATUS_SAVE_ACTIVE) s fun s => s.runOpenWrite ok

/-! ## Fills (R151 to R160) -/

/-- The next unfilled patch of a quadrant at or after a local index, going round once, with no fill in flight. -/
def State.nextUnfilled (s : State) (q l : Nat) : Nat → Option Nat
  | 0 => none
  | fuel + 1 =>
    match s.nextLocal l with
    | none => none
    | some i =>
      let p := patchAt q i
      if (s.patch p).unfilled ∧ (s.patch p).st = .dry ∧ (s.fillOf q p).isNone then some i else s.nextUnfilled q (i + 1) fuel

/-- The next unfilled patch of one panel. -/
def State.unfilledInPanel (s : State) (q panel : Nat) : Option Nat :=
  ((List.range 32).map fun j => 32 * panel + j).find? fun i =>
    let p := patchAt q i
    s.patchPersistent p && (s.patch p).unfilled && decide ((s.patch p).st = .dry) && (s.fillOf q p).isNone

/-- A panel has an unfilled patch left, be its fill in flight or not. -/
def State.panelUnfilled (s : State) (q panel : Nat) : Bool :=
  (List.range 32).any fun j => let p := patchAt q (32 * panel + j); s.patchPersistent p && (s.patch p).unfilled

/-- The patch that background restore fills next, and whether the sweep names it (R153). -/
def State.nextFill (s : State) (q : Nat) : Option (Nat × Bool) :=
  match (s.quad q).follow.findSome? (fun panel => s.unfilledInPanel q panel) with
  | some i => some (i, false)
  | none => (s.nextUnfilled q (s.quad q).fillPtr (s.quadPatches + 1)).map fun i => (i, true)

/-- What a fill of a version costs, in tenths of a byte of pace. -/
def fillCost : Nat := 655360

/-- BACKGROUND_FILL_START (R153, R155). -/
def State.backgroundFill (s : State) (q : Nat) : State :=
  match s.nextFill q with
  | none => s
  | some (i, sweep) =>
    let p := patchAt q i
    let go (s : State) : State := if sweep then s.modQuad q fun d => { d with fillPtr := i / 32 * 32 } else s
    match s.versionAt p with
    | none => (go s).startFill q p .background
    | some (n, _) =>
      if (s.quad q).fillPace < fillCost || (s.dieUp n && decide (2 ≤ ((s.die n).waiting 5).length)) then s
      else (go (s.modQuad q fun d => { d with fillPace := d.fillPace - fillCost })).startFill q p .background

def execBackgroundFillStart (q : QuadIx) (s : State) : Result :=
  occurs (s.quadRuns q && s.flag Reg.PERS_STATUS_MEDIA_READY && s.flag Reg.RESTORE_CTRL_BG_EN &&
    s.flag Reg.PERS_STATUS_RESTORE_PENDING) s fun s => s.backgroundFill q

/-- FAULT_IN_PLACE_TAKEN (R159): the oldest fault-in that waits for a die takes a free place on it. -/
def execFaultInPlaceTaken (die : DieIx) (s : State) : Result :=
  match s.placeWaiters die with
  | [] => .next s.begin
  | f :: _ => .next (if s.placesOn die < 4 then (s.begin.takePlace (die.val / 32) f.patch).judgePlaces else s.begin)

/-- The lowest-numbered active pair of a quadrant, which compares its tags. -/
def State.tagPair (s : State) (q : Nat) : Nat :=
  (((List.range 13).map fun i => 13 * q + i).find? fun n =>
    decide (s.get (Reg.PAIR_STATUS_STATE n) = 0) || decide (s.get (Reg.PAIR_STATUS_STATE n) = 2)).getD (13 * q)

/-- TAG_COMPARE (R188, R362, R363): a version read for a fill, a merge or a heal is judged once its codewords are decrypted. -/
def execTagCompare (q : QuadIx) (patch : Nat) (s : State) : Result :=
  let ok := (s.goodVersion patch).isSome
  let waits := ((s.fillOf q patch).any fun f => decide (f.read = some true) && f.tag.isNone) ||
    ((s.healOf q patch).any fun h => decide (h.read = some true) && h.tag.isNone)
  occurs (waits && s.decrypted q patch) s fun s =>
    let s := s.modFill q patch fun f => if f.read = some true ∧ f.tag.isNone then { f with tag := some ok } else f
    let s := s.modHeal q patch fun h => if h.read = some true ∧ h.tag.isNone then { h with tag := some ok } else h
    (if ok then s else s.event (srcPair (s.tagPair q) 1) 1 Sev.note).flashGo q

/-- The follow list takes a panel (R154). -/
def State.followPanel (s : State) (q panel : Nat) : State :=
  let d := s.quad q
  if !s.flag Reg.RESTORE_CTRL_PANEL_FOLLOW || d.follow.contains panel || !s.panelUnfilled q panel then s
  else s.modQuad q fun d => { d with follow := (if 8 ≤ d.follow.length then d.follow.tail else d.follow) ++ [panel] }

/-- The patch's content stands in DRAM: that of a good version, or every line poisoned. -/
def State.fillData (s : State) (p : Nat) : Option (List Host.Cell × BitVec 1024) → State
  | some (content, poison) => s.loadPatch p content poison
  | none => s.loadPatch p [] allLines

/-- A fill whose version could not be had (Table 6.2). -/
def State.fillFailed (s : State) (q p : Nat) : State :=
  ((s.patchWritten p).bump Reg.RESTORE_FI_FAILED_VALUE 1).eventAt (srcPers q 2) 1 Sev.uncorrected Who.restore Access.flashRead 1 (p * 65536)

/-- A fault-in ends (R158): it is counted, and its panel is followed. -/
def State.faultInEnds (s : State) (q : Nat) (f : Fill) : State :=
  let us := (s.now - f.placedAt) / 1000
  let s := s.bump Reg.RESTORE_FI_COUNT_VALUE 1
  (if f.placed ∧ s.get Reg.RESTORE_FI_MAX_US_VALUE < us then s.putSat Reg.RESTORE_FI_MAX_US_VALUE us else s).followPanel q (panelOf f.patch)

/-- A fill leaves its engine. DESIGN CHOICE (R154 states no removal but by a newer entry): a panel leaves the follow list with
its last unfilled patch. -/
def State.fillGone (s : State) (q p : Nat) : State :=
  let s := s.modQuad q fun d => { d with
    fills := d.fills.filter fun x => decide (x.patch ≠ p)
    follow := d.follow.filter fun panel => s.panelUnfilled q panel }
  (((s.judgePlaces).judgeFilled q).each (List.range 4) fun s j => s.releaseQueued (4 * q + j)).poisonGoes

/-- A fill ends (Table 6.2): the patch's content stands in DRAM, and it is filled. -/
def State.endFill (s : State) (q : Nat) (f : Fill) (good : Option (List Host.Cell × BitVec 1024)) : State :=
  let s := ((s.fillData f.patch good).askRows f.patch 18 (if f.cls = .faultIn then 0 else 200000) true false).modPatch f.patch fun x => {
    x with unfilled := false }
  let s := if good.isSome then s else s.fillFailed q f.patch
  (if f.cls = .faultIn then s.faultInEnds q f else s).fillGone q f.patch

/-- FILL_COMPLETE (R151). -/
def execFillComplete (q : QuadIx) (patch : Nat) (s : State) : Result :=
  match (s.fillOf q patch).filter (fun f => decide (f.cls ≠ .merge)) with
  | none => .next s.begin
  | some f =>
    let s := s.begin
    .next (match s.ledger patch with
      | .none => s.endFill q f (some ([], noLines))
      | .revoked => s.endFill q f (some ([], noLines))
      | .failed => s.endFill q f none
      | .version _ _ _ _ =>
        if f.read = some false ∨ f.tag = some false then s.endFill q f none
        else if f.tag = some true then s.endFill q f (s.goodVersion patch)
        else s)

/-! ## Heals (R165 to R171) -/

/-- HEAL_WAIT in ns. -/
def State.healWait (s : State) : Nat := min 1000 (s.get Reg.HEAL_WAIT_US) * 1000

/-- A read is answered with poison (R165, R168, R172). -/
def State.answerPoison (s : State) (w : HealWait) : State :=
  s.sendDrs w.head w.ld w.tag zeroLine true

/-- The reads of a heal whose HEAL_WAIT has passed get poison; the others wait on (R165). -/
def State.healExpiry (s : State) (q : Nat) (h : Heal) : State :=
  let late (w : HealWait) : Bool := decide (w.arrival + s.healWait ≤ s.now)
  (s.each (h.waiting.filter late) fun s w => s.answerPoison w).modHeal q h.patch fun x => { x with
    waiting := x.waiting.filter fun w => !late w }

/-- HEAL_WAIT_EXPIRY (R165). -/
def execHealWaitExpiry (q : QuadIx) (patch : Nat) (s : State) : Result :=
  match s.healOf q patch with
  | none => .next s.begin
  | some h => .next (s.begin.healExpiry q h)

/-- One line of a patch taken from its version. -/
def State.healLine (s : State) (p ix : Nat) (content : List Host.Cell) (poison : BitVec 1024) : State :=
  let a := p * 65536 + 64 * ix
  let bytes := (content.filter fun c => decide (c.1 / 64 = ix)).map fun c => (c.1 % 64, c.2)
  ({ s with
      dram := dramLoad s.dram a 64 bytes
      poison := sparseUpd noLines s.poison p fun m => if poison.getLsbD ix then m ||| lineBit ix else m &&& ~~~ lineBit ix } : State).askPort 1 {
    id := 0, origin := 19, dpa := a, loc := s.locOf a, isWrite := true, deadline := s.now, hint := 2, entered := s.now }

/-- A heal fails (R168): its reads are answered with poison, its lines enter the poison list. -/
def State.healFailed (s : State) (q : Nat) (h : Heal) : State :=
  let s := s.each h.waiting fun s w => s.answerPoison w
  let s := s.each h.lines fun s a => s.addPoison a .internal
  (s.bump Reg.HEAL_COUNT_FAILED_VALUE 1).eventAt (srcPers q 3) 1 Sev.uncorrected Who.heal Access.flashRead 1 (h.patch * 65536)

/-- A read that waited for a heal is answered with what DRAM now holds. -/
def State.answerHealed (s : State) (w : HealWait) : State :=
  let bad := s.linePoisoned w.line
  let s := s.sendDrs w.head w.ld w.tag (dramLine s.dram w.line) bad
  if bad then s.addPoison w.line .internal else s

/-- A heal's lines are rewritten from the version (R166, R167). -/
def State.healGood (s : State) (h : Heal) (lines : List Nat) (content : List Host.Cell) (poison : BitVec 1024) : State :=
  let all := (h.lines.map lineIx ++ lines.filter fun i => decide (i < 1024)).eraseDups
  let s := s.each all fun s ix => s.healLine h.patch ix content poison
  let s := s.ueEvent (h.lines.headD (h.patch * 65536)) h.addrErr Sev.corrected Who.heal Access.read
  if h.waiting.isEmpty then s.bump Reg.HEAL_COUNT_LATE_VALUE 1
  else (s.each h.waiting fun s w => s.answerHealed w).bump Reg.HEAL_COUNT_IN_TIME_VALUE h.waiting.length

/-- A heal leaves its engine (R166, R168). -/
def State.endHeal (s : State) (q : Nat) (h : Heal) (lines : List Nat) (good : Option (List Host.Cell × BitVec 1024)) : State :=
  let s := s.modQuad q fun d => { d with heals := d.heals.filter fun x => decide (x.patch ≠ h.patch) }
  match good with
  | none => s.healFailed q h
  | some (content, poison) => s.healGood h lines content poison

/-- HEAL_COMPLETE (R165 to R168): a read whose HEAL_WAIT has passed has had poison. DESIGN CHOICE (the spec gives a filled DRY
patch with a NONE or REVOKED entry no heal): such a heal fails under R168. -/
def execHealComplete (q : QuadIx) (patch : Nat) (lines : List Nat) (s : State) : Result :=
  match s.healOf q patch with
  | none => .next s.begin
  | some h =>
    let s := s.begin.healExpiry q h
    let h := (s.healOf q patch).getD h
    .next (if h.read = some false ∨ h.tag = some false ∨ (s.versionAt patch).isNone then s.endHeal q h lines none
      else if h.tag = some true then s.endHeal q h lines (s.goodVersion patch)
      else s)

/-! ## Quadrant refill (R173) -/

/-- A patch with no version that the image holds: every line is poisoned. -/
def State.fillLost (s : State) (p : Nat) : State :=
  ((s.loadPatch p [] allLines).modPatch p fun x => { x with unfilled := false }).patchWritten p

/-- The entries of a quadrant's journal units that are not yet programmed, in sequence, and of its open one. -/
def State.journalAhead (s : State) (q : Nat) : List JEntry :=
  let unit (b : UnitBody) : Option (Nat × List JEntry) := match b with
    | .journal jq seq _ _ _ entries => if jq = q then some (seq, entries) else none
    | _ => none
  let ops := (List.range 32).flatMap fun i =>
    let d := s.die (32 * q + i)
    (d.asked ++ d.current.toList ++ d.suspended).filterMap fun o => match o.kind with
      | .program b _ => unit b
      | _ => none
  let m := (ops ++ (s.quad q).ledgerWait.filterMap unit).foldl (fun m e => sparsePlace (sparseErase m e.1) e.1 e.2) []
  m.flatMap (fun e => e.2) ++ (s.quad q).journal

/-- A quadrant's slice of the ledger read again from the image (R173, R192): the newest seal's MAP and pages, then every
journal unit since, and what the journal still has to program. -/
def State.reloadSlice (s : State) (q : Nat) (lost : List (Nat × Nat)) : State :=
  let ahead := s.journalAhead q
  let last := (s.quad q).journalSeq
  let s := s.modImage fun i => { i with ledger := i.ledger.filter fun e => decide (quadOf e.1 ≠ q) }
  let s := match s.image.seals.head? with
    | some r => s.loadMap q r lost
    | none => s
  (s.replayJournal q (s.replayList q last s.image.gen ((s.image.seals.head?.map Record.ckptSf).getD 0)) lost).replay q ahead

/-- A quadrant's slice of the ledger is loaded again, and its patches are unfilled. -/
def State.sliceUnfilled (s : State) (q : Nat) (unreadable : List (Nat × Nat)) : State :=
  let s := s.reloadSlice q unreadable
  let s := { s with patches := s.patches.filter fun e => decide (quadOf e.1 ≠ q) }
  s.modQuad q fun d => { d with
    dflt := { unfilled := true }, railLost := false, panelMap := [], setting := [], panel := none, reading := none, fillPtr := 0 }

/-- The refill of a quadrant shows in the registers. -/
def State.refillShown (s : State) (q : Nat) : State :=
  let s := s.put Reg.RESTORE_STATUS_REFILL_Q (s.get Reg.RESTORE_STATUS_REFILL_Q ||| 2 ^ q)
  let s := (s.put Reg.RESTORE_STATUS_PHASE 6).putB Reg.PERS_STATUS_RESTORE_PENDING true
  (s.event (srcPers q 2) 4 Sev.note).judgeFilled q

/-- QUADRANT_REFILL: the rail is good again and the quadrant's sub-channels are trained. -/
def State.quadrantRefill (s : State) (q : Nat) (unreadable : List (Nat × Nat)) : State :=
  let lost := (s.patches.filter fun e => decide (quadOf e.1 = q) && e.2.lost).map (·.1)
  ((s.sliceUnfilled q unreadable).each lost State.fillLost).refillShown q

def execQuadrantRefill (q : QuadIx) (unreadable : List (Nat × Nat)) (s : State) : Result :=
  occurs ((s.quad q).railLost && s.flag Reg.PERS_STATUS_MEDIA_READY && !s.flag Reg.PERS_STATUS_SAVE_ACTIVE &&
    (List.range 4).all fun j => (s.sc (4 * q.val + j)).ready) s fun s => s.quadrantRefill q unreadable

end Sys2Proof.Machine
end

