-- ==== Sys2Proof/Machine/Power.lean ====
section
/-!
DEFINITION. Sys2Proof/Machine/Power.lean: the operations that the save, the sequencer, the gauge and the group share: power
states, the group fault line, learn and charge releases, the off handshake, power-down, save triggers (05_save,
14_power_sequencing, 19_life_cycle).
-/
namespace Sys2Proof.Machine

/-! ## Power state (Tables 14.11, 20.x) -/

/-- SEQ_STATUS.STATE of a power state, where it shows one. -/
def Power.seqState : Power → Option Nat
  | .powerUp => some 1
  | .run => some 2
  | .warmReset => some 3
  | .powerDown => some 4
  | _ => none

def State.setPower (s : State) (p : Power) : State :=
  let s := s.modSeq fun x => { x with power := p }
  match p.seqState with
  | some n => s.put Reg.SEQ_STATUS_STATE n
  | none => s

/-- Input is present: at the level of R140 and PFW_N released. -/
def State.inputPresent (s : State) : Bool := s.pins.inputOk && s.pins.pfwN

/-- SAVE_VIN.THRESH_MV within its limits, and the level at which input counts as returned. -/
def State.vinLow (s : State) : Nat := max 500 (min 1200 (s.get Reg.SAVE_VIN_THRESH_MV))
def State.vinBack (s : State) : Nat := s.vinLow + max 5 (min 100 (s.get Reg.SAVE_VIN_HYST_MV))

/-! ## The group (R440, R442, R444) -/

/-- The controller speaks Burnor: it has a position, or is the master, and is not standalone. -/
def State.inGroup (s : State) : Bool :=
  decide (s.get Reg.SEQ_GROUP_STATUS_POSITION ≠ 63) && !s.flag Reg.SEQ_GROUP_STATUS_STANDALONE
def State.isMaster (s : State) : Bool := s.flag Reg.SEQ_GROUP_STATUS_MASTER

/-- A rail that drives GRP_FAULT_N (R442): its GF bit is set and it is faulted, failed or held off. -/
def State.railHoldsGf (s : State) : Bool :=
  (List.range 32).any fun k => s.railPresent k && s.flag (Reg.RAIL_CFG0_GF k) && decide (4 ≤ s.get (Reg.RAIL_STATUS_STATE k))

/-- GRP_FAULT_N as this controller drives it, and SEQ_STATUS.GF_OUT (R442). -/
def State.judgeGf (s : State) : State :=
  let low := (s.flag Reg.PERS_STATUS_SAVE_ACTIVE && s.flag Reg.SEQ_GROUP_GF_ON_SAVE) || s.railHoldsGf || s.flag Reg.EVT_STATUS_GF_HELD
  (s.modPins fun p => { p with grpFaultOut := low, grpDrove := if low || p.grpFaultOut then some s.frame else p.grpDrove }).putB
    Reg.SEQ_STATUS_GF_OUT low

/-- The master gives its freed learn grant to the pending position that R29 and R30 choose (R444). -/
def State.learnGrantNext (s : State) : State :=
  match s.group.learner, grant (s.ptr 0 32) 32 (s.group.learnPend.map fun p => (p, false, 0)) with
  | none, some p =>
    let s := (s.modGroup fun g => { g with learner := some p, learnPend := setErase g.learnPend p }).put Reg.SEQ_GROUP_STATUS_LEARNER p
    if p = 0 then ((s.modGauge fun g => { g with learnGrant := true }).putB Reg.LEARN_STATUS_PERMIT true).putB
      Reg.SEQ_GROUP_STATUS_LEARN_PERMIT true
    else s.emit (.burnor 0x08 (some p) [])
  | _, _ => s

/-- A position's learn grant ends at the master. -/
def State.learnGrantEnds (s : State) (p : Nat) : State :=
  let s := s.modGroup fun g => { g with learnPend := setErase g.learnPend p, learner := if g.learner = some p then none else g.learner }
  (if s.group.learner.isNone then s.put Reg.SEQ_GROUP_STATUS_LEARNER 63 else s).learnGrantNext

/-- How many charge grants the master has out, and whether another may be given (R444). -/
def State.chgGrants (s : State) : Nat := (s.group.members.filter fun e => e.2.chgGrant).length
def State.chgRoom (s : State) : Bool :=
  decide (s.get Reg.SEQ_GROUP_CHG_MAX = 0) || decide (s.chgGrants < s.get Reg.SEQ_GROUP_CHG_MAX)

def State.modMember (s : State) (p : Nat) (f : Member → Member) : State :=
  s.modGroup fun g => { g with members := sparseUpd {} g.members p f }

/-- The master gives freed charge grants to pending positions (R444). -/
def State.chgGrantNext (s : State) : Nat → State
  | 0 => s
  | n + 1 =>
    let pend := (s.group.members.filter fun e => e.2.chgPend).map fun e => (e.1, false, 0)
    if !s.chgRoom then s else
    match grant (s.ptr 0 32) 32 pend with
    | none => s
    | some p =>
      let s := s.modMember p fun m => { m with chgGrant := true, chgPend := false }
      let s := s.put Reg.SEQ_GROUP_STATUS_GRANTS s.chgGrants
      let s := if p = 0 then (s.modGauge fun g => { g with chgGrant := true }).putB Reg.SEQ_GROUP_STATUS_CHG_PERMIT true
        else s.emit (.burnor 0x05 (some p) [])
      s.chgGrantNext n

def State.chgGrantEnds (s : State) (p : Nat) : State :=
  let s := s.modMember p fun m => { m with chgGrant := false, chgPend := false }
  (s.put Reg.SEQ_GROUP_STATUS_GRANTS s.chgGrants).chgGrantNext 32

/-! ## Charge and learn (R396, R402, R403) -/

/-- CHG_EN driven, and PACK_STATE.CHG. -/
def State.driveChg (s : State) (b : Bool) : State := (s.modPins fun p => { p with chgEn := b }).putB Reg.PACK_STATE_CHG b

/-- The pack's state (Table 13.2) as the gauge forms it; PACK_STATE shows it from the next boundary (R15, R16). -/
def State.setPack (s : State) (n : Nat) : State := s.modTick fun t => { t with formPack := n }
def State.packNow (s : State) : Nat := s.tick.formPack

/-- A learn's end (R402, R403) with a RESULT and NS; a learn that is only due keeps waiting. -/
def State.learnEnd (s : State) (result : Nat) (ns : Bool) : State :=
  let s := s.modPins fun p => { p with learnLoad := 0 }
  let ran := decide (s.get Reg.LEARN_STATUS_PHASE = 2)
  let s := ((s.put Reg.LEARN_STATUS_RESULT result).putB Reg.LEARN_STATUS_NS ns).put Reg.LEARN_STATUS_PHASE (if ran then 3 else 0)
  let s := if ns then s else s.event 0x479 (if result = 1 then 1 else 2) Sev.note
  let s := if s.packNow = 5 then s.setPack 4 else s
  let again := if result = 1 then none else some (s.now + sec 86400 * (if ns then s.get Reg.LEARN_CFG_DAYS else 1))
  let s := s.modGauge fun g => { g with learnGrant := false, learnDueAt := none, learnNext := again, duty := 0, pulseUntil := 0 }
  let s := (s.putB Reg.LEARN_STATUS_PERMIT false).putB Reg.SEQ_GROUP_STATUS_LEARN_PERMIT false
  if !s.inGroup then s
  else if s.isMaster then s.learnGrantEnds 0
  else s.emit (.burnor 0x09 none [s.get Reg.SEQ_GROUP_STATUS_POSITION, result])

/-- A learn that is discharging is void (R402). -/
def State.learnVoid (s : State) (result : Nat) : State :=
  if s.get Reg.LEARN_STATUS_PHASE = 2 then s.learnEnd result false else s

/-- The log writer has a first-failure record to program (R435). -/
def State.logWaits (s : State) : Bool := s.seq.incident.any fun i => !i.recorded && decide (i.frame < s.frame)

/-- The SPI port is a requester's (R437): the log writer asks at urgency 7 while a record waits, the learned writer while a write is
due, and the one that the command is for. -/
def State.spiGrants (s : State) (pos : Nat) : Bool :=
  let asks : List (Nat × Bool × Nat) :=
    (if s.logWaits then [(1, false, 7)] else []) ++ (if s.flag Reg.GAUGE_STATUS_WRITE_PENDING && decide (pos ≠ 2) then [(2, false, 0)] else [])
  decide (grant (s.ptr 0 4) 4 (asks ++ if pos = 1 then [] else [(pos, false, 0)]) = some pos)

/-- A learned write is wanted (R406); while one runs, another follows it. -/
def State.wantLearned (s : State) : State :=
  s.putB Reg.GAUGE_STATUS_WRITE_PENDING true

/-! ## The off handshake (R547 to R551) -/

/-- Group B's pre-ship step (R550): a running learn is void, CHG_EN released, the pre-ship learned write wanted. -/
def State.shipPrepare (s : State) : State :=
  let s := (s.learnVoid 7).driveChg false
  ((s.modGauge fun g => { g with shipWrite := true }).wantLearned).putB Reg.PERS_OFF_SHIP true

/-- A handshake closes without completing (R551): OFF_ABANDONED for a save of CAUSE 2, 4 or 6, and the off request with its ship flag
stays latched where the course allows. -/
def State.abandonHandshake (s : State) (latch raise : Bool) : State :=
  match s.shake with
  | none => s
  | some _ =>
    let s := { s with shake := none }
    let s := (s.putB Reg.PERS_OFF_PENDING false).put Reg.PERS_OFF_ENDED_BY 4
    let s := if raise then s.event 0x4AA 3 Sev.note else s
    (s.modSeq fun x => { x with offLatch := latch }).putB Reg.SEQ_STATUS_OFF_LATCH latch

/-! ## Self-refresh (R240 to R246) -/

def State.inSelfRefresh (s : State) (n r : Nat) : Bool := (BitVec.ofNat 8 (s.get (Reg.SC_STATUS_SR_RANKS n))).getLsbD r

/-- SC_OP.RUN_OP: 2 and 3 act as 1. -/
def State.runOp (s : State) (n : Nat) : Nat := min 1 (s.get (Reg.SC_OP_RUN_OP n))

/-- A save commit reaches the units at the boundary of the present frame and has not been taken (R17). -/
def State.commitDue (s : State) : Bool := s.save.committed && !s.save.arrived && decide (s.save.commitAt + 1 ≤ s.frame)

def State.putSr (s : State) (n r : Nat) (b : Bool) : State :=
  let v := s.get (Reg.SC_STATUS_SR_RANKS n)
  s.put (Reg.SC_STATUS_SR_RANKS n) (if b then v ||| 2 ^ r else v - (v &&& 2 ^ r))

/-- The rows of a rank close. -/
def State.closeRank (s : State) (n r : Nat) : State := s.modSc n fun x => { x with banks := x.banks.filter fun e => decide (e.1 / 32 ≠ r) }

/-- Self-refresh exit of a rank: its postponed count is 0 (R240). -/
def State.exitSr (s : State) (n r : Nat) : State :=
  if !s.inSelfRefresh n r then s else
  ((s.putSr n r false).modSc n fun x => { x with refDebt := x.refDebt.filter fun e => decide (e.1 / 64 ≠ r) }).dramOut n 8 r 0 0

/-- A change in state 1 or 2 ends at the current operating point (R243, R244). -/
def State.dropChange (s : State) (n : Nat) : State :=
  let s := s.each (List.range 8) fun s r => s.exitSr n r
  (s.put (Reg.SC_STATUS_STATE n) 0).modSc n fun x => x.standbyAt2 (s.get (Reg.SC_STATUS_OP n))

/-- The present ranks of a sub-channel, as bits. -/
def State.rankBits (s : State) (n : Nat) : Nat :=
  (List.range 8).foldl (fun m r => if s.flag (Reg.SC_RANK_PRESENT n r) then m + 2 ^ r else m) 0

/-- A sub-channel's DRAM is held in self-refresh (state 5; R141, R432). -/
def State.holdRefresh (s : State) (n : Nat) : State :=
  ((s.put (Reg.SC_STATUS_STATE n) 5).put (Reg.SC_STATUS_SR_RANKS n) (s.rankBits n)).modSc n fun x => { x with banks := [] }

/-- DRAM that holds content is put in self-refresh. -/
def State.holdDram (s : State) : State :=
  s.each (List.range 16) fun s n => if (s.sc n).ready && decide (s.get (Reg.SC_STATUS_STATE n) ≠ 6) then s.holdRefresh n else s

/-! ## Power-down (R428) -/

/-- The present main rails of a stage that are still enabled. -/
def State.stageRails (s : State) (stage : Nat) : List Nat :=
  (List.range 32).filter fun k => decide (4 ≤ k) && s.flag (Reg.RAIL_CFG0_PRESENT k) && decide (s.get (Reg.RAIL_STATUS_STAGE k) = stage) &&
    (s.rail k).en

/-- The highest stage of which a rail is enabled, at most 8; 0 when none is. -/
def State.topStage (s : State) : Nat := (List.range 9).foldl (fun m st => if 1 ≤ st ∧ s.stageRails st ≠ [] then st else m) 0

/-- A rail's EN is released. -/
def State.railOff (s : State) (k : Nat) : State :=
  (s.modRail k fun r => { r with en := false, goodSince := none, retryDue := none }).put (Reg.RAIL_STATUS_STATE k) 0

/-- POWER_DOWN_START (R428, R141, R609): DRAM goes to self-refresh, RESET_OUT_N is asserted and the highest stage released;
pending retries are dropped, and a run that is open is closed. -/
def State.beginPowerDown (s : State) (why : LastDown) : State :=
  if s.seq.power = .powerDown ∨ s.seq.power = .off then s else
  let st := s.topStage
  let s := s.holdDram.modImage fun i => { i with runOpen := false }
  let s := (s.setPower .powerDown).modPins fun p => { p with resetOutN := false, wpN := List.replicate 4 false }
  let s := s.modSeq fun x => { x with downCause := why, downAt := s.now }
  let s := (s.putB Reg.SEQ_STATUS_RAILS_UP false).put Reg.SEQ_STATUS_STAGE st
  let s := s.each (List.range 32) fun s k => s.modRail k fun r => { r with retryDue := none }
  let s := s.modSeq fun x => { x with offLatch := false, offWaiting := false, runs := [] }
  let s := (s.putB Reg.SEQ_STATUS_OFF_LATCH false).arm false
  s.each (s.stageRails st) fun s k => s.railOff k

/-! ## Save triggers (R112, R113, R608) -/

/-- The bit of LATE_TRIGGERS of a cause. -/
def lateBit (cause : Nat) : Nat := 2 ^ (cause - 1)

/-- A trigger of Table 5.1 while save triggers are armed or a save is on its way. -/
def State.saveTrigger (s : State) (cause : Nat) : State :=
  if s.flag Reg.PERS_STATUS_SAVE_ACTIVE then
    s.put Reg.SAVE_STATUS_LATE_TRIGGERS (s.get Reg.SAVE_STATUS_LATE_TRIGGERS ||| lateBit cause)
  else match s.save.frame0 with
    | some f =>
      if f = s.frame ∧ ¬ s.save.enabled then s.modSave fun x => { x with causes := setInsert x.causes cause }
      else s.modSave fun x => { x with late := setInsert x.late cause }
    | none =>
      let s := s.modSave fun x => { x with
        frame0 := some s.frame, causes := [cause], late := [], phaseBefore := s.get Reg.SAVE_STATUS_PHASE
        chgBefore := s.pins.chgEn, learnBefore := s.pins.learnLoad, enabled := false, committed := false, arrived := false
        energy := 0, patches := 0 }
      s.put Reg.SAVE_STATUS_PHASE 1

/-- A trigger detected: a save while triggers are armed, else what R608 states. Causes 3 and 5 have their own course when
unarmed, which their callers take. -/
def State.trigger (s : State) (cause : Nat) : State :=
  if s.flag Reg.SEQ_STATUS_ARMED || s.flag Reg.PERS_STATUS_SAVE_ACTIVE || s.save.frame0.isSome then s.saveTrigger cause
  else if cause = 2 then
    if s.seq.power = .off ∨ s.seq.vinLowAt.isSome then s
    else (s.modSeq fun x => { x with vinLowAt := some s.frame }).event 0x4A0 2 Sev.note
  else if cause = 6 then s.event 0x4ED 5 Sev.note
  else s

/-! ## Paths and windows (R553, R564, Tables 20.1 and 20.6) -/

/-- The main domain is off or held in reset: the AON copy serves TW0 (R457, Table 20.9). -/
def State.mainOff (s : State) : Bool := decide (s.seq.power = .off) || !s.pins.porstN

/-- Step 3 of a warm reset runs (R432, R545): the AON copy serves TW0 (Table 15.9). -/
def State.warmStep3 (s : State) : Bool := decide (s.seq.power = .warmReset) && !s.seq.warmDrain

/-- The AON copy serves TW0. -/
def State.aonServes (s : State) : Bool := s.mainOff || s.warmStep3

def State.isSealed (s : State) : Bool := s.flag Reg.CFG_STATUS_SEALED

def State.inRecovery (s : State) : Bool := decide (s.seq.power = .recovery)

/-- A head has a management function: an enabled LD with MGMT (R323). -/
def State.headMgmt (s : State) (h : Nat) : Bool :=
  (List.range 16).any fun k => s.ldOn k && decide (s.ldHead k = h) && s.flag (Reg.LD_CFG_MGMT k)

/-- Whether a path is served (Table 20.1, R565). -/
def State.served (s : State) (p : Nat) : Bool :=
  match p with
  | 0 => !s.mainOff && s.isSealed && !s.inRecovery && s.flag (Reg.FAB_STATUS_LINK_UP 0) && s.headMgmt 0
  | 1 => !s.mainOff && s.isSealed && !s.inRecovery && s.flag (Reg.FAB_STATUS_LINK_UP 1) && s.headMgmt 1
  | 2 => true
  | 3 => !s.mainOff && s.cluster.running
  | _ => !s.mainOff && !s.isSealed

/-- Offsets that the boot ROM serves in RECOVERY (R565). -/
def recoveryOffset (off : Nat) : Bool := decide (off < 0x010000) || decide (0x090000 ≤ off ∧ off < 0x0B0000)

/-- A window of Table 20.6 discards a path's write to an offset, whatever the register's access types. -/
def State.writeShut (s : State) (p off : Nat) : Bool :=
  if s.mainOff || (decide (p = 2) && s.aonServes) then decide (off ≠ 0x07000C)
  else
    (!s.isSealed && !s.inRecovery && decide (p ≠ 4) && !(decide (p = 3) && decide (off = 0x0A0004))) ||
    (s.flag Reg.PERS_STATUS_SAVE_ACTIVE && decide (0x030000 ≤ off ∧ off < 0x050000)) ||
    (s.inRecovery && !recoveryOffset off)

/-- A path's write to an offset reaches its register. -/
def State.reaches (s : State) (p off : Nat) : Bool := s.served p && !s.writeShut p off

/-! ## The end of the off handshake (R548) -/

/-- The waiting commands that come in the present frame. -/
def State.frameMates (s : State) : List Instr :=
  s.pending.takeWhile fun c => match c with
    | .frameBoundary .. => false
    | _ => true

/-- A waiting command of the present frame acknowledges the handshake. -/
def State.ackComes (s : State) : Bool :=
  s.frameMates.any fun c => match c with
    | .offAck path => s.reaches path 0x030018
    | _ => false

/-- The links that were up when the handshake opened are down, or the last goes down in the present frame. -/
def State.linksGo (s : State) (h : Handshake) : Bool :=
  h.linksUp.all fun k => !s.flag (Reg.FAB_STATUS_LINK_UP k) || s.frameMates.any fun c => match c with
    | .linkDown head _ => decide (head.val = k)
    | _ => false

/-- The handshake completes once a condition of group A was met and the pre-ship write has ended: frame 0 of a save. -/
def State.shakeEnds (s : State) : State :=
  match s.shake with
  | none => s
  | some h =>
    match h.met, h.shipEnded with
    | some c, true => ((({ s with shake := none } : State).putB Reg.PERS_OFF_PENDING false).put Reg.PERS_OFF_ENDED_BY c).trigger 1
    | _, _ => s

/-- A condition of group A is met: 1 acknowledged, 2 links down, 3 WAIT_S; of those met in one frame the first in this order counts
(Table 19.7). -/
def State.shakeMet (s : State) (c : Nat) : State :=
  match s.shake with
  | none => s
  | some h =>
    if h.met.isSome then s.shakeEnds
    else if (decide (2 ≤ c) && s.ackComes) || (decide (c = 3) && s.linksGo h) then s else
    let s := { s with shake := some { h with met := some c } }
    (if c = 3 then (s.putB Reg.PERS_OFF_TIMEOUT true).event 0x4AA 2 Sev.note else s).shakeEnds

/-- OFF_HANDSHAKE_OPEN (R547). -/
def State.openHandshake (s : State) (ship : Bool) : State :=
  let up := [0, 1].filter fun h => s.flag (Reg.FAB_STATUS_LINK_UP h)
  let s := { s with shake := some { openAt := s.now, linksUp := up, shipEnded := !ship } }
  let s := ((s.putB Reg.PERS_OFF_PENDING true).putB Reg.PERS_OFF_SHIP ship).event 0x4AA 1 Sev.note
  let s := (s.modSeq fun x => { x with offLatch := false }).putB Reg.SEQ_STATUS_OFF_LATCH false
  let s := if ship then s.shipPrepare else s
  if up = [] then s.shakeMet 2 else s

end Sys2Proof.Machine
end

