-- ==== Sys2Proof/Machine/Heads.lean ====
section
/-!
DEFINITION. Sys2Proof/Machine/Heads.lean: the two fabric heads (03_persistence_contract, 11_fabric_ports): receiving writes
and reads, holds at level 3, metering, DevLoad and credits, links.
-/
namespace Sys2Proof.Machine

/-! ## Receiving a request (R149, R319, R324, R325, R327) -/


/-- A request that is answered without effect: a write with a completion, a read with poison (R149, R319). -/
def State.turnAway (s : State) (r : HostReq) (wr : Bool) : State :=
  if wr then s.sendNdr r.head r.ld r.tag else s.sendDrs r.head r.ld r.tag zeroLine true

/-- HOST_EARLY_ACCESS, once per start (R149). An LD that reports Not Ready is answered in the same way without the event
(R337, R338). -/
def State.earlyAccess (s : State) (r : HostReq) (wr : Bool) : State :=
  let h := r.head.val
  let s := if (s.head h).mediaReady || (s.head h).earlyRaised then s else
    (s.modHead h fun x => { x with earlyRaised := true }).eventAt (srcHead h 4) 1 Sev.note r.ld
      (if wr then Access.write else Access.read) 0 0
  s.turnAway r wr

/-- LD_DECODE_ERR, once per frame and LD (R319). -/
def State.decodeError (s : State) (r : HostReq) (wr : Bool) : State :=
  let h := r.head.val
  let s := s.bump (Reg.FAB_COUNT_DECODE_ERR_COUNT h) 1
  let s := if (s.head h).decodeRaised.contains r.ld then s else
    (s.modHead h fun x => { x with decodeRaised := setInsert x.decodeRaised r.ld }).eventAt (srcHead h 5) 1 Sev.note r.ld
      (if wr then Access.write else Access.read) 0 0
  s.turnAway r wr

/-- A request is metered (R324): whether it is over its LD's limit, and the bucket after it. The bucket counts 1/1000
byte. -/
def State.meter (s : State) (k : Nat) : Bool × State :=
  if 64000 ≤ (s.ld k).bucket then (false, s.modLd k fun l => { l with bucket := l.bucket - 64000, reqs := l.reqs + 1 })
  else (true, (s.modLd k fun l => { l with reqs := l.reqs + 1, overs := l.overs + 1 }).bump (Reg.LD_STATUS_OVER k) 1)

/-- LD_QOS_TARGET within its limits. -/
def State.qosTarget (s : State) (k : Nat) : Nat := max 200 (min 50000 (s.get (Reg.LD_QOS_TARGET_NS k)))

/-- The deadline of an LD's request that comes now (R232, R325). -/
def State.deadline (s : State) (k : Nat) (wr overRate : Bool) : Nat :=
  s.now + (if wr then 20000 else if overRate then 50000 else s.qosTarget k)

/-- A request enters the head's pool; the pools' peak fills are kept for the DevLoad (R326). -/
def State.pool (s : State) (h : Nat) (r : HReq) : State :=
  (s.modHead h fun x =>
    let x := { x with reqs := x.reqs ++ [r] }
    let n := (x.reqs.filter fun y => y.write.isSome).length
    { x with peakRwd := max x.peakRwd n, peakReq := max x.peakReq (x.reqs.length - n) }).modFabric
      fun f => { f with nextId := f.nextId + 1 }

def State.modReq (s : State) (h id : Nat) (f : HReq → HReq) : State :=
  s.modHead h fun x => { x with reqs := x.reqs.map fun r => if r.id = id then f r else r }

/-! ## Completing a write (R51, R55, R82, R163, R172, R330) -/

/-- A write's completion is returned, unless its link went down, and its patch's state is updated. -/
def State.completeWrite (s : State) (h : Nat) (r : HReq) : State :=
  let s := s.modReq h r.id fun x => { x with done := true, stage := .ready }
  (if r.orphan then s else s.sendNdr h r.ld r.tag).writeApplied r.dpa r.write

/-- A write to a quadrant whose DRAM rail is lost (R172): completed, discarded, its line listed. -/
def State.lostWrite (s : State) (h : Nat) (r : HReq) : State :=
  let s := s.modHead h fun x => { x with reqs := x.reqs.filter fun y => decide (y.id ≠ r.id) }
  (if r.orphan || r.done then s else s.sendNdr h r.ld r.tag).addPoison (lineOf r.dpa) .internal


/-- A write free of every hold of R104: it completes, waits for its patch's fill (R163), or waits behind an earlier write to its
line that does. -/
def State.admitWrite (s : State) (h : Nat) (r : HReq) : State :=
  if (s.quad (quadOf (patchOf r.dpa))).railLost then s.lostWrite h r
  else if s.waitsFill r.dpa then
    let s := s.modReq h r.id fun x => { x with stage := .ready, fillWait := true }
    (if r.stage = .held then s else s.bump (Reg.FAB_COUNT_HELD_COUNT h) 1).faultIn (patchOf r.dpa)
  else if s.undoneBefore h r.id r.dpa then s.modReq h r.id fun x => { x with stage := .ready }
  else s.completeWrite h r


def State.hostWrite (s : State) (r : HostReq) (d : WriteData) : State :=
  let h := r.head.val
  if !(s.head h).mediaReady then s.earlyAccess r true
  else if !s.decodes h r.ld r.addr then s.decodeError r true
  else if s.ldNotReady r.ld then s.earlyAccess r true
  else
    let dpa := lineOf (s.ldBase r.ld + r.addr)
    let (overRate, s) := s.meter r.ld
    let s := if d.poison then s.eventAt (srcHead h 6) 1 Sev.note r.ld Access.write 1 dpa else s
    let x : HReq := {
      id := s.fabric.nextId, ld := r.ld, tag := r.tag, dpa := dpa, write := some d, arrival := s.now
      deadline := s.deadline r.ld true overRate }
    if s.heldBefore h dpa then
      (s.pool h { x with stage := .held, heldAt := s.now }).bump (Reg.FAB_COUNT_HELD_COUNT h) 1
    else if s.level = 3 && s.persistent dpa && !(s.quad (quadOf (patchOf dpa))).railLost then s.pool h { x with stage := .probing }
    else (s.pool h x).admitWrite h x

/-- HOST_WRITE (R51, R82, R104, R105, R149, R163, R172, R319, R324, R330). -/
def execHostWrite (r : HostReq) (d : WriteData) (s : State) : Result :=
  occurs (s.receives r.head true) s fun s => ((s.atCycle r.cyc).useCredit r.head true).hostWrite r d

def State.hostRead (s : State) (r : HostReq) : State :=
  let h := r.head.val
  if !(s.head h).mediaReady then s.earlyAccess r false
  else if !s.decodes h r.ld r.addr then s.decodeError r false
  else if s.ldNotReady r.ld then s.earlyAccess r false
  else
    let dpa := lineOf (s.ldBase r.ld + r.addr)
    let (overRate, s) := s.meter r.ld
    if (s.quad (quadOf (patchOf dpa))).railLost then s.turnAway r false
    else
      let wait := s.waitsFill dpa
      let s := s.pool h {
        id := s.fabric.nextId, ld := r.ld, tag := r.tag, dpa := dpa, arrival := s.now, deadline := s.deadline r.ld false overRate
        fillWait := wait }
      if wait then s.faultIn (patchOf dpa) else s

/-- HOST_READ (R12, R149, R158, R172, R319, R324, R325). -/
def execHostRead (r : HostReq) (s : State) : Result :=
  occurs (s.receives r.head false) s fun s => ((s.atCycle r.cyc).useCredit r.head false).hostRead r

/-! ## Holds at level 3 (R104 to R106, R328) -/

/-- The answer of a probe (R104, R106): a completed write that reaches the patch in the same cycle applies first. -/
def State.probeAnswer (s : State) (head id : Nat) (r : HReq) (written : List Nat) : State :=
  if (s.patch (patchOf r.dpa)).st.exposed || written.contains (patchOf r.dpa) then s.admitWrite head r
  else (s.modReq head id fun x => { x with stage := .held, heldAt := s.now }).bump (Reg.FAB_COUNT_HELD_COUNT head) 1

/-- STATE_PROBE_ANSWER (R104): the quadrant answers the probe of a write. The next `mates` commands of the queue come in its
CCLK cycle; a probe to which the wet cache port grants another requester (R90) waits. -/
def execStateProbeAnswer (head : HeadIx) (id : Nat) (mates : Nat) (s : State) : Result :=
  match (s.head head).reqs.find? fun r => decide (r.id = id) && decide (r.stage = .probing) with
  | none => .next s.begin
  | some r => occurs (s.wetGrants (quadOf (patchOf r.dpa)) 4 mates) s fun s => s.probeAnswer head id r (s.matesWrite mates)

/-- Writes of a head that the level holds. -/
def State.heldWrites (s : State) (h : Nat) : List HReq := (s.head h).reqs.filter fun r => r.write.isSome && decide (r.stage = .held)

/-- Escalation ends when no write of the head is held (R328). -/
def State.escalationEnds (s : State) (h : Nat) : State :=
  if s.flag (Reg.FAB_LOAD_ESCALATED h) && (s.heldWrites h).isEmpty then
    (s.putB (Reg.FAB_LOAD_ESCALATED h) false).put (Reg.FAB_LOAD_RWD_WITHHELD h)
      (if s.flag Reg.EXPO_LEVEL_PACK_HOLD then 192 else 192 * s.get Reg.EXPO_LEVEL_WITHHELD / 256)
  else s

/-- HELD_WRITE_RELEASE (R104, R105): in a frame below level 3 the held writes leave in the order of their acceptance; those
that stand in write queues, their fills having ended at level 3, complete first. -/
def execHeldWriteRelease (head : HeadIx) (s : State) : Result :=
  occurs (decide (s.level < 3)) s fun s =>
    ((s.each (List.range 16) State.releaseQueued).each (s.heldWrites head) fun s r => s.admitWrite head r).escalationEnds head

/-- HOLD_ESCALATE (R328). -/
def execHoldEscalate (head : HeadIx) (s : State) : Result :=
  let ms' := max 10 (min 1000 (s.get Reg.FAB_CTRL_HOLD_ESC_MS))
  occurs (!s.flag (Reg.FAB_LOAD_ESCALATED head) && (s.heldWrites head).any fun r => decide (r.heldAt + ms ms' ≤ s.now)) s fun s =>
    ((s.keepCredits.putB (Reg.FAB_LOAD_ESCALATED head) true).put (Reg.FAB_LOAD_RWD_WITHHELD head) 192).event (srcHead head 7) 1 Sev.degraded

/-! ## Per frame (R319, R324, R326) -/

/-- The queue DevLoad of a peak fill of a pool (Table 11.5). -/
def fillLoad (peak size : Nat) : Nat :=
  if 4 * peak < size then 0 else if 2 * peak < size then 1 else if 4 * peak < 3 * size then 2 else 3


/-- What each head does at a frame boundary. DEVLOAD_Q shows the greatest value of the head's LDs. -/
def State.headFrame (s : State) : State :=
  let s := s.each (List.range 16) fun s k => s.modLd k fun l => { l with
    bucket := min (max 4 (s.get (Reg.LD_BW_LIMIT_BURST_KIB k)) * 1024000) (l.bucket + max 1 (s.get (Reg.LD_BW_LIMIT_RATE k)) * 102400)
    prevReqs := l.reqs, prevOver := l.overs, reqs := 0, overs := 0 }
  s.each [0, 1] fun s h =>
    let x := s.head h
    let pools := max (fillLoad x.peakReq 256) (fillLoad x.peakRwd 192)
    let lds := (List.range 16).filter fun k => s.ldOn k && decide (s.ldHead k = h)
    let q := lds.foldl (fun m k => max m (meterLoad (s.ld k).prevReqs (s.ld k).prevOver)) pools
    let n := (x.reqs.filter fun r => r.write.isSome).length
    (s.modHead h fun x => { x with peakRwd := n, peakReq := x.reqs.length - n, decodeRaised := [] }).put (Reg.FAB_LOAD_DEVLOAD_Q h) q

/-! ## Global Persistent Flush (R60) -/

/-- Completed writes that have not entered DRAM, by identity. -/
def State.unflushed (s : State) : List Nat :=
  [0, 1].flatMap (fun k => ((s.head k).reqs.filter HReq.done).map HReq.id) ++
  s.scs.flatMap fun x => (x.2.writeQ.filter fun e => e.head.isSome && e.done).map QEntry.id

/-- GPF Phase 2 is answered once every write completed before it stands in DRAM. -/
def State.judgeGpf (s : State) : State :=
  s.each [0, 1] fun s h => match (s.head h).gpf with
    | none => s
    | some ids => if ids.any s.unflushed.contains then s else (s.modHead h fun x => { x with gpf := none }).emit (.gpf h 2)

/-! ## Links (R314 to R316, R547, R548) -/

/-- Reads of a head are dropped wherever they wait, answered by no one (R316). -/
def State.dropReads (s : State) (h : Nat) : State :=
  let s := s.modHead h fun x => { x with reqs := x.reqs.filter fun r => r.write.isSome }
  let s := s.each (List.range 16) fun s n => s.modSc n fun x => { x with
    readQ := x.readQ.filter fun e => decide (e.head ≠ some h), inFlight := x.inFlight.filter fun f => decide (f.entry.head ≠ some h) }
  s.each (List.range 4) fun s q => s.modQuad q fun d => { d with
    heals := d.heals.map fun x => { x with waiting := x.waiting.filter fun w => decide (w.head ≠ h) } }

/-- A head's link goes down (R316): its reads are discarded, its writes drain without a completion. -/
def State.linkLost (s : State) (h : Nat) : State :=
  if !s.flag (Reg.FAB_STATUS_LINK_UP h) then s else
  let s := ((s.putB (Reg.FAB_STATUS_LINK_UP h) false).put (Reg.FAB_STATUS_SPEED h) 0).put (Reg.FAB_STATUS_WIDTH h) 0
  let s := (s.dropReads h).modHead h fun x => { x with
    reqs := x.reqs.map (fun r => { r with orphan := true }), gpf := none, reqCredit := 0, rwdCredit := 0 }
  let s := s.each (List.range 16) fun s n => s.modSc n fun x => { x with
    writeQ := x.writeQ.map fun e => if e.head = some h then { e with orphan := true } else e }
  let s := s.event (srcHead h 0) 3 Sev.note
  match s.shake with
  | some k => if k.linksUp.all fun h => !s.flag (Reg.FAB_STATUS_LINK_UP h) then s.shakeMet 2 else s
  | none => s

/-- LINK_DOWN (R316): the link goes down, or PERST_N of the head is asserted. -/
def execLinkDown (head : HeadIx) (perst : Bool) (s : State) : Result :=
  let s := s.begin
  let s := if perst then (s.putB (Reg.FAB_STATUS_PERST head) true).modPins fun p => { p with perstN := listUpd p.perstN head (fun _ => false) } else s
  .next (s.linkLost head)

/-- A link that the head accepts (R578): no separate reference clock with spread spectrum, and the lanes straight or reversed as a
whole, each of either polarity. -/
def linkAccepted (t : TrainIn) : Bool := decide (t.clock ≠ .separateSpread) && decide (t.order ≠ .mixed)

/-- LINK_TRAIN (R314, R315, R578): PERST_N is released and the lanes that train decide the width; a link that the head does not
accept stays down. -/
def execLinkTrain (head : HeadIx) (t : TrainIn) (s : State) : Result :=
  occurs ((s.head head).phyOn && s.domainGood 3 0 && !s.flag (Reg.FAB_STATUS_LINK_UP head)) s fun s =>
    let s := (s.putB (Reg.FAB_STATUS_PERST head) false).modPins fun p => { p with perstN := listUpd p.perstN head (fun _ => true) }
    if !linkAccepted t then s
    else if !t.low && !t.high then s.event (srcHead head 0) 1 Sev.degraded
    else
      let both := t.low && t.high
      let s := s.modHead head fun x => { x with
        discarding := s.flag Reg.PERS_STATUS_SAVE_ACTIVE, reversed := decide (t.order = .reversed), inverted := t.inverted }
      let s := (s.putB (Reg.FAB_STATUS_LINK_UP head) true).put (Reg.FAB_STATUS_SPEED head) (t.speed.val + 1)
      let s := s.put (Reg.FAB_STATUS_WIDTH head) (if both then 3 else if t.low then 1 else 2)
      let s := if both then s else s.event (srcHead head 0) 2 Sev.degraded
      s.event (srcHead head 0) 4 Sev.note

/-- CRC_ERROR_WITH_REPLAY (R51): the flit is not accepted; its replay is another request. -/
def execCrcErrorWithReplay (head : HeadIx) (s : State) : Result :=
  .next (s.begin.event (srcHead head 2) 1 Sev.corrected)

end Sys2Proof.Machine
end

