-- ==== Sys2Proof/Machine/Access.lean ====
section
/-!
DEFINITION. Sys2Proof/Machine/Access.lean: the register paths (20_register_map): who is served, which writes are discarded,
banked registers, broadcast targets, snapshot groups, and what a register reads as.
-/
namespace Sys2Proof.Machine

/-! ## Banked registers (R33, R561, Table 20.4) -/

/-- Where a sub-channel's slot has a register: its offset in the slot. -/
def scSlot (off : Nat) : Option (Nat × Nat) :=
  match UnitKind.sc.locate off with
  | some (n, loc) => if loc < 0x400 then some (n, loc) else none
  | none => none

def bankedOff (off : Nat) : Bool :=
  [0x010100, 0x010104, 0x010108, 0x01010C, 0x000030, 0x010310, 0x050034, 0x090104].contains off ||
  decide ((scSlot off).map (·.2) = some 0x204)

/-- A path's copy of a banked register. -/
def State.bankRd (s : State) (p off : Nat) : Word := (sparseFind (s.path p).banked off).getD (resetWord off)

def State.bankWr (s : State) (p off : Nat) (w : Word) : State :=
  s.modPath p fun x => { x with banked := setWord x.banked off w }

def State.bankGet (s : State) (p : Nat) (f : Fld) : Nat := f.of (s.bankRd p f.off)
def State.bankPut (s : State) (p : Nat) (f : Fld) (v : Nat) : State := s.bankWr p f.off (f.into (s.bankRd p f.off) v)

/-- DEV_ACCESS of a path takes a bit and the offset of the access that set it. -/
def State.accessFlag (s : State) (p : Nat) (f : Fld) (off : Nat) : State :=
  (s.bankPut p f 1).bankPut p Reg.DEV_ACCESS_OFFSET off

/-- A path's write to an offset reaches its register, or is discarded by a window (R564). -/
def State.reach (s : State) (p off : Nat) (f : State → State) : State :=
  if !s.served p then s
  else if s.writeShut p off then (if decide (p = 2) && s.aonServes then s.putB Reg.TW0_STATUS_OFF_ACCESS true
    else s.accessFlag p Reg.DEV_ACCESS_DISCARDED off)
  else f s

/-! ## Broadcast targets (R33, R34, Table 2.2) -/

/-- The members of a mask of four. -/
def maskBits (m : Nat) : List Nat := (List.range 4).filter fun k => decide (m / 2 ^ k % 2 = 1)

/-- The instances that an offset in the broadcast aperture or in a window reaches, as unicast offsets in the order of their
global indices; none for a unicast offset. -/
def State.targets (s : State) (p off : Nat) : Option (List Nat) :=
  let inAperture := decide (0x180000 ≤ off ∧ off < 0x1C0000)
  let inRegion := decide (0x200000 ≤ off ∧ off < 0x300000)
  let r := off % 0x40000
  let qs := if inAperture then maskBits (s.bankGet p Reg.BCAST_QMASK_MASK) else [(off - 0x200000) / 0x40000]
  if !inAperture && !(inRegion && decide (0x38000 ≤ r)) then none
  else if r < 0x38000 then some (qs.map fun q => qdBase q + r)
  else
    let js := maskBits (if r < 0x3C000 then s.bankGet p Reg.BCAST_SCMASK_MASK else s.bankGet p Reg.BCAST_FCMASK_MASK)
    let base := if r < 0x3C000 then 0x10000 else 0x20000
    some (qs.flatMap fun q => js.map fun j => qdBase q + base + 0x4000 * j + r % 0x4000)

/-- The register that a broadcast offset names, whatever the masks, as its first instance's offset. -/
def firstInstance (off : Nat) : Nat :=
  let r := off % 0x40000
  if r < 0x38000 then 0x200000 + r
  else if r < 0x3C000 then 0x210000 + r % 0x4000 else 0x220000 + r % 0x4000

/-! ## RWS fields and their shadow copies (R4) -/

/-- The register's word with its RWS fields taken from their shadow copies. -/
def State.shadowed (s : State) (d : RegDef) (off : Nat) (w : Word) : Word :=
  match sparseFind s.plumb.shadow off with
  | some x => (w &&& ~~~ accMask d .rws) ||| (x &&& accMask d .rws)
  | none => w

/-! ## What a register reads as -/

/-- DEV_STATE.POWER (Table 20.9). -/
def Power.code : Power → Nat
  | .off => 0 | .boot => 1 | .powerUp => 2 | .run => 3 | .save => 4 | .warmReset => 5 | .powerDown => 6 | .recovery => 7

/-- A word with a one-bit field set from a condition. -/
def Fld.bit (f : Fld) (w : Word) (b : Bool) : Word := f.into w b.toNat

/-- DEV_STATE (Table 20.9). -/
def State.devState (s : State) : Word :=
  let w := Reg.DEV_STATE_POWER.into (s.rd 0x000008) s.seq.power.code
  let w := Reg.DEV_STATE_MEDIA_READY.bit w (s.flag Reg.PERS_STATUS_MEDIA_READY)
  let w := Reg.DEV_STATE_SAVE_ACTIVE.bit w (s.flag Reg.PERS_STATUS_SAVE_ACTIVE)
  let w := Reg.DEV_STATE_START_STATE.into w (s.get Reg.PERS_STATUS_START_STATE)
  let w := Reg.DEV_STATE_DECIDED.bit w (s.flag Reg.PERS_START_DECIDED)
  let w := Reg.DEV_STATE_ARMED.bit w (s.flag Reg.SEQ_STATUS_ARMED)
  let w := Reg.DEV_STATE_SFG_HOLDS.bit w (s.flag Reg.EVT_SFG_STATUS_HOLDS)
  let w := Reg.DEV_STATE_COLLECTOR_LOST.bit w s.events.lost
  Reg.DEV_STATE_ALERT.bit w (!s.pins.alertN)

/-- One word of EVT_FIRST or of the head of NEXT (R485, R486): W0 to W3, TIME_HI, INFO as 0 to 5. -/
def evWord (e : Option EvEntry) (n : Nat) : Word :=
  match e with
  | none => 0#32
  | some e =>
    if n < 4 then msgWord e.msg n
    else if n = 4 then BitVec.ofNat 32 e.timeHi
    else
      let w := Reg.EVT_FIRST_INFO_SAME_CYCLE.bit (Reg.EVT_FIRST_INFO_VALID.bit 0#32 true) e.same
      Reg.EVT_FIRST_INFO_SAME_COUNT.into (Reg.EVT_FIRST_INFO_SEGMENT.into w e.seg) e.sameCount

/-- GAUGE_TBL_DATA for a path's selection (Table 13.19). -/
def State.tblData (s : State) (p : Nat) : Word :=
  let i := 4 * s.bankGet p Reg.GAUGE_TBL_SEL_ROW + s.bankGet p Reg.GAUGE_TBL_SEL_COL
  BitVec.ofNat 32 ((if s.bankGet p Reg.GAUGE_TBL_SEL_TABLE = 0 then s.cfg.ocv.getD i 0 else s.gauge.z.getD i 0) % 65536)

/-- CAL_DATA for a path's selection (Table 17.16). -/
def State.calData (s : State) (p : Nat) : Word :=
  let ch := s.bankGet p Reg.CAL_SEL_CHANNEL
  let offset := decide (s.bankGet p Reg.CAL_SEL_ITEM = 1)
  let u := s.undercoat ch
  BitVec.ofInt 32 (match s.bankGet p Reg.CAL_SEL_LAYER with
    | 0 => if offset then u.2 else (u.1 : Int)
    | 1 => if offset then ((s.topcoat ch).getD (0, 0)).2 else ((s.topcoat ch).getD (0, 0)).1
    | _ => if offset then (s.effective ch).2 else (s.effective ch).1)

/-- The bits of a register that a unit folds: its common configuration fields, or its own (R45). -/
def State.foldMask (s : State) (own : Bool) (off : Nat) : Word :=
  let m := sparseGet 0#32 s.plumb.common (commonKey off)
  cfgMask off &&& if own then ~~~ m else m

/-- The configuration words of a unit as its folds of the latest whole superframe are expected to have met them: each with the
reference value in force in the frame in which the unit folded it (R46). -/
def State.unitWords (s : State) (cls unit : Nat) (own : Bool) : List (Nat × Word) :=
  let offs := ((s.plumb.foldRef.map (·.1)).filter fun a => unitHolds cls unit a && decide (s.foldMask own a ≠ 0#32))
  offs.map fun a =>
    let m := match s.plumb.foldPast.find? fun e => decide (Config.foldFrame cls unit a < e.1) with
      | some e => e.2
      | none => s.plumb.foldRef
    (a, (sparseFind m a).getD (resetWord a) &&& s.foldMask own a)

/-- PLUMB_DATA for a path's selection (R569, Table 20.11). -/
def State.plumbData (s : State) (p : Nat) : Word :=
  let cls := s.bankGet p Reg.PLUMB_SEL_CLASS
  let unit := s.bankGet p Reg.PLUMB_SEL_UNIT
  let which := s.bankGet p Reg.PLUMB_SEL_WHICH
  if classCount cls ≤ unit then 0#32
  else
    let want := Config.plumbFold cls unit (which % 2) (s.unitWords cls unit (decide (which % 2 = 1)))
    if which < 2 then (sparseFind s.plumb.wrong (2 * (256 * cls + unit) + which)).getD want else want

/-- KEY_SLOT and KEY_USAGE (Tables 12.11 and 12.12, R357). -/
def SlotSt.code : SlotSt → Nat
  | .empty => 0 | .valid => 1 | .retiring => 2 | .exhausted => 3

def State.keySlotWord (s : State) (k : Nat) : Word :=
  let x := s.slot k
  BitVec.ofNat 32 (x.st.code + 4 * (x.source % 4) + 16 * x.persist.toNat + 32 * (x.use % 128) + 65536 * (x.gen % 65536))

def State.keyUsage (s : State) (k : Nat) : Nat :=
  let sum := (List.range 4).foldl (fun n q => n + (s.quad q).encCount) 0
  min 4294967295 ((s.slot k).usage + if k = genSlot s.image.gen ∧ s.image.genOpen then sum else 0)

/-- Fields of a quadrant's registers in the persistence block, of sub-channels and of dies that show what State holds. -/
def State.unitView (s : State) (off : Nat) (w : Word) : Word :=
  if 0x030240 ≤ off ∧ off < 0x030250 then
    let q := (off - 0x030240) / 4
    Reg.SKIM_Q_WETC_FULL q |>.bit ((Reg.SKIM_Q_LIST_FILL q).into w (s.quad q).setting.length) (decide (65536 ≤ (s.cachedOf q).length))
  else if 0x030440 ≤ off ∧ off < 0x030450 then
    let q := (off - 0x030440) / 4
    (Reg.SAVE_Q_HELD q).into ((Reg.SAVE_Q_REMAIN q).into w (if s.flag Reg.PERS_STATUS_SAVE_ACTIVE then s.exposedOf q else 0)) (s.tokensOf q)
  else if 0x030510 ≤ off ∧ off < 0x030520 then
    let q := (off - 0x030510) / 4
    (Reg.RESTORE_Q_FOLLOW q).into ((Reg.RESTORE_Q_REMAIN q).into w (s.unfilledOf q)) (s.quad q).follow.length
  else match UnitKind.die.locate off, scSlot off with
  | some (n, 0), _ =>
    let d := s.die n
    let w := (Reg.DIE_STATUS_TOKEN n).bit w (d.current.any fun o => o.token)
    (Reg.DIE_STATUS_QUEUED n).into ((Reg.DIE_STATUS_ERASE_SUSPENDED n).bit w (d.suspended.any fun o => o.kind.isErase)) (min 15 d.queue.length)
  | _, some (n, 0) => (Reg.SC_STATUS_WQ_FILL n).into ((Reg.SC_STATUS_RQ_FILL n).into w (s.sc n).readQ.length) (s.sc n).writeQ.length
  | _, _ => w

/-- What training keeps for a path's selection of a sub-channel. -/
def State.trainSel (s : State) (p n : Nat) : TrainRes :=
  let k := ((s.bankGet p (Reg.SC_TRAIN_SEL_OP n) * 8 + s.bankGet p (Reg.SC_TRAIN_SEL_RANK n)) * 16 +
    s.bankGet p (Reg.SC_TRAIN_SEL_LANE n)) * 2 + s.bankGet p (Reg.SC_TRAIN_SEL_DIR n)
  sparseGet {} (s.sc n).trained k

def trainWord (t : TrainRes) : Word :=
  BitVec.ofNat 32 (t.centre % 512 + 512 * (t.vref % 64) + 32768 * (t.width % 256) + 8388608 * (t.run % 64) + 536870912 * t.pass.toNat)

def deskewWord (t : TrainRes) : Word :=
  BitVec.ofNat 32 (t.deskew.getD 0 0 % 32 + 256 * (t.deskew.getD 1 0 % 32) + 65536 * (t.deskew.getD 2 0 % 32) +
    16777216 * (t.deskew.getD 3 0 % 32))

/-- The word that a register shows to a path now. -/
def State.view (s : State) (p off : Nat) : Word :=
  let w := s.rd off
  if bankedOff off then s.bankRd p off
  else if off < 0x000100 then
    if off = 0x000008 then s.devState
    else if off = 0x000014 then (if s.isSealed then Reg.DEV_POP_DIES.into w (s.cfg.media.d - s.retired.length) else w)
    else if off = 0x000018 then BitVec.ofNat 32 s.now
    else if off = 0x00001C then BitVec.ofNat 32 (s.now / 2 ^ 32)
    else if off = 0x000020 then BitVec.ofNat 32 (s.now / 1024)
    else if off = 0x000024 then BitVec.ofNat 32 (s.now / 2 ^ 42)
    else w
  else if off < 0x020000 then (if off = 0x010314 then s.plumbData p else w)
  else if 0x020010 ≤ off ∧ off < 0x020028 then evWord s.events.first ((off - 0x020010) / 4)
  else if 0x020030 ≤ off ∧ off < 0x020048 then evWord s.events.next.head? ((off - 0x020030) / 4)
  else if off = 0x03040C then Reg.SAVE_TOKENS_HELD.into w s.tokensHeld
  else if off = 0x030708 then Reg.IMG_STATUS_OPEN_SETS.into w (s.image.sets.filter fun x => !x.closed).length
  else if off = 0x040000 then
    Reg.CIPH_CTRL_STATUS_SUSPENDED.into (Reg.CIPH_CTRL_STATUS_QUEUED.into w s.keys.ctrlQueue.length) s.keys.ctrlSusp.length
  else if 0x040100 ≤ off ∧ off < 0x040200 then s.keySlotWord ((off - 0x040100) / 4)
  else if 0x040200 ≤ off ∧ off < 0x040300 then BitVec.ofNat 32 (s.keyUsage ((off - 0x040200) / 4))
  else if off = 0x050038 then s.tblData p
  else if off = 0x070004 then Reg.TW0_STATUS_ADDR.into w s.tw0.addr
  else if off = 0x090108 then s.calData p
  else match scSlot off with
  | some (n, 0x208) => trainWord (s.trainSel p n)
  | some (n, 0x20C) => deskewWord (s.trainSel p n)
  | _ => s.unitView off w

/-- What a read of one register returns: the shadow copy of RWS fields, 0 for WO fields (R4). -/
def State.regValue (s : State) (p : Nat) (d : RegDef) (off : Nat) : Word :=
  s.shadowed d off (s.view p off) &&& ~~~ accMask d .wo

/-! ## Snapshot groups (R562, Table 20.5) -/

/-- The other members of the group whose first register stands at an offset. -/
def snapMembers (off : Nat) : List Nat :=
  if [0x00000C, 0x000018, 0x000020, 0x010308, 0x03000C, 0x030210, 0x030360, 0x030368, 0x030370, 0x030378, 0x030808, 0x050004,
      0x050110, 0x050208, 0x060014, 0x090004, 0x090110].contains off then [off + 4]
  else if off = 0x020010 ∨ off = 0x020030 then [off + 4, off + 8, off + 12, off + 16, off + 20]
  else []

/-- A read of one register that exists: a captured member's value, or the live value; a first register captures. -/
def State.readOne (s : State) (p : Nat) (d : RegDef) (off : Nat) : Word × State :=
  match sparseFind (s.path p).captured off with
  | some w => (w, s)
  | none =>
    let members := snapMembers off
    if members.isEmpty then (s.regValue p d off, s)
    else (s.regValue p d off, s.modPath p fun x => { x with
      captured := members.foldl (fun m a => sparsePlace (sparseErase m a) a (s.view p a)) x.captured })

/-! ## Reads (R36, R37, R560, R565) -/

/-- A read of an offset that belongs to no register. -/
def State.unmapped (s : State) (p off : Nat) : State := s.accessFlag p Reg.DEV_ACCESS_UNMAPPED off

/-- A broadcast read of the instances at some offsets (R36, R37). -/
def State.bcastRead (s : State) (p off : Nat) (l : List Nat) : Word × State :=
  match regAt (firstInstance off), l with
  | none, _ => (0#32, s.unmapped p off)
  | some _, [] => (0#32, s.bankPut p Reg.BCAST_STATUS_EMPTY 1)
  | some (d, _), a :: rest =>
    let w := s.regValue p d a
    match rest.find? fun b => decide (s.regValue p d b ≠ w) with
    | none => (w, s)
    | some b =>
      let ix := match regAt b with | some (_, u) => u | none => 0
      (w, (s.bankPut p Reg.BCAST_STATUS_MISMATCH 1).bankPut p Reg.BCAST_STATUS_DIFF_INDEX ix)

/-- A read of a register offset on a path. -/
def State.readReg (s : State) (p off : Nat) : Word × State :=
  if s.inRecovery && !recoveryOffset off then (0#32, s.unmapped p off)
  else match s.targets p off with
  | some l => s.bcastRead p off l
  | none => match regAt off with
    | none => (0#32, s.unmapped p off)
    | some (d, _) => s.readOne p d off

end Sys2Proof.Machine
end

