-- ==== Sys2Proof/Machine/Ranks.lean ====
section
/-!
DEFINITION. Sys2Proof/Machine/Ranks.lean: erasures, ranks taken out of service, spares, migration and uncorrectable lines
(08_dram_scheduling, 09_dram_training_ecc_sparing).
-/
namespace Sys2Proof.Machine

/-! ## Where a line is physically stored (R216 to R222, R272) -/

/-- The spare assigned to a rank (j, r) of a quadrant. -/
def State.spareOfRank (s : State) (q j r : Nat) : Option Nat :=
  ((s.quad q).spares.find? fun x => decide (x.1 = j) && decide (x.2.1 = r)).map fun x => x.2.2

/-- The offset up to which a rank's lines are served from its spare: W while it migrates, all of it once it is out. -/
def State.watermark (s : State) (q j r : Nat) : Nat :=
  match (s.quad q).migration with
  | some m => if m.j = j ∧ m.rank = r then m.chunk * 8192
    else if s.flag (Reg.SC_RANK_HEALTH_OUT (4 * q + j) r) then s.get (Reg.SC_RANK_SIZE (4 * q + j) r) * unit512 else 0
  | none => if s.flag (Reg.SC_RANK_HEALTH_OUT (4 * q + j) r) then s.get (Reg.SC_RANK_SIZE (4 * q + j) r) * unit512 else 0

/-- The size of an extent in bytes. -/
def State.extSize (s : State) (q k e : Nat) : Nat :=
  if s.flag (Reg.QD_SPARE_EXT_PRESENT q k e) then s.get (Reg.QD_SPARE_EXT_SIZE q k e) * unit512 else 0

/-- Where a rank offset lies in a spare (R221). -/
def State.extLoc (s : State) (q k off : Nat) : Loc :=
  let at_ (e off : Nat) : Loc := locIn (4 * q + s.get (Reg.QD_SPARE_EXT_J q k e)) (s.get (Reg.QD_SPARE_EXT_R q k e))
    (s.get (Reg.QD_SPARE_EXT_OFFSET q k e) * unit512 + off)
  if off < s.extSize q k 0 then at_ 0 off else at_ 1 (off - s.extSize q k 0)

/-- A line's place with its spare taken into account (R222). -/
def State.route (s : State) (l : Loc) : Loc :=
  let q := l.sc / 4
  match s.spareOfRank q (l.sc % 4) l.rank with
  | some k => if l.off < s.watermark q (l.sc % 4) l.rank then s.extLoc q k l.off else l
  | none => l

/-- Where the line of a DPA stands now. -/
def State.place (s : State) (dpa : Nat) : Loc := s.route (s.locOf dpa)

/-- The address fold of a line stored at a place (R259). -/
def addressFold (l : Loc) : Nat := l.off / 64 + l.rank * 2 ^ 29 + (l.sc % 4) * 2 ^ 32 + (l.sc / 4) * 2 ^ 34

/-- The information symbols of a line's codeword, positions 0 to 71 (Table 9.3): data, address fold, V5, V6 and V7. -/
def infoSymbols (l : Loc) (data : Line) : List Byte := leBytes 64 data.toNat ++ leBytes 5 (addressFold l) ++ leBytes 3 0

/-- Those of a poisoned line: V7 is its only symbol that is not 0 (R261). -/
def poisonSymbols : List Byte := leBytes 71 0 ++ [0xA5#8]

/-- The 80 stored symbols of a line (R258, R261): its data, and the check symbols. -/
def storedSymbols (l : Loc) (data : Line) (poison : Bool) : List Byte :=
  let info := if poison then poisonSymbols else infoSymbols l data
  info.take 64 ++ Config.rsCheck info

/-- The four DQ bits that device m carries on a beat (R258). -/
def deviceBeat (symbols : List Byte) (m beat : Nat) : Nat :=
  (symbols.getD (8 * m + beat / 2) 0#8).toNat / 16 ^ (beat % 2) % 16

/-- A sub-channel's scrub period in hours (Table 9.17). -/
def State.scrubHours (s : State) (n : Nat) : Nat := max 1 (min 168 (s.get (Reg.SC_SCRUB_HOURS n)))

/-- The quadrant-local address of a rank offset (R216 read backwards). -/
def State.localAt (s : State) (n r off : Nat) : Nat :=
  let a := s.get (Reg.SC_RANK_BASE n r) * unit512 + off
  let hi := a / 256 % 64
  let low := hi * 1024 + ((n % 4) ^^^ (hi / 4 % 4)) * 256 + a % 256
  a / 16384 * 65536 + low

/-- A line of a rank: a house-region offset, or a DPA. -/
inductive LineAt where
  | house (h : Nat)
  | host (dpa : Nat)
  deriving DecidableEq, Repr

def State.lineAt (s : State) (n r off : Nat) : LineAt :=
  let q := n / 4
  let x := s.localAt n r off
  let base := s.get (Reg.QD_HOUSE_BASE q) * unit512
  if base ≤ x ∧ 0 < base then .house (x - base) else .host (patchAt q (x / 65536) * 65536 + x % 65536)

/-! ## Health records (R278) -/

/-- What a quadrant's record lists: each present rank's erasure, out-of-service state and spare (4 for none), and the
migration in progress. -/
def State.healthBody (s : State) (q : Nat) : LogBody :=
  .dramHealth q ((s.quad q).migration.map fun m => (m.j, m.rank, m.chunk))
    ((List.range 32).filterMap fun i =>
      let n := 4 * q + i / 8
      let r := i % 8
      if s.flag (Reg.SC_RANK_PRESENT n r) then
        some (i / 8, r, if s.flag (Reg.SC_RANK_HEALTH_ERASED n r) then some (s.get (Reg.SC_RANK_HEALTH_DEVICE n r)) else none,
          s.flag (Reg.SC_RANK_HEALTH_OUT n r), (s.spareOfRank q (i / 8) r).getD 4)
      else none)

def State.logHealth (s : State) (q : Nat) : State := s.logRecord (s.healthBody q)

/-! ## Ranks out of service (R221, R270, R271, R277) -/

/-- Total size of a spare, and whether an extent of it lies in a rank. -/
def State.spareSize (s : State) (q k : Nat) : Nat := s.extSize q k 0 + s.extSize q k 1
def State.spareIn (s : State) (q k j r : Nat) : Bool :=
  [0, 1].any fun e => s.flag (Reg.QD_SPARE_EXT_PRESENT q k e) && decide (s.get (Reg.QD_SPARE_EXT_J q k e) = j) &&
    decide (s.get (Reg.QD_SPARE_EXT_R q k e) = r)

/-- The lowest-numbered free and usable spare for a rank (R221). -/
def State.freeSpare (s : State) (q j r : Nat) : Option Nat :=
  (List.range 4).find? fun k =>
    decide (s.get (Reg.SC_RANK_SIZE (4 * q + j) r) * unit512 ≤ s.spareSize q k) && decide (0 < s.spareSize q k) &&
    !(s.spareIn q k j r) && !((s.quad q).spares.any fun x => decide (x.2.2 = k) || s.spareIn q k x.1 x.2.1)

/-- SPARES_EXHAUSTED: the rank stays in service (R271). -/
def State.exhaust (s : State) (q j r : Nat) : State :=
  let s := s.putB (Reg.QD_MIG_STATUS_EXHAUSTED q) true
  if (s.quad q).exhausted.contains (j, r) then s
  else (s.modQuad q fun d => { d with exhausted := d.exhausted ++ [(j, r)] }).event (srcSc (4 * q + j) (8 + r)) 7 Sev.degraded

/-- The rank is out of service and fully in its spare: its erasure is cleared (R269, R276). -/
def State.setOut (s : State) (q j r : Nat) : State :=
  let n := 4 * q + j
  ((s.putB (Reg.SC_RANK_HEALTH_OUT n r) true).putB (Reg.SC_RANK_HEALTH_MIGRATING n r) false).putB (Reg.SC_RANK_HEALTH_ERASED n r) false

/-- A rank's migration starts, with the spare that is free for it (R271, R272). -/
def State.migrateTo (s : State) (q j r : Nat) : Option Nat → State
  | none => s.exhaust q j r
  | some k =>
    let s := s.modQuad q fun d => { d with
      migration := some { j := j, rank := r }, spares := d.spares ++ [(j, r, k)], migPace := 0 }
    let s := ((s.put (Reg.QD_MIG_STATUS_J q) j).put (Reg.QD_MIG_STATUS_RANK q) r).put (Reg.QD_MIG_STATUS_SPARE q) k
    let s := ((s.putB (Reg.QD_MIG_STATUS_ACTIVE q) true).put (Reg.QD_MIG_WM_CHUNK q) 0).putB (Reg.SC_RANK_HEALTH_MIGRATING (4 * q + j) r) true
    s.logHealth q

def State.startMigration (s : State) (q j r : Nat) : State := s.migrateTo q j r (s.freeSpare q j r)

/-- The spare of a rank that is out at a start. -/
def State.outAtStart (s : State) (q j r : Nat) : Option Nat → State
  | none => s.exhaust q j r
  | some k => ((s.modQuad q fun d => { d with spares := d.spares ++ [(j, r, k)] }).setOut q j r).logHealth q

/-- RANK_OUT (R270, R271, R277): a condition of Table 9.6 takes a rank out of service; at a start its spare holds it at
once. -/
def State.rankOut (s : State) (n r : Nat) (atStart : Bool) : State :=
  let q := n / 4
  let j := n % 4
  let d := s.quad q
  if (s.spareOfRank q j r).isSome || d.migWait.contains (j, r) || d.exhausted.contains (j, r) then s else
  let s := s.event (srcSc n (8 + r)) 5 Sev.degraded
  if atStart then s.outAtStart q j r (s.freeSpare q j r)
  else if d.migration.isSome then
    if d.migWait.length < 4 then
      (s.modQuad q fun d => { d with migWait := d.migWait ++ [(j, r)] }).put (Reg.QD_MIG_STATUS_WAITING q) (d.migWait.length + 1)
    else s.exhaust q j r
  else s.startMigration q j r

/-- ERASURE_SET (R268, R270): a device is marked, or a second one of its rank takes the rank out. -/
def State.markErasure (s : State) (n r m source : Nat) (atStart : Bool) : State :=
  if s.flag (Reg.SC_RANK_HEALTH_OUT n r) then s
  else if s.flag (Reg.SC_RANK_HEALTH_ERASED n r) then
    if s.get (Reg.SC_RANK_HEALTH_DEVICE n r) = m then s else s.rankOut n r atStart
  else
    let s := ((s.put (Reg.SC_RANK_HEALTH_DEVICE n r) m).putB (Reg.SC_RANK_HEALTH_ERASED n r) true).put (Reg.SC_RANK_HEALTH_SOURCE n r) source
    (s.event (srcSc n (8 + r)) 3 Sev.degraded).logHealth (n / 4)

/-! ## Uncorrectable lines (R165 to R171, R266, R273, R279) -/

/-- A patch whose entry in the house region is lost: the fill of an unfilled patch fails, another patch counts as written. -/
def State.entryLost (s : State) (q p : Nat) (unfilled : Bool) : State :=
  if unfilled then s.endFill q { patch := p, cls := .background } none else s.patchWritten p

/-- HOUSE_UE (R279): what the controller does for a house-region line that it cannot read. -/
def State.houseUe (s : State) (n h : Nat) : State :=
  let q := n / 4
  let s := s.event (srcSc n 16) 1 Sev.uncorrected
  let first := h / 64 * 8
  let locals (base : Nat) : List Nat := ((List.range 8).map fun i => patchAt q (first - base + i)).filter s.patchPersistent
  if h < 2 ^ 27 then s.each (locals 0) fun s p =>
    s.entryLost q p ((List.range 32).any fun i => (s.patch (patchAt q (localOf p / 32 * 32 + i))).unfilled)
  else if h < 2 ^ 28 then s.each (locals (2 ^ 24)) fun s p => s.entryLost q p (s.patch p).unfilled
  else s

/-- A line is written poisoned, listed and reported (R266, R273). -/
def State.poisonLine (s : State) (dpa : Nat) (addrErr : Bool) (who acc : Nat) : State :=
  (((s.writeLine dpa { line := zeroLine, be := 0#64, poison := true }).addPoison (lineOf dpa) .internal).ueEvent dpa addrErr
    Sev.uncorrected who acc)

/-- An uncorrectable that finds 16 heals running (R170): listed and reported, no heal. -/
def State.healRefused (s : State) (dpa : Nat) (addrErr : Bool) (who acc : Nat) : State :=
  (((s.addPoison (lineOf dpa) .internal).ueEvent dpa addrErr Sev.uncorrected who acc).bump Reg.HEAL_COUNT_POISON_VALUE 1)

/-- A heal may start for a patch (R170). -/
def State.healRoom (s : State) (q p : Nat) : Bool := (s.healOf q p).isSome || decide ((s.quad q).heals.length < 16)

/-- An uncorrectable that scrub, a media scan or a migration meets. A volatile line has no image and is poisoned. -/
def State.engineUe (s : State) (n : Nat) (l : LineAt) (addrErr : Bool) (who acc : Nat) : State :=
  match l with
  | .house h => s.houseUe n h
  | .host dpa =>
    let p := patchOf dpa
    let q := quadOf p
    if !s.persistent dpa || (s.patch p).st.exposed then s.poisonLine dpa addrErr who acc
    else if (s.patch p).unfilled then s
    else if s.healRoom q p then s.startHeal q p (lineOf dpa) addrErr []
    else s.healRefused dpa addrErr who acc

/-! ## Migration (R272 to R276) -/

/-- What a chunk costs, and what a frame adds, in tenths of a byte. -/
def chunkCost : Nat := 81920
def State.migrationPace (s : State) (q : Nat) : Nat := max 5 (min 120 (s.get (Reg.QD_MIG_CTRL_RATE q))) * 1024

/-- MIGRATION_DONE (R276), and the next rank of the list (R271). -/
def State.migrationDone (s : State) (q : Nat) (m : Migration) : State :=
  let s := (s.setOut q m.j m.rank).event (srcSc (4 * q + m.j) (8 + m.rank)) 6 Sev.note
  let s := (s.modQuad q fun d => { d with migration := none }).putB (Reg.QD_MIG_STATUS_ACTIVE q) false
  let s := s.logHealth q
  match (s.quad q).migWait with
  | [] => s
  | (j, r) :: rest =>
    ((s.modQuad q fun d => { d with migWait := rest }).put (Reg.QD_MIG_STATUS_WAITING q) rest.length).startMigration q j r

/-- The lines of a chunk that read uncorrectable are treated by their kind (R275). -/
def State.chunkBad (s : State) (n : Nat) (m : Migration) (bad : List Nat) : State :=
  s.each (bad.filter fun i => decide (i < 128)) fun s i =>
    s.engineUe n (s.lineAt n m.rank (m.chunk * 8192 + 64 * i)) false Who.migration Access.migrate

/-- The chunks of a rank. -/
def State.rankChunks (s : State) (n r : Nat) : Nat := s.get (Reg.SC_RANK_SIZE n r) * 65536

/-- A chunk's read in its rank and its write to the spare ask at the sub-channels' ports. -/
def State.chunkAsked (s : State) (q : Nat) (m : Migration) : State :=
  let e : QEntry := {
    id := 0, origin := 21, dpa := 0, house := true, loc := locIn (4 * q + m.j) m.rank (m.chunk * 8192), deadline := s.now + 500000
    hint := 2, entered := s.now }
  let s := s.askPort 2 e
  match s.spareOfRank q m.j m.rank with
  | some k => s.askPort 2 { e with isWrite := true, loc := s.extLoc q k (m.chunk * 8192) }
  | none => s

/-- The next chunk is copied and W advances; past the rank's last chunk the migration is done. -/
def State.chunkCopied (s : State) (q : Nat) (m : Migration) (bad : List Nat) : State :=
  let s := (s.chunkBad (4 * q + m.j) m bad).modQuad q fun d => { d with
    migPace := d.migPace - chunkCost, migration := d.migration.map fun x => { x with chunk := x.chunk + 1 } }
  let s := (s.chunkAsked q m).put (Reg.QD_MIG_WM_CHUNK q) (m.chunk + 1)
  if s.rankChunks (4 * q + m.j) m.rank ≤ m.chunk + 1 then s.migrationDone q { m with chunk := m.chunk + 1 } else s

/-- MIGRATION_CHUNK (R272 to R276): the next chunk is copied, its lines that read uncorrectable are treated by their kind,
and W advances. The copy is one step, so no write lands in the chunk while it is in flight (R274). -/
def execMigrationChunk (q : QuadIx) (bad : List Nat) (s : State) : Result :=
  match (s.quad q).migration with
  | none => .next s.begin
  | some m => occurs (s.quadRuns q && decide (chunkCost ≤ (s.quad q).migPace)) s fun s => s.chunkCopied q m bad

end Sys2Proof.Machine
end

