-- ==== Sys2Proof/Machine/Dram.lean ====
section
/-!
DEFINITION. Sys2Proof/Machine/Dram.lean: a sub-channel's queues, its command scheduler, refresh, read decoding, scrub
(08_dram_scheduling, 09_dram_training_ecc_sparing).
-/
namespace Sys2Proof.Machine

/-! ## Deadlines and urgency (R232, R233) -/

/-- Table 8.7. -/
def urgencyOf (slack : Int) : Nat :=
  if slack ≤ 0 then 7 else if slack < 64 then 6 else if slack < 256 then 5 else if slack < 1000 then 4
  else if slack < 4000 then 3 else if slack < 16000 then 2 else if slack < 64000 then 1 else 0

/-- T_TAIL of the operating point in use. -/
def State.tTail (s : State) (n : Nat) : Nat := s.get (Reg.SC_TIMING_OP_W6_T_TAIL n (s.get (Reg.SC_STATUS_OP n)))

/-- The latest column command that meets a request's deadline; T_TAIL counts for LD reads (R233). -/
def State.columnDeadline (s : State) (n : Nat) (e : QEntry) : Int :=
  (e.deadline : Int) - (if e.head.isSome ∧ ¬ e.isWrite then s.tTail n else 0 : Nat)

def State.urgency (s : State) (n : Nat) (e : QEntry) : Nat := urgencyOf (s.columnDeadline n e - s.now)

/-! ## Banks -/

def bankKey (l : Loc) : Nat := 32 * l.rank + l.bank
def State.bank (s : State) (n k : Nat) : Option Bank := sparseGet none (s.sc n).banks k
def State.setBank (s : State) (n k : Nat) (b : Option Bank) : State :=
  s.modSc n fun x => { x with banks := sparseSet none x.banks k b }

/-- Everything queued on a sub-channel. -/
def Sc.entries (x : Sc) : List QEntry := x.readQ ++ x.writeQ

/-- A queued request hits the row that a bank holds open. -/
def State.rowHit (s : State) (n k row : Nat) : Bool := (s.sc n).entries.any fun e => decide (bankKey e.loc = k) && decide (e.loc.row = row)


/-! ## Queue entry (R222 to R224, R231, R243, R246) -/

/-- A head's request may ask its crossbar port: no hold of R104, and no earlier request of the head to its line (R104, R105). A
write that waits for its fill goes to its write queue and waits there (R158). -/
def State.enterable (s : State) (h : Nat) (r : HReq) : Bool :=
  decide (r.stage = .ready) && (((s.head h).reqs.takeWhile fun x => decide (x.id ≠ r.id)).all fun x => decide (lineOf x.dpa ≠ lineOf r.dpa)) &&
    (r.write.isNone || r.done || s.save.arrived || s.waitsFill r.dpa || !s.levelHolds r.dpa)

/-- A sub-channel queue has a place for a request (R223): the top write entries are for the save class and the state unit's
house-region writes. -/
def State.scRoom (s : State) (n : Nat) (e : QEntry) : Bool :=
  if e.isWrite then decide ((s.sc n).writeQ.length < if e.saveCls || (e.house && decide (e.origin ≠ 20)) then 96 else 88)
  else decide ((s.sc n).readQ.length < if e.saveCls || decide (s.urgency n e = 7) then 128 else 120)

/-- The entry that a head's request becomes. -/
def State.entryOf (s : State) (h : Nat) (r : HReq) : QEntry where
  id := r.id
  origin := r.ld
  dpa := r.dpa
  loc := s.place r.dpa
  isWrite := r.write.isSome
  write := r.write
  deadline := r.deadline
  saveCls := r.write.isSome && s.save.arrived
  hint := if s.get (Reg.LD_CFG_HINT r.ld) = 3 then 0 else s.get (Reg.LD_CFG_HINT r.ld)
  entered := s.now
  head := some h
  ld := r.ld
  tag := r.tag
  done := r.done
  fillWait := s.waitsFill r.dpa
  orphan := r.orphan

/-- The oldest request of a head that may enter some sub-channel of those that `which` accepts. -/
def State.headAsk (s : State) (h : Nat) (which : QEntry → Bool) : Option (Nat × HReq × QEntry) :=
  ((s.head h).reqs.find? fun r =>
    let e := s.entryOf h r
    s.enterable h r && which e && s.scRoom e.loc.sc e).map fun r => (h, r, s.entryOf h r)

/-- The oldest request of each head that may enter a sub-channel, of the sub-channel's own or redirected to it. -/
def State.entryAsks (s : State) (n : Nat) (redirected : Bool) : List (Nat × HReq × QEntry) :=
  [0, 1].filterMap fun h => s.headAsk h fun e => decide (e.loc.sc = n) && (decide (scOf e.dpa ≠ n) == redirected)

/-- The request that the crossbar's ingress port of a quadrant passes to a sub-channel (R13, Table 1.6): each head asks with its
oldest request for that sub-channel, or else for another of the quadrant, which then has the port. -/
def State.crossbar (s : State) (n : Nat) (redirected : Bool) : Option (Nat × HReq × QEntry) :=
  let own := s.entryAsks n redirected
  let others := [0, 1].filterMap fun h =>
    if own.any fun x => decide (x.1 = h) then none else s.headAsk h fun e => decide (e.loc.sc / 4 = n / 4)
  match grant (s.ptr 0 3) 3 ((own ++ others).map fun x => (x.1, x.2.2.saveCls, s.urgency x.2.2.loc.sc x.2.2)) with
  | some h => own.find? fun x => decide (x.1 = h)
  | none => none

/-- A change still entering self-refresh is abandoned for a request, unless a save made it (R243). -/
def State.abandonChange (s : State) (n : Nat) : State :=
  if s.get (Reg.SC_STATUS_STATE n) = 2 ∧ ¬ s.save.arrived then
    (s.dropChange n).event (srcSc n 18) 2 Sev.note
  else s

/-- A request stands in its queue: its rank leaves self-refresh, a write discards a scrub's write-back of its line (R265),
a read behind earlier writes to its row puts the bank in order until the last of them has issued (R231). -/
def State.enqueue (s : State) (n : Nat) (e : QEntry) : State :=
  let e := { e with seq := s.fabric.nextId }
  let s := ((s.modFabric fun f => { f with nextId := f.nextId + 1 }).abandonChange n).exitSr n e.loc.rank
  let same (x : QEntry) : Bool := !e.engine && decide (x.dpa = e.dpa) && (x.house == e.house)
  s.modSc n fun x =>
    let x := { x with lastUse := sparseSet 0 x.lastUse e.loc.rank s.now }
    if e.isWrite then { x with
      writeQ := (x.writeQ.filter fun y => !(decide (y.origin = 20) && same y)) ++ [e]
      writeBack := if e.origin = 20 then x.writeBack else x.writeBack.filter fun y => !same y
      readQ := x.readQ.map fun y => if y.origin = 20 ∧ same y then { y with done := true } else y
      inFlight := x.inFlight.map fun f => if f.entry.origin = 20 ∧ same f.entry then { f with entry := { f.entry with done := true } } else f }
    else
      let k := bankKey e.loc
      let x := { x with readQ := x.readQ ++ [e] }
      match (x.writeQ.filter fun y => decide (bankKey y.loc = k) && decide (y.loc.row = e.loc.row)).getLast? with
      | some w => { x with inOrder := x.inOrder.filter (fun y => decide (y.1 ≠ k)) ++ [(k, w.id)] }
      | none => x

/-- A head's request enters: a write not yet completed completes, unless its fill, the level or an earlier write to its line
still holds it; drained by a save, it is merged (R54, R163, R164). -/
def State.enterHead (s : State) (n h : Nat) (r : HReq) (e : QEntry) : State :=
  let completes := r.write.isSome && !r.done && !s.save.arrived && s.completable r.dpa && !s.undoneBefore h r.id r.dpa
  let s := if completes then s.completeWrite h r
    else if r.write.isSome && !r.done && s.save.arrived then s.writeMerged r.dpa r.write
    else s
  let s := s.modHead h fun x => { x with reqs := x.reqs.filter fun y => decide (y.id ≠ r.id) }
  s.enqueue n { e with done := r.done || completes }

/-- A requester of a sub-channel's entry port: a head's request, an engine's at its home sub-channel, a scrub's write-back. -/
inductive EntryAsk where
  | head (h : Nat) (r : HReq)
  | engine (home : Nat)
  | back
  deriving DecidableEq, Repr

/-- An engine's request as it enters now (R222, R232): where its line stands, its target from here on. -/
def State.portEntry (s : State) (e : QEntry) : QEntry :=
  { e with loc := if e.origin = 21 then e.loc else s.route e.loc, deadline := if e.origin < 16 then e.deadline else s.now + (e.deadline - e.entered), entered := s.now }

/-- The first request of an engine that waits at a home sub-channel's port and may enter sub-channel n. -/
def State.portAsk (s : State) (home n pos : Nat) : Option QEntry :=
  (((s.sc home).port.find? fun x => decide (x.1 = pos)).map fun x => s.portEntry x.2).filter fun e =>
    decide (e.loc.sc = n) && s.scRoom n e

/-- Every request that asks a sub-channel's entry port, with its position (R224): the crossbar 0, the quadrant engine 1, the
migration engine 2, patrol scrub 3, the state unit 4, requests redirected from the quadrant's other sub-channels 5. -/
def State.portAsks (s : State) (n : Nat) : List (Nat × EntryAsk × QEntry) :=
  let heads (pos : Nat) (redirected : Bool) := (s.crossbar n redirected).toList.map fun x => (pos, EntryAsk.head x.1 x.2.1, x.2.2)
  let engine (home pos as : Nat) := (s.portAsk home n pos).toList.map fun e => (as, EntryAsk.engine home, e)
  let back := ((s.sc n).writeBack.head?.filter fun e => s.scRoom n e).toList.map fun e => (3, EntryAsk.back, e)
  let siblings := ((List.range 4).map fun j => 4 * (n / 4) + j).filter fun m => decide (m ≠ n)
  heads 0 false ++ [1, 2, 4].flatMap (fun pos => engine n pos pos) ++ back ++ heads 5 true ++
    siblings.flatMap fun m => [1, 2, 4].flatMap fun pos => engine m pos 5

/-- The request that the port grants enters its queue. -/
def State.entryGoes (s : State) (n : Nat) (a : EntryAsk) (e : QEntry) : State :=
  match a with
  | .head h r => s.enterHead n h r e
  | .engine home => (s.modSc home fun x => { x with port := x.port.filter fun y => decide (y.2.id ≠ e.id) }).enqueue n e
  | .back => (s.modSc n fun x => { x with writeBack := x.writeBack.tail }).enqueue n e

/-- SC_QUEUE_ENTRY (R224): the entry port's grant among its requesters. -/
def State.queueEntry (s : State) (n : Nat) : State :=
  let asks := s.portAsks n
  match grant (s.ptr n 6) 6 (asks.map fun x => (x.1, x.2.2.saveCls, s.urgency n x.2.2)) with
  | none => s
  | some pos => match asks.find? fun x => decide (x.1 = pos) with
    | some (_, a, e) => s.entryGoes n a e
    | none => s

def execScQueueEntry (sc : ScIx) (s : State) : Result := .next (s.begin.queueEntry sc)

/-! ## Eligibility (R162, R169, R227, R229, R231) -/


/-- A request may be served: its patch is filled, a write's completion has been returned, no earlier access to that patch
waited for the fill with it, and no read under heal holds a write to its line. -/
def State.servable (s : State) (n : Nat) (e : QEntry) : Bool :=
  if e.house || e.saveCls || e.engine then true
  else
    let p := patchOf e.dpa
    !s.waitsFill e.dpa && !e.undone &&
    (!e.fillWait || (s.sc n).entries.all fun x => !x.fillWait || decide (patchOf x.dpa ≠ p) || decide (e.seq ≤ x.seq)) &&
    (!e.isWrite || (s.healOf (quadOf p) p).all fun h => h.waiting.all fun w => decide (w.line ≠ lineOf e.dpa))

/-- The oldest servable request of a bank. -/
def State.bankHead (s : State) (n k : Nat) : Option QEntry :=
  ((s.sc n).entries.filter fun e => decide (bankKey e.loc = k) && s.servable n e).foldl (fun b e => match b with
    | none => some e
    | some x => if e.seq < x.seq then some e else some x) none

def State.ordered (s : State) (n k : Nat) : Bool := (s.sc n).inOrder.any fun x => decide (x.1 = k)

/-- In-order banks serve their oldest request only (R231); a rank's requests wait while its tracking step runs (R253). -/
def State.inTurn (s : State) (n : Nat) (e : QEntry) : Bool :=
  s.servable n e && !s.inSelfRefresh n e.loc.rank && ((s.sc n).pass.all fun p => decide (p.running ≠ some e.loc.rank)) &&
    (!s.ordered n (bankKey e.loc) || decide ((s.bankHead n (bankKey e.loc)).map QEntry.id = some e.id))

/-- The urgency of a queued request; a write that holds a read back takes the read's when it is higher (R231). -/
def State.queuedUrgency (s : State) (n : Nat) (e : QEntry) : Nat :=
  if e.isWrite && s.ordered n (bankKey e.loc) then
    (((s.sc n).readQ.filter fun r => decide (bankKey r.loc = bankKey e.loc) && decide (r.loc.row = e.loc.row) && decide (e.seq < r.seq)).map (s.urgency n)).foldl
      max (s.urgency n e)
  else s.urgency n e

/-- R227, R229: eligibility in the column slot. -/
def State.columnOk (s : State) (n : Nat) (i : IssueIn) (wmode : Bool) (e : QEntry) : Bool :=
  let k := bankKey e.loc
  s.inTurn n e && !(i.colBusy.contains k) && decide ((s.bank n k).map Bank.row = some e.loc.row) &&
    (if wmode then e.isWrite else !e.isWrite || s.ordered n k)

/-! ## Row slot (R227, R228, R236, R239) -/

/-- What a row command does. -/
inductive RowCmd where
  | act (e : QEntry)
  | pre (k : Nat)
  | refresh (key : Nat)
  deriving DecidableEq, Repr

/-- An asker of the row slot: position, save class, urgency, age, command. -/
structure RowAsk where
  pos  : Nat
  save : Bool
  urg  : Nat
  age  : Nat
  cmd  : RowCmd
  deriving DecidableEq, Repr

def State.rowAsk (s : State) (n : Nat) (i : IssueIn) (e : QEntry) : Option RowAsk :=
  let k := bankKey e.loc
  let u := s.queuedUrgency n e
  if !s.inTurn n e || i.rowBusy.contains k then none else
  match s.bank n k with
  | none => some { pos := e.origin, save := e.saveCls, urg := u, age := e.seq, cmd := .act e }
  | some b =>
    if b.row = e.loc.row then none
    else if (s.sc n).entries.any (fun x => decide (bankKey x.loc = k) && decide (x.loc.row = b.row) && decide (u ≤ s.queuedUrgency n x)) then none
    else some { pos := e.origin, save := e.saveCls, urg := u, age := e.seq, cmd := .pre k }

/-- The banks that a refresh key covers: one bank index in every group, or the whole rank. -/
def refreshBanks (key : Nat) : List Nat :=
  let r := key / 64
  if key % 64 = 63 then (List.range 32).map fun b => 32 * r + b
  else (List.range 8).map fun g => 32 * r + 4 * g + key % 4

/-- SC_REF.POSTPONE within its limit. -/
def State.postpone (s : State) (n : Nat) : Nat := min 4 (s.get (Reg.SC_REF_POSTPONE n))

/-- A refresh key's command: its open banks close first. -/
def State.refreshCmd (s : State) (n : Nat) (i : IssueIn) (key : Nat) : Option RowCmd :=
  let banks := refreshBanks key
  match banks.find? fun k => (s.bank n k).isSome with
  | some k => if i.rowBusy.contains k then none else some (.pre k)
  | none => if banks.any i.rowBusy.contains then none else some (.refresh key)

def State.presentRanks (s : State) (n : Nat) : List Nat := (List.range 8).filter fun r => s.flag (Reg.SC_RANK_PRESENT n r)

/-- Refreshes that are due ask by their postponement; with no request for a rank, one is pulled in (R239). -/
def State.refreshAsks (s : State) (n : Nat) (i : IssueIn) : List RowAsk :=
  let keys (r : Nat) : List Nat := if s.flag (Reg.SC_REF_MODE n) then (List.range 4).map fun b => 64 * r + b else [64 * r + 63]
  ((s.presentRanks n).filter fun r => !s.inSelfRefresh n r).flatMap fun r => (keys r).filterMap fun key =>
    let debt := sparseGet 0 (s.sc n).refDebt key
    let idle := (s.sc n).entries.all fun e => decide (e.loc.rank ≠ r)
    if 0 < debt then
      let late := (debt - 1).toNat
      (s.refreshCmd n i key).map fun c => {
        pos := 24, save := decide (s.postpone n ≤ late), urg := min 6 (2 * late), age := 0, cmd := c }
    else if idle && decide (-(s.postpone n : Int) < debt) then
      (s.refreshCmd n i key).map fun c => { pos := 24, save := false, urg := 0, age := 1, cmd := c }
    else none

/-- Banks whose idle time has passed ask for PRE (R228). -/
def State.idleAsks (s : State) (n : Nat) (i : IssueIn) : List RowAsk :=
  (s.sc n).banks.filterMap fun e => match e.2 with
    | some b => if b.idle && !(i.rowBusy.contains e.1) then some { pos := 24, save := false, urg := 0, age := 2, cmd := .pre e.1 } else none
    | none => none

/-- The row slot's winner (R226): among the winning requester's asks of the granted class and urgency, the oldest. -/
def State.rowWinner (s : State) (n : Nat) (i : IssueIn) : Option RowAsk :=
  let asks := ((s.sc n).entries.filterMap (s.rowAsk n i)) ++ s.refreshAsks n i ++ s.idleAsks n i
  match grant (s.ptr n 25) 25 (asks.map fun a => (a.pos, a.save, a.urg)) with
  | none => none
  | some p => (asks.filter fun a => decide (a.pos = p)).foldl (fun b a => match b with
      | none => some a
      | some x => if p = 24 then (if (a.save && !x.save) || ((a.save == x.save) && decide (x.urg < a.urg)) then some a else some x)
        else if a.age < x.age then some a else some x) none

def State.rowIssue (s : State) (n : Nat) (c : RowCmd) : State :=
  match c with
  | .act e => (s.setBank n (bankKey e.loc) (some { row := e.loc.row, lastCol := s.now })).dramOut n 0 e.loc.rank e.loc.bank e.loc.row
  | .pre k => (s.setBank n k none).dramOut n 3 (k / 32) (k % 32) 0
  | .refresh key =>
    let debt := sparseGet 0 (s.sc n).refDebt key
    let s := if (s.postpone n : Int) ≤ debt - 1 then
        (s.bump (Reg.SC_REF_STATUS_FORCED n) 1).event (srcSc n 17) 1 Sev.note else s
    let hot := (BitVec.ofNat 8 (s.get (Reg.SC_REF_STATUS_HOT n))).getLsbD (key / 64)
    (s.modSc n fun x => { x with
      refDebt := sparseSet 0 x.refDebt key (debt - 1)
      halved := if hot then setInsert x.halved (key / 64) else setErase x.halved (key / 64) }).dramOut n (if key % 64 = 63 then 5 else 6) (key / 64) (key % 64) 0

/-! ## Column slot (R12, R51, R229, R230, R233) -/


/-- A host write has replaced a line: it no longer reads uncorrectable, and a heal of its patch leaves it (R166). -/
def State.lineReplaced (s : State) (dpa : Nat) : State :=
  s.modHeal (quadOf (patchOf dpa)) (patchOf dpa) fun h => { h with lines := h.lines.filter fun a => decide (a ≠ lineOf dpa) }

/-- A column command issues for a request: a read takes what DRAM holds, a write stores its data. -/
def State.columnIssue (s : State) (n : Nat) (e : QEntry) : State :=
  let k := bankKey e.loc
  let others := (s.sc n).entries.any fun x => decide (x.id ≠ e.id) && decide (bankKey x.loc = k) && decide (x.loc.row = e.loc.row)
  let auto := decide (e.hint = 2) && !others
  let s := s.dramOut n (if e.isWrite then (if auto then 12 else 2) else (if auto then 11 else 1)) e.loc.rank e.loc.bank e.loc.col
  let s := s.modSc n fun x => { x with
    readQ := x.readQ.filter fun y => decide (y.id ≠ e.id), writeQ := x.writeQ.filter fun y => decide (y.id ≠ e.id)
    inOrder := x.inOrder.filter fun y => decide (y.2 ≠ e.id), cols := x.cols + 1
    modeWrites := if e.isWrite then x.modeWrites + 1 else x.modeWrites }
  let s := if auto then s.setBank n k none
    else s.setBank n k (some { row := e.loc.row, lastCol := s.now, hintOpen := decide (e.hint = 1) || ((s.bank n k).map Bank.hintOpen).getD false })
  if e.isWrite then
    match e.write with
    | some d => ((s.writeLine e.dpa d).lineReplaced e.dpa).judgeGpf
    | none => s
  else
    let s := if e.head.isSome ∧ s.columnDeadline n e < s.now then s.bump (Reg.SC_QOS_MISS_COUNT n) 1 else s
    s.modSc n fun x => { x with inFlight := x.inFlight ++ [{
      entry := e, data := if e.house then zeroLine else dramLine s.dram e.dpa, poison := !e.house && s.linePoisoned e.dpa }] }

/-- Table 8.5, judged each DFI clock. -/
def State.judgeMode (s : State) (n : Nat) : State :=
  let x := s.sc n
  let hi := s.get (Reg.SC_WQ_HI n)
  let lo := min (s.get (Reg.SC_WQ_LO n)) (hi - 1)
  let fill := x.writeQ.length
  let turn (s : State) (w : Bool) : State := (s.putB (Reg.SC_STATUS_WRITE_MODE n) w).modSc n fun x => { x with modeWrites := 0 }
  if s.flag (Reg.SC_STATUS_WRITE_MODE n) then
    let urgent := x.readQ.any fun e => decide (6 ≤ s.urgency n e)
    if fill ≤ lo || fill = 0 || (urgent && decide (max 1 (s.get (Reg.SC_WQ_MIN_BURST n)) ≤ x.modeWrites)) then turn s false else s
  else if hi ≤ fill || (x.readQ.isEmpty && decide (0 < fill)) then turn s true else s

/-- The column slot's winner (R226). -/
def State.columnWinner (s : State) (n : Nat) (i : IssueIn) : Option QEntry :=
  let ok := (s.sc n).entries.filter (s.columnOk n i (s.flag (Reg.SC_STATUS_WRITE_MODE n)))
  match grant (s.ptr n 25) 25 (ok.map fun e => (e.origin, e.saveCls, s.queuedUrgency n e)) with
  | none => none
  | some p => (ok.filter fun e => decide (e.origin = p)).foldl (fun b e => match b with
      | none => some e
      | some x => if e.seq < x.seq then some e else some x) none

/-- DRAM_COMMAND_ISSUE (R225 to R231): one DFI clock of a sub-channel in Run or Relock. -/
def State.commandIssue (s : State) (n : Nat) (i : IssueIn) : State :=
  if 2 ≤ s.get (Reg.SC_STATUS_STATE n) then s else
  let s := s.judgeMode n
  let row := s.rowWinner n i
  let s := match s.columnWinner n i with
    | some e => s.columnIssue n e
    | none => s
  match row with
  | some a => s.rowIssue n a.cmd
  | none => s

def execDramCommandIssue (sc : ScIx) (i : IssueIn) (s : State) : Result := .next ((s.begin.atCycle i.cyc).commandIssue sc i)

/-- DFI clocks per 1,000 ns of an operating point. -/
def dfiMhz (op : Nat) : Nat := if op = 0 then 1000 else if op = 1 then 800 else if op = 2 then 600 else 400

/-- PAGE_IDLE_CLOSE (R228, R230): the bank asks for PRE. -/
def execPageIdleClose (sc : ScIx) (bank : Nat) (s : State) : Result :=
  match s.bank sc bank with
  | none => .next s.begin
  | some b => occurs (!b.hintOpen && !s.rowHit sc bank b.row &&
      decide (s.get (Reg.SC_PAGE_IDLE_DFI_CLOCKS sc) * 1000 ≤ (s.now - b.lastCol) * dfiMhz (s.get (Reg.SC_STATUS_OP sc)))) s fun s =>
        s.setBank sc bank (some { b with idle := true })

/-! ## Refresh and temperature (R236 to R240) -/

/-- A rank's refresh interval in ns at the operating point in use; halved while the rank runs hot, from its refresh command after
the poll on (R236, R237). -/
def State.refInterval (s : State) (n rank : Nat) : Nat :=
  let op := s.get (Reg.SC_STATUS_OP n)
  let t := if s.flag (Reg.SC_REF_MODE n) then s.get (Reg.SC_TIMING_OP_W4_TREFI_SB n op) else s.get (Reg.SC_TIMING_OP_W4_TREFI1 n op)
  if (s.sc n).halved.contains rank then t / 2 else t

/-- REFRESH_DUE (R236, R239, R240): an interval of a rank, or of a bank index in it, expires. -/
def execRefreshDue (sc : ScIx) (rank : Nat) (bank : Nat) (s : State) : Result :=
  let key := 64 * rank + (if s.flag (Reg.SC_REF_MODE sc) then bank % 4 else 63)
  occurs (decide (rank < 8) && s.flag (Reg.SC_RANK_PRESENT sc rank) && !s.inSelfRefresh sc rank && decide (s.get (Reg.SC_STATUS_STATE sc) < 5) &&
      decide (sparseGet 0 (s.sc sc).refAt key + s.refInterval sc rank ≤ s.now)) s
    fun s => s.modSc sc fun x => { x with refDebt := sparseUpd 0 x.refDebt key (· + 1), refAt := sparseSet 0 x.refAt key s.now }

/-- MR4_POLL (R237, R238). Each present rank's hottest device in order of rank: 0 at most 85 °C, 1 above, 2 above its rated
maximum. -/
def execMr4Poll (sc : ScIx) (temps : List Nat) (s : State) : Result :=
  occurs (decide (s.get (Reg.SC_STATUS_STATE sc) < 2) && decide ((s.sc sc).mr4Sf ≠ some s.sf)) s fun s =>
    (s.modSc sc fun x => { x with mr4Sf := some s.sf }).each (s.presentRanks sc) fun s r =>
      let t := temps.getD r 0
      let bit (v : Nat) (b : Bool) : Nat := if b then v ||| 2 ^ r else v - (v &&& 2 ^ r)
      let was := (BitVec.ofNat 8 (s.get (Reg.SC_REF_STATUS_OVERTEMP sc))).getLsbD r
      let s := s.put (Reg.SC_REF_STATUS_HOT sc) (bit (s.get (Reg.SC_REF_STATUS_HOT sc)) (decide (1 ≤ t)))
      let s := s.put (Reg.SC_REF_STATUS_OVERTEMP sc) (bit (s.get (Reg.SC_REF_STATUS_OVERTEMP sc)) (decide (2 ≤ t)))
      if 2 ≤ t ∧ ¬ was then s.event (srcSc sc (8 + r)) 8 Sev.degraded else s

/-- RANK_IDLE_SELF_REFRESH (R246). -/
def execRankIdleSelfRefresh (sc : ScIx) (rank : Nat) (s : State) : Result :=
  let us := max 1 (s.get (Reg.SC_IDLE_SR_US sc))
  occurs (s.flag (Reg.SC_IDLE_SR_EN sc) && decide (rank < 8) && s.flag (Reg.SC_RANK_PRESENT sc rank) && !s.inSelfRefresh sc rank &&
      decide (s.get (Reg.SC_STATUS_STATE sc) = 0) && ((s.sc sc).entries.all fun e => decide (e.loc.rank ≠ rank)) &&
      decide (sparseGet 0 (s.sc sc).lastUse rank + us * 1000 ≤ s.now)) s fun s =>
    ((s.closeRank sc rank).putSr sc rank true).dramOut sc 7 rank 0 0

/-! ## Decoding reads (R165 to R171, R260, R262, R265 to R268, R279) -/

/-- The device that carries a codeword position; none for the positions that are not stored (Table 9.3). -/
def deviceOf (pos : Nat) : Option Nat :=
  if pos < 64 then some (pos / 8) else if pos < 72 then none else if pos < 88 then some (8 + (pos - 72) / 8) else none

/-- Outcomes of Table 9.4. -/
inductive Decoded where
  | good | corrected | poison | addrErr | ue
  deriving DecidableEq, Repr

/-- All of some positions lie in one device. -/
def oneDevice (l : List Nat) : Bool :=
  match l with
  | [] => true
  | p :: rest => (deviceOf p).isSome && rest.all fun x => decide (deviceOf x = deviceOf p)

/-- Rules 1 to 3 of Table 9.4, after the poison syndrome is removed if there is one: good, corrected, or neither. -/
def decodeRules (erased : Option Nat) (r : ReadBack) : Option Bool :=
  if r.located && r.errs.isEmpty then some false
  else if !r.located then none
  else match erased with
    | none => if oneDevice r.errs then some true else none
    | some m =>
      let rest := r.errs.filter fun p => decide (deviceOf p ≠ some m)
      if rest.length ≤ 2 && oneDevice rest then some true else none

/-- R260. -/
def decodeLine (erased : Option Nat) (poisoned : Bool) (r : ReadBack) : Decoded :=
  match decodeRules erased r, poisoned with
  | some _, true => .poison
  | some false, false => .good
  | some true, false => .corrected
  | none, _ => if r.located && r.errs.any (fun p => decide (64 ≤ p) && decide (p ≤ 70)) then .addrErr else .ue

/-- CE (R262, R268): corrected symbols count against their devices. -/
def State.correctedRead (s : State) (n : Nat) (e : QEntry) (errs : List Nat) : State :=
  let r := e.loc.rank
  let s := (s.bump (Reg.SC_ECC_CE_COUNT n) 1).event (srcSc n r) 1 Sev.corrected
  let s := if e.house then s else match s.ldOfDpa e.dpa with
    | some k => s.modLd k fun l => if s.persistent e.dpa then { l with corrPers := l.corrPers + 1 } else { l with corrVol := l.corrVol + 1 }
    | none => s
  s.each ((errs.filterMap deviceOf).eraseDups) fun s m =>
    let c := (errs.filter fun p => decide (deviceOf p = some m)).length
    let erased := s.flag (Reg.SC_RANK_HEALTH_ERASED n r) && decide (s.get (Reg.SC_RANK_HEALTH_DEVICE n r) = m)
    if erased then s else
    let s := s.modSc n fun x => { x with ceCount := sparseUpd 0 x.ceCount (10 * r + m) (· + c) }
    if max 1 (s.get (Reg.SC_ECC_CFG_CE_ERASE n)) ≤ sparseGet 0 (s.sc n).ceCount (10 * r + m) then s.markErasure n r m 1 false else s

/-- UE and UE_ADDR counts of a rank in the scrub period, and Table 9.6. -/
def State.countUe (s : State) (n : Nat) (e : QEntry) (addrErr : Bool) : State :=
  let r := e.loc.rank
  let s := (s.put (Reg.SC_UE_LAST_LINE n) (e.loc.off / 64)).put (Reg.SC_UE_LAST_RANK n) r
  if addrErr then
    let s := (s.bump (Reg.SC_ECC_UE_ADDR_COUNT n) 1).modSc n fun x => { x with addrCount := sparseUpd 0 x.addrCount r (· + 1) }
    if max 1 (s.get (Reg.SC_ECC_CFG_ADDR_LIMIT n)) ≤ sparseGet 0 (s.sc n).addrCount r then s.rankOut n r false else s
  else
    let s := (s.bump (Reg.SC_ECC_UE_COUNT n) 1).bump (Reg.SC_RANK_HEALTH_UE_PERIOD n r) 1
    if max 1 (s.get (Reg.SC_ECC_CFG_UE_LIMIT n)) ≤ s.get (Reg.SC_RANK_HEALTH_UE_PERIOD n r) then s.rankOut n r false else s

/-- A host read is answered. -/
def State.answerRead (s : State) (e : QEntry) (data : Line) (poison : Bool) : State :=
  match e.head with
  | some h => s.sendDrs h e.ld e.tag data poison
  | none => s

/-- A host read that finds its line uncorrectable (R165, R167, R170). A volatile line has no image: it is poisoned. -/
def State.hostUe (s : State) (e : QEntry) (addrErr : Bool) : State :=
  let p := patchOf e.dpa
  let q := quadOf p
  if s.persistent e.dpa && decide ((s.patch p).st = .dry) && !(s.patch p).unfilled then
    if s.healRoom q p then s.startHeal q p (lineOf e.dpa) addrErr (e.head.toList.map fun h => {
      head := h, ld := e.ld, tag := e.tag, line := lineOf e.dpa, arrival := e.entered })
    else (s.answerRead e zeroLine true).healRefused e.dpa addrErr e.ld Access.read
  else if s.persistent e.dpa then (s.answerRead e zeroLine true).healRefused e.dpa addrErr e.ld Access.read
  else ((s.answerRead e zeroLine true).addPoison (lineOf e.dpa) .internal).ueEvent e.dpa addrErr Sev.uncorrected e.ld Access.read

/-- The device of a rank whose symbols are treated as erased (R262). -/
def State.erasedDevice (s : State) (n r : Nat) : Option Nat :=
  if s.flag (Reg.SC_RANK_HEALTH_ERASED n r) then some (s.get (Reg.SC_RANK_HEALTH_DEVICE n r)) else none

/-- A corrected scrub read that no later write overtook asks for its write-back (R265). -/
def State.scrubBack (s : State) (n : Nat) (e : QEntry) : State :=
  if e.origin = 20 ∧ ¬ e.done then s.modSc n fun x => { x with
    writeBack := x.writeBack ++ [{ e with isWrite := true, deadline := s.now + 2000000 }] } else s

/-- A read that finds its line uncorrectable, for the host, the scrub or the state unit. What the row reads of skim and save
find stands in those commands' operands (R129, R267). -/
def State.readUe (s : State) (n : Nat) (e : QEntry) (addrErr : Bool) : State :=
  let s := s.countUe n e addrErr
  if e.head.isSome then s.hostUe e addrErr
  else if e.engine && !e.house then s
  else s.engineUe n (if e.house then .house e.dpa else .host e.dpa) addrErr Who.scrub Access.scrub

/-- A read of the poisoned pattern. -/
def State.readPoison (s : State) (e : QEntry) : State :=
  let s := s.answerRead e zeroLine true
  if e.head.isSome then s.addPoison (lineOf e.dpa) .internal else s

/-- What a read's decoding brings about. -/
def State.readDecoded (s : State) (n : Nat) (f : InFlight) (errs : List Nat) : Decoded → State
  | .good => s.answerRead f.entry f.data false
  | .corrected => ((s.correctedRead n f.entry errs).answerRead f.entry f.data false).scrubBack n f.entry
  | .poison => s.readPoison f.entry
  | .addrErr => s.readUe n f.entry true
  | .ue => s.readUe n f.entry false

/-- DRAM_READ_DATA (R260): the oldest read on its way comes back. -/
def State.readData (s : State) (n : Nat) (f : InFlight) (r : ReadBack) : State :=
  let s := s.modSc n fun x => { x with inFlight := x.inFlight.tail }
  s.readDecoded n f r.errs (decodeLine (s.erasedDevice n f.entry.loc.rank) f.poison r)

/-- What a sub-channel's oldest read in flight asks a head's egress port with (Table 1.6): the head, its urgency, and its
quadrant's distance from XBAR_OUT_PTR. -/
def State.egressAsk (s : State) (n : Nat) : Option (Nat × Nat × Nat) :=
  match (s.sc n).inFlight.head? with
  | none => none
  | some f => f.entry.head.map fun h => (h, s.urgency n f.entry, ptrDist (n / 4) (s.ptr 0 4) 4)

/-- One read is answered before another of the same cycle: both ask one egress port, and R29 grants it first. -/
def State.egressBefore (s : State) (a b : Nat) : Bool :=
  match s.egressAsk a, s.egressAsk b with
  | some (h, u, d), some (h', u', d') => decide (h = h') && (decide (u' < u) || (decide (u = u') && decide (d < d')))
  | _, _ => false

/-- Reads that come back in one cycle in the order in which the egress ports grant them (R13). -/
def State.egressOrder (s : State) (l : List (ScIx × ReadBack)) : List (ScIx × ReadBack) :=
  l.foldl (fun m x =>
    let later (y : ScIx × ReadBack) : Bool := s.egressBefore x.1 y.1
    m.takeWhile (fun y => !later y) ++ x :: m.dropWhile fun y => !later y) []

/-- A sub-channel's oldest read comes back. -/
def State.readBack (s : State) (n : Nat) (r : ReadBack) : State :=
  match (s.sc n).inFlight with
  | [] => s
  | f :: _ => s.readData n f r

/-- DRAM_READ_DATA: the reads that come back in one CCLK cycle. -/
def execDramReadData (reads : List (ScIx × ReadBack)) (s : State) : Result :=
  .next ((s.egressOrder reads).foldl (fun t x => t.readBack x.1 x.2) s.begin)

/-! ## Patrol scrub (R264) -/

/-- Lines of the present ranks of a sub-channel. -/
def State.rankLines (s : State) (n r : Nat) : Nat := s.get (Reg.SC_RANK_SIZE n r) * 8388608
def State.scLines (s : State) (n : Nat) : Nat := (s.presentRanks n).foldl (fun m r => m + s.rankLines n r) 0

/-- The rank and rank offset of the i-th line. -/
def State.scrubAt (s : State) (n i : Nat) : Option (Nat × Nat) :=
  ((s.presentRanks n).foldl (fun (acc : Nat × Option (Nat × Nat)) r => match acc.2 with
    | some _ => acc
    | none => if acc.1 < s.rankLines n r then (acc.1, some (r, acc.1 * 64)) else (acc.1 - s.rankLines n r, none)) (i, none)).2

/-- A pass ends, and with it the scrub period's counts (R268, R270). -/
def State.scrubPassEnds (s : State) (n : Nat) : State :=
  let s := (s.bump (Reg.SC_SCRUB_PASSES n) 1).modSc n fun x => { x with
    scrubPos := 0, scrubStart := s.now, ceCount := [], addrCount := [], wcrcCount := [] }
  s.each (List.range 8) fun s r => s.put (Reg.SC_RANK_HEALTH_UE_PERIOD n r) 0

/-- A scrub read of a line asks for a place in its sub-channel's read queue, at requester position 20 and its target. -/
def State.scrubRead (s : State) (l : LineAt) (loc : Loc) : State :=
  let loc := s.route loc
  let e : QEntry := {
    id := s.fabric.nextId, origin := 20, dpa := (match l with | .house h => h | .host a => a), house := (match l with | .house _ => true | .host _ => false)
    loc := loc, deadline := s.now + 2000000, entered := s.now, hint := if loc.col = 127 then 2 else 1 }
  if s.scRoom loc.sc e then
    (s.modFabric fun f => { f with nextId := f.nextId + 1 }).enqueue loc.sc e
  else s

/-- PATROL_SCRUB_READ (R157, R264): the next line is read; a line of an unfilled patch is passed over. -/
def State.patrolRead (s : State) (n : Nat) : State :=
  let pos := (s.sc n).scrubPos
  match s.scrubAt n pos with
  | none => if s.scLines n = 0 then s else s.scrubPassEnds n
  | some (r, off) =>
    let l := s.lineAt n r off
    let skip := match l with
      | .house _ => false
      | .host dpa => s.persistent dpa && (s.patch (patchOf dpa)).unfilled
    let s := s.modSc n fun x => { x with scrubPos := pos + 1 }
    let s := s.put (Reg.SC_SCRUB_PASS_PCT n) ((pos + 1) * 100 / s.scLines n)
    let s := if skip then s else s.scrubRead l (locIn n r off)
    if s.scLines n ≤ pos + 1 then s.scrubPassEnds n else s

/-- The pass has come to its next line at the even pace of one pass every SC_SCRUB.HOURS hours. -/
def State.scrubDue (s : State) (n : Nat) : Bool :=
  decide ((s.sc n).scrubPos * (s.scrubHours n * sec 3600) ≤ (s.now - (s.sc n).scrubStart) * s.scLines n)

def execPatrolScrubRead (sc : ScIx) (s : State) : Result :=
  occurs (s.quadRuns (sc.val / 4) && decide (s.get (Reg.SC_STATUS_STATE sc) < 2) && s.scrubDue sc) s fun s => s.patrolRead sc

/-! ## Alerts (R575) -/

/-- CA_PARITY_ALERT (R575). -/
def execCaParityAlert (sc : ScIx) (s : State) : Result := .next (s.begin.event (srcSc sc 19) 2 Sev.corrected)

/-! ## Global Persistent Flush (R60, R62) -/

/-- The GPF DVSEC that both heads show in configuration space (R61, Table 3.12): Phase 2 Duration in µs, a field below 20
raised to 20, and Phase 2 Power in mW. -/
def State.gpfDvsec (s : State) : Nat × Nat :=
  (max 20 (s.get Reg.PERS_GPF_PH2_DURATION_US), 1000 * s.get Reg.PERS_GPF_PH2_POWER_W)

/-- GPF_PHASE1. -/
def execGpfPhase1 (head : HeadIx) (s : State) : Result :=
  occurs (s.flag (Reg.FAB_STATUS_LINK_UP head) && !(s.head head).discarding) s fun s => s.emit (.gpf head 1)

/-- GPF_PHASE2: answered at once when no write completed before it still waits. -/
def execGpfPhase2 (head : HeadIx) (s : State) : Result :=
  occurs (s.flag (Reg.FAB_STATUS_LINK_UP head) && !(s.head head).discarding) s fun s =>
    (s.modHead head fun x => { x with gpf := some s.unflushed }).judgeGpf

end Sys2Proof.Machine
end

