-- ==== Sys2Proof/Machine/Train.lean ====
section
/-!
DEFINITION. Sys2Proof/Machine/Train.lean: operating-point changes, training and tracking (08_dram_scheduling R214, R215, R241
to R246; 09_dram_training_ecc_sparing R247 to R257).
-/
namespace Sys2Proof.Machine

/-! ## Operating-point changes (R241 to R245) -/


/-- SC_IDLE.OP as an operating point. -/
def State.idleOp (s : State) (n : Nat) : Nat := 2 + s.get (Reg.SC_IDLE_OP n)

/-- A tracking step runs. -/
def State.trackRuns (s : State) (n : Nat) : Bool := (s.sc n).pass.any fun p => p.running.isSome

/-- A tracking pass is discarded (R256). -/
def State.discardPass (s : State) (n : Nat) : State :=
  if (s.sc n).pass.isNone then s
  else (s.modSc n fun x => { x with pass := none, passDue := s.sf }).bump (Reg.SC_TRACK_PASSES_DISCARDED n) 1

/-- The banks close and every rank enters self-refresh (state 2). -/
def State.beginEntry (s : State) (n : Nat) : State :=
  let s := s.modSc n fun x => { x with banks := [] }
  (s.each (s.presentRanks n) fun s r => (s.putSr n r true).dramOut n 7 r 0 0).put (Reg.SC_STATUS_STATE n) 2

/-- The standby generator begins to lock to a target (state 1); while it already is locked there, the banks close at once
(Table 8.11). -/
def State.relock (s : State) (n target : Nat) : State :=
  let s := s.put (Reg.SC_STATUS_TARGET n) target
  if (s.sc n).standbyOp = target ∧ (s.sc n).locked then s.beginEntry n
  else (s.put (Reg.SC_STATUS_STATE n) 1).modSc n fun x => { x with standbyOp := target, locked := false }

/-- IDLE_OP_ENTER (R242): after SC_IDLE.SF superframes below LOW_PCT with empty queues. -/
def execIdleOpEnter (sc : ScIx) (s : State) : Result :=
  let sf := max 1 (s.get (Reg.SC_IDLE_SF sc))
  occurs (s.flag (Reg.SC_IDLE_EN sc) && decide (s.get (Reg.SC_STATUS_STATE sc) = 0) && !s.trackRuns sc && decide (s.get (Reg.SC_STATUS_OP sc) = s.runOp sc) &&
      decide (sf ≤ (s.sc sc).idleSf) && (s.sc sc).entries.isEmpty && !s.flag Reg.PERS_STATUS_SAVE_ACTIVE && decide (s.seq.power = .run)) s fun s =>
    (s.discardPass sc).relock sc (s.idleOp sc)

/-- IDLE_OP_EXIT (R242, R243): a request waits at a sub-channel at its idle point, or entering it. -/
def execIdleOpExit (sc : ScIx) (s : State) : Result :=
  occurs (!(s.sc sc).entries.isEmpty && !s.flag Reg.PERS_STATUS_SAVE_ACTIVE && !s.trackRuns sc) s fun s =>
    let st := s.get (Reg.SC_STATUS_STATE sc)
    if st = 2 ∧ 2 ≤ s.get (Reg.SC_STATUS_TARGET sc) then s.abandonChange sc
    else if st = 0 ∧ 2 ≤ s.get (Reg.SC_STATUS_OP sc) then (s.discardPass sc).relock sc (s.runOp sc)
    else s

/-- The operating point that a trigger of Table 8.10 asks a sub-channel to change to: the save's OP2 once its persistence
point has come, else what an epoch or a resume wants. -/
def State.wantedOp (s : State) (n : Nat) : Option Nat :=
  if s.save.ppFrame.isSome ∧ s.flag Reg.PERS_STATUS_SAVE_ACTIVE then (if s.get (Reg.SC_STATUS_OP n) = 2 then none else some 2)
  else (s.sc n).want

/-- OP_CHANGE_START (R241, R242): the save's change waits for a standby generator that is relocking (R244), another for the end of a
tracking step (R256). -/
def execOpChangeStart (sc : ScIx) (s : State) : Result :=
  match s.wantedOp sc with
  | none => .next s.begin
  | some t => occurs (decide (s.get (Reg.SC_STATUS_STATE sc) = 0) && (if s.flag Reg.PERS_STATUS_SAVE_ACTIVE then (s.sc sc).locked else !s.trackRuns sc)) s fun s =>
      let s := s.modSc sc fun x => { x with want := none }
      if s.get (Reg.SC_STATUS_OP sc) = t then s else (s.discardPass sc).relock sc t

/-- STANDBY_GENERATOR_LOCKED (R215, R241): in Relock the banks close and every rank enters self-refresh; outside a change
the standby is locked again. -/
def execStandbyGeneratorLocked (sc : ScIx) (s : State) : Result :=
  let s := s.begin.modSc sc fun x => { x with locked := true }
  .next (if s.get (Reg.SC_STATUS_STATE sc) = 1 then s.beginEntry sc else s)

/-- OP_CHANGE_SWITCH (R241): the generators are exchanged, the target's timing and trained results loaded, SRX and the
mode-register set issued. -/
def execOpChangeSwitch (sc : ScIx) (s : State) : Result :=
  occurs (decide (s.get (Reg.SC_STATUS_STATE sc) = 2)) s fun s =>
    let old := s.get (Reg.SC_STATUS_OP sc)
    let t := s.get (Reg.SC_STATUS_TARGET sc)
    let s := (s.put (Reg.SC_STATUS_OP sc) t).put (Reg.SC_STATUS_STATE sc) 4
    let s := s.modSc sc fun x => { x with standbyOp := old, locked := true }
    s.each (s.presentRanks sc) fun s r => (s.dramOut sc 8 r 0 0).dramOut sc 10 r 0 (s.get (Reg.SC_TIMING_OP_W6_MR_SET sc t))

/-- OP_CHANGE_DONE (R240, R241, R242, R256): Run at the target; the released generator relocks to OP2 unless the
sub-channel runs there; a new tracking pass is due. -/
def execOpChangeDone (sc : ScIx) (s : State) : Result :=
  occurs (decide (s.get (Reg.SC_STATUS_STATE sc) = 4)) s fun s =>
    let s := (s.put (Reg.SC_STATUS_STATE sc) 0).put (Reg.SC_STATUS_SR_RANKS sc) 0
    s.modSc sc fun x => { x with refDebt := [], passDue := s.sf, idleSf := 0 }.standbyAt2 (s.get (Reg.SC_STATUS_OP sc))

/-! ## Training (R247 to R251) -/

/-- The longest run of consecutive positions below a bound at which a test holds, the first of equally long ones: its
start and length. -/
def longestRun (bound : Nat) (ok : Nat → Bool) : Nat × Nat :=
  ((List.range bound).foldl (fun (acc : (Nat × Nat) × Nat) i =>
    let len := if ok i then acc.2 + 1 else 0
    (if acc.1.2 < len then ((i + 1 - len, len), len) else (acc.1, len))) ((0, 0), 0)).1

/-- The window of a sweep at one Vref step (R249): its low end and its width. -/
def laneWindow (sweep : List (BitVec 256)) (v : Nat) : Nat × Nat := longestRun 256 fun d => (sweep.getD v 0#256).getLsbD d

/-- Deskew of a lane's bits from their midpoints (R248). -/
def deskewOf (bits : List (Nat × Nat)) : List Nat :=
  let mids := bits.map fun b => (b.1 + b.2) / 2
  mids.map fun m => mids.foldl max 0 - m

/-- What training keeps of one lane and direction (R248 to R250). -/
def trainLane (vrefMin : Nat) (t : LaneTrain) : TrainRes :=
  let deskew := deskewOf t.bits
  let run := longestRun 64 fun v => decide (32 ≤ (laneWindow t.sweep v).2)
  let v := run.1 + (run.2 - 1) / 2
  let w := laneWindow t.sweep v
  { centre := (w.1 + (w.1 + w.2 - 1)) / 2, vref := v, width := w.2, run := run.2, deskew := deskew
    coarse := t.coarse, pass := decide (0 < run.2) && decide (32 ≤ w.2) && decide (vrefMin ≤ run.2) && deskew.all fun d => decide (d ≤ 31) }

/-- Where a result is kept: operating point, rank, lane, direction. -/
def trainKey (op rank lane : Nat) (write : Bool) : Nat := ((op * 8 + rank) * 16 + lane) * 2 + write.toNat

/-- A lane of a rank fails (R251): the first marks its device, a second one takes the rank out at start. -/
def State.laneFails (s : State) (n rank lane : Nat) : State :=
  let s := s.event (srcSc n (8 + rank)) 1 Sev.degraded
  if (s.sc n).trainFails.contains (rank, lane) then s
  else
    let second := (s.sc n).trainFails.any fun x => decide (x.1 = rank)
    let s := s.modSc n fun x => { x with trainFails := x.trainFails ++ [(rank, lane)] }
    if second then s.rankOut n rank true else s.markErasure n rank lane 0 true

/-- The result of one lane's training is kept; a lane that fails is treated as Table 9.6 says. -/
def State.laneTrained (s : State) (n op r : Nat) (t : LaneTrain) : State :=
  let k := trainLane (max 1 (s.get (Reg.SC_TRAIN_CFG_VREF_MIN n))) t
  let s := s.modSc n fun x => { x with trained := sparseSet {} x.trained (trainKey op r t.lane t.write) k }
  if k.pass then s else s.laneFails n r t.lane

/-- One rank's lanes at one operating point. -/
def State.rankTrained (s : State) (n op : Nat) (res : List LaneTrain) (r : Nat) : State :=
  s.each (res.filter fun t => decide (t.op = op) && decide (t.rank = r) && decide (t.lane < 10)) fun s t => s.laneTrained n op r t

/-- The present ranks at one operating point. -/
def State.opTrained (s : State) (n : Nat) (res : List LaneTrain) (op : Nat) : State :=
  s.each (s.presentRanks n) fun s r => s.rankTrained n op res r

/-- DRAM_TRAINING (R147, R247 to R251): every operating point, rank and lane, in the order of R247. -/
def State.training (s : State) (n : Nat) (ca : List CaTrain) (res : List LaneTrain) : State :=
  let s := if s.isHeldDown 0 n then s.unitReturns 0 n else s
  let s := s.modSc n fun x => { x with trainFails := [], narrow := [], trained := [], ca := ca }
  let s := s.each [3, 2, 1, 0] fun s op => s.opTrained n res op
  let op := s.runOp n
  let s := ((s.put (Reg.SC_STATUS_OP n) op).put (Reg.SC_STATUS_STATE n) 0).put (Reg.SC_STATUS_SR_RANKS n) 0
  s.modSc n fun x => { x with ready := true, standbyOp := 2, locked := true, passDue := s.sf, banks := [], refDebt := [] }

def execDramTraining (sc : ScIx) (ca : List CaTrain) (res : List LaneTrain) (s : State) : Result :=
  occurs (s.flag Reg.SEQ_STATUS_RAILS_UP && s.flag Reg.CFG_STATUS_SEALED && !(s.sc sc).ready &&
    s.domainGood 1 (sc.val / 4) && decide (s.get Reg.PERS_STATUS_START_STATE ≠ 3)) s fun s => (s.training sc ca res).phaseEnds

/-! ## Tracking (R252 to R257) -/

/-- SC_TRACK.SF: 0 and 1 act as 2. -/
def State.trackSf (s : State) (n : Nat) : Nat := max 2 (s.get (Reg.SC_TRACK_SF n))

/-- TRACKING_PASS_START (R252). -/
def execTrackingPassStart (sc : ScIx) (s : State) : Result :=
  occurs ((s.sc sc).ready && (s.sc sc).pass.isNone && decide ((s.sc sc).passDue ≤ s.sf) && decide (s.get (Reg.SC_STATUS_STATE sc) = 0) &&
      !s.flag Reg.PERS_STATUS_SAVE_ACTIVE) s fun s =>
    s.modSc sc fun x => { x with
      pass := some { op := s.get (Reg.SC_STATUS_OP sc), todo := s.presentRanks sc, asked := s.sf }, passDue := s.sf + s.trackSf sc }

/-- The resume's first pass (R257): media is not ready yet in a WARM_RESUME. -/
def State.resumePass (s : State) : Bool := decide (s.get Reg.PERS_STATUS_START_STATE = 2) && !s.flag Reg.PERS_STATUS_MEDIA_READY

/-- A line that is lost with its rank: the poisoned pattern, and an entry in the poison list. -/
def State.loseLine (s : State) (a : Nat) : State :=
  (s.writeLine a { line := zeroLine, be := 0#64, poison := true }).addPoison a .internal

/-- A patch whose lines of sub-channel n are lost at a resume (R277): a DRY one becomes unfilled, those of an exposed one are
poisoned. -/
def State.losePatch (s : State) (n p : Nat) : State :=
  if !s.patchPersistent p then s
  else if (s.patch p).st.exposed then
    s.each ((List.range 1024).filter fun k => decide (scOf (p * 65536 + 64 * k) = n)) fun s k => s.loseLine (p * 65536 + 64 * k)
  else s.modPatch p fun x => { x with unfilled := true }

/-- The patches of a rank, which take 16 KiB of each of its quadrant's four sub-channels. -/
def State.rankPatches (s : State) (n r : Nat) : List Nat :=
  (List.range (s.get (Reg.SC_RANK_SIZE n r) * 32768)).map fun i => patchAt (n / 4) (s.get (Reg.SC_RANK_BASE n r) * 32768 + i)

/-- Lines of a rank that goes out at a resume (R277). -/
def State.resumeOut (s : State) (n r : Nat) : State :=
  (s.each (s.rankPatches n r) fun s p => s.losePatch n p).judgeFilled (n / 4)

/-- A narrow window in a resume's pass: the lane's training has failed (R257). -/
def State.narrowResume (s : State) (n rank lane : Nat) : State :=
  let t := s.laneFails n rank lane
  if t.flag (Reg.SC_RANK_HEALTH_OUT n rank) && !s.flag (Reg.SC_RANK_HEALTH_OUT n rank) then t.resumeOut n rank else t

/-- A narrow window in a pass in run: the third in a row marks the device (R255). -/
def State.narrowRun (s : State) (n rank lane : Nat) : State :=
  let key := 10 * rank + lane
  let s := (s.event (srcSc n (8 + rank)) 2 Sev.note).modSc n fun x => { x with narrow := sparseUpd 0 x.narrow key (· + 1) }
  if 3 ≤ sparseGet 0 (s.sc n).narrow key then s.markErasure n rank lane 0 false else s

/-- A narrow window of a lane (R255, R257). -/
def State.narrowLane (s : State) (n rank lane : Nat) : State :=
  if s.resumePass then s.narrowResume n rank lane else s.narrowRun n rank lane

/-- One lane's measurement: its width is kept, and judged. -/
def State.laneMeasured (s : State) (n op rank : Nat) (t : LaneTrack) : State :=
  let s := s.modSc n fun x => { x with trained := sparseUpd {} x.trained (trainKey op rank t.lane false) fun k => { k with width := t.width } }
  if t.width < 32 then s.narrowLane n rank t.lane
  else s.modSc n fun x => { x with narrow := sparseSet 0 x.narrow (10 * rank + t.lane) 0 }

/-- The lanes that a step measured. -/
def State.lanesMeasured (s : State) (n op rank : Nat) (res : List LaneTrack) : State :=
  s.each (res.filter fun t => decide (t.lane < 10)) fun s t => s.laneMeasured n op rank t

/-- A step of a pass on one rank ends: its lanes' measurements (R252, R255), and the next rank's step is asked for. -/
def State.trackStep (s : State) (n : Nat) (p : Pass) (rank : Nat) (res : List LaneTrack) : State :=
  let lanes := res.filter fun t => decide (t.lane < 10)
  let s := s.modSc n fun x => { x with pass := some { p with
    running := none, asked := s.sf, todo := p.todo.filter (fun r => decide (r ≠ rank))
    measured := p.measured ++ lanes.map fun t => (rank, t.lane, t.read, t.write, t.width) } }
  s.lanesMeasured n p.op rank res

/-- The step of a pass's next rank starts at a frame boundary at which no request for the rank has urgency 5 or more, or
SC_TRACK.SF ÷ 2 superframes after it was asked for (R253). -/
def State.trackGo (s : State) (n : Nat) : State :=
  match (s.sc n).pass with
  | none => s
  | some p =>
    match p.running, p.todo with
    | none, rank :: _ =>
      let free := (s.sc n).entries.all fun e => decide (e.loc.rank ≠ rank) || decide (s.urgency n e < 5)
      if s.get (Reg.SC_STATUS_STATE n) = 0 ∧ (free ∨ p.asked + s.trackSf n / 2 ≤ s.sf) then
        s.modSc n fun x => { x with pass := some { p with running := some rank } }
      else s
    | _, _ => s

/-- TRACKING_STEP (R252, R253, R255): the step that runs ends with what it measured. -/
def execTrackingStep (sc : ScIx) (res : List LaneTrack) (s : State) : Result :=
  match (s.sc sc).pass with
  | some p =>
    match p.running with
    | some rank => .next (s.begin.trackStep sc p rank res)
    | none => .next s.begin
  | none => .next s.begin

/-- DRAM_WRITE_CRC_ALERT (R263): `fails` replays fail before one goes through; after three a tracking step runs on the rank, and
when three more fail the writes go out once more without write CRC. -/
def execDramWriteCrcAlert (sc : ScIx) (rank : Nat) (fails : Nat) (res : List LaneTrack) (s : State) : Result :=
  occurs (decide (rank < 8) && s.flag (Reg.SC_RANK_PRESENT sc rank)) s fun s =>
    let s := s.bump (Reg.SC_WCRC_RETRY_COUNT sc) (min 6 (fails + 1))
    let s := if fails < 3 then s else s.lanesMeasured sc (s.get (Reg.SC_STATUS_OP sc)) rank res
    if fails < 6 then s else
    let s := (s.event (srcSc sc (8 + rank)) 4 Sev.degraded).modSc sc fun x => { x with wcrcCount := sparseUpd 0 x.wcrcCount rank (· + 1) }
    if 2 ≤ sparseGet 0 (s.sc sc).wcrcCount rank then s.rankOut sc rank false else s

/-- Data rate of an operating point in MT/s (Table 8.1). -/
def rateOf (op : Nat) : Nat := if op = 0 then 8000 else if op = 1 then 6400 else if op = 2 then 4800 else 3200

/-- A shift of one operating point in another's steps, rounded to the nearest (R254). -/
def shiftAt (shift : Int) (from_ to_ : Nat) : Int := (2 * shift * rateOf to_ + rateOf from_) / (2 * rateOf from_)

/-- One direction's centres shifted at all four operating points. -/
def State.shiftCentres (s : State) (n op rank lane : Nat) (write : Bool) (shift : Int) : State :=
  s.each (List.range 4) fun s o => s.modSc n fun x => { x with
    trained := sparseUpd {} x.trained (trainKey o rank lane write) fun k => { k with
      centre := ((k.centre : Int) + (if o = op then shift else shiftAt shift op o)).toNat } }

/-- TRACKING_PASS_APPLY (R254, R257): every rank at once, each shift within 8 steps but for a resume's pass. -/
def execTrackingPassApply (sc : ScIx) (s : State) : Result :=
  match (s.sc sc).pass with
  | none => .next s.begin
  | some p => occurs (p.todo.isEmpty) s fun s =>
      let lim (x : Int) : Int := if s.resumePass then x else max (-8) (min 8 x)
      let s := s.each p.measured fun s m =>
        (s.shiftCentres sc p.op m.1 m.2.1 false (lim m.2.2.1)).shiftCentres sc p.op m.1 m.2.1 true (lim m.2.2.2.1)
      s.modSc sc fun x => { x with pass := none, ready := true }

end Sys2Proof.Machine
end

