-- ==== Sys2Proof/Machine/Epoch.lean ====
section
/-!
DEFINITION. Sys2Proof/Machine/Epoch.lean: epoch commits, the drain checks, the configuration fingerprint and units held
powered down (02_frame_tick_and_epochs; R108, R109, R111, R204).
-/
namespace Sys2Proof.Machine

/-! ## Drain checks (R108, R109, R204) -/

/-- The drain sum of R108 holds: (EXPO_MAX − EXPO_HOLDUP) ÷ (r_die × D) + SKIM_SETTING_TIME × 1.048576 ms + 1.05 ms ≤ 2 s,
with both sides multiplied by r_die × D and counted in ns. -/
def State.drainSumOk (s : State) : Bool :=
  let bytes := s.expoMaxGib * 2 ^ 30 - s.get Reg.EXPO_HOLDUP_MIB * 2 ^ 20
  let rate := s.get Reg.SAVE_R_DIE_MBPS * 1000000 * s.cfg.media.d
  decide (0 < rate) && decide (bytes * 1000000000 + (s.settingTime * 1048576 + 1050000) * rate ≤ 2000000000 * rate)

/-- The free-band share of R204: ⌈EXPO_MAX × 16/15 ÷ (8 × band size)⌉ + 1 bands, at most GC_CTRL.FREE_CRIT. A band of a
position holds UNITS_PER_BAND units of 64 KiB on each of its 16 dies. -/
def State.freeShareOk (s : State) : Bool :=
  let band := s.get Reg.IMG_GEOM_UNITS_PER_BAND * 65536 * 16
  let need := s.expoMaxGib * 2 ^ 30 * 16
  decide (0 < band) && decide ((need + 15 * 8 * band - 1) / (15 * 8 * band) + 1 ≤ s.get Reg.GC_CTRL_FREE_CRIT)

def State.drainOk (s : State) : Bool := s.drainSumOk && s.freeShareOk

/-- EVT_SFG_STATUS.PATROLS (R496): every scrub period at most 24 h, the image patrol at most 7 days. -/
def State.judgePatrols (s : State) : State :=
  s.sfg Reg.EVT_SFG_STATUS_PATROLS (((List.range 16).all fun n => decide (s.scrubHours n ≤ 24)) && decide (s.patrolPeriod ≤ sec (86400 * 7)))

/-! ## The fingerprint (R49) -/

/-- CRC-64 with the ECMA-182 polynomial over one byte, unreflected. -/
def crc64Byte (c : BitVec 64) (b : Nat) : BitVec 64 :=
  (List.range 8).foldl (fun c _ => if c.getLsbD 63 then (c <<< 1) ^^^ 0x42F0E1EBA9EA3693#64 else c <<< 1)
    (c ^^^ (BitVec.ofNat 64 (b % 256) <<< 56))

/-- CRC-64 over some bytes from initial value 0. -/
def crc64 (l : List Byte) : BitVec 64 := l.foldl (fun c b => crc64Byte c b.toNat) 0

/-- The CRC over the applied image's bytes and EPOCH_STATUS.APPLIED, low byte first. -/
def State.fingerprint (s : State) : BitVec 64 :=
  let a := s.get Reg.EPOCH_STATUS_APPLIED
  crc64Byte (crc64Byte (crc64 s.cfg.bytes) a) (a / 256)

def State.putFingerprint (s : State) : State := s.put64 0x010308 0x01030C s.fingerprint.toNat

/-! ## Units and the shadow copies (R39, R44, R46) -/

/-- A unit's shadow copies differ from its live values. -/
def State.unitDirty (s : State) (cls unit : Nat) : Bool :=
  s.plumb.shadow.any fun e => unitHolds cls unit e.1 && decide (e.2 &&& rwsMask e.1 ≠ s.rd e.1 &&& rwsMask e.1)

/-- A register whose only unit is held powered down. -/
def State.offHeldDown (s : State) (off : Nat) : Bool :=
  match regAt off with
  | some (d, u) => (match d.kind with
      | .ctl => false
      | k => s.isHeldDown (classOf k off) (unitOf k u))
  | none => false

/-! ## The commit (R38) -/

/-- RESULT of a commit's end, with PENDING cleared. -/
def State.endCommit (s : State) (result : Nat) : State :=
  ((s.modPlumb fun p => { p with commit := none }).putB Reg.EPOCH_STATUS_PENDING false).put Reg.EPOCH_STATUS_RESULT result

/-- A commit's reason of rejection, by the first condition of R38 that fails: 4 BAD_EPOCH, 5 BAD_TARGET, 6 BUSY. -/
def State.commitRefusal (s : State) (epoch : Nat) : Option Nat :=
  let dist := (s.get Reg.EPOCH_TARGET_FRAME_LO + 2 ^ 32 - s.frame % 2 ^ 32) % 2 ^ 32
  if epoch ≠ (s.get Reg.EPOCH_STATUS_APPLIED + 1) % 65536 then some 4
  else if dist < 4 ∨ 1048575 < dist then some 5
  else if s.plumb.commit.isSome then some 6
  else if s.seq.saveOpen then some 6
  else none

/-- A write to EPOCH_COMMIT (R38). -/
def State.epochCommit (s : State) (epoch : Nat) : State :=
  match s.commitRefusal epoch with
  | some r => s.put Reg.EPOCH_STATUS_RESULT r
  | none =>
    let dist := (s.get Reg.EPOCH_TARGET_FRAME_LO + 2 ^ 32 - s.frame % 2 ^ 32) % 2 ^ 32
    let s := s.modPlumb fun p => { p with commit := some { epoch := epoch, target := s.frame + dist } }
    ((s.putB Reg.EPOCH_STATUS_PENDING true).put Reg.EPOCH_STATUS_SLIPS 0).put Reg.EPOCH_STATUS_RESULT 0

def execEpochCommit (path : PathIx) (value : Word) (s : State) : Result :=
  .next (s.begin.reach path 0x010204 fun s => s.epochCommit (value.toNat % 65536))

/-! ## The vote (R39 to R42, R245) -/

/-- A sub-channel is within a change, or a tracking step runs. -/
def State.scTransit (s : State) (n : Nat) : Bool :=
  let st := s.get (Reg.SC_STATUS_STATE n)
  decide (2 ≤ st ∧ st ≤ 4) || s.trackRuns n

/-- The units of a class that vote not ready: those within a transition (their own, or one that the command names), unless
their shadow copies equal their live values. -/
def State.notReadyOf (s : State) (cls : Nat) (named : List Nat) : List Nat :=
  (List.range (classCount cls)).filter fun u =>
    !s.isHeldDown cls u && (named.contains (256 * cls + u) || (decide (cls = 0) && s.scTransit u)) && s.unitDirty cls u

/-- One class's vote as EPOCH_CLASS shows it. -/
def State.voteClass (s : State) (named : List Nat) (cls : Nat) : State :=
  let l := s.notReadyOf cls named
  (s.putB (Reg.EPOCH_CLASS_LAST_VOTE cls) l.isEmpty).put (Reg.EPOCH_CLASS_FIRST_NOT_READY cls) (l.headD 255)

/-- The vote: a snapshot of the shadow copies is taken, those of units held powered down too, which take them from the reference
copy when they return (R44); a vote not ready slips the commit, the 64th slip abandons it at the
next boundary. -/
def State.epochVote (s : State) (c : Commit) (named : List Nat) : State :=
  let ready := (List.range 12).all fun cls => (s.notReadyOf cls named).isEmpty
  let s := s.each (List.range 12) fun s cls => s.voteClass named cls
  if ready then
    s.modPlumb fun p => { p with commit := some { c with snapshot := some p.shadow } }
  else
    let slips := s.get Reg.EPOCH_STATUS_SLIPS + 1
    (s.put Reg.EPOCH_STATUS_SLIPS slips).modPlumb fun p => { p with
      commit := some { c with target := c.target + 1, abandon := decide (64 ≤ slips) } }

/-- EPOCH_VOTE: in the frame before the target. `notReady` names units (256 × class + index) that are within a training
step, a self-refresh entry or exit, or another transition of their chapter. -/
def execEpochVote (notReady : List Nat) (s : State) : Result :=
  match s.plumb.commit with
  | none => .next s.begin
  | some c => occurs (c.snapshot.isNone && !c.abandon && decide (c.target ≤ s.frame + 1)) s fun s =>
      ({ s with tick := { s.tick with cycle := max s.tick.cycle 1000 } } : State).epochVote c notReady


/-- EPOCH_SLIP's end (R42): a commit abandoned at this frame boundary. At the boundary at which a save commit arrives, the
save abandons it (R43). The severity NOTE of EPOCH_ABANDONED is the model's: no chapter states one. DESIGN CHOICE -/
def State.epochAbandon (s : State) : State :=
  match s.plumb.commit with
  | some c => if c.abandon && !s.commitDue then (s.endCommit 2).event 0x4E8 1 Sev.note else s
  | none => s

/-! ## The boundary (R41, R46, R49, R87, R109, R111, R236, R242) -/

/-- One register takes its snapshot; of a unit held powered down the reference copy alone (R44). -/
def State.applyWord (s : State) (off : Nat) (w : Word) : State :=
  let m := rwsMask off
  let s := if s.offHeldDown off then s else s.wr off ((s.rd off &&& ~~~ m) ||| (w &&& m))
  s.modPlumb fun p => { p with reference := setWord p.reference off ((p.refWord off &&& ~~~ m) ||| (w &&& m)) }

/-- What the hardware does once at the boundary for values that changed: checks, operating points, allowances. A change of
SC_REF.MODE drops the postponed and pulled-in counts, the model's choice, as R236 does not say what becomes of them. DESIGN CHOICE -/
def State.afterApply (s old : State) : State :=
  let changed (f : Fld) : Bool := decide (old.get f ≠ s.get f)
  let s := if changed Reg.EXPO_MAX_GIB || changed Reg.SKIM_SETTING_TIME_SUPERFRAMES then
      let s := s.sfg Reg.EVT_SFG_STATUS_DRAIN_BOUND s.drainOk
      if s.drainOk then s else s.event (srcPers 0 0) 6 Sev.degraded
    else s
  let s := if old.flag Reg.SKIM_CTRL_ENABLE && !s.flag Reg.SKIM_CTRL_ENABLE then s.event (srcPers 0 0) 5 Sev.degraded else s
  let s := s.judgePatrols
  let s := if changed Reg.WEAR_LIFE_TARGET_DAYS then s.each (List.range 4) fun s q => s.wearAllowance q else s
  s.each (List.range 16) fun s n =>
    let s := if changed (Reg.SC_OP_RUN_OP n) then s.modSc n fun x => { x with want := some (s.runOp n) } else s
    if changed (Reg.SC_REF_MODE n) then s.modSc n fun x => { x with refDebt := [] } else s

/-- A snapshot applies at its boundary. -/
def State.epochApply (s : State) (c : Commit) (snap : Sparse Word) : State :=
  let old := s
  let s := s.modPlumb fun p => { p with epochs := p.epochs ++ [(s.frame % 1024, p.reference)] }
  let s := s.each snap fun s e => s.applyWord e.1 e.2
  let s := s.modPlumb fun p => { p with shadow := p.shadow.filter fun e => decide (e.2 &&& rwsMask e.1 ≠ s.rd e.1 &&& rwsMask e.1) }
  let s := (s.put Reg.EPOCH_STATUS_APPLIED c.epoch).each (List.range 12) fun s k => s.put (Reg.EPOCH_CLASS_APPLIED k) c.epoch
  ((s.endCommit 1).putFingerprint).afterApply old

/-- EPOCH_APPLY (R41, R43): the boundary of the target frame after a vote that was ready; a save commit that reaches the
units at this boundary goes first. -/
def execEpochApply (s : State) : Result :=
  match s.plumb.commit with
  | none => .next s.begin
  | some c =>
    match c.snapshot with
    | none => .next s.begin
    | some snap => occurs (decide (c.target ≤ s.frame) &&
        !s.commitDue) s fun s => s.epochApply c snap

/-! ## Units held powered down (R44) -/

/-- UNIT_POWER_RETURN: the unit (256 × class + index) takes its live values from the reference copy. -/
def execUnitPowerReturn (unit : Nat) (s : State) : Result :=
  occurs (s.isSealed && decide (unit % 256 < classCount (unit / 256))) s fun s => s.unitReturns (unit / 256) (unit % 256)

/-! ## CLR_OVERRUNS (Table 2.1) -/

def execClrOverruns (path : PathIx) (s : State) : Result :=
  .next (s.begin.reach path 0x010000 fun s => s.put Reg.TICK_STATUS_OVERRUNS 0)

end Sys2Proof.Machine
end

