-- ==== Sys2Proof/Machine/Save.lean ====
section
/-!
DEFINITION. Sys2Proof/Machine/Save.lean: the save (05_save): triggers, ride-through, commit, quiesce, persistence point,
writing, tail, seal and the course after it; and the stop of flash work that a warm reset shares (R605).
-/
namespace Sys2Proof.Machine

/-! ## Triggers (R112, R419) -/

/-- VIN_SENSE_LOW: VIN_SENSE has been below the threshold for 2 frames. -/
def execVinSenseLow (s : State) : Result :=
  let s := s.begin
  let (v, s) := s.takeFree
  let s := s.modPins fun p => { p with inputOk := false, vinMv := v % s.vinLow }
  .next (if s.flag Reg.SAVE_CTRL_VIN_EN then s.trigger 2 else s)

/-- PFW_N_ASSERT: PFW_N is sampled asserted; the early warning is recorded once per assertion. -/
def execPfwNAssert (s : State) : Result :=
  let s := s.begin
  let s := if s.pins.pfwN then (s.modPins fun p => { p with pfwN := false }).event 0x4A1 1 Sev.note else s
  .next (if s.flag Reg.SAVE_CTRL_PFW_EN then s.trigger 2 else s)

/-- INPUT_RETURN (R116, R140, R419): PFW_N is released and VIN_SENSE stands at a level. -/
def execInputReturn (mv : Nat) (s : State) : Result :=
  let s := s.begin
  let back := decide (s.vinBack ≤ mv)
  -- R141: input that returns once a power-down has begun is an on request
  let s := if back && decide (s.seq.power = .powerDown) && !s.inputPresent
    then (s.modSeq fun x => { x with onLatch := true }).putB Reg.SEQ_STATUS_ON_LATCH true else s
  .next (s.modPins fun p => { p with
    pfwN := true, vinMv := mv, inputOk := back, inputAt := if back ∧ ¬ p.inputOk then s.now else p.inputAt })

/-! ## Detection to commit (R115 to R117, R611) -/

/-- SAVE_BACKUP_ENABLE (R115): in frame +1. Before triggers are armed, in the frame after an input loss, BKP_EN is asserted
and the rails go down without a save (R434, R608). -/
def execSaveBackupEnable (s : State) : Result :=
  let s := s.begin
  .next (match s.save.frame0, s.seq.vinLowAt with
    | some f, _ =>
      if f + 1 ≤ s.frame ∧ ¬ s.save.enabled then
        ((s.modPins fun p => { p with bkpEn := true, learnLoad := 0 }).driveChg false).modSave fun x => { x with enabled := true }
      else s
    | none, some f =>
      if f + 1 ≤ s.frame then
        ((s.modPins fun p => { p with bkpEn := true }).modSeq fun x => { x with vinLowAt := none }).beginPowerDown .inputLoss
      else s
    | none, none => s)

/-- The cause recorded of several (R113): the first in the order 2, 3, 4, 5, 6, 1. -/
def firstCause (l : List Nat) : Nat := ([2, 3, 4, 5, 6, 1].find? fun c => l.contains c).getD 1

/-- SAVE_RIDE_THROUGH (R117): BKP_EN is released, charger and learn load restored, in frame +3. -/
def State.rideThrough (s : State) : State :=
  let s := (s.putB Reg.SAVE_STATUS_RIDE_THROUGH true).put Reg.SAVE_STATUS_PHASE s.save.phaseBefore
  (s.modSave fun x => { x with frame0 := none, forcedOff := false, holdAt := some (s.frame + 1) }).event 0x4A0 1 Sev.note

/-- The end of a ride-through in its frame +3. -/
def State.rideThroughEnds (s : State) : State :=
  match s.save.holdAt with
  | some f =>
    if f ≤ s.frame ∧ s.save.frame0.isNone then
      let s := (s.modPins fun p => { p with bkpEn := false, learnLoad := s.save.learnBefore }).driveChg s.save.chgBefore
      s.modSave fun x => { x with holdAt := none, enabled := false }
    else s
  | none => s

/-- SAVE_COMMIT (R611, R118, R445, R551, R609). -/
def State.saveCommit (s : State) : State :=
  let cause := firstCause s.save.causes
  let late := (s.save.causes.filter (· ≠ cause) ++ s.save.late).foldl (fun m c => m ||| lateBit c) 0
  let s := (s.put Reg.SAVE_STATUS_TRIGGER cause).put Reg.SAVE_STATUS_LATE_TRIGGERS late
  let s := ((s.putB Reg.SAVE_STATUS_INCOMPLETE false).putB Reg.SAVE_STATUS_ON_HOLDUP false).putB Reg.SAVE_STATUS_VBUS_LOW false
  let s := (s.putB Reg.PERS_STATUS_SAVE_ACTIVE true).put Reg.SAVE_STATUS_PHASE 2
  let s := (s.modSeq fun x => { x with aonCause := cause, saveOpen := true, warmDrain := false }).setPower .save
  let s := s.modSave fun x => { x with
    committed := true, commitAt := s.frame, ppFrame := none, opFrame := none, history := [], writing := false }
  let s := if s.shake.isSome ∧ cause ≠ 1 then s.abandonHandshake (decide (cause ≠ 3)) ([2, 4, 6].contains cause) else s
  let s := s.learnVoid 3
  let s := if !s.inGroup then s
    else if s.isMaster then (if s.flag Reg.SEQ_GROUP_SAVE_RELAY ∧ cause = 2
      then s.emit (.burnor 0x0B none [s.get Reg.SEQ_GROUP_RELAY_OFF]) else s)
    else s.emit (.burnor 0x0A none [s.get Reg.SEQ_GROUP_STATUS_POSITION, cause])
  s.judgeGf

/-- SAVE_DECIDE (R116): at cycle 0 of frame +2. -/
def execSaveDecide (s : State) : Result :=
  match s.save.frame0 with
  | none => .next s.begin
  | some f =>
    let s := s.begin
    -- R434: from step 3 of a warm reset on, the commit waits for the rebuild of R175
    let may := decide (s.seq.power ≠ .warmReset) || s.seq.warmDrain || s.image.loaded
    .next (if f + 2 ≤ s.frame ∧ s.save.enabled ∧ ¬ s.save.committed then
        if s.save.causes.all (· = 2) ∧ s.inputPresent then s.rideThrough else if may then s.saveCommit else s
      else s)

/-! ## Quiesce (R43, R120 to R124, Table 5.2) -/

/-- SKIM_ABANDON for one quadrant (R124, R605): programs not started are dropped, the rest complete unrecorded, and their
patches turn SET. -/
def State.skimAbandon (s : State) (q : Nat) : State :=
  let vs := (s.quad q).versions.filter fun v => !v.abandoned
  let s := s.each vs fun s v =>
    let s := if (s.patch v.patch).st = .skimming ∧ ¬ v.superseded then s.patchSet v.patch else s
    if v.stage = .handed then
      (s.modDie v.die (Die.without (.program v.body none))).dropVersion q v.body
    else s
  s.modQuad q fun d => { d with versions := d.versions.map fun v => { v with abandoned := true } }



/-- Flash work that a save commit or a warm reset ends in one quadrant (Table 5.2, R605): reads, relocations and erases not
started go, an erase in progress is not recorded, fills, heals and rebuilds are abandoned. -/
def State.stopFlash (s : State) (q : Nat) : State :=
  let s := s.skimAbandon q
  let bodies := (s.quad q).relocs.map (·.body)
  let keep (o : DieOp) : Bool := match o.kind with
    | .read _ _ => false
    | .erase _ => false
    | .program b none => !bodies.contains b
    | _ => true
  let stop (o : DieOp) : Option DieOp := match o.kind with
    | .read _ _ => none
    | .erase _ => some { o with spoiled := true }
    | _ => some o
  let s := s.each (List.range 32) fun s i => s.modDie (32 * q + i) fun d => { d.keepOps keep with
    current := d.current.bind stop, suspended := d.suspended.filterMap stop }
  let s := s.each (List.range 4) fun s j => s.modSc (4 * q + j) fun x => { x with port := x.port.filter fun y => decide (y.1 = 4) }
  (((s.modQuad q fun d => { d with fills := [], heals := [], relocs := [], relocWait := [] }).cipherSync q).modImage fun i => { i with
    rebuild := none }).judgePlaces

/-- A pending epoch commit is abandoned by the save (R43). -/
def State.epochAbandonSave (s : State) : State :=
  match s.plumb.commit with
  | none => s
  | some _ => (((s.modPlumb fun p => { p with commit := none }).putB Reg.EPOCH_STATUS_PENDING false).put Reg.EPOCH_STATUS_RESULT 3).event
      0x4E8 1 Sev.note

/-- R120, R244, R256: the heads discard what they receive and the reads they have accepted; their writes drain without their
holds; an operating-point change not yet switching and a tracking pass end. -/
def State.quiesceHeads (s : State) : State :=
  let s := s.each [0, 1] fun s h => s.modHead h fun x => { x with
    discarding := true, reqs := (x.reqs.filter fun r => r.write.isSome).map fun r => { r with stage := .ready } }
  s.each (List.range 16) fun s n =>
    let s := s.modSc n fun x => { x with
      readQ := x.readQ.filter fun e => e.head.isNone, inFlight := x.inFlight.filter fun f => f.entry.head.isNone, pass := none }
    let st := s.get (Reg.SC_STATUS_STATE n)
    if st = 1 ∨ st = 2 then s.dropChange n else s

/-- Host writes that already wait in the write queues are of the save class from the commit's arrival on (R17); those that
waited for their fills drain without them (R164). -/
def State.saveClass (s : State) : State :=
  s.each (List.range 16) fun s n =>
    let s := s.each ((s.sc n).writeQ.filter QEntry.undone) fun s e => s.writeMerged e.dpa e.write
    s.modSc n fun x => { x with writeQ := x.writeQ.map fun e => if e.head.isSome then { e with saveCls := true } else e }

/-- SAVE_COMMIT_ARRIVE (R17, R120, R123, R124): with the tick of the frame after the commit's. -/
def execSaveCommitArrive (s : State) : Result :=
  occurs s.commitDue s fun s =>
    let s := (s.epochAbandonSave.quiesceHeads.saveClass).each (List.range 4) fun s q => s.stopFlash q
    let s := s.each (List.range 4) fun s q => s.modQuad q fun d => { d with
      saveOn := false, saveNext := 0, saveFails := [], saveDrained := false, saveMask := true }
    let s := (s.put Reg.SAVE_TOKENS_WRITING 15).put Reg.SAVE_STATUS_PHASE 3
    s.modSave fun x => { x with arrived := true }

/-- Whether a quadrant's write path is drained: no host write waits at a head or in its write queues (R121). -/
def State.writesDrained (s : State) (q : Nat) : Bool :=
  [0, 1].all (fun h => (s.head h).reqs.all fun r => decide (quadOf (patchOf r.dpa) ≠ q)) &&
  (List.range 4).all fun j => (s.sc (4 * q + j)).writeQ.all fun e => e.head.isNone

/-- QUADRANT_WRITE_DRAINED (R121). -/
def execQuadrantWriteDrained (q : QuadIx) (s : State) : Result :=
  occurs (s.save.arrived && s.writesDrained q) s fun s => s.modQuad q fun d => { d with saveDrained := true }

/-- PERSISTENCE_POINT (R121). -/
def execPersistencePoint (s : State) : Result :=
  match s.save.frame0 with
  | none => .next s.begin
  | some f => occurs (s.save.arrived && s.save.ppFrame.isNone && (List.range 4).all fun q => (s.quad q).saveDrained) s fun s =>
      ((s.putSat Reg.SAVE_LAST_PP_PP_FRAMES (s.frame - f)).put Reg.SAVE_STATUS_PHASE 4).modSave fun x => { x with ppFrame := some s.frame }

/-- FABRIC_PHY_OFF (R122): at the boundary of frame +20. -/
def execFabricPhyOff (s : State) : Result :=
  match s.save.frame0 with
  | none => .next s.begin
  | some f => occurs (s.save.arrived && decide (f + 20 ≤ s.frame)) s fun s =>
      s.each [0, 1] fun s h => (s.modHead h fun x => { x with phyOn := false, reqs := x.reqs.map fun r => { r with orphan := true } }).putB
        (Reg.FAB_STATUS_LINK_UP h) false

/-! ## Writing and tail (R125 to R137) -/

/-- The save's operating point is reached: all four sub-channels of a quadrant run at OP2 (R125). -/
def State.atSaveOp (s : State) (q : Nat) : Bool :=
  (List.range 4).all fun j => decide (s.get (Reg.SC_STATUS_OP (4 * q + j)) = 2) && decide (s.get (Reg.SC_STATUS_STATE (4 * q + j)) = 0)

/-- SAVE_WRITE_START (R126). `bad` are the line addresses that the save's reads of this quadrant find uncorrectable
(R129). -/
def execSaveWriteStart (q : QuadIx) (bad : List Nat) (s : State) : Result :=
  match s.save.frame0 with
  | none => .next s.begin
  | some f => occurs (s.save.ppFrame.isSome && !(s.quad q).saveOn && (s.atSaveOp q || (s.quad q).railLost)) s fun s =>
      let s := (s.modQuad q fun d => { d with saveOn := true, saveBad := bad }).modSave fun x => { x with writing := true }
      let all := (List.range 4).all fun k => s.atSaveOp k || (s.quad k).railLost
      let s := if all ∧ s.save.opFrame.isNone then
          (s.putSat Reg.SAVE_LAST_PP_OP_FRAMES (s.frame - f)).modSave fun x => { x with opFrame := some s.frame }
        else s
      (if s.get Reg.SAVE_STATUS_PHASE = 4 then s.put Reg.SAVE_STATUS_PHASE 5 else s).flashGo q

/-- A quadrant's part of the save is complete (R137): its exposure written or left, the open sets of its channels closed
with parity, its last journal unit programmed and covered. -/
def State.tailDone (s : State) (q : Nat) : Bool :=
  s.saveWalked q && ((s.quad q).versions.all fun v => v.abandoned) && (s.quad q).journal.isEmpty && (s.quad q).ledgerWait.isEmpty &&
  !(s.image.sets.any fun x => x.members.any fun c => decide (c / 4 = q)) &&
  !((List.range 32).any fun i =>
    let d := s.die (32 * q + i)
    let ledgerUnit (o : DieOp) : Bool := match o.kind with
      | .program (.journal _ _ _ _ _ _) _ => true
      | _ => false
    d.asked.any ledgerUnit || d.current.any ledgerUnit || d.suspended.any ledgerUnit)

/-- SAVE_QUADRANT_TAIL_DONE (R137). -/
def execSaveQuadrantTailDone (q : QuadIx) (s : State) : Result :=
  occurs (s.flag Reg.PERS_STATUS_SAVE_ACTIVE && (s.quad q).saveMask && s.tailDone q) s fun s =>
    (s.modQuad q fun d => { d with saveMask := false }).put Reg.SAVE_STATUS_PHASE 6

/-! ## Seal (R138, R139, R340) -/

/-- A record copy goes to the record die of a channel as a save program. -/
def State.pushRecord (s : State) (r : Record) (k chan : Nat) : State :=
  match s.recordDie chan with
  | none => s
  | some n => s.pushOp n { order := 1, kind := .record { record := r, copy := k, good := false }, quad := n / 32, entered := 0 }

/-- SEAL_WRITE (R138): WRITING is 0 and the seal's two copies are handed to their record dies. The RUN_OPEN of a device-wide
erase that has switched the slots comes first (R340). -/
def execSealWrite (s : State) : Result :=
  occurs (s.flag Reg.PERS_STATUS_SAVE_ACTIVE && s.save.writing && decide (s.get Reg.SAVE_TOKENS_WRITING = 0) &&
      s.image.writing.isNone && decide (s.get Reg.SAVE_STATUS_PHASE ≠ 9) && !(s.fabric.switched && !s.fabric.rootOpened)) s fun s =>
    let r := s.newRecord .sealSave (s.get Reg.SAVE_STATUS_TRIGGER)
    let s := (s.modImage fun i => { i with writing := some { record := r } }).put Reg.SAVE_STATUS_PHASE 7
    ((s.pushRecord r 0 (copyChan r.seq 0)).pushRecord r 1 (copyChan r.seq 1)).invoke 0

/-- Copy k of a record is still to be programmed on some die, or is being programmed. -/
def State.copyPending (s : State) (r : Record) (k : Nat) : Bool :=
  let hit (o : DieOp) : Bool := match o.kind with
    | .record c => decide (c.record = r) && decide (c.copy = k)
    | _ => false
  (List.range 128).any fun n =>
    let d := s.die n
    d.asked.any hit || d.current.any hit || d.suspended.any hit

/-- Copy k of a record stands on a channel, programmed with good status. -/
def State.copyProgrammed (s : State) (r : Record) (k chan : Nat) : Bool :=
  (s.recordsOn chan).any fun c => decide (c.record = r) && decide (c.copy = k) && c.good

/-- The course of copy k of the seal being written. -/
def RecWrite.stage (w : RecWrite) (k : Nat) : CopyStage := if k = 0 then w.copy0 else w.copy1

/-- Copy k's course moves on. -/
def State.setStage (s : State) (k : Nat) (c : CopyStage) : State :=
  s.modImage fun i => { i with writing := i.writing.map fun w => if k = 0 then { w with copy0 := c } else { w with copy1 := c } }

/-- Copy k of the seal is read back and judged, once its program has ended (R138, R139, R195): when it is not valid, the record
is programmed once more on the next channel of its quadrant. -/
def State.judgeCopy (s : State) (w : RecWrite) (k : Nat) (ok : Bool) : State :=
  let r := w.record
  let chan := copyChan r.seq k
  if s.copyPending r k then s else
  match w.stage k with
  | .first =>
    if s.copyProgrammed r k chan && ok then s.setStage k .valid
    else (((s.spoilCopy chan r k).event (srcFc chan 2) 2 Sev.corrected).setStage k .retry).pushRecord r k (retryChan chan)
  | .retry =>
    if s.copyProgrammed r k (retryChan chan) && ok then s.setStage k .valid
    else ((s.spoilCopy (retryChan chan) r k).event (srcFc (retryChan chan) 2) 2 Sev.corrected).setStage k .failed
  | _ => s

/-- A quadrant rebuilds from its patch state table at a resume (R175): its panel map, with the wet cache empty, and FILL_DONE
from its patches' UNFILLED flags; the sweep is on and the pace starts at 0. -/
def State.rebuildMaps (s : State) (q : Nat) : State :=
  let live := s.patches.filter fun e => decide (quadOf e.1 = q) && e.2.st.exposed
  let s := s.each (live.filter fun e => e.2.cached) fun s e => s.modPatch e.1 fun x => { x with cached := false }
  let s := s.modQuad q fun d => { d with
    saveOn := false, panelMap := live.foldl (fun l e => setInsert l (panelOf e.1)) [], setting := [], panel := none, reading := none
    sweepPtr := 0, sweepClean := true, pace := 0 }
  (s.putB (Reg.SKIM_Q_SWEEP q) true).judgeFilled q

/-- WARM_RESUME after a seal (R544): the PHYs power on, the maps are rebuilt, media ready awaits its run-open record. -/
def State.warmResume (s : State) : State :=
  let s := (s.setPower .run).decideStart 2
  let s := ((s.put Reg.PERS_START_ORIGIN 1).put Reg.PERS_START_RAILS_UP_MS 0).putB Reg.PERS_STATUS_MEDIA_READY false
  let s := s.modSeq fun x => { x with startAt := some s.now }
  let s := (s.modGauge fun g => { g with
    started := false, auth := false, authLast := none, serialSeen := false, chargerSet := false }).putB Reg.GAUGE_STATUS_READY false
  let s := s.each [0, 1] fun s h => s.modHead h fun x => { x with
    phyOn := true, discarding := false, mediaReady := false, reqs := [], earlyRaised := false }
  let s := s.each (List.range 4) State.rebuildMaps
  let s := s.each (List.range 16) fun s n => s.modSc n fun x => { x with passDue := s.sf, want := some (s.runOp n) }
  s.modImage fun i => { i with loaded := true, runOpen := false }

/-- A warm reset starts (R432 step 1, R545, R605, R551): the heads quiesce and drain, flash work ends, open journal units are
programmed, open sets asked to close, the wear state saved. Writes that wait for a fill have not completed and go. -/
def State.startWarmReset (s : State) : State :=
  let s := ((s.event 0x4A3 1 Sev.note).setPower .warmReset).modSeq fun x => { x with warmDrain := true, mrLatched := false, startAt := some s.now }
  let s := (s.abandonHandshake true false).quiesceHeads
  let s := s.each [0, 1] fun s h => s.modHead h fun x => { x with reqs := x.reqs.filter HReq.done }
  let s := s.each (List.range 16) fun s n => s.modSc n fun x => { x with writeQ := x.writeQ.filter fun e => !e.undone }
  s.each (List.range 4) fun s q =>
    let s := s.stopFlash q
    if (s.quad q).journal.isEmpty then s else s.flushJournal q

/-- R430: a toggle latched during the save acts by the course. -/
def State.latchedToggle (s : State) (resume : Bool) : State :=
  if !s.save.toggle then s
  else
    let s := s.modSave fun x => { x with toggle := false }
    if resume then (s.modSeq fun x => { x with offLatch := true }).putB Reg.SEQ_STATUS_OFF_LATCH true
    else (s.modSeq fun x => { x with onLatch := true }).putB Reg.SEQ_STATUS_ON_LATCH true

/-- R140, Table 5.4 and Table 5.6: the course after a seal. -/
def State.afterSeal (s : State) : State :=
  let t := s.get Reg.SAVE_STATUS_TRIGGER
  let input := s.inputPresent && decide (s.pins.inputAt + 2048 ≤ s.now)
  let resume := input && !s.save.forcedOff && (decide (t = 2) || decide (t = 6) || (decide (t = 4) && !s.save.groupOff))
  let s := s.latchedToggle resume
  let forced := s.save.forcedOff
  let s := s.modSave fun x => { x with
    frame0 := none, committed := false, arrived := false, enabled := false, writing := false, forcedOff := false }
  if resume then (if s.seq.mrLatched then s.warmResume.startWarmReset else s.warmResume)
  else
    let s := s.modSeq fun x => { x with mrLatched := false }
    s.beginPowerDown (if forced then .other else if t = 5 ∧ input then .systemReset else if t = 1 ∨ t = 3 then .other
      else if input then .other else .inputLoss)

/-- A save ends unsealed while the SV4860 is still powered (R139): a power-down follows. -/
def State.endUnsealed (s : State) : State :=
  let t := s.get Reg.SAVE_STATUS_TRIGGER
  let forced := s.save.forcedOff
  let s := ((s.put Reg.SAVE_STATUS_PHASE 9).event (srcPers 0 1) 2 Sev.uncorrected).modImage fun i => { i with writing := none }
  let s := s.modSave fun x => { x with
    frame0 := none, committed := false, arrived := false, enabled := false, writing := false, forcedOff := false }
  s.beginPowerDown (if forced then .other else if t = 5 then .systemReset else if s.inputPresent then .other else .inputLoss)

/-- A supply that the save needs is lost between its commit and its seal (R118, Table 3.7): the save ends without a seal. -/
def State.saveSupplyLost (s : State) : State :=
  if s.flag Reg.PERS_STATUS_SAVE_ACTIVE && s.save.committed then s.endUnsealed else s

/-- An erase that a save found running is not resumed after the seal (R339). -/
def State.eraseStops (s : State) : State :=
  let erases (b : Option BgCmd) : Option BgCmd := b.filter fun x => match x.kind with | .scan _ _ => true | _ => false
  let s := s.each (List.range 17) fun s k => (s.modLd k fun l => { l with bg := erases l.bg, notReady := false })
  let s := s.each (List.range 16) fun s k => s.putB (Reg.LD_STATUS_MEDIA_BUSY k) false
  (s.modFabric fun f => { f with
    eraseLock := none, newKeys := none, recordDone := false, switched := false, rootOpened := false }).modImage fun i => { i with eraseBands := [] }

/-- The save is sealed (R139), with both copies valid or one. -/
def State.saveSealed (s : State) (r : Record) (both : Bool) : State :=
  let s := (s.putRecordSeq r.seq).modSave fun x => { x with isSealed := true }
  let s := s.modImage fun i => { i with writing := none, seals := (r :: i.seals).take 2, genOpen := false, runOpen := false }
  let s := if both then s else s.event (srcPers 0 1) 3 Sev.degraded
  let s := if r.incomplete then s.event (srcPers 0 1) 2 Sev.uncorrected else s.event (srcPers 0 1) 1 Sev.note
  let f := (s.save.frame0.getD s.frame) * 1024
  let s := (s.putSat Reg.SAVE_LAST_DURATION_VALUE ((s.now - f) / 1000)).putSat Reg.SAVE_LAST_PATCHES_VALUE s.save.patches
  let s := s.putSat Reg.SAVE_LAST_ENERGY_VALUE (s.save.energy / 1000000000000).toNat
  let s := s.putLastShutdown r.cause true r.incomplete (!both) r.time
  let s := ((s.putB Reg.PERS_STATUS_SAVE_ACTIVE false).put Reg.SAVE_STATUS_PHASE 8).put Reg.SAVE_TOKENS_ALLOT 0
  let s := s.each (List.range 4) fun s q => s.modQuad q fun d => { d with merges := [], saveFails := [] }
  s.eraseStops.judgeGf.afterSeal

/-- SEAL_READBACK (R139, R195): the copies whose programs have ended are read back, `ok` saying what the check of each shows;
once neither is under way, the save is sealed, or ends unsealed. -/
def State.sealReadback (s : State) (w : RecWrite) (ok : List Bool) : State :=
  let s := (s.judgeCopy w 0 (ok.getD 0 false)).judgeCopy w 1 (ok.getD 1 false)
  match s.image.writing with
  | none => s
  | some x =>
    match x.copy0, x.copy1 with
    | .valid, .valid => s.saveSealed w.record true
    | .valid, .failed => s.saveSealed w.record false
    | .failed, .valid => s.saveSealed w.record false
    | .failed, .failed => (s.putRecordSeq w.record.seq).endUnsealed
    | _, _ => s

def execSealReadback (ok : List Bool) (s : State) : Result :=
  match s.image.writing with
  | none => .next s.begin
  | some w => .next (s.begin.sealReadback w ok)

/-- BKP_EN_RELEASE (R142): VIN_SENSE has held for 32 superframes after a WARM_RESUME. -/
def execBkpEnRelease (s : State) : Result :=
  occurs (s.pins.bkpEn && s.save.frame0.isNone && !s.flag Reg.PERS_STATUS_SAVE_ACTIVE && decide (s.seq.power = .run) &&
    s.pins.inputOk && decide (s.pins.inputAt + 32 * 1048576 ≤ s.now)) s fun s => s.modPins fun p => { p with bkpEn := false }

end Sys2Proof.Machine
end

