-- ==== Sys2Proof/Machine/Event.lean ====
section
/-!
DEFINITION. Sys2Proof/Machine/Event.lean: the event collector (16_faults_and_events): delivery and arbitration of fault
messages, FIRST and NEXT, reactions, CXL event logs, and the management cluster's lockstep and restarts.
-/
namespace Sys2Proof.Machine

/-! ## Management cluster (R492, R531) -/

/-- The update lock is released and its transfer ends (R527). -/
def State.updRelease (s : State) : State :=
  let s := s.modUpd fun u => { u with staging := none }
  (((s.putB Reg.UPD_STATUS_LOCK false).put Reg.UPD_STATUS_OWNER 0).put Reg.UPD_STATUS_PHASE 0).put Reg.UPD_STAGED_BYTES 0

/-- The firmware slot that runs. -/
def State.runningFw (s : State) : FwSlot := if s.flag Reg.UPD_STATUS_RUNNING then s.upd.fwB else s.upd.fwA

/-- A restart of the management cluster that does not pass through PORST_N (R531): the update lock goes; firmware of the
recorded format continues from the preserved area when its CRC passes, and starts it empty otherwise. -/
def State.clusterRestart (s : State) : State :=
  let s := s.updRelease.twReenabled
  let fmt := (s.runningFw.image.map FwHdr.preserveFmt).getD 0
  let s := { s with cluster := { s.cluster with running := true, bootOk := false, lockstep := true, releasedAt := s.now } }
  if fmt = s.upd.keptFmt ∧ s.upd.keptOk then s else
  let s := s.each (List.range 17) fun s k => s.modLd k fun l => { l with
    logs := [0, 1, 2, 3].map fun i => (i, ({ recs := [], overflow := some s.now } : EvLog)) }
  let s := s.modFabric fun f => { f with poisonList := [], poisonOvf := some s.now, hostOffset := 0 }
  s.modUpd fun u => { u with keptFmt := fmt, keptOk := true }

/-- The source of a management pair. -/
def srcMgmt (pair : Nat) : Nat := 0x4E5 + pair

/-- The active pair is lost (R492): the standby takes over, or the cluster halts. -/
def State.takeover (s : State) : State :=
  let a := s.cluster.activePair
  if s.cluster.halted then s
  else if s.cluster.standby then
    let s := { s with cluster := { s.cluster with activePair := 1 - a, standby := false } }
    (s.event (srcMgmt a) 2 Sev.degraded).clusterRestart
  else
    let s := { s with cluster := { s.cluster with running := false, halted := true, lockstep := false } }
    (s.event (srcMgmt a) 3 Sev.fatal).sfg Reg.EVT_SFG_STATUS_LOCKSTEP false

/-- LOCKSTEP_MISMATCH (R492). -/
def execLockstepMismatch (pair : Fin 2) (s : State) : Result :=
  occurs (s.cluster.running && !s.mainOff && (decide (pair.val = s.cluster.activePair) || s.cluster.standby)) s fun s =>
    if pair.val = s.cluster.activePair then s.takeover
    else ({ s with cluster := { s.cluster with standby := false } } : State).event (srcMgmt pair) 1 Sev.degraded

/-! ## CXL event records (R335, R491, Table 11.9) -/

/-- A function is a management function of its head (R323), or the FM-owned LD. -/
def State.isMgmtFn (s : State) (f : Nat) : Bool := decide (f = 16) || (s.ldOn f && s.flag (Reg.LD_CFG_MGMT f))

/-- The logical device of a function: the FM-owned LD and RECOVERY's function have none. -/
def ownLd (fn : FnIx) : Option Nat := if fn.val < 16 then some fn.val else none

/-! ## Health (Table 11.8) -/

/-- A sub-channel counts as degraded while one of its ranks is out of service or has an erased device, a head while its link
is up below x16. -/
def State.scDegraded (s : State) (n : Nat) : Bool :=
  (List.range 8).any fun r => s.flag (Reg.SC_RANK_PRESENT n r) && (s.flag (Reg.SC_RANK_HEALTH_OUT n r) || s.flag (Reg.SC_RANK_HEALTH_ERASED n r))
def State.headDegraded (s : State) (h : Nat) : Bool :=
  s.flag (Reg.FAB_STATUS_LINK_UP h) && decide (s.get (Reg.FAB_STATUS_WIDTH h) ≠ 3)

/-- Health Status: 1 Maintenance Needed, 2 Performance Degraded, 4 Hardware Replacement Needed. -/
def State.healthStatus (s : State) : Nat :=
  let bit (n : Nat) (b : Bool) : Nat := if b then n else 0
  let degraded := (List.range 16).any (fun n => s.scDegraded n || s.flag (Reg.FC_STATUS_LDPC_SHARED n)) || [0, 1].any s.headDegraded
  bit 1 (s.flag Reg.WEAR_STATUS_DEBT_HIGH || (List.range 4).any fun q => s.flag (Reg.QD_MIG_STATUS_EXHAUSTED q)) + bit 2 degraded +
    bit 4 (s.flag Reg.WEAR_STATUS_EXHAUSTED || decide (s.get Reg.PACK_STATE_STATE = 6))

/-- Media Status: 0 Normal, 1 Not Ready, 2 Write Persistency Loss in the Event of Power Loss. -/
def State.mediaStatus (s : State) (fn : FnIx) : Nat :=
  let erasing := match ownLd fn with
    | some k => s.ldNotReady k
    | none => s.fabric.eraseLock.isSome
  if !s.flag Reg.PERS_STATUS_MEDIA_READY || erasing then 1
  else if !s.flag Reg.SKIM_CTRL_ENABLE || (packBad (s.get Reg.PACK_STATE_STATE) &&
      decide (s.get Reg.EXPO_BUDGET_PATCHES < s.get Reg.EXPO_CUR_PATCHES)) then 2
  else 0

/-- Life Used of a quadrant in %. -/
def State.lifeUsed (s : State) (q : Nat) : Nat :=
  if s.endurance q = 0 then 100 else min 100 (s.programmed q * 65536 * 100 / s.endurance q)

/-- The hottest die sensor in °C as a 16-bit two's complement number; before the first sample it is open. -/
def State.deviceTemp (s : State) : Nat × State :=
  match s.seq.dieTemp with
  | some t => (((t / 10) % 65536).toNat, s)
  | none => let (v, s) := s.takeFree
            (v % 65536, s)

/-- The fields of Table 11.8 in its order, as a function sees them. -/
def State.healthNums (s : State) (fn : FnIx) : List Nat × State :=
  let lds := if s.isMgmtFn fn then List.range 16 else [fn.val]
  let sum (f : Ld → Nat) : Nat := lds.foldl (fun n k => n + f (s.ld k)) 0
  let life := (List.range 4).foldl (fun m q => max m (s.lifeUsed q)) 0
  let (temp, t) := s.deviceTemp
  ([s.healthStatus, s.mediaStatus fn, life, temp, s.get Reg.PERS_DSC_COUNT, sum Ld.corrVol, sum Ld.corrPers], t)

/-! ## Records -/

/-- The log of a severity: Informational, Warning, Failure, Fatal. -/
def logOf (sev : Nat) : Nat := if sev ≤ 1 then 0 else sev - 1

/-- The record type of a source: DRAM, General Media, Memory Module, vendor. -/
def recordType (src : Nat) : Nat :=
  if src < 0x180 then 0
  else if src < 0x2C0 then 1
  else if 0x400 ≤ src ∧ src < 0x440 then 1
  else if 0x4C0 ≤ src ∧ src < 0x4E0 then 1
  else if 0x300 ≤ src ∧ src < 0x380 then 2
  else if 0x470 ≤ src ∧ src < 0x4C0 then 2
  else 3

/-- The LD functions in which an event is logged. -/
def State.logFns (s : State) (m : FaultMsg) : List Nat :=
  let own (k : Nat) : Bool := decide (m.req = k) || (decide (m.space = 1) && decide (s.ldOfDpa m.addr = some k))
  (List.range 16).filter fun k => s.ldOn k && (own k || s.flag (Reg.LD_CFG_MGMT k))

/-- The full origin time's upper half (R485). -/
def originHi (arrival timeLo : Nat) : Nat :=
  let t := arrival / 2 ^ 32 * 2 ^ 32 + timeLo % 2 ^ 32
  (if arrival < t then t - 2 ^ 32 else t) / 2 ^ 32 % 2 ^ 32

/-- What a record holds beside the fault message (Table 11.9): of a DRAM event the line's channel, rank, bank group, bank, row, column
and nibble mask, or its channel and rank where the event has no line; of a Memory Module event the health fields; of a vendor event
the upper half of the full origin time and the ring segment (R491). The nibble mask is
a free value: the message names no device. -/
def State.recordFields (s : State) (m : FaultMsg) (k : Nat) : List Nat × State :=
  match recordType m.src with
  | 0 =>
    if m.space = 1 then
      let l := s.locOf m.addr
      let (mask, s) := s.takeFree
      ([l.sc, l.rank, l.bank / 4, l.bank % 4, l.row, l.col, mask], s)
    else ([m.src / 24, m.src % 24 % 8], s)
  | 2 => s.healthNums (Fin.ofNat 18 k)
  | 3 => ([originHi s.now m.time, (segOf m.src).1], s)
  | _ => ([], s)

/-- A record joins a function's log, or is lost. -/
def State.addRecord (s : State) (m : FaultMsg) (k : Nat) (fields : List Nat) : State :=
  s.modLd k fun l => { l with logs := sparseUpd {} l.logs (logOf m.sev) fun g =>
    if g.recs.length < 32 then
      { g with recs := g.recs ++ [{ handle := g.next, msg := m, kind := recordType m.src, time := s.now, fields := fields }]
               next := if g.next = 65535 then 1 else g.next + 1 }
    else { g with overflow := some (g.overflow.getD s.now), lost := g.lost + 1 } }

/-- An event is logged in one function, with MSI-X vector 1 under the function's policy. -/
def State.logEvent (s : State) (m : FaultMsg) (k : Nat) : State :=
  let (fields, s) := s.recordFields m k
  let s := s.addRecord m k fields
  if (s.ld k).policy.getD (logOf m.sev) 0 % 4 = 1 ∧ k < 18 then s.emit (.msix (Fin.ofNat 18 k) 1) else s

/-! ## Reactions (R488 to R490, Tables 16.6 to 16.8) -/

/-- RETIRE (Table 16.7). -/
def State.retireBySource (s : State) (src : Nat) : State :=
  if src < 0x180 then
    if src % 24 < 16 then
      if s.flag Reg.PERS_STATUS_SAVE_ACTIVE then s.modEvents fun e => { e with deferRetire := setInsert e.deferRetire src }
      else s.rankOut (src / 24) (src % 24 % 8) false
    else s
  else if 0x240 ≤ src ∧ src < 0x2C0 then
    let (c, s) := s.takeFree
    s.retireDie (src - 0x240) c
  else if 0x380 ≤ src ∧ src < 0x3E8 then
    if src % 2 = 0 then s.retirePair ((src - 0x380) / 2) else s
  else if 0x400 ≤ src ∧ src < 0x43C then
    if (src - 0x400) % 3 = 0 then s.retireEngine ((src - 0x400) / 3)
    else s
  else if src = srcMgmt s.cluster.activePair then s.takeover
  else s

/-- The deferred rank retirements are taken once no save is active. -/
def State.deferredRetire (s : State) : State :=
  if s.flag Reg.PERS_STATUS_SAVE_ACTIVE then s
  else (s.each s.events.deferRetire fun s src => s.rankOut (src / 24) (src % 24 % 8) false).modEvents fun e => { e with deferRetire := [] }

/-- RESET (R490): a warm reset is wanted at the end of the frame, or is not taken. -/
def State.resetReaction (s : State) : State :=
  let recent := match s.events.resetSf with
    | some f => decide (s.sf < f + 65536)
    | none => false
  if s.flag Reg.PERS_STATUS_SAVE_ACTIVE || !s.flag Reg.SEQ_STATUS_ARMED || recent then s.event 0x4ED 4 Sev.note
  else s.modEvents fun e => { e with resetWanted := true }

/-- The alert line of TW0 (R462): asserted while an event is pending, or the collector is lost (R482). -/
def State.judgeAlert (s : State) : State :=
  s.modPins fun p => { p with alertN := !(s.events.lost || !s.events.alerts.isEmpty) }

/-- The functions that log a delivered message: those of R335 where its source's reaction includes a CXL event record, and
every enabled LD's for OFF_REQUESTED (R547). -/
def State.loggedIn (s : State) (m : FaultMsg) : List Nat :=
  if m.src = 0x4AA ∧ m.kind = 1 then (List.range 16).filter s.ldOn
  else if s.flag (Reg.EVT_CFG_CXL m.src) then s.logFns m else []

/-- The reactions of one delivered message. -/
def State.react (s : State) (m : FaultMsg) : State :=
  let s := s.each (s.loggedIn m) fun s k => s.logEvent m k
  if m.sev < s.get (Reg.EVT_CFG_ACT_SEV m.src) then s else
  let s := if s.flag (Reg.EVT_CFG_ALERT m.src) then
      ((s.modEvents fun e => { e with alerts := e.alerts ++ [m] }).putB Reg.EVT_STATUS_ALERT_PEND true).judgeAlert
    else s
  let s := if s.flag (Reg.EVT_CFG_RETIRE m.src) then s.retireBySource m.src else s
  let s := if s.flag (Reg.EVT_CFG_GF m.src) then
      ((s.modEvents fun e => { e with gfHolds := e.gfHolds ++ [s.frame] }).putB Reg.EVT_STATUS_GF_HELD true).judgeGf
    else s
  let s := if s.flag (Reg.EVT_CFG_SAVE m.src) then (s.modEvents fun e => { e with saveFrame := some s.frame }).trigger 6 else s
  if s.flag (Reg.EVT_CFG_RESET m.src) then s.resetReaction else s

/-! ## FIRST and NEXT (R484 to R487) -/

/-- A message goes before another: higher severity, then lower source. -/
def msgBefore (a b : FaultMsg) : Bool := decide (b.sev < a.sev) || (decide (a.sev = b.sev) && decide (a.src < b.src))

def insertMsg : Nat × FaultMsg → List (Nat × FaultMsg) → List (Nat × FaultMsg)
  | x, [] => [x]
  | x, y :: rest => if msgBefore x.2 y.2 then x :: y :: rest else y :: insertMsg x rest

/-- An arrival enters the NEXT queue, or is lost (R486). -/
def State.enterNext (s : State) (e : EvEntry) : State :=
  if s.events.next.length < 256 then
    (s.modEvents fun x => { x with next := x.next ++ [e] }).put Reg.EVT_STATUS_NEXT_FILL (s.events.next.length + 1)
  else
    let was := s.flag Reg.EVT_STATUS_NEXT_OVF
    let s := (s.bump Reg.EVT_NEXT_LOST_COUNT 1).putB Reg.EVT_STATUS_NEXT_OVF true
    if was then s else s.event 0x4ED 3 Sev.degraded

/-- One cycle's arrivals, by segment (R484, R487). -/
def State.arrive (s : State) (l : List (Nat × FaultMsg)) : State :=
  let l := l.foldl (fun acc x => insertMsg x acc) []
  let entry (x : Nat × FaultMsg) : EvEntry := {
    msg := x.2, timeHi := originHi s.now x.2.time, seg := x.1, same := decide (1 < l.length), sameCount := 0 }
  let s := s.put Reg.EVT_STATUS_WORST (l.foldl (fun m x => max m x.2.sev) (s.get Reg.EVT_STATUS_WORST))
  let rec_ := l.filter fun x => s.flag (Reg.EVT_CFG_RECORD x.2.src)
  let first := if s.flag Reg.EVT_STATUS_FIRST_VALID then none
    else rec_.find? fun x => decide (s.get Reg.EVT_CTRL_FIRST_MIN ≤ x.2.sev)
  let s := match first with
    | some x => (s.modEvents fun e => { e with first := some { entry x with sameCount := l.length - 1 } }).putB Reg.EVT_STATUS_FIRST_VALID true
    | none => s
  let s := s.each (rec_.filter fun x => decide (some x ≠ first)) fun s x => s.enterNext (entry x)
  s.each l fun s x => s.react x.2

/-! ## Raising and delivery (R478 to R482) -/

/-- FAULT_MESSAGE_RAISE (R478): a unit reports a fault that no other command brings about. Management SRAM that loses a word
leaves the preserved area's CRC wrong. -/
def execFaultMessageRaise (m : RaiseIn) (s : State) : Result :=
  occurs (!s.mainOff) s fun s =>
    let s := s.eventAt m.src m.kind m.sev m.req m.acc m.space m.addr
    if m.src.val = 0x4EE ∧ m.kind.val = 0xF2 then s.modUpd fun u => { u with keptOk := false } else s

/-- The pending message that a segment delivers (R479). -/
def State.segWinner (s : State) (seg : Nat) : Option FaultMsg :=
  let l := s.events.pending.filter fun e => decide ((segOf e.1).1 = seg)
  match grant (s.ptr seg (segSize seg)) (segSize seg) (l.map fun e => ((segOf e.1).2, false, e.2.sev)) with
  | some i => (l.find? fun e => decide ((segOf e.1).2 = i)).map (·.2)
  | none => none

/-- One segment's delivery: the message leaves its source; one whose CHECK fails is discarded. -/
def State.deliver (s : State) (d : Delivery) : Option (Nat × FaultMsg) × State :=
  match s.segWinner d.seg with
  | none => (none, s)
  | some m =>
    let s := s.modEvents fun e => { e with pending := sparseErase e.pending m.src }
    if d.corrupt then
      (none, (s.putB Reg.EVT_STATUS_RING_ERR true).eventAt 0x4ED 1 Sev.degraded Who.nobody Access.none 5 (unitAddr 10 d.seg))
    else (some (d.seg.val, m), s)

/-- The deliveries of a cycle, each segment at most once. -/
def State.deliverAll (s : State) (l : List Delivery) : State :=
  let r := l.foldl (fun (acc : List (Nat × FaultMsg) × List Nat × State) d =>
    if acc.2.1.contains d.seg.val then acc
    else
      let x := acc.2.2.deliver d
      (acc.1 ++ x.1.toList, d.seg.val :: acc.2.1, x.2)) ([], [], s)
  if r.1.isEmpty then r.2.2 else r.2.2.arrive r.1

/-! ## Writes to the collector (R485, R486, R488) -/

/-- FIRST_CLR (R485). -/
def State.firstClr (s : State) : State :=
  ((s.modEvents fun e => { e with first := none }).putB Reg.EVT_STATUS_FIRST_VALID false).put Reg.EVT_STATUS_WORST 0

/-- NEXT_POP (R486). -/
def State.nextPop (s : State) : State :=
  (s.modEvents fun e => { e with next := e.next.tail }).put Reg.EVT_STATUS_NEXT_FILL (s.events.next.length - 1)

/-- ALERT_PEND_CLEAR (R488) and an alert response that TW0 wins (R462): every pending alert event is cleared. -/
def State.alertClear (s : State) : State :=
  ((s.modEvents fun e => { e with alerts := [] }).putB Reg.EVT_STATUS_ALERT_PEND false).judgeAlert

/-- A clear takes effect unless a delivery of its own cycle has let it go first. -/
def State.firstClrOnce (s : State) : State :=
  if 0 < s.events.earlyClr then s.modEvents fun e => { e with earlyClr := e.earlyClr - 1 } else s.firstClr
def State.nextPopOnce (s : State) : State :=
  if 0 < s.events.earlyPop then s.modEvents fun e => { e with earlyPop := e.earlyPop - 1 } else s.nextPop
def State.alertClearOnce (s : State) : State :=
  if 0 < s.events.earlyAlert then s.modEvents fun e => { e with earlyAlert := e.earlyAlert - 1 } else s.alertClear

def execFirstClr (path : PathIx) (s : State) : Result := .next (s.begin.reach path 0x020000 State.firstClrOnce)

def execNextPop (path : PathIx) (s : State) : Result := .next (s.begin.reach path 0x020000 State.nextPopOnce)

/-- A waiting command of a delivery's own cycle clears ahead of the delivery (R485, R486, Table 16.8). -/
def State.clearAhead (s : State) (c : Instr) : State :=
  match c with
  | .firstClr path => if s.reaches path 0x020000 then s.firstClr.modEvents fun e => { e with earlyClr := e.earlyClr + 1 } else s
  | .nextPop path => if s.reaches path 0x020000 then s.nextPop.modEvents fun e => { e with earlyPop := e.earlyPop + 1 } else s
  | .alertResponse won => if won && s.tick.aonPowered && !s.pins.alertN
      then s.alertClear.modEvents fun e => { e with earlyAlert := e.earlyAlert + 1 } else s
  | _ => s

/-- FAULT_MESSAGE_DELIVERY (R479, R480, R484 to R488). The next `mates` commands of the queue come in its CCLK cycle. -/
def execFaultMessageDelivery (l : List Delivery) (mates : Nat) (s : State) : Result :=
  occurs (!s.mainOff && !s.events.lost) s fun s => (s.each (s.pending.take mates) State.clearAhead).deliverAll l

/-- GF_RELEASE (R488, R490): every GF hold of at least 2 frames ends. -/
def State.gfRelease (s : State) : State :=
  let l := s.events.gfHolds.filter fun f => decide (s.frame < f + 2)
  ((s.modEvents fun e => { e with gfHolds := l }).putB Reg.EVT_STATUS_GF_HELD (!l.isEmpty)).judgeGf

def execGfRelease (path : PathIx) (s : State) : Result := .next (s.begin.reach path 0x020000 State.gfRelease)

/-- ALERT_PEND_CLEAR (R488). -/
def execAlertPendClear (path : PathIx) (s : State) : Result := .next (s.begin.reach path 0x020004 State.alertClear)

end Sys2Proof.Machine
end

