-- ==== Sys2Proof/Machine/Gauge.lean ====
section
/-!
DEFINITION. Sys2Proof/Machine/Gauge.lean: the gauge, the pack and the charger (13_backup_energy; R69, R70, R75, R132).
Exact values are kept in fractions and rounded down where the register ends.
-/
namespace Sys2Proof.Machine

/-! ## Tables (R385) -/

/-- The two temperature columns around T, the distance past the lower one and between them (0, 15, 25, 45 °C). -/
def tempCols (t : Int) : Nat × Nat × Nat :=
  let t := (max 0 (min 45 t)).toNat
  if t < 15 then (0, t, 15) else if t < 25 then (1, t - 15, 10) else (2, t - 25, 20)

/-- A table row's entry at T, times 60. -/
def rowAt (table : List Nat) (row : Nat) (t : Int) : Int :=
  let (c, f, w) := tempCols t
  let a : Int := table.getD (4 * row + c) 0
  let b : Int := table.getD (4 * row + c + 1) 0
  (a * (w - f) + b * f) * (60 / w : Nat)

/-- OCV of one cell in mV at a SoC in 0.01 %, times 6,000. -/
def State.ocvAt (s : State) (soc : Nat) (t : Int) : Int :=
  let k := min 99 (soc / 100)
  let f := min 100 (soc - 100 * k)
  rowAt s.cfg.ocv k t * (100 - f : Nat) + rowAt s.cfg.ocv (k + 1) t * f

/-- Pack impedance in 0.1 mΩ at a SoC in 0.01 %, times 600,000. -/
def State.zAt (s : State) (soc : Nat) (t : Int) : Int :=
  let x := min 150000 (15 * soc)
  let k := min 14 (x / 10000)
  let f := x - 10000 * k
  rowAt s.gauge.z k t * (10000 - f : Nat) + rowAt s.gauge.z (k + 1) t * f

/-- The highest SoC whose pack OCV is at most a voltage in mV times 6,000, found by halving. -/
def State.socOf (s : State) (v6000 : Int) (t : Int) : Nat :=
  ((List.range 14).foldl (fun r _ =>
    let mid := (r.1 + r.2 + 1) / 2
    if 2 * s.ocvAt mid t ≤ v6000 then (mid, r.2) else (r.1, max r.1 (mid - 1))) (0, 10000)).1

/-! ## State of charge (R382 to R384, R387) -/

def State.fcc (s : State) : Nat := s.get Reg.GAUGE_FCC_FCC_MAH
def State.reserve (s : State) : Nat := s.get Reg.GAUGE_LIMITS_RESERVE_PCT
def State.vPack (s : State) : Int := s.get Reg.GAUGE_CELLS_V0_MV + s.get Reg.GAUGE_CELLS_V1_MV

/-- SoC_count by R382. -/
def State.socCountNow (s : State) : Nat :=
  (max 0 (min 10000 ((s.gauge.socSync : Int) + (s.gauge.charge - s.gauge.chargeSync) / (360000000 * (s.fcc : Int))))).toNat

def State.socUsed (s : State) : Nat :=
  let c := s.get Reg.GAUGE_SOC_COUNT
  if s.flag Reg.GAUGE_STATUS_SOCV_VALID then min c (s.get Reg.GAUGE_SOC_V) else c

/-- A sync (R387): kinds 1 full, 2 rest, 3 learn end, 4 start. -/
def State.sync (s : State) (kind soc : Nat) : State :=
  let err : Int := (soc : Int) - s.get Reg.GAUGE_SOC_COUNT
  let s := (s.put Reg.GAUGE_SYNC_ERR (err % 65536).toNat).put Reg.GAUGE_SYNC_KIND kind
  (s.put Reg.GAUGE_SOC_COUNT soc).modGauge fun g => { g with socSync := soc, chargeSync := g.charge }

/-- The value of a rest sync: no impedance term. -/
def State.restSoc (s : State) : Nat := s.socOf (6000 * s.vPack) s.gauge.temp

/-- A current offset register: the charge in µC, 48 bits signed. -/
def State.showCharge (s : State) : State :=
  let q := (s.gauge.charge / 1000000) % 281474976710656
  (s.wr 0x050004 (BitVec.ofNat 32 q.toNat)).put Reg.GAUGE_CHARGE_HI_CHARGE (q.toNat / 2 ^ 32)

/-! ## Energy, power and budget (R69, R70, R386, R388) -/

/-- E_avail in J. -/
def State.eAvail (s : State) : Nat :=
  let soc := s.socUsed
  let sum := (List.range 100).foldl (fun (n : Int) k =>
    if s.reserve ≤ k ∧ 100 * k < soc then n + s.ocvAt (100 * k + 50) s.gauge.temp * (min 100 (soc - 100 * k) : Nat) else n) 0
  (sum * 72 * s.fcc / 600000000000).toNat

/-- GAUGE_PMAX in 0.1 W. -/
def State.pMax (s : State) : Nat :=
  let t := s.gauge.temp
  let a := 2 * s.ocvAt (100 * s.reserve) t
  let z := s.zAt (100 * s.reserve) t
  let vmin : Int := s.get Reg.GAUGE_CFG_VMIN
  let imax : Int := s.get Reg.GAUGE_CFG_IMAX
  let keep : Int := 100 - (s.get Reg.GAUGE_CFG_MARGIN_PCT : Int)
  let d := a - 60000 * vmin
  if d ≤ 0 then 0
  else if z = 0 ∨ imax * z < 1000 * d then ((1000 * a - imax * z) * imax * keep / 60000000000).toNat
  else (vmin * d * keep / z).toNat

/-- The pack counts as faulted or absent. -/
def State.packOut (s : State) : Bool := packBad s.packNow

/-- n of R69: how many dies GAUGE_PMAX powers beside P_base, at most D. -/
def State.savePower (s : State) : Nat :=
  let p := s.get Reg.GAUGE_PMAX_DECIW - s.get Reg.SAVE_P_BASE_DECIW
  min s.cfg.media.d (100 * p / s.get Reg.SAVE_P_DIE_MW)

/-- EXPO_MAX and EXPO_HOLDUP in patches; EXPO_MAX within its limits (R71, R109). -/
def State.expoMax (s : State) : Nat := s.expoMaxGib * 16384
def State.expoHoldup (s : State) : Nat := s.get Reg.EXPO_HOLDUP_MIB * 16

/-- B of R69 in patches, before EXPO_MAX. -/
def State.expoB (s : State) : Nat :=
  let n := s.savePower
  let saves := max 1 (s.get Reg.EXPO_SAVES_N)
  let e := s.get Reg.GAUGE_EAVAIL_J - saves * s.get Reg.SAVE_E_FIXED_J
  let pm := 100 * s.get Reg.SAVE_P_BASE_DECIW + s.get Reg.SAVE_P_DIE_MW * n
  e * s.get Reg.SAVE_R_DIE_MBPS * n * 16384000000000 / (saves * pm * 1073741824)

/-- The exposure budget in patches; EXPO_BELOW_FLOOR once for each fall below the floor. -/
def State.budget (s : State) : State :=
  if s.packOut ∨ s.savePower < 1 then s.modTick fun t => { t with formBudget := s.expoHoldup }
  else
    let b := min s.expoMax s.expoB
    let low := decide (b < s.get Reg.EXPO_FLOOR_GIB * 16384)
    let s := if low ∧ ¬ s.gauge.belowFloor then s.event 0x47B 1 Sev.degraded else s
    (s.modGauge fun g => { g with belowFloor := low }).modTick fun t => { t with formBudget := max s.expoHoldup b }

/-! ## Pack state and faults (R391, R393, R395) -/

/-- PACK_FET: high once the rails have been up while the pack is present and nothing of Table 13.3 opens it. -/
def State.judgeFet (s : State) : State :=
  let hot := decide (4350 ≤ s.get Reg.GAUGE_CELLS_V0_MV) || decide (4350 ≤ s.get Reg.GAUGE_CELLS_V1_MV)
  let opened := (s.gauge.faults.contains 3 && hot) || (s.gauge.faults.contains 6 && s.gauge.fetHeld)
  let fet := s.gauge.fetArmed && s.gauge.present && !opened
  let s := if opened ∧ s.pins.packFet then s.event 0x47E 1 Sev.degraded else s
  (s.modPins fun p => { p with packFet := fet }).putB Reg.PACK_STATE_FET fet

/-- The state of Table 13.2 that the conditions give, and what a pack that turns faulted or absent ends (R396, R402). -/
def State.judgePack (s : State) : State :=
  let g := s.gauge
  let s := s.put Reg.PACK_STATE_FAULT (g.faults.foldl (fun m c => if m = 0 then c else min m c) 0)
  let st := if s.packNow = 7 then 7
    else if !g.present then 0 else if g.faults ≠ [] then 6 else if !g.auth then 1
    else if s.get Reg.LEARN_STATUS_PHASE = 2 then 5 else if s.pins.chgEn then 2
    else if g.full && decide (100 * s.get Reg.PACK_CHG_RECHARGE_PCT ≤ s.socUsed) then 3 else 4
  let s := if packBad st then (s.learnVoid 4).driveChg false else s
  (s.setPack st).judgeFet

/-- A condition of Table 13.3 arises: its code, source and kind. -/
def State.packFault (s : State) (code src kind : Nat) : State :=
  if s.gauge.faults.contains code then s
  else ((s.modGauge fun g => { g with faults := setInsert g.faults code }).event src kind Sev.degraded).judgePack

def State.packClear (s : State) (code : Nat) : State :=
  (s.modGauge fun g => { g with faults := setErase g.faults code }).judgePack

/-! ## Learned records and pack changes (R394, R397, R404 to R410) -/

/-- The valid copy with the higher sequence number (R408). -/
def State.learned (s : State) : Option Learned :=
  match s.gauge.learnedA, s.gauge.learnedB with
  | some a, some b => some (if b.seq ≤ a.seq then a else b)
  | a, b => a <|> b

/-- The charger table written on TW3 (R397). -/
def State.chargerTable (s : State) (ok : Bool) : State :=
  let s := s.each s.cfg.charger fun s w => s.emit (.twTx 3 w.1 w.2 0)
  if ok then s else s.event 0x478 2 Sev.degraded

/-- The pack EEPROM written back in 16-byte pages and its block checked (R409, R410). -/
def State.writeBack (s : State) (ok : Bool) : State :=
  let s := s.emit (.twTx 3 (s.get Reg.PACK_CFG_EEPROM_ADDR) [] 256)
  s.modGauge fun g => { g with eepromRewrite := !ok }

/-- PACK_CHANGE (R394, R397, R410). -/
def State.packChange (s : State) (e : Eeprom) (chargerOk : Bool) : State :=
  let s := s.modGauge fun g => { g with
    faults := [], fetHeld := false, coolSf := 0, ntcGoodSf := 0, auth := false, authLast := none, authTried := 0
    challenge := none, terminated := false, full := false, taperSf := 0, chgSince := none, discharge := 0, imbalance := false }
  let s := s.put64 0x050110 0x050114 e.serial
  let s := if e.ok then ((s.put Reg.GAUGE_FCC_FCC_MAH e.fcc).put Reg.PACK_CYCLES_COUNT e.cycles).modGauge fun g => { g with z := e.z }
    else
      let s := s.put Reg.GAUGE_FCC_FCC_MAH (e.design.getD (s.get Reg.GAUGE_FCC_DESIGN_MAH))
      let s := (s.put Reg.PACK_CYCLES_COUNT 0).modGauge fun g => { g with z := s.cfg.impSeed, eepromRewrite := true }
      s.event 0x47D 1 Sev.note
  ((s.chargerTable chargerOk).putB Reg.PACK_STATE_AUTH_OK false).wantLearned

/-- The gauge record as the gauge stands (Table 13.6). -/
def State.gaugeRecord (s : State) : GaugeRecord where
  serial := s.get64 0x050110 0x050114
  fcc := s.fcc
  design := s.get Reg.GAUGE_FCC_DESIGN_MAH
  cycles := s.get Reg.PACK_CYCLES_COUNT
  discharge := s.gauge.discharge / 1000000000000
  soc := s.get Reg.GAUGE_SOC_COUNT
  time := s.now
  learnLast := s.get64 0x050208 0x05020C
  z := s.gauge.z

/-- The key record's entries: every VALID or EXHAUSTED slot kept across power-down, with the keys that wait under R350, or
with the new keys of a device-wide erase (R340). -/
def State.keyEntries (s : State) : List KeyEntry :=
  let slots := s.keys.pendingLoad.foldl (fun m p => sparseSet {} m p.slot p.value) s.keys.slots
  let new (i : Nat) : Option Key := if s.fabric.switched then none else s.fabric.newKeys.bind fun l => l[i]?
  slots.filterMap fun e => match e.2.key with
    | some k => if !e.2.persist then none else match new e.1 with
      | some n => some { slot := e.1, gen := (e.2.gen + 1) % 65536, use := e.2.use, key := n }
      | none => some { slot := e.1, gen := e.2.gen, use := e.2.use, key := k }
    | none => none

/-- A whole learned area copy as it would be written now. -/
def State.learnedNow (s : State) (seq : Nat) : Learned where
  seq := seq
  gauge := s.gaugeRecord
  keys := { seq := seq, entries := s.keyEntries }
  volNext := s.gauge.volNext

/-- LEARNED_WRITE_START (R404, R406, R407). -/
def execLearnedWriteStart (s : State) : Result :=
  let floor := s.get Reg.GAUGE_LIMITS_WRITE_FLOOR_MV
  let packOk := !s.packOut && decide (floor ≤ s.get Reg.GAUGE_CELLS_V0_MV) && decide (floor ≤ s.get Reg.GAUGE_CELLS_V1_MV)
  occurs (s.flag Reg.GAUGE_STATUS_WRITE_PENDING && s.gauge.writing.isNone && (s.inputPresent || packOk) &&
      !s.flag Reg.PERS_STATUS_SAVE_ACTIVE && s.spiGrants 2) s fun s =>
    let b := match s.gauge.learnedA, s.gauge.learnedB with
      | none, _ => false
      | some _, none => true
      | some x, some y => decide (y.seq < x.seq)
    let seq := (((if b then s.gauge.learnedA else s.gauge.learnedB).map Learned.seq).getD 0) + 1
    let w : LearnedWrite := {
      copyB := b, image := s.learnedNow seq, covers := s.keys.pendingLoad.length, carries := s.fabric.newKeys.isSome }
    let s := s.modGauge fun g => if b then { g with writing := some w, learnedB := none } else { g with writing := some w, learnedA := none }
    ((s.putB Reg.GAUGE_STATUS_WRITE_PENDING false).putB Reg.GAUGE_STATUS_WRITING true).emit (.nor 2 b.toNat)

/-- A slot takes a new value (R350, R352): the requests bound to its old key, if any, keep that. -/
def State.changeSlot (s : State) (slot : Nat) (v : Slot) : State :=
  let n := s.boundTo slot
  s.modSlot slot fun x => if x.key.isNone ∨ n = 0 then v else { v with old := x.key, oldBound := n, st := .retiring }

/-- A key store command whose key record is written takes effect and completes (R350). -/
def State.keysWritten (s : State) (n : Nat) : State :=
  let now := s.keys.pendingLoad.take n
  let s := s.modKeys fun k => { k with pendingLoad := k.pendingLoad.drop n }
  s.each now fun s p =>
    let s := s.changeSlot p.slot p.value
    match p.fn with
    | some fn => s.reply fn .success []
    | none => s

/-- A learned write ends: WRITING clears, a trigger that came meanwhile leads to one further write (R406), and a pre-ship
write has ended (R548, R550). -/
def State.learnedWriteEnds (s : State) : State :=
  let s := (s.modGauge fun g => { g with writing := none }).putB Reg.GAUGE_STATUS_WRITING false
  if s.gauge.shipWrite ∧ ¬ s.flag Reg.GAUGE_STATUS_WRITE_PENDING then
    let s := s.modGauge fun g => { g with shipWrite := false }
    match s.shake with
    | some h => { s with shake := some { h with shipEnded := true } }.shakeEnds
    | none => s
  else s

/-- LEARNED_WRITE_READBACK (R405): the copy stands, is written once more, or is given up. -/
def execLearnedWriteReadback (ok : Bool) (s : State) : Result :=
  match s.gauge.writing with
  | none => .next s.begin
  | some w =>
    let s := s.begin
    .next (if ok then
        let s := s.modGauge fun g => if w.copyB then { g with learnedB := some w.image, lastWrite := s.now }
          else { g with learnedA := some w.image, lastWrite := s.now }
        let s := if w.carries then s.modFabric fun f => { f with recordDone := f.newKeys.isSome } else s
        (s.keysWritten w.covers).learnedWriteEnds
      else if w.repeated then
        let s := s.event 0x47C 1 Sev.degraded
        (if w.carries || decide (0 < w.covers) then s.event 0x3EC 2 Sev.degraded else s).learnedWriteEnds
      else s.modGauge fun g => { g with writing := some { w with repeated := true } })

/-! ## The superframe part (R69, R379 to R393) -/

/-- A thermistor's temperature from its code by the image's curve of (code, °C) points in rising code. -/
def State.ntcTemp (s : State) (code : Int) : Option Int :=
  let c := s.cfg.dividers.ntc
  let t := (c.zip c.tail).findSome? fun (a, b) =>
    if (a.1 : Int) ≤ code ∧ code ≤ b.1 then some (a.2 + (b.2 - a.2) * (code - a.1) / ((b.1 : Int) - a.1)) else none
  t.filter fun x => decide (-40 ≤ x ∧ x ≤ 100)

/-- R380: cell voltages and temperatures. -/
def State.measure (s : State) (i : SuperIn) : State :=
  let tap (k code : Nat) : Int := codeMv (s.corrected (34 + k) 1 code) (s.cfg.dividers.cell.getD k 0)
  let v0 := max 0 (tap 0 i.tap0)
  let v1 := max 0 (tap 1 i.tap1 - tap 0 i.tap0)
  let t0 := s.ntcTemp (s.corrected 36 1 i.ntc0)
  let t1 := s.ntcTemp (s.corrected 37 1 i.ntc1)
  let byte (t : Option Int) : Nat := match t with | some x => (x % 256).toNat | none => 0x80
  let s := (s.put Reg.GAUGE_CELLS_V0_MV (min v0.toNat 65535)).put Reg.GAUGE_CELLS_V1_MV (min v1.toNat 65535)
  let s := (s.put Reg.GAUGE_MEAS_T0 (byte t0)).put Reg.GAUGE_MEAS_T1 (byte t1)
  let s := s.put Reg.GAUGE_STATUS_NTC_VALID (t0.isSome.toNat + 2 * t1.isSome.toNat)
  let t := match t0, t1 with
    | some a, some b => min a b
    | some a, none => a
    | none, some b => b
    | none, none => s.gauge.temp
  let apart : Bool := match t0, t1 with
    | some a, some b => decide (10 < a - b ∨ 10 < b - a)
    | _, _ => false
  let s := if apart ∧ ¬ s.gauge.ntcFail then s.event (if t1.getD 0 ≤ t0.getD 0 then 0x472 else 0x473) 1 Sev.note else s
  s.modGauge fun g => { g with temp := t, ntc := [t0, t1], ntcFail := apart, alertLow := i.alertLow }

/-- The EEPROM read of a start (R394, R409): a serial other than the learned record's is a pack change. -/
def State.readSerial (s : State) (i : SuperIn) : State :=
  if s.gauge.serialSeen || !s.gauge.present || !s.gauge.fetArmed then s else
  let s := s.modGauge fun g => { g with serialSeen := true }
  if s.learned.any (fun l => decide (l.gauge.serial ≠ i.eeprom.serial)) then s.packChange i.eeprom i.chargerOk
  else s.put64 0x050110 0x050114 i.eeprom.serial

/-- The charger table of a start (R397). -/
def State.startCharger (s : State) (i : SuperIn) : State :=
  if s.gauge.chargerSet || !s.gauge.fetArmed then s else (s.chargerTable i.chargerOk).modGauge fun g => { g with chargerSet := true }

/-- R381, R394: presence, and the pack change that a return after 1 s is. -/
def State.presence (s : State) (i : SuperIn) : State :=
  let high := decide (4000 ≤ s.vPack)
  if high ∧ ¬ s.gauge.present then
    let gone : Bool := match s.gauge.absentAt with | some t => decide (t + sec 1 ≤ s.now) | none => false
    let s := s.modGauge fun g => { g with
      present := true, lowSf := 0, absentAt := none, auth := false, authLast := none, authTried := 0 }
    let s := s.event 0x476 1 Sev.note
    if gone then (s.packChange i.eeprom i.chargerOk).modGauge fun g => { g with serialSeen := true } else s
  else if high then s.modGauge fun g => { g with lowSf := 0 }
  else if s.gauge.present then
    if 1 ≤ s.gauge.lowSf then
      (s.modGauge fun g => { g with present := false, lowSf := 0, absentAt := some s.now }).event 0x476 2 Sev.degraded
    else s.modGauge fun g => { g with lowSf := g.lowSf + 1 }
  else s

/-- The conditions of Table 13.3 that a superframe judges, and the counts behind them. -/
def State.superFaults (s : State) : State :=
  let v0 := s.get Reg.GAUGE_CELLS_V0_MV
  let v1 := s.get Reg.GAUGE_CELLS_V1_MV
  let t := s.gauge.temp
  let valid := s.gauge.ntc.any Option.isSome
  let s := if s.gauge.alertLow then s.packFault 2 0x477 1 else s
  let s := if 4250 < v0 then s.packFault 3 0x474 1 else if 4250 < v1 then s.packFault 3 0x475 1 else s
  let src := if s.gauge.ntc.getD 0 none = some t then 0x472 else 0x473
  let s := if valid ∧ 60 < t then s.packFault 6 src 2 else s
  let s := s.modGauge fun g => { g with
    fetHeld := g.faults.contains 6 && (g.fetHeld || decide (70 ≤ t))
    coolSf := if valid ∧ t < 50 then g.coolSf + 1 else 0
    ntcGoodSf := if valid then g.ntcGoodSf + 1 else 0 }
  let s := if s.gauge.faults.contains 6 ∧ 1024 ≤ s.gauge.coolSf then s.packClear 6 else s
  let s := if valid then s else s.packFault 7 0x472 3
  let s := if s.gauge.faults.contains 7 ∧ 1024 ≤ s.gauge.ntcGoodSf then s.packClear 7 else s
  let apart := decide (80 < v0 - v1 ∨ 80 < v1 - v0)
  let s := if apart ∧ ¬ s.gauge.imbalance then s.event 0x477 3 Sev.note else s
  let high := decide (4085 ≤ v0) && decide (4085 ≤ v1) && s.pins.chgEn &&
    decide (s.gauge.frameCur < s.get Reg.PACK_CHG_TAPER_MA)
  s.modGauge fun g => { g with
    imbalance := apart, taperSf := if high then g.taperSf + 1 else 0
    learnBadSf := if 10 ≤ t ∧ t ≤ 40 then 0 else g.learnBadSf + 1 }

/-- GAUGE_SUPERFRAME_STEP. -/
def State.gaugeSuperframe (s : State) (i : SuperIn) : State :=
  let s := ((((s.measure i).presence i).readSerial i).startCharger i).superFaults
  let s := (s.put Reg.GAUGE_SOC_COUNT s.socCountNow).judgePack
  let s := s.put Reg.GAUGE_EAVAIL_J s.eAvail
  let s := s.putSat Reg.GAUGE_PMAX_DECIW s.pMax
  s.budget

/-! ## The frame part (R132, R379, R401) -/

/-- The converter's frame: its mean current in mA; outside ±40 mV it counts at full scale (R379). -/
def State.frameCurrent (s : State) (shunt : Int) : Int :=
  let v := max (-40000000) (min 40000000 shunt)
  s.corrected 38 100 v / (max 1 (s.get Reg.GAUGE_SHUNT_UOHM) : Nat)

/-- The charge, the step's current statistics, current steps, rest, discharge and the save's energy of one frame. -/
def State.gaugeFrame (s : State) (shunt : Int) : State :=
  let i := s.frameCurrent shunt
  let old := s.gauge.frameCur
  let q := i * 1024
  let stepped := decide (400 ≤ i - old ∨ 400 ≤ old - i)
  let vp := s.vPack
  let t := s.gauge.temp
  let s := if shunt < -40000000 ∨ 40000000 < shunt then
      (if s.flag Reg.GAUGE_STATUS_CONV_SAT then s else s.event 0x470 1 Sev.note).putB Reg.GAUGE_STATUS_CONV_SAT true else s
  let keepImp (x : ImpStep) : Bool :=
    let d := if i ≤ x.iNew then x.iNew - i else i - x.iNew
    decide (20 * d ≤ (if 0 ≤ x.iNew then x.iNew else -x.iNew)) && decide (0 ≤ t ∧ t ≤ 45)
  let s := s.modGauge fun g => { g with
    charge := g.charge + q, frameCur := i, discharge := g.discharge + (max 0 (-q)).toNat
    stepN := g.stepN + 1, stepSum := g.stepSum + i
    stepMin := if g.stepN = 0 then i else min g.stepMin i, stepMax := if g.stepN = 0 then i else max g.stepMax i
    lastStepSf := if stepped then some s.sf else g.lastStepSf
    restSince := if -20 < i ∧ i < 20 then (if g.restSince.isSome then g.restSince else some s.now) else none
    imp := if stepped then some { sf := s.sf, vOld := vp, iOld := old, iNew := i } else g.imp.filter keepImp }
  let s := s.putB Reg.GAUGE_STATUS_REST (match s.gauge.restSince with | some t => decide (t + sec 1800 ≤ s.now) | none => false)
  let s := s.put Reg.GAUGE_MEAS_CURRENT_MA (i % 65536).toNat
  let s := if s.save.frame0.isSome then s.modSave fun x => { x with energy := x.energy - q * vp } else s
  s.showCharge

/-- LEARN_LOAD_REGULATE (R401). -/
def State.learnRegulate (s : State) : State :=
  if s.get Reg.LEARN_STATUS_PHASE ≠ 2 ∨ s.save.frame0.isSome ∨ s.save.holdAt.isSome then s else
  let point := s.socUsed * 15 / 10000
  let s := if point < s.gauge.pulsePoint then s.modGauge fun g => { g with pulsePoint := point, pulseUntil := s.sf + 64 } else s
  if s.sf < s.gauge.pulseUntil then s.modPins fun p => { p with learnLoad := 0 }
  else
    let power := s.vPack * (-s.gauge.frameCur)
    let want : Int := s.get Reg.LEARN_CFG_POWER_DW * 100000
    let duty := if 100 * power < 95 * want then min 255 (s.gauge.duty + 1)
      else if 105 * want < 100 * power then s.gauge.duty - 1 else s.gauge.duty
    (s.modGauge fun g => { g with duty := duty }).modPins fun p => { p with learnLoad := duty }

/-- The mask of the quadrants that still save, as they contribute it (R133). -/
def State.saveMask (s : State) : Nat := (List.range 4).foldl (fun m q => if (s.quad q).saveMask then m + 2 ^ q else m) 0

/-- SAVE_TOKEN_ALLOT (R132, R133, R136): the allotment of the frame that begins, halved while PACK_SENSE is low, and the mask
published with it. Of a gauge without frame-done the last allotment stays (R27). -/
def State.tokenAllot (s : State) (packCode : Nat) (late : Bool) : State :=
  if !s.flag Reg.PERS_STATUS_SAVE_ACTIVE then s else
  let s := if s.save.arrived then s.put Reg.SAVE_TOKENS_WRITING s.saveMask else s
  if late ∧ s.save.history ≠ [] then
    s.modSave fun x => { x with history := (s.get Reg.SAVE_TOKENS_ALLOT :: x.history).take 256 }
  else
  let cv := codeMv (s.corrected 33 1 packCode) s.cfg.dividers.pack / 10
  let hold := s.packOut || decide (s.savePower < 1)
  let full := if hold then s.get Reg.SAVE_POWER_HOLDUP_TOKENS else s.savePower
  let low := decide (cv < (s.get Reg.SAVE_POWER_VBUS_MIN_CV : Int))
  let now := if s.save.history = [] then full else s.get Reg.SAVE_TOKENS_ALLOT
  let a := max 1 (if low then now / 2 else full)
  let s := if hold then s.putB Reg.SAVE_STATUS_ON_HOLDUP true else s
  let s := if low then s.putB Reg.SAVE_STATUS_VBUS_LOW true else s
  (s.put Reg.SAVE_TOKENS_ALLOT a).modSave fun x => { x with history := (a :: x.history).take 256 }

/-! ## The full step (R387, R389, R396 to R403, R542) -/

/-- SoC_v of the step, if it is valid (R383). -/
def State.socV (s : State) : Option Nat :=
  let g := s.gauge
  let n : Int := max 1 g.stepN
  let mean := g.stepSum / n
  let calm : Bool := match g.lastStepSf with | some x => decide (x + 16 < s.sf) | none => true
  if -2000 ≤ mean ∧ mean ≤ 2000 ∧ g.stepMax - g.stepMin < 50 ∧ calm ∧ 0 ≤ g.temp ∧ g.temp ≤ 45 then
    some (s.socOf (6000 * s.vPack - mean * s.zAt s.socUsed g.temp / 1000000) g.temp)
  else none

/-- GAUGE_DISAGREE (R389). -/
def State.judgeDisagree (s : State) : State :=
  let r := 100 * s.reserve
  let c := s.get Reg.GAUGE_SOC_COUNT
  let v := s.get Reg.GAUGE_SOC_V
  if s.flag Reg.GAUGE_STATUS_SOCV_VALID ∧ ((c ≤ r ∧ r + 800 < v) ∨ (v ≤ r ∧ r + 800 < c)) then
    let s := if s.flag Reg.GAUGE_STATUS_DISAGREE then s else s.event 0x47A 1 Sev.degraded
    (s.putB Reg.GAUGE_STATUS_DISAGREE true).learnVoid 2
  else s

/-- A controller that no master serves takes its own permissions: it speaks no Burnor, or has heard nothing from a master
for 2 fingerprint periods (R396, R400, R446). -/
def State.masterless (s : State) : Bool :=
  !s.inGroup || (!s.isMaster && decide ((s.group.syncHeard.getD (s.group.positionAt / 1048576)) + 2048 ≤ s.sf))

/-- Charge permission held, or not needed. -/
def State.chgAllowed (s : State) : Bool := !s.flag Reg.PACK_CFG_GROUP_CHG || s.gauge.chgGrant

/-- A charge permission is asked for (R396, R444). -/
def State.askChg (s : State) : State :=
  if s.masterless then
    if s.gauge.selfGrantAt.isSome ∨ ¬ s.rngOk then s else
    let (n, s) := s.drawNat
    s.modGauge fun g => { g with selfGrantAt := some (s.now + n % 15000000001) }
  else if s.gauge.chgWanted then s
  else
    let s := s.modGauge fun g => { g with chgWanted := true }
    if s.isMaster then (s.modMember 0 fun m => { m with chgPend := true }).chgGrantNext 32
    else s.emit (.burnor 0x04 none [s.get Reg.SEQ_GROUP_STATUS_POSITION])

/-- A charge has ended or is no longer wanted: its permission goes back. -/
def State.endChg (s : State) : State :=
  let held := s.gauge.chgGrant || s.gauge.chgWanted
  let s := (s.modGauge fun g => { g with chgGrant := false, chgWanted := false, selfGrantAt := none }).putB
    Reg.SEQ_GROUP_STATUS_CHG_PERMIT false
  if !held then s else if s.isMaster then s.chgGrantEnds 0
  else if s.inGroup then s.emit (.burnor 0x06 none [s.get Reg.SEQ_GROUP_STATUS_POSITION]) else s

/-- R396: CHG_EN is decided. -/
def State.decideChg (s : State) : State :=
  let t := s.gauge.temp
  let st := s.packNow
  let tOk := decide (5 * (s.get Reg.PACK_CHG_TMIN : Int) ≤ t) && decide (t ≤ 5 * (s.get Reg.PACK_CHG_TMAX : Int))
  let want := (decide (st = 4) || decide (st = 2)) &&
    (decide (s.socUsed < 100 * s.get Reg.PACK_CHG_RECHARGE_PCT) || !s.gauge.terminated) &&
    decide (s.get Reg.LEARN_STATUS_PHASE ≠ 2) && !s.flag Reg.PERS_STATUS_SAVE_ACTIVE && s.save.frame0.isNone && s.save.holdAt.isNone
  let s := if want ∧ ¬ s.chgAllowed then s.askChg else s
  let s := if !want ∧ !s.pins.chgEn then s.endChg else s
  let on := want && tOk && s.chgAllowed
  let s := s.putB Reg.PACK_STATE_CHG_INHIBIT (want && s.chgAllowed && !tOk)
  let was := s.pins.chgEn
  let s := s.driveChg on
  let s := if was && !on then s.endChg else s
  s.modGauge fun g => { g with chgSince := if on then (if g.chgSince.isSome then g.chgSince else some s.now) else none
                               full := if on then false else g.full }

/-- CHARGE_TERMINATE (R398). -/
def State.chargeTerminate (s : State) : State :=
  let s := (s.driveChg false).sync 1 10000
  let s := s.modGauge fun g => { g with terminated := true, full := true, taperSf := 0, chgSince := none }
  (if s.get Reg.LEARN_STATUS_PHASE = 3 then s.put Reg.LEARN_STATUS_PHASE 0 else s).endChg

/-- LEARN_START (R400). -/
def State.learnStart (s : State) : State :=
  let input := s.inputPresent
  if s.get Reg.LEARN_STATUS_PHASE = 1 ∧ s.packNow = 3 ∧ 10 ≤ s.gauge.temp ∧ s.gauge.temp ≤ 40 ∧ input ∧
      s.get Reg.EXPO_LEVEL_LEVEL = 0 ∧ ¬ s.flag Reg.PERS_STATUS_RESTORE_PENDING ∧ (s.gauge.learnGrant ∨ s.masterless) ∧
      s.save.frame0.isNone then
    let s := ((s.driveChg false).put Reg.LEARN_STATUS_PHASE 2).put Reg.LEARN_STATUS_Q_MAH 0
    (s.modGauge fun g => { g with
      learnCStart := g.charge, learnStart := s.now, learnBadSf := 0, duty := 0, full := false, learnDueAt := none
      pulsePoint := s.socUsed * 15 / 10000, pulseUntil := 0 }).setPack 5
  else s

/-- LEARN_END of a valid learn (R402, R387): FCC, the sync to SoC_v, and fault 9. -/
def State.learnValid (s : State) : State :=
  let d := (s.gauge.learnCStart - s.gauge.charge) * 100 / (3600000000000 * (100 - (s.reserve : Int)))
  let s := (s.putSat Reg.GAUGE_FCC_FCC_MAH d.toNat).sync 3 (s.get Reg.GAUGE_SOC_V)
  let s := (s.put64 0x050208 0x05020C s.now).learnEnd 1 false
  let s := if s.fcc * 100 < s.get Reg.LEARN_CFG_FCC_MIN_PCT * s.get Reg.GAUGE_FCC_DESIGN_MAH then s.packFault 9 0x479 3 else s
  s.wantLearned

/-- The learn's progress and its ends at a gauge step (Table 13.4), and whether it ended valid. -/
def State.learnProgress (s : State) : Bool × State :=
  if s.get Reg.LEARN_STATUS_PHASE ≠ 2 then (false, s) else
  let s := s.putSat Reg.LEARN_STATUS_Q_MAH (((s.gauge.learnCStart - s.gauge.charge) / 3600000000000).toNat)
  let mins := 2 * (if s.get Reg.LEARN_CFG_MAX_MIN = 0 then 255 else s.get Reg.LEARN_CFG_MAX_MIN)
  if s.flag Reg.GAUGE_STATUS_SOCV_VALID ∧ s.get Reg.GAUGE_SOC_V ≤ 100 * s.reserve ∧ s.get Reg.GAUGE_SOC_COUNT ≤ 100 * s.reserve + 800
  then (true, s.learnValid)
  else if 1024 ≤ s.gauge.learnBadSf then (false, s.learnVoid 5)
  else if s.gauge.learnStart + sec (60 * mins) < s.now then (false, s.learnVoid 6)
  else (false, s)

/-- The conditions of Table 13.3 that a gauge step judges. -/
def State.stepFaults (s : State) : State :=
  let v0 := s.get Reg.GAUGE_CELLS_V0_MV
  let v1 := s.get Reg.GAUGE_CELLS_V1_MV
  let low := s.flag Reg.GAUGE_STATUS_SOCV_VALID && !s.flag Reg.PERS_STATUS_SAVE_ACTIVE && s.gauge.present
  let s := if low ∧ v0 < 2800 then s.packFault 4 0x474 2 else if low ∧ v1 < 2800 then s.packFault 4 0x475 2 else s
  let s := if s.gauge.present ∧ (200 < v0 - v1 ∨ 200 < v1 - v0) then s.packFault 5 0x477 2 else s
  let mins := if s.get Reg.PACK_CHG_TIMEOUT_MIN = 0 then 240 else s.get Reg.PACK_CHG_TIMEOUT_MIN
  match s.gauge.chgSince with
  | some t => if t + sec (60 * mins) < s.now ∧ s.pins.chgEn then s.packFault 8 0x478 1 else s
  | none => s

/-- The syncs of a step that made no full sync: start, else rest (R387, R389, R408). -/
def State.stepSync (s : State) (fullSync : Bool) : State :=
  if !s.gauge.started then
    let recent := s.learned.filter fun l => decide (s.now < l.gauge.time + sec 1800) && !s.flag Reg.TICK_STATUS_AON_RESTART
    match recent with
    | some l => s.sync 4 l.gauge.soc
    | none => s.sync 4 s.restSoc
  else if fullSync then s
  else if s.flag Reg.GAUGE_STATUS_REST then (s.sync 2 s.restSoc).putB Reg.GAUGE_STATUS_DISAGREE false
  else s

/-- pC in one mAh. -/
def pcPerMah : Nat := 3600000000000

/-- The cycle count advances when the discharge reaches FCC (R408); whether it did. -/
def State.stepCycle (s : State) : Bool × State :=
  let full := s.fcc * pcPerMah
  if 0 < s.fcc ∧ full ≤ s.gauge.discharge then
    (true, ((s.modGauge fun g => { g with discharge := g.discharge - full }).bump Reg.PACK_CYCLES_COUNT 1).wantLearned)
  else (false, s)

/-- The step's SoC_v shown, or found not valid. -/
def State.showSocV (s : State) (v : Option Nat) : State :=
  match v with
  | some v => (s.put Reg.GAUGE_SOC_V v).putB Reg.GAUGE_STATUS_SOCV_VALID true
  | none => s.putB Reg.GAUGE_STATUS_SOCV_VALID false

/-- The charge terminates (R398). -/
def State.terminates (s : State) : Bool := s.pins.chgEn && decide (16 ≤ s.gauge.taperSf)

/-- SoC_v, disagreement, faults, termination and syncs of a gauge step. -/
def State.stepJudge (s : State) : State :=
  let s := (s.showSocV s.socV).judgeDisagree.stepFaults
  if s.terminates then s.chargeTerminate.stepSync true else s.stepSync false

/-- CHG_EN is decided; a learn permission held when charging starts goes back unused (Table 13.8). -/
def State.stepCharge (s : State) : State :=
  let had := s.pins.chgEn
  let s := s.judgePack.decideChg.judgePack
  if s.pins.chgEn && !had && s.gauge.learnGrant then
    let s := (s.modGauge fun g => { g with learnGrant := false }).putB Reg.LEARN_STATUS_PERMIT false
    if s.isMaster then s.learnGrantEnds 0 else s.emit (.burnor 0x09 none [s.get Reg.SEQ_GROUP_STATUS_POSITION, 0])
  else s

/-- GAUGE_FULL_STEP. -/
def State.gaugeFull (s : State) (i : FullStepIn) : State :=
  let (cycle, s) := s.stepJudge.stepCycle
  let (valid, s) := s.learnProgress
  let s := if cycle || valid || s.gauge.eepromRewrite then s.writeBack i.backOk else s
  let s := s.stepCharge.learnStart
  let s := if s.gauge.lastWrite + sec 3600 ≤ s.now then s.wantLearned else s
  (s.modGauge fun g => { g with started := true, stepN := 0, stepSum := 0, stepMin := 0, stepMax := 0 }).putB Reg.GAUGE_STATUS_READY true

/-- GAUGE_FULL_STEP: at every 1,024th superframe, and at the first one of a start (R542). -/
def execGaugeFullStep (i : FullStepIn) (s : State) : Result :=
  occurs (s.tick.clocksOn && s.gauge.fetArmed && (decide (s.sf % 1024 = 0) || !s.gauge.started)) s fun s => s.gaugeFull i

/-! ## Impedance (R390) -/

/-- A table entry replaced. -/
def tableSet (l : List Nat) (i v : Nat) : List Nat := listUpd l i fun _ => v

/-- IMPEDANCE_STEP_QUALIFY: 16 superframes after a current step that has held. -/
def execImpedanceStepQualify (s : State) : Result :=
  match s.gauge.imp with
  | none => .next s.begin
  | some x => occurs (decide (x.sf + 16 ≤ s.sf) && decide (x.iNew ≠ x.iOld)) s fun s =>
    let z := (s.vPack - x.vOld) * 10000 / (x.iNew - x.iOld)
    let row := (s.socUsed * 15 + 4999) / 10000
    let t := s.gauge.temp
    let col := if 2 * t ≤ 15 then 0 else if t ≤ 20 then 1 else if t ≤ 35 then 2 else 3
    let seed : Int := s.cfg.impSeed.getD (4 * row + col) 0
    let old := s.gauge.z.getD (4 * row + col) 0
    let s := s.modGauge fun g => { g with imp := none }
    if seed ≤ 2 * z ∧ z ≤ 4 * seed then
      let new := ((old : Int) + (z - old) / 8).toNat
      s.modGauge fun g => { g with z := (List.range 4).foldl (fun l c =>
        tableSet l (4 * row + c) (if c = col then new else l.getD (4 * row + c) 0 * new / old)) g.z }
    else s.bump Reg.GAUGE_SYNC_Z_REJECTS 1

/-! ## Authentication (R392) -/

/-- The latest attempt passed or failed; a pass clears fault 2 once the alert is released. -/
def State.authEnds (s : State) (pass : Bool) : State :=
  let s := (s.modGauge fun g => { g with authTried := 0, authLast := some s.now, challenge := none }).putB Reg.PACK_STATE_AUTH_OK pass
  if pass then
    let s := (s.modGauge fun g => { g with auth := true }).judgePack
    if s.gauge.faults.contains 2 ∧ ¬ s.gauge.alertLow then s.packClear 2 else s
  else s.packFault 1 0x476 3

/-- An attempt is due: at a start, when the pack becomes present, 24 h after the latest one, when fault 2's alert is
released, and at the two gauge steps after a transaction failed. -/
def State.authDue (s : State) : Bool :=
  s.gauge.present && s.gauge.challenge.isNone && !s.flag Reg.PERS_STATUS_SAVE_ACTIVE && s.gauge.fetArmed &&
  (match s.gauge.authLast with
    | none => true
    | some t => decide (t + sec 86400 ≤ s.now) || (s.gauge.faults.contains 2 && !s.gauge.alertLow)) &&
  (decide (s.gauge.authTried = 0) || (decide (s.sf % 1024 = 0) && decide (s.gauge.challengeAt < s.sf * 1048576)))

/-- PACK_AUTH_START: steps 1 and 2 of R392. -/
def execPackAuthStart (s : State) : Result :=
  occurs s.authDue s fun s =>
    if !s.flag Reg.PACK_CFG_AUTH_EN then s.authEnds true
    else if (s.slot 24).st ≠ .valid then s.authEnds false
    else if !s.rngOk then s
    else
      let (n, s) := s.drawNat
      (s.modGauge fun g => { g with challenge := some n, challengeAt := s.now }).emit
        (.twTx 3 (s.get Reg.PACK_CFG_AUTH_ADDR) ((List.range 16).map fun i => n / 256 ^ i % 256) 0)

/-- PACK_AUTH_RESPONSE: 10 ms after the challenge, steps 3 and 4. -/
def execPackAuthResponse (resp : AuthResp) (s : State) : Result :=
  occurs (s.gauge.challenge.isSome && decide (s.gauge.challengeAt + ms 10 ≤ s.now) && !s.flag Reg.PERS_STATUS_SAVE_ACTIVE) s fun s =>
    let s := (s.bump Reg.CIPH_CTRL_COUNT_COUNT (match resp with | .none => 0 | _ => 1))
    match resp with
    | .good => (s.invoke 24).authEnds true
    | .bad => (s.invoke 24).authEnds false
    | .none =>
      if s.gauge.authTried + 1 < 3 then s.modGauge fun g => { g with authTried := g.authTried + 1, challenge := none }
      else s.authEnds false

/-! ## Charge and learn permissions (R396, R399) -/

/-- CHG_SELF_GRANT: the delay of 0 to 15 s has passed without a master. -/
def execChgSelfGrant (s : State) : Result :=
  match s.gauge.selfGrantAt with
  | none => .next s.begin
  | some t => occurs (s.masterless && decide (t ≤ s.now)) s fun s =>
      (s.modGauge fun g => { g with chgGrant := true, selfGrantAt := none }).putB Reg.SEQ_GROUP_STATUS_CHG_PERMIT true

/-- A learn falls due; the permission is asked for (R399, R444). -/
def State.learnFallsDue (s : State) : State :=
  let s := (s.put Reg.LEARN_STATUS_PHASE 1).modGauge fun g => { g with learnDueAt := some s.now, learnNext := none }
  if s.masterless then s
  else if s.isMaster then (s.modGroup fun g => { g with learnPend := setInsert g.learnPend 0 }).learnGrantNext
  else s.emit (.burnor 0x07 none [s.get Reg.SEQ_GROUP_STATUS_POSITION])

/-- LEARN_DUE: LEARN_CFG.DAYS since LEARN_LAST, or the time a void learn set. -/
def execLearnDue (s : State) : Result :=
  let days := s.get Reg.LEARN_CFG_DAYS
  let ph := s.get Reg.LEARN_STATUS_PHASE
  let due : Bool := match s.gauge.learnNext with
    | some t => decide (t ≤ s.now)
    | none => decide (s.get64 0x050208 0x05020C + sec (86400 * days) ≤ s.now)
  occurs (decide (days ≠ 0) && due && (decide (ph = 0) || decide (ph = 3))) s State.learnFallsDue

/-- LEARN_NOT_STARTED: a due learn that has not started within 24 h. -/
def execLearnNotStarted (s : State) : Result :=
  match s.gauge.learnDueAt with
  | none => .next s.begin
  | some t => occurs (decide (s.get Reg.LEARN_STATUS_PHASE = 1) && decide (t + sec 86400 ≤ s.now)) s fun s => s.learnEnd 7 true

/-- CONV_SAT (R379): the shunt voltage lies outside ±40 mV. -/
def execConvSat (s : State) : Result :=
  .next ((s.begin.putB Reg.GAUGE_STATUS_CONV_SAT true).event 0x470 1 Sev.note)

end Sys2Proof.Machine
end

