-- ==== Sys2Proof/Machine/Rails.lean ====
section
/-!
DEFINITION. Sys2Proof/Machine/Rails.lean: the rail sequencer (14_power_sequencing): stages, power-up, retries, faults and
their reactions, rail domains, incidents and the first-failure log.
-/
namespace Sys2Proof.Machine

/-! ## The rail table (R415, R418) -/

/-- The parents that RAIL_CFG1 names. -/
def State.parents (s : State) (k : Nat) : List Nat :=
  ([s.get (Reg.RAIL_CFG1_PARENT0 k), s.get (Reg.RAIL_CFG1_PARENT1 k), s.get (Reg.RAIL_CFG1_PARENT2 k),
    s.get (Reg.RAIL_CFG1_PARENT3 k)].filter fun p => decide (32 ≤ p)).map (· % 32)

/-- The dependants of a rail: the main rails that name it as a parent, with their own dependants. -/
def State.dependants (s : State) (k : Nat) : List Nat :=
  (List.range 9).foldl (fun acc _ => (List.range 32).filter fun x =>
    decide (4 ≤ x) && s.railPresent x && (acc.contains x || (s.parents x).any fun p => decide (p = k) || acc.contains p)) []

/-- Present main rails. -/
def State.mainRails (s : State) : List Nat := (List.range 32).filter fun k => decide (4 ≤ k) && s.railPresent k

/-- A rail ends a step of its sequencing in a state of Table 14.23. -/
def State.railEnds (s : State) (k st : Nat) : State :=
  (s.put (Reg.RAIL_STATUS_STATE k) st).modRail k fun r => { r with endedAt := s.now }

/-- Good, or held off, as R420 counts it: a retry's wait counts as held off. -/
def State.railEnded (s : State) (k : Nat) : Bool := decide (3 ≤ s.get (Reg.RAIL_STATUS_STATE k))

/-! ## Incidents (R435) -/

/-- A declaration on a rail (R424, R421): LAST_FAULT, and an incident opens, or the open one's frame takes the rail. -/
def State.declareRail (s : State) (k kind : Nat) : State :=
  let s := s.put (Reg.RAIL_STATUS_LAST_FAULT k) kind
  if !s.flag Reg.SEQ_STATUS_INCIDENT then
    (s.putB Reg.SEQ_STATUS_INCIDENT true).modSeq fun x => { x with
      incident := some { rail := k, kind := kind, frame := s.frame, time := s.now, sameFrame := [k] } }
  else match s.seq.incident with
    | some i =>
      if i.recorded ∨ i.frame ≠ s.frame then s else
      let i := { i with sameFrame := setInsert i.sameFrame k }
      s.modSeq fun x => { x with incident := some (if i.time = s.now ∧ k < i.rail then { i with rail := k, kind := kind } else i) }
    | none => s

/-- The incident closes when every present rail is good or held off with no retry left. -/
def State.judgeIncident (s : State) : State :=
  let ok (k : Nat) : Bool := s.railIsGood k || decide (s.get (Reg.RAIL_STATUS_STATE k) = 5)
  if s.flag Reg.SEQ_STATUS_INCIDENT && (List.range 32).all fun k => !s.railPresent k || ok k
  then s.putB Reg.SEQ_STATUS_INCIDENT false else s

/-- FIRST_FAILURE_RECORD (R435, R436). -/
def execFirstFailureRecord (s : State) : Result :=
  match s.seq.incident with
  | none => .next s.begin
  | some i => occurs (!i.recorded && decide (i.frame < s.frame)) s fun s =>
      let s := s.modSeq fun x => { x with incident := some { i with recorded := true } }
      let s := s.logRecordAt i.time (.firstFailure i.rail i.kind (s.get Reg.SEQ_STATUS_STATE) (s.get (Reg.RAIL_CFG0_REACTION i.rail))
        i.sameFrame (s.get (Reg.RAIL_ADC_RAW i.rail)) s.pins.vinMv (s.get Reg.PACK_STATE_STATE) (s.get Reg.SAVE_STATUS_PHASE))
      let s := if s.gauge.writing.isSome then (s.emit (.norErase false)).emit (.norErase true) else s
      let s := (s.put Reg.SEQ_FIRST_RAIL i.rail).put Reg.SEQ_FIRST_KIND i.kind
      (s.put Reg.SEQ_FIRST_SAME_FRAME i.sameFrame.length).put64 0x060014 0x060018 i.time

/-! ## Rail domains (R172, R427, R610) -/

/-- The programs of skim versions that a quadrant's lost rail leaves (R172): those not started are dropped, the others complete
unrecorded; their patches stay as they are. -/
def State.skimLost (s : State) (q : Nat) : State :=
  let s := s.each ((s.quad q).versions.filter fun v => decide (v.stage = .handed)) fun s v =>
    (s.modDie v.die (Die.without (.program v.body none))).dropVersion q v.body
  s.modQuad q fun d => { d with versions := d.versions.map fun v => { v with abandoned := true } }

/-- A flash read for the quadrant's DRAM: of a fill, a heal or a merge. -/
def DieOp.forDram (o : DieOp) : Bool := match o.kind with
  | .read _ (.fill _) => true
  | .read _ (.heal _) => true
  | .read _ (.merge _) => true
  | _ => false

/-- What waits at a sub-channel of a lost quadrant (R172): reads are answered with poison, writes completed and discarded, each
written line listed. -/
def State.channelLost (s : State) (n : Nat) : State :=
  let reads : List QEntry := ((s.sc n).readQ ++ (s.sc n).inFlight.map InFlight.entry).filter fun e => e.head.isSome
  let s := s.each reads fun s e => s.sendDrs (e.head.getD 0) e.ld e.tag zeroLine true
  let s := s.each ((s.sc n).writeQ.filter fun e => e.head.isSome) fun s e =>
    (if e.undone && !e.orphan then s.sendNdr (e.head.getD 0) e.ld e.tag else s).addPoison (lineOf e.dpa) .internal
  ((s.modSc n fun x => { x with
    readQ := [], writeQ := [], inFlight := [], writeBack := [], port := [], banks := [], inOrder := [], pass := none, want := none
    ready := false }).put (Reg.SC_STATUS_STATE n) 6).unitFalls 0 n

/-- What waits at a head for a lost quadrant (R172). -/
def State.headLost (s : State) (q h : Nat) : State :=
  let mine : List HReq := (s.head h).reqs.filter fun r => decide (quadOf (patchOf r.dpa) = q)
  let s := s.each mine fun s r => if r.write.isSome then s.lostWrite h r
    else if r.orphan then s else s.sendDrs h r.ld r.tag zeroLine true
  (s.modHead h fun x => { x with reqs := x.reqs.filter fun r => decide (quadOf (patchOf r.dpa) ≠ q) }).escalationEnds h

/-- QUADRANT_LOST (R172): DRAM of a quadrant is gone. -/
def State.quadrantLost (s : State) (q : Nat) : State :=
  if (s.quad q).railLost then s else
  let saving := s.flag Reg.PERS_STATUS_SAVE_ACTIVE
  let waits := (s.quad q).heals.flatMap fun h => h.waiting
  let s := s.each waits fun s w => s.answerPoison w
  let s := (if saving then s else s.skimLost q).modQuad q fun d => { d with
    railLost := true, fills := d.fills.filter fun f => saving && decide (f.cls = .merge), heals := [], follow := [] }
  let s := s.each (List.range 32) fun s i => s.modDie (32 * q + i) fun d => d.keepOps fun o => saving || !o.forDram
  let s := s.each (List.range 4) fun s j => s.channelLost (4 * q + j)
  let s := s.each [0, 1] fun s h => s.headLost q h
  let s := s.each ((s.patches.filter fun e => decide (quadOf e.1 = q) && e.2.st.exposed).map (·.1)) fun s p =>
    s.modPatch p fun x => { x with lost := true }
  let s := ((s.judgePlaces).judgeGpf).event (srcPers q 2) 3 Sev.uncorrected
  s.flashGo q

/-- Media ready was declared in this run: DRAM holds what hosts wrote (R610). -/
def State.contentHeld (s : State) : Bool :=
  s.flag Reg.PERS_STATUS_MEDIA_READY || s.flag Reg.PERS_STATUS_SAVE_ACTIVE || decide (s.seq.power = .warmReset) ||
  (s.flag Reg.PERS_START_DECIDED && decide (s.get Reg.PERS_STATUS_START_STATE = 2))

/-- What the loss of a rail that has been good does to the units of its DOMAIN (Table 14.5, R610). -/
def State.domainLost (s : State) (k : Nat) : State :=
  let q := s.get (Reg.RAIL_CFG0_INDEX k)
  if !s.flag Reg.SEQ_STATUS_RAILS_UP || !(s.rail k).everGood then s
  else match s.get (Reg.RAIL_CFG0_DOMAIN k) with
  | 1 => if s.contentHeld then s.quadrantLost q
    else s.each (List.range 4) fun s j =>
      ((s.modSc (4 * q + j) fun x => { x with ready := false }).put (Reg.SC_STATUS_STATE (4 * q + j)) 6).unitFalls 0 (4 * q + j)
  | 2 => s.each (List.range 4) fun s c =>
      let fc := 4 * q + c
      if s.get (Reg.FC_STATUS_STATE fc) ≠ 2 then s
      else if s.contentHeld then s.channelCut fc else s.put (Reg.FC_STATUS_STATE fc) 0
  | 3 => (s.linkLost 0).linkLost 1
  | 4 => s.saveSupplyLost
  | _ => s

/-- MEDIA_BLOCKED (R423, R610): a rail of DOMAIN 1 or 2 is held off with no retry left before media ready. -/
def State.judgeBlocked (s : State) : State :=
  let out (k : Nat) : Bool := s.railPresent k && decide (s.get (Reg.RAIL_STATUS_STATE k) = 5) &&
    (decide (s.get (Reg.RAIL_CFG0_DOMAIN k) = 1) || decide (s.get (Reg.RAIL_CFG0_DOMAIN k) = 2))
  let retrying := (List.range 32).any fun k => decide (s.get (Reg.RAIL_STATUS_STATE k) = 4)
  if s.flag Reg.SEQ_STATUS_RAILS_UP && !s.contentHeld && !s.seq.blocked && !retrying && (List.range 32).any out
  then (s.modSeq fun x => { x with blocked := true }).event 0x4A9 1 Sev.fatal else s

/-- What follows every change of a rail's state. -/
def State.railsJudged (s : State) : State := (s.judgeIncident.judgeBlocked).judgeGf

/-! ## Release and reactions (R421, R422, R426) -/

/-- EN of a rail and of each of its dependants is released; the dependants are held off. -/
def State.releaseRail (s : State) (k : Nat) : State :=
  let all := k :: (s.dependants k).filter fun x => decide (s.get (Reg.RAIL_STATUS_STATE x) ≠ 0)
  let s := s.modSeq fun x => { x with runs := x.runs.map fun r => { r with todo := r.todo.filter fun j => !all.contains j } }
  s.each all fun s x =>
    let was := s.railIsGood x
    let s := (s.modRail x fun r => { r with en := false, goodSince := none, retryDue := none }).railEnds x 5
    if was then s.domainLost x else s

/-- SEQ_TIMING.RETRY_SF: 0 acts as 1. -/
def State.retrySf (s : State) : Nat := max 1 (s.get Reg.SEQ_TIMING_RETRY_SF)

/-- The rail is held off until the next power-up. -/
def State.holdOff (s : State) (k : Nat) : State :=
  ((s.modRail k fun r => { r with spent := true }).railEnds k 5).event (srcRail k 3) 3 Sev.degraded

/-- What a released rail's reaction does next (R422, Table 14.4): a retry, or held off. -/
def State.railReacts (s : State) (k : Nat) : State :=
  let left := s.get (Reg.RAIL_STATUS_RETRIES_LEFT k)
  if s.get (Reg.RAIL_CFG0_REACTION k) ≠ 1 then s.holdOff k
  else if left = 0 then (s.event (srcRail k 3) 2 Sev.degraded).holdOff k
  else
    let s := (s.put (Reg.RAIL_STATUS_RETRIES_LEFT k) (left - 1)).railEnds k 4
    (s.modRail k fun r => { r with retryDue := some (s.sf + s.retrySf) }).event (srcRail k 3) 1 Sev.note

/-! ## Power-up (R420 to R423) -/

/-- A rail is enabled: its EN rises after a delay. -/
def State.enableRail (s : State) (k delay : Nat) : State :=
  (s.put (Reg.RAIL_STATUS_STATE k) 2).modRail k fun r => { r with en := true, enabledAt := s.now + delay, retryDue := none }

/-- The lowest stage among some rails. -/
def State.lowStage (s : State) (l : List Nat) : Nat := l.foldl (fun m k => min m (s.get (Reg.RAIL_STATUS_STAGE k))) 15

/-- A run of stages starts its next stage (R420): rails whose parents are all good are enabled after their ON_DELAY, the
others are held off. -/
def State.startStage (s : State) (ix : Nat) (r : RailRun) : State :=
  let st := s.lowStage r.todo
  let now := r.todo.filter fun k => decide (s.get (Reg.RAIL_STATUS_STAGE k) = st)
  let s := s.modSeq fun x => { x with runs := listUpd x.runs ix fun r => { r with
    todo := r.todo.filter fun k => !now.contains k, active := now } }
  let s := s.put Reg.SEQ_STATUS_STAGE st
  (s.each now fun s k =>
    if (s.parents k).all fun p => s.railIsGood p then s.enableRail k (s.get (Reg.RAIL_CFG2_ON_DELAY k) * 100000)
    else s.railEnds k 5).railsJudged

/-- Whether a run's next stage may start: every rail of the stage in progress has ended, STAGE_GAP_MS ago. -/
def State.runDue (s : State) (r : RailRun) : Bool :=
  let gap := ms (s.get Reg.SEQ_TIMING_STAGE_GAP_MS)
  !r.todo.isEmpty && decide (r.due ≤ s.now) && r.active.all fun k => s.railEnded k && decide ((s.rail k).endedAt + gap ≤ s.now)

/-- Runs with nothing left to start, whose last stage has ended, are over. -/
def State.pruneRuns (s : State) : State :=
  s.modSeq fun x => { x with runs := x.runs.filter fun r => !(r.todo.isEmpty && r.active.all fun k => s.railEnded k) }

/-- RAIL_STAGE_START (R420, R422). -/
def execRailStageStart (s : State) : Result :=
  let l := (s.seq.runs.zipIdx).find? fun r => s.runDue r.1
  match l with
  | some (r, ix) => occurs (!s.seq.offWaiting) s fun s => s.startStage ix r
  | none => .next s.begin

/-- The main rails start, stage by stage, when nothing has started them yet (R420). -/
def State.startMainRails (s : State) : State :=
  if !s.flag Reg.CFG_STATUS_SEALED || s.seq.mainStarted || s.seq.offWaiting || !(decide (s.seq.power = .boot) || decide (s.seq.power = .powerUp))
  then s else
  let l := s.mainRails
  let s := (s.setPower .powerUp).modSeq fun x => { x with mainStarted := true, runs := [{ todo := l, due := s.now }] }
  let s := s.each ((List.range 32).filter s.railPresent) fun s k => s.put (Reg.RAIL_STATUS_RETRIES_LEFT k) (s.get (Reg.RAIL_CFG0_RETRIES k))
  let s := s.each l fun s k => s.put (Reg.RAIL_STATUS_STATE k) 1
  if l.isEmpty then s.modSeq fun x => { x with runs := [] } else s.startStage 0 { todo := l, due := s.now }

/-- MAIN_RAIL_POWER_UP (R420, R441): at the seal, of a controller that waits for no group. -/
def execMainRailPowerUp (s : State) : Result :=
  occurs (s.flag Reg.SEQ_GROUP_STATUS_STANDALONE || (s.isMaster && !s.group.discovering)) s State.startMainRails

/-- RAIL_GOOD (R421, R422): a rail that ramps becomes good, or one that faulted under IGNORE is good again; its held-off
dependants follow stage by stage. -/
def State.railGood (s : State) (k : Nat) : State :=
  let s := (s.railEnds k 3).modRail k fun r => { r with everGood := true, goodSince := some s.sf }
  let held := (s.dependants k).filter fun x => decide (s.get (Reg.RAIL_STATUS_STATE x) = 5) && !(s.rail x).spent
  let s := s.each held fun s x => s.put (Reg.RAIL_STATUS_STATE x) 1
  let s := if held.isEmpty then s else s.modSeq fun x => { x with
    runs := x.runs ++ [{ todo := held, due := s.now + ms (s.get Reg.SEQ_TIMING_STAGE_GAP_MS) }] }
  s.pruneRuns.railsJudged

def execRailGood (k : RailIx) (s : State) : Result :=
  let st := s.get (Reg.RAIL_STATUS_STATE k)
  occurs (s.railPresent k && (decide (st = 6) || (decide (st = 2) && (s.rail k).en && decide ((s.rail k).enabledAt ≤ s.now)))) s
    fun s => s.railGood k

/-- The ramp time of a rail (RAIL_CFG2.RAMP: 0 acts as 1). -/
def State.ramp (s : State) (k : Nat) : Nat := ms (max 1 (s.get (Reg.RAIL_CFG2_RAMP k)))

/-- RAIL_UP_FAIL (R421, R422). -/
def execRailUpFail (k : RailIx) (s : State) : Result :=
  occurs (s.railPresent k && decide (s.get (Reg.RAIL_STATUS_STATE k) = 2) && decide ((s.rail k).enabledAt + s.ramp k ≤ s.now)) s fun s =>
    let s := ((s.declareRail k 4).event (srcRail k 2) 1 Sev.degraded).releaseRail k
    ((s.railReacts k).pruneRuns).railsJudged

/-- RAIL_RETRY (R422, R434): no retry runs during a save or a power-down. -/
def execRailRetry (k : RailIx) (s : State) : Result :=
  match (s.rail k).retryDue with
  | none => .next s.begin
  | some d => occurs (decide (d ≤ s.sf) && !s.flag Reg.PERS_STATUS_SAVE_ACTIVE && (decide (s.seq.power = .powerUp) ||
      decide (s.seq.power = .run) || decide (s.seq.power = .recovery)) && (s.parents k).all fun p => s.railIsGood p) s
      fun s => (s.enableRail k 0).railsJudged

/-- The time of the latest end among the main rails. -/
def State.lastEnded (s : State) : Nat := s.mainRails.foldl (fun m k => max m (s.rail k).endedAt) 0

/-- RAILS_UP (R423, R395, R544). -/
def State.railsUp (s : State) : State :=
  let s := ((s.setPower .run).putB Reg.SEQ_STATUS_RAILS_UP true).modPins fun p => { p with resetOutN := true }
  let s := s.putSat Reg.PERS_START_RAILS_UP_MS ((s.now - s.seq.startAt.getD s.now) / 1000000)
  let s := s.modGauge fun g => { g with fetArmed := true }
  (s.each [0, 1] fun s h => s.modHead h fun x => { x with phyOn := true }).railsJudged

def execRailsUp (s : State) : Result :=
  occurs (decide (s.seq.power = .powerUp) && s.seq.mainStarted && !s.seq.offWaiting && s.seq.runs.isEmpty &&
    (s.mainRails.all fun k => s.railIsGood k || decide (s.get (Reg.RAIL_STATUS_STATE k) = 5)) &&
    decide (s.lastEnded + ms (s.get Reg.SEQ_TIMING_UP_SETTLE_MS) ≤ s.now)) s fun s => s.railsUp

/-! ## Faults (R424, R426, R428, R434, R608, Table 14.4) -/

/-- KIND of Table 14.8. -/
def faultKind : RailFaultKind → Nat
  | .ov => 1
  | .uv => 2
  | .pg => 3

/-- The severity of a fault under a reaction (Table 14.4). -/
def reactSev (r : Nat) : Nat := if r = 0 then Sev.note else if r = 3 then Sev.uncorrected else Sev.degraded

/-- SYSTEM_RESET at a time other than a power-up: the save of CAUSE 5, or without armed triggers the off of R608. -/
def State.systemReset (s : State) (k : Nat) : State :=
  let s := s.modRail k fun r => { r with spent := true }
  if s.flag Reg.PERS_STATUS_SAVE_ACTIVE then
    (s.modSeq fun x => { x with sysRails := setInsert x.sysRails k }).saveTrigger 5
  else if s.flag Reg.SEQ_STATUS_ARMED || s.save.frame0.isSome then s.saveTrigger 5
  else s.beginPowerDown .systemReset

/-- A fault declared on a good rail (R426). -/
def State.faultGood (s : State) (k kind : Nat) : State :=
  let r := s.get (Reg.RAIL_CFG0_REACTION k)
  let r := if r = 3 ∧ (s.seq.power = .powerUp ∨ s.seq.power = .boot) then 2 else r
  let s := (s.declareRail k kind).event (srcRail k 0) kind (reactSev r)
  if r = 0 then (s.railEnds k 6).railsJudged
  else
    let s := s.releaseRail k
    (if r = 3 then s.systemReset k else (s.railReacts k).pruneRuns).railsJudged

/-- A fault in a power-down (R428): EN of a rail not yet released goes, with its dependants; the fault is logged. -/
def State.faultDown (s : State) (k kind : Nat) : State :=
  let s := (s.declareRail k kind).event (srcRail k 0) kind Sev.note
  if (s.rail k).en && decide (4 ≤ k) then s.each (k :: s.dependants k) fun s x => s.railOff x else s

def execRailFault (k : RailIx) (kind : RailFaultKind) (s : State) : Result :=
  let n := faultKind kind
  let good := s.railIsGood k
  occurs ((s.flag Reg.CFG_STATUS_SEALED || decide (s.seq.power = .recovery)) && s.railPresent k && (good || decide (n = 1)) && (decide (n ≠ 3) || s.flag (Reg.RAIL_CFG0_USE_PG k)))
    s fun s =>
      if s.seq.power = .powerDown then s.faultDown k n
      else if good then s.faultGood k n
      else ((s.declareRail k n).event (srcRail k 0) n (reactSev (s.get (Reg.RAIL_CFG0_REACTION k)))).railsJudged

/-! ## Power-down (R428, R141, R411, R416, R434) -/

/-- A stage of a run is in progress: a rail of it has not ended. -/
def State.stageInProgress (s : State) : Bool := s.seq.runs.any fun r => r.active.any fun k => !s.railEnded k

/-- POWER_DOWN_START (R428, R431): a power-down that waited for the current stage of a power-up begins. -/
def execPowerDownStart (s : State) : Result :=
  occurs (s.seq.offWaiting && !s.stageInProgress) s fun s => s.beginPowerDown .other

end Sys2Proof.Machine
end

