-- ==== Sys2Proof/Machine/Group.lean ====
section
/-!
DEFINITION. Sys2Proof/Machine/Group.lean: the cascade, Burnor and the group fault line (14_power_sequencing R439 to R446;
R50).
-/
namespace Sys2Proof.Machine

/-- SEQ_GROUP.DISCOVER as a time. -/
def State.discoverTime (s : State) : Nat := ms (10 * s.get Reg.SEQ_GROUP_DISCOVER)

def State.position (s : State) : Nat := s.get Reg.SEQ_GROUP_STATUS_POSITION

/-- A member: it has a position and is not the master. -/
def State.isMember (s : State) : Bool := s.inGroup && !s.isMaster && !s.mainOff

/-- The master of a group, with its main domain on. -/
def State.isHeadOfGroup (s : State) : Bool := s.isMaster && !s.mainOff

/-! ## Cascade (R439, R440) -/

/-- Standalone: no Burnor, position 63, main rails at once. -/
def State.goStandalone (s : State) : State :=
  ((s.putB Reg.SEQ_GROUP_STATUS_STANDALONE true).put Reg.SEQ_GROUP_STATUS_POSITION 63).startMainRails

/-- CASCADE_TRAIN_RECEIVED. -/
def State.trainReceived (s : State) (k : Nat) : State :=
  if s.position ≠ 63 then
    let s := if k = s.position then s else s.event 0x4A5 2 Sev.degraded
    s.emit (.train (s.position + 1))
  else if 31 < k then (s.event 0x4A5 3 Sev.degraded).goStandalone
  else ((s.put Reg.SEQ_GROUP_STATUS_POSITION k).modGroup fun g => { g with positionAt := s.now }).emit (.train (k + 1))

def execCascadeTrainReceived (pulses : Nat) (s : State) : Result :=
  occurs (!s.mainOff && s.isSealed && !s.isMaster && !s.flag Reg.SEQ_GROUP_STATUS_STANDALONE && decide (1 ≤ pulses)) s
    fun s => s.trainReceived pulses

/-- CASCADE_MASTER_TRAIN: one pulse every 16 superframes until discovery ends. -/
def execCascadeMasterTrain (s : State) : Result :=
  let due : Bool := match s.group.trainSf with
    | some t => decide (t + 16 ≤ s.sf)
    | none => true
  occurs (s.isHeadOfGroup && s.group.discovering && due) s fun s =>
    (s.modGroup fun g => { g with trainSf := some s.sf }).emit (.train 1)

/-- CASCADE_TIMEOUT (R440). -/
def execCascadeTimeout (s : State) : Result :=
  occurs (!s.mainOff && s.isSealed && decide (s.position = 63) && !s.flag Reg.SEQ_GROUP_STATUS_STANDALONE &&
    decide (s.group.sealedAt + s.discoverTime ≤ s.now)) s fun s => (s.event 0x4A5 1 Sev.degraded).goStandalone

/-! ## Discovery (R441) -/

/-- The positions of members that SEQ_GROUP.SIZE_M1 names. -/
def State.memberPositions (s : State) : List Nat := (List.range (s.get Reg.SEQ_GROUP_SIZE_M1 + 1)).filter fun p => decide (1 ≤ p)

def State.member (s : State) (p : Nat) : Member := sparseGet {} s.group.members p

/-- STATUS_POLL: the master reads a member's STATUS; none: it does not answer. -/
def execStatusPoll (pos : PosIx) (answer : Option Nat) (s : State) : Result :=
  occurs (s.isHeadOfGroup && s.group.discovering && decide (1 ≤ pos.val) && answer.isSome) s fun s =>
    let s := s.modMember pos fun m => { m with answered := true }
    let map := s.get Reg.SEQ_MEMBERS_MAP ||| 2 ^ pos.val
    (s.put Reg.SEQ_MEMBERS_MAP map).put Reg.SEQ_GROUP_STATUS_FOUND (s.group.members.filter fun e => e.2.answered).length

/-- DISCOVERY_END. -/
def execDiscoveryEnd (s : State) : Result :=
  let silent := s.memberPositions.filter fun p => !(s.member p).answered
  occurs (s.isHeadOfGroup && s.group.discovering && (silent.isEmpty || decide (s.group.sealedAt + s.discoverTime ≤ s.now))) s fun s =>
    let s := s.each silent fun s p => s.eventAt 0x4A7 2 Sev.degraded Who.nobody Access.none 5 (unitAddr 8 p)
    ((s.modGroup fun g => { g with discovering := false }).emit (.burnor 0x02 none [s.get Reg.SEQ_GROUP_STAGGER_MS])).startMainRails

/-- POWER_UP: a member schedules its rails. -/
def execPowerUp (staggerMs : Nat) (s : State) : Result :=
  occurs (s.isMember && s.group.powerUpAt.isNone) s fun s =>
    s.modGroup fun g => { g with powerUpAt := some (s.now + ms (s.position * (staggerMs % 65536))) }

/-- GROUP_POWER_UP_START: at the member's time after POWER_UP, or at its fallback time. -/
def execGroupPowerUpStart (s : State) : Result :=
  let t := match s.group.powerUpAt with
    | some t => t
    | none => s.group.positionAt + s.discoverTime + ms 100 + ms (s.position * s.get Reg.SEQ_GROUP_STAGGER_MS)
  occurs (s.isMember && decide (t ≤ s.now)) s State.startMainRails

/-! ## The group fault line (R442) -/

/-- GRP_FAULT_ASSERT: sampled released in one frame and asserted in the 2 that follow, this controller driving it in none of
them. -/
def execGrpFaultAssert (s : State) : Result :=
  let drove : Bool := match s.pins.grpDrove with
    | some f => decide (s.frame < f + 3)
    | none => false
  occurs (!s.mainOff && !s.pins.grpFaultOut && !drove) s fun s =>
    let s := ((s.modPins fun p => { p with grpFaultIn := true }).putB Reg.SEQ_STATUS_GF_IN true).event 0x4A6 1 Sev.note
    if s.flag Reg.SAVE_CTRL_GRP_FAULT_SAVE then
      (if s.save.frame0.isNone ∧ ¬ s.flag Reg.PERS_STATUS_SAVE_ACTIVE then s.modSave fun x => { x with groupOff := false } else s).trigger 4
    else s

/-! ## Fingerprint periods (R50, R443, R446) -/

/-- GROUP_DRIFT, once while a member's drift lasts. -/
def State.judgeDrift (s : State) (p : Nat) : State :=
  let m := s.member p
  let bad := decide (2 ≤ m.missed) || decide (2 ≤ m.differs + m.offNow.toNat)
  let s := if bad && !m.driftRaised then s.eventAt 0x4A7 3 Sev.degraded Who.nobody Access.none 5 (unitAddr 8 p) else s
  s.modMember p fun x => { x with driftRaised := bad }

/-- The master closes a member's period: no report in it counts as missed; two such periods end its grants. -/
def State.closePeriod (s : State) (p : Nat) : State :=
  let s := s.modMember p fun m => { m with
    missed := if m.fp.isNone then m.missed + 1 else 0, differs := if m.offNow then m.differs + 1 else 0, offNow := false, fp := none }
  let s := s.judgeDrift p
  if (s.member p).missed = 2 then (s.chgGrantEnds p).learnGrantEnds p else s

/-- The master's SYNC. -/
def State.sendSync (s : State) : State :=
  let s := if s.group.period = 0 then s else s.each s.memberPositions fun s p => s.closePeriod p
  let n := s.group.period + 1
  (s.modGroup fun g => { g with period := n, syncSf := s.sf }).emit (.burnor 0x01 none [n % 65536, s.get Reg.SEQ_GROUP_SIZE_M1])

/-- A member hears SYNC: a period starts; a member that had fallen back asks the master again. -/
def State.hearSync (s : State) (period : Nat) : State :=
  let s := if s.masterless then
      (s.modGauge fun g => { g with chgGrant := false, chgWanted := false, selfGrantAt := none }).putB Reg.SEQ_GROUP_STATUS_CHG_PERMIT false
    else s
  (s.modGroup fun g => { g with period := period, syncSf := s.sf, syncHeard := some s.sf, fpSent := false }).putB
    Reg.SEQ_GROUP_STATUS_MASTER_SEEN true

/-- SYNC: the master sends it every 1,024 superframes; a member receives it. -/
def execSync (period : Nat) (_size : Nat) (s : State) : Result :=
  if s.isHeadOfGroup then
    occurs (!s.group.discovering && (decide (s.group.period = 0) || decide (s.group.syncSf + 1024 ≤ s.sf))) s State.sendSync
  else occurs s.isMember s fun s => s.hearSync (period % 65536)

/-- FP_REPORT: the master compares a member's report with its own fingerprint; a member sends its report in its slot. -/
def execFpReport (pos : PosIx) (epoch : Nat) (fp : Nat) (s : State) : Result :=
  if s.isHeadOfGroup then
    occurs (decide (1 ≤ pos.val)) s fun s =>
      let same := decide (fp % 2 ^ 64 = s.get64 0x010308 0x01030C)
      (s.modMember pos fun m => { m with
        fp := some (epoch % 65536, fp % 2 ^ 64), missed := 0, offNow := !same, differs := if same then 0 else m.differs }).judgeDrift pos
  else
    occurs (s.isMember && s.group.syncHeard.isSome && !s.group.fpSent && decide (s.group.syncSf + 32 * s.position ≤ s.sf)) s fun s =>
      (s.modGroup fun g => { g with fpSent := true }).emit
        (.burnor 0x03 none [s.position, s.get64 0x010308 0x01030C, s.get Reg.EPOCH_STATUS_APPLIED])

/-- MASTER_LOST (R446): no SYNC for 2 periods; requests to the master are forgotten. -/
def execMasterLost (s : State) : Result :=
  occurs (s.isMember && s.masterless) s fun s =>
    (s.modGauge fun g => { g with chgWanted := false }).putB Reg.SEQ_GROUP_STATUS_MASTER_SEEN false

/-! ## Charge and learn grants (R396, R400, R444) -/

/-- CHG_REQ at the master. -/
def execChgReq (pos : PosIx) (s : State) : Result :=
  occurs (s.isHeadOfGroup && decide (1 ≤ pos.val) && !(s.member pos).chgGrant) s fun s =>
    (s.modMember pos fun m => { m with chgPend := true }).chgGrantNext 32

/-- CHG_GRANT at a member: permission, given back at once when no longer wanted. -/
def execChgGrant (s : State) : Result :=
  occurs s.isMember s fun s =>
    if s.gauge.chgWanted then (s.modGauge fun g => { g with chgGrant := true }).putB Reg.SEQ_GROUP_STATUS_CHG_PERMIT true
    else s.emit (.burnor 0x06 none [s.position])

/-- CHG_END at the master. -/
def execChgEnd (pos : PosIx) (s : State) : Result :=
  occurs (s.isHeadOfGroup && decide (1 ≤ pos.val)) s fun s => s.chgGrantEnds pos

/-- LEARN_REQ at the master. -/
def execLearnReq (pos : PosIx) (s : State) : Result :=
  occurs (s.isHeadOfGroup && decide (1 ≤ pos.val) && decide (s.group.learner ≠ some pos.val)) s fun s =>
    (s.modGroup fun g => { g with learnPend := setInsert g.learnPend pos }).learnGrantNext

/-- LEARN_GRANT at a member: permission, given back at once when no learn is due. -/
def execLearnGrant (s : State) : Result :=
  occurs s.isMember s fun s =>
    if s.get Reg.LEARN_STATUS_PHASE = 1 ∨ s.get Reg.LEARN_STATUS_PHASE = 2 then
      ((s.modGauge fun g => { g with learnGrant := true }).putB Reg.LEARN_STATUS_PERMIT true).putB Reg.SEQ_GROUP_STATUS_LEARN_PERMIT true
    else s.emit (.burnor 0x09 none [s.position, 0])

/-- LEARN_END at the master. -/
def execLearnEndMsg (pos : PosIx) (s : State) : Result :=
  occurs (s.isHeadOfGroup && decide (1 ≤ pos.val)) s fun s => s.learnGrantEnds pos

/-! ## Group saves (R112, R445) -/

/-- SAVE_NOTE at the master. -/
def execSaveNote (_pos : PosIx) (cause : Nat) (s : State) : Result :=
  occurs (s.isHeadOfGroup && s.flag Reg.SEQ_GROUP_SAVE_RELAY && decide (cause = 2)) s fun s =>
    s.emit (.burnor 0x0B none [s.get Reg.SEQ_GROUP_RELAY_OFF])

/-- GROUP_SAVE: a save trigger of CAUSE 4, or a late one. -/
def execGroupSave (powerDown : Bool) (s : State) : Result :=
  occurs (s.inGroup && !s.mainOff && s.flag Reg.SAVE_CTRL_GROUP_EN) s fun s =>
    (if s.flag Reg.PERS_STATUS_SAVE_ACTIVE ∨ (s.save.frame0.any fun f => decide (f ≠ s.frame)) then s
      else s.modSave fun x => { x with groupOff := powerDown }).trigger 4

end Sys2Proof.Machine
end

