-- ==== Sys2Proof/Machine/Onoff.lean ====
section
/-!
DEFINITION. Sys2Proof/Machine/Onoff.lean: the AON domain and its time, reset of the main domain, power-up from off and the
stages of a power-down, the power button and off requests (02_frame_tick_and_epochs R21 to R23; 14_power_sequencing R416,
R419, R428 to R433; 19_life_cycle R547 to R551; 22_electrical R591).
-/
namespace Sys2Proof.Machine

/-! ## Reset of the main domain (R433, R539) -/

/-- What flash keeps of a die without power: its units, where programming stopped, and its block map. A program in progress
leaves its unit programmed badly. -/
def Die.kept (d : Die) : Die :=
  let cut := (d.current.toList ++ d.suspended).filterMap fun o => match o.kind with
    | .program b (some u) => some (u, b)
    | _ => none
  { units := cut.foldl (fun m x => sparseSet none m x.1 (some { body := x.2, good := false })) d.units
    nextUnit := d.nextUnit, voids := d.voids, failUnits := d.failUnits, spareLeft := d.spareLeft, spareInit := d.spareInit
    pendingBad := d.pendingBad, blockMap := d.blockMap, grownBad := d.grownBad, retiredBlocks := d.retiredBlocks, mapSeq := d.mapSeq, mapCopies := d.mapCopies, bandErases := d.bandErases, wornOut := d.wornOut
    programs := d.programs, rebuild := d.rebuild }

/-- The DDR balls of a sub-channel's channel are held (R575): CHm_RESET_N, CK_T and CK_C low, every other ball at high impedance. -/
def State.ddrHeld (s : State) (n : Nat) : Bool := !s.pins.porstN || decide (s.get (Reg.SC_STATUS_STATE n) = 6)

/-- The NAND balls are held (R576): CE_N and WE_N high, CLE, ALE and NWP_N low, the others at high impedance. -/
def State.nandHeld (s : State) : Bool := !s.pins.porstN

/-- A map's entries changed one by one; those that become the default leave the list. -/
def sparseMap {α : Type} [DecidableEq α] (d : α) (f : α → α) (m : Sparse α) : Sparse α :=
  (m.map fun e => (e.1, f e.2)).filter fun e => decide (e.2 ≠ d)

/-- Every block but the AON domain resets. Flash, the SPI NOR, fuses and the AON domain keep what they hold; of DRAM the
volatile partition reads as zeros (R59), and the rest is not relied on. -/
def State.mainReset (s : State) : State :=
  { State.reset with
    tick := { devTime := s.now, aonCount := s.tick.aonCount, aonFrac := s.tick.aonFrac, aonPowered := s.tick.aonPowered }
    retired := s.retired
    image := { records := s.image.records, erases := s.image.erases, usedBands := s.image.usedBands, genWarned := s.image.genWarned }
    dies := sparseMap {} Die.kept s.dies
    keys := { draws := s.keys.draws }
    gauge := { learnedA := s.gauge.learnedA, learnedB := s.gauge.learnedB }
    rails := (s.rails.filter fun e => decide (e.1 < 4)).map fun e => (e.1, { en := e.2.en, enabledAt := e.2.enabledAt })
    seq := {
      power := s.seq.power, en0ReleasedAt := s.seq.en0ReleasedAt, onLatch := s.seq.onLatch, lastDown := s.seq.lastDown
      aonApplied := s.seq.aonApplied, aonRestart := s.seq.aonRestart, aonAutoOn := s.seq.aonAutoOn, aonSerial := s.seq.aonSerial
      aonPop := s.seq.aonPop, aonCause := s.seq.aonCause, aonImage := s.seq.aonImage, pressAt := s.seq.pressAt
      pressActed := s.seq.pressActed, ring := s.seq.ring, ringSeq := s.seq.ringSeq, saveOpen := s.seq.saveOpen }
    pins := {
      porstN := s.pins.porstN, grpFaultIn := s.pins.grpFaultIn, seqInLow := s.pins.seqInLow, vinMv := s.pins.vinMv, pfwN := s.pins.pfwN
      inputOk := s.pins.inputOk, inputAt := s.pins.inputAt, pwrbtnN := s.pins.pwrbtnN, straps := s.pins.straps, perstN := s.pins.perstN, jtag := s.pins.jtag
      bkpEn := s.pins.bkpEn }
    tw0 := { addr := s.tw0.addr, aonAwake := s.tw0.aonAwake, aonMatch := s.tw0.aonMatch }
    otp := s.otp
    upd := {
      fwA := s.upd.fwA, fwB := s.upd.fwB, cfgA := s.upd.cfgA, cfgB := s.upd.cfgB, factoryOk := s.upd.factoryOk, importUse := s.upd.importUse, aonFails := s.upd.aonFails, aonSlot := s.upd.aonSlot }
    fresh := s.fresh
    out := s.out
    pending := s.pending }

/-- The AON domain restarts too: what only V_AON_IN keeps is gone; the log ring stands in the SPI NOR. -/
def State.aonLost (s : State) (powered : Bool) : State :=
  let s := s.mainReset
  { s with
    tick := { aonPowered := powered }
    rails := []
    seq := { ring := s.seq.ring, ringSeq := s.seq.ringSeq }
    pins := { s.pins with bkpEn := false }
    tw0 := {}
    upd := { s.upd with aonFails := 0, aonSlot := none } }

/-! ## The AON domain (R21 to R23, R591) -/

/-- One tick of the 32.768 kHz crystal. -/
def State.aonTick (s : State) : State :=
  let f := s.tick.aonFrac + 37
  let step := if 64 ≤ f then 30518 else 30517
  if s.tick.clocksOn then { s with tick := { s.tick with aonFrac := f % 64, aonCount := s.now } }
  else
    let c := max (s.tick.aonCount + step) s.tick.devTime
    { s with tick := { s.tick with aonFrac := f % 64, aonCount := c, devTime := c, cycle := 0, clocksOn := s.tick.starting, starting := false } }

/-- AON_TICK. -/
def execAonTick (s : State) : Result := occurs s.tick.aonPowered s State.aonTick

/-- MAIN_CLOCK_START (R22): the tick generator waits for the next AON tick. -/
def execMainClockStart (s : State) : Result :=
  occurs (s.tick.aonPowered && !s.tick.clocksOn && decide (s.seq.power ≠ .off)) s fun s =>
    { s with tick := { s.tick with starting := true } }

/-- AON_POWER_APPLY (R23, R450): V_AON_IN is applied after being lost. -/
def execAonPowerApply (straps : Nat) (s : State) : Result :=
  let s := s.begin.aonLost true
  .next { s with tw0 := { s.tw0 with addr := 0x58 + straps % 8 }, pins := { s.pins with straps := straps % 8 } }

/-- AON_RESET (R591): V_AON_IN falls below 1.40 V, a loss of V_AON_IN. -/
def execAonReset (s : State) : Result := .next (s.begin.aonLost false)

/-! ## Power-up from off, PORST_N (R416, R419, R433, R609) -/

/-- POWER_UP_START (R416, R419). -/
def execPowerUpStart (s : State) : Result :=
  let rested : Bool := match s.seq.en0ReleasedAt with
    | some t => decide (t + ms 500 ≤ s.now)
    | none => true
  let auto := s.seq.aonAutoOn && (decide (s.seq.lastDown = .inputLoss) || s.seq.aonApplied)
  occurs (s.tick.aonPowered && decide (s.seq.power = .off) && s.pins.inputOk && rested &&
      (s.seq.onLatch || decide (s.seq.lastDown = .systemReset) || auto)) s fun s =>
    let s := s.each [0, 1, 2, 3] fun s k => s.modRail k fun r => { r with en := true, enabledAt := s.now + ms k }
    s.modSeq fun x => { x with power := .boot, onLatch := false, lastDown := .none, aonApplied := false }

/-- PORST_N_ASSERT (R433, R609). -/
def execPorstNAssert (s : State) : Result :=
  let s := s.begin
  let up := s.flag Reg.SEQ_STATUS_RAILS_UP
  let s := if s.image.runOpen then s.modSeq fun x => { x with aonCause := 7 } else s
  let s := s.mainReset
  let s := s.modPins fun p => { p with porstN := false, bkpEn := false }
  let s := s.modSeq fun x => { x with power := if x.power = .off then .off else .boot }
  .next (if up then s.event 0x4A4 1 Sev.note else s)

/-! ## Power-down (R141, R411, R428) -/

/-- The last main rail is down: ship mode, BKP_EN, the boot rails, and off. -/
def State.powerOff (s : State) : State :=
  let ship := s.flag Reg.PERS_OFF_SHIP && decide (1 ≤ s.get Reg.PERS_OFF_ENDED_BY ∧ s.get Reg.PERS_OFF_ENDED_BY ≤ 3)
  let s := if ship then ((s.modPins fun p => { p with packFet := false }).putB Reg.PACK_STATE_FET false).setPack 7 else s
  let s := s.put Reg.PACK_STATE_STATE s.packNow
  let s := s.modPins fun p => { p with bkpEn := false }
  let s := (s.modSeq fun x => { x with
    power := .off, lastDown := x.downCause, en0ReleasedAt := some (s.now + ms 3), aonApplied := false }).mainReset
  { s with rails := [] }

/-- POWER_DOWN_STAGE: the rails of the stage just released are down, or `slow` ones are still high OFF_GAP_MS + 100 ms after
their release. -/
def execPowerDownStage (slow : List Nat) (s : State) : Result :=
  let gap := ms (s.get Reg.SEQ_TIMING_OFF_GAP_MS)
  let late := slow.filter fun k => decide (4 ≤ k ∧ k < 32) && s.railPresent k
  occurs (decide (s.seq.power = .powerDown) && decide (s.seq.downAt + (if late.isEmpty then gap else gap + ms 100) ≤ s.now)) s fun s =>
    let s := s.each late fun s k => s.event (srcRail k 2) 2 Sev.note
    let st := s.topStage
    if st = 0 then s.powerOff
    else
      let s := (s.modSeq fun x => { x with downAt := s.now }).put Reg.SEQ_STATUS_STAGE st
      s.each (s.stageRails st) fun s k => s.railOff k

/-! ## Off requests (R431, R547, R550, R551) -/

/-- The off request is latched, with its ship flag, for the media ready that follows. -/
def State.latchOff (s : State) (ship : Bool) : State :=
  let s := (s.modSeq fun x => { x with offLatch := true }).putB Reg.SEQ_STATUS_OFF_LATCH true
  if ship then s.putB Reg.PERS_OFF_SHIP true else s

/-- An off request by the power state. -/
def State.offRequested (s : State) (ship : Bool) : State :=
  match s.seq.power with
  | .off | .powerDown => s
  | .save | .warmReset => s.latchOff ship
  | .powerUp =>
    let s := s.modSeq fun x => { x with offWaiting := true }
    if s.stageInProgress then s else s.beginPowerDown .other
  | .boot | .recovery => s.beginPowerDown .other
  | .run =>
    if !s.flag Reg.SEQ_STATUS_ARMED then s.beginPowerDown .other
    else match s.shake with
      | none => s.openHandshake ship
      | some h =>
        if ship && !s.flag Reg.PERS_OFF_SHIP then ({ s with shake := some { h with shipEnded := false } } : State).shipPrepare
        else s

/-- OFF_REQUEST: a write of 1 to SEQ_CTRL.OFF_REQ. -/
def execOffRequest (path : PathIx) (s : State) : Result :=
  .next (s.begin.reach path 0x060004 fun s => s.offRequested false)

/-- SHIP_OFF_REQUEST: OFF_REQ written with SHIP. -/
def execShipOffRequest (path : PathIx) (s : State) : Result :=
  .next (s.begin.reach path 0x060004 fun s => s.offRequested true)

/-- OFF_ACK (R548, R549). -/
def execOffAck (path : PathIx) (s : State) : Result :=
  .next (s.begin.reach path 0x030018 fun s => s.shakeMet 1)

/-- OFF_HANDSHAKE_TIMEOUT (R548): WAIT_S seconds have passed; with 0, the next frame has come. -/
def execOffHandshakeTimeout (s : State) : Result :=
  match s.shake with
  | none => .next s.begin
  | some h =>
    let w := s.get Reg.PERS_OFF_WAIT_S
    occurs (if w = 0 then decide (h.openAt / 1024 < s.frame) else decide (h.openAt + sec w ≤ s.now)) s fun s => s.shakeMet 3

/-! ## The power button (R429, R430, Table 14.6) -/

/-- PWRBTN_PRESS. -/
def execPwrbtnPress (s : State) : Result :=
  occurs (s.tick.aonPowered && s.seq.pressAt.isNone) s fun s =>
    (s.modSeq fun x => { x with pressAt := some s.now, pressActed := false }).modPins fun p => { p with pwrbtnN := false }

/-- The on-request latch, and SEQ_STATUS.ON_LATCH. -/
def State.latchOn (s : State) (b : Bool) : State := (s.modSeq fun x => { x with onLatch := b }).putB Reg.SEQ_STATUS_ON_LATCH b

/-- A toggle by the power state (R430). -/
def State.toggle (s : State) : State :=
  match s.seq.power with
  | .off => s.latchOn true
  | .powerDown => s.latchOn !s.seq.onLatch
  | .save => s.modSave fun x => { x with toggle := true }
  | _ => s.offRequested false

/-- A press reaches 8 s. -/
def State.forcedOff (s : State) : State :=
  let s := s.modSeq fun x => { x with pressActed := true }
  if s.seq.power = .off ∨ s.seq.power = .powerDown then s
  else
    let s := s.event 0x4A2 2 Sev.note
    if s.flag Reg.PERS_STATUS_SAVE_ACTIVE || s.flag Reg.SEQ_STATUS_ARMED || s.save.frame0.isSome then
      let s := s.abandonHandshake false false
      (s.modSave fun x => { x with forcedOff := true }).trigger 3
    else if s.seq.power = .powerUp ∧ s.stageInProgress then s.modSeq fun x => { x with offWaiting := true }
    else s.beginPowerDown .other

/-- FORCED_OFF. -/
def execForcedOff (s : State) : Result :=
  match s.seq.pressAt with
  | none => .next s.begin
  | some t => occurs (!s.seq.pressActed && decide (t + sec 8 ≤ s.now)) s State.forcedOff

/-- PWRBTN_RELEASE. -/
def State.buttonReleased (s : State) (t : Nat) : State :=
  let hold := s.now - t
  let acted := s.seq.pressActed
  let s := (s.modSeq fun x => { x with pressAt := none, pressActed := false }).modPins fun p => { p with pwrbtnN := true }
  let s := s.putSat Reg.SEQ_BTN_LAST_HOLD_MS (hold / 1000000)
  if acted then s
  else if hold < sec 4 then (s.bump Reg.SEQ_BTN_SHORT 1).toggle
  else if hold < sec 8 then (s.bump Reg.SEQ_BTN_IGNORED 1).event 0x4A2 1 Sev.note
  else (s.forcedOff).modSeq fun x => { x with pressActed := false }

def execPwrbtnRelease (s : State) : Result :=
  match s.seq.pressAt with
  | none => .next (s.begin.modPins fun p => { p with pwrbtnN := true })
  | some t => .next (s.begin.buttonReleased t)

end Sys2Proof.Machine
end

