-- ==== Sys2Proof/Machine/Boot.lean ====
section
/-!
DEFINITION. Sys2Proof/Machine/Boot.lean: PORST_N release, the choice of firmware, the key sources of a start, and RECOVERY
(18_firmware_update R519 to R522, R525, R533 to R535; 12_cipher_and_keys R376, R377; 19_life_cycle R538, R541).
-/
namespace Sys2Proof.Machine

/-! ## Firmware images and slots (R519 to R522) -/

/-- The header is valid (R519). -/
def fwValid (h : FwHdr) : Bool :=
  h.formatOk && decide (h.svn ≤ 64) && decide (h.payloadLen % 16 = 0) && decide (h.payloadLen ≤ 1310720) &&
    decide (h.codeLen ≤ h.payloadLen) && decide (h.codeLen ≤ 1048576)

/-- The image is authentic against a number of blown fuses (R520). -/
def fwAuthentic (fuses : Nat) (h : FwHdr) : Bool := fwValid h && h.pubkeyOk && h.sigOk && decide (fuses ≤ h.svn) && h.tagOk

/-- Firmware slots A and B as 0 and 1. -/
def State.fwSlot (s : State) (k : Nat) : FwSlot := if k = 0 then s.upd.fwA else s.upd.fwB
def State.modFw (s : State) (k : Nat) (f : FwSlot → FwSlot) : State :=
  s.modUpd fun u => if k = 0 then { u with fwA := f u.fwA } else { u with fwB := f u.fwB }

/-- BOOT_MODE allows a slot. -/
def bootAllows (mode k : Nat) : Bool := decide (mode < 2) || decide (mode = 2 + k)

/-- A slot that the ROM may boot. -/
def State.fwCandidate (s : State) (k : Nat) : Bool :=
  bootAllows s.pins.bootMode k && (s.fwSlot k).act.isSome && (s.fwSlot k).image.any (fwAuthentic s.otp.svn)

/-- R522: the candidate with the higher ACT_SEQ (slot A on a tie), unless the AON domain records that its latest attempt
failed and the other is a candidate too. -/
def State.chooseFw (s : State) : Option Nat :=
  let a := s.fwCandidate 0
  let b := s.fwCandidate 1
  let best := if (s.upd.fwA.act.getD 0) < (s.upd.fwB.act.getD 0) then 1 else 0
  if a && b then some (if s.upd.aonSlot = some best then 1 - best else best)
  else if a then some 0 else if b then some 1 else none

/-- The registers show the slot that runs. -/
def State.runFw (s : State) (k : Nat) : State :=
  let x := s.fwSlot k
  let s := ((s.put Reg.UPD_STATUS_RUNNING k).put Reg.UPD_SVN_FUSED s.otp.svn).put Reg.UPD_SVN_RUNNING ((x.image.map FwHdr.svn).getD 0)
  (s.put Reg.UPD_ACT_SEQ_SEQ (x.act.getD 0)).put Reg.UPD_STATUS_BOOT_FAILS (min 3 s.upd.aonFails)

/-! ## Keys of a start (R376, R377) -/

/-- A key taken from factory data or a firmware header. -/
def State.fillFactory (s : State) (slot use : Nat) (k : Key) : State := s.modSlot slot fun x => x.fill slot 3 use false k

/-- Steps 1 and 2: slot 26 from the firmware header, slots 25 and 27 from the factory module data. -/
def State.unwrapKeys (s : State) (fw : Option Nat) : State :=
  let s := if fw.isSome then s.fillFactory 26 4 (.fixed 26) else s
  if !s.upd.factoryOk then s
  else
    let s := s.fillFactory 25 12 (.fixed 25)
    match s.upd.importUse with
    | some u => s.fillFactory 27 (u % 64 / 2 * 2) (.fixed 27)
    | none => s

/-- A slot from its entry of the key record. The record does not keep a tenant key's source: a free value. -/
def State.loadEntry (s : State) (e : KeyEntry) : State :=
  let (v, s) := s.takeFree
  let source := if e.slot < 4 then 0 else if e.slot < 20 then v % 2 else 1
  s.modSlot e.slot fun x => { x.fill e.slot source e.use (decide (27 ≤ e.slot)) e.key with gen := e.gen % 65536 }

/-- The fresh keys of slots 0 to 3 when no key record is valid; the random number generator must serve. -/
def State.drawRoot (s : State) : State :=
  if !s.rngOk then s
  else s.each [0, 1, 2, 3] fun s k =>
    let (key, s) := s.drawKey
    s.modSlot k fun x => x.fill k 0 0 true key

/-- Step 3, and KEY_RECORD_LOST. -/
def State.loadKeyRecord (s : State) : State :=
  let a := s.gauge.learnedA.isSome
  let b := s.gauge.learnedB.isSome
  let s := s.put Reg.KEY_STATUS_RECORD_VALID (a.toNat + 2 * b.toNat)
  match s.learned with
  | some l => s.each l.keys.entries State.loadEntry
  | none =>
    let s := (s.putB Reg.KEY_STATUS_RECORD_LOST true).modKeys fun k => { k with keyLost := true }
    (s.event 0x3EC 1 Sev.uncorrected).drawRoot

/-- The tenant keys of enabled LDs, once the configuration says which those are, and the new record. -/
def State.drawTenants (s : State) : State :=
  if !s.keys.keyLost || !s.rngOk then s
  else
    let s := s.each ((List.range 16).filter fun k => s.ldOn k && decide ((s.slot (tenantSlot k)).st = .empty)) fun s k =>
      let (key, s) := s.drawKey
      s.modSlot (tenantSlot k) fun x => x.fill (tenantSlot k) 0 0 true key
    s.wantLearned

/-- The DRBG is instantiated (R373, R374). -/
def State.drbgStart (s : State) (ok : Bool) : State :=
  let s := (s.putB Reg.KEY_STATUS_RNG_OK ok).modKeys fun k => { k with requests := 0, reseedSf := s.sf, refused := !ok }
  if ok then s else (s.bump Reg.KEY_STATUS_RNG_FAILS 1).event 0x3ED 1 Sev.degraded

/-! ## PORST_N release (R522, R533, R541) -/

/-- What was programmed into the NOR while PORST_N was asserted. -/
def State.program (s : State) (n : NorIn) : State :=
  s.modUpd fun u => { u with
    fwA := n.fwA.getD u.fwA, fwB := n.fwB.getD u.fwB, cfgA := n.cfgA.getD u.cfgA, cfgB := n.cfgB.getD u.cfgB
    factoryOk := (n.factory.map (·.1)).getD u.factoryOk
    importUse := match n.factory with | some f => f.2 | none => u.importUse }

/-- Spare cipher pairs and spare LDPC engines stand by (Tables 12.14, 10.11). -/
def State.sparesReady (s : State) : State :=
  s.each (List.range 4) fun s q => (s.put (Reg.PAIR_STATUS_STATE (13 * q + 12)) 1).put (Reg.LDPC_STATUS_STATE (5 * q + 4)) 1

/-- The cores are released on a slot after PORST_N: the preserved area is clear (R531). -/
def State.releaseCores (s : State) (k : Nat) : State :=
  let s := s.runFw k
  let fmt := ((s.fwSlot k).image.map FwHdr.preserveFmt).getD 0
  let s := s.modUpd fun u => { u with keptFmt := fmt, keptOk := true }
  { s with cluster := { s.cluster with running := true, bootOk := false, halted := false, lockstep := true, releasedAt := s.now } }

/-- The start from PORST_N release: firmware, keys, and the causes 1 and 2 of RECOVERY (cause 3 comes with a boot failure). -/
def State.coldBoot (s : State) (recoveryLow rngOk : Bool) : State :=
  let s := (s.modSeq fun x => { x with startAt := some s.now, recoveryDue := none }).put Reg.PERS_START_ORIGIN 0
  let s := (s.putB Reg.TICK_STATUS_AON_RESTART s.seq.aonRestart).modSeq fun x => { x with aonRestart := false }
  let s := (s.putB Reg.SEQ_STATUS_ON_LATCH s.seq.onLatch).sparesReady
  let s := (s.put Reg.SEQ_LOG_NEXT (s.seq.ringSeq % 32768)).put Reg.SEQ_LOG_WRAPS (s.seq.ringSeq / 32768)
  let fw := s.chooseFw
  let s := if s.pins.bootMode = 1 then s.emit .uart else s
  let s := ((s.drbgStart rngOk).unwrapKeys fw).loadKeyRecord
  let s := (s.put Reg.UPD_SVN_FUSED s.otp.svn).put Reg.UPD_STATUS_BOOT_FAILS (min 3 s.upd.aonFails)
  let due (c : Nat) : State := s.modSeq fun x => { x with recoveryDue := some c }
  if recoveryLow then due 1
  else match fw with
    | none => due 2
    | some k => s.releaseCores k

/-- PORST_N_RELEASE. -/
def execPorstNRelease (i : BootIn) (s : State) : Result :=
  occurs (!s.pins.porstN && decide (s.seq.power = .boot)) s fun s =>
    let s := (s.program i.nor).modPins fun p => { p with porstN := true, straps := i.straps, bootMode := i.bootMode }
    (s.modTw0 fun t => { t with addr := 0x58 + i.straps }).coldBoot i.recoveryLow i.rngOk

end Sys2Proof.Machine
end

