-- ==== Sys2Proof/Machine/Load.lean ====
section
/-!
DEFINITION. Sys2Proof/Machine/Load.lean: the configuration loader (17_configuration_and_calibration; R23, R71, R217, R277,
R320, R321, R408, R418, R507).
-/
namespace Sys2Proof.Machine

/-! ## Authentic copies (R501, R506) -/

/-- Configuration copies A and B as 0 and 1. -/
def State.cfgSlot (s : State) (k : Nat) : CfgSlot := if k = 0 then s.upd.cfgA else s.upd.cfgB

/-- An image is authentic under the key of slot 25. -/
def State.cfgAuthentic (s : State) (c : CfgImage) : Bool := c.formatOk && c.intact && decide ((s.slot 25).key = some c.cmacKey)

/-- The authentic image of a copy. -/
def State.cfgCopy (s : State) (k : Nat) : Option CfgImage :=
  if (s.cfgSlot k).magic then (s.cfgSlot k).image.filter fun c => s.cfgAuthentic c else none

/-- The authentic copies, the higher IMAGE_SEQ first (copy A on a tie). -/
def State.cfgCopies (s : State) : List (Nat × CfgImage) :=
  match s.cfgCopy 0, s.cfgCopy 1 with
  | some a, some b => if a.seq < b.seq then [(1, b), (0, a)] else [(0, a), (1, b)]
  | some a, none => [(0, a)]
  | none, some b => [(1, b)]
  | none, none => []

/-- An authentication failure for each copy that fails R501 (R518). -/
def State.authFailures (s : State) : State :=
  s.each [0, 1] fun s k => if (s.cfgCopy k).isSome then s else (s.wr 0x090010 0#32).event 0x4E9 3 Sev.degraded

/-! ## Structure (R502 to R504) -/

/-- The section types of Table 17.3 in order of application. -/
def sectionOrder : List Nat := [0x10, 0x20, 0x21, 0x22, 0x30, 0x40, 0x41, 0x42, 0x43, 0x50, 0x60, 0x70, 0x01]

/-- The contents are of a section's type and length. -/
def bodyFits (type : Nat) : SecBody → Bool
  | .media _ _ => decide (type = 0x10)
  | .rankMap _ _ => decide (type = 0x20)
  | .sets _ => [0x21, 0x30, 0x50, 0x60].contains type
  | .modeSets _ => decide (type = 0x22)
  | .ocv l => decide (type = 0x40) && decide (l.length = 404)
  | .impedance l => decide (type = 0x41) && decide (l.length = 64)
  | .dividers _ => decide (type = 0x42)
  | .charger l => decide (type = 0x43) && decide (l.length ≤ 16)
  | .topcoat _ => decide (type = 0x70)
  | .records _ => decide (type = 0x01)

/-- An offset in the broadcast aperture or in a window (R34). -/
def isBcastOff (off : Nat) : Bool :=
  decide (0x180000 ≤ off ∧ off < 0x1C0000) || (decide (0x200000 ≤ off ∧ off < 0x300000) && decide (0x38000 ≤ off % 0x40000))

/-- The bits that fields of a register cover. -/
def fieldMask (d : RegDef) : Word := [Acc.ro, .rw, .rw1c, .wo, .rws, .rwl].foldl (fun m a => m ||| accMask d a) 0#32

/-- A record that R504 lets pass. -/
def recordOk (r : CfgRecord) : Bool :=
  r.clean && !decide (0x040000 ≤ r.off ∧ r.off < 0x050000) && (r.bcast || !isBcastOff r.off) &&
  match regAt (if isBcastOff r.off then firstInstance r.off else r.off) with
  | none => false
  | some (d, _) => decide (r.mask &&& (accMask d .ro ||| accMask d .wo) = 0#32) && decide (r.mask &&& r.value &&& ~~~ fieldMask d = 0#32)

/-- The first offence of a section with its directory index: TYPE and INDEX of CFG_REJECT. -/
def sectionOffence (x : Section) (ix : Nat) : Option (Nat × Nat) :=
  if !x.inside || !x.lenOk || !sectionOrder.contains x.type || !bodyFits x.type x.body then some (x.type, ix)
  else match x.body with
    | .records l => (l.zipIdx.find? fun r => !recordOk r.1).map fun r => (x.type, r.2)
    | _ => none

/-- The first offence of an image's sections. -/
def imageOffence (c : CfgImage) : Option (Nat × Nat) := c.sections.zipIdx.findSome? fun x => sectionOffence x.1 x.2

/-! ## Applying (R502, R503, R505) -/

/-- Bits that a table or record has set become common or own fields (R505). -/
def State.markCommon (s : State) (off : Nat) (mask : Word) (common : Bool) : State :=
  s.modPlumb fun p => { p with common := sparseUpd 0#32 p.common (commonKey off) fun m =>
    if common then m ||| mask else m &&& ~~~ mask }

/-- The loader sets the fields under a mask: writable fields take the value, RW1C fields are cleared by 1. -/
def State.loadWord (s : State) (off : Nat) (mask value : Word) : State :=
  match regAt off with
  | none => s
  | some (d, _) =>
    let put := mask &&& (accMask d .rw ||| accMask d .rws ||| accMask d .rwl)
    let clr := mask &&& value &&& accMask d .rw1c
    let f (w : Word) : Word := ((w &&& ~~~ put) ||| (value &&& put)) &&& ~~~ clr
    if bankedOff off then s.bankWr 4 off (f (s.bankRd 4 off)) else s.wr off (f (s.rd off))

/-- A record's write (R503). -/
def State.applyRecord (s : State) (r : CfgRecord) : State :=
  let s := if r.bcast then
      ((s.bankPut 4 Reg.BCAST_QMASK_MASK r.qmask).bankPut 4 Reg.BCAST_SCMASK_MASK r.scmask).bankPut 4 Reg.BCAST_FCMASK_MASK r.fcmask
    else s
  let l := (s.targets 4 r.off).getD [r.off]
  (s.each l fun s a => s.loadWord a r.mask r.value).markCommon (if isBcastOff r.off then firstInstance r.off else r.off) r.mask r.bcast

/-- A register's copies in every unit of its kind. -/
def everyUnit (off : Nat) : List Nat :=
  match regAt off with
  | some (d, _) => match d.kind.locate off with
    | some (_, loc) => d.kind.units.map fun u => d.kind.base u + loc
    | none => [off]
  | none => []

/-- Whether a section of a type sets a register (Table 17.3). -/
def sectionSets (type off : Nat) : Bool :=
  match regAt off with
  | none => false
  | some (d, _) =>
    match type with
    | 0x10 => decide (d.kind = .fc) || decide (off = 0x030700)
    | 0x20 => (decide (d.kind = .sc) && decide ((scSlot off).any fun x => decide (0x40 ≤ x.2 ∧ x.2 < 0x60))) ||
        (decide (d.kind = .quadrant) && decide (0x100 ≤ off % 0x40000 ∧ off % 0x40000 < 0x130))
    | 0x21 => decide (d.kind = .sc) && (scSlot off).any fun x => decide (0x100 ≤ x.2 ∧ x.2 < 0x200)
    | 0x30 => decide (d.kind = .rail) && decide (off % 0x20 < 0x10)
    | 0x50 => decide (d.kind = .ld)
    | 0x60 => decide (0x021000 ≤ off ∧ off < 0x022400)
    | _ => false

/-- LD_PART.VOL's bits: what the QoS section sets of LD_PART. -/
def isLdPart (off : Nat) : Bool := decide (0x081000 ≤ off ∧ off < 0x081200) && decide (off % 0x20 = 8)

/-- One write of a table section. The load of a warm reset leaves the rail table of running rails and VOL (R321, R432, R507). -/
def State.applySet (s : State) (warm : Bool) (type inst : Nat) (x : RegSet) : State :=
  if !sectionSets type x.off then s else
  let l := if inst = 65535 then everyUnit x.off else [x.off]
  let s := s.each l fun s a =>
    if isLdPart a then (if warm then s else s.put ⟨a, 0, 15⟩ ((x.val &&& x.mask).toNat % 32768))
    else if warm && decide (type = 0x30) && (s.rail ((a - 0x061000) / 0x20)).en then s
    else s.loadWord a x.mask x.val
  s.markCommon x.off x.mask (decide (inst = 65535))

/-- One section applied; the Topcoat entries are judged afterwards, a later one replacing an earlier one (R516). -/
def State.applySection (s : State) (warm : Bool) (x : Section) : State :=
  let sets (s : State) (l : List RegSet) : State := s.each l fun s r => s.applySet warm x.type x.inst r
  match x.body with
  | .media m l => sets { s with cfg := { s.cfg with media := m } } l
  | .rankMap h l => sets { s with cfg := { s.cfg with height := h } } l
  | .sets l => sets s l
  | .modeSets l => { s with cfg := { s.cfg with modeSets := l } }
  | .ocv l => { s with cfg := { s.cfg with ocv := l } }
  | .impedance l => { s with cfg := { s.cfg with impSeed := l } }
  | .dividers d => { s with cfg := { s.cfg with dividers := d } }
  | .charger l => { s with cfg := { s.cfg with charger := l } }
  | .topcoat l => { s with cfg := { s.cfg with topcoat := l.foldl (fun m e => sparseSet none m e.1 (some e.2)) s.cfg.topcoat } }
  | .records l => s.each l State.applyRecord

/-- The sections in their order of application. -/
def orderedSections (c : CfgImage) : List Section := sectionOrder.flatMap fun t => c.sections.filter fun x => decide (x.type = t)

def State.applyImage (s : State) (c : CfgImage) (warm : Bool) : State :=
  s.each (orderedSections c) fun s x => s.applySection warm x

/-! ## Rules that reject (R71, R217, R320, R418) -/

/-- Directory index of the last section of a type. -/
def lastOf (c : CfgImage) (type : Nat) : Nat :=
  c.sections.zipIdx.foldl (fun m x => if x.1.type = type then x.2 else m) 0

/-- Index of the last record that names one of some offsets. -/
def lastRecord (c : CfgImage) (offs : List Nat) : Nat :=
  c.sections.foldl (fun m x => match x.body with
    | .records l => l.zipIdx.foldl (fun m r => if offs.contains r.1.off then r.2 else m) m
    | _ => m) 0

/-- R71: each constant with its field and its range. -/
def State.budgetRanges (s : State) : List (Fld × Nat × Nat) := [
  (Reg.EXPO_FLOOR_GIB, 1, max 1 (min 1024 (s.get Reg.EXPO_MAX_GIB))), (Reg.EXPO_HOLDUP_MIB, 0, 1024 * s.get Reg.EXPO_FLOOR_GIB),
  (Reg.EXPO_SAVES_N, 1, 4), (Reg.SAVE_P_BASE_DECIW, 100, 2000), (Reg.SAVE_P_DIE_MW, 50, 1000), (Reg.SAVE_R_DIE_MBPS, 50, 1000),
  (Reg.SAVE_E_FIXED_J, 1, 200)]

def State.budgetOffence (s : State) (c : CfgImage) : Option (Nat × Nat) :=
  if s.cfg.media.d < 1 ∨ 128 < s.cfg.media.d then some (0x10, lastOf c 0x10)
  else (s.budgetRanges.find? fun x => !(decide (x.2.1 ≤ s.get x.1) && decide (s.get x.1 ≤ x.2.2))).map fun x =>
    (0x01, lastRecord c [x.1.off, 0x030108, 0x03010C])

/-- How far the rank ranges of a sub-channel reach without a gap, in 512 MiB. -/
def State.rankReach (s : State) (n : Nat) : Nat :=
  (List.range 8).foldl (fun p _ =>
    match (List.range 8).find? fun r => s.flag (Reg.SC_RANK_PRESENT n r) && decide (s.get (Reg.SC_RANK_BASE n r) ≤ p) &&
        decide (p < s.get (Reg.SC_RANK_BASE n r) + s.get (Reg.SC_RANK_SIZE n r)) with
    | some r => s.get (Reg.SC_RANK_BASE n r) + s.get (Reg.SC_RANK_SIZE n r)
    | none => p) 0

/-- R217, R218: the host data of a quadrant and the house region above it lie in rank ranges on each of its sub-channels. -/
def State.ranksOk (s : State) : Bool :=
  (List.range 16).all fun n =>
    decide (s.get (Reg.QD_HOUSE_BASE (n / 4)) + s.get (Reg.QD_HOUSE_SIZE (n / 4)) ≤ 4 * s.rankReach n)

/-- The host-visible capacity in 256 MiB: four quadrants of the smallest host data. -/
def State.capacity256 (s : State) : Nat :=
  8 * (List.range 4).foldl (fun m q => min m (s.get (Reg.QD_HOUSE_BASE q))) 4096

/-- R320. -/
def State.ldsOk (s : State) : Bool :=
  let on := (List.range 16).filter fun k => s.ldOn k
  let lo (k : Nat) : Nat := s.get (Reg.LD_RANGE_BASE k)
  let hi (k : Nat) : Nat := s.get (Reg.LD_RANGE_BASE k) + s.get (Reg.LD_RANGE_SIZE k)
  on.all fun k => decide (hi k ≤ s.capacity256) && on.all fun j => decide (j = k) || decide (hi k ≤ lo j) || decide (hi j ≤ lo k)

/-- The stage of each rail after a number of rounds of R418: 0 for boot rails, 1 above the highest parent for main rails. -/
def State.stagesAfter (s : State) (boot : Bool) : Nat → List Nat
  | 0 => List.replicate 32 0
  | n + 1 =>
    let l := s.stagesAfter boot n
    (List.range 32).map fun k =>
      if !s.railPresent k || (!boot && decide (k < 4)) then 0
      else (s.parents k).foldl (fun m p => max m (1 + l.getD p 0)) 1

/-- The stages of R418. -/
def State.stages (s : State) : List Nat := s.stagesAfter false 10

/-- R418: no cycle, parents present, boot rails without main parents and under SYSTEM_RESET, no stage above 8. -/
def State.railsOk (s : State) : Bool :=
  ((List.range 32).all fun k => !s.railPresent k || ((s.parents k).all fun p => s.railPresent p)) &&
  ((List.range 4).all fun k => !s.railPresent k || (((s.parents k).all fun p => decide (p < 4)) &&
    decide (s.get (Reg.RAIL_CFG0_REACTION k) = 3))) &&
  (s.stages.all fun st => decide (st ≤ 8)) && (((s.stagesAfter true 6).take 4).all fun d => decide (d ≤ 4))

/-- The first rule that an applied configuration breaks, with TYPE and INDEX of CFG_REJECT. -/
def State.ruleOffence (s : State) (c : CfgImage) : Option (Nat × Nat) :=
  if !s.ranksOk then some (0x20, lastOf c 0x20)
  else if !s.railsOk then some (0x30, lastOf c 0x30)
  else if !s.ldsOk then some (0x50, lastOf c 0x50)
  else s.budgetOffence c

/-! ## Calibration (R513, R514, R516) -/

/-- The Undercoat is read (R513, R514). -/
def State.readUndercoat (s : State) (i : LoadIn) : State :=
  let ok := (List.range 4).map fun b => i.undercoatOk.getD b false
  let s := { s with otp := { s.otp with undercoat := i.undercoat, undercoatOk := ok } }
  let bits := (List.range 4).foldl (fun m b => if ok.getD b false then m + 2 ^ b else m) 0
  (s.put Reg.CAL_STATUS_UNDERCOAT_OK bits).each ((List.range 4).filter fun b => !ok.getD b false) fun s _ => s.event 0x4E9 5 Sev.degraded

/-- The largest offset that Table 17.7 admits in a Topcoat entry of a channel. -/
def topcoatRange (ch : Nat) : Int := if ch < 38 then 64 else if ch = 38 then 200 else 50

def topcoatOk (ch : Nat) (e : Int × Int) : Bool :=
  decide (ch ≤ 62) && decide (-20000 ≤ e.1 ∧ e.1 ≤ 20000) && decide (-topcoatRange ch ≤ e.2 ∧ e.2 ≤ topcoatRange ch)

/-- The Topcoat entries are judged (R516). -/
def State.judgeTopcoat (s : State) : State :=
  let bad := s.cfg.topcoat.filter fun e => !(e.2.any fun x => topcoatOk e.1 x)
  let s := { s with cfg := { s.cfg with topcoat := s.cfg.topcoat.filter fun e => e.2.any fun x => topcoatOk e.1 x } }
  let map := bad.foldl (fun m e => if e.1 ≤ 62 then m + 2 ^ e.1 else m) 0
  let s := (s.put64 0x090110 0x090114 map).putSat Reg.CFG_STATUS_TOPCOAT_REJECTS bad.length
  s.each bad fun s _ => s.event 0x4E9 2 Sev.note

/-! ## Device time (R23) -/

/-- The newest time-stamp of the log ring and the learned records. -/
def State.newestStamp (s : State) : Nat :=
  let l := s.seq.ring.map LogRecord.time ++ (s.gauge.learnedA.toList ++ s.gauge.learnedB.toList).map fun x => x.gauge.time
  l.foldl max 0

/-- T_adv: the first multiple of 1,024 ns more than 1 s past it. -/
def State.tAdv (s : State) : Nat := ((s.newestStamp + 1000000000) / 1024 + 1) * 1024

/-- Device time moves by d; what the model measures from moments before moves along. -/
def State.moveTime (s : State) (d : Nat) : State :=
  let s := { s with tick := { s.tick with devTime := s.tick.devTime + d, cycle := 0 }, cluster := { s.cluster with releasedAt := s.cluster.releasedAt + d } }
  let s := s.modSeq fun x => { x with startAt := x.startAt.map (· + d), pressAt := x.pressAt.map (· + d) }
  s.modPins fun p => { p with inputAt := p.inputAt + d }

/-- Device time is advanced to T_adv. -/
def State.advanceTime (s : State) : State := if s.tick.devTime < s.tAdv then s.moveTime (s.tAdv - s.tick.devTime) else s

/-! ## Partitions (R321) -/

/-- VOL and VOL_NEXT of an LD, by whether it is enabled and what was kept for it. -/
def State.loadVol (s : State) (k : Nat) : Bool → Option Nat → State
  | true, some v =>
    if v ≤ s.get (Reg.LD_RANGE_SIZE k) then (s.put (Reg.LD_PART_VOL k) v).put (Reg.LD_PART_VOL_NEXT k) v
    else (s.put (Reg.LD_PART_VOL_NEXT k) (s.get (Reg.LD_PART_VOL k))).event 0x4E9 7 Sev.note
  | _, _ => s.put (Reg.LD_PART_VOL_NEXT k) (s.get (Reg.LD_PART_VOL k))

/-- VOL and VOL_NEXT of the LDs at a load after PORST_N release. -/
def State.loadPartitions (s : State) : State :=
  let kept := (s.learned.map Learned.volNext).getD []
  let s := s.each (List.range 16) fun s k => s.loadVol k (s.ldOn k) kept[k]?
  s.modGauge fun g => { g with volNext := (List.range 16).map fun k => s.get (Reg.LD_PART_VOL_NEXT k) }

/-! ## Learned records and health records (R277, R408) -/

/-- The gauge takes its learned record, or the configuration's values with LEARNED_LOST. -/
def State.loadGauge (s : State) : State :=
  match s.learned with
  | some l =>
    let g := l.gauge
    let s := ((s.put Reg.GAUGE_FCC_FCC_MAH g.fcc).put Reg.PACK_CYCLES_COUNT g.cycles).put64 0x050208 0x05020C g.learnLast
    (s.put64 0x050110 0x050114 g.serial).modGauge fun x => { x with z := g.z, discharge := g.discharge * 1000000000000, lastWrite := s.now }
  | none =>
    let s := s.put Reg.GAUGE_FCC_FCC_MAH (s.get Reg.GAUGE_FCC_DESIGN_MAH)
    (s.modGauge fun x => { x with z := s.cfg.impSeed, lastWrite := s.now }).event 0x47C 2 Sev.degraded

/-- The newest DRAM health record of a quadrant in the log ring. -/
def State.newestHealth (s : State) (q : Nat) : Option (List (Nat × Nat × Option Nat × Bool × Nat)) :=
  (s.seq.ring.foldl (fun best r => match r.body with
    | .dramHealth x _ ranks => if x = q ∧ ((best.map (·.1)).getD 0) ≤ r.seq then some (r.seq, ranks) else best
    | _ => best) (none : Option (Nat × List (Nat × Nat × Option Nat × Bool × Nat)))).map (·.2)

/-- A quadrant's health record applied: ranks out, or on their way out, are served from their spare; erasures stand. The
record does not keep what set an erasure: a free value. -/
def State.loadHealth (s : State) (q : Nat) : State :=
  s.each ((s.newestHealth q).getD []) fun s x =>
    let (j, r, dev, out, spare) := x
    let n := 4 * q + j
    if !s.flag (Reg.SC_RANK_PRESENT n r) then s
    else if out || decide (spare < 4) then
      (if spare < 4 then s.modQuad q fun d => { d with spares := d.spares ++ [(j, r, spare)] } else s).setOut q j r
    else match dev with
      | some m =>
        let (v, s) := s.takeFree
        ((s.put (Reg.SC_RANK_HEALTH_DEVICE n r) m).putB (Reg.SC_RANK_HEALTH_ERASED n r) true).put (Reg.SC_RANK_HEALTH_SOURCE n r) (v % 2)
      | none => s

/-! ## The seal (R46, R49, R108, R204, R418, R439, R509, R568) -/

/-- The number of a list of bits. -/
def bitsOf (l : List Bool) : Nat := (l.zipIdx).foldl (fun m x => if x.1 then m + 2 ^ x.2 else m) 0

/-- What follows from the configuration: rail stages, boot rails good, DEV_POP, the LDs of each head. -/
def State.derived (s : State) : State :=
  let st := s.stages
  let s := s.each (List.range 32) fun s k => s.put (Reg.RAIL_STATUS_STAGE k) (if s.railPresent k then st.getD k 0 else 0)
  let s := s.each ((List.range 4).filter s.railPresent) fun s k =>
    (s.put (Reg.RAIL_STATUS_STATE k) 3).modRail k fun r => { r with en := true, everGood := true, goodSince := some (r.goodSince.getD s.sf) }
  let pop := bitsOf ((List.range 16).map fun n => (List.range 8).any fun r => s.flag (Reg.SC_RANK_PRESENT n r))
  let s := (s.put Reg.DEV_POP_SC_PRESENT pop).put Reg.DEV_POP_RAILS ((List.range 32).filter s.railPresent).length
  s.each [0, 1] fun s h => s.put (Reg.FAB_STATUS_LDS h) (bitsOf ((List.range 16).map fun k => s.ldOn k && decide (s.ldHead k = h)))

/-- The reference copies at the seal (R46): the live words of the RWL and RWS registers, with no shadow and no commit. -/
def State.sealPlumb (s : State) : State :=
  let ref := s.regs.filter fun e => decide (cfgMask e.1 ≠ 0#32)
  s.modPlumb fun p => { p with reference := ref, foldRef := ref, foldPast := [], epochs := [], shadow := [], commit := none }

/-- What the AON domain keeps of the image (R568), and the fingerprint (R49). -/
def State.sealAon (s : State) (c : CfgImage) : State :=
  let s := ({ s with cfg := { s.cfg with bytes := c.bytes } } : State).putFingerprint
  s.modSeq fun x => { x with
    aonImage := some (c.seq, c.layoutCrc), aonAutoOn := s.flag Reg.SEQ_CTRL_AUTO_ON, aonSerial := true
    aonPop := Reg.DEV_POP_DIES.into (s.rd 0x000014) s.cfg.media.d }

/-- The records of an image. -/
def recordCount (c : CfgImage) : Nat :=
  c.sections.foldl (fun n x => match x.body with | .records l => n + l.length | _ => n) 0

/-- CFG_STATUS, CFG_LOAD and CFG_LAYOUT_CRC at the seal. -/
def State.sealStatus (s : State) (ix : Nat) (c : CfgImage) : State :=
  let s := ((s.putB Reg.CFG_STATUS_SEALED true).put Reg.CFG_STATUS_COPY ix).putB Reg.CFG_STATUS_ENCRYPTED c.encrypted
  let s := (s.put Reg.CFG_STATUS_CIETTE_CHECKS c.checks).put64 0x090004 0x090008 c.seq
  let s := s.put Reg.CFG_LAYOUT_CRC_CRC c.layoutCrc
  (s.putSat Reg.CFG_LOAD_RECORDS (recordCount c)).putSat Reg.CFG_LOAD_SECTIONS c.sections.length

/-- The single-fault status at the seal (R496). -/
def State.sealSfg (s : State) : State :=
  let s := (s.modEvents fun e => { e with obsSeen := 0, plumbSeen := 0 }).sfg Reg.EVT_SFG_STATUS_PLUMB_CLEAN false
  let s := (s.sfg Reg.EVT_SFG_STATUS_IN_LIMITS false).sfg Reg.EVT_SFG_STATUS_OBSERVERS false
  (s.sfg Reg.EVT_SFG_STATUS_SEALED true).judgePatrols.sfg Reg.EVT_SFG_STATUS_LOCKSTEP s.cluster.lockstep

/-- The loader's five steps of R509, with what the seal puts into force. -/
def State.seal (s : State) (ix : Nat) (c : CfgImage) : State :=
  let s := s.derived
  let s := s.modTick fun t => { t with setting := s.settingTime }
  ((((s.sfg Reg.EVT_SFG_STATUS_DRAIN_BOUND s.drainOk).sealPlumb).sealAon c).sealStatus ix c).sealSfg

/-- The group's side of a seal after PORST_N release (R439). -/
def State.sealGroup (s : State) (seqInLow : Bool) : State :=
  let s := (s.modGroup fun g => { g with sealedAt := s.now }).modPins fun p => { p with seqInLow := seqInLow }
  if !seqInLow then s
  else
    let s := (s.putB Reg.SEQ_GROUP_STATUS_MASTER true).put Reg.SEQ_GROUP_STATUS_POSITION 0
    s.modGroup fun g => { g with discovering := decide (s.get Reg.SEQ_GROUP_SIZE_M1 ≠ 0) }

/-! ## Trying the copies (R504, R506, R507) -/

/-- The first of some copies that applies, in the state with it applied; a rejected one is undone and reported. -/
def State.tryCopies (s : State) (warm again : Bool) : List (Nat × CfgImage) → Option (Nat × CfgImage) × State
  | [] => (none, s)
  | (ix, c) :: rest =>
    let t := s.applyImage c warm
    match imageOffence c <|> t.ruleOffence c with
    | none =>
      let t := if again then (t.putB Reg.CFG_STATUS_FALLBACK true).event 0x4E9 6 Sev.degraded else t
      (some (ix, c), t.judgeTopcoat)
    | some (type, index) =>
      let s := ((s.put Reg.CFG_REJECT_TYPE type).put Reg.CFG_REJECT_INDEX index).event 0x4E9 4 Sev.degraded
      s.tryCopies warm true rest

/-- What follows the application of a copy after PORST_N release. -/
def State.copyApplied (s : State) (i : LoadIn) (ix : Nat) (c : CfgImage) : State :=
  let s := s.advanceTime.loadPartitions.loadGauge.drawTenants
  ((s.each (List.range 4) fun s q => s.loadHealth q).seal ix c).sealGroup i.seqInLow

/-- What is measured before the first copy is tried. -/
def State.loadBegins (s : State) (i : LoadIn) : State :=
  ((s.readUndercoat i).putSat Reg.CFG_LOAD_LOAD_MS i.loadMs).authFailures

/-- The copies are tried in the state in which the load begins. -/
def State.copiesTried (s : State) : Option (Nat × CfgImage) × State := s.tryCopies false false s.cfgCopies

/-- The load after PORST_N release. -/
def State.configLoad (s : State) (i : LoadIn) : State :=
  let r := (s.loadBegins i).copiesTried
  match r.1 with
  | none => r.2.modSeq fun x => { x with recoveryDue := some 4 }
  | some (ix, c) => r.2.copyApplied i ix c

/-- CONFIG_LOAD. -/
def execConfigLoad (i : LoadIn) (s : State) : Result :=
  occurs (s.pins.porstN && decide (s.seq.power = .boot) && s.cluster.running && !s.isSealed && s.seq.recoveryDue.isNone) s
    fun s => s.configLoad i

end Sys2Proof.Machine
end

