-- ==== Sys2Proof/Machine/Warm.lean ====
section
/-!
DEFINITION. Sys2Proof/Machine/Warm.lean: RECOVERY, the warm reset from MR_N to its rebuild, and media ready
(06_restore_and_heal R147, R175; 14_power_sequencing R432, R434; 17_configuration_and_calibration R507; 18_firmware_update
R533 to R536; 19_life_cycle R545, R546).
-/
namespace Sys2Proof.Machine

/-! ## RECOVERY (R533 to R536) -/

/-- Main rails of DOMAIN 3 and their parents, and theirs. -/
def State.fabricRails (s : State) : List Nat :=
  (List.range 9).foldl (fun acc _ => s.mainRails.filter fun k => acc.contains k || acc.any fun x => (s.parents x).contains k)
    (s.mainRails.filter fun k => decide (s.get (Reg.RAIL_CFG0_DOMAIN k) = 3))

/-- The fabric rails are already on. -/
def State.fabricOn (s : State) : Bool :=
  (s.mainRails.any fun k => decide (s.get (Reg.RAIL_CFG0_DOMAIN k) = 3)) && s.domainGood 3 0

/-- Only the rail table of an image. -/
def railTable (c : CfgImage) : CfgImage := { c with sections := c.sections.filter fun x => decide (x.type = 0x30) }

/-- R534: Head 0's rails, from the rail table of the first authentic copy whose table passes R418. -/
def State.recoveryRails (s : State) : State :=
  if s.fabricOn then s.modHead 0 fun x => { x with phyOn := true }
  else
    match s.cfgCopies.find? fun x => (imageOffence (railTable x.2)).isNone && (s.applyImage (railTable x.2) false).railsOk with
    | none => s
    | some (_, c) =>
      let s := (s.applyImage (railTable c) false).derived
      let l := s.fabricRails
      let s := s.each l fun s k => (s.put (Reg.RAIL_STATUS_STATE k) 1).put (Reg.RAIL_STATUS_RETRIES_LEFT k) (s.get (Reg.RAIL_CFG0_RETRIES k))
      (s.modSeq fun x => { x with runs := x.runs ++ [{ todo := l, due := s.now }] }).modHead 0 fun x => { x with phyOn := true }

/-- RECOVERY is entered with a cause. -/
def State.enterRecovery (s : State) (cause : Nat) : State :=
  let s := ((s.modSeq fun x => { x with recoveryDue := none }).setPower .recovery).arm false
  let s := (s.putB Reg.UPD_STATUS_RECOVERY true).put Reg.UPD_STATUS_RECOVERY_CAUSE cause
  let s := ((s.event 0x4EA 8 Sev.uncorrected).decideStart 3).putB Reg.PERS_STATUS_MEDIA_READY false
  let s := s.each [0, 1] fun s h => s.modHead h fun x => { x with mediaReady := false, earlyRaised := false }
  let s := { s with cluster := { s.cluster with running := true, bootOk := true } }
  s.recoveryRails

/-- RECOVERY_ENTERED, with the cause of R533 that has come (1 to 4). -/
def execRecoveryEntered (cause : Fin 4) (s : State) : Result :=
  occurs (!s.mainOff && decide (s.seq.recoveryDue = some (cause.val + 1))) s fun s => s.enterRecovery (cause.val + 1)

/-! ## MR_N (R432, Table 5.6) -/

/-- MR_N_WARM_RESET: MR_N is recognised. -/
def State.mrRecognised (s : State) : State :=
  if s.flag Reg.PERS_STATUS_SAVE_ACTIVE || s.save.frame0.isSome then s.modSeq fun x => { x with mrLatched := true }
  else if s.flag Reg.SEQ_STATUS_ARMED && decide (s.seq.power = .run) then s.startWarmReset
  else s.event 0x4A3 2 Sev.note

def execMrNWarmReset (s : State) : Result := occurs (!s.mainOff) s State.mrRecognised

/-! ## The warm load (R432 step 3, R507, R545) -/

/-- A quadrant's flash work of R605 has ended: its dies run and hold no program, its journal is programmed, its sets are
closed. -/
def State.flashQuiet (s : State) (q : Nat) : Bool :=
  (s.quad q).journal.isEmpty && (s.quad q).ledgerWait.isEmpty && !(s.image.sets.any fun x => x.members.any fun c => decide (c / 4 = q)) &&
  (List.range 32).all fun i =>
    let d := s.die (32 * q + i)
    d.current.isNone && d.suspended.isEmpty && d.asked.all fun o => !o.kind.isProgram

/-- Offsets whose status a warm reset leaves: identity, tick, collector, gauge, sequencer, the blocks of quadrants and units,
and what the image, DSC, budget and partitions hold. -/
def warmKeeps (off : Nat) : Bool :=
  decide (off < 0x010100) || decide (0x020000 ≤ off ∧ off < 0x030000) || decide (0x050000 ≤ off ∧ off < 0x070000) ||
  decide (0x200000 ≤ off) || isLdPart off || decide (0x030360 ≤ off ∧ off < 0x030380) ||
  [0x030004, 0x030018, 0x030100, 0x030104, 0x030408, 0x030708, 0x030808, 0x03080C, 0x040000, 0x040010, 0x0A0000, 0x0A0008, 0x0A000C].contains off

/-- The rail table of a running rail stays (R432). -/
def State.railRuns (s : State) (off : Nat) : Bool :=
  decide (0x061000 ≤ off ∧ off < 0x061400) && (s.rail ((off - 0x061000) / 0x20)).en

/-- Registers reset: configuration everywhere, status where a warm reset does not keep it. -/
def State.warmRegs (s : State) : State :=
  { s with regs := s.regs.foldl (fun m e =>
      let m0 := cfgMask e.1
      if s.railRuns e.1 then m
      else setWord m e.1 (if warmKeeps e.1 then (e.2 &&& ~~~ m0) ||| (resetWord e.1 &&& m0) else resetWord e.1)) s.regs }

/-- Engines of the datapath reset: what DRAM, house regions, flash and trained results hold stays. -/
def State.warmEngines (s : State) : State :=
  let s := s.each (List.range 4) fun s q => s.modQuad q fun d => { d with
    houseWear := some (d.wear, s.programmed q, s.get (Reg.WEAR_ALLOW_VALUE q))
    panelMap := [], setting := [], panel := none, reading := none, versions := [], fills := [], follow := [], merges := [], heals := [], ciph := []
    relocs := [], relocWait := [], ledgerWait := [], saveOn := false, saveNext := 0, saveFails := [], saveDrained := false, dkc := []
    ckptStage := 0, ckptPages := [] }
  let s := s.each (List.range 16) fun s n =>
    let s := s.modSc n fun x => { x with
      readQ := [], writeQ := [], inFlight := [], port := [], banks := [], inOrder := [], modeWrites := 0, want := none, refDebt := [], idleSf := 0
      cols := 0, lastUse := [], writeBack := [], pass := none }
    s.holdRefresh n
  let s := s.each (List.range 128) fun s n => s.modDie n fun d => { d with queue := [], held := [], current := none, suspended := [] }
  let s := s.each [0, 1] fun s h => (s.linkLost h).modHead h fun x => { ({} : Head) with phyOn := x.phyOn }
  ({ s with paths := [] } : State).modImage fun i => { i with
    sets := [], collecting := [], writing := none, rebuild := none, ckptActive := false, ckptWait := [], runOpen := false, genOpen := false, loaded := false
    genNext := i.gen + 1 }

/-- Self-refresh ends at SC_OP.RUN_OP with the kept results; the tracking pass of R257 is due. -/
def State.leaveRefresh (s : State) : State :=
  s.each (List.range 16) fun s n =>
    let s := ((s.put (Reg.SC_STATUS_OP n) (s.runOp n)).put (Reg.SC_STATUS_STATE n) 0).put (Reg.SC_STATUS_SR_RANKS n) 0
    s.modSc n fun x => { x with passDue := s.sf }.standbyAt2 (s.runOp n)

/-- The newest valid run-open record's time. -/
def State.runOpenTime (s : State) : Nat :=
  ((newestOf ((s.validCopies []).filterMap fun c => if c.2.record.kind = .runOpen then some c.2.record else none)).map Record.time).getD 0

/-- The engines and registers start again; DRAM is held in self-refresh. -/
def State.warmBegins (s : State) : State :=
  let s := ((s.warmEngines.warmRegs.twReenabled).modPlumb fun p => { p with shadow := [], commit := none, wrong := [], common := [] }).modSeq fun x => { x with
    warmDrain := false, dramHeld := true }
  ({ (s.putB Reg.UPD_STATUS_RECOVERY false).put Reg.UPD_STATUS_RECOVERY_CAUSE 0 with cfg := {} } : State)

/-- A copy of the layout in force applies: WARM_RESUME goes on. -/
def State.warmApplied (s : State) (origin ix : Nat) (c : CfgImage) : State :=
  let s := ((s.seal ix c).putB Reg.CFG_STATUS_WARM_LOAD true).leaveRefresh
  let s := (s.decideStart 2).modGauge fun g => { g with serialSeen := false, chargerSet := false }
  let s := (s.put Reg.PERS_START_ORIGIN origin).putLastShutdown 8 false false false s.runOpenTime
  (s.setPower .warmReset).modSeq fun x => { x with dramHeld := false }

/-- The copies of the layout that the AON domain keeps. -/
def State.sameLayout (s : State) : List (Nat × CfgImage) :=
  s.cfgCopies.filter fun x => decide (s.seq.aonImage.map (·.2) = some x.2.layoutCrc)

/-- The firmware starts from a slot, and the load begins. -/
def State.warmStarts (s : State) (i : LoadIn) (k : Nat) : State :=
  ((((s.runFw k).clusterRestart).unwrapKeys (some k)).deriveGens s.image.gen).loadBegins i

/-- The load with firmware running. -/
def State.warmCopies (s : State) (i : LoadIn) (origin k : Nat) : State :=
  let t := s.warmStarts i k
  let r := t.tryCopies true false t.sameLayout
  match r.1 with
  | none => r.2.modSeq fun x => { x with recoveryDue := some 4 }
  | some (ix, c) => r.2.warmApplied origin ix c

/-- The load from the firmware slot chosen; with none, the next boot is RECOVERY. -/
def State.warmFrom (s : State) (i : LoadIn) (origin : Nat) : Option Nat → State
  | none => ({ s with cluster := { s.cluster with running := false } } : State).modSeq fun x => { x with recoveryDue := some 2 }
  | some k => s.warmCopies i origin k

/-- PERS_START.ORIGIN of a warm reset: a recovery that ends with DRAM held is 3. -/
def State.warmOrigin (s : State) : Nat := if s.flag Reg.UPD_STATUS_RECOVERY then 3 else 2

/-- The load of a warm reset: WARM_RESUME, or RECOVERY with DRAM held. -/
def State.warmLoad (s : State) (i : LoadIn) : State := s.warmBegins.warmFrom i s.warmOrigin s.warmBegins.chooseFw

/-- WARM_LOAD: steps 1 and 2 of R432 have ended. -/
def execWarmLoad (i : LoadIn) (s : State) : Result :=
  occurs (decide (s.seq.power = .warmReset) && s.seq.warmDrain && s.save.frame0.isNone &&
    (s.seq.dramHeld || (List.range 4).all fun q => s.writesDrained q && s.flashQuiet q)) s fun s => s.warmLoad i

/-! ## The rebuild (R175) -/

/-- A quadrant takes its wear state back from its house region (R605). -/
def State.reloadWear (s : State) (q : Nat) : State :=
  match (s.quad q).houseWear with
  | none => s
  | some (w, p, a) =>
    let s := (s.modQuad q fun d => { d with wear := w, houseWear := none }).put64 (0x030360 + 8 * q) (0x030364 + 8 * q) p
    (s.putSat (Reg.WEAR_ALLOW_VALUE q) a).showAccount q

/-- A quadrant rebuilds from its patch state table and its house region. -/
def State.rebuildQuad (s : State) (q : Nat) : State := ((s.rebuildMaps q).reloadWear q).wearAllowance q

/-- WARM_RESET_REBUILD. -/
def execWarmResetRebuild (s : State) : Result :=
  occurs (decide (s.seq.power = .warmReset) && !s.seq.warmDrain && s.isSealed && !s.image.loaded && s.seq.recoveryDue.isNone) s fun s =>
    (s.each (List.range 4) fun s q => s.rebuildQuad q).modImage fun i => { i with loaded := true }

/-! ## Media ready (R147, R332, R434, R542, R551) -/

/-- A sub-channel holds trained results and runs at SC_OP.RUN_OP; at a resume its tracking pass has been applied (R257). -/
def State.scReady (s : State) (n : Nat) : Bool :=
  (s.sc n).ready && decide (s.get (Reg.SC_STATUS_OP n) = s.runOp n) && decide (s.get (Reg.SC_STATUS_STATE n) = 0) &&
  (decide (s.get Reg.PERS_STATUS_START_STATE ≠ 2) || ((s.sc n).pass.isNone && decide (s.sf < (s.sc n).passDue)))

def State.mediaMayBeReady (s : State) : Bool :=
  s.isSealed && s.mediaUp && ((List.range 16).all fun n => s.scReady n) && s.image.loaded && s.image.runOpen &&
  s.flag Reg.PERS_START_DECIDED && decide (s.get Reg.PERS_STATUS_START_STATE ≠ 3) && !s.seq.blocked &&
  !s.flag Reg.PERS_STATUS_MEDIA_READY && !s.flag Reg.PERS_STATUS_SAVE_ACTIVE && s.save.frame0.isNone &&
  (decide (s.seq.power = .run) || decide (s.seq.power = .warmReset))

/-- Media ready is declared. READY_MS counts from PORST_N's release (Table 6.8); in a warm resume, where that release lies in an
earlier run, from the resume or from MR_N, the model's choice. DESIGN CHOICE -/
def State.mediaReady (s : State) : State :=
  let s := ((s.setPower .run).putB Reg.PERS_STATUS_MEDIA_READY true).modSeq fun x => { x with saveOpen := false }
  let open_ := (List.range 4).any fun q => decide (s.unfilledOf q ≠ 0)
  let s := (s.putB Reg.PERS_STATUS_RESTORE_PENDING open_).put Reg.RESTORE_STATUS_PHASE (if open_ then 4 else 5)
  let s := s.each [0x030530, 0x030534, 0x030538, 0x03053C] fun s a => s.wr a 0#32
  let t := (s.now - s.seq.startAt.getD s.now) / 1000000
  let s := (s.putSat Reg.RESTORE_LOAD_READY_MS t).putSat Reg.PERS_START_READY_MS t
  let s := s.each [0, 1] fun s h => s.modHead h fun x => { x with mediaReady := true, discarding := false }
  let s := s.modFabric fun f => { f with poisonList := [], poisonOvf := none }
  let s := s.each (List.range 16) fun s k => s.modLd k fun l => { l with corrVol := 0, corrPers := 0 }
  let s := (s.logRecord (.dsc (s.get Reg.PERS_DSC_COUNT) s.image.run)).deferredRetire
  let bad := s.seq.sysRails.any fun k => !s.railIsGood k
  let s := s.modSeq fun x => { x with sysRails := [] }
  let s := if s.seq.offLatch then s.openHandshake (s.flag Reg.PERS_OFF_SHIP) else s
  if bad then s.saveTrigger 5 else s

/-- MEDIA_READY. -/
def execMediaReady (s : State) : Result := occurs s.mediaMayBeReady s State.mediaReady

end Sys2Proof.Machine
end

