-- ==== Sys2Proof/Machine/Mailbox.lean ====
section
/-!
DEFINITION. Sys2Proof/Machine/Mailbox.lean: how mailbox commands are served: functions, refusals, replies and locks
(11_fabric_ports R323, R334, R336, R342; 15_two_wire_buses R459; 18_firmware_update R531, R534).
-/
namespace Sys2Proof.Machine

/-- The management cluster, or the boot ROM in RECOVERY, serves MCTP (R460, R461). -/
def State.mctpReady (s : State) : Bool :=
  !s.aonServes && s.cluster.running && s.cluster.bootOk && (s.inRecovery || s.flag Reg.TW0_CFG_MCTP_EN)

/-- A function is served: it exists and is reached over its head's link or over TW0, and firmware runs (R323, R531, R534). -/
def State.fnServed (s : State) (fn : FnIx) : Bool :=
  !s.mainOff && s.cluster.running && s.cluster.bootOk &&
  (if fn.val = 16 then s.mctpReady
   else if fn.val = 17 then s.inRecovery && s.flag (Reg.FAB_STATUS_LINK_UP 0)
   else !s.inRecovery && s.isSealed && s.ldOn fn && s.flag (Reg.FAB_STATUS_LINK_UP (s.ldHead fn)))

/-- A mailbox command (R334): a device-wide one on a tenant function, and one that RECOVERY does not serve, is
unsupported. -/
def State.command (s : State) (fn : FnIx) (mgmt inRec : Bool) (f : State → State) : Result :=
  occurs (s.fnServed fn) s fun s =>
    if s.inRecovery && !inRec then s.reply fn .unsupported []
    else if mgmt && !s.isMgmtFn fn && decide (fn.val ≠ 17) then s.reply fn .unsupported []
    else f s

/-- UPD_STATUS.OWNER of a function's path. -/
def State.ownerOf (s : State) (fn : FnIx) : Nat := if fn.val = 16 then 3 else if fn.val = 17 then 1 else 1 + s.ldHead fn

/-- A device-wide lock is held (R336): a firmware transfer, or a Sanitize or Secure Erase. -/
def State.lockHeld (s : State) : Bool := s.flag Reg.UPD_STATUS_LOCK || s.fabric.eraseLock.isSome

end Sys2Proof.Machine
end

