-- ==== Sys2Proof/Machine/Update.lean ====
section
/-!
DEFINITION. Sys2Proof/Machine/Update.lean: firmware and configuration update, boot signals and activation
(18_firmware_update R521, R524 to R532, R536).
-/
namespace Sys2Proof.Machine

/-! ## Transfer (R526 to R528, R532) -/

/-- Bytes of an image's header as it is carried by the initiate, and of the whole image. -/
def hdrBytes : ImageHdr → Nat
  | .fw _ => 4096
  | .cfg _ => 256

def imageBytes : ImageHdr → Nat
  | .fw h => 4096 + h.payloadLen
  | .cfg c => c.len + 16

/-- The header check of R526 but for the target. -/
def State.headerOk (s : State) (slot : Nat) : ImageHdr → Bool
  | .fw h => decide (slot ≤ 2) && fwValid h && h.pubkeyOk && decide (s.otp.svn ≤ h.svn)
  | .cfg c => decide (3 ≤ slot) && c.formatOk && decide (c.len % 16 = 0) && decide (c.len ≤ 1048560) && decide (1 ≤ c.dirCount ∧ c.dirCount ≤ 64)

/-- The firmware slot that runs and the configuration copy in force, as slots of R521; RECOVERY runs neither. -/
def State.slotInUse (s : State) (slot : Nat) : Bool :=
  !s.inRecovery && (decide (slot = 1 + s.get Reg.UPD_STATUS_RUNNING) || (s.isSealed && decide (slot = 3 + s.get Reg.CFG_STATUS_COPY)))

/-- UPD_STAGED. -/
def State.putStaged (s : State) (bytes slot : Nat) : State := (s.putSat Reg.UPD_STAGED_BYTES bytes).put Reg.UPD_STAGED_TARGET slot

/-- The path of a device-wide command that would take the device-wide lock now (R336): Head 0's management function, Head 1's, then
TW0. -/
def State.takesLock (s : State) (c : Instr) : Option Nat :=
  let free (fn : FnIx) : Bool := s.fnServed fn && !s.flag Reg.PERS_STATUS_SAVE_ACTIVE && !s.lockHeld
  let rank (fn : FnIx) : Nat := if fn.val = 16 then 2 else s.ldHead fn
  let erase (fn : FnIx) : Bool := free fn && !s.inRecovery && s.isMgmtFn fn && (s.ld fn).bg.isNone
  match c with
  | .secureErase fn => if erase fn then some (rank fn) else none
  | .sanitize fn => if erase fn then some (rank fn) else none
  | .transferFwInitiate fn slot h =>
    if free fn && (s.isMgmtFn fn || decide (fn.val = 17)) && decide (1 ≤ slot ∧ slot ≤ 4) && !s.slotInUse slot && s.headerOk slot h
    then some (rank fn) else none
  | _ => none

/-- A command of the same frame takes the lock before this one (R336). -/
def State.lockLost (s : State) (c : Instr) : Bool :=
  match s.takesLock c with
  | some r => (s.frameMates.filterMap s.takesLock).any fun x => decide (x < r)
  | none => false

/-- TRANSFER_FW_INITIATE. -/
def State.fwInitiate (s : State) (fn : FnIx) (slot : Nat) (h : ImageHdr) : State :=
  let reject (code : RetCode) : State := (s.event 0x4EA 1 Sev.note).reply fn code []
  if s.flag Reg.PERS_STATUS_SAVE_ACTIVE || s.lockHeld then s.reply fn .busy []
  else if slot < 1 ∨ 4 < slot ∨ s.slotInUse slot then reject .invalidSlot
  else if !s.headerOk slot h then reject .invalidInput
  else
    let s := ((s.putB Reg.UPD_STATUS_LOCK true).put Reg.UPD_STATUS_OWNER (s.ownerOf fn)).put Reg.UPD_STATUS_PHASE 1
    let s := (s.modUpd fun u => { u with staging := some { slot := slot, hdr := h, next := hdrBytes h, at_ := s.now } }).putStaged (hdrBytes h) slot
    s.reply fn .success []

def execTransferFwInitiate (fn : FnIx) (slot : Nat) (h : ImageHdr) (s : State) : Result :=
  s.command fn true true fun s =>
    if s.lockLost (.transferFwInitiate fn slot h) then s.reply fn .busy [] else s.fwInitiate fn slot h

/-- UPD_CTRL.IDLE_S in seconds: values below 5 act as 5. -/
def State.idleTime (s : State) : Nat := sec (max 5 (s.get Reg.UPD_CTRL_IDLE_S))

/-- What a part meets: the reply that ends it, or the transfer it belongs to. -/
def State.partRefused (s : State) (fn : FnIx) (p : FwPart) (x : Staging) : Option RetCode :=
  if s.get Reg.UPD_STATUS_OWNER ≠ s.ownerOf fn then some .invalidInput
  else if p.off ≠ x.next then some .invalidInput
  else if !p.ok then some .transferError
  else none

/-- A part is staged. -/
def State.stagePart (s : State) (p : FwPart) (x : Staging) : State :=
  (s.modUpd fun u => { u with staging := some { x with next := x.next + p.len, at_ := s.now } }).putStaged (x.next + p.len) x.slot

/-- The lock holder's part that is refused has still arrived: the gap of R527 counts from it. -/
def State.partArrives (s : State) (fn : FnIx) : State :=
  if s.get Reg.UPD_STATUS_OWNER = s.ownerOf fn
  then s.modUpd fun u => { u with staging := u.staging.map fun x => { x with at_ := s.now } } else s

/-- A part of an update in its course; a late one releases the lock (R527), and one during a save leaves it (Table 18.3). -/
def State.fwPart (s : State) (fn : FnIx) (p : FwPart) (f : State → Staging → State) : State :=
  if s.flag Reg.PERS_STATUS_SAVE_ACTIVE then (s.partArrives fn).reply fn .busy [] else
  match s.upd.staging with
  | none => s.reply fn .invalidInput []
  | some x =>
    if x.at_ + s.idleTime < s.now then s.updRelease.reply fn .invalidInput []
    else match s.partRefused fn p x with
      | some code => (s.partArrives fn).reply fn code []
      | none => f (s.stagePart p x) x

/-- TRANSFER_FW_CONTINUE. -/
def execTransferFwContinue (fn : FnIx) (p : FwPart) (s : State) : Result :=
  s.command fn true true fun s => s.fwPart fn p fun s _ => s.reply fn .success []

/-- The whole staged image passes its checks (R528). -/
def State.stagedOk (s : State) (h : ImageHdr) (bytes : Nat) : Bool :=
  decide (bytes = imageBytes h) && match h with
    | .fw h => h.sigOk && decide (s.otp.svn ≤ h.svn) && h.tagOk
    | .cfg c => s.cfgAuthentic c

/-- A target area after an update: its image, without activation record or MAGIC. -/
def State.putTarget (s : State) (slot : Nat) (h : Option ImageHdr) : State :=
  match slot, h with
  | 1, some (.fw x) => s.modFw 0 fun _ => { image := some x }
  | 2, some (.fw x) => s.modFw 1 fun _ => { image := some x }
  | 3, some (.cfg c) => s.modUpd fun u => { u with cfgA := { image := some c, magic := false } }
  | 4, some (.cfg c) => s.modUpd fun u => { u with cfgB := { image := some c, magic := false } }
  | 1, _ => s.modFw 0 fun x => { x with act := none }
  | 2, _ => s.modFw 1 fun x => { x with act := none }
  | 3, _ => s.modUpd fun u => { u with cfgA := { u.cfgA with magic := false } }
  | _, _ => s.modUpd fun u => { u with cfgB := { u.cfgB with magic := false } }

/-- The end part: check, copy, read back. -/
def State.fwEnd (s : State) (fn : FnIx) (x : Staging) (bytes : Nat) (copyOk : Bool) : State :=
  let r := s.updRelease
  if !s.stagedOk x.hdr bytes then ((r.putTarget x.slot none).event 0x4EA 2 Sev.degraded).reply fn .invalidInput []
  else if !copyOk then
    let r := match x.slot with
      | 1 => r.modFw 0 fun _ => {}
      | 2 => r.modFw 1 fun _ => {}
      | 3 => r.modUpd fun u => { u with cfgA := { magic := false } }
      | _ => r.modUpd fun u => { u with cfgB := { magic := false } }
    (r.event 0x4EA 3 Sev.degraded).reply fn .transferError []
  else (r.putTarget x.slot (some x.hdr)).reply fn .success []

/-- TRANSFER_FW_END. UPD_STAGED keeps the bytes of the latest update. -/
def execTransferFwEnd (fn : FnIx) (p : FwPart) (copyOk : Bool) (s : State) : Result :=
  s.command fn true true fun s => s.fwPart fn p fun s x =>
    (s.fwEnd fn x (x.next + p.len) copyOk).putStaged (x.next + p.len) x.slot

/-- TRANSFER_FW_ABORT (R527). -/
def execTransferFwAbort (fn : FnIx) (s : State) : Result :=
  s.command fn true true fun s =>
    if s.upd.staging.isSome && decide (s.get Reg.UPD_STATUS_OWNER = s.ownerOf fn) then s.updRelease.reply fn .success []
    else s.reply fn .invalidInput []

/-- UPDATE_LOCK_IDLE_TIMEOUT (R527). -/
def execUpdateLockIdleTimeout (s : State) : Result :=
  match s.upd.staging with
  | none => .next s.begin
  | some x => occurs (decide (x.at_ + s.idleTime < s.now)) s State.updRelease

/-! ## Activation (R529, R530, R536) -/

/-- The ACT_SEQ of an activation: one above the running slot's, or above both where none runs. -/
def State.nextActSeq (s : State) : Nat :=
  if s.inRecovery then max (s.upd.fwA.act.getD 0) (s.upd.fwB.act.getD 0) + 1 else s.get Reg.UPD_ACT_SEQ_SEQ + 1

/-- A slot holds a completely copied image. -/
def State.slotHolds (s : State) (slot : Nat) : Bool :=
  match slot with
  | 1 => s.upd.fwA.image.isSome
  | 2 => s.upd.fwB.image.isSome
  | 3 => s.upd.cfgA.image.isSome
  | 4 => s.upd.cfgB.image.isSome
  | _ => false

/-- An activation's record or MAGIC bytes are programmed. -/
def State.programSlot (s : State) (slot : Nat) : State :=
  let n := s.nextActSeq
  match slot with
  | 1 => s.modFw 0 fun x => { x with act := some n }
  | 2 => s.modFw 1 fun x => { x with act := some n }
  | 3 => s.modUpd fun u => { u with cfgA := { u.cfgA with magic := true } }
  | _ => s.modUpd fun u => { u with cfgB := { u.cfgB with magic := true } }

/-- RECOVERY is left (R536): the warm load is repeated while DRAM is held, else the start from PORST_N release. -/
def State.leaveRecovery (s : State) : State :=
  if s.seq.dramHeld then (s.setPower .warmReset).modSeq fun x => { x with warmDrain := true, startAt := some s.now }
  else
    let s := s.modSeq fun x => { x with power := .boot }
    (({ s.mainReset with tick := s.tick } : State).coldBoot false s.rngOk).put Reg.PERS_START_ORIGIN 3

/-- ACTIVATE_FW_OFFLINE. -/
def State.activateOffline (s : State) (fn : FnIx) (slot : Nat) (recoveryHigh : Bool) : State :=
  if s.flag Reg.PERS_STATUS_SAVE_ACTIVE then s.reply fn .busy []
  else if !s.slotHolds slot then s.reply fn .invalidSlot []
  else
    let s := (s.programSlot slot).reply fn .success []
    if s.inRecovery && recoveryHigh then s.leaveRecovery else s

def execActivateFwOffline (fn : FnIx) (slot : Nat) (recoveryHigh : Bool) (s : State) : Result :=
  s.command fn true true fun s => s.activateOffline fn slot recoveryHigh

/-- Whether an online activation of a slot is accepted (R529): not in RECOVERY, LIVE_OK, the running image's format. -/
def State.liveOk (s : State) (slot : Nat) : Bool :=
  let fmt := (s.runningFw.image.map FwHdr.preserveFmt).getD 0
  !s.inRecovery && decide (slot = 1 ∨ slot = 2) && (s.fwSlot (slot - 1)).image.any fun h => h.liveOk && decide (h.preserveFmt = fmt)

/-- ACTIVATE_FW_ONLINE: the cluster restarts on the slot; the command completes at the boot signal. -/
def State.activateOnline (s : State) (fn : FnIx) (slot : Nat) : State :=
  if s.flag Reg.PERS_STATUS_SAVE_ACTIVE then s.reply fn .busy []
  else if !s.liveOk slot then s.reply fn .invalidInput []
  else
    let before := s.get Reg.UPD_STATUS_RUNNING
    let s := ((s.programSlot slot).runFw (slot - 1)).clusterRestart
    (s.modUpd fun u => { u with online := some (fn, before) }).put Reg.UPD_STATUS_PHASE 5

def execActivateFwOnline (fn : FnIx) (slot : Nat) (s : State) : Result :=
  s.command fn true true fun s => s.activateOnline fn slot

/-! ## Boot signals (R524, R525, R530) -/

/-- Security version fuses are blown up to the running image's SVN where it asks for that (R525). -/
def State.commitSvn (s : State) : State :=
  match s.runningFw.image with
  | some h =>
    if h.commitSvn ∧ s.otp.svn < h.svn ∧ h.svn ≤ 64 then
      (({ s with otp := { s.otp with svn := h.svn } } : State).put Reg.UPD_SVN_FUSED h.svn).event 0x4EA 7 Sev.note
    else s
  | none => s

/-- The end of an online activation at the boot signal (R530): activated, or rolled back with the failed slot's record
invalidated. -/
def State.onlineEnds (s : State) : State :=
  match s.upd.online with
  | none => s
  | some (fn, before) =>
    let s := (s.modUpd fun u => { u with online := none }).put Reg.UPD_STATUS_PHASE 0
    if s.get Reg.UPD_STATUS_RUNNING = before then
      ((s.modFw (1 - before) fun x => { x with act := none }).event 0x4EA 5 Sev.degraded).reply fn .activationFailed []
    else (s.event 0x4EA 4 Sev.note).reply fn .success []

/-- A write of 1 to UPD_BOOT.OK. -/
def State.bootSignal (s : State) : State :=
  if !s.cluster.running || s.cluster.bootOk || s.inRecovery then s
  else
    let s := { s with cluster := { s.cluster with bootOk := true } }
    let s := (s.modUpd fun u => { u with aonFails := 0, aonSlot := none }).put Reg.UPD_STATUS_BOOT_FAILS 0
    s.commitSvn.onlineEnds

/-- UPD_BOOT_OK. -/
def execUpdBootOk (path : PathIx) (s : State) : Result := .next (s.begin.reach path 0x0A0004 State.bootSignal)

/-- A boot failure (R524): counted with its slot; the third brings RECOVERY, else the cluster restarts under R522. -/
def State.bootFailed (s : State) : State :=
  let k := s.get Reg.UPD_STATUS_RUNNING
  let n := min 3 (s.upd.aonFails + 1)
  let s := ((s.modUpd fun u => { u with aonFails := n, aonSlot := some k }).put Reg.UPD_STATUS_BOOT_FAILS n).event 0x4EA 6 Sev.degraded
  let stop (c : Nat) : State := ({ s with cluster := { s.cluster with running := false } } : State).modSeq fun x => { x with recoveryDue := some c }
  if 3 ≤ n then stop 3
  else match s.chooseFw with
    | none => stop 2
    | some j =>
      let online := s.upd.online.isSome
      let s := (s.runFw j).clusterRestart
      if online then s.put Reg.UPD_STATUS_PHASE 5 else s

/-- BOOT_TIMEOUT: 500 ms after the cores' release. -/
def execBootTimeout (s : State) : Result :=
  occurs (s.cluster.running && !s.cluster.bootOk && !s.inRecovery && !s.mainOff && decide (s.cluster.releasedAt + ms 500 ≤ s.now)) s
    State.bootFailed

end Sys2Proof.Machine
end

