-- ==== Sys2Proof/Machine/Erase.lean ====
section
/-!
DEFINITION. Sys2Proof/Machine/Erase.lean: Secure Erase and Sanitize of one LD and of the whole device, the end of background
commands, and the refills that wait for random numbers (11_fabric_ports R336 to R342; 12_cipher_and_keys R373, R374).
-/
namespace Sys2Proof.Machine

/-! ## One LD (R337, R205, Table 12.4) -/

/-- Every patch of an LD's persistent partition. -/
def State.ldPatches (s : State) (k : Nat) : List Nat :=
  let r := s.ldLocals k
  (List.range (4 * (r.2 - r.1))).map fun i => 4 * r.1 + i

/-- Whether a patch lies in an LD. -/
def State.patchOfLd (s : State) (k p : Nat) : Bool := decide (s.ldOfDpa (p * 65536) = some k)

/-- Versions of an LD in flight in a quadrant are aborted: programs not started go, the rest complete unrecorded. -/
def State.abortVersions (s : State) (q k : Nat) : State :=
  let mine (v : Version) : Bool := decide (v.ld = k) && !v.abandoned
  let s := s.each (((s.quad q).versions).filter fun v => mine v && decide (v.stage = .handed)) fun s v =>
    (s.modDie v.die (Die.without (.program v.body none))).dropVersion q v.body
  s.modQuad q fun d => { d with versions := d.versions.map fun v => if mine v then { v with abandoned := true } else v }

/-- Reads of an LD's versions in a quadrant are aborted: fills start again, waiting reads of heals get poison, merges and the
follow list lose the LD's patches. -/
def State.abortReads (s : State) (q k : Nat) : State :=
  let gone := (s.quad q).heals.filter fun h => s.patchOfLd k h.patch
  let s := s.modQuad q fun d => { d with
    heals := d.heals.filter (fun h => !s.patchOfLd k h.patch)
    fills := d.fills.map (fun f => if s.patchOfLd k f.patch then { f with read := none, tag := none } else f)
    merges := d.merges.filter fun e => !s.patchOfLd k e.1 }
  s.each gone fun s h => s.each h.waiting State.answerPoison

/-- Step 2: every patch of the LD is DRY and unfilled with entry REVOKED. -/
def State.revokeLd (s : State) (k : Nat) : State :=
  let s := s.each (List.range 4) fun s q => (s.abortVersions q k).abortReads q k
  let s := s.each (s.ldPatches k) fun s p =>
    (s.modPatch p fun x => { x with st := .dry, cached := false, lost := false, unfilled := true }).ledgerSet p .revoked
  s.each (List.range 4) State.judgeFilled

/-- The new key of a tenant slot is drawn and waits for its key record (R350); without random numbers it waits for them
(R374). -/
def State.refillTenant (s : State) (fn : FnIx) (k : Nat) : State :=
  if !s.rngOk then s.modLd fn fun l => { l with bg := l.bg.map fun b => { b with draws := true } }
  else
    let (key, s) := s.drawKey
    let v := (s.slot (tenantSlot k)).fill (tenantSlot k) 0 0 true key
    let s := s.modKeys fun x => { x with pendingLoad := x.pendingLoad ++ [{ slot := tenantSlot k, value := v, fn := none }] }
    (s.modLd fn fun l => { l with bg := l.bg.map fun b => { b with draws := false } }).wantLearned

/-- Steps 1 and 2 of a command that erases an LD's tenant slot, which goes on in the background. -/
def State.eraseLd (s : State) (fn : FnIx) (k : Nat) (kind : BgKind) (refill : Bool) : State :=
  let s := s.modLd fn fun l => { l with bg := some { kind := kind, ld := k } }
  let s := s.modLd k fun l => { l with notReady := true }
  let s := (s.urgentErase (tenantSlot k)).revokeLd k
  let s := if refill then s.refillTenant fn k
    else (s.modKeys fun x => { x with
      pendingLoad := x.pendingLoad ++ [{ slot := tenantSlot k, value := s.slot (tenantSlot k), fn := none }] }).wantLearned
  s.reply fn .backgroundStarted []

/-- Bands that hold a unit of an LD, as (position, band). -/
def State.bandsOfLd (s : State) (k : Nat) : List (Nat × Nat) :=
  s.image.usedBands.filterMap fun b =>
    let x := (b / 4096, b % 4096)
    if (s.bandUnits x.1 x.2).any (fun u => match sparseGet none (s.die u.1).units u.2 with
      | some { body := .data _ ld _ _ _ _ _, .. } => decide (ld = k)
      | _ => false) then some x else none

/-- Every band that holds units, as (position, band). -/
def State.allBands (s : State) : List (Nat × Nat) := s.image.usedBands.map fun b => (b / 4096, b % 4096)

/-- Bands join those that a Sanitize wants erased. -/
def State.wantErased (s : State) (fn : FnIx) (l : List (Nat × Nat)) : State :=
  s.modImage fun i => { i with eraseBands := i.eraseBands ++ l.map fun x => (fn.val, x) }

/-! ## The whole device (R338, R340) -/

/-- Step 1: new keys are drawn and held outside the slots, and the key record that carries them is wanted. -/
def State.drawDeviceKeys (s : State) : State :=
  if !s.rngOk || s.fabric.newKeys.isSome then s
  else
    let r := (List.range 24).foldl (fun (acc : List Key × State) _ =>
      let (k, s) := acc.2.drawKey
      (acc.1 ++ [k], s)) ([], s)
    (r.2.modFabric fun f => { f with newKeys := some r.1 }).wantLearned

/-- A device-wide Secure Erase or Sanitize is accepted. -/
def State.eraseDevice (s : State) (fn : FnIx) (sanitize : Bool) : State :=
  let s := s.modLd fn fun l => { l with bg := some { kind := .deviceErase sanitize, ld := 16 } }
  let s := s.each (List.range 16) fun s k =>
    (s.modLd k fun l => { l with notReady := true }).putB (Reg.LD_STATUS_MEDIA_BUSY k) (s.ldOn k)
  let s := s.modFabric fun f => { f with
    eraseLock := some fn.val, newKeys := none, recordDone := false, switched := false, rootOpened := false }
  s.drawDeviceKeys.reply fn .backgroundStarted []

/-- Secure Erase or Sanitize on a function (R336, R337, R339). -/
def State.eraseCommand (s : State) (fn : FnIx) (sanitize : Bool) : State :=
  if s.flag Reg.PERS_STATUS_SAVE_ACTIVE || (s.ld fn).bg.isSome then s.reply fn .busy []
  else if s.isMgmtFn fn then
    if s.lockHeld then s.reply fn .busy [] else s.eraseDevice fn sanitize
  else if s.fabric.eraseLock.isSome then s.reply fn .busy []
  else
    let s := if sanitize then s.wantErased fn (s.bandsOfLd fn) else s
    (s.putB (Reg.LD_STATUS_MEDIA_BUSY fn) true).eraseLd fn fn (.erase sanitize) true

/-- SECURE_ERASE (R336, R337). -/
def execSecureErase (fn : FnIx) (s : State) : Result :=
  s.command fn false false fun s => if s.lockLost (.secureErase fn) then s.reply fn .busy [] else s.eraseCommand fn false

/-- SANITIZE. -/
def execSanitize (fn : FnIx) (s : State) : Result :=
  s.command fn false false fun s => if s.lockLost (.sanitize fn) then s.reply fn .busy [] else s.eraseCommand fn true

/-- Step 2 of R340: slots 0 to 23 are erased urgently, and those that held a key take the new ones. -/
def State.switchKeys (s : State) (keys : List Key) : State :=
  let used := (List.range 24).filter fun i => decide ((s.slot i).st ≠ .empty)
  let s := s.each (List.range 24) State.urgentErase
  let s := s.each used fun s i => s.modSlot i fun x => x.fill i 0 0 true (keys.getD i (.fixed 0))
  s.modFabric fun f => { f with switched := true, newKeys := none }

/-- The flash work of a quadrant that belongs to the erased image goes; its wear account stands. -/
def State.dropQuadImage (s : State) (q : Nat) : State :=
  let w := (s.quad q).wear
  let s := (s.stopFlash q).each (List.range 32) fun s i => s.modDie (32 * q + i) fun d => { d.keepOps (fun o => o.kind.isErase) with
    noBand := true, voids := [], rebuild := [] }
  ((s.clearQuad q).modQuad q fun d => { d with wear := w, saveOn := s.flag Reg.PERS_STATUS_SAVE_ACTIVE && d.saveOn }).showAccount q

/-- The ledger, the patches and the exposure of step 4: the image is empty, and programs go to fresh bands. -/
def State.dropImage (s : State) : State :=
  let s := s.each (List.range 4) State.dropQuadImage
  let s := s.modImage fun i => { i with
    ledger := [], sets := [], seals := [], openBand := [], freshBand := List.range 8, ckptActive := false, ckptWait := []
    ckptSf := 0, genWarned := false }
  (s.putB Reg.IMG_STATUS_GEN_EXHAUSTED false).each (List.range 4) State.judgeFilled

/-- Step 3 of R340: generation 0 starts and its RUN_OPEN is programmed under the new root. -/
def State.openRoot (s : State) (ok : List Bool) : State :=
  match s.tryRunOpen { s.newRecord .runOpen 0 with gen := 0 } ok 4 with
  | (true, s) => (s.openGeneration 0).modFabric fun f => { f with rootOpened := true }
  | (false, s) => s

/-- DEVICE_ERASE_KEY_SWITCH (R338, R340): the key record that carries the new keys is written; `ok` is what the checks of the
RUN_OPEN's copies show. A RUN_OPEN that no attempt wrote is tried again. -/
def State.keySwitch (s : State) (ok : List Bool) : State :=
  match s.fabric.newKeys with
  | some keys =>
    let sanitize := s.fabric.eraseLock.bind fun f => (s.ld f).bg.map fun b => decide (b.kind = .deviceErase true)
    let s := match s.fabric.eraseLock, sanitize with
      | some f, some true => s.wantErased (Fin.ofNat 18 f) s.allBands
      | _, _ => s
    (s.switchKeys keys).dropImage.openRoot ok
  | none => s.openRoot ok

def execDeviceEraseKeySwitch (ok : List Bool) (s : State) : Result :=
  occurs (s.fabric.eraseLock.isSome && s.fabric.recordDone && !s.fabric.rootOpened) s fun s => s.keySwitch ok

/-! ## The end of a background command (R337, R338, R341, R342) -/

/-- No write of the LDs that a test names is on its way to DRAM. -/
def State.noWrites (s : State) (ld : Nat → Bool) : Bool :=
  [0, 1].all (fun h => (s.head h).reqs.all fun r => r.write.isNone || !ld r.ld) &&
  (List.range 16).all fun n => (s.sc n).writeQ.all fun e => e.head.isNone || !ld e.ld

/-- DRAM of an address range is zero, and none of it poisoned. -/
def State.zeroRange (s : State) (a n : Nat) : State :=
  { s with dram := s.dram.filter (fun c => decide (c.1 < a ∨ a + n ≤ c.1))
           poison := s.poison.filter fun e => decide (e.1 * 65536 < a ∨ a + n ≤ e.1 * 65536) }

/-- The patches of an LD are dry and revoked; one written since step 2 is revoked again. -/
def State.dryRevoked (s : State) (p : Nat) : State :=
  let s := if s.ledger p = .revoked then s else s.ledgerSet p .revoked
  s.modPatch p fun x => { x with st := .dry, cached := false, lost := false, unfilled := false }

/-- No version of an LD's patches is under way, and none is to be filled. -/
def State.dropLd (s : State) (k : Nat) : State :=
  let s := s.each (List.range 4) fun s q => (s.abortVersions q k).abortReads q k
  let s := s.each (s.ldPatches k) State.dryRevoked
  s.each (List.range 4) fun s q => s.modQuad q fun d => { d with fills := d.fills.filter fun f => !s.patchOfLd k f.patch }

/-- The places are judged again once patches have changed; poison commands that waited for a fill go on. -/
def State.placesAnew (s : State) : State := ((s.judgePlaces).each (List.range 4) State.judgeFilled).poisonGoes

/-- Steps 3 and 4 for an LD. -/
def State.zeroLd (s : State) (k : Nat) : State := ((s.dropLd k).zeroRange (s.ldBase k) (s.ldSize k)).placesAnew

/-- No patch of the device is unfilled, and none is being filled. -/
def State.dropFills (s : State) : State :=
  s.each (List.range 4) fun s q => s.modQuad q fun d => { d with dflt := { d.dflt with unfilled := false }, fills := [] }

/-- DRAM of the whole device is zero. -/
def State.zeroAll (s : State) : State := { s with patches := [], dram := [], poison := [] }

/-- Step 4 for the whole device. -/
def State.zeroDevice (s : State) : State := s.dropFills.zeroAll.placesAnew

/-- Whether a background command's work is done. -/
def State.bgReady (s : State) (fn : FnIx) (b : BgCmd) : Bool :=
  let bands := s.image.eraseBands.all fun x => decide (x.1 ≠ fn.val)
  let recorded (k : Nat) : Bool := !b.draws && s.keys.pendingLoad.all fun p => decide (p.slot ≠ tenantSlot k)
  match b.kind with
  | .scan _ _ => true
  | .erase _ => recorded b.ld && bands && s.noWrites fun l => decide (l = b.ld)
  | .eraseSlot _ => recorded b.ld && s.noWrites fun l => decide (l = b.ld)
  | .deviceErase _ => s.fabric.rootOpened && bands && s.noWrites fun _ => true

/-- An LD's erase is complete. -/
def State.ldErased (s : State) (k : Nat) : State :=
  let s := (s.zeroLd k).modLd k fun l => { l with notReady := false }
  (s.putB (Reg.LD_STATUS_MEDIA_BUSY k) false).event (srcHead (s.ldHead k) (12 + k)) 1 Sev.note

/-- An LD is ready again. -/
def State.ldReady (s : State) (k : Nat) : State :=
  let s := (s.modLd k fun l => { l with notReady := false }).putB (Reg.LD_STATUS_MEDIA_BUSY k) false
  if s.ldOn k then s.event (srcHead (s.ldHead k) (12 + k)) 1 Sev.note else s

/-- The device's erase is complete: the lock is free, every LD ready. -/
def State.deviceErased (s : State) : State :=
  (s.zeroDevice.each (List.range 16) State.ldReady).modFabric fun f => { f with
    eraseLock := none, newKeys := none, recordDone := false, switched := false, rootOpened := false }

/-- What a scan finds uncorrectable, within the range it was asked for, is treated as patrol scrub treats it; the first 512
lines are kept (R341). -/
def State.scanDone (s : State) (fn : FnIx) (start len : Nat) (bad : List Nat) : State :=
  let lines := (bad.map lineOf).filter fun a => decide (lineOf start ≤ a ∧ a < start + len)
  let s := s.each lines fun s a => s.engineUe (scOf a) (.host a) false Who.scrub Access.scrub
  s.modLd fn fun l => { l with scanRes := lines.take 512 }

/-- What the end of a background command does. -/
def State.bgWork (s : State) (fn : FnIx) (ld : Nat) (bad : List Nat) : BgKind → State
  | .scan start len => s.scanDone fn start len bad
  | .erase _ => s.ldErased ld
  | .eraseSlot _ => (s.zeroLd ld).modLd ld fun l => { l with notReady := false }
  | .deviceErase _ => s.deviceErased

/-- A background command of a function is complete. -/
def State.bgDone (s : State) (fn : FnIx) (b : BgCmd) (bad : List Nat) : State :=
  let s := (s.modLd fn fun l => { l with bg := none }).bgWork fn b.ld bad b.kind
  if fn.val < 16 then (s.emit (.msix fn 0)).event (srcHead (s.ldHead fn) 8) 2 Sev.note else s

/-- BACKGROUND_COMMAND_DONE (R342): `bad` are the line addresses that a scan's reads found uncorrectable. -/
def execBackgroundCommandDone (fn : FnIx) (bad : List Nat) (s : State) : Result :=
  match (s.ld fn).bg with
  | none => .next s.begin
  | some b => occurs (!s.mainOff && s.cluster.running && !s.flag Reg.PERS_STATUS_SAVE_ACTIVE && s.bgReady fn b) s fun s => s.bgDone fn b bad

/-! ## Random numbers again (R373, R374) -/

/-- A function's background command that waits for draws goes on. -/
def State.refillOf (s : State) (i : Nat) : State :=
  match (s.ld i).bg with
  | some b => if b.draws then s.refillTenant (Fin.ofNat 18 i) b.ld else s
  | none => s

/-- The refills that wait go on. -/
def State.refillsGo (s : State) : State :=
  let s := s.each (List.range 18) fun s i => s.refillOf i
  if s.fabric.eraseLock.isSome && !s.fabric.switched then s.drawDeviceKeys else s

/-- DRBG_RESEED: after 4,096 requests, after 1,024 superframes, or while the DRBG refuses. From samples that pass both tests it
serves requests again; from others it goes on refusing. -/
def execDrbgReseed (ok : Bool) (s : State) : Result :=
  occurs (s.keys.refused || decide (4096 ≤ s.keys.requests) || decide (s.keys.reseedSf + 1024 ≤ s.sf)) s fun s =>
    if ok then ((s.putB Reg.KEY_STATUS_RNG_OK true).modKeys fun k => { k with requests := 0, reseedSf := s.sf, refused := false }).refillsGo
    else s

end Sys2Proof.Machine
end

