-- ==== Sys2Proof/Machine/Commands.lean ====
section
/-!
DEFINITION. Sys2Proof/Machine/Commands.lean: the mailbox commands of a logical device's function: identity, event logs,
timestamps, partitions, health, poison and media scans (11_fabric_ports R334, R335, R341, Tables 11.7 to 11.9; R24, R56, R57,
R81, R321, R332, R333, R521), Get Vendor Log (R570, R571) and the opcodes that no function serves.
-/
namespace Sys2Proof.Machine

/-! ## Functions -/

/-- The opcodes of Table 11.7 that a function serves (R334), and in RECOVERY (R534). -/
def opcodes (mgmt : Bool) : List Nat :=
  [0x0001, 0x0100, 0x0101, 0x0102, 0x0103, 0x0200] ++ (if mgmt then [0x0201, 0x0202] else []) ++ [0x0300] ++
  (if mgmt then [0x0301] else []) ++ [0x0400, 0x0401, 0x4000, 0x4100, 0x4101, 0x4200, 0x4201, 0x4202, 0x4203] ++
  (if mgmt then [0x4204] else []) ++ [0x4300, 0x4301, 0x4302, 0x4303, 0x4304, 0x4305, 0x4400, 0x4401] ++
  (if mgmt then [0xC000, 0xC001, 0xC002, 0xC100, 0xC101, 0xC200] else [])

def recoveryOpcodes : List Nat := [0x0001, 0x0200, 0x0201, 0x0202]

/-- UNSUPPORTED_OPCODE (R334): an opcode that the function does not serve. One that it serves is another command's. -/
def execUnsupportedOpcode (fn : FnIx) (opcode : Nat) (s : State) : Result :=
  let served := if s.inRecovery then recoveryOpcodes.contains opcode else (opcodes (s.isMgmtFn fn)).contains opcode
  occurs (s.fnServed fn && !served) s fun s => s.reply fn .unsupported []

/-! ## Identity, firmware, time, logs of the component -/

/-- IDENTIFY: the words of the identity registers. -/
def execIdentify (fn : FnIx) (s : State) : Result :=
  s.command fn false true fun s =>
    s.reply fn .success [(s.rd 0x000000).toNat, (s.rd 0x000004).toNat, s.get64 0x00000C 0x000010]

/-- What Get FW Info says of a firmware slot: the revision of its image, and whether it may be activated; a configuration slot
has the sequence number of its image in its place. -/
def fwInfo (x : FwSlot) : List Nat := [x.image.isSome.toNat, (x.image.map FwHdr.revision).getD 0]
def cfgInfo (x : CfgSlot) : List Nat := [x.image.isSome.toNat, (x.image.map CfgImage.seq).getD 0]

/-- GET_FW_INFO (R521): the number of slots, the slot that runs (0 in RECOVERY), and the four slots in order. -/
def execGetFwInfo (fn : FnIx) (s : State) : Result :=
  s.command fn false true fun s =>
    let run := if s.inRecovery then 0 else 1 + s.get Reg.UPD_STATUS_RUNNING
    s.reply fn .success ([4, run] ++ fwInfo s.upd.fwA ++ fwInfo s.upd.fwB ++ cfgInfo s.upd.cfgA ++ cfgInfo s.upd.cfgB)

/-- A time of this device as a host sees it (R24). -/
def State.hostTime (s : State) (t : Nat) : Nat := (((t : Int) + s.fabric.hostOffset) % 2 ^ 64).toNat

/-- GET_TIMESTAMP. -/
def execGetTimestamp (fn : FnIx) (s : State) : Result :=
  s.command fn false false fun s => s.reply fn .success [s.hostTime s.now]

/-- SET_TIMESTAMP: the difference is kept; device time does not change. -/
def execSetTimestamp (fn : FnIx) (ts : Nat) (s : State) : Result :=
  s.command fn true false fun s =>
    (s.modFabric fun f => { f with hostOffset := (ts : Int) - (s.now : Int) }).reply fn .success []

/-- GET_SUPPORTED_LOGS: the one log, and its size of 4 bytes for each opcode. -/
def execGetSupportedLogs (fn : FnIx) (s : State) : Result :=
  s.command fn false false fun s => s.reply fn .success [1, 4 * (opcodes (s.isMgmtFn fn)).length]

/-- GET_LOG: the Command Effects Log, an opcode and its effect word after another. -/
def execGetLog (fn : FnIx) (s : State) : Result :=
  s.command fn false false fun s =>
    s.reply fn .success ((opcodes (s.isMgmtFn fn)).flatMap fun op => [op, Config.effectWord op])

/-! ## Event logs (R335, R342) -/

/-- A record as Get Event Records returns it. -/
def State.recordNums (s : State) (r : LogRec) : List Nat :=
  [r.handle, r.kind, r.msg.src, r.msg.kind, r.msg.sev, s.hostTime r.time, r.msg.req, r.msg.acc, r.msg.space, r.msg.addr] ++ r.fields

def State.evLog (s : State) (fn : FnIx) (log : Nat) : EvLog := sparseGet {} (s.ld fn).logs log
def State.modLog (s : State) (fn : FnIx) (log : Nat) (f : EvLog → EvLog) : State :=
  s.modLd fn fun l => { l with logs := sparseUpd {} l.logs log f }

/-- GET_EVENT_RECORDS. -/
def execGetEventRecords (fn : FnIx) (log : Nat) (s : State) : Result :=
  s.command fn false false fun s =>
    if 3 < log then s.reply fn .invalidInput []
    else
      let g := s.evLog fn log
      s.reply fn .success ([g.recs.length, g.overflow.isSome.toNat, (g.overflow.map s.hostTime).getD 0, g.lost] ++
        g.recs.flatMap s.recordNums)

/-- A log after a clearing: without records it loses its overflow flag, time and count too. -/
def EvLog.without (g : EvLog) (gone : LogRec → Bool) : EvLog :=
  let rest := g.recs.filter fun r => !gone r
  if rest.isEmpty then { g with recs := [], overflow := none, lost := 0 } else { g with recs := rest }

/-- CLEAR_EVENT_RECORDS. -/
def execClearEventRecords (fn : FnIx) (log : Nat) (all : Bool) (handles : List Nat) (s : State) : Result :=
  s.command fn false false fun s =>
    let g := s.evLog fn log
    if 3 < log then s.reply fn .invalidInput []
    else if !all && handles.any (fun h => !(g.recs.any fun r => decide (r.handle = h))) then s.reply fn .invalidHandle []
    else (s.modLog fn log fun g => g.without fun r => all || handles.contains r.handle).reply fn .success []

/-- GET_EVENT_INTERRUPT_POLICY. -/
def execGetEventInterruptPolicy (fn : FnIx) (s : State) : Result :=
  s.command fn false false fun s => s.reply fn .success (s.ld fn).policy

/-- SET_EVENT_INTERRUPT_POLICY: one setting for each of the four logs. -/
def execSetEventInterruptPolicy (fn : FnIx) (settings : List Nat) (s : State) : Result :=
  s.command fn false false fun s =>
    if settings.length ≠ 4 then s.reply fn .invalidInput []
    else (s.modLd fn fun l => { l with policy := settings.map (· % 256) }).reply fn .success []

/-! ## Capacity and partitions (R56, R57, R321), in units of 256 MiB -/

def State.ldUnits (s : State) (fn : FnIx) : Nat × Nat × Nat :=
  match ownLd fn with
  | some k => (s.get (Reg.LD_RANGE_SIZE k), s.get (Reg.LD_PART_VOL k), s.get (Reg.LD_PART_VOL_NEXT k))
  | none => (0, 0, 0)

/-- IDENTIFY_MEMORY_DEVICE: capacity, volatile and persistent, and the Partition Alignment. -/
def execIdentifyMemoryDevice (fn : FnIx) (s : State) : Result :=
  s.command fn false false fun s =>
    let (size, vol, _) := s.ldUnits fn
    s.reply fn .success [size, vol, size - vol, 1]

/-- GET_PARTITION_INFO: the partitions in force and those of the next start. -/
def execGetPartitionInfo (fn : FnIx) (s : State) : Result :=
  s.command fn false false fun s =>
    let (size, vol, next) := s.ldUnits fn
    s.reply fn .success [vol, size - vol, next, size - next]

/-- The VOL_NEXT of every LD, with one changed. -/
def State.volNexts (s : State) (k v : Nat) : List Nat :=
  (List.range 16).map fun i => if i = k then v else s.gauge.volNext.getD i (s.get (Reg.LD_PART_VOL_NEXT i))

/-- SET_PARTITION_INFO: the volatile size in bytes. -/
def execSetPartitionInfo (fn : FnIx) (vol : Nat) (immediate : Bool) (s : State) : Result :=
  s.command fn false false fun s =>
    match ownLd fn with
    | none => s.reply fn .invalidInput []
    | some k =>
      if immediate || decide (vol % unit256 ≠ 0) || decide (s.ldSize k < vol) then s.reply fn .invalidInput []
      else
        let v := vol / unit256
        let l := s.volNexts k v
        let s := ((s.put (Reg.LD_PART_VOL_NEXT k) v).modGauge fun g => { g with volNext := l }).wantLearned
        (s.event (srcHead (s.ldHead k) (12 + k)) 2 Sev.note).reply fn .success []

/-! ## Health (Table 11.8), alerts, shutdown state -/

/-- GET_HEALTH_INFO: the fields of Table 11.8 in its order. -/
def execGetHealthInfo (fn : FnIx) (s : State) : Result :=
  s.command fn false false fun s =>
    let (l, t) := s.healthNums fn
    t.reply fn .success l

/-- GET_ALERT_CONFIGURATION. -/
def execGetAlertConfiguration (fn : FnIx) (s : State) : Result :=
  s.command fn false false fun s => s.reply fn .success (s.ld fn).alerts

/-- SET_ALERT_CONFIGURATION. -/
def execSetAlertConfiguration (fn : FnIx) (settings : List Nat) (s : State) : Result :=
  s.command fn false false fun s => (s.modLd fn fun l => { l with alerts := settings }).reply fn .success []

/-- GET_SHUTDOWN_STATE (R81). -/
def execGetShutdownState (fn : FnIx) (s : State) : Result :=
  s.command fn false false fun s => s.reply fn .success [s.get Reg.PERS_STATUS_HOST_SHUTDOWN_STATE]

/-- SET_SHUTDOWN_STATE (R81): clean or dirty, 0 or 1. -/
def execSetShutdownState (fn : FnIx) (value : Nat) (s : State) : Result :=
  s.command fn true false fun s =>
    if 1 < value then s.reply fn .invalidInput []
    else (s.put Reg.PERS_STATUS_HOST_SHUTDOWN_STATE value).reply fn .success []

/-! ## Poison (R332, R333) -/

/-- A DPA lies in the DRAM of the module: some rank holds it. -/
def State.inDevice (s : State) (dpa : Nat) : Bool := (s.rankAt (scOf dpa) (scAddr (localAddr dpa))).isSome

/-- The DPA of an address that a command on a function names: the LD's own on a tenant function, the device's on a
management one. -/
def State.fnAddr (s : State) (fn : FnIx) (a : Nat) : Option Nat :=
  if s.isMgmtFn fn then (if s.inDevice a then some a else none)
  else if a < s.ldSize fn then some (s.ldBase fn + a) else none

/-- A range that a command on a function names, as a DPA; an empty one is none. -/
def State.fnRange (s : State) (fn : FnIx) (start len : Nat) : Option Nat :=
  if len = 0 then none
  else match s.fnAddr fn start, s.fnAddr fn (start + len - 1) with
    | some a, some _ => some a
    | _, _ => none

/-- The source of a poison list entry as a number. -/
def PoisonSrc.code : PoisonSrc → Nat
  | .external => 1
  | .internal => 2
  | .injected => 3

/-- GET_POISON_LIST: the entries of a range in one reply, More Media Error Records clear. It clears the Overflow flag when it
returns every entry of the device-wide list. -/
def State.getPoison (s : State) (fn : FnIx) (start len : Nat) : State :=
  match s.fnRange fn start len with
  | none => s.reply fn .invalidInput []
  | some a =>
    let off := if s.isMgmtFn fn then 0 else s.ldBase fn
    let l := s.fabric.poisonList.filter fun e => decide (a ≤ e.1 ∧ e.1 < a + len)
    let t := if l.length = s.fabric.poisonList.length then s.modFabric fun f => { f with poisonOvf := none } else s
    t.reply fn .success ([0, s.fabric.poisonOvf.isSome.toNat, (s.fabric.poisonOvf.map s.hostTime).getD 0, l.length] ++
      l.flatMap fun e => [e.1 - off, e.2.code])

def execGetPoisonList (fn : FnIx) (start len : Nat) (s : State) : Result :=
  s.command fn false false fun s => s.getPoison fn start len

/-- Inject or Clear Poison: at once, or after the fill of its patch. -/
def State.poisonCommand (s : State) (fn : FnIx) (addr : Nat) (data : Option Line) : State :=
  match s.fnAddr fn addr with
  | none => s.reply fn .invalidInput []
  | some dpa =>
    let w : PoisonWait := { fn := fn, dpa := lineOf dpa, data := data }
    if s.waitsFill dpa then (s.modFabric fun f => { f with poisonWaits := f.poisonWaits ++ [w] }).faultIn (patchOf dpa)
    else s.poisonWrite w

/-- INJECT_POISON. -/
def execInjectPoison (fn : FnIx) (addr : Nat) (s : State) : Result :=
  s.command fn false false fun s => s.poisonCommand fn addr none

/-- CLEAR_POISON. -/
def execClearPoison (fn : FnIx) (addr : Nat) (data : Line) (s : State) : Result :=
  s.command fn false false fun s => s.poisonCommand fn addr (some data)

/-! ## Scan Media (R334, R341) -/

/-- GET_SCAN_MEDIA_CAPABILITIES: the size ÷ 4 GB/s in milliseconds, rounded up. -/
def execGetScanMediaCapabilities (fn : FnIx) (start len : Nat) (s : State) : Result :=
  s.command fn false false fun s => match s.fnRange fn start len with
    | none => s.reply fn .invalidInput []
    | some _ => s.reply fn .success [(len + 3999999) / 4000000]

/-- SCAN_MEDIA: a background command. -/
def execScanMedia (fn : FnIx) (start len : Nat) (s : State) : Result :=
  s.command fn false false fun s => match s.fnRange fn start len with
    | none => s.reply fn .invalidInput []
    | some a =>
      if (s.ld fn).bg.isSome then s.reply fn .busy []
      else (s.modLd fn fun l => { l with bg := some { kind := .scan a len, ld := fn.val }, scanRes := [] }).reply fn .backgroundStarted []

/-- GET_SCAN_MEDIA_RESULTS: the lines kept, in the function's addresses. -/
def execGetScanMediaResults (fn : FnIx) (s : State) : Result :=
  s.command fn false false fun s =>
    let off := if s.isMgmtFn fn then 0 else s.ldBase fn
    s.reply fn .success ((s.ld fn).scanRes.map (· - off))

/-! ## Get Vendor Log (R436, R570, R571) -/

def LogBody.type : LogBody → Nat
  | .firstFailure _ _ _ _ _ _ _ _ _ => 1
  | .dramHealth _ _ _ => 2
  | .retiredDie _ _ => 3
  | .dsc _ _ => 4

/-- The fields of a record's body. -/
def LogBody.nums : LogBody → List Nat
  | .firstFailure rail kind st reaction same adc vin pack save => [rail, kind, st, reaction] ++ same ++ [adc, vin, pack, save]
  | .dramHealth q mig ranks =>
    let m := match mig with | some (j, r, w) => [r, j, 1, w] | none => [0, 0, 0, 0]
    q :: m ++ ranks.flatMap fun x => [x.1, x.2.1, x.2.2.1.getD 0, x.2.2.1.isSome.toNat, x.2.2.2.1.toNat, x.2.2.2.2]
  | .retiredDie die cond => [die, cond]
  | .dsc count run => [count, run]

/-- GET_VENDOR_LOG: COUNT, MORE, LOST, NEXT_SEQ, then SEQ, TIME and body of each record. -/
def State.vendorLog (s : State) (fn : FnIx) (type start count : Nat) : State :=
  if type < 1 ∨ 4 < type ∨ count < 1 ∨ 60 < count then s.reply fn .invalidInput []
  else
    let all := s.seq.ring.filter fun r => decide (r.body.type = type) && decide (start ≤ r.seq)
    let l := all.take count
    let lost := s.seq.ring.head?.any fun r => decide (start < r.seq)
    let next := (l.getLast?.map fun r => r.seq + 1).getD start
    s.reply fn .success ([l.length, (decide (count < all.length)).toNat, lost.toNat, next] ++
      l.flatMap fun r => r.seq :: r.time :: r.body.nums)

def execGetVendorLog (fn : FnIx) (type start count : Nat) (s : State) : Result :=
  s.command fn true false fun s => s.vendorLog fn type start count

end Sys2Proof.Machine
end

