-- ==== Sys2Proof/Machine/Frame.lean ====
section
/-!
DEFINITION. Sys2Proof/Machine/Frame.lean: what frame and superframe boundaries bring: published quantities, the heartbeat,
the clock checks, the folds, rail samples, die temperatures and the collector's own supervision (02_frame_tick_and_epochs,
01_architecture R15, R16; 16_faults_and_events R481, R482, R490, R496; 14_power_sequencing R422, R425).
-/
namespace Sys2Proof.Machine

/-! ## Heartbeat, ring and collector (R27, R28, R481, R482) -/

/-- A unit misses its frame-done: an overrun, and at the second in succession a failed unit. -/
def State.missedDone (s : State) (u : Nat) : State :=
  let n := sparseGet 0 s.tick.misses u + 1
  let s := (s.bump Reg.TICK_STATUS_OVERRUNS 1).modTick fun t => { t with misses := sparseSet 0 t.misses u n }
  let s := s.eventAt 0x4E4 1 Sev.note Who.nobody Access.none 5 (unitAddr (u / 256) (u % 256))
  if n < 2 ∨ s.tick.failed.contains u then s
  else
    let s := s.modTick fun t => { t with failed := setInsert t.failed u }
    let s := s.eventAt (heartbeatSrc (u / 256) (u % 256)) 0xF0 Sev.fatal Who.nobody Access.none 5 (unitAddr (u / 256) (u % 256))
    if u / 256 = 10 then (s.modEvents fun e => { e with lost := true }).judgeAlert.sfg Reg.EVT_SFG_STATUS_OBSERVERS false else s

/-- The frame-dones of the frame that ends; units are named by 256 × class + index. -/
def State.heartbeat (s : State) (missing : List Nat) : State :=
  let missing := (missing.filter fun u => decide (u % 256 < classCount (u / 256))).eraseDups
  let s := s.modTick fun t => { t with misses := t.misses.filter fun e => missing.contains e.1 }
  s.each missing State.missedDone

/-- RING_LOST of one segment. -/
def State.ringToken (s : State) (silent : List Nat) (g : Nat) : State :=
  let miss := silent.contains g
  let n := s.events.silent.getD g 0 + 1
  let s := s.modEvents fun e => { e with silent := listUpd e.silent g fun _ => if miss then n else 0 }
  if !miss ∨ n < 2 then s.modEvents fun e => { e with lostSf := if miss then e.lostSf else listUpd e.lostSf g fun _ => none }
  else if (s.events.lostSf.getD g none).any fun f => decide (s.sf < f + 1024) then s
  else (s.modEvents fun e => { e with lostSf := listUpd e.lostSf g fun _ => some s.sf }).eventAt 0x4ED 2 Sev.fatal Who.nobody
    Access.none 5 (unitAddr 10 g)

/-- The boundary's tree deliveries: 1,024 consecutive ones in time restore a tree (R25). -/
def State.treesDelivered (s : State) : State :=
  let s := s.modTick fun t => { t with inTimeA := min 1024 (t.inTimeA + 1), inTimeB := min 1024 (t.inTimeB + 1) }
  (s.putB Reg.TICK_STATUS_TICK_A_OK (decide (s.tick.inTimeA = 1024))).putB Reg.TICK_STATUS_TICK_B_OK (decide (s.tick.inTimeB = 1024))

/-- EVT_SFG_STATUS.OBSERVERS (R496). -/
def State.judgeObservers (s : State) (silent : List Nat) : State :=
  if !s.isSealed then s
  else
    let ok := s.flag Reg.TICK_STATUS_TICK_A_OK && s.flag Reg.TICK_STATUS_TICK_B_OK && !s.events.lost && silent.isEmpty
    let s := s.modEvents fun e => { e with obsSeen := if ok then min 2 (e.obsSeen + 1) else e.obsSeen }
    s.sfg Reg.EVT_SFG_STATUS_OBSERVERS (ok && decide (2 ≤ s.events.obsSeen))

/-! ## Reactions at a frame's end (Table 16.8) -/

/-- A warm reset wanted by a reaction starts with the next frame, unless the frame also brought a save. -/
def State.resetTaken (s : State) : State :=
  if !s.events.resetWanted then s
  else
    let s := s.modEvents fun e => { e with resetWanted := false }
    if s.events.saveFrame = some s.frame then s.putB Reg.EVT_STATUS_RESET_DROPPED true
    else if s.seq.power = .run then (s.modEvents fun e => { e with resetSf := some s.sf }).startWarmReset
    else s.event 0x4ED 4 Sev.note

/-! ## Publishing (R15, R16, R27) -/

/-- The gauge's unit number (Table 2.5). -/
def gaugeUnit : Nat := 7 * 256

/-- The quantities formed in the ended frame are delivered, and each quadrant contributes its exposure. Of a unit without
frame-done, a quadrant's engine or the gauge, the last completed contribution stays: it completes the ended frame's work
first, and what that work formed goes out at a later boundary (R27). -/
def State.publish (s : State) (missing : List Nat) : State :=
  let s := s.put Reg.EXPO_CUR_PATCHES (s.tick.formExpo.foldl (· + ·) 0)
  let s := if missing.contains gaugeUnit then s
    else (s.put Reg.EXPO_BUDGET_PATCHES s.tick.formBudget).put Reg.PACK_STATE_STATE s.packNow
  let expo := (List.range 4).map fun q =>
    if missing.contains (512 + q) then s.tick.formExpo.getD q 0 else s.exposedOf q
  let s := s.modTick fun t => { t with formExpo := expo }
  s.each (List.range 4) fun s q => s.put (Reg.EXPO_Q_PATCHES q) (expo.getD q 0)

/-! ## Rail samples (R425) -/

/-- One calibrated sample of a rail's monitor, its warning levels and RAIL_WARN. -/
def State.railSample (s : State) (k raw : Nat) : State :=
  let c := (max 0 (min 4095 (s.corrected k 1 raw))).toNat
  let s := (s.put (Reg.RAIL_ADC_RAW k) c).putSat (Reg.RAIL_ADC_MV k) ((c * 1200 * s.get (Reg.RAIL_CFG2_GAIN k) + 32768) / 65536)
  if !s.railPresent k then s
  else
    let out := decide (c < 16 * s.get (Reg.RAIL_CFG3_UV_WARN k)) || decide (16 * s.get (Reg.RAIL_CFG3_OV_WARN k) < c)
    let s := s.modRail k fun r => { r with
      warnHigh := if out then min 4 (r.warnHigh + 1) else 0, warnClear := if out then 0 else min 4 (r.warnClear + 1) }
    let warn := s.flag (Reg.RAIL_STATUS_WARN k)
    if !warn ∧ (s.rail k).warnHigh = 4 then
      let s := (s.putB (Reg.RAIL_STATUS_WARN k) true).event (srcRail k 1) 1 Sev.note
      if s.get (Reg.RAIL_CFG0_DOMAIN k) = 4 then s.sfg Reg.EVT_SFG_STATUS_IN_LIMITS false else s
    else if warn ∧ (s.rail k).warnClear = 4 then s.putB (Reg.RAIL_STATUS_WARN k) false
    else s

/-- The rails sampled in a frame. -/
def State.railSamples (s : State) (l : List (Nat × Nat)) : State :=
  s.each ((List.range 32).filter fun k => decide (k % 16 = s.frame % 16)) fun s k =>
    match l.find? fun x => decide (x.1 = k) with
    | some x => s.railSample k x.2
    | none => s

/-! ## FRAME_BOUNDARY (R20) -/

/-- GRP_FAULT_N as it is sampled (R442). -/
def State.sampleGf (s : State) (outside : Bool) : State :=
  let low := outside || s.pins.grpFaultOut
  (s.modPins fun p => { p with grpFaultIn := low }).putB Reg.SEQ_STATUS_GF_IN low

/-- Fill and migration paces grow (R153, R271); RATE outside 10 to 130 acts as the nearer limit (Table 6.5). Of what
its work has not used, a pace keeps at most what one fill or one chunk costs. DESIGN CHOICE -/
def State.paces (s : State) : State :=
  s.each (List.range 4) fun s q => s.modQuad q fun d => { d with
    fillPace := min fillCost d.fillPace + max 10 (min 130 (s.get Reg.RESTORE_CTRL_RATE)) * 1024
    migPace := min chunkCost d.migPace + s.migrationPace q }

/-- What a sealed configuration's units do at a boundary. -/
def State.unitsFrame (s : State) (i : FrameIn) : State :=
  let s := ((s.headFrame.keepCredits.judgeLevel).poisonGoes).wearFrame.paces.each (List.range 16) State.trackGo
  let s := ((s.learnRegulate).tokenAllot i.pack (i.notDone.contains gaugeUnit)).gaugeFrame i.shunt
  s.keyUsageSum.deferredRetire

/-- The end of the running frame. -/
def State.frameEnds (s : State) (i : FrameIn) : State :=
  let s := s.railSamples i.vmon
  let s := s.heartbeat i.notDone
  let s := s.each (List.range 5) fun s g => s.ringToken i.silent g
  s.resetTaken

/-- FRAME_BOUNDARY. -/
def State.frameBoundary (s : State) (i : FrameIn) : State :=
  let s := s.frameEnds i
  let s := s.modTick fun t => { t with devTime := (t.devTime / 1024 + 1) * 1024, cycle := 0 }
  let s := if s.frame % 1024 = 0 then s.modTick fun t => { t with setting := s.settingTime } else s
  let s := (s.treesDelivered.judgeObservers i.silent).publish i.notDone
  let s := (s.epochAbandon.sampleGf i.groupFault).rideThroughEnds
  if s.isSealed then s.unitsFrame i else s

def execFrameBoundary (i : FrameIn) (s : State) : Result :=
  occurs (s.tick.clocksOn && !s.mainOff) s fun s => s.frameBoundary i

/-- TICK_SKEW (R25). -/
def execTickSkew (treeB : Bool) (s : State) : Result :=
  occurs (s.tick.clocksOn && !s.mainOff) s fun s =>
    let s := if treeB then (s.modTick fun t => { t with inTimeB := 0 }).putB Reg.TICK_STATUS_TICK_B_OK false
      else (s.modTick fun t => { t with inTimeA := 0 }).putB Reg.TICK_STATUS_TICK_A_OK false
    (s.event (if treeB then 0x4E3 else 0x4E2) 1 Sev.degraded).sfg Reg.EVT_SFG_STATUS_OBSERVERS false

/-! ## SUPERFRAME_BOUNDARY (R20) -/

/-- CLK_DRIFT (R26). -/
def State.clockCheck (s : State) (xtal aon : Nat) : State :=
  if 26188 ≤ xtal ∧ xtal ≤ 26241 ∧ 33 ≤ aon ∧ aon ≤ 36 then s
  else (s.putB Reg.TICK_STATUS_CLK_DRIFT true).event 0x4E0 1 Sev.degraded

/-- One fold that differs from its expectation (R47). -/
def State.plumbMismatch (s : State) (f : Nat × Nat × Bool) : State :=
  let (cls, unit, own) := f
  let s := if s.flag Reg.PLUMB_STATUS_MISMATCH then s
    else ((s.putB Reg.PLUMB_STATUS_FOLD own).put Reg.PLUMB_STATUS_CLASS cls).put Reg.PLUMB_STATUS_UNIT unit
  let (v, s) := s.takeFree
  let s := s.modPlumb fun p => { p with
    wrong := let k := 2 * (256 * cls + unit) + own.toNat; sparsePlace (sparseErase p.wrong k) k (BitVec.ofNat 32 v) }
  (s.putB Reg.PLUMB_STATUS_MISMATCH true).eventAt 0x4E7 1 Sev.degraded Who.nobody Access.none 5 (unitAddr cls unit)

/-- The folds that see a register whose live configuration bits differ from the reference copy: of each unit that holds it, the
own fold for bits of its own and the common fold for common ones (R45). -/
def State.driftedAt (s : State) (off : Nat) : List (Nat × Nat × Bool) :=
  let diff := (s.rd off ^^^ s.plumb.refWord off) &&& cfgMask off
  if diff = 0#32 then []
  else match regAt off with
    | none => []
    | some (d, _) =>
      let cls := classOf d.kind off
      let units := (List.range (classCount cls)).filter fun u => unitHolds cls u off && !s.isHeldDown cls u
      units.flatMap fun u => ([true, false].filter fun own => decide (diff &&& s.foldMask own off ≠ 0#32)).map fun own => (cls, u, own)

/-- The folds that a live configuration word apart from its reference makes wrong (R46, R47). -/
def State.driftedFolds (s : State) : List (Nat × Nat × Bool) :=
  ((s.regs ++ s.plumb.reference).map (·.1)).eraseDups.flatMap s.driftedAt

/-- The comparison of the folds at a superframe boundary (R45 to R47, R496). -/
def State.plumbCheck (s : State) (folds : List (Nat × Nat × Bool)) : State :=
  let folds := folds.filter fun f => decide (f.1 < 12) && decide (f.2.1 < classCount f.1) && !s.isHeldDown f.1 f.2.1
  let s := s.modPlumb fun p => { p with foldRef := p.reference, foldPast := p.epochs, epochs := [], wrong := [] }
  let folds := (folds ++ s.driftedFolds).eraseDups
  let s := s.each folds State.plumbMismatch
  let n := if s.events.plumbSeen = 3 ∨ folds ≠ [] then 3 else min 2 (s.events.plumbSeen + 1)
  (s.modEvents fun e => { e with plumbSeen := n }).sfg Reg.EVT_SFG_STATUS_PLUMB_CLEAN (decide (n = 2))

/-- Die temperature sensors (Tables 11.8, 16.12, 17.7). -/
def State.dieTemps (s : State) (l : List (Option Int)) : State :=
  let l := l.take 24
  let ix := List.range l.length
  let bad := ix.filter fun i => (l.getD i none).isNone
  let s := s.each (bad.filter fun i => !s.seq.dieFail.contains i) fun s _ => s.event 0x4EF 2 Sev.degraded
  let temps := ix.filterMap fun i => (l.getD i none).map fun t => s.corrected (39 + i) 1 t
  let hot : Option Int := temps.foldl (fun m t => some (match m with | some x => max x t | none => t)) none
  let hotter (t : Option Int) : Bool := t.any fun x => decide (1050 < x)
  let s := if hotter hot && !hotter s.seq.dieTemp then s.event 0x4EF 1 Sev.degraded else s
  s.modSeq fun x => { x with dieFail := bad, dieTemp := hot <|> x.dieTemp }

/-- EVT_SFG_STATUS.IN_LIMITS (R496, R589). -/
def State.judgeLimits (s : State) : State :=
  let temp := s.seq.dieTemp.any fun t => decide (0 ≤ t ∧ t ≤ 1050)
  let rails := (List.range 32).all fun k =>
    !(s.railPresent k && decide (s.get (Reg.RAIL_CFG0_DOMAIN k) = 4)) ||
      (!s.flag (Reg.RAIL_STATUS_WARN k) && (decide ((s.rail k).warnClear = 4) || s.flag Reg.EVT_SFG_STATUS_IN_LIMITS))
  s.sfg Reg.EVT_SFG_STATUS_IN_LIMITS (temp && rails)

/-- A column command's time on the data bus in sixths of a nanosecond, by operating point. -/
def burstSixths (op : Nat) : Nat := [12, 15, 20, 30].getD op 30

/-- A sub-channel's superframe: QOS_MISS (Table 16.10), and the idle policy's count (R242). -/
def State.scSuperframe (s : State) (n : Nat) : State :=
  let miss := s.get (Reg.SC_QOS_MISS_COUNT n)
  let s := if (s.sc n).qosSeen < miss then s.event (srcSc n 22) 1 Sev.note else s
  let low := decide (100 * (s.sc n).cols * burstSixths (s.get (Reg.SC_STATUS_OP n)) < s.get (Reg.SC_IDLE_LOW_PCT n) * 6291456)
  s.modSc n fun x => { x with qosSeen := miss, idleSf := if low then x.idleSf + 1 else 0, cols := 0 }

/-- SKIM_RATE.MBPS (Table 4.16): a patch a superframe is 62.5 MB/s. -/
def State.skimRate (s : State) : State :=
  let n := (List.range 4).foldl (fun n q => n + (s.quad q).skimSf) 0
  let s := s.putSat Reg.SKIM_RATE_MBPS (n * 125 / 2)
  s.each (List.range 4) fun s q => s.modQuad q fun d => { d with skimSf := 0 }

/-- Retries are restored after 65,536 good superframes (Table 14.4). -/
def State.railRetries (s : State) : State :=
  s.each (List.range 32) fun s k =>
    if s.railIsGood k && (s.rail k).goodSince.any fun f => decide (f + 65536 ≤ s.sf) then
      s.put (Reg.RAIL_STATUS_RETRIES_LEFT k) (s.get (Reg.RAIL_CFG0_RETRIES k))
    else s

/-- SUPERFRAME_BOUNDARY. -/
def State.superframeBoundary (s : State) (i : SuperIn) : State :=
  let s := s.modTick fun t => { t with superAt := s.sf }
  let s := (s.clockCheck i.xtal i.aon).dieTemps i.dieTemps
  if !s.isSealed then s
  else
    let s := (s.plumbCheck i.folds).judgeLimits
    let s := (s.each (List.range 16) State.scSuperframe).skimRate
    s.railRetries.gaugeSuperframe i

def execSuperframeBoundary (i : SuperIn) (s : State) : Result :=
  occurs (s.tick.clocksOn && !s.mainOff && decide (s.tick.devTime % 1048576 = 0) && decide (s.tick.superAt < s.sf)) s fun s =>
    s.superframeBoundary i

end Sys2Proof.Machine
end

