-- ==== Sys2Proof/Machine/KeyCmds.lean ====
section
/-!
DEFINITION. Sys2Proof/Machine/KeyCmds.lean: the key store's mailbox commands (12_cipher_and_keys R348 to R354), the learn
commands (13_backup_energy R399), the Fabric Manager's Set LD Allocations (R317) and the MCTP control commands of TW0 (R459).
-/
namespace Sys2Proof.Machine

/-! ## Key slots (R348 to R354) -/

/-- A slot that Load Key Blob and Erase Key Slot may name. -/
def slotNamed (k : Nat) : Bool := (decide (4 ≤ k) && decide (k ≤ 19)) || decide (k = 24) || (decide (27 ≤ k) && decide (k ≤ 63))
def slotTenant (k : Nat) : Bool := decide (4 ≤ k) && decide (k ≤ 19)

/-- The conditions of R348. -/
def State.blobOk (s : State) (b : KeyBlob) : Bool :=
  let w := s.slot b.wrap
  decide (w.st = .valid) && decide (w.use / 16 % 2 = 1) && b.intact && decide (b.slot = b.target) && slotNamed b.target &&
    decide (b.target ≠ b.wrap) &&
    (if b.target < 27 then decide (b.use = fixedUse b.target) else decide (b.use % 2 = 0) && decide (b.use < 64))

/-- R349: the LD holds no VERSION entry and no exposure. -/
def State.ldVirgin (s : State) (k : Nat) : Bool :=
  !(s.patches.any fun e => e.2.st.exposed && decide (s.ldOfDpa (e.1 * 65536) = some k)) &&
  !(s.image.ledger.any fun e => decide (s.ldOfDpa (e.1 * 65536) = some k) && match e.2 with
    | .version _ _ _ _ => true
    | _ => false)

/-- A slot whose ordinary change is not finished: it is RETIRING (R352), or its key record is still to be written. -/
def State.slotChanging (s : State) (k : Nat) : Bool :=
  decide ((s.slot k).st = .retiring) || s.keys.pendingLoad.any fun p => decide (p.slot = k)

/-- A slot's change by a command: after its key record where it is or was kept across power-down (R350), else at once. -/
def State.slotCommand (s : State) (fn : FnIx) (k : Nat) (v : Slot) (kept : Bool) : State :=
  if kept then (s.modKeys fun x => { x with pendingLoad := x.pendingLoad ++ [{ slot := k, value := v, fn := some fn }] }).wantLearned
  else (s.changeSlot k v).reply fn .success []

/-- LOAD_KEY_BLOB. -/
def State.loadBlob (s : State) (fn : FnIx) (b : KeyBlob) : State :=
  let x := s.slot b.target
  if s.flag Reg.PERS_STATUS_SAVE_ACTIVE then s.reply fn .busy []
  else if !s.blobOk b then (s.event 0x3EB 1 Sev.note).reply fn .invalidInput []
  else if slotTenant b.target && !s.ldVirgin (b.target - 4) then s.reply fn .invalidInput []
  else if s.slotChanging b.target || (slotTenant b.target && s.fabric.eraseLock.isSome) then s.reply fn .busy []
  else
    let v := { x.fill b.target 1 b.use b.persist (.given b.key) with gen := (x.gen + 1) % 65536, old := none, oldBound := 0 }
    s.slotCommand fn b.target v (v.persist || x.persist)

def execLoadKeyBlob (fn : FnIx) (b : KeyBlob) (s : State) : Result := s.command fn true false fun s => s.loadBlob fn b

/-- ERASE_KEY_SLOT of slot 24 or 27 to 63. -/
def State.eraseGeneral (s : State) (fn : FnIx) (k : Nat) (urgent : Bool) : State :=
  let x := s.slot k
  if urgent then
    let s := s.urgentErase k
    s.slotCommand fn k (s.slot k) x.persist
  else if s.slotChanging k then s.reply fn .busy []
  else s.slotCommand fn k x.erase x.persist

/-- ERASE_KEY_SLOT (R354). -/
def State.eraseSlotCommand (s : State) (fn : FnIx) (k : Nat) (urgent regenerate : Bool) : State :=
  if s.flag Reg.PERS_STATUS_SAVE_ACTIVE then s.reply fn .busy []
  else if !slotNamed k then s.reply fn .invalidInput []
  else if !slotTenant k then (if regenerate then s.reply fn .invalidInput [] else s.eraseGeneral fn k urgent)
  else if (s.ld fn).bg.isSome || s.fabric.eraseLock.isSome then s.reply fn .busy []
  else s.eraseLd fn (k - 4) (.eraseSlot regenerate) regenerate

def execEraseKeySlot (fn : FnIx) (slot : Nat) (urgent regenerate : Bool) (s : State) : Result :=
  s.command fn true false fun s => s.eraseSlotCommand fn slot urgent regenerate

/-- GET_KEY_SLOT_STATUS: state, source, PERSIST, mask and generation. -/
def execGetKeySlotStatus (fn : FnIx) (slot : Nat) (s : State) : Result :=
  s.command fn true false fun s =>
    let x := s.slot slot
    if s.flag Reg.PERS_STATUS_SAVE_ACTIVE then s.reply fn .busy []
    else if 63 < slot then s.reply fn .invalidInput []
    else s.reply fn .success [x.st.code, x.source, x.persist.toNat, x.use, x.gen]

/-! ## Learn (R399) -/

/-- REQUEST_LEARN_CYCLE. -/
def execRequestLearnCycle (fn : FnIx) (s : State) : Result :=
  s.command fn true false fun s =>
    let ph := s.get Reg.LEARN_STATUS_PHASE
    if ph = 2 then s.reply fn .busy []
    else (if ph = 1 then s else s.learnFallsDue).reply fn .success []

/-- GET_LEARN_STATUS: PHASE, PERMIT, RESULT, NS and Q_MAH. -/
def execGetLearnStatus (fn : FnIx) (s : State) : Result :=
  s.command fn true false fun s =>
    s.reply fn .success [s.get Reg.LEARN_STATUS_PHASE, s.get Reg.LEARN_STATUS_PERMIT, s.get Reg.LEARN_STATUS_RESULT,
      s.get Reg.LEARN_STATUS_NS, s.get Reg.LEARN_STATUS_Q_MAH]

/-! ## Fabric Manager and MCTP control (R317, R459) -/

/-- SET_LD_ALLOCATIONS. -/
def execSetLdAllocations (s : State) : Result := occurs (s.fnServed 16) s fun s => s.reply 16 .unsupported []

/-- An MCTP control command is answered. -/
def State.mctpControl (s : State) (f : State → State) : Result := occurs s.mctpReady s f

def State.mctpReply (s : State) (code : RetCode) (payload : List Nat) : State :=
  s.modTw0 fun t => { t with replies := t.replies ++ [(code, payload)] }

/-- SET_ENDPOINT_ID: an endpoint ID of 8 to 254 is taken. -/
def execSetEndpointId (eid : Nat) (s : State) : Result :=
  s.mctpControl fun s =>
    if eid < 8 ∨ 254 < eid then s.mctpReply .invalidInput []
    else (s.put Reg.TW0_STATUS_EID eid).mctpReply .success [eid]

/-- GET_ENDPOINT_ID. -/
def execGetEndpointId (s : State) : Result := s.mctpControl fun s => s.mctpReply .success [s.get Reg.TW0_STATUS_EID]

/-- GET_MCTP_VERSION_SUPPORT: the versions of the DMTF base specification served are not stated. -/
def execGetMctpVersionSupport (s : State) : Result :=
  s.mctpControl fun s =>
    let (v, s) := s.takeFree
    s.mctpReply .success [v]

/-- GET_MESSAGE_TYPE_SUPPORT: the types of Table 15.3; the boot ROM serves 0x00 and 0x08 (R534). -/
def execGetMessageTypeSupport (s : State) : Result :=
  s.mctpControl fun s => s.mctpReply .success (if s.inRecovery then [0x00, 0x08] else [0x00, 0x07, 0x08])

end Sys2Proof.Machine
end

