-- ==== Sys2Proof/Machine/RegPath.lean ====
section
/-!
DEFINITION. Sys2Proof/Machine/RegPath.lean: writes and broadcast reads on the register paths (00_scope R4, R5;
02_frame_tick_and_epochs R32 to R37, R48; 20_register_map R553 to R566, R568).
-/
namespace Sys2Proof.Machine

/-! ## What a write does to one register (R4) -/

/-- The word after a write, each field under its access type: RW (and RWL before the seal) takes the value, RW1C is cleared by
1, the others keep theirs. The loader's RWS fields take it before the seal. -/
def RegDef.after (d : RegDef) (isSealed loader : Bool) (old v : Word) : Word :=
  let m := accMask d .rw ||| (if isSealed then 0#32 else accMask d .rwl) ||| (if loader && !isSealed then accMask d .rws else 0#32)
  ((old &&& ~~~ m) ||| (v &&& m)) &&& ~~~ (v &&& accMask d .rw1c)

/-- The on request of TW0_AON_CMD (R457), accepted by the AON domain. -/
def State.onRequest (s : State) : State := (s.latchOn true).event 0x446 1 Sev.note

/-- What a written word brings about beside the register's fields (WO fields, and ALERT_PEND). -/
def State.writeActs (s : State) (off : Nat) (v : Word) : State :=
  let b (n : Nat) : Bool := v.getLsbD n
  if off = 0x010000 then s.when (b 31) fun s => s.put Reg.TICK_STATUS_OVERRUNS 0
  else if off = 0x010204 then s.epochCommit (v.toNat % 65536)
  else if off = 0x020000 then ((s.when (b 0) State.firstClr).when (b 1) State.nextPop).when (b 2) State.gfRelease
  else if off = 0x020004 then s.when (b 2) State.alertClear
  else if off = 0x030018 then s.when (b 3) fun s => s.shakeMet 1
  else if off = 0x060004 then s.when (b 1) fun s => s.offRequested (b 2)
  else if off = 0x07000C then s.when (b 0) State.onRequest
  else if off = 0x0A0004 then s.when (b 0) State.bootSignal
  else s

/-- The shadow copy of a register's RWS fields takes a write (R4). -/
def State.shadowWrite (s : State) (d : RegDef) (off : Nat) (v : Word) : State :=
  let rws := accMask d .rws
  let w := (sparseFind s.plumb.shadow off).getD (s.rd off)
  s.modPlumb fun x => { x with shadow := sparsePlace (sparseErase x.shadow off) off ((w &&& ~~~ rws) ||| (v &&& rws)) }

/-- The fields of a register take a write: the live ones, and the shadow copies of its RWS fields; the loader's writes before
the seal go to the live word alone. -/
def State.fieldsWrite (s : State) (p : Nat) (d : RegDef) (off : Nat) (v : Word) : State :=
  let loader := decide (p = 4)
  let w := d.after s.isSealed loader (s.rd off) v
  (if accMask d .rws = 0#32 || (loader && !s.isSealed) then s else s.shadowWrite d off v).wr off w

/-- One register takes a write: its fields, and what the write brings about. -/
def State.writeOne (s : State) (p : Nat) (d : RegDef) (off : Nat) (v : Word) : State :=
  if bankedOff off then s.bankWr p off (d.after s.isSealed (decide (p = 4)) (s.bankRd p off) v)
  else (s.fieldsWrite p d off v).writeActs off v

/-! ## RWL fields after the seal, and common fields (R4, R48) -/

/-- A path as a requester of Table 16.3: a head by the LD of its management function. -/
def State.pathWho (s : State) (p : Nat) : Nat :=
  match p with
  | 2 => Who.tw0
  | 3 => Who.cores
  | 4 => Who.loader
  | h => ((List.range 16).find? fun k => s.ldOn k && decide (s.ldHead k = h) && s.flag (Reg.LD_CFG_MGMT k)).getD Who.nobody

/-- The write differs from a register's sealed RWL fields. -/
def State.rwlDiffers (s : State) (v : Word) (a : Nat) : Bool :=
  match regAt a with
  | some (d, _) => s.isSealed && decide ((v ^^^ s.rd a) &&& accMask d .rwl ≠ 0#32)
  | none => false

/-- One report for one write (R4, R35). -/
def State.rwlReport (s : State) (p off : Nat) : State :=
  (s.eventAt 0x4E9 1 Sev.note (s.pathWho p) Access.regWrite 4 off).accessFlag p Reg.DEV_ACCESS_DISCARDED off

/-- A run-time write to common fields that misses a unit of the class (R48). -/
def State.splits (s : State) (reached : List Nat) : Bool :=
  match reached with
  | [] => false
  | a :: _ => s.isSealed && decide (sparseGet 0#32 s.plumb.common (commonKey a) &&& cfgMask a ≠ 0#32) &&
      (everyUnit a).any fun b => !s.offHeldDown b && !reached.contains b

def State.splitReport (s : State) : State := (s.putB Reg.PLUMB_STATUS_SPLIT_WRITE true).event 0x4E7 2 Sev.note

/-! ## Writes (R32 to R35, R555, R560, R564) -/

/-- A write reaches the register at an offset. -/
def State.writeAt (s : State) (p a : Nat) (v : Word) : State :=
  match regAt a with
  | some (d, _) => s.writeOne p d a v
  | none => s

/-- A write that no window discards reaches the registers at some offsets. -/
def State.writeAll (s : State) (p off : Nat) (v : Word) (l : List Nat) : State :=
  if s.splits l then s.splitReport
  else
    let s := if l.any fun a => s.rwlDiffers v a then s.rwlReport p off else s
    s.each l fun s a => s.writeAt p a v

/-- A write to an offset that belongs to no register: flagged, in TW0_STATUS too (R454). -/
def State.unmappedWrite (s : State) (p off : Nat) : State :=
  let s := s.unmapped p off
  if p = 2 then (s.putB Reg.TW0_STATUS_UNMAPPED true).event 0x442 1 Sev.note else s

/-- The register that an offset names, through the aperture and windows as well. -/
def State.nameOf (s : State) (p off : Nat) : Nat := if (s.targets p off).isSome then firstInstance off else off

/-- An offset that a path finds no register at. -/
def State.noRegister (s : State) (p off : Nat) : Bool :=
  (s.inRecovery && !recoveryOffset off) || (regAt (s.nameOf p off)).isNone

/-- A served write reaches what its offset stands for: the members of a broadcast, or the one register. -/
def State.writeTo (s : State) (p off : Nat) (v : Word) : Option (List Nat) → State
  | some [] => s.bankPut p Reg.BCAST_STATUS_EMPTY 1
  | some l => s.writeAll p off v l
  | none => s.writeAll p off v [off]

/-- A write on a path, its offset being aligned where the path asks for that. -/
def State.writeMapped (s : State) (p off : Nat) (v : Word) : State :=
  if s.noRegister p off then
    (if s.served p && !(decide (p = 2) && s.aonServes) then s.unmappedWrite p off else s).reach p off id
  else s.reach p off fun s => s.writeTo p off v (s.targets p off)

/-- A write on a path. -/
def State.writeReg (s : State) (p off : Nat) (v : Word) : State :=
  if decide (p ≤ 1) && decide (off % 4 ≠ 0) then (if s.served p then s.accessFlag p Reg.DEV_ACCESS_MISALIGNED off else s)
  else s.writeMapped p off v

/-- One 4-byte write: over BAR2 it needs all four byte enables (R556). -/
def State.writeWord (s : State) (p off : Nat) (v : Word) (be : BitVec 4) : State :=
  if decide (p ≤ 1) && decide (be ≠ 15#4) && decide (off % 4 = 0) then
    (if s.served p then s.accessFlag p Reg.DEV_ACCESS_PARTIAL off else s)
  else s.writeReg p off v

/-- An access whose length and alignment BAR2 takes (R555); the other paths write words. -/
def accessFits (a : RegAccess) : Bool :=
  decide (2 ≤ a.path.val) || ((decide (a.len = 4) || decide (a.len = 8)) && decide (a.off.toNat % a.len = 0))

/-- What a write brings of its data: a 1 for an RW1C bit that the hardware sets in the same cycle clears nothing (R563). -/
def State.writeData (s : State) (p off : Nat) (v sets : Word) : Word :=
  match regAt (s.nameOf p off) with
  | some (d, _) => v &&& ~~~ (sets &&& accMask d .rw1c)
  | none => v

/-- The first or second 4-byte write of an access (R555); an 8-byte access is two. -/
def State.writePart (s : State) (k : Nat) (a : RegAccess) : State :=
  let p := a.path.val
  if !accessFits a then (if k = 0 ∧ s.served p then s.accessFlag p Reg.DEV_ACCESS_MISALIGNED a.off.toNat else s)
  else if k = 1 ∧ ¬ (p ≤ 1 ∧ a.len = 8) then s
  else
    let off := a.off.toNat + 4 * k
    s.writeWord p off (s.writeData p off (a.value.extractLsb' (32 * k) 32) (a.sets.extractLsb' (32 * k) 32)) (a.be.extractLsb' (4 * k) 4)

/-- Accesses of one CCLK cycle in the order in which they are granted (R32). -/
def State.grantOrder (s : State) (l : List RegAccess) : List RegAccess :=
  (List.range 5).flatMap fun i => l.filter fun a => decide (a.path.val = (s.ptr 0 5 + i) % 5)

/-- REGISTER_WRITE: the writes that the paths ask in one CCLK cycle, and then the second halves of 8-byte ones. -/
def execRegisterWrite (accesses : List RegAccess) (s : State) : Result :=
  let l := s.grantOrder accesses
  .next ((s.begin.each l fun s a => s.writePart 0 a).each l fun s a => s.writePart 1 a)

/-- BROADCAST_WRITE: through the aperture or a window. -/
def execBroadcastWrite (a : RegAccess) (s : State) : Result :=
  occurs (s.targets a.path a.off.toNat).isSome s fun s => (s.writePart 0 a).writePart 1 a

/-! ## Reads (R36, R457, R568) -/

/-- What the AON copy answers, and whether it serves the offset. -/
def State.aonRead (s : State) (off : Nat) : Word × Bool :=
  if off < 0x000008 then (resetWord off, true)
  else if off = 0x000008 then (0x1000#32, true)
  else if off = 0x00000C ∨ off = 0x000010 then (if s.seq.aonSerial then resetWord off else 0#32, true)
  else if off = 0x000014 then (s.seq.aonPop, true)
  else if 0x000018 ≤ off ∧ off < 0x000028 then (s.view 2 off, true)
  else if off < 0x000100 then (0#32, true)
  else if off = 0x070004 then (Reg.TW0_STATUS_AON.bit (s.view 2 off) true, true)
  else if off = 0x070000 ∨ off = 0x070008 ∨ off = 0x070010 then (s.rd off, true)
  else (0#32, decide (off = 0x07000C))

/-- A read on a path. -/
def State.readPath (s : State) (p off : Nat) : Word × State :=
  if !s.served p then (0#32, s)
  else if decide (p = 2) && s.aonServes then
    let (w, ok) := s.aonRead off
    match sparseFind (s.path p).captured off with
    | some x => (x, s)
    | none =>
      let s := if ok then s else s.putB Reg.TW0_STATUS_OFF_ACCESS true
      (w, s.modPath p fun x => { x with
        captured := (snapMembers off).foldl (fun m a => sparsePlace (sparseErase m a) a (s.aonRead a).1) x.captured })
  else s.readReg p off

/-- BROADCAST_READ; over BAR2 its offset is aligned (R555), and the whole register is returned whatever the byte enables (R556). -/
def execBroadcastRead (path : PathIx) (off : Offset) (s : State) : Result :=
  occurs ((s.targets path off.toNat).isSome && s.served path) s fun s =>
    if path.val ≤ 1 ∧ off.toNat % 4 ≠ 0 then (s.accessFlag path Reg.DEV_ACCESS_MISALIGNED off.toNat).emit .abort else
    let (w, s) := s.readPath path off.toNat
    s.emit (.word w)

end Sys2Proof.Machine
end

