-- ==== Sys2Proof/Machine/TwoWire.lean ====
section
/-!
DEFINITION. Sys2Proof/Machine/TwoWire.lean: the TW0 target, its AON copy, MCTP on TW0, the alert line, and the controller
segments TW1 to TW4 (15_two_wire_buses).
-/
namespace Sys2Proof.Machine

/-! ## The TW0 target (R449 to R458) -/

/-- SMBus PEC: CRC-8 over the bytes of a transaction. -/
def pecOf (l : List Nat) : Nat := crc8 (8 * l.length) (l.foldl (fun n b => 256 * n + b % 256) 0)

/-- An address byte matched while the AON copy serves (R456, R458). -/
def State.aonMatched (s : State) : State :=
  if s.aonServes then s.modTw0 fun t => { t with aonAwake := true, aonMatch := s.now } else s

/-- A TW0 transaction: V_AON_IN is present. -/
def State.onTw0 (s : State) (f : State → State) : Result := occurs s.tick.aonPowered s fun s => f s.aonMatched

/-- TW0_PAGE. -/
def State.tw0Page (s : State) : Nat := s.get Reg.TW0_PAGE_PAGE

/-- TW0_PAGE_WRITE. -/
def execTw0PageWrite (page : Byte) (s : State) : Result := s.onTw0 fun s => s.put Reg.TW0_PAGE_PAGE page.toNat

/-- TW0_PAGE_READ. -/
def execTw0PageRead (s : State) : Result := s.onTw0 fun s => s.emit (.bytes [BitVec.ofNat 8 s.tw0Page])

/-- A malformed TW0 write (R451, R452). -/
def State.tw0Malformed (s : State) : State := (s.putB Reg.TW0_STATUS_MALFORMED true).event 0x442 1 Sev.note

/-- A write that fails its PEC, or lacks one where TW0_CFG asks for it (R452). -/
def State.tw0PecErr (s : State) : State := (s.putB Reg.TW0_STATUS_PEC_ERR true).event 0x440 1 Sev.note

/-- The 32-byte page buffer after data bytes from a position: words by position, each byte in its place (R451). -/
def pageBuffer : Nat → List Byte → Sparse Word → Sparse Word
  | _, [], m => m
  | i, b :: rest, m =>
    let k := i % 32 / 4
    let sh := 8 * (i % 4)
    let w := ((sparseFind m k).getD 0#32 &&& ~~~ (0xFF#32 <<< sh)) ||| (b.zeroExtend 32 <<< sh)
    pageBuffer (i + 1) rest (sparsePlace (sparseErase m k) k w)

/-- The words of a correct write go to the register path in ascending order (R452). -/
def State.tw0Words (s : State) (ptr : Nat) (data : List Byte) : State :=
  let base := s.tw0Page * 65536 + ptr / 32 * 32
  s.each (pageBuffer (ptr % 32) data []) fun s w => s.writeReg 2 (base + 4 * w.1) w.2

/-- A REG write, judged at its end: `bytes` are those after the command byte. -/
def State.tw0Write (s : State) (bytes : List Byte) : State :=
  match bytes with
  | hi :: lo :: data =>
    let ptr := hi.toNat * 256 + lo.toNat
    let pec := decide (data.length % 4 = 1)
    if ptr % 4 ≠ 0 ∨ 2 ≤ data.length % 4 then s.tw0Malformed
    else if pec then
      if pecOf (2 * s.tw0.addr :: 0x11 :: bytes.map BitVec.toNat) = 0 then s.tw0Words ptr data.dropLast else s.tw0PecErr
    else if s.flag Reg.TW0_CFG_PEC_REQ then s.tw0PecErr
    else s.tw0Words ptr data
  | _ => s.tw0Malformed

/-- TW0_REG_WRITE. -/
def execTw0RegWrite (bytes : List Byte) (s : State) : Result := s.onTw0 fun s => s.tw0Write bytes

/-- One register read by TW0 (R453, R454). -/
def State.tw0Word (s : State) (a : Nat) : Word × State :=
  let off := a - a % 4
  let s := if !s.aonServes && s.noRegister 2 off then (s.putB Reg.TW0_STATUS_UNMAPPED true).event 0x442 1 Sev.note else s
  s.readPath 2 off

/-- The next n bytes from an address: each register's word is taken when its byte 0 is sent, or at the first byte; the pointer
carries into TW0_PAGE. -/
def State.tw0Bytes (s : State) (first : Bool) (a : Nat) (w : Word) : Nat → List Byte × State
  | 0 => ([], s)
  | n + 1 =>
    let (w, s) := if first || decide (a % 4 = 0) then s.tw0Word a else (w, s)
    let a' := (a + 1) % 16777216
    let s := if a' % 65536 = 0 then s.put Reg.TW0_PAGE_PAGE (a' / 65536) else s
    let (l, s) := s.tw0Bytes false a' w n
    (w.extractLsb' (8 * (a % 4)) 8 :: l, s)

/-- A read from a pointer; the captures of R562 end with the transaction. -/
def State.tw0Read (s : State) (ptr count : Nat) : List Byte × State :=
  let s := s.modPath 2 fun x => { x with captured := [] }
  let (l, s) := s.tw0Bytes true (s.tw0Page * 65536 + ptr % 65536) 0#32 count
  (l, s.modPath 2 fun x => { x with captured := [] })

/-- TW0_REG_READ. -/
def execTw0RegRead (ptr count : Nat) (s : State) : Result :=
  s.onTw0 fun s =>
    let (l, s) := s.tw0Read ptr count
    s.emit (.bytes l)

/-- TW0_BLOCK_READ: 1 to 32 bytes and the PEC of the whole transaction; another count is not acknowledged. -/
def execTw0BlockRead (ptr count : Nat) (s : State) : Result :=
  s.onTw0 fun s =>
    if count < 1 ∨ 32 < count then s.emit .nack
    else
      let (l, s) := s.tw0Read ptr count
      let head := [2 * s.tw0.addr, 0x13, ptr / 256 % 256, ptr % 256, count, 2 * s.tw0.addr + 1]
      s.emit (.bytes (l ++ [BitVec.ofNat 8 (pecOf (head ++ l.map BitVec.toNat))]))

/-- The STATUS byte (Table 15.2). -/
def State.tw0StatusByte (s : State) : Byte :=
  let up := !s.aonServes
  let bit (n : Nat) (b : Bool) : Nat := if b then 2 ^ n else 0
  BitVec.ofNat 8 (bit 0 up + bit 1 (up && s.flag Reg.PERS_STATUS_MEDIA_READY) + bit 2 (!s.pins.alertN) +
    bit 3 (up && s.flag Reg.PERS_STATUS_SAVE_ACTIVE) + bit 4 s.mctpReady)

/-- TW0_STATUS_READ. -/
def execTw0StatusRead (s : State) : Result := s.onTw0 fun s => s.emit (.bytes [s.tw0StatusByte])

/-- TW0_OTHER_COMMAND_BYTE (R450): a command byte of Table 15.2 is another command's. -/
def execTw0OtherCommandByte (b : Byte) (s : State) : Result :=
  if 0x0F ≤ b.toNat ∧ b.toNat ≤ 0x13 then .next s.begin else s.onTw0 fun s => s.emit .nack

/-- TW0_TIMEOUT (R455). -/
def execTw0Timeout (s : State) : Result :=
  occurs (!s.aonServes) s fun s => (s.putB Reg.TW0_STATUS_TIMEOUT true).event 0x441 1 Sev.note

/-- TW0_AON_WAKE (R456). -/
def execTw0AonWake (s : State) : Result := occurs s.tick.aonPowered s State.aonMatched

/-- TW0_AON_SLEEP (R458). -/
def execTw0AonSleep (s : State) : Result :=
  occurs (s.tw0.aonAwake && (!s.aonServes || decide (s.tw0.aonMatch + ms 100 ≤ s.now))) s fun s =>
    s.modTw0 fun t => { t with aonAwake := false }

/-- ON_REQ (R457). -/
def execOnReq (path : PathIx) (s : State) : Result := .next (s.begin.reach path 0x07000C State.onRequest)

/-! ## ALERT_N (R462, Table 16.6) -/

/-- ALERT_RESPONSE: TW0 takes part while it asserts ALERT_N; when it wins it releases the line, and the pending events are
cleared. -/
def execAlertResponse (won : Bool) (s : State) : Result :=
  if s.pins.alertN && decide (s.events.earlyAlert = 0) then .next (s.begin.emit .nack)
  else s.onTw0 fun s =>
    let s := s.emit (.bytes [BitVec.ofNat 8 (2 * s.tw0.addr + 1)])
    if won then s.alertClearOnce else s

/-! ## MCTP (R459 to R461) -/

/-- A packet is dropped together with its message (R460). -/
def State.mctpDrop (s : State) : State :=
  ((s.modTw0 fun t => { t with mctp := none }).bump Reg.TW0_COUNT_MCTP_DROP_COUNT 1).event 0x443 1 Sev.note

/-- A packet joins its message; a whole message of a type of Table 15.3 goes to the management cluster. -/
def State.mctpJoin (s : State) (p : MctpPacket) (before : List Byte) : State :=
  let bytes := before ++ p.data
  if 4224 < bytes.length then s.mctpDrop
  else if p.eom then
    let s := s.modTw0 fun t => { t with mctp := none }
    if [0x00, 0x07, 0x08].contains ((bytes.headD 0xFF#8).toNat % 128) then s.emit (.mctpMessage p.src p.tag bytes) else s
  else s.modTw0 fun t => { t with mctp := some { src := p.src, tag := p.tag, seq := (p.seq + 1) % 4, bytes := bytes } }

/-- A packet of the baseline transmission unit: a start packet opens a message and ends one of its own tag; any other must
continue the message in its order. -/
def State.mctpPacket (s : State) (p : MctpPacket) : State :=
  if !p.pecOk ∨ 64 < p.data.length then s.mctpDrop
  else match s.tw0.mctp with
    | none => if p.som then s.mctpJoin p [] else s.mctpDrop
    | some m =>
      if p.som then s.mctpDrop.mctpJoin p []
      else if p.seq.val = m.seq then s.mctpJoin p m.bytes else s.mctpDrop

/-- TW0_MCTP_PACKET. -/
def execTw0MctpPacket (p : MctpPacket) (s : State) : Result :=
  s.onTw0 fun s =>
    let other := s.tw0.mctp.any fun m => decide (m.src ≠ p.src.val ∨ m.tag ≠ p.tag.val)
    if !s.mctpReady || other then s.emit .nack else s.mctpPacket p

/-- TW0_MCTP_RESPONSE: the oldest response is sent, or its third failed send drops it (R461). -/
def execTw0MctpResponse (sent : Bool) (s : State) : Result :=
  match s.tw0.replies with
  | [] => .next s.begin
  | r :: rest => occurs (!s.aonServes) s fun s =>
    if sent then (s.emit (.mctp r.1 r.2)).modTw0 fun t => { t with replies := rest, retries := 0 }
    else if s.tw0.retries + 1 < 3 then s.modTw0 fun t => { t with retries := t.retries + 1 }
    else (s.modTw0 fun t => { t with replies := rest, retries := 0 }).event 0x444 1 Sev.note

/-! ## Controller segments (R463 to R474) -/

/-- TW1 to TW4. -/
def segNo (k : TwIx) : Nat := k.val + 1

/-- A segment runs: not stopped with the main domain or in a power-down (Table 15.9). -/
def State.twRuns (s : State) : Bool := !s.mainOff && decide (s.seq.power ≠ .powerDown)

/-- Whether a user's transactions start now (Table 15.9): the gauge and the Burnor engine, but no authentication in a save;
the management cluster outside its restarts and step 3 of a warm reset. -/
def State.twServes (s : State) (n : Nat) (r : TwReq) : Bool :=
  if 3 ≤ n ∧ r.who = 0 then !(decide (n = 3) && r.urgent && s.flag Reg.PERS_STATUS_SAVE_ACTIVE)
  else s.cluster.running && s.cluster.bootOk && !s.warmStep3

/-- Urgency at the transaction port (Table 15.4). -/
def twUrgency (n : Nat) (r : TwReq) : Nat :=
  if r.who = 0 ∧ n = 3 then (if r.urgent then 6 else 4) else if r.who = 0 ∧ n = 4 then (if r.urgent then 6 else 2) else 0

/-- The Burnor engine's failed sends (R443): a message not acknowledged, or lost to arbitration 16 times, is sent again up to 3 times;
BURNOR_FAIL when the last of these fails too. -/
def State.burnorSend (s : State) (n : Nat) (r : TwReq) (code : Nat) : State :=
  if n ≠ 4 ∨ r.who ≠ 0 then s
  else if code ≠ 1 ∧ code ≠ 2 ∧ code ≠ 4 then s.modTw n fun t => { t with failed := none }
  else
    let sends := match (s.tw n).failed with
      | some (q, k) => if q = r then k + 1 else 1
      | none => 1
    if 4 ≤ sends then (s.modTw n fun t => { t with failed := none }).event 0x4A7 1 Sev.degraded
    else s.modTw n fun t => { t with failed := some (r, sends) }

/-- A transaction ends: TW_STATUS.LAST, TW_COUNT_FAIL and the requester's answer (R465); answers to a management cluster that
restarts are discarded (Table 15.9). -/
def State.twEnds (s : State) (n : Nat) (r : TwReq) (code : Nat) (data : List Byte) : State :=
  let s := s.burnorSend n r code
  let s := ((s.modTw n fun t => { t with current := none, losses := 0 }).putB (Reg.TW_STATUS_BUSY n) false).put (Reg.TW_STATUS_LAST n) code
  let s := if code = 0 then s else s.bump (Reg.TW_COUNT_FAIL_COUNT n) 1
  if s.twServes n r then s.emit (.twEnd n r.who code data) else s

/-- A transaction starts on the bus. -/
def State.twBegins (s : State) (n : Nat) (r : TwReq) : State :=
  ((s.modTw n fun t => { t with current := some r }).putB (Reg.TW_STATUS_BUSY n) true).emit (.twTx n r.addr r.bytes r.reads)

/-- TW_TRANSACTION_START: `reqs` ask at the port in this cycle (R463), after the bus clear that a reset asks for (R474); a hung
segment ends every transaction with HUNG. -/
def execTwTransactionStart (k : TwIx) (reqs : List TwReq) (s : State) : Result :=
  let n := segNo k
  let l := reqs.filter fun r => s.twServes n r
  let best := grant (s.ptr n 2) 2 (l.map fun r => (r.who.val, false, twUrgency n r))
  match l.find? fun r => decide (some r.who.val = best) with
  | none => .next s.begin
  | some r => occurs (s.twRuns && (s.tw n).current.isNone && !(s.tw n).clearFirst) s fun s =>
      if s.flag (Reg.TW_STATUS_HUNG n) then s.twEnds n r 6 [] else s.twBegins n r

/-- Codes of Table 15.6. -/
def twCode : TwResult → Nat
  | .ok => 0 | .nackAddr => 1 | .nackData => 2 | .pecErr => 3 | .conflict => 7

/-- TW_TRANSACTION_END. Only TW2 and TW3, which do not arbitrate, end with CONFLICT (R472). -/
def execTwTransactionEnd (k : TwIx) (r : TwResult) (data : List Byte) (s : State) : Result :=
  let n := segNo k
  match (s.tw n).current with
  | none => .next s.begin
  | some q => occurs (s.twRuns && !(decide (r = .conflict) && (decide (n = 1) || decide (n = 4)))) s fun s =>
      let s := s.twEnds n q (twCode r) data
      match r with
      | .pecErr => s.event (srcTw n 5) 1 Sev.note
      | .conflict => (s.putB (Reg.TW_STATUS_CONFLICT n) true).event (srcTw n 4) 1 Sev.degraded
      | _ => s

/-- TW_ARB_RETRY (R470, R471): a loss on TW1 or TW4, after which the transaction starts again `backoff` frames after the bus is
free, or ends with ARB_LIMIT at the 16th loss in a row. -/
def execTwArbRetry (k : TwIx) (backoff : Fin 16) (s : State) : Result :=
  let n := segNo k
  match (s.tw n).current with
  | none => .next s.begin
  | some q => occurs (s.twRuns && (decide (n = 1) || decide (n = 4))) s fun s =>
      let losses := (s.tw n).losses + 1
      let s := s.bump (Reg.TW_COUNT_ARB_LOST_COUNT n) 1
      if 16 ≤ losses then (s.twEnds n q 4 []).event (srcTw n 3) 1 Sev.note
      else (s.modTw n fun t => { t with losses := losses, backoff := backoff }).emit (.twTx n q.addr q.bytes q.reads)

/-- TW_RST_N of a segment is pulsed (Table 15.7, step 2). -/
def State.twPulse (s : State) (n : Nat) : State :=
  (s.emit (.twReset n (max 10 (s.get (Reg.TW_CTRL_RST_US n))))).event (srcTw n 6) 1 Sev.note

/-- TW_SCL_TIMEOUT (R466); `still`: SCL is low 10 ms later too. -/
def execTwSclTimeout (k : TwIx) (still : Bool) (s : State) : Result :=
  let n := segNo k
  match (s.tw n).current with
  | none => .next s.begin
  | some q => occurs s.twRuns s fun s =>
      let s := ((s.twEnds n q 5 []).putB (Reg.TW_STATUS_SCL_TIMEOUT n) true).event (srcTw n 0) 1 Sev.degraded
      if still then s.twPulse n else s

/-- The steps of Table 15.7; `freedAt` is the step that frees SDA (0 is step 1), or none. -/
def State.busClear (s : State) (n : Nat) (freedAt : Option (Fin 3)) : State :=
  let s := (s.bump (Reg.TW_COUNT_CLEAR_COUNT n) 1).modTw n fun t => { t with hungSf := s.sf, clearFirst := false }
  let s := if freedAt = some 0 then s else s.twPulse n
  if freedAt.isSome then s.putB (Reg.TW_STATUS_HUNG n) false
  else if s.flag (Reg.TW_STATUS_HUNG n) then s
  else (s.putB (Reg.TW_STATUS_HUNG n) true).event (srcTw n 2) 1 Sev.degraded

/-- BUS_CLEAR (R467, R468, R474). -/
def execBusClear (k : TwIx) (freedAt : Option (Fin 3)) (s : State) : Result :=
  occurs s.twRuns s fun s => s.busClear (segNo k) freedAt

/-- TW_SDA_TIMEOUT (R467): the bus clear that it starts is BUS_CLEAR. -/
def execTwSdaTimeout (k : TwIx) (s : State) : Result :=
  occurs s.twRuns s fun s => (s.putB (Reg.TW_STATUS_SDA_TIMEOUT (segNo k)) true).event (srcTw (segNo k) 1) 1 Sev.degraded

/-- TW_HUNG_RETRY. -/
def execTwHungRetry (k : TwIx) (freedAt : Option (Fin 3)) (s : State) : Result :=
  let n := segNo k
  occurs (s.twRuns && s.flag (Reg.TW_STATUS_HUNG n) && decide ((s.tw n).hungSf + 1024 ≤ s.sf)) s fun s => s.busClear n freedAt

/-! ## JTAG (R580) -/

/-- What a loaded instruction acts as. -/
def State.jtagActs (s : State) (op : JtagOp) : JtagOp :=
  match op with
  | .extest | .highz => if s.pins.porstN then .bypass else op
  | _ => op

/-- IDCODE on stepping B0. -/
def jtagIdcode : Word := 0x14860A5F#32

/-- JTAG_INSTRUCTION. -/
def execJtagInstruction (op : JtagOp) (s : State) : Result :=
  let s := (s.begin.modPins fun p => { p with jtag := op }).emit (.jtag (s.jtagActs op))
  .next (if op = .idcode then s.emit (.word jtagIdcode) else s)

end Sys2Proof.Machine
end

