-- ==== Sys2Proof/Machine/Dispatch.lean ====
section
/-!
DEFINITION. Sys2Proof/Machine/Dispatch.lean: one arm per command, each one direct call of its meaning.
-/
namespace Sys2Proof.Machine

def exec (i : Instr) (s : State) : Host.Outcome State Fault Refusal :=
  match i with
  | .frameBoundary x => Sys2Proof.Machine.execFrameBoundary x s
  | .tickSkew treeB => Sys2Proof.Machine.execTickSkew treeB s
  | .superframeBoundary x => Sys2Proof.Machine.execSuperframeBoundary x s
  | .aonTick => Sys2Proof.Machine.execAonTick s
  | .mainClockStart => Sys2Proof.Machine.execMainClockStart s
  | .aonPowerApply straps => Sys2Proof.Machine.execAonPowerApply straps s
  | .aonReset => Sys2Proof.Machine.execAonReset s
  | .registerWrite accesses => Sys2Proof.Machine.execRegisterWrite accesses s
  | .clrOverruns path => Sys2Proof.Machine.execClrOverruns path s
  | .broadcastWrite access => Sys2Proof.Machine.execBroadcastWrite access s
  | .broadcastRead path off => Sys2Proof.Machine.execBroadcastRead path off s
  | .epochCommit path value => Sys2Proof.Machine.execEpochCommit path value s
  | .epochVote notReady => Sys2Proof.Machine.execEpochVote notReady s
  | .epochApply => Sys2Proof.Machine.execEpochApply s
  | .unitPowerReturn unit => Sys2Proof.Machine.execUnitPowerReturn unit s
  | .hostWrite r d => Sys2Proof.Machine.execHostWrite r d s
  | .hostRead r => Sys2Proof.Machine.execHostRead r s
  | .stateProbeAnswer head id mates => Sys2Proof.Machine.execStateProbeAnswer head id mates s
  | .heldWriteRelease head => Sys2Proof.Machine.execHeldWriteRelease head s
  | .holdEscalate head => Sys2Proof.Machine.execHoldEscalate head s
  | .scQueueEntry sc => Sys2Proof.Machine.execScQueueEntry sc s
  | .dramCommandIssue sc x => Sys2Proof.Machine.execDramCommandIssue sc x s
  | .dramReadData reads => Sys2Proof.Machine.execDramReadData reads s
  | .healWaitExpiry q patch => Sys2Proof.Machine.execHealWaitExpiry q patch s
  | .healComplete q patch lines => Sys2Proof.Machine.execHealComplete q patch lines s
  | .pageIdleClose sc bank => Sys2Proof.Machine.execPageIdleClose sc bank s
  | .refreshDue sc rank bank => Sys2Proof.Machine.execRefreshDue sc rank bank s
  | .mr4Poll sc temps => Sys2Proof.Machine.execMr4Poll sc temps s
  | .rankIdleSelfRefresh sc rank => Sys2Proof.Machine.execRankIdleSelfRefresh sc rank s
  | .idleOpEnter sc => Sys2Proof.Machine.execIdleOpEnter sc s
  | .idleOpExit sc => Sys2Proof.Machine.execIdleOpExit sc s
  | .opChangeStart sc => Sys2Proof.Machine.execOpChangeStart sc s
  | .standbyGeneratorLocked sc => Sys2Proof.Machine.execStandbyGeneratorLocked sc s
  | .opChangeSwitch sc => Sys2Proof.Machine.execOpChangeSwitch sc s
  | .opChangeDone sc => Sys2Proof.Machine.execOpChangeDone sc s
  | .dramTraining sc ca res => Sys2Proof.Machine.execDramTraining sc ca res s
  | .trackingPassStart sc => Sys2Proof.Machine.execTrackingPassStart sc s
  | .trackingStep sc res => Sys2Proof.Machine.execTrackingStep sc res s
  | .trackingPassApply sc => Sys2Proof.Machine.execTrackingPassApply sc s
  | .dramWriteCrcAlert sc rank fails res => Sys2Proof.Machine.execDramWriteCrcAlert sc rank fails res s
  | .patrolScrubRead sc => Sys2Proof.Machine.execPatrolScrubRead sc s
  | .migrationChunk q bad => Sys2Proof.Machine.execMigrationChunk q bad s
  | .patchSettingExpiry q mates => Sys2Proof.Machine.execPatchSettingExpiry q mates s
  | .skimStart q bad mates => Sys2Proof.Machine.execSkimStart q bad mates s
  | .versionRecorded die unit => Sys2Proof.Machine.execVersionRecorded die unit s
  | .wearAllowanceRecompute q => Sys2Proof.Machine.execWearAllowanceRecompute q s
  | .gaugeFullStep x => Sys2Proof.Machine.execGaugeFullStep x s
  | .impedanceStepQualify => Sys2Proof.Machine.execImpedanceStepQualify s
  | .packAuthStart => Sys2Proof.Machine.execPackAuthStart s
  | .packAuthResponse resp => Sys2Proof.Machine.execPackAuthResponse resp s
  | .chgSelfGrant => Sys2Proof.Machine.execChgSelfGrant s
  | .learnDue => Sys2Proof.Machine.execLearnDue s
  | .learnNotStarted => Sys2Proof.Machine.execLearnNotStarted s
  | .learnedWriteStart => Sys2Proof.Machine.execLearnedWriteStart s
  | .learnedWriteReadback ok => Sys2Proof.Machine.execLearnedWriteReadback ok s
  | .vinSenseLow => Sys2Proof.Machine.execVinSenseLow s
  | .pfwNAssert => Sys2Proof.Machine.execPfwNAssert s
  | .inputReturn mv => Sys2Proof.Machine.execInputReturn mv s
  | .saveBackupEnable => Sys2Proof.Machine.execSaveBackupEnable s
  | .saveDecide => Sys2Proof.Machine.execSaveDecide s
  | .saveCommitArrive => Sys2Proof.Machine.execSaveCommitArrive s
  | .quadrantWriteDrained q => Sys2Proof.Machine.execQuadrantWriteDrained q s
  | .persistencePoint => Sys2Proof.Machine.execPersistencePoint s
  | .fabricPhyOff => Sys2Proof.Machine.execFabricPhyOff s
  | .saveWriteStart q bad => Sys2Proof.Machine.execSaveWriteStart q bad s
  | .saveQuadrantTailDone q => Sys2Proof.Machine.execSaveQuadrantTailDone q s
  | .sealWrite => Sys2Proof.Machine.execSealWrite s
  | .sealReadback ok => Sys2Proof.Machine.execSealReadback ok s
  | .bkpEnRelease => Sys2Proof.Machine.execBkpEnRelease s
  | .porstNRelease x => Sys2Proof.Machine.execPorstNRelease x s
  | .porstNAssert => Sys2Proof.Machine.execPorstNAssert s
  | .configLoad x => Sys2Proof.Machine.execConfigLoad x s
  | .warmLoad x => Sys2Proof.Machine.execWarmLoad x s
  | .sealSearch unreadable => Sys2Proof.Machine.execSealSearch unreadable s
  | .ledgerLoad lost => Sys2Proof.Machine.execLedgerLoad lost s
  | .runOpenWrite ok => Sys2Proof.Machine.execRunOpenWrite ok s
  | .mediaReady => Sys2Proof.Machine.execMediaReady s
  | .backgroundFillStart q => Sys2Proof.Machine.execBackgroundFillStart q s
  | .faultInPlaceTaken die => Sys2Proof.Machine.execFaultInPlaceTaken die s
  | .fillComplete q patch => Sys2Proof.Machine.execFillComplete q patch s
  | .stripeRebuild die unit => Sys2Proof.Machine.execStripeRebuild die unit s
  | .quadrantRefill q lost => Sys2Proof.Machine.execQuadrantRefill q lost s
  | .flashProgramConfirm die engine => Sys2Proof.Machine.execFlashProgramConfirm die engine s
  | .flashProgramStatus die failed => Sys2Proof.Machine.execFlashProgramStatus die failed s
  | .flashEraseStatus die failed => Sys2Proof.Machine.execFlashEraseStatus die failed s
  | .flashReadData die r => Sys2Proof.Machine.execFlashReadData die r s
  | .flashStatusTimeout die => Sys2Proof.Machine.execFlashStatusTimeout die s
  | .dieOpStart die => Sys2Proof.Machine.execDieOpStart die s
  | .dieRebuildRelocate die => Sys2Proof.Machine.execDieRebuildRelocate die s
  | .fcFailed fc => Sys2Proof.Machine.execFcFailed fc s
  | .flashChannelInit fc busFails r => Sys2Proof.Machine.execFlashChannelInit fc busFails r s
  | .stripeClose pos unit => Sys2Proof.Machine.execStripeClose pos unit s
  | .journalFlush q => Sys2Proof.Machine.execJournalFlush q s
  | .checkpointStart q => Sys2Proof.Machine.execCheckpointStart q s
  | .checkpointSeal ok => Sys2Proof.Machine.execCheckpointSeal ok s
  | .gcStart pos => Sys2Proof.Machine.execGcStart pos s
  | .wearLevelRelocate pos => Sys2Proof.Machine.execWearLevelRelocate pos s
  | .relocationUpdate die unit mates => Sys2Proof.Machine.execRelocationUpdate die unit mates s
  | .imagePatrolStart q => Sys2Proof.Machine.execImagePatrolStart q s
  | .cipherCodewordDone pair mismatch spareMismatch => Sys2Proof.Machine.execCipherCodewordDone pair mismatch spareMismatch s
  | .tagCompare q patch => Sys2Proof.Machine.execTagCompare q patch s
  | .dataKeyDerivation q r => Sys2Proof.Machine.execDataKeyDerivation q r s
  | .controlEngineRequest r => Sys2Proof.Machine.execControlEngineRequest r s
  | .retiringKeyZeroize slot => Sys2Proof.Machine.execRetiringKeyZeroize slot s
  | .drbgReseed ok => Sys2Proof.Machine.execDrbgReseed ok s
  | .entropyTestFail => Sys2Proof.Machine.execEntropyTestFail s
  | .powerUpStart => Sys2Proof.Machine.execPowerUpStart s
  | .mainRailPowerUp => Sys2Proof.Machine.execMainRailPowerUp s
  | .railStageStart => Sys2Proof.Machine.execRailStageStart s
  | .railGood k => Sys2Proof.Machine.execRailGood k s
  | .railUpFail k => Sys2Proof.Machine.execRailUpFail k s
  | .railRetry k => Sys2Proof.Machine.execRailRetry k s
  | .railsUp => Sys2Proof.Machine.execRailsUp s
  | .railFault k kind => Sys2Proof.Machine.execRailFault k kind s
  | .firstFailureRecord => Sys2Proof.Machine.execFirstFailureRecord s
  | .powerDownStart => Sys2Proof.Machine.execPowerDownStart s
  | .powerDownStage slow => Sys2Proof.Machine.execPowerDownStage slow s
  | .pwrbtnPress => Sys2Proof.Machine.execPwrbtnPress s
  | .pwrbtnRelease => Sys2Proof.Machine.execPwrbtnRelease s
  | .forcedOff => Sys2Proof.Machine.execForcedOff s
  | .offRequest path => Sys2Proof.Machine.execOffRequest path s
  | .shipOffRequest path => Sys2Proof.Machine.execShipOffRequest path s
  | .offAck path => Sys2Proof.Machine.execOffAck path s
  | .offHandshakeTimeout => Sys2Proof.Machine.execOffHandshakeTimeout s
  | .mrNWarmReset => Sys2Proof.Machine.execMrNWarmReset s
  | .warmResetRebuild => Sys2Proof.Machine.execWarmResetRebuild s
  | .cascadeTrainReceived pulses => Sys2Proof.Machine.execCascadeTrainReceived pulses s
  | .cascadeMasterTrain => Sys2Proof.Machine.execCascadeMasterTrain s
  | .cascadeTimeout => Sys2Proof.Machine.execCascadeTimeout s
  | .discoveryEnd => Sys2Proof.Machine.execDiscoveryEnd s
  | .groupPowerUpStart => Sys2Proof.Machine.execGroupPowerUpStart s
  | .grpFaultAssert => Sys2Proof.Machine.execGrpFaultAssert s
  | .sync period size => Sys2Proof.Machine.execSync period size s
  | .powerUp staggerMs => Sys2Proof.Machine.execPowerUp staggerMs s
  | .fpReport pos epoch fp => Sys2Proof.Machine.execFpReport pos epoch fp s
  | .chgReq pos => Sys2Proof.Machine.execChgReq pos s
  | .chgGrant => Sys2Proof.Machine.execChgGrant s
  | .chgEnd pos => Sys2Proof.Machine.execChgEnd pos s
  | .learnReq pos => Sys2Proof.Machine.execLearnReq pos s
  | .learnGrant => Sys2Proof.Machine.execLearnGrant s
  | .learnEndMsg pos => Sys2Proof.Machine.execLearnEndMsg pos s
  | .saveNote pos cause => Sys2Proof.Machine.execSaveNote pos cause s
  | .groupSave powerDown => Sys2Proof.Machine.execGroupSave powerDown s
  | .statusPoll pos answer => Sys2Proof.Machine.execStatusPoll pos answer s
  | .masterLost => Sys2Proof.Machine.execMasterLost s
  | .tw0PageWrite page => Sys2Proof.Machine.execTw0PageWrite page s
  | .tw0PageRead => Sys2Proof.Machine.execTw0PageRead s
  | .tw0RegWrite bytes => Sys2Proof.Machine.execTw0RegWrite bytes s
  | .tw0RegRead ptr count => Sys2Proof.Machine.execTw0RegRead ptr count s
  | .tw0StatusRead => Sys2Proof.Machine.execTw0StatusRead s
  | .tw0BlockRead ptr count => Sys2Proof.Machine.execTw0BlockRead ptr count s
  | .tw0MctpPacket p => Sys2Proof.Machine.execTw0MctpPacket p s
  | .tw0MctpResponse sent => Sys2Proof.Machine.execTw0MctpResponse sent s
  | .tw0Timeout => Sys2Proof.Machine.execTw0Timeout s
  | .tw0AonWake => Sys2Proof.Machine.execTw0AonWake s
  | .tw0AonSleep => Sys2Proof.Machine.execTw0AonSleep s
  | .onReq path => Sys2Proof.Machine.execOnReq path s
  | .alertResponse won => Sys2Proof.Machine.execAlertResponse won s
  | .twTransactionStart k reqs => Sys2Proof.Machine.execTwTransactionStart k reqs s
  | .twTransactionEnd k r data => Sys2Proof.Machine.execTwTransactionEnd k r data s
  | .twArbRetry k backoff => Sys2Proof.Machine.execTwArbRetry k backoff s
  | .twSclTimeout k still => Sys2Proof.Machine.execTwSclTimeout k still s
  | .twSdaTimeout k => Sys2Proof.Machine.execTwSdaTimeout k s
  | .busClear k freedAt => Sys2Proof.Machine.execBusClear k freedAt s
  | .twHungRetry k freedAt => Sys2Proof.Machine.execTwHungRetry k freedAt s
  | .faultMessageRaise m => Sys2Proof.Machine.execFaultMessageRaise m s
  | .faultMessageDelivery l mates => Sys2Proof.Machine.execFaultMessageDelivery l mates s
  | .firstClr path => Sys2Proof.Machine.execFirstClr path s
  | .nextPop path => Sys2Proof.Machine.execNextPop path s
  | .gfRelease path => Sys2Proof.Machine.execGfRelease path s
  | .alertPendClear path => Sys2Proof.Machine.execAlertPendClear path s
  | .lockstepMismatch pair => Sys2Proof.Machine.execLockstepMismatch pair s
  | .updBootOk path => Sys2Proof.Machine.execUpdBootOk path s
  | .bootTimeout => Sys2Proof.Machine.execBootTimeout s
  | .updateLockIdleTimeout => Sys2Proof.Machine.execUpdateLockIdleTimeout s
  | .transferFwInitiate fn slot h => Sys2Proof.Machine.execTransferFwInitiate fn slot h s
  | .transferFwContinue fn p => Sys2Proof.Machine.execTransferFwContinue fn p s
  | .transferFwEnd fn p copyOk => Sys2Proof.Machine.execTransferFwEnd fn p copyOk s
  | .transferFwAbort fn => Sys2Proof.Machine.execTransferFwAbort fn s
  | .activateFwOffline fn slot recoveryHigh => Sys2Proof.Machine.execActivateFwOffline fn slot recoveryHigh s
  | .activateFwOnline fn slot => Sys2Proof.Machine.execActivateFwOnline fn slot s
  | .recoveryEntered cause => Sys2Proof.Machine.execRecoveryEntered cause s
  | .identify fn => Sys2Proof.Machine.execIdentify fn s
  | .getEventRecords fn log => Sys2Proof.Machine.execGetEventRecords fn log s
  | .clearEventRecords fn log all handles => Sys2Proof.Machine.execClearEventRecords fn log all handles s
  | .getEventInterruptPolicy fn => Sys2Proof.Machine.execGetEventInterruptPolicy fn s
  | .setEventInterruptPolicy fn settings => Sys2Proof.Machine.execSetEventInterruptPolicy fn settings s
  | .getFwInfo fn => Sys2Proof.Machine.execGetFwInfo fn s
  | .getTimestamp fn => Sys2Proof.Machine.execGetTimestamp fn s
  | .setTimestamp fn ts => Sys2Proof.Machine.execSetTimestamp fn ts s
  | .getSupportedLogs fn => Sys2Proof.Machine.execGetSupportedLogs fn s
  | .getLog fn => Sys2Proof.Machine.execGetLog fn s
  | .identifyMemoryDevice fn => Sys2Proof.Machine.execIdentifyMemoryDevice fn s
  | .getPartitionInfo fn => Sys2Proof.Machine.execGetPartitionInfo fn s
  | .setPartitionInfo fn vol immediate => Sys2Proof.Machine.execSetPartitionInfo fn vol immediate s
  | .getHealthInfo fn => Sys2Proof.Machine.execGetHealthInfo fn s
  | .getAlertConfiguration fn => Sys2Proof.Machine.execGetAlertConfiguration fn s
  | .setAlertConfiguration fn settings => Sys2Proof.Machine.execSetAlertConfiguration fn settings s
  | .getShutdownState fn => Sys2Proof.Machine.execGetShutdownState fn s
  | .setShutdownState fn value => Sys2Proof.Machine.execSetShutdownState fn value s
  | .getPoisonList fn start len => Sys2Proof.Machine.execGetPoisonList fn start len s
  | .injectPoison fn addr => Sys2Proof.Machine.execInjectPoison fn addr s
  | .clearPoison fn addr data => Sys2Proof.Machine.execClearPoison fn addr data s
  | .getScanMediaCapabilities fn start len => Sys2Proof.Machine.execGetScanMediaCapabilities fn start len s
  | .scanMedia fn start len => Sys2Proof.Machine.execScanMedia fn start len s
  | .getScanMediaResults fn => Sys2Proof.Machine.execGetScanMediaResults fn s
  | .secureErase fn => Sys2Proof.Machine.execSecureErase fn s
  | .sanitize fn => Sys2Proof.Machine.execSanitize fn s
  | .deviceEraseKeySwitch ok => Sys2Proof.Machine.execDeviceEraseKeySwitch ok s
  | .backgroundCommandDone fn bad => Sys2Proof.Machine.execBackgroundCommandDone fn bad s
  | .loadKeyBlob fn b => Sys2Proof.Machine.execLoadKeyBlob fn b s
  | .eraseKeySlot fn slot urgent regenerate => Sys2Proof.Machine.execEraseKeySlot fn slot urgent regenerate s
  | .getKeySlotStatus fn slot => Sys2Proof.Machine.execGetKeySlotStatus fn slot s
  | .requestLearnCycle fn => Sys2Proof.Machine.execRequestLearnCycle fn s
  | .getLearnStatus fn => Sys2Proof.Machine.execGetLearnStatus fn s
  | .getVendorLog fn type start count => Sys2Proof.Machine.execGetVendorLog fn type start count s
  | .setLdAllocations => Sys2Proof.Machine.execSetLdAllocations s
  | .setEndpointId eid => Sys2Proof.Machine.execSetEndpointId eid s
  | .getEndpointId => Sys2Proof.Machine.execGetEndpointId s
  | .getMctpVersionSupport => Sys2Proof.Machine.execGetMctpVersionSupport s
  | .getMessageTypeSupport => Sys2Proof.Machine.execGetMessageTypeSupport s
  | .gpfPhase1 head => Sys2Proof.Machine.execGpfPhase1 head s
  | .gpfPhase2 head => Sys2Proof.Machine.execGpfPhase2 head s
  | .linkTrain head t => Sys2Proof.Machine.execLinkTrain head t s
  | .linkDown head perst => Sys2Proof.Machine.execLinkDown head perst s
  | .convSat => Sys2Proof.Machine.execConvSat s
  | .unsupportedOpcode fn opcode => Sys2Proof.Machine.execUnsupportedOpcode fn opcode s
  | .tw0OtherCommandByte b => Sys2Proof.Machine.execTw0OtherCommandByte b s
  | .crcErrorWithReplay head => Sys2Proof.Machine.execCrcErrorWithReplay head s
  | .caParityAlert sc => Sys2Proof.Machine.execCaParityAlert sc s
  | .jtagInstruction op => Sys2Proof.Machine.execJtagInstruction op s

end Sys2Proof.Machine
end

