-- ==== Sys2Proof/WellFormed.lean ====
section
/-!
DEFINITION. Sys2Proof/WellFormed.lean: what an operand must satisfy beyond its type: the widths of the fields that carry it
and the counts that the tables give. A command's meaning does not rest on it.
-/
namespace Sys2Proof

/-- A command as the block's interfaces can bring it. -/
def wellFormed : Instr → Bool
  | .frameBoundary i => i.silent.all (· < 5) && i.vmon.all (fun x => decide (x.1 < 32) && decide (x.2 < 4096)) && decide (i.pack < 4096)
  | .tickSkew _ => true
  | .superframeBoundary i => ([i.tap0, i.tap1, i.ntc0, i.ntc1].all (· < 4096)) && decide (i.dieTemps.length = 24) && i.folds.all (fun f => decide (f.1 < 12))
  | .aonTick => true
  | .mainClockStart => true
  | .aonPowerApply straps => decide (straps < 8)
  | .aonReset => true
  | .registerWrite accesses => (accesses.map RegAccess.path).Nodup
  | .clrOverruns _ => true
  | .broadcastWrite _ => true
  | .broadcastRead _ _ => true
  | .epochCommit _ _ => true
  | .epochVote notReady => notReady.all (· < 3072)
  | .epochApply => true
  | .unitPowerReturn unit => decide (unit < 3072)
  | .hostWrite r _ => decide (r.cyc < 1024) && decide (r.ld < 65536) && decide (r.addr < 2 ^ 52)
  | .hostRead r => decide (r.cyc < 1024) && decide (r.ld < 65536) && decide (r.addr < 2 ^ 52)
  | .stateProbeAnswer _ _ _ => true
  | .heldWriteRelease _ => true
  | .holdEscalate _ => true
  | .scQueueEntry _ => true
  | .dramCommandIssue _ i => decide (i.cyc < 1024) && i.colBusy.all (· < 256) && i.rowBusy.all (· < 256)
  | .dramReadData reads => reads.all fun x => x.2.errs.all (· < 88)
  | .healWaitExpiry _ _ => true
  | .healComplete _ _ lines => lines.all (· < 1024)
  | .pageIdleClose _ bank => decide (bank < 256)
  | .refreshDue _ rank bank => decide (rank < 8) && decide (bank < 64)
  | .mr4Poll _ temps => decide (temps.length ≤ 8)
  | .rankIdleSelfRefresh _ rank => decide (rank < 8)
  | .idleOpEnter _ => true
  | .idleOpExit _ => true
  | .opChangeStart _ => true
  | .standbyGeneratorLocked _ => true
  | .opChangeSwitch _ => true
  | .opChangeDone _ => true
  | .dramTraining _ _ res => res.all fun x => decide (x.op < 4) && decide (x.rank < 8) && decide (x.lane < 10)
  | .trackingPassStart _ => true
  | .trackingStep _ res => res.all fun x => decide (x.lane < 10)
  | .trackingPassApply _ => true
  | .dramWriteCrcAlert _ rank _ res => decide (rank < 8) && res.all fun x => decide (x.lane < 10)
  | .patrolScrubRead _ => true
  | .migrationChunk _ bad => bad.all (· < 128)
  | .patchSettingExpiry _ _ => true
  | .skimStart _ _ _ => true
  | .versionRecorded _ _ => true
  | .wearAllowanceRecompute _ => true
  | .gaugeFullStep _ => true
  | .impedanceStepQualify => true
  | .packAuthStart => true
  | .packAuthResponse _ => true
  | .chgSelfGrant => true
  | .learnDue => true
  | .learnNotStarted => true
  | .learnedWriteStart => true
  | .learnedWriteReadback _ => true
  | .vinSenseLow => true
  | .pfwNAssert => true
  | .inputReturn _ => true
  | .saveBackupEnable => true
  | .saveDecide => true
  | .saveCommitArrive => true
  | .quadrantWriteDrained _ => true
  | .persistencePoint => true
  | .fabricPhyOff => true
  | .saveWriteStart _ _ => true
  | .saveQuadrantTailDone _ => true
  | .sealWrite => true
  | .sealReadback ok => decide (ok.length = 4)
  | .bkpEnRelease => true
  | .porstNRelease _ => true
  | .porstNAssert => true
  | .configLoad i => decide (i.undercoatOk.length = 4)
  | .warmLoad i => decide (i.undercoatOk.length = 4)
  | .sealSearch unreadable => unreadable.all (· < 16)
  | .ledgerLoad _ => true
  | .runOpenWrite ok => decide (ok.length = 16)
  | .mediaReady => true
  | .backgroundFillStart _ => true
  | .faultInPlaceTaken _ => true
  | .fillComplete _ _ => true
  | .stripeRebuild _ _ => true
  | .quadrantRefill _ lost => lost.all fun x => decide (x.1 < 256) && decide (x.2 < 16777216)
  | .flashProgramConfirm _ _ => true
  | .flashProgramStatus _ _ => true
  | .flashEraseStatus _ _ => true
  | .flashReadData _ _ => true
  | .flashStatusTimeout _ => true
  | .dieOpStart _ => true
  | .dieRebuildRelocate _ => true
  | .fcFailed _ => true
  | .flashChannelInit _ _ r => decide (r.length = 8) && r.all (fun d => decide (d.factory.length ≤ 4))
  | .stripeClose pos _ => decide (pos < 8)
  | .journalFlush _ => true
  | .checkpointStart _ => true
  | .checkpointSeal ok => decide (ok.length = 4)
  | .gcStart pos => decide (pos < 8)
  | .wearLevelRelocate pos => decide (pos < 8)
  | .relocationUpdate _ _ _ => true
  | .imagePatrolStart _ => true
  | .cipherCodewordDone _ _ _ => true
  | .tagCompare _ _ => true
  | .dataKeyDerivation _ _ => true
  | .controlEngineRequest r => r.arrives.all fun a => a.gen.all (· < 65536)
  | .retiringKeyZeroize slot => decide (slot < 64)
  | .drbgReseed _ => true
  | .entropyTestFail => true
  | .powerUpStart => true
  | .mainRailPowerUp => true
  | .railStageStart => true
  | .railGood _ => true
  | .railUpFail _ => true
  | .railRetry _ => true
  | .railsUp => true
  | .railFault _ _ => true
  | .firstFailureRecord => true
  | .powerDownStart => true
  | .powerDownStage slow => slow.all (· < 32)
  | .pwrbtnPress => true
  | .pwrbtnRelease => true
  | .forcedOff => true
  | .offRequest _ => true
  | .shipOffRequest _ => true
  | .offAck _ => true
  | .offHandshakeTimeout => true
  | .mrNWarmReset => true
  | .warmResetRebuild => true
  | .cascadeTrainReceived pulses => decide (1 ≤ pulses)
  | .cascadeMasterTrain => true
  | .cascadeTimeout => true
  | .discoveryEnd => true
  | .groupPowerUpStart => true
  | .grpFaultAssert => true
  | .sync _ _ => true
  | .powerUp _ => true
  | .fpReport _ _ _ => true
  | .chgReq _ => true
  | .chgGrant => true
  | .chgEnd _ => true
  | .learnReq _ => true
  | .learnGrant => true
  | .learnEndMsg _ => true
  | .saveNote _ _ => true
  | .groupSave _ => true
  | .statusPoll _ _ => true
  | .masterLost => true
  | .tw0PageWrite _ => true
  | .tw0PageRead => true
  | .tw0RegWrite bytes => decide (bytes.length ≤ 259)
  | .tw0RegRead ptr _ => decide (ptr < 65536)
  | .tw0StatusRead => true
  | .tw0BlockRead ptr count => decide (ptr < 65536) && decide (count < 256)
  | .tw0MctpPacket p => decide (1 ≤ p.data.length)
  | .tw0MctpResponse _ => true
  | .tw0Timeout => true
  | .tw0AonWake => true
  | .tw0AonSleep => true
  | .onReq _ => true
  | .alertResponse _ => true
  | .twTransactionStart _ reqs => reqs.all fun r => decide (r.addr < 128) && decide (r.bytes.length ≤ 256) && decide (r.reads ≤ 256)
  | .twTransactionEnd _ _ data => decide (data.length ≤ 256)
  | .twArbRetry _ _ => true
  | .twSclTimeout _ _ => true
  | .twSdaTimeout _ => true
  | .busClear _ _ => true
  | .twHungRetry _ _ => true
  | .faultMessageRaise m => decide (m.addr < 2 ^ 52)
  | .faultMessageDelivery _ _ => true
  | .firstClr _ => true
  | .nextPop _ => true
  | .gfRelease _ => true
  | .alertPendClear _ => true
  | .lockstepMismatch _ => true
  | .updBootOk _ => true
  | .bootTimeout => true
  | .updateLockIdleTimeout => true
  | .transferFwInitiate _ slot _ => decide (slot < 256)
  | .transferFwContinue _ _ => true
  | .transferFwEnd _ _ _ => true
  | .transferFwAbort _ => true
  | .activateFwOffline _ slot _ => decide (slot < 256)
  | .activateFwOnline _ slot => decide (slot < 256)
  | .recoveryEntered _ => true
  | .identify _ => true
  | .getEventRecords _ log => decide (log < 256)
  | .clearEventRecords _ log all handles => decide (log < 256) && handles.all (· < 65536)
  | .getEventInterruptPolicy _ => true
  | .setEventInterruptPolicy _ settings => settings.all (· < 256)
  | .getFwInfo _ => true
  | .getTimestamp _ => true
  | .setTimestamp _ ts => decide (ts < 2 ^ 64)
  | .getSupportedLogs _ => true
  | .getLog _ => true
  | .identifyMemoryDevice _ => true
  | .getPartitionInfo _ => true
  | .setPartitionInfo _ _ _ => true
  | .getHealthInfo _ => true
  | .getAlertConfiguration _ => true
  | .setAlertConfiguration _ _ => true
  | .getShutdownState _ => true
  | .setShutdownState _ value => decide (value < 256)
  | .getPoisonList _ start len => decide (start < 2 ^ 64) && decide (len < 2 ^ 64)
  | .injectPoison _ addr => decide (addr < 2 ^ 64)
  | .clearPoison _ addr _ => decide (addr < 2 ^ 64)
  | .getScanMediaCapabilities _ start len => decide (start < 2 ^ 64) && decide (len < 2 ^ 64)
  | .scanMedia _ start len => decide (start < 2 ^ 64) && decide (len < 2 ^ 64)
  | .getScanMediaResults _ => true
  | .secureErase _ => true
  | .sanitize _ => true
  | .deviceEraseKeySwitch ok => decide (ok.length = 16)
  | .backgroundCommandDone _ _ => true
  | .loadKeyBlob _ b => decide (b.target < 256) && decide (b.wrap < 256) && decide (b.slot < 256) && decide (b.use < 256)
  | .eraseKeySlot _ slot _ _ => decide (slot < 256)
  | .getKeySlotStatus _ slot => decide (slot < 256)
  | .requestLearnCycle _ => true
  | .getLearnStatus _ => true
  | .getVendorLog _ type start count => decide (type < 256) && decide (start < 2 ^ 64) && decide (count < 65536)
  | .setLdAllocations => true
  | .setEndpointId eid => decide (eid < 256)
  | .getEndpointId => true
  | .getMctpVersionSupport => true
  | .getMessageTypeSupport => true
  | .gpfPhase1 _ => true
  | .gpfPhase2 _ => true
  | .linkTrain _ _ => true
  | .linkDown _ _ => true
  | .convSat => true
  | .unsupportedOpcode _ opcode => decide (opcode < 65536)
  | .tw0OtherCommandByte _ => true
  | .crcErrorWithReplay _ => true
  | .caParityAlert _ => true
  | .jtagInstruction _ => true

end Sys2Proof
end

