-- ==== Sys2Proof/Safety.lean ====
section
/-!
DEFINITION. Sys2Proof/Safety.lean: what holds of every state that the block can be in, in the terms the statements use.
-/
namespace Sys2Proof.Machine

/-- DRAM's bytes are listed in their one canonical form: addresses strictly rising, and no byte 0 listed, since an unlisted
address reads as 0. -/
def Memory.wf (m : List Host.Cell) : Bool := sparseWf (fun _ => 0#8) m

/-- The invariant that every step keeps: DRAM stands in its canonical form, and the security version fuses are at most the 64
there are (R525). -/
def State.inv (s : State) : Prop := Memory.wf s.dram = true ∧ s.otp.svn ≤ 64

/-- What one command leaves behind beside its own effect: the queue of waiting commands is untouched, no fuse comes back,
and both halves of the invariant pass on. -/
structure Keeps (s t : State) : Prop where
  pending : t.pending = s.pending
  fuses : s.otp.svn ≤ t.otp.svn
  fuseMax : s.otp.svn ≤ 64 → t.otp.svn ≤ 64
  dram : Memory.wf s.dram = true → Memory.wf t.dram = true

/-- A message waits on a source to be delivered (R478). -/
def State.pends (s : State) (src : Nat) : Bool := (sparseFind s.events.pending src).isSome

/-! ## What a command may change -/

/-- The parts of the state. -/
inductive Part where
  /-- The registers of Tables 20.13 and 20.14. -/
  | regs
  /-- Device time and the tick generator. -/
  | tick
  /-- Shadow and reference copies, the commit. -/
  | plumb
  /-- What each register path keeps. -/
  | paths
  /-- The event collector. -/
  | events
  /-- The management cluster. -/
  | cluster
  /-- The state of patches. -/
  | patches
  /-- The list of retired dies. -/
  | retired
  /-- The persistent image on flash. -/
  | image
  /-- The quadrants. -/
  | quads
  /-- The sub-channels. -/
  | scs
  /-- The flash dies. -/
  | dies
  /-- The fabric heads. -/
  | heads
  /-- The logical devices. -/
  | lds
  /-- The fabric. -/
  | fabric
  /-- The cipher and its keys. -/
  | keys
  /-- The gauge. -/
  | gauge
  /-- The rails. -/
  | rails
  /-- The sequencer. -/
  | seq
  /-- The pins. -/
  | pins
  /-- The group of devices. -/
  | group
  /-- The save. -/
  | save
  /-- The two-wire port TW0. -/
  | tw0
  /-- The two-wire segments. -/
  | tws
  /-- The loaded configuration. -/
  | cfg
  /-- The fuses. -/
  | otp
  /-- Firmware and configuration slots. -/
  | upd
  /-- The shut-down handshake. -/
  | shake
  /-- The bytes of DRAM. -/
  | dram
  /-- The poisoned lines. -/
  | poison
  /-- The model's count of free values. -/
  | fresh
  /-- The queue of waiting commands. -/
  | pending
  deriving DecidableEq, Repr

/-- A part is the same in two states. -/
def Part.same : Part → State → State → Prop
  | .regs, s, t => t.regs = s.regs
  | .tick, s, t => t.tick = s.tick
  | .plumb, s, t => t.plumb = s.plumb
  | .paths, s, t => t.paths = s.paths
  | .events, s, t => t.events = s.events
  | .cluster, s, t => t.cluster = s.cluster
  | .patches, s, t => t.patches = s.patches
  | .retired, s, t => t.retired = s.retired
  | .image, s, t => t.image = s.image
  | .quads, s, t => t.quads = s.quads
  | .scs, s, t => t.scs = s.scs
  | .dies, s, t => t.dies = s.dies
  | .heads, s, t => t.heads = s.heads
  | .lds, s, t => t.lds = s.lds
  | .fabric, s, t => t.fabric = s.fabric
  | .keys, s, t => t.keys = s.keys
  | .gauge, s, t => t.gauge = s.gauge
  | .rails, s, t => t.rails = s.rails
  | .seq, s, t => t.seq = s.seq
  | .pins, s, t => t.pins = s.pins
  | .group, s, t => t.group = s.group
  | .save, s, t => t.save = s.save
  | .tw0, s, t => t.tw0 = s.tw0
  | .tws, s, t => t.tws = s.tws
  | .cfg, s, t => t.cfg = s.cfg
  | .otp, s, t => t.otp = s.otp
  | .upd, s, t => t.upd = s.upd
  | .shake, s, t => t.shake = s.shake
  | .dram, s, t => t.dram = s.dram
  | .poison, s, t => t.poison = s.poison
  | .fresh, s, t => t.fresh = s.fresh
  | .pending, s, t => t.pending = s.pending

/-- The parts that a command may change; every other part it leaves as it was. -/
def touches : Instr → List Part
  | .frameBoundary .. => [.regs, .tick, .plumb, .events, .patches, .image, .quads, .scs, .dies, .heads, .lds, .fabric,
      .keys, .gauge, .rails, .seq, .pins, .save, .tw0, .shake, .dram, .poison]
  | .tickSkew .. => [.regs, .tick, .events]
  | .superframeBoundary .. => [.regs, .tick, .plumb, .events, .quads, .scs, .gauge, .seq, .pins, .group, .fresh]
  | .aonTick => [.tick]
  | .mainClockStart => [.tick]
  | .aonPowerApply .. => [.regs, .tick, .plumb, .paths, .events, .cluster, .patches, .image, .quads, .scs, .dies, .heads,
      .lds, .fabric, .keys, .gauge, .rails, .seq, .pins, .group, .save, .tw0, .tws, .cfg, .upd, .shake, .dram, .poison]
  | .aonReset => [.regs, .tick, .plumb, .paths, .events, .cluster, .patches, .image, .quads, .scs, .dies, .heads, .lds,
      .fabric, .keys, .gauge, .rails, .seq, .pins, .group, .save, .tw0, .tws, .cfg, .upd, .shake, .dram, .poison]
  | .registerWrite .. => [.regs, .tick, .plumb, .paths, .events, .cluster, .image, .scs, .gauge, .rails, .seq, .pins,
      .group, .save, .tw0, .otp, .upd, .shake]
  | .clrOverruns .. => [.regs, .paths]
  | .broadcastWrite .. => [.regs, .tick, .plumb, .paths, .events, .cluster, .image, .scs, .gauge, .rails, .seq, .pins,
      .group, .save, .tw0, .otp, .upd, .shake]
  | .broadcastRead .. => [.regs, .paths]
  | .epochCommit .. => [.regs, .plumb, .paths]
  | .epochVote .. => [.regs, .tick, .plumb]
  | .epochApply => [.regs, .plumb, .events, .quads, .scs]
  | .unitPowerReturn .. => [.regs, .plumb]
  | .hostWrite .. => [.regs, .tick, .events, .patches, .quads, .scs, .dies, .heads, .lds, .fabric]
  | .hostRead .. => [.regs, .tick, .events, .quads, .dies, .heads, .lds, .fabric]
  | .stateProbeAnswer .. => [.regs, .events, .patches, .quads, .scs, .dies, .heads, .fabric]
  | .heldWriteRelease .. => [.regs, .events, .patches, .quads, .scs, .dies, .heads, .fabric]
  | .holdEscalate .. => [.regs, .events, .heads]
  | .scQueueEntry .. => [.regs, .events, .patches, .quads, .scs, .heads, .fabric]
  | .dramCommandIssue .. => [.regs, .tick, .events, .quads, .scs, .heads, .dram, .poison]
  | .dramReadData .. => [.regs, .events, .patches, .quads, .scs, .dies, .heads, .lds, .fabric, .seq, .tw0, .dram, .poison]
  | .healWaitExpiry .. => [.quads]
  | .healComplete .. => [.regs, .events, .quads, .scs, .fabric, .dram, .poison]
  | .pageIdleClose .. => [.scs]
  | .refreshDue .. => [.scs]
  | .mr4Poll .. => [.regs, .events, .scs]
  | .rankIdleSelfRefresh .. => [.regs, .scs]
  | .idleOpEnter .. => [.regs, .scs]
  | .idleOpExit .. => [.regs, .events, .scs]
  | .opChangeStart .. => [.regs, .scs]
  | .standbyGeneratorLocked .. => [.regs, .scs]
  | .opChangeSwitch .. => [.regs, .scs]
  | .opChangeDone .. => [.regs, .scs]
  | .dramTraining .. => [.regs, .plumb, .events, .image, .quads, .scs, .seq]
  | .trackingPassStart .. => [.scs]
  | .trackingStep .. => [.regs, .events, .patches, .quads, .scs, .fabric, .seq, .dram, .poison]
  | .trackingPassApply .. => [.scs]
  | .dramWriteCrcAlert .. => [.regs, .events, .patches, .quads, .scs, .fabric, .seq, .dram, .poison]
  | .patrolScrubRead .. => [.regs, .events, .scs, .fabric]
  | .migrationChunk .. => [.regs, .events, .patches, .quads, .scs, .dies, .heads, .fabric, .seq, .tw0, .dram, .poison]
  | .patchSettingExpiry .. => [.regs, .events, .patches, .quads]
  | .skimStart .. => [.regs, .events, .patches, .image, .quads, .scs, .dies, .fabric, .keys]
  | .versionRecorded .. => [.regs, .patches, .image, .quads, .save]
  | .wearAllowanceRecompute .. => [.regs, .events, .quads]
  | .gaugeFullStep .. => [.regs, .tick, .events, .keys, .gauge, .pins, .group]
  | .impedanceStepQualify => [.regs, .gauge]
  | .packAuthStart => [.regs, .tick, .events, .keys, .gauge, .pins, .group]
  | .packAuthResponse .. => [.regs, .tick, .events, .keys, .gauge, .pins, .group]
  | .chgSelfGrant => [.regs, .gauge]
  | .learnDue => [.regs, .gauge, .group]
  | .learnNotStarted => [.regs, .tick, .events, .gauge, .pins, .group]
  | .learnedWriteStart => [.regs, .gauge]
  | .learnedWriteReadback .. => [.regs, .events, .fabric, .keys, .gauge, .seq, .save, .tw0, .shake]
  | .vinSenseLow => [.regs, .events, .seq, .pins, .save, .fresh]
  | .pfwNAssert => [.regs, .events, .seq, .pins, .save]
  | .inputReturn .. => [.regs, .seq, .pins]
  | .saveBackupEnable => [.regs, .image, .scs, .rails, .seq, .pins, .save]
  | .saveDecide => [.regs, .tick, .events, .gauge, .seq, .pins, .group, .save, .shake]
  | .saveCommitArrive => [.regs, .plumb, .events, .patches, .image, .quads, .scs, .dies, .heads, .fabric, .save]
  | .quadrantWriteDrained .. => [.quads]
  | .persistencePoint => [.regs, .save]
  | .fabricPhyOff => [.regs, .heads]
  | .saveWriteStart .. => [.regs, .events, .patches, .image, .quads, .scs, .dies, .heads, .fabric, .keys, .save]
  | .saveQuadrantTailDone .. => [.regs, .quads]
  | .sealWrite => [.regs, .image, .dies, .keys]
  | .sealReadback .. => [.regs, .events, .patches, .image, .quads, .scs, .dies, .heads, .lds, .fabric, .keys, .gauge,
      .rails, .seq, .pins, .save, .shake]
  | .bkpEnRelease => [.pins]
  | .porstNRelease .. => [.regs, .events, .cluster, .keys, .seq, .pins, .tw0, .upd, .fresh]
  | .porstNAssert => [.regs, .tick, .plumb, .paths, .events, .cluster, .patches, .image, .quads, .scs, .dies, .heads, .lds,
      .fabric, .keys, .gauge, .rails, .seq, .pins, .group, .save, .tw0, .tws, .cfg, .upd, .shake, .dram, .poison]
  | .configLoad .. => [.regs, .tick, .plumb, .paths, .events, .cluster, .quads, .keys, .gauge, .rails, .seq, .pins, .group,
      .cfg, .otp, .fresh]
  | .warmLoad .. => [.regs, .tick, .plumb, .paths, .events, .cluster, .image, .quads, .scs, .dies, .heads, .lds, .fabric,
      .keys, .gauge, .rails, .seq, .save, .tws, .cfg, .otp, .upd, .shake]
  | .sealSearch .. => [.regs, .image, .keys]
  | .ledgerLoad .. => [.regs, .events, .patches, .image, .quads]
  | .runOpenWrite .. => [.regs, .events, .image, .quads, .keys, .seq]
  | .mediaReady => [.regs, .tick, .events, .quads, .heads, .lds, .fabric, .gauge, .seq, .pins, .group, .save, .shake]
  | .backgroundFillStart .. => [.regs, .quads, .dies, .heads]
  | .faultInPlaceTaken .. => [.regs, .quads, .dies, .heads]
  | .fillComplete .. => [.regs, .events, .patches, .quads, .scs, .dies, .heads, .fabric, .tw0, .dram, .poison]
  | .stripeRebuild .. => [.regs, .events, .patches, .image, .quads, .scs, .dies, .heads, .fabric, .keys, .save]
  | .quadrantRefill .. => [.regs, .events, .patches, .image, .quads, .scs, .fabric, .dram, .poison]
  | .flashProgramConfirm .. => [.regs, .events, .patches, .retired, .image, .quads, .scs, .dies, .heads, .fabric, .keys,
      .seq, .save]
  | .flashProgramStatus .. => [.regs, .events, .patches, .retired, .image, .quads, .scs, .dies, .heads, .fabric, .keys,
      .seq, .save]
  | .flashEraseStatus .. => [.regs, .events, .patches, .retired, .image, .quads, .scs, .dies, .heads, .fabric, .keys, .seq,
      .save]
  | .flashReadData .. => [.regs, .events, .patches, .retired, .image, .quads, .scs, .dies, .heads, .fabric, .keys, .seq,
      .save]
  | .flashStatusTimeout .. => [.regs, .events, .patches, .retired, .image, .quads, .scs, .dies, .heads, .fabric, .keys,
      .seq, .save]
  | .dieOpStart .. => [.regs, .events, .patches, .image, .quads, .scs, .dies, .heads, .fabric, .keys, .save]
  | .dieRebuildRelocate .. => [.regs, .events, .patches, .image, .quads, .dies]
  | .fcFailed .. => [.regs, .events, .patches, .retired, .image, .quads, .dies, .keys, .seq]
  | .flashChannelInit .. => [.regs, .plumb, .events, .patches, .retired, .image, .quads, .scs, .dies, .heads, .fabric,
      .keys, .seq, .pins, .save]
  | .stripeClose .. => [.regs, .events, .patches, .image, .quads, .scs, .dies, .heads, .fabric, .keys, .save]
  | .journalFlush .. => [.regs, .quads, .dies, .keys]
  | .checkpointStart .. => [.regs, .image, .quads, .dies, .keys]
  | .checkpointSeal .. => [.regs, .events, .image, .quads, .keys]
  | .gcStart .. => [.regs, .image, .dies]
  | .wearLevelRelocate .. => [.regs, .image, .dies]
  | .relocationUpdate .. => [.regs, .image, .quads, .dies]
  | .imagePatrolStart .. => [.regs, .events, .image, .scs, .dies, .fabric]
  | .cipherCodewordDone .. => [.regs, .events, .patches, .quads, .dies, .keys]
  | .tagCompare .. => [.regs, .events, .patches, .image, .quads, .scs, .dies, .heads, .fabric, .keys, .save]
  | .dataKeyDerivation .. => [.regs, .events, .quads]
  | .controlEngineRequest .. => [.regs, .events, .keys]
  | .retiringKeyZeroize .. => [.keys]
  | .drbgReseed .. => [.regs, .lds, .fabric, .keys]
  | .entropyTestFail => [.regs, .events, .keys]
  | .powerUpStart => [.rails, .seq]
  | .mainRailPowerUp => [.regs, .events, .rails, .seq, .pins]
  | .railStageStart => [.regs, .events, .rails, .seq, .pins]
  | .railGood .. => [.regs, .events, .rails, .seq, .pins]
  | .railUpFail .. => [.regs, .plumb, .events, .patches, .retired, .image, .quads, .scs, .dies, .heads, .fabric, .keys,
      .rails, .seq, .pins, .save, .shake]
  | .railRetry .. => [.regs, .events, .rails, .seq, .pins]
  | .railsUp => [.regs, .events, .heads, .gauge, .seq, .pins]
  | .railFault .. => [.regs, .plumb, .events, .patches, .retired, .image, .quads, .scs, .dies, .heads, .fabric, .keys,
      .rails, .seq, .pins, .save, .shake]
  | .firstFailureRecord => [.regs, .seq]
  | .powerDownStart => [.regs, .image, .scs, .rails, .seq, .pins]
  | .powerDownStage .. => [.regs, .tick, .plumb, .paths, .events, .cluster, .patches, .image, .quads, .scs, .dies, .heads,
      .lds, .fabric, .keys, .gauge, .rails, .seq, .pins, .group, .save, .tw0, .tws, .cfg, .upd, .shake, .dram, .poison]
  | .pwrbtnPress => [.seq, .pins]
  | .pwrbtnRelease => [.regs, .tick, .events, .image, .scs, .gauge, .rails, .seq, .pins, .group, .save, .shake]
  | .forcedOff => [.regs, .events, .image, .scs, .rails, .seq, .pins, .save, .shake]
  | .offRequest .. => [.regs, .tick, .paths, .events, .image, .scs, .gauge, .rails, .seq, .pins, .group, .save, .shake]
  | .shipOffRequest .. => [.regs, .tick, .paths, .events, .image, .scs, .gauge, .rails, .seq, .pins, .group, .save, .shake]
  | .offAck .. => [.regs, .paths, .events, .seq, .save, .shake]
  | .offHandshakeTimeout => [.regs, .events, .seq, .save, .shake]
  | .mrNWarmReset => [.regs, .events, .patches, .image, .quads, .scs, .dies, .heads, .keys, .seq, .shake]
  | .warmResetRebuild => [.regs, .events, .patches, .image, .quads]
  | .cascadeTrainReceived .. => [.regs, .events, .rails, .seq, .pins, .group]
  | .cascadeMasterTrain => [.group]
  | .cascadeTimeout => [.regs, .events, .rails, .seq, .pins]
  | .discoveryEnd => [.regs, .events, .rails, .seq, .pins, .group]
  | .groupPowerUpStart => [.regs, .events, .rails, .seq, .pins]
  | .grpFaultAssert => [.regs, .events, .seq, .pins, .save]
  | .sync .. => [.regs, .events, .gauge, .group]
  | .powerUp .. => [.group]
  | .fpReport .. => [.regs, .events, .group]
  | .chgReq .. => [.regs, .gauge, .group]
  | .chgGrant => [.regs, .gauge]
  | .chgEnd .. => [.regs, .gauge, .group]
  | .learnReq .. => [.regs, .gauge, .group]
  | .learnGrant => [.regs, .gauge]
  | .learnEndMsg .. => [.regs, .gauge, .group]
  | .saveNote .. => []
  | .groupSave .. => [.regs, .events, .seq, .save]
  | .statusPoll .. => [.regs, .group]
  | .masterLost => [.regs, .gauge]
  | .tw0PageWrite .. => [.regs, .tw0]
  | .tw0PageRead => [.tw0]
  | .tw0RegWrite .. => [.regs, .tick, .plumb, .paths, .events, .cluster, .image, .scs, .gauge, .rails, .seq, .pins, .group,
      .save, .tw0, .otp, .upd, .shake]
  | .tw0RegRead .. => [.regs, .paths, .events, .tw0]
  | .tw0StatusRead => [.tw0]
  | .tw0BlockRead .. => [.regs, .paths, .events, .tw0]
  | .tw0MctpPacket .. => [.regs, .events, .tw0]
  | .tw0MctpResponse .. => [.regs, .events, .tw0]
  | .tw0Timeout => [.regs, .events]
  | .tw0AonWake => [.tw0]
  | .tw0AonSleep => [.tw0]
  | .onReq .. => [.regs, .paths, .events, .seq]
  | .alertResponse .. => [.regs, .events, .pins, .tw0]
  | .twTransactionStart .. => [.regs, .events, .tws]
  | .twTransactionEnd .. => [.regs, .events, .tws]
  | .twArbRetry .. => [.regs, .events, .tws]
  | .twSclTimeout .. => [.regs, .events, .tws]
  | .twSdaTimeout .. => [.regs, .events]
  | .busClear .. => [.regs, .events, .tws]
  | .twHungRetry .. => [.regs, .events, .tws]
  | .faultMessageRaise .. => [.regs, .events, .upd]
  | .faultMessageDelivery .. => [.regs, .events, .cluster, .patches, .retired, .image, .quads, .dies, .lds, .fabric, .keys,
      .seq, .pins, .save, .tws, .upd, .fresh]
  | .firstClr .. => [.regs, .paths, .events]
  | .nextPop .. => [.regs, .paths, .events]
  | .gfRelease .. => [.regs, .paths, .events, .pins]
  | .alertPendClear .. => [.regs, .paths, .events, .pins]
  | .lockstepMismatch .. => [.regs, .events, .cluster, .lds, .fabric, .tws, .upd]
  | .updBootOk .. => [.regs, .paths, .events, .cluster, .tw0, .otp, .upd]
  | .bootTimeout => [.regs, .events, .cluster, .lds, .fabric, .seq, .tws, .upd]
  | .updateLockIdleTimeout => [.regs, .upd]
  | .transferFwInitiate .. => [.regs, .events, .tw0, .upd]
  | .transferFwContinue .. => [.regs, .events, .tw0, .upd]
  | .transferFwEnd .. => [.regs, .events, .tw0, .upd]
  | .transferFwAbort .. => [.regs, .events, .tw0, .upd]
  | .activateFwOffline .. => [.regs, .tick, .plumb, .paths, .events, .cluster, .patches, .image, .quads, .scs, .dies,
      .heads, .lds, .fabric, .keys, .gauge, .rails, .seq, .pins, .group, .save, .tw0, .tws, .cfg, .upd, .shake, .dram,
      .poison, .fresh]
  | .activateFwOnline .. => [.regs, .events, .cluster, .lds, .fabric, .tw0, .tws, .upd]
  | .recoveryEntered .. => [.regs, .plumb, .paths, .events, .cluster, .heads, .rails, .seq, .cfg]
  | .identify .. => [.regs, .events, .tw0]
  | .getEventRecords .. => [.regs, .events, .tw0]
  | .clearEventRecords .. => [.regs, .events, .lds, .tw0]
  | .getEventInterruptPolicy .. => [.regs, .events, .tw0]
  | .setEventInterruptPolicy .. => [.regs, .events, .lds, .tw0]
  | .getFwInfo .. => [.regs, .events, .tw0]
  | .getTimestamp .. => [.regs, .events, .tw0]
  | .setTimestamp .. => [.regs, .events, .fabric, .tw0]
  | .getSupportedLogs .. => [.regs, .events, .tw0]
  | .getLog .. => [.regs, .events, .tw0]
  | .identifyMemoryDevice .. => [.regs, .events, .tw0]
  | .getPartitionInfo .. => [.regs, .events, .tw0]
  | .setPartitionInfo .. => [.regs, .events, .gauge, .tw0]
  | .getHealthInfo .. => [.regs, .events, .tw0, .fresh]
  | .getAlertConfiguration .. => [.regs, .events, .tw0]
  | .setAlertConfiguration .. => [.regs, .events, .lds, .tw0]
  | .getShutdownState .. => [.regs, .events, .tw0]
  | .setShutdownState .. => [.regs, .events, .tw0]
  | .getPoisonList .. => [.regs, .events, .fabric, .tw0]
  | .injectPoison .. => [.regs, .events, .patches, .quads, .scs, .dies, .heads, .fabric, .tw0, .dram, .poison]
  | .clearPoison .. => [.regs, .events, .patches, .quads, .scs, .dies, .heads, .fabric, .tw0, .dram, .poison]
  | .getScanMediaCapabilities .. => [.regs, .events, .tw0]
  | .scanMedia .. => [.regs, .events, .lds, .tw0]
  | .getScanMediaResults .. => [.regs, .events, .tw0]
  | .secureErase .. => [.regs, .events, .patches, .image, .quads, .dies, .lds, .fabric, .keys, .tw0]
  | .sanitize .. => [.regs, .events, .patches, .image, .quads, .dies, .lds, .fabric, .keys, .tw0]
  | .deviceEraseKeySwitch .. => [.regs, .events, .patches, .image, .quads, .scs, .dies, .heads, .fabric, .keys]
  | .backgroundCommandDone .. => [.regs, .events, .patches, .image, .quads, .scs, .dies, .heads, .lds, .fabric, .tw0, .dram,
      .poison]
  | .loadKeyBlob .. => [.regs, .events, .keys, .tw0]
  | .eraseKeySlot .. => [.regs, .events, .patches, .image, .quads, .dies, .lds, .keys, .tw0]
  | .getKeySlotStatus .. => [.regs, .events, .tw0]
  | .requestLearnCycle .. => [.regs, .events, .gauge, .group, .tw0]
  | .getLearnStatus .. => [.regs, .events, .tw0]
  | .getVendorLog .. => [.regs, .events, .tw0]
  | .setLdAllocations => [.regs, .events, .tw0]
  | .setEndpointId .. => [.regs, .tw0]
  | .getEndpointId => [.tw0]
  | .getMctpVersionSupport => [.tw0, .fresh]
  | .getMessageTypeSupport => [.tw0]
  | .gpfPhase1 .. => []
  | .gpfPhase2 .. => [.heads]
  | .linkTrain .. => [.regs, .events, .heads, .pins]
  | .linkDown .. => [.regs, .events, .quads, .scs, .heads, .seq, .pins, .save, .shake]
  | .convSat => [.regs, .events]
  | .unsupportedOpcode .. => [.regs, .events, .tw0]
  | .tw0OtherCommandByte .. => [.tw0]
  | .crcErrorWithReplay .. => [.regs, .events]
  | .caParityAlert .. => [.regs, .events]
  | .jtagInstruction .. => [.pins]

/-- For the commands that concern one register or two: the offsets of the registers that each may write beside the event
counters, and the source whose message it may raise. Of every other command this table says nothing. -/
def ownRegs : Instr → Option (List Nat × Nat)
  | .tickSkew b => some ([Reg.TICK_STATUS_TICK_A_OK.off, Reg.EVT_SFG_STATUS_OBSERVERS.off], if b then 0x4E3 else 0x4E2)
  | .crcErrorWithReplay h => some ([], srcHead h 2)
  | .caParityAlert k => some ([], srcSc k 19)
  | .rankIdleSelfRefresh k _ => some ([(Reg.SC_STATUS_SR_RANKS k).off], 0)
  | .standbyGeneratorLocked k => some ([(Reg.SC_STATUS_SR_RANKS k).off], 0)
  | .opChangeSwitch k => some ([(Reg.SC_STATUS_STATE k).off], 0)
  | .opChangeDone k => some ([(Reg.SC_STATUS_STATE k).off], 0)
  | .chgSelfGrant => some ([Reg.SEQ_GROUP_STATUS_POSITION.off], 0)
  | .chgGrant => some ([Reg.SEQ_GROUP_STATUS_POSITION.off], 0)
  | .masterLost => some ([Reg.SEQ_GROUP_STATUS_POSITION.off], 0)
  | .learnGrant => some ([Reg.LEARN_STATUS_PHASE.off, Reg.SEQ_GROUP_STATUS_POSITION.off], 0)
  | .learnedWriteStart => some ([Reg.GAUGE_STATUS_WRITING.off], 0)
  | .convSat => some ([Reg.GAUGE_STATUS_WRITING.off], 0x470)
  | .inputReturn _ => some ([Reg.SEQ_STATUS_ON_LATCH.off], 0)
  | .persistencePoint => some ([Reg.SAVE_LAST_PP_PP_FRAMES.off, Reg.SAVE_STATUS_PHASE.off], 0)
  | .entropyTestFail => some ([Reg.KEY_STATUS_RNG_OK.off], 0x3ED)
  | .tw0PageWrite _ => some ([Reg.TW0_PAGE_PAGE.off], 0)
  | .tw0Timeout => some ([Reg.TW0_STATUS_TIMEOUT.off], 0x441)
  | .twSdaTimeout k => some ([(Reg.TW_STATUS_SDA_TIMEOUT (segNo k)).off], srcTw (segNo k) 1)
  | .updateLockIdleTimeout => some ([Reg.UPD_STATUS_LOCK.off, Reg.UPD_STAGED_BYTES.off], 0)
  | _ => none

end Sys2Proof.Machine
end

