-- ==== Sys2Proof/Certificates/Slice0/Obligations.lean ====
section
/-!
DEFINITION. Sys2Proof/Certificates/Slice0/Obligations.lean: the statements to prove about the block. A conjunction holds
one clause for each command or case that its text names. A clause `∃ t, exec c s = .next t ∧ …` says that the command completes:
it answers a next state, under conditions on the state and the operands alone, and what that state holds.
-/
open Sys2Proof Sys2Proof.Machine

/-- For every command c, state s and rest of the queue: step of s with c at the front of its queue is exec c on s with the
rest as its queue. On an empty queue the step answers the same state; that the block idles there is the model's choice
(log entry 1). -/
def Obligations.AStepRunsTheFrontCommand : Prop :=
  (∀ (c : Instr) (s : State) (l : List Instr), step (s.withPending (c :: l)) = exec c (s.withPending l)) ∧
  (∀ s : State, s.pending = [] → step s = .next s)

/-- Right after reset, V_AON_IN applied: every register is at its reset word, device time is 0, the device is off with PORST_N
asserted, no configuration is sealed, no firmware runs, no save is detected, no message waits, DRAM's queues and the queue
of commands are empty (R23, R572). That DRAM then reads as zeros is the model's choice (log entry 3). -/
def Obligations.ResetLeavesTheBlockOff : Prop :=
  (State.reset.regs = [] ∧ (∀ x, State.reset.rd x = resetWord x) ∧ State.reset.now = 0 ∧ State.reset.seq.power = .off ∧
      State.reset.pins.porstN = false ∧ State.reset.isSealed = false ∧ State.reset.cluster.running = false ∧
      State.reset.save.frame0 = none ∧ (∀ x, State.reset.pends x = false) ∧ State.reset.dram = [] ∧
      (∀ n, (State.reset.sc n).readQ = [] ∧ (State.reset.sc n).writeQ = []) ∧ State.reset.pending = [])

/-- At reset DRAM is in its canonical form and the security version fuses are at most the 64 there are (R525). -/
def Obligations.TheInvariantHoldsAtReset : Prop :=
  (State.reset.inv)

/-- From every state in which DRAM is in its canonical form (addresses strictly rising, no listed byte equal to what an
unlisted address reads as) and at most 64 security version fuses are blown (R525), a step that answers a next state leaves
a state in which both hold. -/
def Obligations.EveryStepKeepsTheInvariant : Prop :=
  (∀ s t : State, s.inv → step s = .next t → t.inv)

/-- The frame of every command: the table touches names for each of the 231 commands the parts of the state (registers, time,
events, patches, image, quadrants, sub-channels, dies, heads, logical devices, keys, gauge, rails, pins, group, save,
buses, DRAM's bytes, poison and the others) that the steps of 95_what_each_step_holds.md change; whatever the state and
operands, a next state of the command agrees with the state before in every part that the table does not name, the queue
of waiting commands among them. -/
def Obligations.CommandsTouchOnlyTheirParts : Prop :=
  (∀ (c : Instr) (s t : State) (p : Part), exec c s = .next t → p ∉ touches c → p.same s t)

/-- Whatever the command, the number of blown security version fuses never falls. It rises only in a command that can carry
the write of UPD_BOOT.OK: that write itself and the register writes that may reach its offset (R525). No command adds to
or takes from the queue of waiting commands. -/
def Obligations.FusesAreOnlyBlownByAGoodBoot : Prop :=
  (∀ (c : Instr) (s t : State), exec c s = .next t → s.otp.svn ≤ t.otp.svn ∧ t.pending = s.pending ∧
      (t.otp.svn ≠ s.otp.svn → (∃ p, c = .updBootOk p) ∨ (∃ l, c = .registerWrite l) ∨
        (∃ a, c = .broadcastWrite a) ∨ (∃ l, c = .tw0RegWrite l)))

/-- Reading a byte of DRAM is dramByte. In a command that does not name DRAM among its parts in touches (all but
DRAM_COMMAND_ISSUE, DRAM_READ_DATA, DRAM_WRITE_CRC_ALERT, HEAL_COMPLETE, TRACKING_STEP, MIGRATION_CHUNK, FILL_COMPLETE,
QUADRANT_REFILL, INJECT_POISON, CLEAR_POISON, BACKGROUND_COMMAND_DONE, and those that may take DRAM's power:
AON_POWER_APPLY, AON_RESET, FRAME_BOUNDARY, PORST_N_ASSERT, POWER_DOWN_STAGE, ACTIVATE_FW_OFFLINE) every byte reads after
as before. HEAL_COMPLETE changes bytes of its patch alone (R164), INJECT_POISON and CLEAR_POISON bytes of the line alone
that the function's address names (R333). -/
def Obligations.BytesOfDramChangeOnlyWhereStored : Prop :=
  (∀ (c : Instr) (s t : State) (a : Nat), exec c s = .next t → Part.dram ∉ touches c → dramByte t.dram a = dramByte s.dram a) ∧
  (∀ (q : QuadIx) (p : Nat) (l : List Nat) (s t : State) (a : Nat), exec (.healComplete q p l) s = .next t →
      (a < p * 65536 ∨ p * 65536 + 65536 ≤ a) → dramByte t.dram a = dramByte s.dram a) ∧
  (∀ (fn : FnIx) (addr : Nat) (data : Line) (s t : State) (a : Nat),
      (exec (.injectPoison fn addr) s = .next t ∨ exec (.clearPoison fn addr data) s = .next t) →
      (∀ d, s.fnAddr fn addr = some d → a < lineOf d ∨ lineOf d + 64 ≤ a) → dramByte t.dram a = dramByte s.dram a)

/-- After a FRAME_BOUNDARY that comes, device time is an exact multiple of 1,024 ns, later than before by at most 1,024 ns,
the frame number is device time >> 10 and the superframe number is device time >> 20 (R20). -/
def Obligations.FrameBoundariesAreMultiplesOf1024 : Prop :=
  (∀ (i : FrameIn) (s : State), s.tick.clocksOn = true → s.mainOff = false →
      ∃ t, exec (.frameBoundary i) s = .next t ∧ t.tick.devTime % 1024 = 0 ∧ s.tick.devTime < t.tick.devTime ∧
        t.tick.devTime ≤ s.tick.devTime + 1024 ∧ t.frame = t.tick.devTime >>> 10 ∧ t.sf = t.tick.devTime >>> 20)

/-- On a path that is served, at an aligned offset of the broadcast aperture that names a register, with masks that select no
instance: BROADCAST_WRITE (its write not discarded by a window) changes no register and no shadow copy and sets the path's
BCAST_STATUS.EMPTY; BROADCAST_READ returns 0 and sets it (R37). -/
def Obligations.BroadcastsThatSelectNothingAreEmpty : Prop :=
  (∀ (p : PathIx) (off : Offset) (v : Word) (s : State), s.served p = true → s.writeShut p off.toNat = false →
      off.toNat % 4 = 0 → s.targets p off.toNat = some [] → s.noRegister p off.toNat = false →
      ∃ t, exec (.broadcastWrite ⟨p, off, 4, v.setWidth 64, 15#8, 0#64⟩) s = .next t ∧ t.bankGet p Reg.BCAST_STATUS_EMPTY = 1 ∧
      t.regs = s.regs ∧ t.plumb = s.plumb) ∧
  (∀ (p : PathIx) (off : Offset) (s : State), s.served p = true → off.toNat % 4 = 0 → (decide (p = 2) && s.aonServes) = false →
      (s.inRecovery && !recoveryOffset off.toNat) = false → s.targets p off.toNat = some [] →
      (regAt (firstInstance off.toNat)).isSome = true →
      ∃ t, exec (.broadcastRead p off) s = .next t ∧ t.out = [.word 0#32] ∧ t.bankGet p Reg.BCAST_STATUS_EMPTY = 1 ∧
      t.regs = s.regs)

/-- On a path that is served, at an aligned offset of the broadcast aperture, with masks that select instances: BROADCAST_READ
returns the value of the reached instance with the lowest index; when another one's value differs, MISMATCH of the path is
1 and DIFF_INDEX is the index of the first that differs; when none does, both keep their values; the values of RWS fields
are those of the shadow copies (R36). -/
def Obligations.BroadcastReadsReturnTheFirstInstance : Prop :=
  (∀ (p : PathIx) (off : Offset) (s : State) (d : RegDef) (u a : Nat) (rest : List Nat), s.served p = true → off.toNat % 4 = 0 →
      (decide (p = 2) && s.aonServes) = false → (s.inRecovery && !recoveryOffset off.toNat) = false →
      s.targets p off.toNat = some (a :: rest) → regAt (firstInstance off.toNat) = some (d, u) →
      (∀ b ∈ rest, a < b) ∧
      (∀ b m, b ∈ a :: rest → sparseFind s.plumb.shadow b = some m → s.regValue p d b &&& accMask d .rws = m &&& accMask d .rws) ∧
      (∃ t, exec (.broadcastRead p off) s = .next t ∧ t.out = [.word (s.regValue p d a)] ∧ t.regs = s.regs ∧
        (∀ b, rest.find? (fun b => decide (s.regValue p d b ≠ s.regValue p d a)) = some b →
          t.bankGet p Reg.BCAST_STATUS_MISMATCH = 1 ∧
          t.bankGet p Reg.BCAST_STATUS_DIFF_INDEX = ((regAt b).map (·.2)).getD 0 % 256) ∧
        (rest.find? (fun b => decide (s.regValue p d b ≠ s.regValue p d a)) = none →
        t = { s with out := t.out, regs := s.regs })))

/-- FAULT_MESSAGE_RAISE with the main domain on: with no message pending on its source the raised one is pending there; with
one pending it stays unless the raised one's severity is higher, and EVT_DROPPED counts either way; EVT_COUNT.RAISED of
the source counts each raise; counters stay at their highest value (R478). -/
def Obligations.ASourceHoldsOneMessage : Prop :=
  (∀ (m : RaiseIn) (s : State), s.mainOff = false → sparseFind s.events.pending m.src = none →
      ∃ t, exec (.faultMessageRaise m) s = .next t ∧
        (∃ x, sparseFind t.events.pending m.src = some x ∧ x.src = m.src.val ∧ x.kind = m.kind.val ∧ x.sev = m.sev.val ∧
        x.time = s.now) ∧
        t.get Reg.EVT_DROPPED_COUNT = s.get Reg.EVT_DROPPED_COUNT ∧
        t.get (Reg.EVT_COUNT_RAISED m.src) = min 65535 (s.get (Reg.EVT_COUNT_RAISED m.src) + 1)) ∧
  (∀ (m : RaiseIn) (s : State) (old : FaultMsg), s.mainOff = false → sparseFind s.events.pending m.src = some old →
      ∃ t, exec (.faultMessageRaise m) s = .next t ∧
        ((if old.sev < m.sev.val then ∃ x, sparseFind t.events.pending m.src = some x ∧ x.kind = m.kind.val ∧ x.sev = m.sev.val
         else sparseFind t.events.pending m.src = some old) ∧
        t.get Reg.EVT_DROPPED_COUNT = min (2 ^ 32 - 1) (s.get Reg.EVT_DROPPED_COUNT + 1) ∧
        t.get (Reg.EVT_COUNT_RAISED m.src) = min 65535 (s.get (Reg.EVT_COUNT_RAISED m.src) + 1) ∧
        ∀ x, x ≠ m.src.val → sparseFind t.events.pending x = sparseFind s.events.pending x))

/-- TW_TRANSACTION_END with a conflict on TW2 or TW3 while a transaction runs: it ends with CONFLICT, no transaction runs,
TW_STATUS.CONFLICT is 1, the message TW_CONFLICT waits on the segment's source, and nothing more goes out on the bus
(R472). -/
def Obligations.ConflictsEndTransactionsOnTw2AndTw3 : Prop :=
  (∀ (k : TwIx) (l : List Byte) (s : State) (q : TwReq), (s.tw (segNo k)).current = some q → s.twRuns = true →
      (segNo k = 2 ∨ segNo k = 3) →
      ∃ t, exec (.twTransactionEnd k .conflict l) s = .next t ∧ (t.tw (segNo k)).current = none ∧
      t.get (Reg.TW_STATUS_LAST (segNo k)) = 7 ∧
        t.flag (Reg.TW_STATUS_CONFLICT (segNo k)) = true ∧ t.pends (srcTw (segNo k) 4) = true ∧
        (∀ o ∈ t.out, ∀ a b r, o ≠ .twTx (segNo k) a b r))

/-- A patch of a persistent partition that a received HOST_WRITE makes WET records the superframe of that write.
PATCH_SETTING_EXPIRY of its quadrant makes a WET patch SET when its superframe plus SKIM_SETTING_TIME in force (R87) is
reached, and leaves it WET before that (R65); a patch that a host write of the same cycle reaches is not looked at here
(R85). -/
def Obligations.WetPatchesSetAfterTheSettingTime : Prop :=
  (∀ (r : HostReq) (d : WriteData) (s : State), s.receives r.head true = true → (s.head r.head).mediaReady = true →
      s.decodes r.head r.ld r.addr = true → s.ldNotReady r.ld = false →
      s.heldBefore r.head (lineOf (s.ldBase r.ld + r.addr)) = false → s.level ≠ 3 →
      (s.quad (quadOf (patchOf (lineOf (s.ldBase r.ld + r.addr))))).railLost = false →
      s.undoneBefore r.head s.fabric.nextId (s.ldBase r.ld + r.addr) = false →
      s.waitsFill (lineOf (s.ldBase r.ld + r.addr)) = false → s.persistent (lineOf (s.ldBase r.ld + r.addr)) = true →
      ∃ t, exec (.hostWrite r d) s = .next t ∧
        (t.patch (patchOf (lineOf (s.ldBase r.ld + r.addr)))).st = .wet ∧
        (t.patch (patchOf (lineOf (s.ldBase r.ld + r.addr)))).sw = s.sf) ∧
  (∀ (q : QuadIx) (mates : Nat) (s : State) (p : Nat) (x : Patch), sparseFind s.patches p = some x → quadOf p = q → x.st = .wet →
      p ∉ s.matesWrite mates →
      sparseWf (fun k => (s.quad (quadOf k)).dflt) s.patches = true →
      ∃ t, exec (.patchSettingExpiry q mates) s = .next t ∧ (t.patch p).st = (if x.sw + s.settledTime ≤ s.sf then .set else .wet))

/-- REGISTER_WRITE of any accesses, CLR_OVERRUNS, BROADCAST_WRITE, EPOCH_COMMIT, OFF_REQUEST, SHIP_OFF_REQUEST, OFF_ACK,
UPD_BOOT_OK, ON_REQ, FIRST_CLR, NEXT_POP, GF_RELEASE and ALERT_PEND_CLEAR on a path that Table 20.1 does not serve in the
present state leave every part of the state as it was and answer nothing (R553, R565). -/
def Obligations.PathsThatAreNotServedChangeNothing : Prop :=
  (∀ (p : PathIx) (l : List RegAccess) (a : RegAccess) (v : Word) (s : State), s.served p = false → (∀ x ∈ l, x.path = p) →
    a.path = p →
      ∀ c ∈ [Instr.registerWrite l, .clrOverruns p, .broadcastWrite a, .epochCommit p v, .offRequest p, .shipOffRequest p,
        .offAck p, .updBootOk p, .onReq p, .firstClr p, .nextPop p, .gfRelease p, .alertPendClear p],
        exec c s = .next { s with out := [] })

/-- On the function of an LD that is served, outside RECOVERY, and is no management function, each device-wide command of
Table 11.7 replies Unsupported and leaves keys, updates, time stamps, the shut-down state, the gauge and every register
but the event counters as they were (R334). -/
def Obligations.DeviceWideCommandsAreUnsupportedOnTenants : Prop :=
  (∀ (fn : FnIx) (n : Nat) (b : Bool) (h : ImageHdr) (f : FwPart) (k : KeyBlob) (s : State), s.fnServed fn = true →
    s.inRecovery = false →
      s.isMgmtFn fn = false → fn.val < 16 →
      ∀ c ∈ [Instr.setTimestamp fn n, .setShutdownState fn n, .transferFwInitiate fn n h, .transferFwContinue fn f,
        .transferFwEnd fn f b, .transferFwAbort fn, .activateFwOffline fn n b, .activateFwOnline fn n, .loadKeyBlob fn k,
        .eraseKeySlot fn n b b, .getKeySlotStatus fn n, .requestLearnCycle fn, .getLearnStatus fn, .getVendorLog fn n n n],
        ∃ t, exec c s = .next t ∧ (.mailbox fn .unsupported [] ∈ t.out ∧ t.keys = s.keys ∧ t.upd = s.upd ∧ t.fabric = s.fabric ∧
        t.gauge = s.gauge ∧
          t.pends (srcHead (s.ldHead fn) 8) = true ∧
          ∀ x, x ≠ (Reg.EVT_COUNT_RAISED (srcHead (s.ldHead fn) 8)).off → x ≠ Reg.EVT_DROPPED_COUNT.off → t.rd x = s.rd x))

/-- SET_EVENT_INTERRUPT_POLICY, SET_ALERT_CONFIGURATION, CLEAR_EVENT_RECORDS and SCAN_MEDIA on a function change what is kept
for that function alone: every other function's settings, logs, background command and scan results stay, and so do keys,
patches, DRAM and the host's requests (R334, R335, R341, R342). -/
def Obligations.MailboxSettingsStayWithTheirFunction : Prop :=
  (∀ (fn : FnIx) (n m : Nat) (b : Bool) (l : List Nat) (s t : State),
      ∀ c ∈ [Instr.setEventInterruptPolicy fn l, .setAlertConfiguration fn l, .clearEventRecords fn n b l, .scanMedia fn n m],
        exec c s = .next t → (∀ k : Nat, k ≠ fn.val → t.ld k = s.ld k) ∧ t.keys = s.keys ∧ t.patches = s.patches ∧
        t.dram = s.dram ∧
          t.heads = s.heads)

/-- In whatever state, each command that the table ownRegs lists leaves every register as it was but the ones the table names
with it, the event counters of the source named with it, and EVT_DROPPED: TICK_SKEW, CRC_ERROR_WITH_REPLAY,
CA_PARITY_ALERT, RANK_IDLE_SELF_REFRESH, STANDBY_GENERATOR_LOCKED, OP_CHANGE_SWITCH, OP_CHANGE_DONE, CHG_SELF_GRANT,
CHG_GRANT, MASTER_LOST, LEARN_GRANT, LEARNED_WRITE_START, CONV_SAT, INPUT_RETURN, PERSISTENCE_POINT, ENTROPY_TEST_FAIL,
TW0_PAGE_WRITE, TW0_TIMEOUT, TW_SDA_TIMEOUT and UPDATE_LOCK_IDLE_TIMEOUT. -/
def Obligations.SmallCommandsKeepTheOtherRegisters : Prop :=
  (∀ (c : Instr) (l : List Nat) (src : Nat) (s t : State), ownRegs c = some (l, src) →
      exec c s = .next t → ∀ x, x ∉ l → x ≠ (Reg.EVT_COUNT_RAISED src).off → x ≠ Reg.EVT_DROPPED_COUNT.off → t.rd x = s.rd x)

/-- Two paths that are served write DEV_SCRATCH in one cycle, neither discarded by a window: of the two, the one farther from
the pointer of FRAME_NUM with SEED 0 among the five positions is granted last, and its value stands, in whichever order
REGISTER_WRITE names the two; every other register keeps its word (R29, R32). -/
def Obligations.TheWriteGrantedLastStands : Prop :=
  (∀ (p q : PathIx) (v w : Word) (s : State), s.served p = true → s.served q = true → s.writeShut p 0x40 = false →
      s.writeShut q 0x40 = false → (p.val + 5 - s.ptr 0 5) % 5 < (q.val + 5 - s.ptr 0 5) % 5 →
      (∃ t, exec (.registerWrite [⟨p, 0x40, 4, v.setWidth 64, 15#8, 0#64⟩, ⟨q, 0x40, 4, w.setWidth 64, 15#8, 0#64⟩]) s = .next t ∧
        (t.rd 0x40 = w ∧ ∀ x, x ≠ 0x40 → t.rd x = s.rd x)) ∧
      (∃ t, exec (.registerWrite [⟨q, 0x40, 4, w.setWidth 64, 15#8, 0#64⟩, ⟨p, 0x40, 4, v.setWidth 64, 15#8, 0#64⟩]) s = .next t ∧
        (t.rd 0x40 = w ∧ ∀ x, x ≠ 0x40 → t.rd x = s.rd x)))

/-- Each names where it completes and its own effect. FRAME_BOUNDARY, the clocks running and the main domain out of reset:
device time is the next multiple of 1,024 ns (R20). SUPERFRAME_BOUNDARY at a multiple of 1,048,576 ns not yet worked: the
boundary is marked as worked, device time stays. TICK_SKEW: the OK bit of the late tree is clear, a message waits on
source 0x4E2 (tree A) or 0x4E3 (tree B), OBSERVERS and HOLDS of the single-fault status are 0 (R25, R496). AON_TICK before
the main clocks run: the AON count advances by 30,517 ns, or 30,518 when the fraction carries, never behind device time;
device time and the count agree; no register changes (R21). MAIN_CLOCK_START: the start is asked for and nothing else
changes (R22). That the AON count advances with a carried fraction is the model's reading (log entry 2). -/
def Obligations.ClockCommandsMoveTime : Prop :=
  (∀ (s : State) (i : FrameIn), s.tick.clocksOn = true → s.mainOff = false →
      ∃ t, exec (.frameBoundary i) s = .next t ∧ t.tick.devTime = (s.tick.devTime / 1024 + 1) * 1024) ∧
  (∀ (s : State) (i : SuperIn), s.tick.clocksOn = true → s.mainOff = false → s.tick.devTime % 1048576 = 0 →
      s.tick.superAt < s.sf →
      ∃ t, exec (.superframeBoundary i) s = .next t ∧ t.tick.superAt = s.sf ∧ t.tick.devTime = s.tick.devTime) ∧
  (∀ (s : State) (b : Bool), s.tick.clocksOn = true → s.mainOff = false →
      ∃ t, exec (.tickSkew b) s = .next t ∧
        t.flag (if b then Reg.TICK_STATUS_TICK_B_OK else Reg.TICK_STATUS_TICK_A_OK) = false ∧
        t.pends (if b then 0x4E3 else 0x4E2) = true ∧
        t.flag Reg.EVT_SFG_STATUS_OBSERVERS = false ∧ t.flag Reg.EVT_SFG_STATUS_HOLDS = false) ∧
  (∀ s : State, s.tick.aonPowered = true → s.tick.clocksOn = false →
      ∃ t, exec .aonTick s = .next t ∧
        t.tick.devTime = max (s.tick.aonCount + (if 64 ≤ s.tick.aonFrac + 37 then 30518 else 30517)) s.tick.devTime ∧
        t.tick.aonCount = t.tick.devTime ∧ t.tick.clocksOn = s.tick.starting ∧ t.regs = s.regs) ∧
  (∀ s : State, s.tick.aonPowered = true → s.tick.clocksOn = false → s.seq.power ≠ .off →
      exec .mainClockStart s = .next { s with out := [], tick := { s.tick with starting := true } })

/-- For every path that is served and whose write no window discards, at an aligned offset of a register that is neither
banked nor in the broadcast aperture and has no WO field that acts: (a) a register without RWS and RWL fields takes the
word that RegDef.after gives for its access types (R4), every other register keeps its word, and nothing else of the state
changes but the outputs; (b) after the seal a register whose fields are all RWS keeps its live word, and its shadow copy
takes the written bits; (c) CLR_OVERRUNS clears OVERRUNS and changes no other register. (d) A BROADCAST_WRITE whose masks
select no instance is discarded and sets BCAST_STATUS.EMPTY of the path. (e) One that selects instances of a register
whose fields are all RWS or RO, after the seal and with no common value set, leaves every live word and gives each
instance's shadow copy the written bits, and no other. -/
def Obligations.RegisterWritesFollowAccessTypes : Prop :=
  (∀ (p : PathIx) (off : Offset) (v : Word) (s : State) (d : RegDef) (u : Nat),
      s.served p = true → s.writeShut p off.toNat = false → off.toNat % 4 = 0 → s.targets p off.toNat = none →
      (s.inRecovery && !recoveryOffset off.toNat) = false → regAt off.toNat = some (d, u) → bankedOff off.toNat = false →
      accMask d .rws = 0#32 → accMask d .rwl = 0#32 →
      off.toNat ∉ [0x010000, 0x010204, 0x020000, 0x020004, 0x030018, 0x060004, 0x07000C, 0x0A0004] →
      ∃ t, exec (.registerWrite [⟨p, off, 4, v.setWidth 64, 15#8, 0#64⟩]) s = .next t ∧
        t.rd off.toNat = d.after s.isSealed (decide (p.val = 4)) (s.rd off.toNat) v ∧
        (∀ x, x ≠ off.toNat → t.rd x = s.rd x) ∧ { t with regs := s.regs, out := s.out } = s) ∧
  (∀ (p : PathIx) (off : Offset) (v : Word) (s : State) (d : RegDef) (u : Nat),
      s.served p = true → s.writeShut p off.toNat = false → off.toNat % 4 = 0 → s.targets p off.toNat = none →
      (s.inRecovery && !recoveryOffset off.toNat) = false → regAt off.toNat = some (d, u) → bankedOff off.toNat = false →
      s.isSealed = true → sparseGet 0#32 s.plumb.common (commonKey off.toNat) &&& rwsMask off.toNat = 0#32 →
      (∀ f ∈ d.fields, f.acc = .rws ∨ f.acc = .ro) →
      off.toNat ∉ [0x010000, 0x010204, 0x020000, 0x020004, 0x030018, 0x060004, 0x07000C, 0x0A0004] →
      ∃ t, exec (.registerWrite [⟨p, off, 4, v.setWidth 64, 15#8, 0#64⟩]) s = .next t ∧
        (∀ x, t.rd x = s.rd x) ∧
        (accMask d .rws ≠ 0#32 →
        (sparseFind t.plumb.shadow off.toNat).map (· &&& accMask d .rws) = some (v &&& accMask d .rws))) ∧
  (∀ (p : PathIx) (s : State), s.served p = true → s.writeShut p 0x010000 = false →
      ∃ t, exec (.clrOverruns p) s = .next t ∧ t.get Reg.TICK_STATUS_OVERRUNS = 0 ∧ (∀ x, x ≠ 0x010000 → t.rd x = s.rd x)) ∧
  (∀ (p : PathIx) (off : Offset) (v : Word) (s : State),
      s.served p = true → s.writeShut p off.toNat = false → off.toNat % 4 = 0 → s.targets p off.toNat = some [] →
      s.noRegister p off.toNat = false →
      ∃ t, exec (.broadcastWrite ⟨p, off, 4, v.setWidth 64, 15#8, 0#64⟩) s = .next t ∧ t.bankGet p Reg.BCAST_STATUS_EMPTY = 1 ∧
      t.regs = s.regs ∧ t.plumb = s.plumb) ∧
  (∀ (p : PathIx) (off : Offset) (v : Word) (s : State) (l : List Nat) (d : RegDef),
      s.served p = true → s.writeShut p off.toNat = false → off.toNat % 4 = 0 → s.targets p off.toNat = some l → l ≠ [] →
      (∀ a ∈ l, (regAt a).map (·.1) = some d) → s.noRegister p off.toNat = false → (∀ a ∈ l, bankedOff a = false) →
      s.isSealed = true → (∀ a ∈ l, sparseGet 0#32 s.plumb.common (commonKey a) &&& rwsMask a = 0#32) →
      (∀ f ∈ d.fields, f.acc = .rws ∨ f.acc = .ro) → (∀ a ∈ l, 0x200000 ≤ a) → l.Nodup →
      ∃ t, exec (.broadcastWrite ⟨p, off, 4, v.setWidth 64, 15#8, 0#64⟩) s = .next t ∧
        (∀ x, t.rd x = s.rd x) ∧
        (accMask d .rws ≠ 0#32 → ∀ a ∈ l,
        (sparseFind t.plumb.shadow a).map (· &&& accMask d .rws) = some (v &&& accMask d .rws)) ∧
        (∀ x, x ∉ l → sparseFind t.plumb.shadow x = sparseFind s.plumb.shadow x))

/-- HOST_WRITE that the head receives, after its media ready, decoded to an LD that is ready, with no held write to its line,
below level 3, to a quadrant whose rail stands and a patch that waits for no fill, with no earlier write to its line that
is not completed: the completion is sent with the DevLoad of the LD, the write waits in the head as completed with its
data at the line of its DPA, and a patch of a persistent partition is WET (R51, R82, R319). HOST_READ under the same
reception: the read waits in the head for its DPA. STATE_PROBE_ANSWER that its quadrant's wet cache port grants: a probed
write whose patch is not exposed, nor made so by a write of the same cycle, is held with the present time (R90, R104,
R106). HELD_WRITE_RELEASE below level 3: no write of the head is held afterwards and ESCALATED is 0 (R104, R105, R328).
HOLD_ESCALATE when a held write has waited HOLD_ESC_MS within its limits of 10 to 1,000 ms: ESCALATED is 1, 192 write
credits are withheld, a message waits on the head's source 7 (R328). -/
def Obligations.HostRequestsAreReceivedHeldAndReleased : Prop :=
  (∀ (r : HostReq) (d : WriteData) (s : State), s.receives r.head true = true → (s.head r.head).mediaReady = true →
      s.decodes r.head r.ld r.addr = true → s.ldNotReady r.ld = false →
      s.heldBefore r.head (lineOf (s.ldBase r.ld + r.addr)) = false → s.level ≠ 3 →
      (s.quad (quadOf (patchOf (lineOf (s.ldBase r.ld + r.addr))))).railLost = false →
      s.waitsFill (lineOf (s.ldBase r.ld + r.addr)) = false →
      s.undoneBefore r.head s.fabric.nextId (s.ldBase r.ld + r.addr) = false →
      ∃ t, exec (.hostWrite r d) s = .next t ∧
        .writeDone r.head r.ld r.tag (s.devLoad r.head r.ld) ∈ t.out ∧
        (∃ x ∈ (t.head r.head).reqs, x.ld = r.ld ∧ x.tag = r.tag ∧ x.dpa = lineOf (s.ldBase r.ld + r.addr) ∧
          x.write = some d ∧ x.done = true) ∧
        (s.persistent (lineOf (s.ldBase r.ld + r.addr)) = true →
          (t.patch (patchOf (lineOf (s.ldBase r.ld + r.addr)))).st = .wet)) ∧
  (∀ (r : HostReq) (s : State), s.receives r.head false = true → (s.head r.head).mediaReady = true →
      s.decodes r.head r.ld r.addr = true → s.ldNotReady r.ld = false →
      (s.quad (quadOf (patchOf (lineOf (s.ldBase r.ld + r.addr))))).railLost = false →
      ∃ t, exec (.hostRead r) s = .next t ∧
        (∃ x ∈ (t.head r.head).reqs, x.id = s.fabric.nextId ∧ x.ld = r.ld ∧ x.tag = r.tag ∧
          x.dpa = lineOf (s.ldBase r.ld + r.addr) ∧ x.write = none) ∧ t.fabric.nextId = s.fabric.nextId + 1) ∧
  (∀ (head : HeadIx) (id mates : Nat) (s : State) (r : HReq),
      ((s.head head).reqs.find? fun x => decide (x.id = id) && decide (x.stage = .probing)) = some r →
      s.wetGrants (quadOf (patchOf r.dpa)) 4 mates = true →
      (s.patch (patchOf r.dpa)).st.exposed = false → patchOf r.dpa ∉ s.matesWrite mates →
      ∃ t, exec (.stateProbeAnswer head id mates) s = .next t ∧
        (∃ x ∈ (t.head head).reqs, x.id = id ∧ x.stage = .held ∧ x.heldAt = s.now) ∧ t.out = [] ∧
        (t.head head).reqs.length = (s.head head).reqs.length) ∧
  (∀ (head : HeadIx) (s : State), s.level < 3 →
      ∃ t, exec (.heldWriteRelease head) s = .next t ∧
        (∀ x ∈ (t.head head).reqs, x.write.isSome = true → x.stage ≠ .held) ∧ t.flag (Reg.FAB_LOAD_ESCALATED head) = false) ∧
  (∀ (head : HeadIx) (s : State) (r : HReq), s.flag (Reg.FAB_LOAD_ESCALATED head) = false → r ∈ s.heldWrites head →
      r.heldAt + ms (max 10 (min 1000 (s.get Reg.FAB_CTRL_HOLD_ESC_MS))) ≤ s.now →
      ∃ t, exec (.holdEscalate head) s = .next t ∧
        t.flag (Reg.FAB_LOAD_ESCALATED head) = true ∧ t.get (Reg.FAB_LOAD_RWD_WITHHELD head) = 192 ∧
        t.pends (srcHead head 7) = true ∧ ∀ h : HeadIx, (t.head h).reqs = (s.head h).reqs)

/-- LINK_TRAIN with the PHY on, the head's rails good and the link down, its clock and lane order accepted, and at least one
half of the lanes trained: LINK_UP is 1, SPEED is the speed's code, WIDTH is 3 for both halves, 1 for the low and 2 for
the high one, PERST is 0, the reversal and the inverted lanes are taken, and a message waits on the head's source 0 (R314,
R315, R578); with SRIS or another lane order the link stays down (R578). LINK_DOWN of a link that is up: LINK_UP, SPEED
and WIDTH are 0, the head holds no read, every write that stays is without a completion to send, and a message waits
(R316). CRC_ERROR_WITH_REPLAY: a message waits on the head's source 2 and no request changes (R51). GPF_PHASE1 on a link
that is up: the phase is answered and nothing else changes. GPF_PHASE2 with no completed write before it: it is answered
at once (R60, R62). -/
def Obligations.LinksTrainAndGoDown : Prop :=
  (∀ (head : HeadIx) (w : TrainIn) (s : State), (s.head head).phyOn = true → s.domainGood 3 0 = true →
      s.flag (Reg.FAB_STATUS_LINK_UP head) = false → (w.low || w.high) = true → linkAccepted w = true →
      ∃ t, exec (.linkTrain head w) s = .next t ∧
        t.flag (Reg.FAB_STATUS_LINK_UP head) = true ∧ t.get (Reg.FAB_STATUS_SPEED head) = w.speed.val + 1 ∧
        t.get (Reg.FAB_STATUS_WIDTH head) = (if w.low && w.high then 3 else if w.low then 1 else 2) ∧
        t.flag (Reg.FAB_STATUS_PERST head) = false ∧ t.pends (srcHead head 0) = true ∧
        (t.head head).reversed = decide (w.order = .reversed) ∧ (t.head head).inverted = w.inverted) ∧
  (∀ (head : HeadIx) (w : TrainIn) (s : State), (s.head head).phyOn = true → s.domainGood 3 0 = true →
      s.flag (Reg.FAB_STATUS_LINK_UP head) = false → linkAccepted w = false →
      ∃ t, exec (.linkTrain head w) s = .next t ∧ t.flag (Reg.FAB_STATUS_LINK_UP head) = false ∧ t.heads = s.heads) ∧
  (∀ (head : HeadIx) (perst : Bool) (s : State), s.flag (Reg.FAB_STATUS_LINK_UP head) = true →
      ∃ t, exec (.linkDown head perst) s = .next t ∧
        t.flag (Reg.FAB_STATUS_LINK_UP head) = false ∧ t.get (Reg.FAB_STATUS_SPEED head) = 0 ∧
        t.get (Reg.FAB_STATUS_WIDTH head) = 0 ∧ (∀ x ∈ (t.head head).reqs, x.write.isSome = true ∧ x.orphan = true) ∧
        t.pends (srcHead head 0) = true) ∧
  (∀ (head : HeadIx) (s : State),
      ∃ t, exec (.crcErrorWithReplay head) s = .next t ∧ t.pends (srcHead head 2) = true ∧ t.heads = s.heads) ∧
  (∀ (head : HeadIx) (s : State), s.flag (Reg.FAB_STATUS_LINK_UP head) = true → (s.head head).discarding = false →
      exec (.gpfPhase1 head) s = .next { s with out := [.gpf head 1] }) ∧
  (∀ (head : HeadIx) (s : State), s.flag (Reg.FAB_STATUS_LINK_UP head) = true → (s.head head).discarding = false →
      (∀ h : Fin 2, ∀ r ∈ (s.head h).reqs, r.done = false) →
      (∀ n : Fin 16, ∀ e ∈ (s.sc n).writeQ, e.done = false) →
      ∃ t, exec (.gpfPhase2 head) s = .next t ∧ .gpf head 2 ∈ t.out ∧ (t.head head).gpf = none)

/-- SC_QUEUE_ENTRY when the entry port grants the position at which the crossbar brings a head's request: that request leaves
its head and stands in the sub-channel's queue (R13, R224). DRAM_COMMAND_ISSUE in Run or Relock: when the column slot's
winner is a write with plain data, DRAM holds that data at the winner's line under its byte enables; in every case each
byte of DRAM outside the line of a write that wins the slot reads as before (R225 to R231). DRAM_READ_DATA of a host read
that decodes without error: the oldest read leaves, and its data is returned to its head with the LD's DevLoad (R102,
R260). PAGE_IDLE_CLOSE of an open bank past its idle time: the bank asks for its precharge (R228, R230). REFRESH_DUE of a
present rank outside self-refresh, its interval over: its postponement count is one higher (R236, R239). -/
def Obligations.SubChannelQueuesServeRequests : Prop :=
  (∀ (sc : ScIx) (s : State) (pos h : Nat) (r : HReq) (e : QEntry),
      grant (s.ptr sc 6) 6 ((s.portAsks sc).map fun x => (x.1, x.2.2.saveCls, s.urgency sc x.2.2)) = some pos →
      (s.portAsks sc).find? (fun x => decide (x.1 = pos)) = some (pos, .head h r, e) →
      ∃ t, exec (.scQueueEntry sc) s = .next t ∧
        (∃ x ∈ (t.sc sc).entries, x.id = e.id) ∧ ∀ x ∈ (t.head h).reqs, x.id ≠ r.id) ∧
  (∀ (sc : ScIx) (i : IssueIn) (s : State), s.get (Reg.SC_STATUS_STATE sc) < 2 →
      ∃ t, exec (.dramCommandIssue sc i) s = .next t ∧
        (∀ (e : QEntry) (d : WriteData), ((s.begin.atCycle i.cyc).judgeMode sc).columnWinner sc i = some e → e.isWrite = true →
          e.write = some d → d.poison = false → t.dram = dramStore s.dram (e.dpa / 64 * 64) d.line d.be) ∧
        (∀ a : Nat, (∀ e : QEntry, ((s.begin.atCycle i.cyc).judgeMode sc).columnWinner sc i = some e → e.isWrite = true →
          a < e.dpa / 64 * 64 ∨ e.dpa / 64 * 64 + 64 ≤ a) → dramByte t.dram a = dramByte s.dram a)) ∧
  (∀ (sc : ScIx) (b : ReadBack) (s : State) (f : InFlight) (rest : List InFlight) (h : Nat),
      (s.sc sc).inFlight = f :: rest → f.entry.head = some h →
      decodeLine (s.erasedDevice sc f.entry.loc.rank) f.poison b = .good →
      ∃ t, exec (.dramReadData [(sc, b)]) s = .next t ∧
        t.out = [.readDone h f.entry.ld f.entry.tag f.data false (s.devLoad h f.entry.ld)] ∧ (t.sc sc).inFlight = rest ∧
        t.regs = s.regs) ∧
  (∀ (sc : ScIx) (bank : Nat) (s : State) (b : Bank), s.bank sc bank = some b → b.hintOpen = false →
      s.rowHit sc bank b.row = false →
      s.get (Reg.SC_PAGE_IDLE_DFI_CLOCKS sc) * 1000 ≤ (s.now - b.lastCol) * dfiMhz (s.get (Reg.SC_STATUS_OP sc)) →
      ∃ t, exec (.pageIdleClose sc bank) s = .next t ∧ t.bank sc bank = some { b with idle := true } ∧ t.regs = s.regs) ∧
  (∀ (sc : ScIx) (rank bank : Nat) (s : State), rank < 8 → s.flag (Reg.SC_RANK_PRESENT sc rank) = true →
      s.inSelfRefresh sc rank = false → s.get (Reg.SC_STATUS_STATE sc) < 5 →
      sparseGet 0 (s.sc sc).refAt (64 * rank + (if s.flag (Reg.SC_REF_MODE sc) then bank % 4 else 63)) + s.refInterval sc rank ≤ s.now →
      ∃ t, exec (.refreshDue sc rank bank) s = .next t ∧
        sparseGet 0 (t.sc sc).refDebt (64 * rank + (if s.flag (Reg.SC_REF_MODE sc) then bank % 4 else 63)) =
          sparseGet 0 (s.sc sc).refDebt (64 * rank + (if s.flag (Reg.SC_REF_MODE sc) then bank % 4 else 63)) + 1 ∧
        t.regs = s.regs)

/-- MR4_POLL in Run or Relock, the first of its superframe: for every present rank HOT tells whether a device is above 85 °C
and OVERTEMP whether one is above its rating (R237, R238). RANK_IDLE_SELF_REFRESH of an idle rank: SR_RANKS holds the
rank, its rows are closed, the command is issued on the rank's chip select and chip ID (R214, R246). DRAM_WRITE_CRC_ALERT
on a present rank: the retry count rises by the replays, at most 6, and 6 failed replays leave a message on the rank's
source (R263). PATROL_SCRUB_READ that is due inside a pass: the scrub position moves on by one line and PASS_PCT shows the
share passed (R264). CA_PARITY_ALERT: a message waits on the sub-channel's source 19 (R575). -/
def Obligations.SubChannelMaintenance : Prop :=
  (∀ (sc : ScIx) (temps : List Nat) (s : State), s.get (Reg.SC_STATUS_STATE sc) < 2 → (s.sc sc).mr4Sf ≠ some s.sf →
      ∃ t, exec (.mr4Poll sc temps) s = .next t ∧ ∀ r : Fin 8, s.flag (Reg.SC_RANK_PRESENT sc r) = true →
        (t.get (Reg.SC_REF_STATUS_HOT sc)).testBit r = decide (1 ≤ temps.getD r 0) ∧
        (t.get (Reg.SC_REF_STATUS_OVERTEMP sc)).testBit r = decide (2 ≤ temps.getD r 0)) ∧
  (∀ (sc : ScIx) (rank : Nat) (s : State), s.flag (Reg.SC_IDLE_SR_EN sc) = true → rank < 8 →
      s.flag (Reg.SC_RANK_PRESENT sc rank) = true → s.inSelfRefresh sc rank = false → s.get (Reg.SC_STATUS_STATE sc) = 0 →
      (∀ e ∈ (s.sc sc).entries, e.loc.rank ≠ rank) →
      sparseGet 0 (s.sc sc).lastUse rank + max 1 (s.get (Reg.SC_IDLE_SR_US sc)) * 1000 ≤ s.now →
      ∃ t, exec (.rankIdleSelfRefresh sc rank) s = .next t ∧
        t.inSelfRefresh sc rank = true ∧ (∀ e ∈ (t.sc sc).banks, e.1 / 32 ≠ rank) ∧
        t.out = [.dram sc 7 (rank / max 1 s.cfg.height) (rank % max 1 s.cfg.height) 0 0]) ∧
  (∀ (sc : ScIx) (rank fails : Nat) (res : List LaneTrack) (s : State), rank < 8 → s.flag (Reg.SC_RANK_PRESENT sc rank) = true →
      ∃ t, exec (.dramWriteCrcAlert sc rank fails res) s = .next t ∧
        t.get (Reg.SC_WCRC_RETRY_COUNT sc) = min (s.get (Reg.SC_WCRC_RETRY_COUNT sc) + min 6 (fails + 1)) 4294967295 ∧
        (6 ≤ fails → t.pends (srcSc sc (8 + rank)) = true)) ∧
  (∀ (sc : ScIx) (s : State) (r off : Nat), s.quadRuns (sc.val / 4) = true → s.get (Reg.SC_STATUS_STATE sc) < 2 →
      s.scrubAt sc (s.sc sc).scrubPos = some (r, off) → (s.sc sc).scrubPos + 1 < s.scLines sc →
      s.scrubDue sc = true →
      ∃ t, exec (.patrolScrubRead sc) s = .next t ∧
        (t.sc sc).scrubPos = (s.sc sc).scrubPos + 1 ∧
        t.get (Reg.SC_SCRUB_PASS_PCT sc) = ((s.sc sc).scrubPos + 1) * 100 / s.scLines sc) ∧
  (∀ (sc : ScIx) (s : State),
      ∃ t, exec (.caParityAlert sc) s = .next t ∧ t.pends (srcSc sc 19) = true ∧ t.scs = s.scs)

/-- BROADCAST_READ on a path that serves it, at an aligned offset of the broadcast aperture: with no instance selected the
word is 0 and BCAST_STATUS.EMPTY of the path is 1; else the word is that of the first selected instance, MISMATCH of the
path is 1 exactly if it was 1 or another selected instance differs, and no register outside the path changes (R36, R37).
EPOCH_COMMIT with a number or target that R38 refuses: RESULT is that reason and the pending commit stays. An accepted
one: PENDING is 1, SLIPS 0, RESULT 0 and the commit waits with its number and no snapshot. EPOCH_VOTE for a commit that
waits for its vote, at most one frame before its target: if every class is ready the snapshot is taken and the target
stays; else the target moves on by one frame and SLIPS counts, and the commit is abandoned at 64 slips (R40, R42).
EPOCH_APPLY with a snapshot, at or after the target, outside the frames of a save that end it: APPLIED and all twelve
class numbers are the commit's epoch, no commit waits, RESULT is 1 (R41). UNIT_POWER_RETURN of a sealed device: the unit
is not held powered down (R44, R48). -/
def Obligations.EpochsCommitVoteApplyAndReadBack : Prop :=
  (∀ (p : PathIx) (off : Offset) (s : State), s.served p = true → off.toNat % 4 = 0 → (decide (p = 2) && s.aonServes) = false →
      (s.inRecovery && !recoveryOffset off.toNat) = false → s.targets p off.toNat = some [] →
      (regAt (firstInstance off.toNat)).isSome = true →
      ∃ t, exec (.broadcastRead p off) s = .next t ∧ t.out = [.word 0#32] ∧ t.bankGet p Reg.BCAST_STATUS_EMPTY = 1 ∧
      t.regs = s.regs) ∧
  (∀ (p : PathIx) (off : Offset) (s : State) (d : RegDef) (u a : Nat) (rest : List Nat), s.served p = true → off.toNat % 4 = 0 →
      (decide (p = 2) && s.aonServes) = false → (s.inRecovery && !recoveryOffset off.toNat) = false →
      s.targets p off.toNat = some (a :: rest) → regAt (firstInstance off.toNat) = some (d, u) →
      ∃ t, exec (.broadcastRead p off) s = .next t ∧ t.out = [.word (s.regValue p d a)] ∧ t.regs = s.regs ∧
        (t.bankGet p Reg.BCAST_STATUS_MISMATCH = 1 ↔
          s.bankGet p Reg.BCAST_STATUS_MISMATCH = 1 ∨ (∃ b ∈ rest, s.regValue p d b ≠ s.regValue p d a))) ∧
  (∀ (p : PathIx) (v : Word) (s : State) (r : Nat), s.served p = true → s.writeShut p 0x010204 = false →
      s.commitRefusal (v.toNat % 65536) = some r →
      ∃ t, exec (.epochCommit p v) s = .next t ∧ t.get Reg.EPOCH_STATUS_RESULT = r ∧ t.plumb = s.plumb) ∧
  (∀ (p : PathIx) (v : Word) (s : State), s.served p = true → s.writeShut p 0x010204 = false →
      s.commitRefusal (v.toNat % 65536) = none →
      ∃ t, exec (.epochCommit p v) s = .next t ∧ t.flag Reg.EPOCH_STATUS_PENDING = true ∧ t.get Reg.EPOCH_STATUS_SLIPS = 0 ∧
        t.get Reg.EPOCH_STATUS_RESULT = 0 ∧
        ∃ c, t.plumb = { s.plumb with commit := some c } ∧ c.epoch = v.toNat % 65536 ∧ c.snapshot = none ∧ c.abandon = false) ∧
  (∀ (named : List Nat) (s : State) (c : Commit), s.plumb.commit = some c → c.snapshot = none → c.abandon = false →
      c.target ≤ s.frame + 1 → (∀ k ∈ List.range 12, s.notReadyOf k named = []) →
      ∃ t, exec (.epochVote named) s = .next t ∧ ∃ m, t.plumb = { s.plumb with commit := some { c with snapshot := some m } }) ∧
  (∀ (named : List Nat) (s : State) (c : Commit), s.plumb.commit = some c → c.snapshot = none → c.abandon = false →
      c.target ≤ s.frame + 1 → (∃ k ∈ List.range 12, s.notReadyOf k named ≠ []) → s.get Reg.EPOCH_STATUS_SLIPS < 127 →
      ∃ t, exec (.epochVote named) s = .next t ∧ t.get Reg.EPOCH_STATUS_SLIPS = s.get Reg.EPOCH_STATUS_SLIPS + 1 ∧
        t.plumb = { s.plumb with commit := some { c with
          target := c.target + 1, abandon := decide (64 ≤ s.get Reg.EPOCH_STATUS_SLIPS + 1) } }) ∧
  (∀ (s : State) (c : Commit) (m : Sparse Word), s.plumb.commit = some c → c.snapshot = some m → c.target ≤ s.frame →
      s.save.committed = false → c.epoch < 65536 →
      ∃ t, exec .epochApply s = .next t ∧ t.get Reg.EPOCH_STATUS_APPLIED = c.epoch ∧
        (∀ k < 12, t.get (Reg.EPOCH_CLASS_APPLIED k) = c.epoch) ∧ t.plumb.commit = none ∧
        t.get Reg.EPOCH_STATUS_RESULT = 1 ∧ t.flag Reg.EPOCH_STATUS_PENDING = false) ∧
  (∀ (u : Nat) (s : State), s.isSealed = true → u % 256 < classCount (u / 256) →
      ∃ t, exec (.unitPowerReturn u) s = .next t ∧ t.plumb.heldDown = s.plumb.heldDown.filter (fun x => decide (x ≠ u)) ∧
        t.plumb.commit = s.plumb.commit ∧ t.plumb.shadow = s.plumb.shadow)

/-- STATE after a start is 2 if the standby generator is locked at the point wanted, else 1 (relock). IDLE_OP_ENTER under the
conditions of R242, no tracking step running: STATE is so, TARGET is 2 plus SC_IDLE.OP, no tracking pass runs.
IDLE_OP_EXIT of a sub-channel in STATE 0 at operating point 2 or 3 with a request queued and no save: STATE is so and
TARGET is the run operating point. OP_CHANGE_START of a sub-channel in STATE 0 that wants another operating point: STATE
is so and TARGET is that point. STANDBY_GENERATOR_LOCKED in STATE 1: the standby generator is locked, STATE is 2, no bank
is open. OP_CHANGE_SWITCH in STATE 2: OP is TARGET, STATE is 4, the standby generator has the old point. OP_CHANGE_DONE in
STATE 4: STATE is 0, no rank is in self-refresh, no refresh is owed, a tracking pass is due at once (R215, R241 to R244). -/
def Obligations.SubChannelsChangeOperatingPoint : Prop :=
  (∀ (n : ScIx) (s : State), s.flag (Reg.SC_IDLE_EN n) = true → s.get (Reg.SC_STATUS_STATE n) = 0 →
      s.get (Reg.SC_STATUS_OP n) = s.runOp n → max 1 (s.get (Reg.SC_IDLE_SF n)) ≤ (s.sc n).idleSf → (s.sc n).entries = [] →
      s.flag Reg.PERS_STATUS_SAVE_ACTIVE = false → s.seq.power = .run → s.trackRuns n = false →
      ∃ t, exec (.idleOpEnter n) s = .next t ∧
        t.get (Reg.SC_STATUS_STATE n) = (if (s.sc n).standbyOp = 2 + s.get (Reg.SC_IDLE_OP n) ∧
        (s.sc n).locked = true then 2 else 1) ∧
        t.get (Reg.SC_STATUS_TARGET n) = 2 + s.get (Reg.SC_IDLE_OP n) ∧ (t.sc n).pass = none ∧ (t.sc n).ready = (s.sc n).ready) ∧
  (∀ (n : ScIx) (s : State), (s.sc n).entries ≠ [] → s.flag Reg.PERS_STATUS_SAVE_ACTIVE = false →
      s.get (Reg.SC_STATUS_STATE n) = 0 → 2 ≤ s.get (Reg.SC_STATUS_OP n) → s.trackRuns n = false →
      ∃ t, exec (.idleOpExit n) s = .next t ∧
        t.get (Reg.SC_STATUS_STATE n) = (if (s.sc n).standbyOp = s.runOp n ∧ (s.sc n).locked = true then 2 else 1) ∧
        t.get (Reg.SC_STATUS_TARGET n) = s.runOp n ∧
        (t.sc n).entries = (s.sc n).entries) ∧
  (∀ (n : ScIx) (s : State) (op : Nat), s.wantedOp n = some op → op < 4 → s.get (Reg.SC_STATUS_STATE n) = 0 →
      s.get (Reg.SC_STATUS_OP n) ≠ op → (if s.flag Reg.PERS_STATUS_SAVE_ACTIVE then (s.sc n).locked else !s.trackRuns n) = true →
      ∃ t, exec (.opChangeStart n) s = .next t ∧
        t.get (Reg.SC_STATUS_STATE n) = (if (s.sc n).standbyOp = op ∧ (s.sc n).locked = true then 2 else 1) ∧
        t.get (Reg.SC_STATUS_TARGET n) = op ∧
        (t.sc n).want = none ∧ (t.sc n).pass = none) ∧
  (∀ (n : ScIx) (s : State), s.get (Reg.SC_STATUS_STATE n) = 1 →
      ∃ t, exec (.standbyGeneratorLocked n) s = .next t ∧ t.get (Reg.SC_STATUS_STATE n) = 2 ∧ (t.sc n).locked = true ∧
        (t.sc n).banks = []) ∧
  (∀ (n : ScIx) (s : State), s.get (Reg.SC_STATUS_STATE n) = 2 →
      ∃ t, exec (.opChangeSwitch n) s = .next t ∧ t.get (Reg.SC_STATUS_STATE n) = 4 ∧
        t.get (Reg.SC_STATUS_OP n) = s.get (Reg.SC_STATUS_TARGET n) ∧ (t.sc n).standbyOp = s.get (Reg.SC_STATUS_OP n)) ∧
  (∀ (n : ScIx) (s : State), s.get (Reg.SC_STATUS_STATE n) = 4 →
      ∃ t, exec (.opChangeDone n) s = .next t ∧ t.get (Reg.SC_STATUS_STATE n) = 0 ∧ t.get (Reg.SC_STATUS_SR_RANKS n) = 0 ∧
        (t.sc n).refDebt = [] ∧ (t.sc n).passDue = s.sf ∧ (t.sc n).idleSf = 0)

/-- DRAM_TRAINING after the seal with the rails up, of a sub-channel that is not ready and whose quadrant's rails are good, in
a start that is not of state 3: the sub-channel is ready in STATE 0 at its run operating point, the standby generator is
locked at point 2, a tracking pass is due (R247). TRACKING_PASS_START when one is due in STATE 0 and no save runs: the
pass holds every present rank to be measured, and the next one is due a tracking interval later. TRACKING_STEP of the rank
that a running step measures: the rank is off the pass. TRACKING_PASS_APPLY once every rank is measured: no pass runs and
the sub-channel is ready (R252 to R254). MIGRATION_CHUNK of a running migration that is paced, its reads all correct,
before the rank's last chunk: one chunk more is copied and shown in WM_CHUNK (R272, R273, R276). -/
def Obligations.TrainingTrackingAndMigrationAdvance : Prop :=
  (∀ (n : ScIx) (ca : List CaTrain) (res : List LaneTrain) (s : State), s.flag Reg.SEQ_STATUS_RAILS_UP = true →
    s.flag Reg.CFG_STATUS_SEALED = true →
      (s.sc n).ready = false → s.domainGood 1 (n.val / 4) = true → s.get Reg.PERS_STATUS_START_STATE ≠ 3 →
      ∃ t, exec (.dramTraining n ca res) s = .next t ∧ (t.sc n).ready = true ∧ t.get (Reg.SC_STATUS_STATE n) = 0 ∧
        t.get (Reg.SC_STATUS_OP n) = t.runOp n ∧ (t.sc n).ca = ca ∧ (t.sc n).standbyOp = 2 ∧ (t.sc n).locked = true ∧
        (t.sc n).banks = []) ∧
  (∀ (n : ScIx) (s : State), (s.sc n).ready = true → (s.sc n).pass = none → (s.sc n).passDue ≤ s.sf →
      s.get (Reg.SC_STATUS_STATE n) = 0 → s.flag Reg.PERS_STATUS_SAVE_ACTIVE = false →
      ∃ t, exec (.trackingPassStart n) s = .next t ∧ (t.sc n).pass =
          some { op := s.get (Reg.SC_STATUS_OP n), todo := s.presentRanks n, asked := s.sf } ∧
        (t.sc n).passDue = s.sf + s.trackSf n ∧ t.regs = s.regs) ∧
  (∀ (n : ScIx) (res : List LaneTrack) (s : State) (p : Pass) (r : Nat), (s.sc n).pass = some p →
      p.running = some r →
      ∃ t, exec (.trackingStep n res) s = .next t ∧ ∃ p', (t.sc n).pass = some p' ∧
      p'.todo = p.todo.filter (fun x => decide (x ≠ r)) ∧
        p'.op = p.op ∧ p'.running = none ∧ p'.asked = s.sf) ∧
  (∀ (n : ScIx) (s : State) (p : Pass), (s.sc n).pass = some p → p.todo = [] →
      ∃ t, exec (.trackingPassApply n) s = .next t ∧ (t.sc n).pass = none ∧ (t.sc n).ready = true ∧ t.regs = s.regs) ∧
  (∀ (q : QuadIx) (s : State) (m : Migration), (s.quad q).migration = some m → s.quadRuns q = true →
      chunkCost ≤ (s.quad q).migPace → m.chunk + 1 < s.rankChunks (4 * q + m.j) m.rank → m.chunk + 1 < 2 ^ 16 →
      ∃ t, exec (.migrationChunk q []) s = .next t ∧ (t.quad q).migration = some { m with chunk := m.chunk + 1 } ∧
        (t.quad q).migPace = (s.quad q).migPace - chunkCost ∧ t.get (Reg.QD_MIG_WM_CHUNK q) = m.chunk + 1 ∧ t.dram = s.dram)

/-- PATCH_SETTING_EXPIRY of a quadrant: every patch of it that is WET and whose setting time is over, and that no host write
of the same cycle makes WET anew, is SET (R85), and no patch of another quadrant changes (R63, R87). SKIM_START in a
quadrant that runs, when the list's next SET patch is not revoked, may be paced, its key is not exhausted and a die is
free for it, its quadrant's wet cache port (R90) grants it and no write of the same cycle reaches the patch: a version of
that patch for that die is handed over and the patch is SKIMMING (R64, R91). VERSION_RECORDED of a covered version that is
neither abandoned nor superseded and written under the key its slot still holds: the patch is DRY and its ledger entry
names the version's die, unit and generation (R63, R66, R187). WEAR_ALLOWANCE_RECOMPUTE in a new period of 4,194,304
superframes: the allowance register of the quadrant holds the bytes per day left, capped by its width, by R95; no other
quadrant's allowance changes. -/
def Obligations.SkimMovesPatchesToFlash : Prop :=
  (∀ (q : QuadIx) (mates : Nat) (s : State) (p : Nat) (x : Patch), sparseFind s.patches p = some x → quadOf p = q → x.st = .wet →
      x.sw + s.settledTime ≤ s.sf → p ∉ s.matesWrite mates → sparseWf (fun k => (s.quad (quadOf k)).dflt) s.patches = true →
      ∃ t, exec (.patchSettingExpiry q mates) s = .next t ∧ (t.patch p).st = .set ∧
        (∀ p', quadOf p' ≠ q → t.patch p' = s.patch p') ∧ t.regs = s.regs) ∧
  (∀ (q : QuadIx) (mates : Nat) (s s' : State) (p k n : Nat), s.quadRuns q = true →
      s.flag Reg.SKIM_CTRL_ENABLE = true → s.wetGrants q 5 mates = true → p ∉ s.matesWrite mates →
      s.begin.nextSet q ((s.quad q).setting.length + 2 * (s.quad q).panelMap.length + 4) = (some p, s') →
      s'.revoked p = false → s'.maySkim q = true → s'.keyExhausted p = false → (s'.quad q).noStart ≠ some s.frame →
      s'.skimDie q = some (k, n) →
      (s'.ldOfDpa (p * 65536)).any (fun i => (s'.dataKey i s'.image.gen).isSome) = true →
      ∃ t, exec (.skimStart q [] mates) s = .next t ∧ (t.patch p).st = .skimming ∧
        (∃ v ∈ (t.quad q).versions, v.patch = p ∧ v.die = n ∧ v.stage = .handed)) ∧
  (∀ (d : DieIx) (unit : Nat) (s : State) (v : Version),
      ((s.quad (d.val / 32)).versions.find? fun v => decide (v.die = d.val) && decide (v.unit = some unit) && decide (v.stage = .covered)) = some v →
      v.abandoned = false → v.superseded = false → (s.slot (tenantSlot v.ld)).gen = v.keyGen →
      ∃ t, exec (.versionRecorded d unit) s = .next t ∧ (t.patch v.patch).st = .dry ∧
        t.ledger v.patch = .version v.die unit v.gen (ctrLo v.ctr) ∧ (∀ p, p ≠ v.patch → t.ledger p = s.ledger p)) ∧
  (∀ (q : QuadIx) (s : State), (s.quad q).allowSf / 4194304 < s.sf / 4194304 →
      ∃ t, exec (.wearAllowanceRecompute q) s = .next t ∧
        t.get (Reg.WEAR_ALLOW_VALUE q) = min (2 ^ (Reg.WEAR_ALLOW_VALUE q).width - 1)
          ((s.endurance q - s.programmed q * 65536) * 1024 * 256 /
            max ((s.image.firstRunTime.getD s.now) + sec (max 365 (min 7305 (s.get Reg.WEAR_LIFE_TARGET_DAYS)) * 86400) - s.now)
              (sec (30 * 86400))) ∧
        (∀ q' : QuadIx, q' ≠ q → t.get (Reg.WEAR_ALLOW_VALUE q') = s.get (Reg.WEAR_ALLOW_VALUE q')))

/-- SEAL_SEARCH after the seal of the configuration, the rails up and the media trained, before the start is decided: the
start is decided, START_STATE is 1 when a readable valid record is a seal and 0 otherwise, and PHASE is 2 or 3 with it
(R76, R144). LEDGER_LOAD in a start of state 0 or 1: the ledger counts as loaded, PHASE is 3, no patch of a persistent
partition but unfilled ones is left and every quadrant's journal and setting list are empty (R145, R146). RUN_OPEN_WRITE,
as far as the numbers of generations last, with a copy of the record written: the run number is one higher and the run is
open (R148, R213). With no copy in four tries: the start is blocked and a message waits on source 0x4A9. MEDIA_READY once
everything that R150 names holds and neither a SYSTEM_RESET judgment nor an off request waits: MEDIA_READY is 1, the
device runs, both heads take requests. QUADRANT_REFILL of a quadrant whose rail was lost, its four sub-channels ready: the
quadrant stands again, a message waits, and while a patch of it is unfilled its bit of REFILL_Q is 1 and RESTORE_PENDING
is 1 (R63, R173). -/
def Obligations.TheStartLoadsTheImageAndComesUp : Prop :=
  (∀ (bad : List Nat) (s : State), s.flag Reg.PERS_START_DECIDED = false → s.flag Reg.CFG_STATUS_SEALED = true →
      s.flag Reg.SEQ_STATUS_RAILS_UP = true → s.mediaUp = true → s.seq.power ≠ .powerDown →
      ∃ t, exec (.sealSearch bad) s = .next t ∧ t.flag Reg.PERS_START_DECIDED = true ∧
        t.get Reg.PERS_STATUS_START_STATE = (if (s.validCopies bad).any (fun c => c.2.record.kind.isSeal) then 1 else 0) ∧
        t.get Reg.RESTORE_STATUS_PHASE = (if (s.validCopies bad).any (fun c => c.2.record.kind.isSeal) then 2 else 3) ∧
        t.image.runOpen = false) ∧
  (∀ (lost : List (Nat × Nat)) (s : State), s.flag Reg.PERS_START_DECIDED = true → s.get Reg.PERS_STATUS_START_STATE ≤ 1 →
      s.image.loaded = false →
      ∃ t, exec (.ledgerLoad lost) s = .next t ∧ t.image.loaded = true ∧ t.get Reg.RESTORE_STATUS_PHASE = 3 ∧
        (∀ q : QuadIx, (t.quad q).setting = [] ∧ (t.quad q).journal = [] ∧ (t.quad q).fills = [])) ∧
  (∀ (ok : List Bool) (s : State), s.image.loaded = true → s.image.runOpen = false → s.seq.blocked = false →
      s.flag Reg.PERS_START_DECIDED = true → s.get Reg.PERS_STATUS_START_STATE ≠ 3 → s.flag Reg.PERS_STATUS_SAVE_ACTIVE = false →
      s.seq.power ≠ .powerDown → s.image.genNext ≤ 0xFFFFFF →
      (s.begin.tryRunOpen { s.begin.newRecord .runOpen 0 with run := s.image.run + 1, gen := s.image.genNext, firstRunTime := s.image.firstRunTime.getD s.now } ok 4).1 = true →
      ∃ t, exec (.runOpenWrite ok) s = .next t ∧ t.image.run = s.image.run + 1 ∧ t.image.runOpen = true ∧
        t.image.firstRunTime = some (s.image.firstRunTime.getD s.now)) ∧
  (∀ (ok : List Bool) (s : State), s.image.loaded = true → s.image.runOpen = false → s.seq.blocked = false →
      s.flag Reg.PERS_START_DECIDED = true → s.get Reg.PERS_STATUS_START_STATE ≠ 3 → s.flag Reg.PERS_STATUS_SAVE_ACTIVE = false →
      s.seq.power ≠ .powerDown → s.image.genNext ≤ 0xFFFFFF →
      (s.begin.tryRunOpen { s.begin.newRecord .runOpen 0 with run := s.image.run + 1, gen := s.image.genNext, firstRunTime := s.image.firstRunTime.getD s.now } ok 4).1 = false →
      ∃ t, exec (.runOpenWrite ok) s = .next t ∧ t.seq.blocked = true ∧ t.pends 0x4A9 = true ∧ t.image.runOpen = false) ∧
  (∀ s : State, s.mediaMayBeReady = true → s.seq.sysRails = [] → s.seq.offLatch = false →
      ∃ t, exec .mediaReady s = .next t ∧ t.flag Reg.PERS_STATUS_MEDIA_READY = true ∧ t.seq.power = .run ∧
      t.seq.saveOpen = false ∧
        (∀ h : HeadIx, (t.head h).mediaReady = true)) ∧
  (∀ (q : QuadIx) (bad : List (Nat × Nat)) (s : State), (s.quad q).railLost = true → s.flag Reg.PERS_STATUS_MEDIA_READY = true →
      s.flag Reg.PERS_STATUS_SAVE_ACTIVE = false → (∀ j : Fin 4, (s.sc (4 * q.val + j.val)).ready = true) →
      ∃ t, exec (.quadrantRefill q bad) s = .next t ∧ (t.quad q).railLost = false ∧ t.pends (srcPers q 2) = true ∧
        (t.unfilledOf q ≠ 0 → t.get Reg.RESTORE_STATUS_REFILL_Q = s.get Reg.RESTORE_STATUS_REFILL_Q ||| 2 ^ q.val ∧
          t.flag Reg.PERS_STATUS_RESTORE_PENDING = true))

/-- BACKGROUND_FILL_START in a running quadrant with background fills on and a restore pending, when the next patch to fill
has no version: a fill of that patch at the background class begins (R153, R155). FAULT_IN_PLACE_TAKEN of a die with fewer
than four places taken and a fault-in waiting: its first waiting fill takes a place at the present time (R159).
FILL_COMPLETE of a patch without a version, no write waiting in the fabric: the patch reads as zeros and is no longer
unfilled, the fill is gone, no byte outside the patch changes (R151, R156, R188). TAG_COMPARE of a fill whose version has
been read and decrypted: the fill's tag is judged, and a message waits when it differs (R188, R363). STRIPE_REBUILD of a
unit that waits for its rebuild, the stripe parity unit free and every other page of its set readable: the accumulator
takes that unit and waits for the pages of its other members and its parity, and no fill changes (R8, R9); of a rebuild
whose pages no die reads any more: the accumulator is free (R210). HEAL_WAIT_EXPIRY: reads that waited their time are
answered with poison and no other waits less (R165). HEAL_COMPLETE without a good version: the heal is gone; bytes of
other patches do not change (R166, R168). -/
def Obligations.FillsAndHealsBringPatchesBack : Prop :=
  (∀ (q : QuadIx) (s : State) (i : Nat) (sweep : Bool), s.quadRuns q = true → s.flag Reg.RESTORE_CTRL_BG_EN = true →
      s.flag Reg.PERS_STATUS_RESTORE_PENDING = true → s.nextFill q = some (i, sweep) → s.versionAt (patchAt q i) = none →
      ∃ t, exec (.backgroundFillStart q) s = .next t ∧ ({ patch := patchAt q i, cls := .background } : Fill) ∈ (t.quad q).fills ∧
        (t.quad q).fillPtr = (if sweep then i / 32 * 32 else (s.quad q).fillPtr) ∧ t.dram = s.dram) ∧
  (∀ (d : DieIx) (s : State) (f : Fill) (l : List Fill), s.placeWaiters d = f :: l → s.placesOn d < 4 →
      ∃ t, exec (.faultInPlaceTaken d) s = .next t ∧
        (∀ x ∈ (t.quad (d.val / 32)).fills, x.patch = f.patch → x.placed = true ∧ x.placedAt = s.now) ∧ t.dram = s.dram) ∧
  (∀ (q : QuadIx) (p : Nat) (s : State) (f : Fill), s.fillOf q p = some f → f.cls ≠ .merge → quadOf p = q →
      (s.ledger p = .none ∨ s.ledger p = .revoked) → s.fabric.poisonWaits = [] →
      ∃ t, exec (.fillComplete q p) s = .next t ∧ (t.patch p).unfilled = false ∧ t.fillOf q p = none ∧
        (∀ a, p * 65536 ≤ a → a < (p + 1) * 65536 → dramByte t.dram a = 0) ∧
        (∀ a, a < p * 65536 ∨ (p + 1) * 65536 ≤ a → dramByte t.dram a = dramByte s.dram a)) ∧
  (∀ (q : QuadIx) (p : Nat) (s : State) (f : Fill), s.fillOf q p = some f → f.read = some true → f.tag = none →
      s.decrypted q p = true →
      ∃ t, exec (.tagCompare q p) s = .next t ∧
        (∃ x ∈ (t.quad q).fills, x.patch = p ∧ x.tag = some (s.goodVersion p).isSome) ∧
        ((s.goodVersion p).isNone = true → t.pends (srcPair (s.tagPair q) 1) = true) ∧ t.dram = s.dram) ∧
  (∀ (d : DieIx) (u pc : Nat) (members : List Nat) (s : State), s.image.rebuild = none → s.wantsRebuild d u = true →
      s.setMembers (posOf d) u = some (pc, members) → s.canRebuild d u [] = true →
      ∃ t, exec (.stripeRebuild d u) s = .next t ∧ t.image.rebuild =
          some { die := d, unit := u, wait := (members.filter fun c => decide (c ≠ chanOf d)) ++ [pc] } ∧
        t.dram = s.dram ∧ (t.quad (d.val / 32)).fills = (s.quad (d.val / 32)).fills) ∧
  (∀ (d : DieIx) (u : Nat) (r : Rebuild) (s : State), s.image.rebuild = some r → s.rebuildStuck r = true →
      ∃ t, exec (.stripeRebuild d u) s = .next t ∧ t.image.rebuild = none ∧ t.dram = s.dram) ∧
  (∀ (q : QuadIx) (p : Nat) (s : State) (h : Heal), s.healOf q p = some h →
      ∃ t, exec (.healWaitExpiry q p) s = .next t ∧
        (∃ h' ∈ (t.quad q).heals, h'.patch = p ∧
        h'.waiting = h.waiting.filter fun w => !decide (w.arrival + s.healWait ≤ s.now)) ∧
        (∀ w ∈ h.waiting, w.arrival + s.healWait ≤ s.now → ∃ x,
        .readDone w.head w.ld w.tag x true (s.devLoad w.head w.ld) ∈ t.out) ∧
        t.dram = s.dram) ∧
  (∀ (q : QuadIx) (p : Nat) (lines : List Nat) (s : State) (h : Heal), s.healOf q p = some h → s.versionAt p = none →
      ∃ t, exec (.healComplete q p lines) s = .next t ∧ t.healOf q p = none ∧
        (∀ a, a < p * 65536 ∨ (p + 1) * 65536 ≤ a → dramByte t.dram a = dramByte s.dram a))

/-- GAUGE_FULL_STEP with the clocks on and the pack FET armed, at a multiple of 1,024 superframes or the first time in a
start: the gauge is ready, counts as started and begins a new step (R387, R542). IMPEDANCE_STEP_QUALIFY of a step held 16
superframes whose impedance lies outside half to four times its seed bounds: the step is forgotten, the table stays and
Z_REJECTS counts (R390). LEARN_DUE by the period or the appointed time, no learn in PHASE 1 or 2: PHASE is 1 and the learn
fell due now (R399). LEARN_NOT_STARTED a day later: RESULT is 7, NS is 1, PHASE is 0, no learn is due (R399).
LEARNED_WRITE_START with a write pending, none running, no save, input present and the SPI port its own: the older copy is
written with the next sequence number, WRITING is 1 and WRITE_PENDING 0 (R404, R406, R437). LEARNED_WRITE_READBACK of a
good write: its copy holds the image (R405); of a first bad one: it is repeated. -/
def Obligations.TheGaugeStepsLearnsAndWrites : Prop :=
  (∀ (i : FullStepIn) (s : State), s.tick.clocksOn = true → s.gauge.fetArmed = true →
      (s.sf % 1024 = 0 ∨ s.gauge.started = false) →
      ∃ t, exec (.gaugeFullStep i) s = .next t ∧ t.flag Reg.GAUGE_STATUS_READY = true ∧ t.gauge.started = true ∧
      t.gauge.stepN = 0 ∧
        t.gauge.stepSum = 0) ∧
  (∀ (s : State) (x : ImpStep), s.gauge.imp = some x → x.sf + 16 ≤ s.sf → x.iNew ≠ x.iOld →
      4 * (s.cfg.impSeed.getD (4 * ((s.socUsed * 15 + 4999) / 10000) +
        (if 2 * s.gauge.temp ≤ 15 then 0 else if s.gauge.temp ≤ 20 then 1 else if s.gauge.temp ≤ 35 then 2 else 3)) 0 : Int) <
        (s.vPack - x.vOld) * 10000 / (x.iNew - x.iOld) →
      ∃ t, exec .impedanceStepQualify s = .next t ∧ t.gauge = { s.gauge with imp := none } ∧
        t.get Reg.GAUGE_SYNC_Z_REJECTS = min (2 ^ Reg.GAUGE_SYNC_Z_REJECTS.width - 1) (s.get Reg.GAUGE_SYNC_Z_REJECTS + 1)) ∧
  (∀ s : State, s.get Reg.LEARN_CFG_DAYS ≠ 0 → (∃ a, s.gauge.learnNext = some a ∧ a ≤ s.now) →
      (s.get Reg.LEARN_STATUS_PHASE = 0 ∨ s.get Reg.LEARN_STATUS_PHASE = 3) →
      ∃ t, exec .learnDue s = .next t ∧ t.get Reg.LEARN_STATUS_PHASE = 1 ∧ t.gauge.learnDueAt = some s.now ∧
      t.gauge.learnNext = none) ∧
  (∀ (s : State) (a : Nat), s.gauge.learnDueAt = some a → s.get Reg.LEARN_STATUS_PHASE = 1 → a + sec 86400 ≤ s.now →
      ∃ t, exec .learnNotStarted s = .next t ∧ t.get Reg.LEARN_STATUS_RESULT = 7 ∧ t.flag Reg.LEARN_STATUS_NS = true ∧
        t.get Reg.LEARN_STATUS_PHASE = 0 ∧ t.gauge.learnDueAt = none ∧ t.flag Reg.LEARN_STATUS_PERMIT = false) ∧
  (∀ s : State, s.flag Reg.GAUGE_STATUS_WRITE_PENDING = true → s.gauge.writing = none → s.inputPresent = true →
      s.flag Reg.PERS_STATUS_SAVE_ACTIVE = false → s.spiGrants 2 = true →
      ∃ t, exec .learnedWriteStart s = .next t ∧ t.flag Reg.GAUGE_STATUS_WRITING = true ∧
        t.flag Reg.GAUGE_STATUS_WRITE_PENDING = false ∧ (∃ w, t.gauge.writing = some w ∧ w.repeated = false ∧
          w.image.seq = ((if w.copyB then s.gauge.learnedA else s.gauge.learnedB).map Learned.seq).getD 0 + 1 ∧
          (if w.copyB then t.gauge.learnedB = none ∧ t.gauge.learnedA = s.gauge.learnedA
           else t.gauge.learnedA = none ∧ t.gauge.learnedB = s.gauge.learnedB))) ∧
  (∀ (s : State) (w : LearnedWrite), s.gauge.writing = some w → w.covers = 0 → w.carries = false → s.gauge.shipWrite = false →
      ∃ t, exec (.learnedWriteReadback true) s = .next t ∧
        (if w.copyB then t.gauge.learnedB = some w.image else t.gauge.learnedA = some w.image) ∧ t.gauge.writing = none ∧
        t.gauge.lastWrite = s.now ∧ t.flag Reg.GAUGE_STATUS_WRITING = false) ∧
  (∀ (s : State) (w : LearnedWrite), s.gauge.writing = some w → w.repeated = false →
      exec (.learnedWriteReadback false) s = .next { s with out := [], gauge := { s.gauge with writing := some { w with repeated := true } } })

/-- PACK_AUTH_START when an authentication is due and PACK_CFG.AUTH_EN is 0: AUTH_OK is 1 and the attempt counts as ended now.
With AUTH_EN 1 and no valid key in slot 24: AUTH_OK is 0 and pack fault 2 is reported on source 0x476. With AUTH_EN 1, a
valid key and a random bit generator that answers: a challenge is open and one transaction on TW3 carries it (R392).
PACK_AUTH_RESPONSE 10 ms or more after the challenge outside a save: the CMAC's answer sets AUTH_OK, another answer clears
it and raises the fault, and the first two failed transactions only count (R392, R393). CHG_SELF_GRANT of a device without
a master whose waiting time is over: the charge is permitted (R396). -/
def Obligations.ThePackIsAuthenticatedAndMayCharge : Prop :=
  (∀ s : State, s.authDue = true → s.flag Reg.PACK_CFG_AUTH_EN = false → s.gauge.faults = [] →
      ∃ t, exec .packAuthStart s = .next t ∧ t.flag Reg.PACK_STATE_AUTH_OK = true ∧ t.gauge.auth = true ∧
      t.gauge.authLast = some s.now) ∧
  (∀ s : State, s.authDue = true → s.flag Reg.PACK_CFG_AUTH_EN = true → (s.slot 24).st ≠ .valid → s.gauge.faults = [] →
      ∃ t, exec .packAuthStart s = .next t ∧ t.flag Reg.PACK_STATE_AUTH_OK = false ∧ t.pends 0x476 = true ∧
        t.gauge.authLast = some s.now ∧ t.gauge.auth = s.gauge.auth) ∧
  (∀ s : State, s.authDue = true → s.flag Reg.PACK_CFG_AUTH_EN = true → (s.slot 24).st = .valid → s.rngOk = true →
      ∃ t, exec .packAuthStart s = .next t ∧ t.gauge.challenge.isSome = true ∧ t.gauge.challengeAt = s.now ∧
        (∃ b, .twTx 3 (s.get Reg.PACK_CFG_AUTH_ADDR) b 0 ∈ t.out ∧ b.length = 16)) ∧
  (∀ (s : State), s.gauge.challenge.isSome = true → s.gauge.challengeAt + ms 10 ≤ s.now →
      s.flag Reg.PERS_STATUS_SAVE_ACTIVE = false → s.gauge.faults = [] →
      (∃ t, exec (.packAuthResponse .good) s = .next t ∧ t.flag Reg.PACK_STATE_AUTH_OK = true ∧ t.gauge.challenge = none) ∧
      (∃ t, exec (.packAuthResponse .bad) s = .next t ∧ t.flag Reg.PACK_STATE_AUTH_OK = false ∧ t.pends 0x476 = true) ∧
      (s.gauge.authTried < 2 → ∃ t, exec (.packAuthResponse .none) s = .next t ∧ t.gauge =
        { s.gauge with authTried := s.gauge.authTried + 1, challenge := none })) ∧
  (∀ (s : State) (a : Nat), s.gauge.selfGrantAt = some a → s.masterless = true → a ≤ s.now →
      ∃ t, exec .chgSelfGrant s = .next t ∧ t.gauge = { s.gauge with chgGrant := true, selfGrantAt := none } ∧
        t.flag Reg.SEQ_GROUP_STATUS_CHG_PERMIT = true)

/-- VIN_SENSE_LOW: input counts as lost; with SAVE_CTRL.VIN_EN on an armed device that has no save and detects none, a save is
detected in this frame with cause 2 and PHASE is 1 (R112, R113). PFW_N_ASSERT with PFW_EN of such a device: the same, the
pin is low and a message waits on source 0x4A1. INPUT_RETURN: PFW_N is high, the voltage is the one given, input is
present exactly if it reaches the upper threshold, no save is undone (R141). SAVE_BACKUP_ENABLE one frame after the
detection: the backup output is enabled, the load of a learn is off and charging stops (R115). SAVE_DECIDE two frames
after it: with cause 2 alone and input present the save is dropped as ridden through (R117); else it is committed:
SAVE_ACTIVE is 1, PHASE is 2, TRIGGER is the first cause, the device is in save (R116). BKP_EN_RELEASE in run with input
present for 32 superframes: the backup output is off and nothing else changes (R142). -/
def Obligations.ASaveIsDetectedAndDecided : Prop :=
  (∀ s : State, s.flag Reg.SAVE_CTRL_VIN_EN = true → s.flag Reg.SEQ_STATUS_ARMED = true →
      s.flag Reg.PERS_STATUS_SAVE_ACTIVE = false → s.save.frame0 = none →
      ∃ t, exec .vinSenseLow s = .next t ∧ t.pins.inputOk = false ∧ t.save.frame0 = some s.frame ∧ t.save.causes = [2] ∧
        t.get Reg.SAVE_STATUS_PHASE = 1) ∧
  (∀ s : State, s.flag Reg.SAVE_CTRL_PFW_EN = true → s.flag Reg.SEQ_STATUS_ARMED = true →
      s.flag Reg.PERS_STATUS_SAVE_ACTIVE = false → s.save.frame0 = none → s.pins.pfwN = true →
      ∃ t, exec .pfwNAssert s = .next t ∧ t.pins.pfwN = false ∧ t.pends 0x4A1 = true ∧ t.save.frame0 = some s.frame ∧
        t.save.causes = [2] ∧ t.get Reg.SAVE_STATUS_PHASE = 1) ∧
  (∀ (mv : Nat) (s : State),
      ∃ t, exec (.inputReturn mv) s = .next t ∧ t.pins.pfwN = true ∧ t.pins.vinMv = mv ∧
      t.pins.inputOk = decide (s.vinBack ≤ mv) ∧
        t.save = s.save ∧ t.seq.power = s.seq.power) ∧
  (∀ (s : State) (f : Nat), s.save.frame0 = some f → f + 1 ≤ s.frame → s.save.enabled = false →
      ∃ t, exec .saveBackupEnable s = .next t ∧ t.pins.bkpEn = true ∧ t.pins.learnLoad = 0 ∧ t.pins.chgEn = false ∧
        t.save = { s.save with enabled := true }) ∧
  (∀ (s : State) (f : Nat), s.save.frame0 = some f → f + 2 ≤ s.frame → s.save.enabled = true → s.save.committed = false →
      s.save.causes = [2] → s.inputPresent = true →
      ∃ t, exec .saveDecide s = .next t ∧ t.flag Reg.SAVE_STATUS_RIDE_THROUGH = true ∧ t.save.frame0 = none ∧
      t.pends 0x4A0 = true ∧
        t.get Reg.SAVE_STATUS_PHASE = s.save.phaseBefore % 16 ∧ t.seq = s.seq) ∧
  (∀ (s : State) (f : Nat), s.save.frame0 = some f → f + 2 ≤ s.frame → s.save.enabled = true → s.save.committed = false →
      s.inputPresent = false → s.seq.power = .run → firstCause s.save.causes < 8 →
      ∃ t, exec .saveDecide s = .next t ∧ t.flag Reg.PERS_STATUS_SAVE_ACTIVE = true ∧ t.get Reg.SAVE_STATUS_PHASE = 2 ∧
        t.get Reg.SAVE_STATUS_TRIGGER = firstCause s.save.causes ∧ t.save.committed = true ∧ t.seq.power = .save ∧
        t.seq.saveOpen = true) ∧
  (∀ s : State, s.pins.bkpEn = true → s.save.frame0 = none → s.flag Reg.PERS_STATUS_SAVE_ACTIVE = false → s.seq.power = .run →
      s.pins.inputOk = true → s.pins.inputAt + 32 * 1048576 ≤ s.now →
      ∃ t, exec .bkpEnRelease s = .next t ∧ t = { s with out := [], pins := { s.pins with bkpEn := false } })

/-- SAVE_COMMIT_ARRIVE in the frame after a save's commit: WRITING and the quadrants' own marks name all four quadrants, PHASE
is 3 (R17, R120). QUADRANT_WRITE_DRAINED of a quadrant whose writes are drained: it counts as drained (R121).
PERSISTENCE_POINT once all four are: the point is at this frame, PP_FRAMES is its distance from the detection and PHASE is
4 (R55, R121). FABRIC_PHY_OFF 20 frames after the detection: both PHYs are off and both links down (R122).
SAVE_WRITE_START of a quadrant at the save's operating point after the persistence point: it writes its exposure, PHASE
goes from 4 to 5 (R126). SAVE_QUADRANT_TAIL_DONE: the quadrant's mark is gone, no other's changes, and PHASE is 6 (R137);
WRITING follows with the next allotment (R133). SEAL_WRITE once no quadrant writes: a seal record with the trigger's cause
is being written, PHASE is 7 (R138, R178). SEAL_READBACK of two programmed copies that read back, of a save that does not
resume: the record is the newest seal and the run and its generation are closed (R139); when both copies' retries fail
PHASE is 9 and a message waits. -/
def Obligations.ASaveRunsToItsSeal : Prop :=
  (∀ s : State, s.save.committed = true → s.save.arrived = false → s.save.commitAt + 1 ≤ s.frame →
      ∃ t, exec .saveCommitArrive s = .next t ∧ t.get Reg.SAVE_TOKENS_WRITING = 15 ∧ t.get Reg.SAVE_STATUS_PHASE = 3 ∧
        t.save.arrived = true ∧ (∀ q : QuadIx, (t.quad q).saveOn = false ∧ (t.quad q).saveDrained = false ∧
        (t.quad q).saveMask = true)) ∧
  (∀ (q : QuadIx) (s : State), s.save.arrived = true → s.writesDrained q = true →
      ∃ t, exec (.quadrantWriteDrained q) s = .next t ∧ (t.quad q).saveDrained = true ∧ t.regs = s.regs) ∧
  (∀ (s : State) (f : Nat), s.save.frame0 = some f → s.save.arrived = true → s.save.ppFrame = none →
      (∀ q : QuadIx, (s.quad q).saveDrained = true) →
      ∃ t, exec .persistencePoint s = .next t ∧ t.save = { s.save with ppFrame := some s.frame } ∧
      t.get Reg.SAVE_STATUS_PHASE = 4 ∧
        t.get Reg.SAVE_LAST_PP_PP_FRAMES = min (2 ^ Reg.SAVE_LAST_PP_PP_FRAMES.width - 1) (s.frame - f)) ∧
  (∀ (s : State) (f : Nat), s.save.frame0 = some f → s.save.arrived = true → f + 20 ≤ s.frame →
      ∃ t, exec .fabricPhyOff s = .next t ∧ ∀ h : HeadIx, (t.head h).phyOn = false ∧ t.flag (Reg.FAB_STATUS_LINK_UP h) = false) ∧
  (∀ (q : QuadIx) (bad : List Nat) (s : State) (f : Nat), s.save.frame0 = some f → s.save.ppFrame.isSome = true →
      (s.quad q).saveOn = false → (s.atSaveOp q = true ∨ (s.quad q).railLost = true) →
      s.get Reg.SAVE_STATUS_PHASE = 4 →
      ∃ t, exec (.saveWriteStart q bad) s = .next t ∧ (t.quad q).saveOn = true ∧ (t.quad q).saveBad = bad ∧
        t.save.writing = true ∧ t.get Reg.SAVE_STATUS_PHASE = 5) ∧
  (∀ (q : QuadIx) (s : State), s.flag Reg.PERS_STATUS_SAVE_ACTIVE = true → (s.quad q).saveMask = true → s.tailDone q = true →
      ∃ t, exec (.saveQuadrantTailDone q) s = .next t ∧ t.get Reg.SAVE_STATUS_PHASE = 6 ∧ (t.quad q).saveMask = false ∧
        (∀ k : QuadIx, k ≠ q → (t.quad k).saveMask = (s.quad k).saveMask)) ∧
  (∀ s : State, s.flag Reg.PERS_STATUS_SAVE_ACTIVE = true → s.save.writing = true → s.get Reg.SAVE_TOKENS_WRITING = 0 →
      s.image.writing = none → s.get Reg.SAVE_STATUS_PHASE ≠ 9 → s.fabric.switched = false →
      ∃ t, exec .sealWrite s = .next t ∧ t.get Reg.SAVE_STATUS_PHASE = 7 ∧ ∃ w, t.image.writing = some w ∧
      w.record.kind = .sealSave ∧
        w.record.cause = s.get Reg.SAVE_STATUS_TRIGGER) ∧
  (∀ (s : State) (w : RecWrite), s.image.writing = some w → w.copy0 = .retry → w.copy1 = .retry →
      s.copyPending w.record 0 = false → s.copyPending w.record 1 = false →
      ∃ t, exec (.sealReadback [false, false]) s = .next t ∧ t.get Reg.SAVE_STATUS_PHASE = 9 ∧ t.pends (srcPers 0 1) = true ∧
        t.image.writing = none ∧ t.image.seals = s.image.seals) ∧
  (∀ (s : State) (w : RecWrite), s.image.writing = some w → w.copy0 = .first → w.copy1 = .first →
      s.copyPending w.record 0 = false → s.copyPending w.record 1 = false → w.record.incomplete = false →
      s.copyProgrammed w.record 0 (copyChan w.record.seq 0) = true →
      s.copyProgrammed w.record 1 (copyChan w.record.seq 1) = true →
      s.inputPresent = false →
      ∃ t, exec (.sealReadback [true, true]) s = .next t ∧ t.image.seals.head? = some w.record ∧ t.image.runOpen = false ∧
      t.image.genOpen = false ∧
        t.pends (srcPers 0 1) = true ∧ t.flag Reg.PERS_STATUS_SAVE_ACTIVE = false)

/-- POWER_UP_START of an off device with input, 500 ms after EN[0]'s release, with an on request latched, or after a
SYSTEM_RESET, or with AUTO_ON after the input or AON power came back: the device boots, the boot rails' enables are on 1
ms apart in their order, and the request is used up (R416, R419). MAIN_RAIL_POWER_UP of a standalone device, sealed, in
boot with its main rails not started and no off request waiting: the device powers up and the rails count as started
(R420). RAIL_STAGE_START of a run that is due: SEQ_STATUS.STAGE is the lowest stage of its rails to do (R415, R420).
RAIL_GOOD of a rail that is turned on: it counts as good since this superframe and its STATE is 3 (R421). RAIL_UP_FAIL of
a rail still off its level after its ramp, of reaction other than retry: LAST_FAULT is 4, a message waits on the rail's
source, its enable is off. RAIL_RETRY that is due with its parents good: STATE is 2 and the enable is on again (R422).
RAILS_UP once every main rail is good or held off and has settled: RAILS_UP is 1, the device runs, RESET_OUT_N is high,
both PHYs are on (R423). -/
def Obligations.RailsComeUpFailAndRetry : Prop :=
  (∀ s : State, s.tick.aonPowered = true → s.seq.power = .off → s.pins.inputOk = true →
      (∀ x ∈ s.seq.en0ReleasedAt, x + ms 500 ≤ s.now) →
      (s.seq.onLatch = true ∨ s.seq.lastDown = .systemReset ∨ (s.seq.aonAutoOn = true ∧
      (s.seq.lastDown = .inputLoss ∨ s.seq.aonApplied = true))) →
      ∃ t, exec .powerUpStart s = .next t ∧ t.seq.power = .boot ∧ t.seq.onLatch = false ∧ t.seq.lastDown = .none ∧
      t.regs = s.regs ∧
        ∀ k : Fin 24, (k.val < 4 → (t.rail k).en = true ∧ (t.rail k).enabledAt = s.now + ms k) ∧ (4 ≤ k.val →
        t.rail k = s.rail k)) ∧
  (∀ s : State, s.flag Reg.SEQ_GROUP_STATUS_STANDALONE = true → s.flag Reg.CFG_STATUS_SEALED = true →
      s.seq.mainStarted = false → s.seq.offWaiting = false → s.seq.power = .boot →
      ∃ t, exec .mainRailPowerUp s = .next t ∧ t.seq.power = .powerUp ∧ t.seq.mainStarted = true) ∧
  (∀ (s : State) (r : RailRun) (i : Nat), s.seq.runs.zipIdx.find? (fun r => s.runDue r.1) = some (r, i) →
    s.seq.offWaiting = false →
      ∃ t, exec .railStageStart s = .next t ∧ t.get Reg.SEQ_STATUS_STAGE = s.lowStage r.todo % 16) ∧
  (∀ (k : RailIx) (s : State), s.railPresent k = true → s.get (Reg.RAIL_STATUS_STATE k) = 6 →
      ∃ t, exec (.railGood k) s = .next t ∧ t.get (Reg.RAIL_STATUS_STATE k) = 3 ∧ (t.rail k).everGood = true ∧
        (t.rail k).goodSince = some s.sf) ∧
  (∀ (k : RailIx) (s : State), s.railPresent k = true → s.get (Reg.RAIL_STATUS_STATE k) = 2 →
      (s.rail k).enabledAt + s.ramp k ≤ s.now → s.get (Reg.RAIL_CFG0_REACTION k) ≠ 1 →
      ∃ t, exec (.railUpFail k) s = .next t ∧ t.get (Reg.RAIL_STATUS_LAST_FAULT k) = 4 ∧ t.pends (srcRail k 2) = true ∧
        (t.rail k).en = false) ∧
  (∀ (k : RailIx) (s : State) (d : Nat), (s.rail k).retryDue = some d → d ≤ s.sf → s.flag Reg.PERS_STATUS_SAVE_ACTIVE = false →
      s.seq.power = .run → (∀ p ∈ s.parents k, s.railIsGood p = true) →
      ∃ t, exec (.railRetry k) s = .next t ∧ t.get (Reg.RAIL_STATUS_STATE k) = 2 ∧ (t.rail k).en = true ∧
      (t.rail k).enabledAt = s.now ∧
        (t.rail k).retryDue = none) ∧
  (∀ s : State, s.seq.power = .powerUp → s.seq.mainStarted = true → s.seq.offWaiting = false → s.seq.runs = [] →
      (∀ k ∈ s.mainRails, s.railIsGood k = true ∨ s.get (Reg.RAIL_STATUS_STATE k) = 5) →
      s.lastEnded + ms (s.get Reg.SEQ_TIMING_UP_SETTLE_MS) ≤ s.now →
      ∃ t, exec .railsUp s = .next t ∧ t.flag Reg.SEQ_STATUS_RAILS_UP = true ∧ t.seq.power = .run ∧ t.pins.resetOutN = true ∧
        t.gauge.fetArmed = true ∧ (∀ h : HeadIx, (t.head h).phyOn = true))

/-- RAIL_FAULT on a present rail in a sealed device: LAST_FAULT is the fault's kind, INCIDENT is 1 unless all rails are back,
a message waits on the rail's source 0 (R424, R426); with the rail good and reaction 0 the rail stays enabled.
FIRST_FAILURE_RECORD in a frame after an incident began: SEQ_FIRST names its rail, kind and number of rails of the same
frame, once (R435, R436). POWER_DOWN_START when an off request waits and no stage is in progress: the device powers down,
RAILS_UP and ARMED are 0, RESET_OUT_N is low (R428, R431). POWER_DOWN_STAGE once the gap is over: with a stage left, its
rails go off and SEQ_STATUS.STAGE is that stage; with none left the device is off and input power is released 3 ms later
(R428). -/
def Obligations.RailFaultsAreDeclaredAndRecorded : Prop :=
  (∀ (k : RailIx) (f : RailFaultKind) (s : State), s.flag Reg.CFG_STATUS_SEALED = true → s.railPresent k = true →
      (s.railIsGood k = true ∨ faultKind f = 1) → (faultKind f ≠ 3 ∨ s.flag (Reg.RAIL_CFG0_USE_PG k) = true) →
      ∃ t, exec (.railFault k f) s = .next t ∧ t.get (Reg.RAIL_STATUS_LAST_FAULT k) = faultKind f ∧
      t.pends (srcRail k 0) = true) ∧
  (∀ (s : State) (i : Incident), s.seq.incident = some i → i.recorded = false → i.frame < s.frame → i.rail < 32 → i.kind < 8 →
      i.sameFrame.length < 64 →
      ∃ t, exec .firstFailureRecord s = .next t ∧ t.get Reg.SEQ_FIRST_RAIL = i.rail ∧ t.get Reg.SEQ_FIRST_KIND = i.kind ∧
        t.get Reg.SEQ_FIRST_SAME_FRAME = i.sameFrame.length ∧ t.seq.incident = some { i with recorded := true } ∧
        t.seq.ringSeq > s.seq.ringSeq) ∧
  (∀ s : State, s.seq.offWaiting = true → s.stageInProgress = false → s.seq.power = .powerUp →
      ∃ t, exec .powerDownStart s = .next t ∧ t.seq.power = .powerDown ∧ t.seq.downCause = .other ∧ t.seq.offWaiting = false ∧
        t.flag Reg.SEQ_STATUS_RAILS_UP = false ∧ t.flag Reg.SEQ_STATUS_ARMED = false ∧ t.pins.resetOutN = false) ∧
  (∀ s : State, s.seq.power = .powerDown → s.seq.downAt + ms (s.get Reg.SEQ_TIMING_OFF_GAP_MS) ≤ s.now → s.topStage ≠ 0 →
      ∃ t, exec (.powerDownStage []) s = .next t ∧ t.get Reg.SEQ_STATUS_STAGE = s.topStage ∧ t.seq.downAt = s.now ∧
        t.seq.power = .powerDown ∧ (∀ k ∈ s.stageRails s.topStage, (t.rail k).en = false)) ∧
  (∀ s : State, s.seq.power = .powerDown → s.seq.downAt + ms (s.get Reg.SEQ_TIMING_OFF_GAP_MS) ≤ s.now → s.topStage = 0 →
      ∃ t, exec (.powerDownStage []) s = .next t ∧ t.seq.power = .off ∧ t.seq.lastDown = s.seq.downCause ∧
        t.seq.en0ReleasedAt = some (s.now + ms 3) ∧ t.rails = [])

/-- PWRBTN_PRESS with AON power and no press in progress: the press begins now and the pin is low. PWRBTN_RELEASE after less
than 4 s, no act yet: SHORT counts and no press is in progress; after 4 s to 8 s: IGNORED counts and a message waits on
source 0x4A2 (R429). FORCED_OFF 8 s into a press, of an armed device that runs: a save of cause 3 is detected (R429).
OFF_REQUEST on an armed device that runs, has no handshake and a link up: one opens now, PENDING is 1, SHIP is 0 and a
message waits on source 0x4AA (R431, R547); with no link up and no acknowledgement in its frame it ends at once, ENDED_BY
being 2 (the model's reading of R548, log entry 91). SHIP_OFF_REQUEST: the same with SHIP 1 (R550). OFF_ACK of an open
handshake: its first condition met is 1; OFF_HANDSHAKE_TIMEOUT after PERS_OFF.WAIT_S seconds, neither an acknowledgement
nor the last link's going in its frame: its first condition is 3, TIMEOUT is 1 and a message waits (R548). -/
def Obligations.ButtonsAndOffRequestsAct : Prop :=
  (∀ s : State, s.tick.aonPowered = true → s.seq.pressAt = none →
      ∃ t, exec .pwrbtnPress s = .next t ∧ t.seq = { s.seq with pressAt := some s.now, pressActed := false } ∧
        t.pins = { s.pins with pwrbtnN := false } ∧ t.regs = s.regs) ∧
  (∀ (s : State) (a : Nat), s.seq.pressAt = some a → s.seq.pressActed = false → s.now - a < sec 4 →
      ∃ t, exec .pwrbtnRelease s = .next t ∧
      t.get Reg.SEQ_BTN_SHORT = min (2 ^ Reg.SEQ_BTN_SHORT.width - 1) (s.get Reg.SEQ_BTN_SHORT + 1) ∧
        t.pins.pwrbtnN = true ∧ t.seq.pressAt = none) ∧
  (∀ (s : State) (a : Nat), s.seq.pressAt = some a → s.seq.pressActed = false → sec 4 ≤ s.now - a → s.now - a < sec 8 →
      ∃ t, exec .pwrbtnRelease s = .next t ∧
      t.get Reg.SEQ_BTN_IGNORED = min (2 ^ Reg.SEQ_BTN_IGNORED.width - 1) (s.get Reg.SEQ_BTN_IGNORED + 1) ∧
        t.pends 0x4A2 = true ∧ t.seq.pressAt = none) ∧
  (∀ (s : State) (a : Nat), s.seq.pressAt = some a → s.seq.pressActed = false → a + sec 8 ≤ s.now → s.seq.power = .run →
      s.flag Reg.SEQ_STATUS_ARMED = true → s.flag Reg.PERS_STATUS_SAVE_ACTIVE = false → s.save.frame0 = none → s.shake = none →
      ∃ t, exec .forcedOff s = .next t ∧ t.save.frame0 = some s.frame ∧ t.save.causes = [3] ∧ t.save.forcedOff = true ∧
        t.pends 0x4A2 = true ∧ t.seq.pressActed = true) ∧
  (∀ (p : PathIx) (s : State), s.served p = true → s.writeShut p 0x060004 = false → s.seq.power = .run →
      s.flag Reg.SEQ_STATUS_ARMED = true → s.shake = none → (∃ h : HeadIx, s.flag (Reg.FAB_STATUS_LINK_UP h) = true) →
      (∃ t, exec (.offRequest p) s = .next t ∧ t.shake.isSome = true ∧ t.flag Reg.PERS_OFF_PENDING = true ∧
        t.flag Reg.PERS_OFF_SHIP = false ∧ t.pends 0x4AA = true) ∧
      (∃ t, exec (.shipOffRequest p) s = .next t ∧ t.shake.isSome = true ∧ t.flag Reg.PERS_OFF_PENDING = true ∧
        t.flag Reg.PERS_OFF_SHIP = true ∧ t.pends 0x4AA = true)) ∧
  (∀ (p : PathIx) (s : State), s.served p = true → s.writeShut p 0x060004 = false → s.seq.power = .run →
      s.flag Reg.SEQ_STATUS_ARMED = true → s.shake = none → (∀ h : HeadIx, s.flag (Reg.FAB_STATUS_LINK_UP h) = false) →
      s.ackComes = false →
      ∃ t, exec (.offRequest p) s = .next t ∧ t.shake = none ∧ t.flag Reg.PERS_OFF_PENDING = false ∧
      t.get Reg.PERS_OFF_ENDED_BY = 2 ∧
        t.pends 0x4AA = true) ∧
  (∀ (p : PathIx) (s : State) (h : Handshake), s.served p = true → s.writeShut p 0x030018 = false → s.shake = some h →
      h.met = none → h.shipEnded = false →
      ∃ t, exec (.offAck p) s = .next t ∧ t.shake = some { h with met := some 1 }) ∧
  (∀ (s : State) (h : Handshake), s.shake = some h → h.met = none → h.shipEnded = false → s.get Reg.PERS_OFF_WAIT_S ≠ 0 →
      h.openAt + sec (s.get Reg.PERS_OFF_WAIT_S) ≤ s.now → s.ackComes = false → s.linksGo h = false →
      ∃ t, exec .offHandshakeTimeout s = .next t ∧ t.shake = some { h with met := some 3 } ∧ t.flag Reg.PERS_OFF_TIMEOUT = true ∧
        t.pends 0x4AA = true)

/-- PORST_N_RELEASE in boot with a firmware slot that may run and RECOVERY not strapped: PORST_N is high, the straps give
TW0's address, the management cluster runs from the chosen slot, shown in RUNNING (R449, R520, R541). PORST_N_ASSERT:
PORST_N is low, the cluster stands, what DRAM held is gone, a device that was not off is in boot; without the rails up
every register is at its reset word, with them a message waits on source 0x4A4 (R6, R575). CONFIG_LOAD in boot before the
seal with a copy that authenticates and offends against no rule: SEALED is 1, COPY names it, its sequence number and
layout CRC are shown (R506, R509). With no such copy: RECOVERY is due for cause 4. WARM_LOAD of a warm reset past its
drain, with DRAM held in self-refresh, a firmware slot that may run and such a copy of the same layout: SEALED and
WARM_LOAD are 1 and START_STATE is 2 (R507, R512). AON_POWER_APPLY: the AON domain is powered, its device time and its
rails start anew and the straps give the address (R23, R433). AON_RESET: the same without power. That DRAM reads as zeros
after its power was lost is the model's choice. -/
def Obligations.TheBlockBootsAndSeals : Prop :=
  (∀ (i : BootIn) (s : State) (k : Nat), s.pins.porstN = false → s.seq.power = .boot → i.recoveryLow = false →
      ({ (s.program i.nor) with pins := { s.pins with bootMode := i.bootMode } } : State).chooseFw = some k →
      ∃ t, exec (.porstNRelease i) s = .next t ∧ t.pins.porstN = true ∧ t.tw0.addr = 0x58 + i.straps.val ∧
      t.cluster.running = true ∧
        t.get Reg.UPD_STATUS_RUNNING = k % 2 ∧ t.seq.recoveryDue = none) ∧
  (∀ s : State,
      ∃ t, exec .porstNAssert s = .next t ∧ t.pins.porstN = false ∧ t.dram = [] ∧ t.poison = [] ∧ t.cluster.running = false ∧
        t.isSealed = false ∧ t.seq.power = (if s.seq.power = .off then .off else .boot) ∧
        (s.flag Reg.SEQ_STATUS_RAILS_UP = false → t.regs = []) ∧ (s.flag Reg.SEQ_STATUS_RAILS_UP = true → t.pends 0x4A4 = true)) ∧
  (∀ (i : LoadIn) (s : State) (n : Nat) (c : CfgImage), s.pins.porstN = true → s.seq.power = .boot → s.cluster.running = true →
      s.isSealed = false → s.seq.recoveryDue = none → (s.begin.loadBegins i).copiesTried.1 = some (n, c) → n < 2 →
      ∃ t, exec (.configLoad i) s = .next t ∧ t.isSealed = true ∧ t.get Reg.CFG_STATUS_COPY = n ∧
        t.get Reg.CFG_LAYOUT_CRC_CRC = c.layoutCrc % 2 ^ 32 ∧ t.seq.recoveryDue = none) ∧
  (∀ (i : LoadIn) (s : State), s.pins.porstN = true → s.seq.power = .boot → s.cluster.running = true →
      s.isSealed = false → s.seq.recoveryDue = none → (s.begin.loadBegins i).copiesTried.1 = none →
      ∃ t, exec (.configLoad i) s = .next t ∧ t.isSealed = false ∧ t.seq.recoveryDue = some 4) ∧
  (∀ (i : LoadIn) (s : State) (k n : Nat) (c : CfgImage), s.seq.power = .warmReset → s.seq.warmDrain = true →
    s.save.frame0 = none →
      s.seq.dramHeld = true → s.begin.warmBegins.chooseFw = some k →
      ((s.begin.warmBegins.warmStarts i k).tryCopies true false (s.begin.warmBegins.warmStarts i k).sameLayout).1 = some (n, c) →
      ∃ t, exec (.warmLoad i) s = .next t ∧ t.isSealed = true ∧ t.flag Reg.CFG_STATUS_WARM_LOAD = true ∧
        t.get Reg.PERS_STATUS_START_STATE = 2 ∧ t.seq.dramHeld = false ∧ t.seq.warmDrain = false) ∧
  (∀ (straps : Nat) (s : State),
      ∃ t, exec (.aonPowerApply straps) s = .next t ∧ t.tick = { aonPowered := true } ∧ t.rails = [] ∧
      t.tw0.addr = 0x58 + straps % 8 ∧
        t.seq = { ring := s.seq.ring, ringSeq := s.seq.ringSeq } ∧ t.regs = []) ∧
  (∀ s : State,
      ∃ t, exec .aonReset s = .next t ∧ t.tick = { aonPowered := false } ∧ t.rails = [] ∧ t.seq.power = .off ∧ t.regs = [])

/-- UPD_BOOT_OK on a served path from a running cluster that has not signalled: the boot counts as good and BOOT_FAILS is 0
(R524). BOOT_TIMEOUT 500 ms after the cores were released without it: BOOT_FAILS counts, the slot is remembered and a
message waits on source 0x4EA; at the third failure RECOVERY is due for cause 3 and the cluster stops (R524, R533).
RECOVERY_ENTERED when it is due: RECOVERY is 1 with its cause, START_STATE is 3, the device is not armed and not media
ready, the cluster runs the boot ROM, a message waits (R533, R534). MR_N_WARM_RESET of an armed device that runs without a
save: a warm reset begins and drains, a message waits on source 0x4A3 (R432, R604); during a save it is latched.
WARM_RESET_REBUILD after the warm load: each quadrant's lists are rebuilt from its patch states and the ledger counts as
loaded (R175, R605). POWER_UP heard by a member: its main rails are due after its position times the stagger (R441). -/
def Obligations.TheClusterSignalsFailsAndRecovers : Prop :=
  (∀ (p : PathIx) (s : State), s.served p = true → s.writeShut p 0x0A0004 = false → s.cluster.running = true →
      s.cluster.bootOk = false → s.inRecovery = false →
      ∃ t, exec (.updBootOk p) s = .next t ∧ t.cluster.bootOk = true ∧ t.get Reg.UPD_STATUS_BOOT_FAILS = 0 ∧ t.upd.aonFails = 0 ∧
        t.upd.aonSlot = none) ∧
  (∀ s : State, s.cluster.running = true → s.cluster.bootOk = false → s.inRecovery = false → s.mainOff = false →
      s.cluster.releasedAt + ms 500 ≤ s.now →
      ∃ t, exec .bootTimeout s = .next t ∧ t.get Reg.UPD_STATUS_BOOT_FAILS = min 3 (s.upd.aonFails + 1) ∧
        t.upd.aonFails = min 3 (s.upd.aonFails + 1) ∧ t.upd.aonSlot = some (s.get Reg.UPD_STATUS_RUNNING) ∧ t.pends 0x4EA = true ∧
        (2 ≤ s.upd.aonFails → t.seq.recoveryDue = some 3 ∧ t.cluster.running = false)) ∧
  (∀ (c : Fin 4) (s : State), s.mainOff = false → s.seq.recoveryDue = some (c.val + 1) →
      ∃ t, exec (.recoveryEntered c) s = .next t ∧ t.seq.power = .recovery ∧ t.flag Reg.UPD_STATUS_RECOVERY = true ∧
        t.get Reg.UPD_STATUS_RECOVERY_CAUSE = c.val + 1 ∧ t.get Reg.PERS_STATUS_START_STATE = 3 ∧
        t.flag Reg.PERS_STATUS_MEDIA_READY = false ∧ t.pends 0x4EA = true ∧ t.seq.recoveryDue = none) ∧
  (∀ s : State, s.mainOff = false → s.flag Reg.PERS_STATUS_SAVE_ACTIVE = false → s.save.frame0 = none →
      s.flag Reg.SEQ_STATUS_ARMED = true → s.seq.power = .run →
      ∃ t, exec .mrNWarmReset s = .next t ∧ t.seq.power = .warmReset ∧ t.seq.warmDrain = true ∧ t.pends 0x4A3 = true ∧
      t.shake = none) ∧
  (∀ s : State, s.mainOff = false → (s.flag Reg.PERS_STATUS_SAVE_ACTIVE = true ∨ s.save.frame0.isSome = true) →
      exec .mrNWarmReset s = .next { s with out := [], seq := { s.seq with mrLatched := true } }) ∧
  (∀ s : State, s.seq.power = .warmReset → s.seq.warmDrain = false → s.isSealed = true → s.image.loaded = false →
      s.seq.recoveryDue = none →
      ∃ t, exec .warmResetRebuild s = .next t ∧ t.image.loaded = true ∧ ∀ q : QuadIx, (t.quad q).setting = [] ∧
      (t.quad q).sweepPtr = 0 ∧
        (t.quad q).houseWear = none ∧ t.flag (Reg.SKIM_Q_SWEEP q) = true) ∧
  (∀ (stagger : Nat) (s : State), s.isMember = true → s.group.powerUpAt = none →
      exec (.powerUp stagger) s = .next { s with out := [], group := { s.group with
        powerUpAt := some (s.now + ms (s.position * (stagger % 65536))) } })

/-- DIE_OP_START on a die that is up, idle, its next operation no program and its channel not too busy, nothing of its
quadrant waiting for a die: the operation runs and is off the queue; an erase in progress with a fault-in queued is
suspended instead (R292, R293). FLASH_PROGRAM_CONFIRM outside a save on a die whose loaded operation to confirm is a
record copy: it runs, spoiled exactly if both engines' checks fail (R287, R295). FLASH_PROGRAM_STATUS of a record copy:
the die is free and the channel's records end with the copy, good exactly if the status is and it was not spoiled; a
failed one counts in PFAIL (R178, R297). FLASH_ERASE_STATUS that passes: the die is free and holds no unit of the band;
one that fails counts in EFAIL and GROWN (R299, R304). FLASH_READ_DATA of a fill whose bytes an LDPC engine takes (R285)
and decodes within its passes: the die is free and the fill is read (R286, R289). FLASH_STATUS_TIMEOUT: the die is reset,
a message waits on its channel's source 1 (R298). -/
def Obligations.FlashDiesWorkTheirQueues : Prop :=
  (∀ (n : DieIx) (s : State) (o : DieOp), s.dieUp n = true → s.flashOn n = true → (s.die n).current = none →
      (s.die n).suspended = [] → s.nextOp n = some o → o.kind.isProgram = false → s.busyOk n = true → (s.die n).held = [] →
      (s.quad (n.val / 32)).ledgerWait = [] → (s.quad (n.val / 32)).relocWait = [] → (s.quad (n.val / 32)).saveOn = false →
      ∃ t, exec (.dieOpStart n) s = .next t ∧ ((t.die n).current = some o ∧ (t.die n).queue = (s.die n).queue.erase o ∧
        ∀ m : DieIx, m ≠ n → t.die m = s.die m)) ∧
  (∀ (n : DieIx) (s : State) (o f : DieOp), s.dieUp n = true → s.flashOn n = true → (s.die n).current = some o →
      o.kind.isErase = true → f ∈ (s.die n).queue → f.order = 2 →
      (s.quad (n.val / 32)).ledgerWait = [] → (s.quad (n.val / 32)).relocWait = [] → (s.quad (n.val / 32)).saveOn = false →
      ∃ t, exec (.dieOpStart n) s = .next t ∧ (t.die n).current = none ∧ (t.die n).suspended = o :: (s.die n).suspended ∧
        (t.die n).queue = (s.die n).queue) ∧
  (∀ (n : DieIx) (e : EngineCheck) (s : State) (o : DieOp) (rc : RecCopy), s.dieUp n = true → s.flashOn n = true →
      (∀ x ∈ (s.die n).queue, x.load ≠ 1) → s.save.arrived = false → (s.loadEnds n).confirmable n = some o → o.kind = .record rc →
      (s.die n).held = [] → (s.quad (n.val / 32)).ledgerWait = [] → (s.quad (n.val / 32)).relocWait = [] →
      (s.quad (n.val / 32)).saveOn = false →
      ∃ t, exec (.flashProgramConfirm n e) s = .next t ∧
      (t.die n).current = some { o with token := false, spoiled := decide (e = .both) } ∧
        (t.die n).queue = ((s.loadEnds n).die n).queue.erase o) ∧
  (∀ (n : DieIx) (f : Option (Fin 4)) (s : State) (o : DieOp) (rc : RecCopy), (s.die n).current = some o → o.kind = .record rc →
      s.flag Reg.PERS_STATUS_SAVE_ACTIVE = false →
      ∃ t, exec (.flashProgramStatus n f) s = .next t ∧ (t.die n).current = none ∧ (t.die n).timeouts = 0 ∧
        (t.recordsOn (n.val / 8)).getLast? = some { rc with good := !(f.isSome || o.spoiled) } ∧
        t.get (Reg.DIE_COUNT_PFAIL_COUNT n) = (if f.isSome || o.spoiled then min (2 ^ 32 - 1) (s.get (Reg.DIE_COUNT_PFAIL_COUNT n) + 1)
          else s.get (Reg.DIE_COUNT_PFAIL_COUNT n))) ∧
  (∀ (n : DieIx) (s : State) (o : DieOp) (band : Nat), (s.die n).current = some o → o.kind = .erase band → o.spoiled = false →
      ∃ t, exec (.flashEraseStatus n none) s = .next t ∧ (t.die n).current = none ∧
        (∀ e ∈ (t.die n).units, e.1 / s.unitsPerBand ≠ band)) ∧
  (∀ (n : DieIx) (p : Fin 4) (s : State) (o : DieOp) (band : Nat), (s.die n).current = some o → o.kind = .erase band →
    o.spoiled = false →
      ∃ t, exec (.flashEraseStatus n (some p)) s = .next t ∧
        t.get (Reg.DIE_COUNT_EFAIL_COUNT n) = min (2 ^ 32 - 1) (s.get (Reg.DIE_COUNT_EFAIL_COUNT n) + 1) ∧
        t.pends (srcDie n) = true) ∧
  (∀ (n : DieIx) (r : FlashRead) (s : State) (o : DieOp) (u p k : Nat) (f : Fill), (s.die n).current = some o →
      o.kind = .read u (.fill p) → r.need = some k → k ≤ s.passLimit n (.fill p) → r.engine = .fine →
      (s.unitBody n u).isSome = true →
      f ∈ (s.quad (n.val / 32)).fills → f.patch = p → o.load = 2 → s.engineGrants n = true →
      (s.quad (n.val / 32)).saveOn = false →
      ∃ t, exec (.flashReadData n r) s = .next t ∧ (t.die n).current = none ∧
      { f with read := some true } ∈ (t.quad (n.val / 32)).fills ∧
        t.dram = s.dram) ∧
  (∀ (n : DieIx) (s : State) (o : DieOp), (s.die n).current = some o →
      ∃ t, exec (.flashStatusTimeout n) s = .next t ∧ .flash n 0xFF 0 ∈ t.out ∧ t.pends (srcFc (n.val / 8) 1) = true)

/-- FLASH_CHANNEL_INIT after the seal with the rails up, of a channel not initialised and with fewer than three bus failures:
its STATE is 2; a channel that lost only its rail is back in STATE 2 (R312). FC_FAILED of a channel not failed yet: STATE
is 3 and a message waits on its source 0 (R305, R307). STRIPE_CLOSE of a set that is due: it is closed (R179, R182).
DIE_REBUILD_RELOCATE of a retired die with a live unit left whose set suffices, the stripe parity unit free: the
accumulator takes the unit and waits for the pages of its set (R8, R9, R209). CIPHER_CODEWORD_DONE of a pair that runs a
codeword, without a mismatch: CODEWORDS counts and nothing else changes but the quadrants' own state (R362); with one, and
a spare that agrees: MISMATCH counts, the pair's STATE is 3 and a message waits on its source 0 (R366, R367). -/
def Obligations.ChannelsStripesAndPairsAreKept : Prop :=
  (∀ (c : FcIx) (bus : Nat) (r : List DieInit) (s : State), s.flag Reg.SEQ_STATUS_RAILS_UP = true →
      s.flag Reg.CFG_STATUS_SEALED = true → s.domainGood 2 (c.val / 4) = true → s.get (Reg.FC_STATUS_STATE c) < 2 → bus < 3 →
      ∃ t, exec (.flashChannelInit c bus r) s = .next t ∧ t.get (Reg.FC_STATUS_STATE c) = 2) ∧
  (∀ (c : FcIx) (s : State), s.get (Reg.FC_STATUS_STATE c) ≠ 3 →
      ∃ t, exec (.fcFailed c) s = .next t ∧ t.get (Reg.FC_STATUS_STATE c) = 3 ∧ t.pends (srcFc c 0) = true) ∧
  (∀ (pos u : Nat) (s : State) (x : StripeSet), s.stripe pos u = some x → s.closeDue x = true → s.parityChan pos u ≠ none →
      (∀ n : DieIx, (s.die n).units = []) →
      ∃ t, exec (.stripeClose pos u) s = .next t ∧ ∃ y, t.stripe pos u = some y ∧ y.closed = true ∧ y.members = x.members) ∧
  (∀ (n : DieIx) (s : State) (u pc : Nat) (members : List Nat), s.get (Reg.DIE_STATUS_STATE n) = 4 → s.image.rebuild = none →
      (s.die n).rebuild.find? (s.live n) = some u → s.setMembers (posOf n) u = some (pc, members) → s.canRebuild n u [] = true →
      ∃ t, exec (.dieRebuildRelocate n) s = .next t ∧ t.image.rebuild =
          some { die := n, unit := u, wait := (members.filter fun c => decide (c ≠ chanOf n)) ++ [pc] } ∧
        t.dram = s.dram ∧ t.image.ledger = s.image.ledger) ∧
  (∀ (p : PairIx) (b : Bool) (s : State) (j : CipherJob),
      (s.quad (p.val / 13)).ciph.find? (fun j => j.running.any fun x => decide (x.1 = p.val % 13)) = some j →
      ∃ t, exec (.cipherCodewordDone p false b) s = .next t ∧
        t.get (Reg.PAIR_COUNT_CODEWORDS_COUNT p) = min (2 ^ 32 - 1) (s.get (Reg.PAIR_COUNT_CODEWORDS_COUNT p) + 1) ∧
        (∀ x, x ≠ (Reg.PAIR_COUNT_CODEWORDS_COUNT p).off → t.rd x = s.rd x) ∧
        { t with regs := s.regs, out := s.out, quads := s.quads } = s) ∧
  (∀ (p : PairIx) (s : State) (j : CipherJob),
      (s.quad (p.val / 13)).ciph.find? (fun j => j.running.any fun x => decide (x.1 = p.val % 13)) = some j →
      s.get (Reg.PAIR_STATUS_STATE p) ≠ 3 → p.val % 13 ≠ 12 → s.get (Reg.PAIR_STATUS_STATE (13 * (p.val / 13) + 12)) ≠ 3 →
      ∃ t, exec (.cipherCodewordDone p true false) s = .next t ∧ t.get (Reg.PAIR_STATUS_STATE p) = 3 ∧
        t.get (Reg.PAIR_COUNT_MISMATCH_COUNT p) = min (2 ^ 32 - 1) (s.get (Reg.PAIR_COUNT_MISMATCH_COUNT p) + 1) ∧
        t.pends (srcPair p 0) = true)

/-- JOURNAL_FLUSH that is due, with the ledger's key: the first 4,080 entries are handed to a die as one unit and the sequence
number goes on by one (R190). CHECKPOINT_START of the first quadrant at a multiple of 4,096 superframes in an open run: a
checkpoint of this superframe is in progress and the quadrant has no changed page left (R191). CHECKPOINT_SEAL once every
quadrant is done, the keys not worn: no checkpoint is in progress, the ledger's superframe is the checkpoint's, and with a
copy written the newest seal is a checkpoint seal (R191, R197). GC_START in a position short of free bands without a
collection in it: the band with the fewest live units is being collected and ACTIVE is 1 (R199, R200). WEAR_LEVEL_RELOCATE
under R310's spread: the least worn closed band is. RELOCATION_UPDATE of a moved version that the ledger still names at
its old place, no version of its patch being recorded in the same cycle: the ledger names the new one (R201, R202).
IMAGE_PATROL_START in a running pass, its pace reached, with a unit left whose die's queue has a place: the read is queued
and the patrol goes on past it (R207). -/
def Obligations.TheImageIsJournalledCheckpointedAndCollected : Prop :=
  (∀ (q : QuadIx) (s : State) (k : Key), s.image.genOpen = true → s.flushDue q = true → s.ledgerKey s.image.gen = some k →
      ∃ t, exec (.journalFlush q) s = .next t ∧ (t.quad q).journal = (s.quad q).journal.drop 4080 ∧
        (t.quad q).journalSeq = ((s.quad q).journalSeq + 1) % 2 ^ 48) ∧
  (∀ (q : QuadIx) (s : State) (k : Key), s.sf % 4096 = 0 → s.image.runOpen = true → s.working = true →
      (s.quad q).ckptStage = 0 → s.image.ckptActive = false → s.image.ckptNew ≠ s.sf → s.ledgerKey s.image.gen = some k →
      ∃ t, exec (.checkpointStart q) s = .next t ∧ t.image.ckptActive = true ∧ t.image.ckptNew = s.sf ∧ (t.quad q).changed = []) ∧
  (∀ (ok : List Bool) (s : State), s.image.ckptActive = true → s.image.ckptWait = [] → s.working = true →
      s.genKeysWorn = false →
      ∃ t, exec (.checkpointSeal ok) s = .next t ∧ t.image.ckptActive = false ∧ t.image.ckptSf = s.image.ckptNew ∧
        (ok.getD 0 false = true → (s.recordDie (copyChan (s.newRecord .sealCheckpoint 0).seq 0)).isSome = true →
          (t.image.seals.head?.map Record.kind) = some .sealCheckpoint)) ∧
  (∀ (pos : Nat) (s : State) (b : Nat), pos < 8 → s.gcMay pos = true → (s.freeBands pos).length < s.get Reg.GC_CTRL_FREE_LOW →
      s.image.eraseBands = [] → (∀ x ∈ s.image.collecting, x.1 ≠ pos) →
      leastBand (fun b => (s.liveInBand pos b).length) (s.closedBands pos) = some b →
      ∃ t, exec (.gcStart pos) s = .next t ∧ t.image.collecting = s.image.collecting ++ [(pos, b)] ∧
      t.flag Reg.GC_STATUS_ACTIVE = true) ∧
  (∀ (pos : Nat) (s : State) (b x : Nat), pos < 8 → s.gcMay pos = true → s.get Reg.GC_CTRL_FREE_LOW ≤ (s.freeBands pos).length →
      leastBand (s.bandWear pos) (s.closedBands pos) = some b → x ∈ s.closedBands pos →
      s.bandWear pos b + 16 * max 16 (s.get (Reg.FC_WEAR_SPREAD 0)) < s.bandWear pos x → (∀ y ∈ s.image.collecting, y.1 ≠ pos) →
      ∃ t, exec (.wearLevelRelocate pos) s = .next t ∧ t.image.collecting = s.image.collecting ++ [(pos, b)]) ∧
  (∀ (d : DieIx) (u mates : Nat) (s : State) (r : Reloc) (p ld g c lo : Nat) (k : Key) (l : List Host.Cell) (b : BitVec 1024),
      (s.quad (d.val / 32)).relocs.find? (fun r => decide (r.die = d.val) && decide (r.unit = some u) && r.covered) = some r →
      r.body = .data p ld g c k l b → s.ledger p = .version r.fromDie r.fromUnit g lo → quadOf p = d.val / 32 →
      s.matesRecord p mates = false →
      ∃ t, exec (.relocationUpdate d u mates) s = .next t ∧ t.ledger p = .version r.die u g lo ∧
      r ∉ (t.quad (d.val / 32)).relocs ∧
        t.dram = s.dram) ∧
  (∀ (q : QuadIx) (s : State) (a n u : Nat), s.working = true → s.flag Reg.PERS_STATUS_MEDIA_READY = true →
      s.flag Reg.PERS_STATUS_RESTORE_PENDING = false → s.image.patrolDone.contains q.val = false →
      s.image.patrolStart = some a → a ≤ s.now → (s.patrolLeft q).head? = some (n, u) → s.patrolDue q = true →
      (s.die n).hasPlace { order := 7, kind := .read u .patrol, quad := q, entered := 0 } = true → (s.die n).held = [] →
      ∃ t, exec (.imagePatrolStart q) s = .next t ∧ (∃ o ∈ (t.die n).queue, o.kind = .read u .patrol ∧ o.order = 7) ∧
        sparseGet 0 t.image.patrolPos q = patrolKey (n, u) + 1)

/-- CASCADE_TRAIN_RECEIVED of 1 to 31 pulses by a sealed device without a position: its position is the number of pulses and
it sends one pulse more (R439). CASCADE_MASTER_TRAIN by a discovering master, at most every 16 superframes: one pulse is
sent (R439). CASCADE_TIMEOUT of a sealed device that found no position: it is standalone, its position reads 63 and a
message waits on source 0x4A5 (R440). STATUS_POLL answered to the discovering master: the position counts as a member and
its bit of MEMBERS.MAP is 1 (R441). DISCOVERY_END when every member answered or the time is over: discovery ends and
POWER_UP is sent with the stagger (R441). POWER_UP heard by a member for the first time: its power-up is due its position
times the stagger later (R441). GROUP_POWER_UP_START of a member in boot, sealed, at its time: the device powers up and
its main rails count as started (R441). -/
def Obligations.TheCascadeFindsPositionsAndStarts : Prop :=
  (∀ (k : Nat) (s : State), s.mainOff = false → s.isSealed = true → s.isMaster = false →
      s.flag Reg.SEQ_GROUP_STATUS_STANDALONE = false → s.position = 63 → 1 ≤ k → k ≤ 31 →
      ∃ t, exec (.cascadeTrainReceived k) s = .next t ∧ t.position = k ∧ t.out = [.train (k + 1)] ∧ t.group.positionAt = s.now) ∧
  (∀ s : State, s.isHeadOfGroup = true → s.group.discovering = true → (∀ a, s.group.trainSf = some a → a + 16 ≤ s.sf) →
      exec .cascadeMasterTrain s = .next { s with out := [.train 1], group := { s.group with trainSf := some s.sf } }) ∧
  (∀ s : State, s.mainOff = false → s.isSealed = true → s.position = 63 → s.flag Reg.SEQ_GROUP_STATUS_STANDALONE = false →
      s.group.sealedAt + s.discoverTime ≤ s.now →
      ∃ t, exec .cascadeTimeout s = .next t ∧ t.flag Reg.SEQ_GROUP_STATUS_STANDALONE = true ∧ t.position = 63 ∧
      t.pends 0x4A5 = true) ∧
  (∀ (p : PosIx) (a : Nat) (s : State), s.isHeadOfGroup = true → s.group.discovering = true → 1 ≤ p.val →
      ∃ t, exec (.statusPoll p (some a)) s = .next t ∧ (t.member p).answered = true ∧
        t.get Reg.SEQ_MEMBERS_MAP = s.get Reg.SEQ_MEMBERS_MAP ||| 2 ^ p.val) ∧
  (∀ s : State, s.isHeadOfGroup = true → s.group.discovering = true → s.group.sealedAt + s.discoverTime ≤ s.now →
      ∃ t, exec .discoveryEnd s = .next t ∧ t.group.discovering = false ∧
      .burnor 0x02 none [s.get Reg.SEQ_GROUP_STAGGER_MS] ∈ t.out) ∧
  (∀ (s : State) (a : Nat), s.isMember = true → s.group.powerUpAt = some a → a ≤ s.now → s.flag Reg.CFG_STATUS_SEALED = true →
      s.seq.mainStarted = false → s.seq.offWaiting = false → s.seq.power = .boot →
      ∃ t, exec .groupPowerUpStart s = .next t ∧ t.seq.power = .powerUp ∧ t.seq.mainStarted = true) ∧
  (∀ (stagger : Nat) (s : State), s.isMember = true → s.group.powerUpAt = none →
      ∃ t, exec (.powerUp stagger) s = .next t ∧
      t.group = { s.group with powerUpAt := some (s.now + ms (s.position * (stagger % 65536))) } ∧
        t.regs = s.regs ∧ t.out = [])

/-- GRP_FAULT_ASSERT from outside: GF_IN is 1 and a message waits on source 0x4A6; with SAVE_CTRL.GRP_FAULT_SAVE on an armed
device without a save, a save of cause 4 is detected (R442). SYNC heard by a member: the period is the one sent and
MASTER_SEEN is 1; due at the master: a period begins and SYNC is sent (R443). FP_REPORT at the master: the member's epoch
and fingerprint are kept; it stands as differing in this period where its fingerprint is not the master's, and one that
agrees starts the count of differing periods again (R50). SAVE_NOTE of cause 2 at a master that relays: GROUP_SAVE is sent
(R445). GROUP_SAVE heard with GROUP_EN by an armed device without a save: a save of cause 4 is detected. MASTER_LOST of a
member that misses it: MASTER_SEEN is 0 (R446). -/
def Obligations.TheGroupSharesFaultsAndSaves : Prop :=
  (∀ s : State, s.mainOff = false → s.pins.grpFaultOut = false → s.pins.grpDrove = none →
      ∃ t, exec .grpFaultAssert s = .next t ∧ t.pins.grpFaultIn = true ∧ t.flag Reg.SEQ_STATUS_GF_IN = true ∧
      t.pends 0x4A6 = true ∧
        (s.flag Reg.SAVE_CTRL_GRP_FAULT_SAVE = true → s.flag Reg.SEQ_STATUS_ARMED = true →
          s.flag Reg.PERS_STATUS_SAVE_ACTIVE = false → s.save.frame0 = none →
          t.save.frame0 = some s.frame ∧ t.save.causes = [4])) ∧
  (∀ (period size : Nat) (s : State), s.isMember = true → s.isHeadOfGroup = false →
      ∃ t, exec (.sync period size) s = .next t ∧ t.group.period = period % 65536 ∧ t.group.syncHeard = some s.sf ∧
        t.group.fpSent = false ∧ t.flag Reg.SEQ_GROUP_STATUS_MASTER_SEEN = true) ∧
  (∀ (period size : Nat) (s : State), s.isHeadOfGroup = true → s.group.discovering = false → s.group.period = 0 →
      ∃ t, exec (.sync period size) s = .next t ∧ t.group.period = 1 ∧ t.group.syncSf = s.sf ∧
        .burnor 0x01 none [1, s.get Reg.SEQ_GROUP_SIZE_M1] ∈ t.out) ∧
  (∀ (p : PosIx) (epoch fp : Nat) (s : State), s.isHeadOfGroup = true → 1 ≤ p.val →
      ∃ t, exec (.fpReport p epoch fp) s = .next t ∧ (t.member p).fp = some (epoch % 65536, fp % 2 ^ 64) ∧
      (t.member p).missed = 0 ∧
        (t.member p).offNow = !decide (fp % 2 ^ 64 = s.get64 0x010308 0x01030C) ∧
        (t.member p).differs = (if fp % 2 ^ 64 = s.get64 0x010308 0x01030C then 0 else (s.member p).differs)) ∧
  (∀ (p : PosIx) (s : State), s.isHeadOfGroup = true → s.flag Reg.SEQ_GROUP_SAVE_RELAY = true →
      exec (.saveNote p 2) s = .next { s with out := [.burnor 0x0B none [s.get Reg.SEQ_GROUP_RELAY_OFF]] }) ∧
  (∀ (down : Bool) (s : State), s.inGroup = true → s.mainOff = false → s.flag Reg.SAVE_CTRL_GROUP_EN = true →
      s.flag Reg.SEQ_STATUS_ARMED = true → s.flag Reg.PERS_STATUS_SAVE_ACTIVE = false → s.save.frame0 = none →
      ∃ t, exec (.groupSave down) s = .next t ∧ t.save.frame0 = some s.frame ∧ t.save.causes = [4] ∧ t.save.groupOff = down) ∧
  (∀ s : State, s.isMember = true → s.masterless = true →
      ∃ t, exec .masterLost s = .next t ∧ t.flag Reg.SEQ_GROUP_STATUS_MASTER_SEEN = false ∧
      t.gauge = { s.gauge with chgWanted := false })

/-- CHG_REQ at the master of a member that holds no grant, with room: a member gets a grant and CHG_GRANT is sent, or the
request stays pending (R443, R444). CHG_GRANT heard by a member that wants it: it may charge (R396). CHG_END at the
master: the member holds no grant and has no request pending. LEARN_REQ at a master without a learner and no other
request: the member learns and LEARN_GRANT is sent to it (R444). LEARN_GRANT heard in PHASE 1 or 2: LEARN_STATUS.PERMIT is
1 (R400). LEARN_END at the master of the learner with no request pending: no member learns, LEARNER reads 63 (R444). -/
def Obligations.TheMasterGrantsChargeAndLearning : Prop :=
  (∀ (p : PosIx) (s : State), s.isHeadOfGroup = true → 1 ≤ p.val → (s.member p).chgGrant = false → s.chgRoom = false →
      ∃ t, exec (.chgReq p) s = .next t ∧ (t.member p).chgPend = true ∧ (t.member p).chgGrant = false ∧ t.regs = s.regs) ∧
  (∀ (p : PosIx) (s : State), s.isHeadOfGroup = true → 1 ≤ p.val → s.group.members = [] → 1 ≤ s.get Reg.SEQ_GROUP_CHG_MAX →
      s.chgRoom = true →
      ∃ t, exec (.chgReq p) s = .next t ∧ (t.member p).chgGrant = true ∧ (t.member p).chgPend = false ∧
      .burnor 0x05 (some p.val) [] ∈ t.out) ∧
  (∀ s : State, s.isMember = true → s.gauge.chgWanted = true →
      ∃ t, exec .chgGrant s = .next t ∧ t.gauge = { s.gauge with chgGrant := true } ∧
      t.flag Reg.SEQ_GROUP_STATUS_CHG_PERMIT = true) ∧
  (∀ (p : PosIx) (s : State), s.isHeadOfGroup = true → 1 ≤ p.val →
      ∃ t, exec (.chgEnd p) s = .next t ∧ (t.member p).chgPend = false ∧ (t.member p).chgGrant = false) ∧
  (∀ (p : PosIx) (s : State), s.isHeadOfGroup = true → 1 ≤ p.val → s.group.learner = none → s.group.learnPend = [] →
      ∃ t, exec (.learnReq p) s = .next t ∧ t.group.learner = some p.val ∧ t.group.learnPend = [] ∧
        t.get Reg.SEQ_GROUP_STATUS_LEARNER = p.val ∧ .burnor 0x08 (some p.val) [] ∈ t.out) ∧
  (∀ s : State, s.isMember = true → s.get Reg.LEARN_STATUS_PHASE = 1 →
      ∃ t, exec .learnGrant s = .next t ∧ t.flag Reg.LEARN_STATUS_PERMIT = true ∧
      t.flag Reg.SEQ_GROUP_STATUS_LEARN_PERMIT = true ∧
        t.gauge = { s.gauge with learnGrant := true }) ∧
  (∀ (p : PosIx) (s : State), s.isHeadOfGroup = true → 1 ≤ p.val → s.group.learner = some p.val → s.group.learnPend = [] →
      ∃ t, exec (.learnEndMsg p) s = .next t ∧ t.group.learner = none ∧ t.get Reg.SEQ_GROUP_STATUS_LEARNER = 63)

/-- With the AON domain powered: TW0_PAGE_WRITE sets TW0_PAGE, TW0_PAGE_READ returns it, TW0_STATUS_READ returns the status
byte and TW0_OTHER_COMMAND_BYTE outside 0Fh to 13h is not acknowledged (R450). TW0_REG_WRITE of fewer than two bytes:
MALFORMED is 1 and a message waits on source 0x442 (R451). TW0_REG_READ of no more than four bytes inside one register
returns that many bytes (R453). TW0_BLOCK_READ of a count outside 1 to 32 is not acknowledged; that is the model's
reading. TW0_MCTP_PACKET that starts and ends a short control message with correct PEC: the message goes to the management
cluster and no packet is kept (R459, R460). TW0_MCTP_RESPONSE that is sent: it leaves the list (R461). TW0_TIMEOUT:
TIMEOUT is 1 and a message waits on source 0x441 (R455). TW0_AON_WAKE while the AON copy serves: it is awake now (R456);
TW0_AON_SLEEP 100 ms after the latest match, or with the copy no longer serving: it sleeps (R458). -/
def Obligations.TheTw0TargetAnswers : Prop :=
  (∀ (b : Byte) (s : State), s.tick.aonPowered = true →
      (∃ t, exec (.tw0PageWrite b) s = .next t ∧ t.get Reg.TW0_PAGE_PAGE = b.toNat) ∧
      (∃ t, exec .tw0PageRead s = .next t ∧ t.out = [.bytes [BitVec.ofNat 8 s.tw0Page]] ∧ t.regs = s.regs) ∧
      (∃ t, exec .tw0StatusRead s = .next t ∧ t.out = [.bytes [s.tw0StatusByte]] ∧ t.regs = s.regs) ∧
      (b.toNat < 0x0F ∨ 0x13 < b.toNat → ∃ t, exec (.tw0OtherCommandByte b) s = .next t ∧ t.out = [.nack] ∧ t.regs = s.regs)) ∧
  (∀ (l : List Byte) (s : State), s.tick.aonPowered = true → l.length < 2 →
      ∃ t, exec (.tw0RegWrite l) s = .next t ∧ t.flag Reg.TW0_STATUS_MALFORMED = true ∧ t.pends 0x442 = true) ∧
  (∀ (ptr n : Nat) (s : State), s.tick.aonPowered = true → n ≤ 32 →
      ∃ t, exec (.tw0RegRead ptr n) s = .next t ∧ ∃ l, t.out = [.bytes l] ∧ l.length = n) ∧
  (∀ (ptr n : Nat) (s : State), s.tick.aonPowered = true →
      (1 ≤ n → n ≤ 32 → ∃ t, exec (.tw0BlockRead ptr n) s = .next t ∧ ∃ l, t.out = [.bytes l] ∧ l.length = n + 1) ∧
      (n = 0 ∨ 32 < n → ∃ t, exec (.tw0BlockRead ptr n) s = .next t ∧ t.out = [.nack] ∧ t.regs = s.regs)) ∧
  (∀ (p : MctpPacket) (s : State), s.tick.aonPowered = true → s.mctpReady = true → s.tw0.mctp = none → p.pecOk = true →
      p.som = true → p.eom = true → p.data.length ≤ 64 → (p.data.headD 0xFF#8).toNat % 128 = 0 →
      ∃ t, exec (.tw0MctpPacket p) s = .next t ∧ t.out = [.mctpMessage p.src p.tag p.data] ∧ t.tw0.mctp = none ∧
      t.regs = s.regs) ∧
  (∀ (s : State) (r : RetCode × List Nat) (l : List (RetCode × List Nat)), s.tw0.replies = r :: l → s.aonServes = false →
      exec (.tw0MctpResponse true) s = .next { s with out := [.mctp r.1 r.2], tw0 := { s.tw0 with replies := l, retries := 0 } }) ∧
  (∀ s : State, s.aonServes = false →
      ∃ t, exec .tw0Timeout s = .next t ∧ t.flag Reg.TW0_STATUS_TIMEOUT = true ∧ t.pends 0x441 = true) ∧
  (∀ s : State, s.tick.aonPowered = true → s.aonServes = true →
      exec .tw0AonWake s = .next { s with out := [], tw0 := { s.tw0 with aonAwake := true, aonMatch := s.now } }) ∧
  (∀ s : State, s.tw0.aonAwake = true → s.aonServes = false ∨ s.tw0.aonMatch + ms 100 ≤ s.now →
      exec .tw0AonSleep s = .next { s with out := [], tw0 := { s.tw0 with aonAwake := false } })

/-- TW_TRANSACTION_START on a free segment that is not hung and has been cleared since its controller's latest reset (R467,
R474), of the one request its requester may make: it runs, BUSY is 1 and it goes out (R463). TW_TRANSACTION_END: BUSY is
0, LAST is the result's code, no transaction runs; one that failed counts, and a PEC error also waits as a message on the
segment's source 5 (R465, R470). TW_ARB_RETRY on TW1 or TW4 below the sixteenth loss in a row: the loss counts and the
transaction goes out again (R471). TW_SCL_TIMEOUT: the transaction ends with code 5, SCL_TIMEOUT is 1, a message waits on
source 0 of the segment (R466). TW_SDA_TIMEOUT: SDA_TIMEOUT is 1, a message waits on source 1 (R467). BUS_CLEAR that frees
the bus: HUNG is 0 and CLEAR counts; one that does not: HUNG is 1 (R468). TW_HUNG_RETRY 1,024 superframes later that frees
it: HUNG is 0. -/
def Obligations.TheTwoWireSegmentsWork : Prop :=
  (∀ (k : TwIx) (r : TwReq) (s : State), s.twServes (segNo k) r = true → s.twRuns = true → (s.tw (segNo k)).current = none →
      s.flag (Reg.TW_STATUS_HUNG (segNo k)) = false → (s.tw (segNo k)).clearFirst = false →
      ∃ t, exec (.twTransactionStart k [r]) s = .next t ∧ (t.tw (segNo k)).current = some r ∧
      t.flag (Reg.TW_STATUS_BUSY (segNo k)) = true ∧
        t.out = [.twTx (segNo k) r.addr r.bytes r.reads]) ∧
  (∀ (k : TwIx) (r : TwResult) (l : List Byte) (s : State) (q : TwReq), (s.tw (segNo k)).current = some q → s.twRuns = true →
      r ≠ .conflict →
      ∃ t, exec (.twTransactionEnd k r l) s = .next t ∧ (t.tw (segNo k)).current = none ∧
      t.flag (Reg.TW_STATUS_BUSY (segNo k)) = false ∧
        t.get (Reg.TW_STATUS_LAST (segNo k)) = twCode r ∧ (r = .pecErr → t.pends (srcTw (segNo k) 5) = true)) ∧
  (∀ (k : TwIx) (b : Fin 16) (s : State) (q : TwReq), (s.tw (segNo k)).current = some q → s.twRuns = true →
      (segNo k = 1 ∨ segNo k = 4) → (s.tw (segNo k)).losses < 15 →
      ∃ t, exec (.twArbRetry k b) s = .next t ∧ (t.tw (segNo k)).current = some q ∧
      (t.tw (segNo k)).losses = (s.tw (segNo k)).losses + 1 ∧
        t.out = [.twTx (segNo k) q.addr q.bytes q.reads]) ∧
  (∀ (k : TwIx) (b : Bool) (s : State) (q : TwReq), (s.tw (segNo k)).current = some q → s.twRuns = true →
      ∃ t, exec (.twSclTimeout k b) s = .next t ∧ (t.tw (segNo k)).current = none ∧ t.get (Reg.TW_STATUS_LAST (segNo k)) = 5 ∧
        t.flag (Reg.TW_STATUS_SCL_TIMEOUT (segNo k)) = true ∧ t.pends (srcTw (segNo k) 0) = true) ∧
  (∀ (k : TwIx) (s : State), s.twRuns = true →
      ∃ t, exec (.twSdaTimeout k) s = .next t ∧ t.flag (Reg.TW_STATUS_SDA_TIMEOUT (segNo k)) = true ∧
      t.pends (srcTw (segNo k) 1) = true) ∧
  (∀ (k : TwIx) (f : Option (Fin 3)) (s : State), s.twRuns = true →
      ∃ t, exec (.busClear k f) s = .next t ∧ t.flag (Reg.TW_STATUS_HUNG (segNo k)) = f.isNone ∧ (t.tw (segNo k)).hungSf = s.sf ∧
        (f = none → s.flag (Reg.TW_STATUS_HUNG (segNo k)) = false → t.pends (srcTw (segNo k) 2) = true)) ∧
  (∀ (k : TwIx) (f : Option (Fin 3)) (s : State), s.twRuns = true → s.flag (Reg.TW_STATUS_HUNG (segNo k)) = true →
      (s.tw (segNo k)).hungSf + 1024 ≤ s.sf →
      ∃ t, exec (.twHungRetry k f) s = .next t ∧ t.flag (Reg.TW_STATUS_HUNG (segNo k)) = f.isNone ∧
      (t.tw (segNo k)).hungSf = s.sf)

/-- FAULT_MESSAGE_RAISE with the main domain on: a message waits on the source it names (R476, R478). FAULT_MESSAGE_DELIVERY
of one segment, after the FIRST_CLR, NEXT_POP and ALERT_RESPONSE of its frame (R493), with a message waiting that its
source records, of severity FIRST_MIN or more, and no first entry held: EVT_FIRST holds that message and its segment and
FIRST_VALID is 1 (R479, R484); one whose check fails sets RING_ERR and a message waits on source 0x4ED (R480). FIRST_CLR
that no delivery of its frame carried out: no first entry is held, FIRST_VALID and WORST are 0 (R485). NEXT_POP: the
oldest further entry is gone and NEXT_FILL is the number left (R486). GF_RELEASE: no GF hold of two frames or more is left
(R488). ALERT_PEND_CLEAR: ALERT_PEND is 0 and no alert waits. ALERT_RESPONSE that wins with ALERT_N low: TW0's address is
returned and no alert waits (R462). LOCKSTEP_MISMATCH of the active pair with a standby: the other pair is active and no
standby is left; without one, the cluster is halted (R492). ON_REQ: the on request is latched and a message waits on
source 0x446 (R457). -/
def Obligations.EventsAreRaisedDeliveredAndCleared : Prop :=
  (∀ (m : RaiseIn) (s : State), s.mainOff = false →
      ∃ t, exec (.faultMessageRaise m) s = .next t ∧ t.pends m.src = true ∧
        t.get (Reg.EVT_COUNT_RAISED m.src) = min (2 ^ (Reg.EVT_COUNT_RAISED m.src).width - 1) (s.get (Reg.EVT_COUNT_RAISED m.src) + 1)) ∧
  (∀ (seg : Fin 5) (mates : Nat) (s : State) (m : FaultMsg), s.mainOff = false → s.events.lost = false →
      (s.each (s.pending.take mates) State.clearAhead).segWinner seg = some m →
      (s.each (s.pending.take mates) State.clearAhead).flag Reg.EVT_STATUS_FIRST_VALID = false →
      s.flag (Reg.EVT_CFG_RECORD m.src) = true → s.get Reg.EVT_CTRL_FIRST_MIN ≤ m.sev →
      ∃ t, exec (.faultMessageDelivery [⟨seg, false⟩] mates) s = .next t ∧ t.flag Reg.EVT_STATUS_FIRST_VALID = true ∧
        ∃ e, t.events.first = some e ∧ e.msg = m ∧ e.seg = seg.val) ∧
  (∀ (seg : Fin 5) (mates : Nat) (s : State) (m : FaultMsg), s.mainOff = false → s.events.lost = false →
      (s.each (s.pending.take mates) State.clearAhead).segWinner seg = some m →
      ∃ t, exec (.faultMessageDelivery [⟨seg, true⟩] mates) s = .next t ∧ t.flag Reg.EVT_STATUS_RING_ERR = true ∧
      t.pends 0x4ED = true ∧
        t.events.first = (s.each (s.pending.take mates) State.clearAhead).events.first) ∧
  (∀ (p : PathIx) (s : State), s.served p = true → s.writeShut p 0x020000 = false →
      (s.events.earlyClr = 0 → ∃ t, exec (.firstClr p) s = .next t ∧ t.events = { s.events with first := none } ∧
      t.flag Reg.EVT_STATUS_FIRST_VALID = false ∧
        t.get Reg.EVT_STATUS_WORST = 0) ∧
      (s.events.earlyPop = 0 → s.events.next.length ≤ 256 → ∃ t, exec (.nextPop p) s = .next t ∧
      t.events = { s.events with next := s.events.next.tail } ∧
        t.get Reg.EVT_STATUS_NEXT_FILL = s.events.next.length - 1) ∧
      (∃ t, exec (.gfRelease p) s = .next t ∧ ∀ f ∈ t.events.gfHolds, s.frame < f + 2)) ∧
  (∀ (p : PathIx) (s : State), s.served p = true → s.writeShut p 0x020004 = false →
      ∃ t, exec (.alertPendClear p) s = .next t ∧ t.events = { s.events with alerts := [] } ∧
      t.flag Reg.EVT_STATUS_ALERT_PEND = false) ∧
  (∀ s : State, s.tick.aonPowered = true → s.pins.alertN = false → s.events.earlyAlert = 0 →
      ∃ t, exec (.alertResponse true) s = .next t ∧ t.out = [.bytes [BitVec.ofNat 8 (2 * s.tw0.addr + 1)]] ∧
      t.events.alerts = []) ∧
  (∀ (k : Fin 2) (s : State), s.cluster.running = true → s.mainOff = false → k.val = s.cluster.activePair →
    s.cluster.halted = false →
      ∃ t, exec (.lockstepMismatch k) s = .next t ∧ t.pends (srcMgmt k) = true ∧
        (if s.cluster.standby then t.cluster.activePair = 1 - s.cluster.activePair ∧ t.cluster.standby = false ∧
        t.cluster.running = true
         else t.cluster.halted = true ∧ t.cluster.running = false)) ∧
  (∀ (p : PathIx) (s : State), s.served p = true → s.writeShut p 0x07000C = false →
      ∃ t, exec (.onReq p) s = .next t ∧ t.seq.onLatch = true ∧ t.flag Reg.SEQ_STATUS_ON_LATCH = true ∧ t.pends 0x446 = true)

/-- For a management function that is served outside RECOVERY and a save: TRANSFER_FW_INITIATE with no lock held, taken by no
other function's command of the frame, a slot of 1 to 4 not in use and an acceptable header: the reply is Success, LOCK is
1, PHASE 1 and the staging holds the header (R526, R527). TRANSFER_FW_CONTINUE of the owner's next part, in time and
programmed: Success, and the next offset follows it (R527, R528). TRANSFER_FW_END of such a part that completes an image
whose checks and copy succeed: Success, LOCK is 0, and slot 1 or 2 holds the image without an activation record (R528).
TRANSFER_FW_ABORT by the owner: Success, nothing is staged, LOCK is 0. UPDATE_LOCK_IDLE_TIMEOUT when no part came for the
idle time: nothing is staged, LOCK and OWNER are 0 (R527). ACTIVATE_FW_OFFLINE of a firmware slot with an image: Success,
and its activation record takes the next number (R521, R529). ACTIVATE_FW_ONLINE of one that may run live: the cluster
restarts from it, RUNNING names it, PHASE is 5 (R530). -/
def Obligations.UpdatesAreTransferredAndActivated : Prop :=
  (∀ (fn : FnIx) (slot : Nat) (h : ImageHdr) (s : State), s.fnServed fn = true → s.inRecovery = false → s.isMgmtFn fn = true →
      s.flag Reg.PERS_STATUS_SAVE_ACTIVE = false → s.lockHeld = false → 1 ≤ slot → slot ≤ 4 → s.slotInUse slot = false →
      s.headerOk slot h = true → s.lockLost (.transferFwInitiate fn slot h) = false →
      ∃ t, exec (.transferFwInitiate fn slot h) s = .next t ∧ .mailbox fn .success [] ∈ t.out ∧
      t.flag Reg.UPD_STATUS_LOCK = true ∧
        t.get Reg.UPD_STATUS_PHASE = 1 ∧ t.get Reg.UPD_STATUS_OWNER = s.ownerOf fn % 4 ∧
        t.upd.staging = some { slot := slot, hdr := h, next := hdrBytes h, at_ := s.now }) ∧
  (∀ (fn : FnIx) (p : FwPart) (s : State) (x : Staging), s.fnServed fn = true → s.inRecovery = false → s.isMgmtFn fn = true →
      s.flag Reg.PERS_STATUS_SAVE_ACTIVE = false → s.upd.staging = some x → s.now ≤ x.at_ + s.idleTime →
      s.partRefused fn p x = none →
      ∃ t, exec (.transferFwContinue fn p) s = .next t ∧ .mailbox fn .success [] ∈ t.out ∧
        t.upd.staging = some { x with next := x.next + p.len, at_ := s.now }) ∧
  (∀ (fn : FnIx) (p : FwPart) (s : State) (x : Staging) (h : FwHdr), s.fnServed fn = true → s.inRecovery = false →
      s.isMgmtFn fn = true → s.flag Reg.PERS_STATUS_SAVE_ACTIVE = false → s.upd.staging = some x → s.now ≤ x.at_ + s.idleTime →
      s.partRefused fn p x = none →
      s.stagedOk x.hdr (x.next + p.len) = true → (x.slot = 1 ∨ x.slot = 2) → x.hdr = .fw h →
      ∃ t, exec (.transferFwEnd fn p true) s = .next t ∧ .mailbox fn .success [] ∈ t.out ∧ t.flag Reg.UPD_STATUS_LOCK = false ∧
        t.upd.staging = none ∧ t.fwSlot (x.slot - 1) = { image := some h, act := none }) ∧
  (∀ (fn : FnIx) (s : State), s.fnServed fn = true → s.inRecovery = false → s.isMgmtFn fn = true → s.upd.staging.isSome = true →
      s.get Reg.UPD_STATUS_OWNER = s.ownerOf fn →
      ∃ t, exec (.transferFwAbort fn) s = .next t ∧ .mailbox fn .success [] ∈ t.out ∧ t.upd = { s.upd with staging := none } ∧
        t.flag Reg.UPD_STATUS_LOCK = false) ∧
  (∀ (s : State) (x : Staging), s.upd.staging = some x → x.at_ + s.idleTime < s.now →
      ∃ t, exec .updateLockIdleTimeout s = .next t ∧ t.upd = { s.upd with staging := none } ∧ t.flag Reg.UPD_STATUS_LOCK = false ∧
        t.get Reg.UPD_STATUS_OWNER = 0 ∧ t.get Reg.UPD_STATUS_PHASE = 0) ∧
  (∀ (fn : FnIx) (slot : Nat) (b : Bool) (s : State), s.fnServed fn = true → s.inRecovery = false → s.isMgmtFn fn = true →
      s.flag Reg.PERS_STATUS_SAVE_ACTIVE = false → s.slotHolds slot = true → (slot = 1 ∨ slot = 2) →
      ∃ t, exec (.activateFwOffline fn slot b) s = .next t ∧ .mailbox fn .success [] ∈ t.out ∧
        (t.fwSlot (slot - 1)).act = some s.nextActSeq ∧ t.cluster = s.cluster) ∧
  (∀ (fn : FnIx) (slot : Nat) (s : State), s.fnServed fn = true → s.inRecovery = false → s.isMgmtFn fn = true →
      s.flag Reg.PERS_STATUS_SAVE_ACTIVE = false → s.liveOk slot = true →
      ∃ t, exec (.activateFwOnline fn slot) s = .next t ∧ t.get Reg.UPD_STATUS_RUNNING = slot - 1 ∧
      t.get Reg.UPD_STATUS_PHASE = 5 ∧
        t.cluster.running = true ∧ t.cluster.bootOk = false ∧ (t.fwSlot (slot - 1)).act = some s.nextActSeq ∧
        t.upd.online = some (fn, s.get Reg.UPD_STATUS_RUNNING))

/-- On a function that is served outside RECOVERY, each of these commands replies Success and changes no register: IDENTIFY
with the device's identity words and serial number, GET_EVENT_INTERRUPT_POLICY, GET_FW_INFO, GET_TIMESTAMP with the host's
time (R24), GET_SUPPORTED_LOGS with the one log and its length, GET_LOG with the opcodes served and their effects,
IDENTIFY_MEMORY_DEVICE and GET_PARTITION_INFO in units of 256 MiB (R56, R334), GET_ALERT_CONFIGURATION, GET_SHUTDOWN_STATE
(R81), GET_SCAN_MEDIA_RESULTS (R341), GET_EVENT_RECORDS of logs 0 to 3 (R335), GET_SCAN_MEDIA_CAPABILITIES of a range of
the function, GET_HEALTH_INFO. On a management function also GET_LEARN_STATUS (R399), GET_KEY_SLOT_STATUS outside a save
(R347) and GET_VENDOR_LOG of 1 to 60 records of a type (R570). In RECOVERY those that it does not serve reply Unsupported
(R334, R534). The order of a reply's fields is the model's. -/
def Obligations.MailboxReadsAnswer : Prop :=
  (∀ (fn : FnIx) (s : State), s.fnServed fn = true → s.inRecovery = false →
      (∃ t, exec (.identify fn) s = .next t ∧
        .mailbox fn .success [(s.rd 0x000000).toNat, (s.rd 0x000004).toNat, s.get64 0x00000C 0x000010] ∈ t.out ∧
        t.regs = s.regs) ∧
      (∃ t, exec (.getEventInterruptPolicy fn) s = .next t ∧ .mailbox fn .success (s.ld fn).policy ∈ t.out ∧ t.regs = s.regs) ∧
      (∃ t, exec (.getFwInfo fn) s = .next t ∧ .mailbox fn .success ([4, 1 + s.get Reg.UPD_STATUS_RUNNING] ++ fwInfo s.upd.fwA ++
        fwInfo s.upd.fwB ++ cfgInfo s.upd.cfgA ++ cfgInfo s.upd.cfgB) ∈ t.out ∧ t.regs = s.regs) ∧
      (∃ t, exec (.getTimestamp fn) s = .next t ∧ .mailbox fn .success [s.hostTime s.now] ∈ t.out ∧ t.regs = s.regs) ∧
      (∃ t, exec (.getSupportedLogs fn) s = .next t ∧
        .mailbox fn .success [1, 4 * (opcodes (s.isMgmtFn fn)).length] ∈ t.out ∧ t.regs = s.regs) ∧
      (∃ t, exec (.getLog fn) s = .next t ∧ .mailbox fn .success ((opcodes (s.isMgmtFn fn)).flatMap fun op => [op,
      Config.effectWord op]) ∈
        t.out ∧ t.regs = s.regs)) ∧
  (∀ (fn : FnIx) (s : State), s.fnServed fn = true → s.inRecovery = false →
      (∃ t, exec (.identifyMemoryDevice fn) s = .next t ∧
        .mailbox fn .success [(s.ldUnits fn).1, (s.ldUnits fn).2.1, (s.ldUnits fn).1 - (s.ldUnits fn).2.1, 1] ∈ t.out ∧
        t.regs = s.regs) ∧
      (∃ t, exec (.getPartitionInfo fn) s = .next t ∧
        .mailbox fn .success [(s.ldUnits fn).2.1, (s.ldUnits fn).1 - (s.ldUnits fn).2.1, (s.ldUnits fn).2.2,
          (s.ldUnits fn).1 - (s.ldUnits fn).2.2] ∈ t.out ∧ t.regs = s.regs) ∧
      (∃ t, exec (.getAlertConfiguration fn) s = .next t ∧ .mailbox fn .success (s.ld fn).alerts ∈ t.out ∧ t.regs = s.regs) ∧
      (∃ t, exec (.getShutdownState fn) s = .next t ∧
        .mailbox fn .success [s.get Reg.PERS_STATUS_HOST_SHUTDOWN_STATE] ∈ t.out ∧ t.regs = s.regs) ∧
      (∃ t, exec (.getScanMediaResults fn) s = .next t ∧
        .mailbox fn .success ((s.ld fn).scanRes.map (· - (if s.isMgmtFn fn then 0 else s.ldBase fn))) ∈ t.out ∧ t.regs = s.regs) ∧
      (∃ t, exec (.getHealthInfo fn) s = .next t ∧ ∃ life temp vol pers, .mailbox fn .success
        [s.healthStatus, s.mediaStatus fn, life, temp, s.get Reg.PERS_DSC_COUNT, vol, pers] ∈ t.out)) ∧
  (∀ (fn : FnIx) (log start len : Nat) (s : State), s.fnServed fn = true → s.inRecovery = false →
      (log ≤ 3 → ∃ t, exec (.getEventRecords fn log) s = .next t ∧ .mailbox fn .success ([(s.evLog fn log).recs.length,
        (s.evLog fn log).overflow.isSome.toNat, ((s.evLog fn log).overflow.map s.hostTime).getD 0, (s.evLog fn log).lost] ++
        (s.evLog fn log).recs.flatMap s.recordNums) ∈ t.out ∧ t.regs = s.regs) ∧
      ((s.fnRange fn start len).isSome = true → ∃ t, exec (.getScanMediaCapabilities fn start len) s = .next t ∧
        .mailbox fn .success [(len + 3999999) / 4000000] ∈ t.out ∧ t.regs = s.regs)) ∧
  (∀ (fn : FnIx) (k n : Nat) (s : State), s.fnServed fn = true → s.inRecovery = false → s.isMgmtFn fn = true →
      (∃ t, exec (.getLearnStatus fn) s = .next t ∧ .mailbox fn .success [s.get Reg.LEARN_STATUS_PHASE,
      s.get Reg.LEARN_STATUS_PERMIT,
        s.get Reg.LEARN_STATUS_RESULT, s.get Reg.LEARN_STATUS_NS, s.get Reg.LEARN_STATUS_Q_MAH] ∈ t.out ∧ t.regs = s.regs) ∧
      (s.flag Reg.PERS_STATUS_SAVE_ACTIVE = false → k ≤ 63 → ∃ t, exec (.getKeySlotStatus fn k) s = .next t ∧
        .mailbox fn .success [(s.slot k).st.code, (s.slot k).source, (s.slot k).persist.toNat, (s.slot k).use,
        (s.slot k).gen] ∈ t.out ∧
        t.regs = s.regs) ∧
      (1 ≤ k → k ≤ 4 → 1 ≤ n → n ≤ 60 → ∃ t, exec (.getVendorLog fn k 0 n) s = .next t ∧ t.regs = s.regs ∧
        ∃ l, .mailbox fn .success l ∈ t.out ∧
          l.head? = some (min n ((s.seq.ring.filter fun r => decide (r.body.type = k)).length)))) ∧
  (∀ (fn : FnIx) (s : State), s.fnServed fn = true → s.inRecovery = true →
      (∃ t, exec (.getTimestamp fn) s = .next t ∧ .mailbox fn .unsupported [] ∈ t.out) ∧
      (∃ t, exec (.getSupportedLogs fn) s = .next t ∧ .mailbox fn .unsupported [] ∈ t.out) ∧
      (∃ t, exec (.identify fn) s = .next t ∧
        .mailbox fn .success [(s.rd 0x000000).toNat, (s.rd 0x000004).toNat, s.get64 0x00000C 0x000010] ∈ t.out))

/-- On a function that is served outside RECOVERY: CLEAR_EVENT_RECORDS of a whole log leaves it without records (R335).
SET_EVENT_INTERRUPT_POLICY of four settings, SET_ALERT_CONFIGURATION keep them (R342, R334). SET_PARTITION_INFO, not
immediate, of an LD's own function, a multiple of 256 MiB within its size: VOL_NEXT holds it, a learned write is pending
(R56, R57). GET_POISON_LIST of a range of the function replies Success with the entries in it (R332). INJECT_POISON of a
line whose patch waits for no fill: the line is poisoned and listed; CLEAR_POISON: it reads the data given without poison
and leaves the list (R333). SCAN_MEDIA of a range with no background command: Background Started, and the scan is the
function's background command (R341). On a management function: SET_TIMESTAMP makes the host's time the one given now
(R24), SET_SHUTDOWN_STATE of 0 or 1 is kept (R81), REQUEST_LEARN_CYCLE outside a learn makes PHASE 1 (R399). On a function
that serves no such opcode UNSUPPORTED_OPCODE replies Unsupported (R334). -/
def Obligations.MailboxWritesTakeEffect : Prop :=
  (∀ (fn : FnIx) (log : Nat) (l : List Nat) (s : State), s.fnServed fn = true → s.inRecovery = false →
      (log ≤ 3 → ∃ t, exec (.clearEventRecords fn log true []) s = .next t ∧ .mailbox fn .success [] ∈ t.out ∧
      (t.evLog fn log).recs = [] ∧
        t.regs = s.regs) ∧
      (l.length = 4 → ∃ t, exec (.setEventInterruptPolicy fn l) s = .next t ∧ .mailbox fn .success [] ∈ t.out ∧
        (t.ld fn).policy = l.map (· % 256) ∧ t.regs = s.regs) ∧
      (∃ t, exec (.setAlertConfiguration fn l) s = .next t ∧ .mailbox fn .success [] ∈ t.out ∧ (t.ld fn).alerts = l ∧
      t.regs = s.regs)) ∧
  (∀ (k : Fin 16) (fn : FnIx) (v : Nat) (s : State), s.fnServed fn = true → s.inRecovery = false → fn.val = k.val →
      v * unit256 ≤ s.ldSize k → v < 65536 →
      ∃ t, exec (.setPartitionInfo fn (v * unit256) false) s = .next t ∧ .mailbox fn .success [] ∈ t.out ∧
        t.get (Reg.LD_PART_VOL_NEXT k) = v ∧ t.flag Reg.GAUGE_STATUS_WRITE_PENDING = true ∧
        t.pends (srcHead (s.ldHead k) (12 + k)) = true) ∧
  (∀ (fn : FnIx) (start len : Nat) (s : State) (a : Nat), s.fnServed fn = true → s.inRecovery = false →
    s.fnRange fn start len = some a →
      (∃ t, exec (.getPoisonList fn start len) s = .next t ∧ t.regs = s.regs ∧ t.fabric.poisonList = s.fabric.poisonList ∧
        ∃ l, .mailbox fn .success l ∈ t.out ∧
          l.length = 4 + 2 * (s.fabric.poisonList.filter fun e => decide (a ≤ e.1 ∧ e.1 < a + len)).length) ∧
      ((s.ld fn).bg = none → ∃ t, exec (.scanMedia fn start len) s = .next t ∧ .mailbox fn .backgroundStarted [] ∈ t.out ∧
        (t.ld fn).bg = some { kind := .scan a len, ld := fn.val } ∧ (t.ld fn).scanRes = [] ∧ t.regs = s.regs)) ∧
  (∀ (fn : FnIx) (addr : Nat) (d : Line) (s : State) (dpa : Nat), s.fnServed fn = true → s.inRecovery = false →
      s.fnAddr fn addr = some dpa → s.waitsFill dpa = false →
      (∃ t, exec (.injectPoison fn addr) s = .next t ∧ .mailbox fn .success [] ∈ t.out ∧
        ((sparseGet noLines t.poison (patchOf dpa)).getLsbD (dpa / 64 % 1024) = true)) ∧
      (∃ t, exec (.clearPoison fn addr d) s = .next t ∧ .mailbox fn .success [] ∈ t.out ∧
        ((sparseGet noLines t.poison (patchOf dpa)).getLsbD (dpa / 64 % 1024) = false) ∧
        (∀ e ∈ t.fabric.poisonList, e.1 ≠ lineOf dpa))) ∧
  (∀ (fn : FnIx) (v : Nat) (s : State), s.fnServed fn = true → s.inRecovery = false → s.isMgmtFn fn = true →
      (∃ t, exec (.setTimestamp fn v) s = .next t ∧ .mailbox fn .success [] ∈ t.out ∧ t.hostTime t.now = v % 2 ^ 64 ∧
      t.regs = s.regs) ∧
      (v ≤ 1 → ∃ t, exec (.setShutdownState fn v) s = .next t ∧ .mailbox fn .success [] ∈ t.out ∧
        t.get Reg.PERS_STATUS_HOST_SHUTDOWN_STATE = v) ∧
      (s.get Reg.LEARN_STATUS_PHASE = 0 → ∃ t, exec (.requestLearnCycle fn) s = .next t ∧ .mailbox fn .success [] ∈ t.out ∧
        t.get Reg.LEARN_STATUS_PHASE = 1)) ∧
  (∀ (fn : FnIx) (op : Nat) (s : State), s.fnServed fn = true → s.inRecovery = false →
    (opcodes (s.isMgmtFn fn)).contains op = false →
      ∃ t, exec (.unsupportedOpcode fn op) s = .next t ∧ .mailbox fn .unsupported [] ∈ t.out)

/-- SECURE_ERASE and SANITIZE on a tenant function that is served, outside a save, without a background command and a
device-wide erase: the reply is Background Started, the erase is the function's background command, its LD is not ready,
MEDIA_BUSY is 1 (R336, R337). On a management function with no lock held, that no other function's command of the frame
takes: the device is locked for the erase and every LD is not ready (R336). DEVICE_ERASE_KEY_SWITCH once the new keys are
in their record: the keys are switched, no ledger entry is left (R340). BACKGROUND_COMMAND_DONE of a scan on an LD's
function: the function has no background command, MSI-X vector 0 is sent and a message waits on the head's source 8
(R342). -/
def Obligations.ErasesRunInTheBackground : Prop :=
  (∀ (fn : FnIx) (s : State), s.fnServed fn = true → s.inRecovery = false → s.flag Reg.PERS_STATUS_SAVE_ACTIVE = false →
      (s.ld fn).bg = none → s.isMgmtFn fn = false → s.fabric.eraseLock = none → fn.val < 16 →
      (∃ t, exec (.secureErase fn) s = .next t ∧ .mailbox fn .backgroundStarted [] ∈ t.out ∧ (t.ld fn).notReady = true ∧
        ((t.ld fn).bg.map BgCmd.kind) = some (.erase false) ∧ t.flag (Reg.LD_STATUS_MEDIA_BUSY fn) = true) ∧
      (∃ t, exec (.sanitize fn) s = .next t ∧ .mailbox fn .backgroundStarted [] ∈ t.out ∧ (t.ld fn).notReady = true ∧
        ((t.ld fn).bg.map BgCmd.kind) = some (.erase true) ∧ t.flag (Reg.LD_STATUS_MEDIA_BUSY fn) = true)) ∧
  (∀ (fn : FnIx) (s : State), s.fnServed fn = true → s.inRecovery = false → s.flag Reg.PERS_STATUS_SAVE_ACTIVE = false →
      (s.ld fn).bg = none → s.isMgmtFn fn = true → s.lockHeld = false →
      (s.lockLost (.secureErase fn) = false → ∃ t, exec (.secureErase fn) s = .next t ∧
      .mailbox fn .backgroundStarted [] ∈ t.out ∧
        t.fabric.eraseLock = some fn.val ∧ ∀ k : Fin 16, (t.ld k).notReady = true) ∧
      (s.lockLost (.sanitize fn) = false → ∃ t, exec (.sanitize fn) s = .next t ∧ .mailbox fn .backgroundStarted [] ∈ t.out ∧
      t.fabric.eraseLock = some fn.val ∧
        ∀ k : Fin 16, (t.ld k).notReady = true)) ∧
  (∀ (ok : List Bool) (s : State) (keys : List Key), s.fabric.eraseLock.isSome = true → s.fabric.recordDone = true →
      s.fabric.rootOpened = false → s.fabric.newKeys = some keys →
      ∃ t, exec (.deviceEraseKeySwitch ok) s = .next t ∧ t.fabric.switched = true ∧ t.fabric.newKeys = none ∧
      t.image.ledger = []) ∧
  (∀ (fn : FnIx) (bad : List Nat) (s : State) (b : BgCmd) (start len : Nat), (s.ld fn).bg = some b → b.kind = .scan start len →
      s.mainOff = false → s.cluster.running = true → s.flag Reg.PERS_STATUS_SAVE_ACTIVE = false → fn.val < 16 →
      ∃ t, exec (.backgroundCommandDone fn bad) s = .next t ∧ (t.ld fn).bg = none ∧ .msix fn 0 ∈ t.out ∧
        t.pends (srcHead (s.ldHead fn) 8) = true)

/-- LOAD_KEY_BLOB of an acceptable blob for a general slot, neither key persistent, nothing changing there: Success, and the
slot is valid with the blob's key and use, source 1 and the next generation (R348, R349). ERASE_KEY_SLOT, urgent, of such
a slot: Success, and the slot is empty (R353, R354). RETIRING_KEY_ZEROIZE of a retiring slot with nothing bound to its old
key: it is valid or empty and holds no old key (R352). DATA_KEY_DERIVATION of a key that can be derived: MISS counts and
the cache's first entry is that key's (R364). CONTROL_ENGINE_REQUEST arriving at an idle engine for a valid slot with the
use: it is in progress (R368, R370); for an empty slot: it ends with code 1. DRBG_RESEED from good samples: RNG_OK is 1;
ENTROPY_TEST_FAIL: RNG_OK is 0 and a message waits on source 0x3ED (R373, R374). -/
def Obligations.KeysAreLoadedErasedAndServed : Prop :=
  (∀ (fn : FnIx) (b : KeyBlob) (s : State), s.fnServed fn = true → s.inRecovery = false → s.isMgmtFn fn = true →
      s.flag Reg.PERS_STATUS_SAVE_ACTIVE = false → s.blobOk b = true → 27 ≤ b.target → s.slotChanging b.target = false →
      b.persist = false → (s.slot b.target).persist = false →
      ∃ t, exec (.loadKeyBlob fn b) s = .next t ∧ (.mailbox fn .success [] ∈ t.out ∧ (t.slot b.target).st = .valid ∧
        (t.slot b.target).key = some (.given b.key) ∧ (t.slot b.target).use = b.use ∧ (t.slot b.target).source = 1 ∧
        (t.slot b.target).gen = ((s.slot b.target).gen + 1) % 65536 ∧ ∀ k, k ≠ b.target → t.slot k = s.slot k)) ∧
  (∀ (fn : FnIx) (k : Nat) (s : State), s.fnServed fn = true → s.inRecovery = false → s.isMgmtFn fn = true →
      s.flag Reg.PERS_STATUS_SAVE_ACTIVE = false → 27 ≤ k → k ≤ 63 → (s.slot k).persist = false →
      ∃ t, exec (.eraseKeySlot fn k true false) s = .next t ∧ .mailbox fn .success [] ∈ t.out ∧ (t.slot k).st = .empty ∧
      (t.slot k).key = none) ∧
  (∀ (k : Nat) (s : State), (s.slot k).st = .retiring → (s.slot k).oldBound = 0 →
      ∃ t, exec (.retiringKeyZeroize k) s = .next t ∧
      t.slot k = { s.slot k with st := (if (s.slot k).key.isSome then .valid else .empty), old := none } ∧ t.regs = s.regs) ∧
  (∀ (q : QuadIx) (ld : Fin 16) (g : Nat) (s : State), (s.dataKey ld g).isSome = true →
      ∃ t, exec (.dataKeyDerivation q (.data ld g)) s = .next t ∧
        (t.quad q).dkc.head? = some (tenantSlot ld, (s.slot (tenantSlot ld)).gen, g) ∧
        t.get (Reg.CIPH_DKC_MISS_COUNT q) = min (2 ^ 32 - 1) (s.get (Reg.CIPH_DKC_MISS_COUNT q) + 1)) ∧
  (∀ (a : CtrlArrival) (s : State), s.keys.ctrlActive = none → s.keys.ctrlQueue = [] → s.keys.ctrlSusp = [] →
    s.keys.ctrlPort = [] →
      (s.slot a.slot).st = .valid → (s.slot a.slot).use / 2 ^ a.use.val % 2 = 1 → a.gen = none →
      ∃ t, exec (.controlEngineRequest ⟨none, [a]⟩) s = .next t ∧ (∃ r, t.keys.ctrlActive = some r ∧ r.slot = a.slot.val ∧
        r.mode = a.mode ∧ r.slotGen = (s.slot a.slot).gen) ∧ t.keys.ctrlQueue = [] ∧ t.regs = s.regs) ∧
  (∀ (a : CtrlArrival) (s : State), s.keys.ctrlActive = none → s.keys.ctrlQueue = [] → s.keys.ctrlSusp = [] →
    s.keys.ctrlPort = [] →
      (s.slot a.slot).st = .empty →
      ∃ t, exec (.controlEngineRequest ⟨none, [a]⟩) s = .next t ∧ .key s.keys.ctrlNext 1 ∈ t.out ∧ t.keys.ctrlActive = none ∧
        t.pends 0x3EA = true) ∧
  (∀ s : State, (s.keys.refused = true ∨ 4096 ≤ s.keys.requests) → s.fabric.eraseLock = none →
      ∃ t, exec (.drbgReseed true) s = .next t ∧ t.flag Reg.KEY_STATUS_RNG_OK = true) ∧
  (∀ s : State,
      ∃ t, exec .entropyTestFail s = .next t ∧ t.flag Reg.KEY_STATUS_RNG_OK = false ∧ t.keys = { s.keys with refused := true } ∧
        t.pends 0x3ED = true)

/-- With MCTP served: SET_ENDPOINT_ID of 8 to 254 sets the EID and answers it, others answer Invalid Input and leave it;
GET_ENDPOINT_ID answers the EID; GET_MESSAGE_TYPE_SUPPORT answers the types 0, 7 and 8, in RECOVERY 0 and 8;
GET_MCTP_VERSION_SUPPORT answers one value, which the spec does not state; each answer joins the list to be sent (R459).
SET_LD_ALLOCATIONS on the FM-owned LD answers Unsupported (R317). JTAG_INSTRUCTION loads its instruction; IDCODE shifts
out the device's code; EXTEST and HIGHZ act as BYPASS while PORST_N is high (R580). CONV_SAT: CONV_SAT is 1 and a message
waits on source 0x470 (R379). The bounds of an endpoint ID are presumed from the MCTP standard. -/
def Obligations.MctpJtagAndSaturationAnswer : Prop :=
  (∀ (eid : Nat) (s : State), s.mctpReady = true →
      (8 ≤ eid → eid ≤ 254 → ∃ t, exec (.setEndpointId eid) s = .next t ∧ t.get Reg.TW0_STATUS_EID = eid ∧
        t.tw0 = { s.tw0 with replies := s.tw0.replies ++ [(.success, [eid])] }) ∧
      (eid < 8 ∨ 254 < eid → ∃ t, exec (.setEndpointId eid) s = .next t ∧ t.regs = s.regs ∧
        t.tw0 = { s.tw0 with replies := s.tw0.replies ++ [(.invalidInput, [])] }) ∧
      (∃ t, exec .getEndpointId s = .next t ∧ t.regs = s.regs ∧
        t.tw0 = { s.tw0 with replies := s.tw0.replies ++ [(.success, [s.get Reg.TW0_STATUS_EID])] }) ∧
      (∃ t, exec .getMessageTypeSupport s = .next t ∧ t.regs = s.regs ∧
        t.tw0 = { s.tw0 with replies := s.tw0.replies ++ [(.success, if s.inRecovery then [0x00, 0x08] else [0x00, 0x07, 0x08])] }) ∧
      (∃ t, exec .getMctpVersionSupport s = .next t ∧ t.regs = s.regs ∧
        ∃ v, t.tw0 = { s.tw0 with replies := s.tw0.replies ++ [(.success, [v])] })) ∧
  (∀ s : State, s.fnServed 16 = true →
      ∃ t, exec .setLdAllocations s = .next t ∧ .mailbox 16 .unsupported [] ∈ t.out ∧ t.regs = s.regs) ∧
  (∀ (op : JtagOp) (s : State),
      ∃ t, exec (.jtagInstruction op) s = .next t ∧ t.pins = { s.pins with jtag := op } ∧ t.regs = s.regs ∧
        t.out = (if op = .idcode then [.jtag .idcode, .word 0x14860A5F#32] else
          [.jtag (if s.pins.porstN ∧ (op = .extest ∨ op = .highz) then .bypass else op)])) ∧
  (∀ s : State,
      ∃ t, exec .convSat s = .next t ∧ t.flag Reg.GAUGE_STATUS_CONV_SAT = true ∧ t.pends 0x470 = true)
end

