-- ==== Sys2Proof/Laws/Sparse.lean ====
section
/-!
SUPPORT. Sys2Proof/Laws/Sparse.lean: what the operations on maps in canonical form do: reading after writing, the canonical
form kept, and equal contents meaning equal lists.
-/

set_option Elab.async false
namespace Sys2Proof.Machine

variable {α : Type}

/-! ## Reading -/

@[simp] theorem sparseFind_nil (k : Nat) : sparseFind ([] : Sparse α) k = none := rfl

theorem sparseFind_cons (e : Nat × α) (m : Sparse α) (k : Nat) :
    sparseFind (e :: m) k = if e.1 = k then some e.2 else sparseFind m k := by
  obtain ⟨a, b⟩ := e
  rfl

theorem sparseFind_erase (m : Sparse α) (k j : Nat) :
    sparseFind (sparseErase m k) j = if j = k then none else sparseFind m j := by
  induction m with
  | nil => simp [sparseErase]
  | cons e m ih =>
    obtain ⟨a, b⟩ := e
    unfold sparseErase
    split
    · subst_vars
      rw [ih]
      split
      · rfl
      · rename_i h
        rw [sparseFind_cons, if_neg (Ne.symm h)]
    · rename_i h
      rw [sparseFind_cons, sparseFind_cons, ih]
      by_cases hj : j = k
      · subst hj; simp [h]
      · simp [hj]

theorem sparseFind_place (m : Sparse α) (k j : Nat) (v : α) (h : sparseFind m k = none) :
    sparseFind (sparsePlace m k v) j = if j = k then some v else sparseFind m j := by
  induction m with
  | nil => simp [sparsePlace, sparseFind, eq_comm]
  | cons e m ih =>
    obtain ⟨a, b⟩ := e
    rw [sparseFind_cons] at h
    unfold sparsePlace
    by_cases ha : a = k
    · simp [ha] at h
    · rw [if_neg ha] at h
      split
      · rw [sparseFind_cons]
        by_cases hj : j = k
        · simp [hj]
        · simp [hj, Ne.symm hj]
      · rw [sparseFind_cons, ih h, sparseFind_cons]
        by_cases hj : j = k
        · subst hj; simp [ha]
        · simp [hj]

@[simp] theorem sparseErase_gone (m : Sparse α) (k : Nat) : sparseFind (sparseErase m k) k = none := by
  simp [sparseFind_erase]

theorem sparseFind_set [DecidableEq α] (d : α) (m : Sparse α) (k j : Nat) (v : α) :
    sparseFind (sparseSet d m k v) j = if j = k then (if v = d then none else some v) else sparseFind m j := by
  unfold sparseSet
  split
  · rw [sparseFind_erase]
  · rw [sparseFind_place _ _ _ _ (sparseErase_gone m k), sparseFind_erase]
    by_cases hj : j = k <;> simp [hj]

/-- A read after a write: the written key gives the value written, every other key what it gave before. -/
theorem sparseGet_set [DecidableEq α] (d : α) (m : Sparse α) (k j : Nat) (v : α) :
    sparseGet d (sparseSet d m k v) j = if j = k then v else sparseGet d m j := by
  unfold sparseGet
  rw [sparseFind_set]
  by_cases hj : j = k
  · by_cases hv : v = d <;> simp [hj, hv]
  · simp [hj]

@[simp] theorem sparseGet_set_same [DecidableEq α] (d : α) (m : Sparse α) (k : Nat) (v : α) :
    sparseGet d (sparseSet d m k v) k = v := by simp [sparseGet_set]

theorem sparseGet_set_other [DecidableEq α] (d : α) (m : Sparse α) {k j : Nat} (v : α) (h : j ≠ k) :
    sparseGet d (sparseSet d m k v) j = sparseGet d m j := by simp [sparseGet_set, h]

@[simp] theorem sparseGet_upd_same [DecidableEq α] (d : α) (m : Sparse α) (k : Nat) (f : α → α) :
    sparseGet d (sparseUpd d m k f) k = f (sparseGet d m k) := by simp [sparseUpd]

theorem sparseGet_upd_other [DecidableEq α] (d : α) (m : Sparse α) {k j : Nat} (f : α → α) (h : j ≠ k) :
    sparseGet d (sparseUpd d m k f) j = sparseGet d m j := by simp [sparseUpd, sparseGet_set, h]

/-! ## The canonical form -/

theorem sparseRising_mono (m : Sparse α) {lo lo' : Nat} (h : lo' ≤ lo) (hm : sparseRising lo m = true) :
    sparseRising lo' m = true := by
  cases m with
  | nil => rfl
  | cons e m =>
    simp only [sparseRising, Bool.and_eq_true, decide_eq_true_eq] at hm ⊢
    exact ⟨Nat.le_trans h hm.1, hm.2⟩

theorem sparseErase_rising (m : Sparse α) (k lo : Nat) (hm : sparseRising lo m = true) :
    sparseRising lo (sparseErase m k) = true := by
  induction m generalizing lo with
  | nil => rfl
  | cons e m ih =>
    obtain ⟨a, b⟩ := e
    simp only [sparseRising, Bool.and_eq_true, decide_eq_true_eq] at hm
    unfold sparseErase
    split
    · exact ih _ (sparseRising_mono m (by omega) hm.2)
    · simp only [sparseRising, Bool.and_eq_true, decide_eq_true_eq]
      exact ⟨hm.1, ih _ hm.2⟩

theorem sparsePlace_rising (m : Sparse α) (k lo : Nat) (v : α) (hm : sparseRising lo m = true) (hk : lo ≤ k)
    (h : sparseFind m k = none) : sparseRising lo (sparsePlace m k v) = true := by
  induction m generalizing lo with
  | nil => simp [sparsePlace, sparseRising, hk]
  | cons e m ih =>
    obtain ⟨a, b⟩ := e
    rw [sparseFind_cons] at h
    simp only [sparseRising, Bool.and_eq_true, decide_eq_true_eq] at hm
    by_cases ha : a = k
    · simp [ha] at h
    · rw [if_neg ha] at h
      unfold sparsePlace
      split
      · simp only [sparseRising, Bool.and_eq_true, decide_eq_true_eq]
        exact ⟨hk, by omega, hm.2⟩
      · simp only [sparseRising, Bool.and_eq_true, decide_eq_true_eq]
        exact ⟨hm.1, ih _ hm.2 (by omega) h⟩

theorem mem_sparseErase (m : Sparse α) (k : Nat) {e : Nat × α} (h : e ∈ sparseErase m k) : e ∈ m := by
  induction m with
  | nil => simp [sparseErase] at h
  | cons x m ih =>
    obtain ⟨a, b⟩ := x
    unfold sparseErase at h
    split at h
    · exact List.mem_cons_of_mem _ (ih h)
    · rcases List.mem_cons.1 h with h | h
      · rw [h]; exact List.mem_cons_self
      · exact List.mem_cons_of_mem _ (ih h)

theorem mem_sparsePlace (m : Sparse α) (k : Nat) (v : α) {e : Nat × α} (h : e ∈ sparsePlace m k v) : e = (k, v) ∨ e ∈ m := by
  induction m with
  | nil => exact .inl (by simpa [sparsePlace] using h)
  | cons x m ih =>
    obtain ⟨a, b⟩ := x
    unfold sparsePlace at h
    split at h
    · rcases List.mem_cons.1 h with h | h
      · exact .inl h
      · exact .inr h
    · rcases List.mem_cons.1 h with h | h
      · exact .inr (by rw [h]; exact List.mem_cons_self)
      · exact (ih h).imp id (List.mem_cons_of_mem _)

/-- Writing keeps the canonical form. -/
theorem sparseSet_wf [DecidableEq α] (d : α) (m : Sparse α) (k : Nat) (v : α) (h : sparseWf (fun _ => d) m = true) :
    sparseWf (fun _ => d) (sparseSet d m k v) = true := by
  simp only [sparseWf, Bool.and_eq_true, List.all_eq_true, decide_eq_true_eq] at h ⊢
  unfold sparseSet
  split
  · exact ⟨sparseErase_rising _ _ _ h.1, fun e he => h.2 e (mem_sparseErase _ _ he)⟩
  · rename_i hv
    refine ⟨sparsePlace_rising _ _ _ _ (sparseErase_rising _ _ _ h.1) (Nat.zero_le _) (sparseErase_gone m k), fun e he => ?_⟩
    rcases mem_sparsePlace _ _ _ he with he | he
    · rw [he]; exact hv
    · exact h.2 e (mem_sparseErase _ _ he)

theorem sparseFilter_rising (m : Sparse α) (p : Nat × α → Bool) (lo : Nat) (hm : sparseRising lo m = true) :
    sparseRising lo (m.filter p) = true := by
  induction m generalizing lo with
  | nil => rfl
  | cons e m ih =>
    obtain ⟨a, b⟩ := e
    simp only [sparseRising, Bool.and_eq_true, decide_eq_true_eq] at hm
    rw [List.filter_cons]
    split
    · simp only [sparseRising, Bool.and_eq_true, decide_eq_true_eq]
      exact ⟨hm.1, ih _ hm.2⟩
    · exact ih _ (sparseRising_mono m (by omega) hm.2)

/-- Leaving entries out keeps the canonical form. -/
theorem sparseFilter_wf [DecidableEq α] (d : Nat → α) (m : Sparse α) (p : Nat × α → Bool) (h : sparseWf d m = true) :
    sparseWf d (m.filter p) = true := by
  simp only [sparseWf, Bool.and_eq_true, List.all_eq_true, decide_eq_true_eq] at h ⊢
  exact ⟨sparseFilter_rising _ _ _ h.1, fun e he => h.2 e ((List.mem_filter.1 he).1)⟩

/-- A key below every listed one is not listed. -/
theorem sparseFind_below (m : Sparse α) {lo k : Nat} (hm : sparseRising lo m = true) (h : k < lo) : sparseFind m k = none := by
  induction m generalizing lo with
  | nil => rfl
  | cons e m ih =>
    obtain ⟨a, b⟩ := e
    simp only [sparseRising, Bool.and_eq_true, decide_eq_true_eq] at hm
    rw [sparseFind_cons, if_neg (by omega)]
    exact ih hm.2 (by omega)

/-- Two maps in canonical form that list the same are the same list. -/
theorem sparse_ext (m n : Sparse α) {lo : Nat} (hm : sparseRising lo m = true) (hn : sparseRising lo n = true)
    (h : ∀ k, sparseFind m k = sparseFind n k) : m = n := by
  induction m generalizing n lo with
  | nil =>
    cases n with
    | nil => rfl
    | cons e n => have := h e.1; simp [sparseFind_cons] at this
  | cons e m ih =>
    obtain ⟨a, b⟩ := e
    cases n with
    | nil => have := h a; simp [sparseFind_cons] at this
    | cons f n =>
      obtain ⟨c, d⟩ := f
      simp only [sparseRising, Bool.and_eq_true, decide_eq_true_eq] at hm hn
      have hac : a = c := by
        rcases Nat.lt_trichotomy a c with hlt | heq | hlt
        · have := h a
          rw [sparseFind_cons, sparseFind_cons, if_pos rfl, if_neg (by omega), sparseFind_below n hn.2 (by omega)] at this
          cases this
        · exact heq
        · have := h c
          rw [sparseFind_cons, sparseFind_cons, if_pos rfl, if_neg (by omega), sparseFind_below m hm.2 (by omega)] at this
          cases this
      subst hac
      have hbd : b = d := by
        have := h a
        rw [sparseFind_cons, sparseFind_cons, if_pos rfl, if_pos rfl] at this
        exact Option.some.inj this
      subst hbd
      refine congrArg _ (ih n hm.2 hn.2 fun k => ?_)
      have hk := h k
      rw [sparseFind_cons, sparseFind_cons] at hk
      by_cases hak : a = k
      · subst hak
        rw [sparseFind_below m hm.2 (by omega), sparseFind_below n hn.2 (by omega)]
      · rwa [if_neg hak, if_neg hak] at hk

end Sys2Proof.Machine
end

