-- ==== Sys2Proof/Laws/Frame.lean ====
section
/-!
SUPPORT. Sys2Proof/Laws/Frame.lean: which parts of the state an operation may change, as a mask with one bit per field of
`State` in the order of its declaration.
-/

set_option Elab.async false
namespace Sys2Proof.Machine

/-- The state without the parts a mask names: what an operation with that mask leaves as it was. -/
def State.outside (m : Nat) (s : State) : State :=
  {
    regs := if m.testBit 0 then [] else s.regs
    tick := if m.testBit 1 then {} else s.tick
    plumb := if m.testBit 2 then {} else s.plumb
    paths := if m.testBit 3 then [] else s.paths
    events := if m.testBit 4 then {} else s.events
    cluster := if m.testBit 5 then {} else s.cluster
    patches := if m.testBit 6 then [] else s.patches
    retired := if m.testBit 7 then [] else s.retired
    image := if m.testBit 8 then {} else s.image
    quads := if m.testBit 9 then [] else s.quads
    scs := if m.testBit 10 then [] else s.scs
    dies := if m.testBit 11 then [] else s.dies
    heads := if m.testBit 12 then [] else s.heads
    lds := if m.testBit 13 then [] else s.lds
    fabric := if m.testBit 14 then {} else s.fabric
    keys := if m.testBit 15 then {} else s.keys
    gauge := if m.testBit 16 then {} else s.gauge
    rails := if m.testBit 17 then [] else s.rails
    seq := if m.testBit 18 then {} else s.seq
    pins := if m.testBit 19 then {} else s.pins
    group := if m.testBit 20 then {} else s.group
    save := if m.testBit 21 then {} else s.save
    tw0 := if m.testBit 22 then {} else s.tw0
    tws := if m.testBit 23 then [] else s.tws
    cfg := if m.testBit 24 then {} else s.cfg
    otp := if m.testBit 25 then {} else s.otp
    upd := if m.testBit 26 then {} else s.upd
    shake := if m.testBit 27 then none else s.shake
    dram := if m.testBit 28 then [] else s.dram
    poison := if m.testBit 29 then [] else s.poison
    fresh := if m.testBit 30 then 0 else s.fresh
    out := if m.testBit 31 then [] else s.out
    pending := s.pending }

theorem bit_of {a m : Nat} (i : Nat) (h : a &&& m = a) (ha : a.testBit i = true) : m.testBit i = true := by
  have := congrArg (fun x => x.testBit i) h
  simpa [Nat.testBit_and, ha] using this

theorem mask_if {α : Type} {k m : Nat} (h : k &&& m = k) (i : Nat) (a b : α) :
    (if m.testBit i then a else if k.testBit i then a else b) = if m.testBit i then a else b := by
  split
  · rfl
  · split
    · exact absurd (bit_of i h ‹_›) ‹_›
    · rfl

theorem outside_outside (m k : Nat) (h : k &&& m = k) (s : State) : (s.outside k).outside m = s.outside m := by
  unfold State.outside
  congr 1 <;> exact mask_if h _ _ _

/-- Two states that agree outside a mask agree outside every larger one. -/
theorem outside_mono {k m : Nat} {s t : State} (h : k &&& m = k) (hk : t.outside k = s.outside k) :
    t.outside m = s.outside m := by
  rw [← outside_outside m k h t, hk, outside_outside m k h s]

@[simp] theorem outside_ite (m : Nat) (c : Prop) [Decidable c] (s t : State) :
    (if c then s else t).outside m = if c then s.outside m else t.outside m := by
  split <;> rfl

theorem snd_outside {α : Type} {r : α × State} {a : α} {t : State} {m : Nat} (h : r = (a, t)) :
    r.2.outside m = t.outside m := by rw [h]

theorem thd_outside {α β : Type} {r : α × β × State} {a : α} {b : β} {t : State} {m : Nat} (h : r = (a, b, t)) :
    r.2.2.outside m = t.outside m := by rw [h]

@[simp] theorem State.when_outside (s : State) (c : Bool) (f : State → State) (m : Nat)
    (h : ∀ x, (f x).outside m = x.outside m) : (s.when c f).outside m = s.outside m := by
  simp [State.when, h]

@[simp] theorem foldl_outside {α : Type} (f : State → α → State) (m : Nat) (h : ∀ x a, (f x a).outside m = x.outside m)
    (l : List α) (s : State) : (l.foldl f s).outside m = s.outside m := by
  induction l generalizing s with
  | nil => rfl
  | cons a l ih => simp [ih, h]

theorem foldl_proj_outside {α β : Type} {m : Nat} (g : β → State) (f : β → α → β)
    (h : ∀ b a, (g (f b a)).outside m = (g b).outside m) (l : List α) (b : β) :
    (g (l.foldl f b)).outside m = (g b).outside m := by
  induction l generalizing b with
  | nil => rfl
  | cons a l ih => rw [List.foldl_cons, ih, h]

@[simp] theorem State.each_outside {α : Type} (s : State) (l : List α) (f : State → α → State) (m : Nat)
    (h : ∀ x a, (f x a).outside m = x.outside m) : (s.each l f).outside m = s.outside m := by
  simp [State.each, h]

/-- A meaning answers a next state that agrees with the state before outside a mask. -/
def State.framedBy (s : State) (m : Nat) : Result → Prop
  | .next t => t.outside m = s.outside m
  | .fault _ => False
  | .refused _ => False

@[simp] theorem State.framedBy_next (s t : State) (m : Nat) :
    s.framedBy m (.next t) ↔ t.outside m = s.outside m := Iff.rfl

theorem State.framedBy_mono {s : State} {k m : Nat} {r : Result} (h : k &&& m = k) (hk : s.framedBy k r) :
    s.framedBy m r := by
  cases r with
  | next t => exact outside_mono h hk
  | fault _ => exact hk
  | refused _ => exact hk

@[simp] theorem outside_set_regs (m : Nat) (h : 1 &&& m = 1) (s : State) (x0 : Sparse Word) :
    ({ s with regs := x0 } : State).outside m = s.outside m := by
  simp [State.outside, bit_of 0 h (by decide)]

@[simp] theorem outside_set_tick (m : Nat) (h : 2 &&& m = 2) (s : State) (x0 : Tick) :
    ({ s with tick := x0 } : State).outside m = s.outside m := by
  simp [State.outside, bit_of 1 h (by decide)]

@[simp] theorem outside_set_plumb (m : Nat) (h : 4 &&& m = 4) (s : State) (x0 : Plumb) :
    ({ s with plumb := x0 } : State).outside m = s.outside m := by
  simp [State.outside, bit_of 2 h (by decide)]

@[simp] theorem outside_set_paths (m : Nat) (h : 8 &&& m = 8) (s : State) (x0 : Sparse PathState) :
    ({ s with paths := x0 } : State).outside m = s.outside m := by
  simp [State.outside, bit_of 3 h (by decide)]

@[simp] theorem outside_set_events (m : Nat) (h : 16 &&& m = 16) (s : State) (x0 : Events) :
    ({ s with events := x0 } : State).outside m = s.outside m := by
  simp [State.outside, bit_of 4 h (by decide)]

@[simp] theorem outside_set_cluster (m : Nat) (h : 32 &&& m = 32) (s : State) (x0 : Cluster) :
    ({ s with cluster := x0 } : State).outside m = s.outside m := by
  simp [State.outside, bit_of 5 h (by decide)]

@[simp] theorem outside_set_patches (m : Nat) (h : 64 &&& m = 64) (s : State) (x0 : Sparse Patch) :
    ({ s with patches := x0 } : State).outside m = s.outside m := by
  simp [State.outside, bit_of 6 h (by decide)]

@[simp] theorem outside_set_retired (m : Nat) (h : 128 &&& m = 128) (s : State) (x0 : RetiredList) :
    ({ s with retired := x0 } : State).outside m = s.outside m := by
  simp [State.outside, bit_of 7 h (by decide)]

@[simp] theorem outside_set_image (m : Nat) (h : 256 &&& m = 256) (s : State) (x0 : Image) :
    ({ s with image := x0 } : State).outside m = s.outside m := by
  simp [State.outside, bit_of 8 h (by decide)]

@[simp] theorem outside_set_quads (m : Nat) (h : 512 &&& m = 512) (s : State) (x0 : Sparse Quad) :
    ({ s with quads := x0 } : State).outside m = s.outside m := by
  simp [State.outside, bit_of 9 h (by decide)]

@[simp] theorem outside_set_scs (m : Nat) (h : 1024 &&& m = 1024) (s : State) (x0 : Sparse Sc) :
    ({ s with scs := x0 } : State).outside m = s.outside m := by
  simp [State.outside, bit_of 10 h (by decide)]

@[simp] theorem outside_set_dies (m : Nat) (h : 2048 &&& m = 2048) (s : State) (x0 : Sparse Die) :
    ({ s with dies := x0 } : State).outside m = s.outside m := by
  simp [State.outside, bit_of 11 h (by decide)]

@[simp] theorem outside_set_heads (m : Nat) (h : 4096 &&& m = 4096) (s : State) (x0 : Sparse Head) :
    ({ s with heads := x0 } : State).outside m = s.outside m := by
  simp [State.outside, bit_of 12 h (by decide)]

@[simp] theorem outside_set_lds (m : Nat) (h : 8192 &&& m = 8192) (s : State) (x0 : Sparse Ld) :
    ({ s with lds := x0 } : State).outside m = s.outside m := by
  simp [State.outside, bit_of 13 h (by decide)]

@[simp] theorem outside_set_fabric (m : Nat) (h : 16384 &&& m = 16384) (s : State) (x0 : Fabric) :
    ({ s with fabric := x0 } : State).outside m = s.outside m := by
  simp [State.outside, bit_of 14 h (by decide)]

@[simp] theorem outside_set_keys (m : Nat) (h : 32768 &&& m = 32768) (s : State) (x0 : Keys) :
    ({ s with keys := x0 } : State).outside m = s.outside m := by
  simp [State.outside, bit_of 15 h (by decide)]

@[simp] theorem outside_set_gauge (m : Nat) (h : 65536 &&& m = 65536) (s : State) (x0 : Gauge) :
    ({ s with gauge := x0 } : State).outside m = s.outside m := by
  simp [State.outside, bit_of 16 h (by decide)]

@[simp] theorem outside_set_rails (m : Nat) (h : 131072 &&& m = 131072) (s : State) (x0 : Sparse Rail) :
    ({ s with rails := x0 } : State).outside m = s.outside m := by
  simp [State.outside, bit_of 17 h (by decide)]

@[simp] theorem outside_set_seq (m : Nat) (h : 262144 &&& m = 262144) (s : State) (x0 : Seq) :
    ({ s with seq := x0 } : State).outside m = s.outside m := by
  simp [State.outside, bit_of 18 h (by decide)]

@[simp] theorem outside_set_pins (m : Nat) (h : 524288 &&& m = 524288) (s : State) (x0 : Pins) :
    ({ s with pins := x0 } : State).outside m = s.outside m := by
  simp [State.outside, bit_of 19 h (by decide)]

@[simp] theorem outside_set_group (m : Nat) (h : 1048576 &&& m = 1048576) (s : State) (x0 : Group) :
    ({ s with group := x0 } : State).outside m = s.outside m := by
  simp [State.outside, bit_of 20 h (by decide)]

@[simp] theorem outside_set_save (m : Nat) (h : 2097152 &&& m = 2097152) (s : State) (x0 : SaveSt) :
    ({ s with save := x0 } : State).outside m = s.outside m := by
  simp [State.outside, bit_of 21 h (by decide)]

@[simp] theorem outside_set_tw0 (m : Nat) (h : 4194304 &&& m = 4194304) (s : State) (x0 : Tw0) :
    ({ s with tw0 := x0 } : State).outside m = s.outside m := by
  simp [State.outside, bit_of 22 h (by decide)]

@[simp] theorem outside_set_tws (m : Nat) (h : 8388608 &&& m = 8388608) (s : State) (x0 : Sparse Tw) :
    ({ s with tws := x0 } : State).outside m = s.outside m := by
  simp [State.outside, bit_of 23 h (by decide)]

@[simp] theorem outside_set_cfg (m : Nat) (h : 16777216 &&& m = 16777216) (s : State) (x0 : CfgSt) :
    ({ s with cfg := x0 } : State).outside m = s.outside m := by
  simp [State.outside, bit_of 24 h (by decide)]

@[simp] theorem outside_set_otp (m : Nat) (h : 33554432 &&& m = 33554432) (s : State) (x0 : Otp) :
    ({ s with otp := x0 } : State).outside m = s.outside m := by
  simp [State.outside, bit_of 25 h (by decide)]

@[simp] theorem outside_set_upd (m : Nat) (h : 67108864 &&& m = 67108864) (s : State) (x0 : Update) :
    ({ s with upd := x0 } : State).outside m = s.outside m := by
  simp [State.outside, bit_of 26 h (by decide)]

@[simp] theorem outside_set_shake (m : Nat) (h : 134217728 &&& m = 134217728) (s : State) (x0 : Option Handshake) :
    ({ s with shake := x0 } : State).outside m = s.outside m := by
  simp [State.outside, bit_of 27 h (by decide)]

@[simp] theorem outside_set_dram (m : Nat) (h : 268435456 &&& m = 268435456) (s : State) (x0 : List Host.Cell) :
    ({ s with dram := x0 } : State).outside m = s.outside m := by
  simp [State.outside, bit_of 28 h (by decide)]

@[simp] theorem outside_set_poison (m : Nat) (h : 536870912 &&& m = 536870912) (s : State) (x0 : Sparse (BitVec 1024)) :
    ({ s with poison := x0 } : State).outside m = s.outside m := by
  simp [State.outside, bit_of 29 h (by decide)]

@[simp] theorem outside_set_fresh (m : Nat) (h : 1073741824 &&& m = 1073741824) (s : State) (x0 : Nat) :
    ({ s with fresh := x0 } : State).outside m = s.outside m := by
  simp [State.outside, bit_of 30 h (by decide)]

@[simp] theorem outside_set_out (m : Nat) (h : 2147483648 &&& m = 2147483648) (s : State) (x0 : List Out) :
    ({ s with out := x0 } : State).outside m = s.outside m := by
  simp [State.outside, bit_of 31 h (by decide)]

@[simp] theorem outside_set_dram_poison (m : Nat) (h : 805306368 &&& m = 805306368) (s : State) (x0 : List Host.Cell) (x1 : Sparse (BitVec 1024)) :
    ({ s with dram := x0, poison := x1 } : State).outside m = s.outside m := by
  simp [State.outside, bit_of 28 h (by decide), bit_of 29 h (by decide)]

@[simp] theorem outside_set_patches_dram_poison (m : Nat) (h : 805306432 &&& m = 805306432) (s : State) (x0 : Sparse Patch) (x1 : List Host.Cell) (x2 : Sparse (BitVec 1024)) :
    ({ s with patches := x0, dram := x1, poison := x2 } : State).outside m = s.outside m := by
  simp [State.outside, bit_of 6 h (by decide), bit_of 28 h (by decide), bit_of 29 h (by decide)]

@[simp] theorem outside_set_tick_cluster (m : Nat) (h : 34 &&& m = 34) (s : State) (x0 : Tick) (x1 : Cluster) :
    ({ s with tick := x0, cluster := x1 } : State).outside m = s.outside m := by
  simp [State.outside, bit_of 1 h (by decide), bit_of 5 h (by decide)]

@[simp] theorem outside_set_tick_rails_seq_pins_tw0_upd (m : Nat) (h : 72220674 &&& m = 72220674) (s : State) (x0 : Tick) (x1 : Sparse Rail) (x2 : Seq) (x3 : Pins) (x4 : Tw0) (x5 : Update) :
    ({ s with tick := x0, rails := x1, seq := x2, pins := x3, tw0 := x4, upd := x5 } : State).outside m = s.outside m := by
  simp [State.outside, bit_of 1 h (by decide), bit_of 17 h (by decide), bit_of 18 h (by decide), bit_of 19 h (by decide), bit_of 22 h (by decide), bit_of 26 h (by decide)]

@[simp] theorem outside_set_tw0_pins (m : Nat) (h : 4718592 &&& m = 4718592) (s : State) (x0 : Tw0) (x1 : Pins) :
    ({ s with tw0 := x0, pins := x1 } : State).outside m = s.outside m := by
  simp [State.outside, bit_of 22 h (by decide), bit_of 19 h (by decide)]

/-! ### A part outside the mask is as it was -/

theorem regs_of_outside {m : Nat} {s t : State} (h : t.outside m = s.outside m) (hm : m.testBit 0 = false) :
    t.regs = s.regs := by
  have := congrArg State.regs h
  simpa [State.outside, hm] using this

theorem tick_of_outside {m : Nat} {s t : State} (h : t.outside m = s.outside m) (hm : m.testBit 1 = false) :
    t.tick = s.tick := by
  have := congrArg State.tick h
  simpa [State.outside, hm] using this

theorem plumb_of_outside {m : Nat} {s t : State} (h : t.outside m = s.outside m) (hm : m.testBit 2 = false) :
    t.plumb = s.plumb := by
  have := congrArg State.plumb h
  simpa [State.outside, hm] using this

theorem paths_of_outside {m : Nat} {s t : State} (h : t.outside m = s.outside m) (hm : m.testBit 3 = false) :
    t.paths = s.paths := by
  have := congrArg State.paths h
  simpa [State.outside, hm] using this

theorem events_of_outside {m : Nat} {s t : State} (h : t.outside m = s.outside m) (hm : m.testBit 4 = false) :
    t.events = s.events := by
  have := congrArg State.events h
  simpa [State.outside, hm] using this

theorem cluster_of_outside {m : Nat} {s t : State} (h : t.outside m = s.outside m) (hm : m.testBit 5 = false) :
    t.cluster = s.cluster := by
  have := congrArg State.cluster h
  simpa [State.outside, hm] using this

theorem patches_of_outside {m : Nat} {s t : State} (h : t.outside m = s.outside m) (hm : m.testBit 6 = false) :
    t.patches = s.patches := by
  have := congrArg State.patches h
  simpa [State.outside, hm] using this

theorem retired_of_outside {m : Nat} {s t : State} (h : t.outside m = s.outside m) (hm : m.testBit 7 = false) :
    t.retired = s.retired := by
  have := congrArg State.retired h
  simpa [State.outside, hm] using this

theorem image_of_outside {m : Nat} {s t : State} (h : t.outside m = s.outside m) (hm : m.testBit 8 = false) :
    t.image = s.image := by
  have := congrArg State.image h
  simpa [State.outside, hm] using this

theorem quads_of_outside {m : Nat} {s t : State} (h : t.outside m = s.outside m) (hm : m.testBit 9 = false) :
    t.quads = s.quads := by
  have := congrArg State.quads h
  simpa [State.outside, hm] using this

theorem scs_of_outside {m : Nat} {s t : State} (h : t.outside m = s.outside m) (hm : m.testBit 10 = false) :
    t.scs = s.scs := by
  have := congrArg State.scs h
  simpa [State.outside, hm] using this

theorem dies_of_outside {m : Nat} {s t : State} (h : t.outside m = s.outside m) (hm : m.testBit 11 = false) :
    t.dies = s.dies := by
  have := congrArg State.dies h
  simpa [State.outside, hm] using this

theorem heads_of_outside {m : Nat} {s t : State} (h : t.outside m = s.outside m) (hm : m.testBit 12 = false) :
    t.heads = s.heads := by
  have := congrArg State.heads h
  simpa [State.outside, hm] using this

theorem lds_of_outside {m : Nat} {s t : State} (h : t.outside m = s.outside m) (hm : m.testBit 13 = false) :
    t.lds = s.lds := by
  have := congrArg State.lds h
  simpa [State.outside, hm] using this

theorem fabric_of_outside {m : Nat} {s t : State} (h : t.outside m = s.outside m) (hm : m.testBit 14 = false) :
    t.fabric = s.fabric := by
  have := congrArg State.fabric h
  simpa [State.outside, hm] using this

theorem keys_of_outside {m : Nat} {s t : State} (h : t.outside m = s.outside m) (hm : m.testBit 15 = false) :
    t.keys = s.keys := by
  have := congrArg State.keys h
  simpa [State.outside, hm] using this

theorem gauge_of_outside {m : Nat} {s t : State} (h : t.outside m = s.outside m) (hm : m.testBit 16 = false) :
    t.gauge = s.gauge := by
  have := congrArg State.gauge h
  simpa [State.outside, hm] using this

theorem rails_of_outside {m : Nat} {s t : State} (h : t.outside m = s.outside m) (hm : m.testBit 17 = false) :
    t.rails = s.rails := by
  have := congrArg State.rails h
  simpa [State.outside, hm] using this

theorem seq_of_outside {m : Nat} {s t : State} (h : t.outside m = s.outside m) (hm : m.testBit 18 = false) :
    t.seq = s.seq := by
  have := congrArg State.seq h
  simpa [State.outside, hm] using this

theorem pins_of_outside {m : Nat} {s t : State} (h : t.outside m = s.outside m) (hm : m.testBit 19 = false) :
    t.pins = s.pins := by
  have := congrArg State.pins h
  simpa [State.outside, hm] using this

theorem group_of_outside {m : Nat} {s t : State} (h : t.outside m = s.outside m) (hm : m.testBit 20 = false) :
    t.group = s.group := by
  have := congrArg State.group h
  simpa [State.outside, hm] using this

theorem save_of_outside {m : Nat} {s t : State} (h : t.outside m = s.outside m) (hm : m.testBit 21 = false) :
    t.save = s.save := by
  have := congrArg State.save h
  simpa [State.outside, hm] using this

theorem tw0_of_outside {m : Nat} {s t : State} (h : t.outside m = s.outside m) (hm : m.testBit 22 = false) :
    t.tw0 = s.tw0 := by
  have := congrArg State.tw0 h
  simpa [State.outside, hm] using this

theorem tws_of_outside {m : Nat} {s t : State} (h : t.outside m = s.outside m) (hm : m.testBit 23 = false) :
    t.tws = s.tws := by
  have := congrArg State.tws h
  simpa [State.outside, hm] using this

theorem cfg_of_outside {m : Nat} {s t : State} (h : t.outside m = s.outside m) (hm : m.testBit 24 = false) :
    t.cfg = s.cfg := by
  have := congrArg State.cfg h
  simpa [State.outside, hm] using this

theorem otp_of_outside {m : Nat} {s t : State} (h : t.outside m = s.outside m) (hm : m.testBit 25 = false) :
    t.otp = s.otp := by
  have := congrArg State.otp h
  simpa [State.outside, hm] using this

theorem upd_of_outside {m : Nat} {s t : State} (h : t.outside m = s.outside m) (hm : m.testBit 26 = false) :
    t.upd = s.upd := by
  have := congrArg State.upd h
  simpa [State.outside, hm] using this

theorem shake_of_outside {m : Nat} {s t : State} (h : t.outside m = s.outside m) (hm : m.testBit 27 = false) :
    t.shake = s.shake := by
  have := congrArg State.shake h
  simpa [State.outside, hm] using this

theorem dram_of_outside {m : Nat} {s t : State} (h : t.outside m = s.outside m) (hm : m.testBit 28 = false) :
    t.dram = s.dram := by
  have := congrArg State.dram h
  simpa [State.outside, hm] using this

theorem poison_of_outside {m : Nat} {s t : State} (h : t.outside m = s.outside m) (hm : m.testBit 29 = false) :
    t.poison = s.poison := by
  have := congrArg State.poison h
  simpa [State.outside, hm] using this

theorem fresh_of_outside {m : Nat} {s t : State} (h : t.outside m = s.outside m) (hm : m.testBit 30 = false) :
    t.fresh = s.fresh := by
  have := congrArg State.fresh h
  simpa [State.outside, hm] using this

theorem out_of_outside {m : Nat} {s t : State} (h : t.outside m = s.outside m) (hm : m.testBit 31 = false) :
    t.out = s.out := by
  have := congrArg State.out h
  simpa [State.outside, hm] using this

theorem pending_of_outside {m : Nat} {s t : State} (h : t.outside m = s.outside m) : t.pending = s.pending := by
  have := congrArg State.pending h
  simpa [State.outside] using this

@[simp] theorem occurs_outside (s : State) (c : Bool) (f : State → State) (m : Nat) (ho : 2147483648 &&& m = 2147483648)
    (h : ∀ x, (f x).outside m = x.outside m) : s.framedBy m (occurs c s f) := by
  unfold occurs
  split
  · exact (h _).trans (by simp [State.begin, ho])
  · simp [State.begin, ho]

end Sys2Proof.Machine
end

