-- ==== Sys2Proof/Laws/FrameRegs.lean ====
section
/-!
SUPPORT. Sys2Proof/Laws/FrameRegs.lean: what each operation of Machine/Regs.lean may change.
-/

set_option Elab.async false
namespace Sys2Proof.Machine

@[simp] theorem State.wr_outside (s : State) (off : Nat) (w : Word) (fm : Nat) (hfm : 1 &&& fm = 1) :
    (State.wr s off w).outside fm = s.outside fm := by
  refine outside_mono hfm ?_
  unfold State.wr
  (try simp) <;> (repeat' split) <;> simp_all

@[simp] theorem State.put_outside (s : State) (f : Fld) (v : Nat) (fm : Nat) (hfm : 1 &&& fm = 1) :
    (State.put s f v).outside fm = s.outside fm := by
  refine outside_mono hfm ?_
  unfold State.put
  (try simp) <;> (repeat' split) <;> simp_all

@[simp] theorem State.putB_outside (s : State) (f : Fld) (b : Bool) (fm : Nat) (hfm : 1 &&& fm = 1) :
    (State.putB s f b).outside fm = s.outside fm := by
  refine outside_mono hfm ?_
  unfold State.putB
  (try simp) <;> (repeat' split) <;> simp_all

@[simp] theorem State.bump_outside (s : State) (f : Fld) (n : Nat) (fm : Nat) (hfm : 1 &&& fm = 1) :
    (State.bump s f n).outside fm = s.outside fm := by
  refine outside_mono hfm ?_
  unfold State.bump
  (try simp) <;> (repeat' split) <;> simp_all

@[simp] theorem State.putSat_outside (s : State) (f : Fld) (v : Nat) (fm : Nat) (hfm : 1 &&& fm = 1) :
    (State.putSat s f v).outside fm = s.outside fm := by
  refine outside_mono hfm ?_
  unfold State.putSat
  (try simp) <;> (repeat' split) <;> simp_all

@[simp] theorem State.put64_outside (s : State) (lo hi : Nat) (v : Nat) (fm : Nat) (hfm : 1 &&& fm = 1) :
    (State.put64 s lo hi v).outside fm = s.outside fm := by
  refine outside_mono hfm ?_
  unfold State.put64
  (try simp) <;> (repeat' split) <;> simp_all

@[simp] theorem State.unitFalls_outside (s : State) (cls unit : Nat) (fm : Nat) (hfm : 4 &&& fm = 4) :
    (State.unitFalls s cls unit).outside fm = s.outside fm := by
  refine outside_mono hfm ?_
  unfold State.unitFalls
  (try simp) <;> (repeat' split) <;> simp_all

@[simp] theorem State.unitReturns_outside (s : State) (cls unit : Nat) (fm : Nat) (hfm : 5 &&& fm = 5) :
    (State.unitReturns s cls unit).outside fm = s.outside fm := by
  refine outside_mono hfm ?_
  unfold State.unitReturns
  (try simp) <;> (repeat' split) <;> simp_all

end Sys2Proof.Machine
end

