-- ==== Sys2Proof/Laws/FrameOps.lean ====
section
/-!
SUPPORT. Sys2Proof/Laws/FrameOps.lean: what each operation of Machine/Ops.lean may change.
-/

set_option Elab.async false
namespace Sys2Proof.Machine

@[simp] theorem State.begin_outside (s : State) (fm : Nat) (hfm : 2147483648 &&& fm = 2147483648) :
    (State.begin s).outside fm = s.outside fm := by
  refine outside_mono hfm ?_
  unfold State.begin
  (try simp) <;> (repeat' split) <;> simp_all

@[simp] theorem State.emit_outside (s : State) (o : Out) (fm : Nat) (hfm : 2147483648 &&& fm = 2147483648) :
    (State.emit s o).outside fm = s.outside fm := by
  refine outside_mono hfm ?_
  unfold State.emit
  (try simp) <;> (repeat' split) <;> simp_all

@[simp] theorem State.dramOut_outside (s : State) (sc cmd rank bank addr : Nat) (fm : Nat) (hfm : 2147483648 &&& fm = 2147483648) :
    (State.dramOut s sc cmd rank bank addr).outside fm = s.outside fm := by
  refine outside_mono hfm ?_
  unfold State.dramOut
  (try simp) <;> (repeat' split) <;> simp_all

@[simp] theorem State.takeFree_outside (s : State) (fm : Nat) (hfm : 1073741824 &&& fm = 1073741824) :
    (State.takeFree s).2.outside fm = s.outside fm := by
  refine outside_mono hfm ?_
  unfold State.takeFree
  (try simp) <;> (repeat' split) <;> simp_all

@[simp] theorem State.atCycle_outside (s : State) (c : Nat) (fm : Nat) (hfm : 2 &&& fm = 2) :
    (State.atCycle s c).outside fm = s.outside fm := by
  refine outside_mono hfm ?_
  unfold State.atCycle
  (try simp) <;> (repeat' split) <;> simp_all

@[simp] theorem State.modQuad_outside (s : State) (q : Nat) (f : Quad → Quad) (fm : Nat) (hfm : 512 &&& fm = 512) :
    (State.modQuad s q f).outside fm = s.outside fm := by
  refine outside_mono hfm ?_
  unfold State.modQuad
  (try simp) <;> (repeat' split) <;> simp_all

@[simp] theorem State.modSc_outside (s : State) (n : Nat) (f : Sc → Sc) (fm : Nat) (hfm : 1024 &&& fm = 1024) :
    (State.modSc s n f).outside fm = s.outside fm := by
  refine outside_mono hfm ?_
  unfold State.modSc
  (try simp) <;> (repeat' split) <;> simp_all

@[simp] theorem State.modDie_outside (s : State) (n : Nat) (f : Die → Die) (fm : Nat) (hfm : 2048 &&& fm = 2048) :
    (State.modDie s n f).outside fm = s.outside fm := by
  refine outside_mono hfm ?_
  unfold State.modDie
  (try simp) <;> (repeat' split) <;> simp_all

@[simp] theorem State.modHead_outside (s : State) (h : Nat) (f : Head → Head) (fm : Nat) (hfm : 4096 &&& fm = 4096) :
    (State.modHead s h f).outside fm = s.outside fm := by
  refine outside_mono hfm ?_
  unfold State.modHead
  (try simp) <;> (repeat' split) <;> simp_all

@[simp] theorem State.modLd_outside (s : State) (k : Nat) (f : Ld → Ld) (fm : Nat) (hfm : 8192 &&& fm = 8192) :
    (State.modLd s k f).outside fm = s.outside fm := by
  refine outside_mono hfm ?_
  unfold State.modLd
  (try simp) <;> (repeat' split) <;> simp_all

@[simp] theorem State.modRail_outside (s : State) (k : Nat) (f : Rail → Rail) (fm : Nat) (hfm : 131072 &&& fm = 131072) :
    (State.modRail s k f).outside fm = s.outside fm := by
  refine outside_mono hfm ?_
  unfold State.modRail
  (try simp) <;> (repeat' split) <;> simp_all

@[simp] theorem State.twReenabled_outside (s : State) (fm : Nat) (hfm : 8388608 &&& fm = 8388608) :
    (State.twReenabled s).outside fm = s.outside fm := by
  refine outside_mono hfm ?_
  unfold State.twReenabled
  (try simp) <;> (repeat' split) <;> simp_all

@[simp] theorem State.modTw_outside (s : State) (k : Nat) (f : Tw → Tw) (fm : Nat) (hfm : 8388608 &&& fm = 8388608) :
    (State.modTw s k f).outside fm = s.outside fm := by
  refine outside_mono hfm ?_
  unfold State.modTw
  (try simp) <;> (repeat' split) <;> simp_all

@[simp] theorem State.modPath_outside (s : State) (p : Nat) (f : PathState → PathState) (m : Nat) (hm : 8 &&& m = 8) :
    (s.modPath p f).outside m = s.outside m := outside_mono hm rfl

@[simp] theorem State.modSlot_outside (s : State) (k : Nat) (f : Slot → Slot) (fm : Nat) (hfm : 32768 &&& fm = 32768) :
    (State.modSlot s k f).outside fm = s.outside fm := by
  refine outside_mono hfm ?_
  unfold State.modSlot
  (try simp) <;> (repeat' split) <;> simp_all

@[simp] theorem State.modImage_outside (s : State) (f : Image → Image) (fm : Nat) (hfm : 256 &&& fm = 256) :
    (State.modImage s f).outside fm = s.outside fm := by
  refine outside_mono hfm ?_
  unfold State.modImage
  (try simp) <;> (repeat' split) <;> simp_all

@[simp] theorem State.modGauge_outside (s : State) (f : Gauge → Gauge) (fm : Nat) (hfm : 65536 &&& fm = 65536) :
    (State.modGauge s f).outside fm = s.outside fm := by
  refine outside_mono hfm ?_
  unfold State.modGauge
  (try simp) <;> (repeat' split) <;> simp_all

@[simp] theorem State.modSeq_outside (s : State) (f : Seq → Seq) (fm : Nat) (hfm : 262144 &&& fm = 262144) :
    (State.modSeq s f).outside fm = s.outside fm := by
  refine outside_mono hfm ?_
  unfold State.modSeq
  (try simp) <;> (repeat' split) <;> simp_all

@[simp] theorem State.modPins_outside (s : State) (f : Pins → Pins) (fm : Nat) (hfm : 524288 &&& fm = 524288) :
    (State.modPins s f).outside fm = s.outside fm := by
  refine outside_mono hfm ?_
  unfold State.modPins
  (try simp) <;> (repeat' split) <;> simp_all

@[simp] theorem State.modSave_outside (s : State) (f : SaveSt → SaveSt) (fm : Nat) (hfm : 2097152 &&& fm = 2097152) :
    (State.modSave s f).outside fm = s.outside fm := by
  refine outside_mono hfm ?_
  unfold State.modSave
  (try simp) <;> (repeat' split) <;> simp_all

@[simp] theorem State.modGroup_outside (s : State) (f : Group → Group) (fm : Nat) (hfm : 1048576 &&& fm = 1048576) :
    (State.modGroup s f).outside fm = s.outside fm := by
  refine outside_mono hfm ?_
  unfold State.modGroup
  (try simp) <;> (repeat' split) <;> simp_all

@[simp] theorem State.modKeys_outside (s : State) (f : Keys → Keys) (fm : Nat) (hfm : 32768 &&& fm = 32768) :
    (State.modKeys s f).outside fm = s.outside fm := by
  refine outside_mono hfm ?_
  unfold State.modKeys
  (try simp) <;> (repeat' split) <;> simp_all

@[simp] theorem State.modTick_outside (s : State) (f : Tick → Tick) (fm : Nat) (hfm : 2 &&& fm = 2) :
    (State.modTick s f).outside fm = s.outside fm := by
  refine outside_mono hfm ?_
  unfold State.modTick
  (try simp) <;> (repeat' split) <;> simp_all

@[simp] theorem State.modEvents_outside (s : State) (f : Events → Events) (fm : Nat) (hfm : 16 &&& fm = 16) :
    (State.modEvents s f).outside fm = s.outside fm := by
  refine outside_mono hfm ?_
  unfold State.modEvents
  (try simp) <;> (repeat' split) <;> simp_all

@[simp] theorem State.modFabric_outside (s : State) (f : Fabric → Fabric) (fm : Nat) (hfm : 16384 &&& fm = 16384) :
    (State.modFabric s f).outside fm = s.outside fm := by
  refine outside_mono hfm ?_
  unfold State.modFabric
  (try simp) <;> (repeat' split) <;> simp_all

@[simp] theorem State.modUpd_outside (s : State) (f : Update → Update) (fm : Nat) (hfm : 67108864 &&& fm = 67108864) :
    (State.modUpd s f).outside fm = s.outside fm := by
  refine outside_mono hfm ?_
  unfold State.modUpd
  (try simp) <;> (repeat' split) <;> simp_all

@[simp] theorem State.modPlumb_outside (s : State) (f : Plumb → Plumb) (fm : Nat) (hfm : 4 &&& fm = 4) :
    (State.modPlumb s f).outside fm = s.outside fm := by
  refine outside_mono hfm ?_
  unfold State.modPlumb
  (try simp) <;> (repeat' split) <;> simp_all

@[simp] theorem State.modTw0_outside (s : State) (f : Tw0 → Tw0) (fm : Nat) (hfm : 4194304 &&& fm = 4194304) :
    (State.modTw0 s f).outside fm = s.outside fm := by
  refine outside_mono hfm ?_
  unfold State.modTw0
  (try simp) <;> (repeat' split) <;> simp_all

@[simp] theorem State.sendNdr_outside (s : State) (h ld tag : Nat) (fm : Nat) (hfm : 2147483648 &&& fm = 2147483648) :
    (State.sendNdr s h ld tag).outside fm = s.outside fm := by
  refine outside_mono hfm ?_
  unfold State.sendNdr
  (try simp) <;> (repeat' split) <;> simp_all

@[simp] theorem State.sendDrs_outside (s : State) (h ld tag : Nat) (data : Line) (poison : Bool) (fm : Nat) (hfm : 2147483648 &&& fm = 2147483648) :
    (State.sendDrs s h ld tag data poison).outside fm = s.outside fm := by
  refine outside_mono hfm ?_
  unfold State.sendDrs
  (try simp) <;> (repeat' split) <;> simp_all

@[simp] theorem State.keepCredits_outside (s : State) (fm : Nat) (hfm : 4096 &&& fm = 4096) :
    (State.keepCredits s).outside fm = s.outside fm := by
  refine outside_mono hfm ?_
  unfold State.keepCredits
  (try simp) <;> (repeat' split) <;> simp_all

@[simp] theorem State.useCredit_outside (s : State) (h : Nat) (wr : Bool) (fm : Nat) (hfm : 4097 &&& fm = 4097) :
    (State.useCredit s h wr).outside fm = s.outside fm := by
  refine outside_mono hfm ?_
  unfold State.useCredit
  (try simp) <;> (repeat' split) <;> simp_all

@[simp] theorem State.writeLine_outside (s : State) (dpa : Nat) (d : WriteData) (fm : Nat) (hfm : 805306368 &&& fm = 805306368) :
    (State.writeLine s dpa d).outside fm = s.outside fm := by
  refine outside_mono hfm ?_
  unfold State.writeLine
  (try simp) <;> (repeat' split) <;> simp_all

@[simp] theorem State.drained_outside (s : State) (p : Nat) (fm : Nat) (hfm : 805306368 &&& fm = 805306368) :
    (State.drained s p).outside fm = s.outside fm := by
  refine outside_mono hfm ?_
  unfold State.drained
  (try simp) <;> (repeat' split) <;> simp_all

end Sys2Proof.Machine
end

