-- ==== Sys2Proof/Laws/FrameFlags.lean ====
section
/-!
SUPPORT. Sys2Proof/Laws/FrameFlags.lean: what each operation of Machine/Flags.lean may change.
-/

set_option Elab.async false
namespace Sys2Proof.Machine

@[simp] theorem State.raise_outside (s : State) (m : FaultMsg) (fm : Nat) (hfm : 17 &&& fm = 17) :
    (State.raise s m).outside fm = s.outside fm := by
  refine outside_mono hfm ?_
  unfold State.raise
  (try simp) <;> (repeat' split) <;> simp_all

@[simp] theorem State.event_outside (s : State) (src kind sev : Nat) (fm : Nat) (hfm : 17 &&& fm = 17) :
    (State.event s src kind sev).outside fm = s.outside fm := by
  refine outside_mono hfm ?_
  unfold State.event
  (try simp) <;> (repeat' split) <;> simp_all

@[simp] theorem State.eventAt_outside (s : State) (src kind sev req acc space addr : Nat) (fm : Nat) (hfm : 17 &&& fm = 17) :
    (State.eventAt s src kind sev req acc space addr).outside fm = s.outside fm := by
  refine outside_mono hfm ?_
  unfold State.eventAt
  (try simp) <;> (repeat' split) <;> simp_all

@[simp] theorem State.judgeSfg_outside (s : State) (fm : Nat) (hfm : 1 &&& fm = 1) :
    (State.judgeSfg s).outside fm = s.outside fm := by
  refine outside_mono hfm ?_
  unfold State.judgeSfg
  (try simp) <;> (repeat' split) <;> simp_all

@[simp] theorem State.sfg_outside (s : State) (f : Fld) (b : Bool) (fm : Nat) (hfm : 1 &&& fm = 1) :
    (State.sfg s f b).outside fm = s.outside fm := by
  refine outside_mono hfm ?_
  unfold State.sfg
  (try simp) <;> (repeat' split) <;> simp_all

end Sys2Proof.Machine
end

