-- ==== Sys2Proof/Laws/FrameOperands.lean ====
section
/-!
SUPPORT. Sys2Proof/Laws/FrameOperands.lean: what each operation of Machine/Operands.lean may change.
-/

set_option Elab.async false
namespace Sys2Proof.Machine

@[simp] theorem State.reply_outside (s : State) (fn : FnIx) (code : RetCode) (payload : List Nat) (fm : Nat) (hfm : 2151677969 &&& fm = 2151677969) :
    (State.reply s fn code payload).outside fm = s.outside fm := by
  refine outside_mono hfm ?_
  unfold State.reply
  (try simp) <;> (repeat' split) <;> simp_all

@[simp] theorem State.phaseEnds_outside (s : State) (fm : Nat) (hfm : 256 &&& fm = 256) :
    (State.phaseEnds s).outside fm = s.outside fm := by
  refine outside_mono hfm ?_
  unfold State.phaseEnds
  (try simp) <;> (repeat' split) <;> simp_all

end Sys2Proof.Machine
end

