-- ==== Sys2Proof/Laws/FramePatches.lean ====
section
/-!
SUPPORT. Sys2Proof/Laws/FramePatches.lean: what each operation of Machine/Patches.lean may change.
-/

set_option Elab.async false
namespace Sys2Proof.Machine

@[simp] theorem State.modPatch_outside (s : State) (p : Nat) (f : Patch → Patch) (fm : Nat) (hfm : 64 &&& fm = 64) :
    (State.modPatch s p f).outside fm = s.outside fm := by
  refine outside_mono hfm ?_
  unfold State.modPatch
  (try simp) <;> (repeat' split) <;> simp_all

@[simp] theorem State.listOverflow_outside (s : State) (q : Nat) (fm : Nat) (hfm : 529 &&& fm = 529) :
    (State.listOverflow s q).outside fm = s.outside fm := by
  refine outside_mono hfm ?_
  unfold State.listOverflow
  (try simp) <;> (repeat' split) <;> simp_all

@[simp] theorem State.listPanel_outside (s : State) (q panel due : Nat) (fm : Nat) (hfm : 529 &&& fm = 529) :
    (State.listPanel s q panel due).outside fm = s.outside fm := by
  refine outside_mono hfm ?_
  unfold State.listPanel
  (try simp) <;> (repeat' split) <;> simp_all

@[simp] theorem State.relist_outside (s : State) (p : Nat) (fm : Nat) (hfm : 529 &&& fm = 529) :
    (State.relist s p).outside fm = s.outside fm := by
  refine outside_mono hfm ?_
  unfold State.relist
  (try simp) <;> (repeat' split) <;> simp_all

@[simp] theorem State.askPort_outside (s : State) (pos : Nat) (e : QEntry) (fm : Nat) (hfm : 17408 &&& fm = 17408) :
    (State.askPort s pos e).outside fm = s.outside fm := by
  refine outside_mono hfm ?_
  unfold State.askPort
  (try simp) <;> (repeat' split) <;> simp_all

@[simp] theorem State.askRows_outside (s : State) (p origin target : Nat) (wr save : Bool) (fm : Nat) (hfm : 17409 &&& fm = 17409) :
    (State.askRows s p origin target wr save).outside fm = s.outside fm := by
  refine outside_mono hfm ?_
  unfold State.askRows
  (try simp) <;> (repeat' split) <;> simp_all

@[simp] theorem State.askEntry_outside (s : State) (p : Nat) (wr : Bool) (ld : Option Nat) (fm : Nat) (hfm : 17409 &&& fm = 17409) :
    (State.askEntry s p wr ld).outside fm = s.outside fm := by
  refine outside_mono hfm ?_
  unfold State.askEntry
  (try simp) <;> (repeat' split) <;> simp_all

@[simp] theorem State.wetRoom_outside (s : State) (q : Nat) (fm : Nat) (hfm : 18001 &&& fm = 18001) :
    (State.wetRoom s q).outside fm = s.outside fm := by
  refine outside_mono hfm ?_
  unfold State.wetRoom
  (try simp) <;> (repeat' split) <;> simp_all

@[simp] theorem State.supersede_outside (s : State) (p : Nat) (fm : Nat) (hfm : 512 &&& fm = 512) :
    (State.supersede s p).outside fm = s.outside fm := by
  refine outside_mono hfm ?_
  unfold State.supersede
  (try simp) <;> (repeat' split) <;> simp_all

@[simp] theorem State.patchWritten_outside (s : State) (p : Nat) (fm : Nat) (hfm : 18001 &&& fm = 18001) :
    (State.patchWritten s p).outside fm = s.outside fm := by
  refine outside_mono hfm ?_
  unfold State.patchWritten
  (try simp) <;> (repeat' split) <;> simp_all

@[simp] theorem State.patchSet_outside (s : State) (p : Nat) (fm : Nat) (hfm : 593 &&& fm = 593) :
    (State.patchSet s p).outside fm = s.outside fm := by
  refine outside_mono hfm ?_
  unfold State.patchSet
  (try simp) <;> (repeat' split) <;> simp_all

@[simp] theorem State.patchSkimming_outside (s : State) (p : Nat) (fm : Nat) (hfm : 64 &&& fm = 64) :
    (State.patchSkimming s p).outside fm = s.outside fm := by
  refine outside_mono hfm ?_
  unfold State.patchSkimming
  (try simp) <;> (repeat' split) <;> simp_all

@[simp] theorem State.patchDry_outside (s : State) (p : Nat) (fm : Nat) (hfm : 64 &&& fm = 64) :
    (State.patchDry s p).outside fm = s.outside fm := by
  refine outside_mono hfm ?_
  unfold State.patchDry
  (try simp) <;> (repeat' split) <;> simp_all

@[simp] theorem State.settleQuad_outside (s : State) (q : Nat) (written : List Nat) (fm : Nat) (hfm : 593 &&& fm = 593) :
    (State.settleQuad s q written).outside fm = s.outside fm := by
  refine outside_mono hfm ?_
  unfold State.settleQuad
  (try simp) <;> (repeat' split) <;> simp_all

end Sys2Proof.Machine
end

