-- ==== Sys2Proof/Laws/FrameKeys.lean ====
section
/-!
SUPPORT. Sys2Proof/Laws/FrameKeys.lean: what each operation of Machine/Keys.lean may change.
-/

set_option Elab.async false
namespace Sys2Proof.Machine

@[simp] theorem State.drawKey_outside (s : State) (fm : Nat) (hfm : 32768 &&& fm = 32768) :
    (State.drawKey s).2.outside fm = s.outside fm := by
  refine outside_mono hfm ?_
  unfold State.drawKey
  (try simp) <;> (repeat' split) <;> simp_all

@[simp] theorem State.drawNat_outside (s : State) (fm : Nat) (hfm : 32768 &&& fm = 32768) :
    (State.drawNat s).2.outside fm = s.outside fm := by
  refine outside_mono hfm ?_
  unfold State.drawNat
  (try simp) <;> (repeat' split) <;> simp_all

@[simp] theorem State.rewriteSlot_outside (s : State) (slot source use : Nat) (persist : Bool) (k : Key) (fm : Nat) (hfm : 32768 &&& fm = 32768) :
    (State.rewriteSlot s slot source use persist k).outside fm = s.outside fm := by
  refine outside_mono hfm ?_
  unfold State.rewriteSlot
  (try simp) <;> (repeat' split) <;> simp_all

@[simp] theorem State.urgentErase_outside (s : State) (slot : Nat) (fm : Nat) (hfm : 2147516928 &&& fm = 2147516928) :
    (State.urgentErase s slot).outside fm = s.outside fm := by
  refine outside_mono hfm ?_
  unfold State.urgentErase
  (try simp) <;> (repeat' split) <;> simp_all

@[simp] theorem State.invoke_outside (s : State) (slot : Nat) (fm : Nat) (hfm : 32768 &&& fm = 32768) :
    (State.invoke s slot).outside fm = s.outside fm := by
  refine outside_mono hfm ?_
  unfold State.invoke
  (try simp) <;> (repeat' split) <;> simp_all

@[simp] theorem State.keyUsageSum_outside (s : State) (fm : Nat) (hfm : 32785 &&& fm = 32785) :
    (State.keyUsageSum s).outside fm = s.outside fm := by
  refine outside_mono hfm ?_
  unfold State.keyUsageSum
  (try simp) <;> (repeat' split) <;> simp_all

@[simp] theorem State.takeNonce_outside (s : State) (q : Nat) (fm : Nat) (hfm : 513 &&& fm = 513) :
    (State.takeNonce s q).2.outside fm = s.outside fm := by
  refine outside_mono hfm ?_
  unfold State.takeNonce
  (try simp) <;> (repeat' split) <;> simp_all

@[simp] theorem State.retirePair_outside (s : State) (n : Nat) (fm : Nat) (hfm : 17 &&& fm = 17) :
    (State.retirePair s n).outside fm = s.outside fm := by
  refine outside_mono hfm ?_
  unfold State.retirePair
  (try simp) <;> (repeat' split) <;> simp_all

@[simp] theorem State.cipherGrant_outside (s : State) (q : Nat) (fm : Nat) (hfm : 512 &&& fm = 512) :
    (State.cipherGrant s q).outside fm = s.outside fm := by
  refine outside_mono hfm ?_
  unfold State.cipherGrant
  (try simp) <;> (repeat' split) <;> simp_all

@[simp] theorem State.cipherSync_outside (s : State) (q : Nat) (fm : Nat) (hfm : 512 &&& fm = 512) :
    (State.cipherSync s q).outside fm = s.outside fm := by
  refine outside_mono hfm ?_
  unfold State.cipherSync
  (try simp) <;> (repeat' split) <;> simp_all

@[simp] theorem State.cipherGo_outside (s : State) (q : Nat) (fm : Nat) (hfm : 512 &&& fm = 512) :
    (State.cipherGo s q).outside fm = s.outside fm := by
  refine outside_mono hfm ?_
  unfold State.cipherGo
  (try simp) <;> (repeat' split) <;> simp_all

@[simp] theorem State.encrypts_outside (s : State) (q : Nat) (b : UnitBody) (fm : Nat) (hfm : 512 &&& fm = 512) :
    (State.encrypts s q b).outside fm = s.outside fm := by
  refine outside_mono hfm ?_
  unfold State.encrypts
  (try simp) <;> (repeat' split) <;> simp_all

theorem execDataKeyDerivation_outside (q : QuadIx) (r : KeyDerivation) (s : State) (fm : Nat) (hfm : 2147484177 &&& fm = 2147484177) :
    s.framedBy fm (execDataKeyDerivation q r s) := by
  refine State.framedBy_mono hfm ?_
  unfold execDataKeyDerivation
  (try simp) <;> (repeat' split) <;> simp_all

@[simp] theorem State.ctrlUnbind_outside (s : State) (r : CtrlReq) (fm : Nat) (hfm : 32768 &&& fm = 32768) :
    (State.ctrlUnbind s r).outside fm = s.outside fm := by
  refine outside_mono hfm ?_
  unfold State.ctrlUnbind
  (try simp) <;> (repeat' split) <;> simp_all

@[simp] theorem State.ctrlEnd_outside (s : State) (mismatch spareMismatch : Bool) (fm : Nat) (hfm : 2147516433 &&& fm = 2147516433) :
    (State.ctrlEnd s mismatch spareMismatch).outside fm = s.outside fm := by
  refine outside_mono hfm ?_
  unfold State.ctrlEnd
  (try simp) <;> (repeat' split) <;> simp_all

@[simp] theorem State.ctrlDispatch_outside (s : State) (fm : Nat) (hfm : 32769 &&& fm = 32769) :
    (State.ctrlDispatch s).outside fm = s.outside fm := by
  refine outside_mono hfm ?_
  unfold State.ctrlDispatch
  (try simp) <;> (repeat' split) <;> simp_all

@[simp] theorem State.ctrlAccept_outside (s : State) (id : Nat) (a : CtrlArrival) (fm : Nat) (hfm : 2147516433 &&& fm = 2147516433) :
    (State.ctrlAccept s id a).outside fm = s.outside fm := by
  refine outside_mono hfm ?_
  unfold State.ctrlAccept
  (try simp) <;> (repeat' split) <;> simp_all

@[simp] theorem State.ctrlGrant_outside (s : State) (fm : Nat) (hfm : 2147516433 &&& fm = 2147516433) :
    (State.ctrlGrant s).outside fm = s.outside fm := by
  refine outside_mono hfm ?_
  unfold State.ctrlGrant
  (try simp) <;> (repeat' split) <;> simp_all

@[simp] theorem State.ctrlEnter_outside (s : State) (fm : Nat) (hfm : 2147516433 &&& fm = 2147516433) :
    (State.ctrlEnter s).outside fm = s.outside fm := by
  refine outside_mono hfm ?_
  unfold State.ctrlEnter
  (try simp) <;> (repeat' split) <;> simp_all

@[simp] theorem State.ctrlArrive_outside (s : State) (a : CtrlArrival) (fm : Nat) (hfm : 32768 &&& fm = 32768) :
    (State.ctrlArrive s a).outside fm = s.outside fm := by
  refine outside_mono hfm ?_
  unfold State.ctrlArrive
  (try simp) <;> (repeat' split) <;> simp_all

theorem execControlEngineRequest_outside (i : CtrlReqIn) (s : State) (fm : Nat) (hfm : 2147516433 &&& fm = 2147516433) :
    s.framedBy fm (execControlEngineRequest i s) := by
  refine State.framedBy_mono hfm ?_
  unfold execControlEngineRequest
  (try simp) <;> (repeat' split) <;> simp_all

theorem execRetiringKeyZeroize_outside (slot : Nat) (s : State) (fm : Nat) (hfm : 2147516416 &&& fm = 2147516416) :
    s.framedBy fm (execRetiringKeyZeroize slot s) := by
  refine State.framedBy_mono hfm ?_
  unfold execRetiringKeyZeroize
  (try simp) <;> (repeat' split) <;> simp_all

theorem execEntropyTestFail_outside (s : State) (fm : Nat) (hfm : 2147516433 &&& fm = 2147516433) :
    s.framedBy fm (execEntropyTestFail s) := by
  refine State.framedBy_mono hfm ?_
  unfold execEntropyTestFail
  (try simp) <;> (repeat' split) <;> simp_all

end Sys2Proof.Machine
end

