-- ==== Sys2Proof/Laws/FrameMedia.lean ====
section
/-!
SUPPORT. Sys2Proof/Laws/FrameMedia.lean: what each operation of Machine/Media.lean may change.
-/

set_option Elab.async false
namespace Sys2Proof.Machine

@[simp] theorem State.modStripe_outside (s : State) (pos u : Nat) (f : StripeSet → StripeSet) (fm : Nat) (hfm : 256 &&& fm = 256) :
    (State.modStripe s pos u f).outside fm = s.outside fm := by
  refine outside_mono hfm ?_
  unfold State.modStripe
  (try simp) <;> (repeat' split) <;> simp_all

@[simp] theorem State.stripeAdd_outside (s : State) (pos u chan : Nat) (fm : Nat) (hfm : 256 &&& fm = 256) :
    (State.stripeAdd s pos u chan).outside fm = s.outside fm := by
  refine outside_mono hfm ?_
  unfold State.stripeAdd
  (try simp) <;> (repeat' split) <;> simp_all

@[simp] theorem State.stripeVoid_outside (s : State) (pos u chan : Nat) (fm : Nat) (hfm : 256 &&& fm = 256) :
    (State.stripeVoid s pos u chan).outside fm = s.outside fm := by
  refine outside_mono hfm ?_
  unfold State.stripeVoid
  (try simp) <;> (repeat' split) <;> simp_all

@[simp] theorem State.pushOp_outside (s : State) (n : Nat) (o : DieOp) (fm : Nat) (hfm : 2048 &&& fm = 2048) :
    (State.pushOp s n o).outside fm = s.outside fm := by
  refine outside_mono hfm ?_
  unfold State.pushOp
  (try simp) <;> (repeat' split) <;> simp_all

@[simp] theorem State.addCopy_outside (s : State) (chan : Nat) (c : RecCopy) (fm : Nat) (hfm : 256 &&& fm = 256) :
    (State.addCopy s chan c).outside fm = s.outside fm := by
  refine outside_mono hfm ?_
  unfold State.addCopy
  (try simp) <;> (repeat' split) <;> simp_all

@[simp] theorem State.spoilCopy_outside (s : State) (chan : Nat) (r : Record) (k : Nat) (fm : Nat) (hfm : 256 &&& fm = 256) :
    (State.spoilCopy s chan r k).outside fm = s.outside fm := by
  refine outside_mono hfm ?_
  unfold State.spoilCopy
  (try simp) <;> (repeat' split) <;> simp_all

@[simp] theorem State.judgeFree_outside (s : State) (fm : Nat) (hfm : 17 &&& fm = 17) :
    (State.judgeFree s).outside fm = s.outside fm := by
  refine outside_mono hfm ?_
  unfold State.judgeFree
  (try simp) <;> (repeat' split) <;> simp_all

@[simp] theorem State.enterBand_outside (s : State) (n b : Nat) (fm : Nat) (hfm : 2048 &&& fm = 2048) :
    (State.enterBand s n b).outside fm = s.outside fm := by
  refine outside_mono hfm ?_
  unfold State.enterBand
  (try simp) <;> (repeat' split) <;> simp_all

@[simp] theorem State.newBandFor_outside (s : State) (n : Nat) (fm : Nat) (hfm : 2321 &&& fm = 2321) :
    (State.newBandFor s n).outside fm = s.outside fm := by
  refine outside_mono hfm ?_
  unfold State.newBandFor
  (try simp) <;> (repeat' split) <;> simp_all

@[simp] theorem State.openBandFor_outside (s : State) (n : Nat) (fm : Nat) (hfm : 2321 &&& fm = 2321) :
    (State.openBandFor s n).outside fm = s.outside fm := by
  refine outside_mono hfm ?_
  unfold State.openBandFor
  (try simp) <;> (repeat' split) <;> simp_all

@[simp] theorem State.pushLedgerUnit_outside (s : State) (q : Nat) (body : UnitBody) (fm : Nat) (hfm : 2560 &&& fm = 2560) :
    (State.pushLedgerUnit s q body).outside fm = s.outside fm := by
  refine outside_mono hfm ?_
  unfold State.pushLedgerUnit
  (try simp) <;> (repeat' split) <;> simp_all

@[simp] theorem State.ledgerGo_outside (s : State) (q : Nat) (fm : Nat) (hfm : 2560 &&& fm = 2560) :
    (State.ledgerGo s q).outside fm = s.outside fm := by
  refine outside_mono hfm ?_
  unfold State.ledgerGo
  (try simp) <;> (repeat' split) <;> simp_all

@[simp] theorem State.sealLedgerUnit_outside (s : State) (q : Nat) (body : UnitBody) (fm : Nat) (hfm : 35329 &&& fm = 35329) :
    (State.sealLedgerUnit s q body).outside fm = s.outside fm := by
  refine outside_mono hfm ?_
  unfold State.sealLedgerUnit
  (try simp) <;> (repeat' split) <;> simp_all

@[simp] theorem State.showAccount_outside (s : State) (q : Nat) (fm : Nat) (hfm : 1 &&& fm = 1) :
    (State.showAccount s q).outside fm = s.outside fm := by
  refine outside_mono hfm ?_
  unfold State.showAccount
  (try simp) <;> (repeat' split) <;> simp_all

@[simp] theorem State.chargeWear_outside (s : State) (q : Nat) (fm : Nat) (hfm : 513 &&& fm = 513) :
    (State.chargeWear s q).outside fm = s.outside fm := by
  refine outside_mono hfm ?_
  unfold State.chargeWear
  (try simp) <;> (repeat' split) <;> simp_all

@[simp] theorem State.ledgerSet_outside (s : State) (p : Nat) (e : LEntry) (fm : Nat) (hfm : 768 &&& fm = 768) :
    (State.ledgerSet s p e).outside fm = s.outside fm := by
  refine outside_mono hfm ?_
  unfold State.ledgerSet
  (try simp) <;> (repeat' split) <;> simp_all

@[simp] theorem State.flushJournal_outside (s : State) (q : Nat) (fm : Nat) (hfm : 35329 &&& fm = 35329) :
    (State.flushJournal s q).outside fm = s.outside fm := by
  refine outside_mono hfm ?_
  unfold State.flushJournal
  (try simp) <;> (repeat' split) <;> simp_all

@[simp] theorem State.modVersion_outside (s : State) (q : Nat) (b : UnitBody) (f : Version → Version) (fm : Nat) (hfm : 512 &&& fm = 512) :
    (State.modVersion s q b f).outside fm = s.outside fm := by
  refine outside_mono hfm ?_
  unfold State.modVersion
  (try simp) <;> (repeat' split) <;> simp_all

@[simp] theorem State.dropVersion_outside (s : State) (q : Nat) (b : UnitBody) (fm : Nat) (hfm : 512 &&& fm = 512) :
    (State.dropVersion s q b).outside fm = s.outside fm := by
  refine outside_mono hfm ?_
  unfold State.dropVersion
  (try simp) <;> (repeat' split) <;> simp_all

@[simp] theorem State.loadPatch_outside (s : State) (p : Nat) (content : List Host.Cell) (poison : BitVec 1024) (fm : Nat) (hfm : 805306368 &&& fm = 805306368) :
    (State.loadPatch s p content poison).outside fm = s.outside fm := by
  refine outside_mono hfm ?_
  unfold State.loadPatch
  (try simp) <;> (repeat' split) <;> simp_all

@[simp] theorem State.markRevoked_outside (s : State) (p : Nat) (fm : Nat) (hfm : 832 &&& fm = 832) :
    (State.markRevoked s p).outside fm = s.outside fm := by
  refine outside_mono hfm ?_
  unfold State.markRevoked
  (try simp) <;> (repeat' split) <;> simp_all

@[simp] theorem State.startVersion_outside (s : State) (q p n order : Nat) (bySave : Bool) (content : List Host.Cell) (poison : BitVec 1024) (fm : Nat) (hfm : 52801 &&& fm = 52801) :
    (State.startVersion s q p n order bySave content poison).outside fm = s.outside fm := by
  refine outside_mono hfm ?_
  unfold State.startVersion
  (try simp) <;> (repeat' split) <;> simp_all

@[simp] theorem State.versionFailed_outside (s : State) (v : Version) (fm : Nat) (hfm : 593 &&& fm = 593) :
    (State.versionFailed s v).outside fm = s.outside fm := by
  refine outside_mono hfm ?_
  unfold State.versionFailed
  (try simp) <;> (repeat' split) <;> simp_all

@[simp] theorem State.dropReloc_outside (s : State) (q : Nat) (r : Reloc) (fm : Nat) (hfm : 2560 &&& fm = 2560) :
    (State.dropReloc s q r).outside fm = s.outside fm := by
  refine outside_mono hfm ?_
  unfold State.dropReloc
  (try simp) <;> (repeat' split) <;> simp_all

@[simp] theorem State.programBack_outside (s : State) (b : UnitBody) (fm : Nat) (hfm : 35409 &&& fm = 35409) :
    (State.programBack s b).outside fm = s.outside fm := by
  refine outside_mono hfm ?_
  unfold State.programBack
  (try simp) <;> (repeat' split) <;> simp_all

@[simp] theorem State.memberLost_outside (s : State) (n u : Nat) (fm : Nat) (hfm : 35409 &&& fm = 35409) :
    (State.memberLost s n u).outside fm = s.outside fm := by
  refine outside_mono hfm ?_
  unfold State.memberLost
  (try simp) <;> (repeat' split) <;> simp_all

@[simp] theorem State.parityFailed_outside (s : State) (pos u : Nat) (fm : Nat) (hfm : 35665 &&& fm = 35665) :
    (State.parityFailed s pos u).outside fm = s.outside fm := by
  refine outside_mono hfm ?_
  unfold State.parityFailed
  (try simp) <;> (repeat' split) <;> simp_all

@[simp] theorem State.opBack_outside (s : State) (n : Nat) (o : DieOp) (fm : Nat) (hfm : 35665 &&& fm = 35665) :
    (State.opBack s n o).outside fm = s.outside fm := by
  refine outside_mono hfm ?_
  unfold State.opBack
  (try simp) <;> (repeat' split) <;> simp_all

@[simp] theorem State.putLog_outside (s : State) (t : Nat) (b : LogBody) (fm : Nat) (hfm : 262145 &&& fm = 262145) :
    (State.putLog s t b).outside fm = s.outside fm := by
  refine outside_mono hfm ?_
  unfold State.putLog
  (try simp) <;> (repeat' split) <;> simp_all

@[simp] theorem State.logRecordAt_outside (s : State) (t : Nat) (b : LogBody) (fm : Nat) (hfm : 262145 &&& fm = 262145) :
    (State.logRecordAt s t b).outside fm = s.outside fm := by
  refine outside_mono hfm ?_
  unfold State.logRecordAt
  (try simp) <;> (repeat' split) <;> simp_all

@[simp] theorem State.logRecord_outside (s : State) (b : LogBody) (fm : Nat) (hfm : 262145 &&& fm = 262145) :
    (State.logRecord s b).outside fm = s.outside fm := by
  refine outside_mono hfm ?_
  unfold State.logRecord
  (try simp) <;> (repeat' split) <;> simp_all

@[simp] theorem State.wearAllowance_outside (s : State) (q : Nat) (fm : Nat) (hfm : 529 &&& fm = 529) :
    (State.wearAllowance s q).outside fm = s.outside fm := by
  refine outside_mono hfm ?_
  unfold State.wearAllowance
  (try simp) <;> (repeat' split) <;> simp_all

@[simp] theorem State.retireDie_outside (s : State) (n cond : Nat) (fm : Nat) (hfm : 297937 &&& fm = 297937) :
    (State.retireDie s n cond).outside fm = s.outside fm := by
  refine outside_mono hfm ?_
  unfold State.retireDie
  repeat' first
    | (simp; done)
    | (rw [← snd_outside ‹_ = (_, _)›]; simp; done)
    | (rw [← thd_outside ‹_ = (_, _, _)›]; simp; done)
    | split
    | refine (State.each_outside _ _ _ _ ?_).trans ?_
    | refine (foldl_outside _ _ ?_ _ _).trans ?_
    | refine (State.when_outside _ _ _ _ ?_).trans ?_
    | refine occurs_outside _ _ _ _ (by decide) ?_
    | (intro _; skip)
    | simp

@[simp] theorem State.addPoison_outside (s : State) (line : Nat) (src : PoisonSrc) (fm : Nat) (hfm : 16384 &&& fm = 16384) :
    (State.addPoison s line src).outside fm = s.outside fm := by
  refine outside_mono hfm ?_
  unfold State.addPoison
  (try simp) <;> (repeat' split) <;> simp_all

@[simp] theorem State.writeOver_outside (s : State) (dpa : Nat) (d : WriteData) (fm : Nat) (hfm : 805311488 &&& fm = 805311488) :
    (State.writeOver s dpa d).outside fm = s.outside fm := by
  refine outside_mono hfm ?_
  unfold State.writeOver
  (try simp) <;> (repeat' split) <;> simp_all

@[simp] theorem State.poisonWrite_outside (s : State) (w : PoisonWait) (fm : Nat) (hfm : 2957006417 &&& fm = 2957006417) :
    (State.poisonWrite s w).outside fm = s.outside fm := by
  refine outside_mono hfm ?_
  unfold State.poisonWrite
  (try simp) <;> (repeat' split) <;> simp_all

@[simp] theorem State.poisonGoes_outside (s : State) (fm : Nat) (hfm : 2957006417 &&& fm = 2957006417) :
    (State.poisonGoes s).outside fm = s.outside fm := by
  refine outside_mono hfm ?_
  unfold State.poisonGoes
  (try simp) <;> (repeat' split) <;> simp_all

@[simp] theorem State.writeApplied_outside (s : State) (dpa : Nat) (w : Option WriteData) (fm : Nat) (hfm : 18001 &&& fm = 18001) :
    (State.writeApplied s dpa w).outside fm = s.outside fm := by
  refine outside_mono hfm ?_
  unfold State.writeApplied
  (try simp) <;> (repeat' split) <;> simp_all

@[simp] theorem State.writeMerged_outside (s : State) (dpa : Nat) (w : Option WriteData) (fm : Nat) (hfm : 18001 &&& fm = 18001) :
    (State.writeMerged s dpa w).outside fm = s.outside fm := by
  refine outside_mono hfm ?_
  unfold State.writeMerged
  (try simp) <;> (repeat' split) <;> simp_all

@[simp] theorem State.completeQueued_outside (s : State) (n : Nat) (e : QEntry) (fm : Nat) (hfm : 2147501649 &&& fm = 2147501649) :
    (State.completeQueued s n e).outside fm = s.outside fm := by
  refine outside_mono hfm ?_
  unfold State.completeQueued
  (try simp) <;> (repeat' split) <;> simp_all

@[simp] theorem State.releaseQueued_outside (s : State) (n : Nat) (fm : Nat) (hfm : 2147501649 &&& fm = 2147501649) :
    (State.releaseQueued s n).outside fm = s.outside fm := by
  refine outside_mono hfm ?_
  unfold State.releaseQueued
  (try simp) <;> (repeat' split) <;> simp_all

@[simp] theorem State.ueEvent_outside (s : State) (dpa : Nat) (addrErr : Bool) (sev who acc : Nat) (fm : Nat) (hfm : 17 &&& fm = 17) :
    (State.ueEvent s dpa addrErr sev who acc).outside fm = s.outside fm := by
  refine outside_mono hfm ?_
  unfold State.ueEvent
  (try simp) <;> (repeat' split) <;> simp_all

@[simp] theorem State.badLines_outside (s : State) (p : Nat) (lines : List Nat) (who : Nat) (fm : Nat) (hfm : 17 &&& fm = 17) :
    (State.badLines s p lines who).outside fm = s.outside fm := by
  refine outside_mono hfm ?_
  unfold State.badLines
  (try simp) <;> (repeat' split) <;> simp_all

end Sys2Proof.Machine
end

