-- ==== Sys2Proof/Laws/FrameSkim.lean ====
section
/-!
SUPPORT. Sys2Proof/Laws/FrameSkim.lean: what each operation of Machine/Skim.lean may change.
-/

set_option Elab.async false
namespace Sys2Proof.Machine

@[simp] theorem State.leavePanel_outside (s : State) (q panel : Nat) (fm : Nat) (hfm : 529 &&& fm = 529) :
    (State.leavePanel s q panel).outside fm = s.outside fm := by
  refine outside_mono hfm ?_
  unfold State.leavePanel
  (try simp) <;> (repeat' split) <;> simp_all

@[simp] theorem State.nextPanel_outside (s : State) (q : Nat) (fm : Nat) (hfm : 513 &&& fm = 513) :
    (State.nextPanel s q).2.outside fm = s.outside fm := by
  refine outside_mono hfm ?_
  unfold State.nextPanel
  (try simp) <;> (repeat' split) <;> simp_all

@[simp] theorem State.nextSet_outside (s : State) (q : Nat) (n0 : Nat) (fm : Nat) (hfm : 529 &&& fm = 529) :
    (State.nextSet s q n0).2.outside fm = s.outside fm := by
  refine outside_mono hfm ?_
  induction n0 generalizing s with
  | zero => rfl
  | succ n ih =>
    unfold State.nextSet
    split
    · split
      · simp
      · exact (ih _).trans (by simp)
    · split
      · have h := snd_outside (m := 529) ‹_ = (_, _)›
        exact (ih _).trans (by simpa using h.symm)
      · have h := snd_outside (m := 529) ‹_ = (_, _)›
        simpa using h.symm

@[simp] theorem State.pastPatch_outside (s : State) (q p : Nat) (fm : Nat) (hfm : 512 &&& fm = 512) :
    (State.pastPatch s q p).outside fm = s.outside fm := by
  refine outside_mono hfm ?_
  unfold State.pastPatch
  (try simp) <;> (repeat' split) <;> simp_all

@[simp] theorem State.wearFrame_outside (s : State) (fm : Nat) (hfm : 529 &&& fm = 529) :
    (State.wearFrame s).outside fm = s.outside fm := by
  refine outside_mono hfm ?_
  unfold State.wearFrame
  (try simp) <;> (repeat' split) <;> simp_all

@[simp] theorem State.judgeLevel_outside (s : State) (fm : Nat) (hfm : 65555 &&& fm = 65555) :
    (State.judgeLevel s).outside fm = s.outside fm := by
  refine outside_mono hfm ?_
  unfold State.judgeLevel
  (try simp) <;> (repeat' split) <;> simp_all

theorem execPatchSettingExpiry_outside (q : QuadIx) (mates : Nat) (s : State) (fm : Nat) (hfm : 2147484241 &&& fm = 2147484241) :
    s.framedBy fm (execPatchSettingExpiry q mates s) := by
  refine State.framedBy_mono hfm ?_
  unfold execPatchSettingExpiry
  (try simp) <;> (repeat' split) <;> simp_all

@[simp] theorem State.skimOn_outside (s : State) (q p : Nat) (bad : List Nat) (n0 : Option (Nat × Nat)) (fm : Nat) (hfm : 52817 &&& fm = 52817) :
    (State.skimOn s q p bad n0).outside fm = s.outside fm := by
  refine outside_mono hfm ?_
  unfold State.skimOn
  (try simp) <;> (repeat' split) <;> simp_all

@[simp] theorem State.skimPatch_outside (s : State) (q p : Nat) (bad : List Nat) (fm : Nat) (hfm : 53073 &&& fm = 53073) :
    (State.skimPatch s q p bad).outside fm = s.outside fm := by
  refine outside_mono hfm ?_
  unfold State.skimPatch
  (try simp) <;> (repeat' split) <;> simp_all

@[simp] theorem State.findSet_outside (s : State) (q : Nat) (fm : Nat) (hfm : 529 &&& fm = 529) :
    (State.findSet s q).2.outside fm = s.outside fm := by
  refine outside_mono hfm ?_
  unfold State.findSet
  (try simp) <;> (repeat' split) <;> simp_all

@[simp] theorem State.skimStart_outside (s : State) (q : Nat) (bad written : List Nat) (fm : Nat) (hfm : 53073 &&& fm = 53073) :
    (State.skimStart s q bad written).outside fm = s.outside fm := by
  refine outside_mono hfm ?_
  unfold State.skimStart
  repeat' first
    | (simp; done)
    | (rw [← snd_outside ‹_ = (_, _)›]; simp; done)
    | (rw [← thd_outside ‹_ = (_, _, _)›]; simp; done)
    | split
    | refine (State.each_outside _ _ _ _ ?_).trans ?_
    | refine (foldl_outside _ _ ?_ _ _).trans ?_
    | refine (State.when_outside _ _ _ _ ?_).trans ?_
    | refine occurs_outside _ _ _ _ (by decide) ?_
    | (intro _; skip)
    | simp

theorem execSkimStart_outside (q : QuadIx) (bad : List Nat) (mates : Nat) (s : State) (fm : Nat) (hfm : 2147536721 &&& fm = 2147536721) :
    s.framedBy fm (execSkimStart q bad mates s) := by
  refine State.framedBy_mono hfm ?_
  unfold execSkimStart
  (try simp) <;> (repeat' split) <;> simp_all

@[simp] theorem State.recordVersion_outside (s : State) (v : Version) (unit : Nat) (fm : Nat) (hfm : 2097985 &&& fm = 2097985) :
    (State.recordVersion s v unit).outside fm = s.outside fm := by
  refine outside_mono hfm ?_
  unfold State.recordVersion
  (try simp) <;> (repeat' split) <;> simp_all

theorem execVersionRecorded_outside (die : DieIx) (unit : Nat) (s : State) (fm : Nat) (hfm : 2149581633 &&& fm = 2149581633) :
    s.framedBy fm (execVersionRecorded die unit s) := by
  refine State.framedBy_mono hfm ?_
  unfold execVersionRecorded
  (try simp) <;> (repeat' split) <;> simp_all

theorem execWearAllowanceRecompute_outside (q : QuadIx) (s : State) (fm : Nat) (hfm : 2147484177 &&& fm = 2147484177) :
    s.framedBy fm (execWearAllowanceRecompute q s) := by
  refine State.framedBy_mono hfm ?_
  unfold execWearAllowanceRecompute
  (try simp) <;> (repeat' split) <;> simp_all

end Sys2Proof.Machine
end

