-- ==== Sys2Proof/Laws/FrameWalk.lean ====
section
/-!
SUPPORT. Sys2Proof/Laws/FrameWalk.lean: what each operation of Machine/Walk.lean may change.
-/

set_option Elab.async false
namespace Sys2Proof.Machine

@[simp] theorem State.modFill_outside (s : State) (q p : Nat) (f : Fill → Fill) (fm : Nat) (hfm : 512 &&& fm = 512) :
    (State.modFill s q p f).outside fm = s.outside fm := by
  refine outside_mono hfm ?_
  unfold State.modFill
  (try simp) <;> (repeat' split) <;> simp_all

@[simp] theorem State.modHeal_outside (s : State) (q p : Nat) (f : Heal → Heal) (fm : Nat) (hfm : 512 &&& fm = 512) :
    (State.modHeal s q p f).outside fm = s.outside fm := by
  refine outside_mono hfm ?_
  unfold State.modHeal
  (try simp) <;> (repeat' split) <;> simp_all

@[simp] theorem State.judgePlaces_outside (s : State) (fm : Nat) (hfm : 4097 &&& fm = 4097) :
    (State.judgePlaces s).outside fm = s.outside fm := by
  refine outside_mono hfm ?_
  unfold State.judgePlaces
  (try simp) <;> (repeat' split) <;> simp_all

@[simp] theorem State.pushFillRead_outside (s : State) (p : Nat) (order : Nat) (why : ReadWhy) (fm : Nat) (hfm : 2048 &&& fm = 2048) :
    (State.pushFillRead s p order why).outside fm = s.outside fm := by
  refine outside_mono hfm ?_
  unfold State.pushFillRead
  (try simp) <;> (repeat' split) <;> simp_all

@[simp] theorem State.raiseRead_outside (s : State) (p : Nat) (fm : Nat) (hfm : 2048 &&& fm = 2048) :
    (State.raiseRead s p).outside fm = s.outside fm := by
  refine outside_mono hfm ?_
  unfold State.raiseRead
  (try simp) <;> (repeat' split) <;> simp_all

@[simp] theorem State.takePlace_outside (s : State) (q p : Nat) (fm : Nat) (hfm : 2560 &&& fm = 2560) :
    (State.takePlace s q p).outside fm = s.outside fm := by
  refine outside_mono hfm ?_
  unfold State.takePlace
  (try simp) <;> (repeat' split) <;> simp_all

@[simp] theorem State.askPlace_outside (s : State) (q p n : Nat) (fm : Nat) (hfm : 6657 &&& fm = 6657) :
    (State.askPlace s q p n).outside fm = s.outside fm := by
  refine outside_mono hfm ?_
  unfold State.askPlace
  (try simp) <;> (repeat' split) <;> simp_all

@[simp] theorem State.startFill_outside (s : State) (q p : Nat) (cls : FillCls) (fm : Nat) (hfm : 6657 &&& fm = 6657) :
    (State.startFill s q p cls).outside fm = s.outside fm := by
  refine outside_mono hfm ?_
  unfold State.startFill
  (try simp) <;> (repeat' split) <;> simp_all

@[simp] theorem State.faultIn_outside (s : State) (p : Nat) (fm : Nat) (hfm : 6657 &&& fm = 6657) :
    (State.faultIn s p).outside fm = s.outside fm := by
  refine outside_mono hfm ?_
  unfold State.faultIn
  (try simp) <;> (repeat' split) <;> simp_all

@[simp] theorem State.startHeal_outside (s : State) (q p line : Nat) (addrErr : Bool) (waiting : List HealWait) (fm : Nat) (hfm : 2560 &&& fm = 2560) :
    (State.startHeal s q p line addrErr waiting).outside fm = s.outside fm := by
  refine outside_mono hfm ?_
  unfold State.startHeal
  (try simp) <;> (repeat' split) <;> simp_all

@[simp] theorem State.judgeFilled_outside (s : State) (q : Nat) (fm : Nat) (hfm : 17 &&& fm = 17) :
    (State.judgeFilled s q).outside fm = s.outside fm := by
  refine outside_mono hfm ?_
  unfold State.judgeFilled
  (try simp) <;> (repeat' split) <;> simp_all

@[simp] theorem State.leavePatch_outside (s : State) (q p : Nat) (fm : Nat) (hfm : 513 &&& fm = 513) :
    (State.leavePatch s q p).outside fm = s.outside fm := by
  refine outside_mono hfm ?_
  unfold State.leavePatch
  (try simp) <;> (repeat' split) <;> simp_all

@[simp] theorem State.saveWrite_outside (s : State) (q p : Nat) (k n : Nat) (content : List Host.Cell) (poison : BitVec 1024) (fm : Nat) (hfm : 52801 &&& fm = 52801) :
    (State.saveWrite s q p k n content poison).outside fm = s.outside fm := by
  refine outside_mono hfm ?_
  unfold State.saveWrite
  (try simp) <;> (repeat' split) <;> simp_all

@[simp] theorem State.saveOver_outside (s : State) (q p k n : Nat) (mask : BitVec 1024) (content : List Host.Cell) (poison : BitVec 1024) (fm : Nat) (hfm : 52817 &&& fm = 52817) :
    (State.saveOver s q p k n mask content poison).outside fm = s.outside fm := by
  refine outside_mono hfm ?_
  unfold State.saveOver
  (try simp) <;> (repeat' split) <;> simp_all

@[simp] theorem State.saveOverLost_outside (s : State) (q p k n : Nat) (mask : BitVec 1024) (fm : Nat) (hfm : 52817 &&& fm = 52817) :
    (State.saveOverLost s q p k n mask).outside fm = s.outside fm := by
  refine outside_mono hfm ?_
  unfold State.saveOverLost
  (try simp) <;> (repeat' split) <;> simp_all

@[simp] theorem State.saveMerge_outside (s : State) (q : Nat) (f : Fill) (k n : Nat) (fm : Nat) (hfm : 52817 &&& fm = 52817) :
    (State.saveMerge s q f k n).outside fm = s.outside fm := by
  refine outside_mono hfm ?_
  unfold State.saveMerge
  (try simp) <;> (repeat' split) <;> simp_all

@[simp] theorem State.savePlain_outside (s : State) (q p k n : Nat) (fm : Nat) (hfm : 52817 &&& fm = 52817) :
    (State.savePlain s q p k n).outside fm = s.outside fm := by
  refine outside_mono hfm ?_
  unfold State.savePlain
  (try simp) <;> (repeat' split) <;> simp_all

theorem State.saveOne_outside (s : State) (q : Nat) (t : State) (h : s.saveOne q = some t) (m : Nat) (hm : 2154321 &&& m = 2154321) :
    t.outside m = s.outside m := by
  refine outside_mono hm ?_
  unfold State.saveOne at h
  dsimp only at h
  repeat' split at h
  all_goals first
    | (cases h; done)
    | (injection h with h; subst h; simp; done)

@[simp] theorem State.saveFillFor_outside (s : State) (q : Nat) (n0 : Nat) (fm : Nat) (hfm : 2154321 &&& fm = 2154321) :
    (State.saveFillFor s q n0).outside fm = s.outside fm := by
  refine outside_mono hfm ?_
  induction n0 generalizing s with
  | zero => rfl
  | succ n ih =>
    unfold State.saveFillFor
    split
    · rfl
    · exact (ih _).trans (State.saveOne_outside _ _ _ ‹_› _ (by decide))

@[simp] theorem State.saveFill_outside (s : State) (q : Nat) (fm : Nat) (hfm : 2154321 &&& fm = 2154321) :
    (State.saveFill s q).outside fm = s.outside fm := by
  refine outside_mono hfm ?_
  unfold State.saveFill
  (try simp) <;> (repeat' split) <;> simp_all

@[simp] theorem State.holdReloc_outside (s : State) (q : Nat) (x : Nat × Nat × Bool × Nat) (fm : Nat) (hfm : 512 &&& fm = 512) :
    (State.holdReloc s q x).outside fm = s.outside fm := by
  refine outside_mono hfm ?_
  unfold State.holdReloc
  (try simp) <;> (repeat' split) <;> simp_all

@[simp] theorem State.startReloc_outside (s : State) (die unit : Nat) (same : Bool) (order : Nat) (fm : Nat) (hfm : 2560 &&& fm = 2560) :
    (State.startReloc s die unit same order).outside fm = s.outside fm := by
  refine outside_mono hfm ?_
  unfold State.startReloc
  (try simp) <;> (repeat' split) <;> simp_all

@[simp] theorem State.relocGo_outside (s : State) (q : Nat) (fm : Nat) (hfm : 2560 &&& fm = 2560) :
    (State.relocGo s q).outside fm = s.outside fm := by
  refine outside_mono hfm ?_
  unfold State.relocGo
  (try simp) <;> (repeat' split) <;> simp_all

@[simp] theorem State.flashGo_outside (s : State) (q : Nat) (fm : Nat) (hfm : 2154321 &&& fm = 2154321) :
    (State.flashGo s q).outside fm = s.outside fm := by
  refine outside_mono hfm ?_
  unfold State.flashGo
  (try simp) <;> (repeat' split) <;> simp_all

@[simp] theorem State.cipherFailed_outside (s : State) (q : Nat) (j : CipherJob) (fm : Nat) (hfm : 35409 &&& fm = 35409) :
    (State.cipherFailed s q j).outside fm = s.outside fm := by
  refine outside_mono hfm ?_
  unfold State.cipherFailed
  (try simp) <;> (repeat' split) <;> simp_all

theorem execCipherCodewordDone_outside (n : PairIx) (mismatch spareMismatch : Bool) (s : State) (fm : Nat) (hfm : 2147519057 &&& fm = 2147519057) :
    s.framedBy fm (execCipherCodewordDone n mismatch spareMismatch s) := by
  refine State.framedBy_mono hfm ?_
  unfold execCipherCodewordDone
  repeat' first
    | (simp; done)
    | (rw [← snd_outside ‹_ = (_, _)›]; simp; done)
    | (rw [← thd_outside ‹_ = (_, _, _)›]; simp; done)
    | split
    | refine (State.each_outside _ _ _ _ ?_).trans ?_
    | refine (foldl_outside _ _ ?_ _ _).trans ?_
    | refine (State.when_outside _ _ _ _ ?_).trans ?_
    | refine occurs_outside _ _ _ _ (by decide) ?_
    | (intro _; skip)
    | simp

@[simp] theorem State.losePage_outside (s : State) (q page : Nat) (fm : Nat) (hfm : 256 &&& fm = 256) :
    (State.losePage s q page).outside fm = s.outside fm := by
  refine outside_mono hfm ?_
  unfold State.losePage
  (try simp) <;> (repeat' split) <;> simp_all

@[simp] theorem State.imgLost_outside (s : State) (q die unit : Nat) (fm : Nat) (hfm : 17 &&& fm = 17) :
    (State.imgLost s q die unit).outside fm = s.outside fm := by
  refine outside_mono hfm ?_
  unfold State.imgLost
  (try simp) <;> (repeat' split) <;> simp_all

@[simp] theorem State.pageLostEvent_outside (s : State) (q die unit : Nat) (fm : Nat) (hfm : 17 &&& fm = 17) :
    (State.pageLostEvent s q die unit).outside fm = s.outside fm := by
  refine outside_mono hfm ?_
  unfold State.pageLostEvent
  (try simp) <;> (repeat' split) <;> simp_all

@[simp] theorem State.versionLost_outside (s : State) (p : Nat) (fm : Nat) (hfm : 593 &&& fm = 593) :
    (State.versionLost s p).outside fm = s.outside fm := by
  refine outside_mono hfm ?_
  unfold State.versionLost
  (try simp) <;> (repeat' split) <;> simp_all

@[simp] theorem State.unitLost_outside (s : State) (die unit : Nat) (fm : Nat) (hfm : 849 &&& fm = 849) :
    (State.unitLost s die unit).outside fm = s.outside fm := by
  refine outside_mono hfm ?_
  unfold State.unitLost
  (try simp) <;> (repeat' split) <;> simp_all

end Sys2Proof.Machine
end

