-- ==== Sys2Proof/Laws/FrameCodeword.lean ====
section
/-!
SUPPORT. Sys2Proof/Laws/FrameCodeword.lean: what each operation of Machine/Codeword.lean may change.
-/

set_option Elab.async false
namespace Sys2Proof.Machine

end Sys2Proof.Machine
end

