-- ==== Sys2Proof/Laws/FrameFlash.lean ====
section
/-!
SUPPORT. Sys2Proof/Laws/FrameFlash.lean: what each operation of Machine/Flash.lean may change.
-/

set_option Elab.async false
namespace Sys2Proof.Machine

@[simp] theorem State.serveBy_outside (s : State) (fc g : Nat) (fm : Nat) (hfm : 512 &&& fm = 512) :
    (State.serveBy s fc g).outside fm = s.outside fm := by
  refine outside_mono hfm ?_
  unfold State.serveBy
  (try simp) <;> (repeat' split) <;> simp_all

@[simp] theorem State.shareEngine_outside (s : State) (fc : Nat) (fm : Nat) (hfm : 297937 &&& fm = 297937) :
    (State.shareEngine s fc).outside fm = s.outside fm := by
  refine outside_mono hfm ?_
  unfold State.shareEngine
  (try simp) <;> (repeat' split) <;> simp_all

@[simp] theorem State.retireEngine_outside (s : State) (g : Nat) (fm : Nat) (hfm : 297937 &&& fm = 297937) :
    (State.retireEngine s g).outside fm = s.outside fm := by
  refine outside_mono hfm ?_
  unfold State.retireEngine
  (try simp) <;> (repeat' split) <;> simp_all

@[simp] theorem State.engineCheck_outside (s : State) (fc : Nat) (c : EngineCheck) (fm : Nat) (hfm : 297937 &&& fm = 297937) :
    (State.engineCheck s fc c).outside fm = s.outside fm := by
  refine outside_mono hfm ?_
  unfold State.engineCheck
  (try simp) <;> (repeat' split) <;> simp_all

@[simp] theorem State.setCurrent_outside (s : State) (n : Nat) (o : Option DieOp) (fm : Nat) (hfm : 2048 &&& fm = 2048) :
    (State.setCurrent s n o).outside fm = s.outside fm := by
  refine outside_mono hfm ?_
  unfold State.setCurrent
  (try simp) <;> (repeat' split) <;> simp_all

@[simp] theorem State.startOp_outside (s : State) (n : Nat) (o run : DieOp) (fm : Nat) (hfm : 2048 &&& fm = 2048) :
    (State.startOp s n o run).outside fm = s.outside fm := by
  refine outside_mono hfm ?_
  unfold State.startOp
  (try simp) <;> (repeat' split) <;> simp_all

@[simp] theorem State.fillVoid_outside (s : State) (n : Nat) (fm : Nat) (hfm : 2321 &&& fm = 2321) :
    (State.fillVoid s n).outside fm = s.outside fm := by
  refine outside_mono hfm ?_
  unfold State.fillVoid
  (try simp) <;> (repeat' split) <;> simp_all

@[simp] theorem State.loadStart_outside (s : State) (n : Nat) (fm : Nat) (hfm : 2048 &&& fm = 2048) :
    (State.loadStart s n).outside fm = s.outside fm := by
  refine outside_mono hfm ?_
  unfold State.loadStart
  (try simp) <;> (repeat' split) <;> simp_all

@[simp] theorem State.dieOpStart_outside (s : State) (n : Nat) (fm : Nat) (hfm : 2321 &&& fm = 2321) :
    (State.dieOpStart s n).outside fm = s.outside fm := by
  refine outside_mono hfm ?_
  unfold State.dieOpStart
  (try simp) <;> (repeat' split) <;> simp_all

theorem execDieOpStart_outside (die : DieIx) (s : State) (fm : Nat) (hfm : 2149637969 &&& fm = 2149637969) :
    s.framedBy fm (execDieOpStart die s) := by
  refine State.framedBy_mono hfm ?_
  unfold execDieOpStart
  (try simp) <;> (repeat' split) <;> simp_all

@[simp] theorem State.closeStripe_outside (s : State) (pos u : Nat) (fm : Nat) (hfm : 35665 &&& fm = 35665) :
    (State.closeStripe s pos u).outside fm = s.outside fm := by
  refine outside_mono hfm ?_
  unfold State.closeStripe
  (try simp) <;> (repeat' split) <;> simp_all

@[simp] theorem State.ckptAdvance_outside (s : State) (q : Nat) (fm : Nat) (hfm : 35585 &&& fm = 35585) :
    (State.ckptAdvance s q).outside fm = s.outside fm := by
  refine outside_mono hfm ?_
  unfold State.ckptAdvance
  (try simp) <;> (repeat' split) <;> simp_all

@[simp] theorem State.coverUnit_outside (s : State) (n u : Nat) (fm : Nat) (hfm : 35585 &&& fm = 35585) :
    (State.coverUnit s n u).outside fm = s.outside fm := by
  refine outside_mono hfm ?_
  unfold State.coverUnit
  (try simp) <;> (repeat' split) <;> simp_all

@[simp] theorem State.parityGood_outside (s : State) (pos u : Nat) (fm : Nat) (hfm : 35585 &&& fm = 35585) :
    (State.parityGood s pos u).outside fm = s.outside fm := by
  refine outside_mono hfm ?_
  unfold State.parityGood
  (try simp) <;> (repeat' split) <;> simp_all

theorem execStripeClose_outside (pos unit : Nat) (s : State) (fm : Nat) (hfm : 2149637969 &&& fm = 2149637969) :
    s.framedBy fm (execStripeClose pos unit s) := by
  refine State.framedBy_mono hfm ?_
  unfold execStripeClose
  refine occurs_outside _ _ _ _ (by decide) fun x => ?_
  exact (State.each_outside _ _ _ _ fun _ _ => State.flashGo_outside _ _ _ (by decide)).trans (State.closeStripe_outside _ _ _ _ (by decide))

@[simp] theorem State.closeOld_outside (s : State) (pos u : Nat) (fm : Nat) (hfm : 35665 &&& fm = 35665) :
    (State.closeOld s pos u).outside fm = s.outside fm := by
  refine outside_mono hfm ?_
  unfold State.closeOld
  (try simp) <;> (repeat' split) <;> simp_all

@[simp] theorem State.placeProgram_outside (s : State) (n : Nat) (o : DieOp) (body : UnitBody) (spoiled token : Bool) (fm : Nat) (hfm : 2147519313 &&& fm = 2147519313) :
    (State.placeProgram s n o body spoiled token).outside fm = s.outside fm := by
  refine outside_mono hfm ?_
  unfold State.placeProgram
  (try simp) <;> (repeat' split) <;> simp_all

@[simp] theorem State.loadEnds_outside (s : State) (n : Nat) (fm : Nat) (hfm : 2048 &&& fm = 2048) :
    (State.loadEnds s n).outside fm = s.outside fm := by
  refine outside_mono hfm ?_
  unfold State.loadEnds
  (try simp) <;> (repeat' split) <;> simp_all

@[simp] theorem State.confirm_outside (s : State) (n : Nat) (e : EngineCheck) (fm : Nat) (hfm : 2147781585 &&& fm = 2147781585) :
    (State.confirm s n e).outside fm = s.outside fm := by
  refine outside_mono hfm ?_
  unfold State.confirm
  (try simp) <;> (repeat' split) <;> simp_all

theorem execFlashProgramConfirm_outside (die : DieIx) (e : EngineCheck) (s : State) (fm : Nat) (hfm : 2149900241 &&& fm = 2149900241) :
    s.framedBy fm (execFlashProgramConfirm die e s) := by
  refine State.framedBy_mono hfm ?_
  unfold execFlashProgramConfirm
  (try simp) <;> (repeat' split) <;> simp_all

@[simp] theorem State.programGood_outside (s : State) (n u : Nat) (body : UnitBody) (fm : Nat) (hfm : 35585 &&& fm = 35585) :
    (State.programGood s n u body).outside fm = s.outside fm := by
  refine outside_mono hfm ?_
  unfold State.programGood
  (try simp) <;> (repeat' split) <;> simp_all

@[simp] theorem State.programBad_outside (s : State) (n u : Nat) (body : UnitBody) (plane : Option Nat) (fm : Nat) (hfm : 297937 &&& fm = 297937) :
    (State.programBad s n u body plane).outside fm = s.outside fm := by
  refine outside_mono hfm ?_
  unfold State.programBad
  (try simp) <;> (repeat' split) <;> simp_all

@[simp] theorem State.programEnds_outside (s : State) (n : Nat) (failed : Bool) (plane : Option Nat) (fm : Nat) (hfm : 297937 &&& fm = 297937) :
    (State.programEnds s n failed plane).outside fm = s.outside fm := by
  refine outside_mono hfm ?_
  unfold State.programEnds
  (try simp) <;> (repeat' split) <;> simp_all

theorem execFlashProgramStatus_outside (die : DieIx) (failed : Option (Fin 4)) (s : State) (fm : Nat) (hfm : 2149900241 &&& fm = 2149900241) :
    s.framedBy fm (execFlashProgramStatus die failed s) := by
  refine State.framedBy_mono hfm ?_
  unfold execFlashProgramStatus
  (try simp) <;> (repeat' split) <;> simp_all

@[simp] theorem State.showWear_outside (s : State) (n : Nat) (fm : Nat) (hfm : 1 &&& fm = 1) :
    (State.showWear s n).outside fm = s.outside fm := by
  refine outside_mono hfm ?_
  unfold State.showWear
  (try simp) <;> (repeat' split) <;> simp_all

@[simp] theorem State.replaceBlock_outside (s : State) (n band plane : Nat) (fm : Nat) (hfm : 297937 &&& fm = 297937) :
    (State.replaceBlock s n band plane).outside fm = s.outside fm := by
  refine outside_mono hfm ?_
  unfold State.replaceBlock
  (try simp) <;> (repeat' split) <;> simp_all

@[simp] theorem State.bandErased_outside (s : State) (pos band : Nat) (fm : Nat) (hfm : 273 &&& fm = 273) :
    (State.bandErased s pos band).outside fm = s.outside fm := by
  refine outside_mono hfm ?_
  unfold State.bandErased
  (try simp) <;> (repeat' split) <;> simp_all

@[simp] theorem State.eraseGood_outside (s : State) (n band : Nat) (fm : Nat) (hfm : 297937 &&& fm = 297937) :
    (State.eraseGood s n band).outside fm = s.outside fm := by
  refine outside_mono hfm ?_
  unfold State.eraseGood
  (try simp) <;> (repeat' split) <;> simp_all

@[simp] theorem State.eraseEnds_outside (s : State) (n : Nat) (failed : Bool) (plane : Option Nat) (fm : Nat) (hfm : 297937 &&& fm = 297937) :
    (State.eraseEnds s n failed plane).outside fm = s.outside fm := by
  refine outside_mono hfm ?_
  unfold State.eraseEnds
  (try simp) <;> (repeat' split) <;> simp_all

theorem execFlashEraseStatus_outside (die : DieIx) (failed : Option (Fin 4)) (s : State) (fm : Nat) (hfm : 2149900241 &&& fm = 2149900241) :
    s.framedBy fm (execFlashEraseStatus die failed s) := by
  refine State.framedBy_mono hfm ?_
  unfold execFlashEraseStatus
  (try simp) <;> (repeat' split) <;> simp_all

@[simp] theorem State.rebuildUnit_outside (s : State) (n u : Nat) (good : Bool) (fm : Nat) (hfm : 2897 &&& fm = 2897) :
    (State.rebuildUnit s n u good).outside fm = s.outside fm := by
  refine outside_mono hfm ?_
  unfold State.rebuildUnit
  (try simp) <;> (repeat' split) <;> simp_all

@[simp] theorem State.rebuildEnd_outside (s : State) (r : Rebuild) (fm : Nat) (hfm : 2897 &&& fm = 2897) :
    (State.rebuildEnd s r).outside fm = s.outside fm := by
  refine outside_mono hfm ?_
  unfold State.rebuildEnd
  (try simp) <;> (repeat' split) <;> simp_all

@[simp] theorem State.memberRead_outside (s : State) (die u chan : Nat) (ok : Bool) (fm : Nat) (hfm : 2897 &&& fm = 2897) :
    (State.memberRead s die u chan ok).outside fm = s.outside fm := by
  refine outside_mono hfm ?_
  unfold State.memberRead
  (try simp) <;> (repeat' split) <;> simp_all

@[simp] theorem State.undecodable_outside (s : State) (n u : Nat) (fm : Nat) (hfm : 297937 &&& fm = 297937) :
    (State.undecodable s n u).outside fm = s.outside fm := by
  refine outside_mono hfm ?_
  unfold State.undecodable
  (try simp) <;> (repeat' split) <;> simp_all

@[simp] theorem State.readResult_outside (s : State) (n u : Nat) (why : ReadWhy) (passes : Nat) (ok : Bool) (fm : Nat) (hfm : 2897 &&& fm = 2897) :
    (State.readResult s n u why passes ok).outside fm = s.outside fm := by
  refine outside_mono hfm ?_
  unfold State.readResult
  (try simp) <;> (repeat' split) <;> simp_all

@[simp] theorem State.unitDecoded_outside (s : State) (n u : Nat) (why : ReadWhy) (r : FlashRead) (fm : Nat) (hfm : 2416593 &&& fm = 2416593) :
    (State.unitDecoded s n u why r).outside fm = s.outside fm := by
  refine outside_mono hfm ?_
  unfold State.unitDecoded
  (try simp) <;> (repeat' split) <;> simp_all

theorem execFlashReadData_outside (die : DieIx) (r : FlashRead) (s : State) (fm : Nat) (hfm : 2149900241 &&& fm = 2149900241) :
    s.framedBy fm (execFlashReadData die r s) := by
  refine State.framedBy_mono hfm ?_
  unfold execFlashReadData
  (try simp) <;> (repeat' split) <;> simp_all

theorem execFlashStatusTimeout_outside (die : DieIx) (s : State) (fm : Nat) (hfm : 2149900241 &&& fm = 2149900241) :
    s.framedBy fm (execFlashStatusTimeout die s) := by
  refine State.framedBy_mono hfm ?_
  unfold execFlashStatusTimeout
  (try simp) <;> (repeat' split) <;> simp_all

@[simp] theorem State.rebuildStart_outside (s : State) (n u : Nat) (fm : Nat) (hfm : 2897 &&& fm = 2897) :
    (State.rebuildStart s n u).outside fm = s.outside fm := by
  refine outside_mono hfm ?_
  unfold State.rebuildStart
  (try simp) <;> (repeat' split) <;> simp_all

theorem execStripeRebuild_outside (die : DieIx) (unit : Nat) (s : State) (fm : Nat) (hfm : 2149637969 &&& fm = 2149637969) :
    s.framedBy fm (execStripeRebuild die unit s) := by
  refine State.framedBy_mono hfm ?_
  unfold execStripeRebuild
  (try simp) <;> (repeat' split) <;> simp_all

theorem execDieRebuildRelocate_outside (die : DieIx) (s : State) (fm : Nat) (hfm : 2147486545 &&& fm = 2147486545) :
    s.framedBy fm (execDieRebuildRelocate die s) := by
  refine State.framedBy_mono hfm ?_
  unfold execDieRebuildRelocate
  (try simp) <;> (repeat' split) <;> simp_all

@[simp] theorem State.channelFailed_outside (s : State) (fc : Nat) (fm : Nat) (hfm : 297937 &&& fm = 297937) :
    (State.channelFailed s fc).outside fm = s.outside fm := by
  refine outside_mono hfm ?_
  unfold State.channelFailed
  (try simp) <;> (repeat' split) <;> simp_all

theorem execFcFailed_outside (fc : FcIx) (s : State) (fm : Nat) (hfm : 2147781585 &&& fm = 2147781585) :
    s.framedBy fm (execFcFailed fc s) := by
  refine State.framedBy_mono hfm ?_
  unfold execFcFailed
  (try simp) <;> (repeat' split) <;> simp_all

@[simp] theorem State.buildMap_outside (s : State) (n : Nat) (factory : List Nat) (fm : Nat) (hfm : 2048 &&& fm = 2048) :
    (State.buildMap s n factory).outside fm = s.outside fm := by
  refine outside_mono hfm ?_
  unfold State.buildMap
  (try simp) <;> (repeat' split) <;> simp_all

@[simp] theorem State.initDie_outside (s : State) (n : Nat) (i : DieInit) (fm : Nat) (hfm : 297937 &&& fm = 297937) :
    (State.initDie s n i).outside fm = s.outside fm := by
  refine outside_mono hfm ?_
  unfold State.initDie
  (try simp) <;> (repeat' split) <;> simp_all

@[simp] theorem State.channelCut_outside (s : State) (fc : Nat) (fm : Nat) (hfm : 297941 &&& fm = 297941) :
    (State.channelCut s fc).outside fm = s.outside fm := by
  refine outside_mono hfm ?_
  unfold State.channelCut
  repeat' first
    | (simp; done)
    | (rw [← snd_outside ‹_ = (_, _)›]; simp; done)
    | (rw [← thd_outside ‹_ = (_, _, _)›]; simp; done)
    | split
    | refine (State.each_outside _ _ _ _ ?_).trans ?_
    | refine (foldl_outside _ _ ?_ _ _).trans ?_
    | refine (State.when_outside _ _ _ _ ?_).trans ?_
    | refine occurs_outside _ _ _ _ (by decide) ?_
    | (intro _; skip)
    | simp

@[simp] theorem State.channelBack_outside (s : State) (fc : Nat) (fm : Nat) (hfm : 2154325 &&& fm = 2154325) :
    (State.channelBack s fc).outside fm = s.outside fm := by
  refine outside_mono hfm ?_
  unfold State.channelBack
  (try simp) <;> (repeat' split) <;> simp_all

@[simp] theorem State.takeRecordDie_outside (s : State) (fc : Nat) (fm : Nat) (hfm : 1 &&& fm = 1) :
    (State.takeRecordDie s fc).outside fm = s.outside fm := by
  refine outside_mono hfm ?_
  unfold State.takeRecordDie
  (try simp) <;> (repeat' split) <;> simp_all

@[simp] theorem State.takeEngines_outside (s : State) (fc : Nat) (fm : Nat) (hfm : 1 &&& fm = 1) :
    (State.takeEngines s fc).outside fm = s.outside fm := by
  refine outside_mono hfm ?_
  unfold State.takeEngines
  (try simp) <;> (repeat' split) <;> simp_all

@[simp] theorem State.releaseWp_outside (s : State) (fc : Nat) (fm : Nat) (hfm : 524288 &&& fm = 524288) :
    (State.releaseWp s fc).outside fm = s.outside fm := by
  refine outside_mono hfm ?_
  unfold State.releaseWp
  (try simp) <;> (repeat' split) <;> simp_all

@[simp] theorem State.initChannel_outside (s : State) (fc busFails : Nat) (r : List DieInit) (fm : Nat) (hfm : 822225 &&& fm = 822225) :
    (State.initChannel s fc busFails r).outside fm = s.outside fm := by
  refine outside_mono hfm ?_
  unfold State.initChannel
  (try simp) <;> (repeat' split) <;> simp_all

theorem execFlashChannelInit_outside (fc : FcIx) (busFails : Nat) (r : List DieInit) (s : State) (fm : Nat) (hfm : 2150424533 &&& fm = 2150424533) :
    s.framedBy fm (execFlashChannelInit fc busFails r s) := by
  refine State.framedBy_mono hfm ?_
  unfold execFlashChannelInit
  (try simp) <;> (repeat' split) <;> simp_all

end Sys2Proof.Machine
end

