-- ==== Sys2Proof/Laws/FrameImage.lean ====
section
/-!
SUPPORT. Sys2Proof/Laws/FrameImage.lean: what each operation of Machine/Image.lean may change.
-/

set_option Elab.async false
namespace Sys2Proof.Machine

@[simp] theorem State.putRecordSeq_outside (s : State) (n : Nat) (fm : Nat) (hfm : 1 &&& fm = 1) :
    (State.putRecordSeq s n).outside fm = s.outside fm := by
  refine outside_mono hfm ?_
  unfold State.putRecordSeq
  (try simp) <;> (repeat' split) <;> simp_all

@[simp] theorem State.programCopy_outside (s : State) (r : Record) (chan k : Nat) (ok : Bool) (fm : Nat) (hfm : 785 &&& fm = 785) :
    (State.programCopy s r chan k ok).2.outside fm = s.outside fm := by
  refine outside_mono hfm ?_
  unfold State.programCopy
  (try simp) <;> (repeat' split) <;> simp_all

@[simp] theorem State.writeCopy_outside (s : State) (r : Record) (k : Nat) (ok retryOk : Bool) (fm : Nat) (hfm : 785 &&& fm = 785) :
    (State.writeCopy s r k ok retryOk).2.outside fm = s.outside fm := by
  refine outside_mono hfm ?_
  unfold State.writeCopy
  repeat' first
    | (simp; done)
    | (rw [← snd_outside ‹_ = (_, _)›]; simp; done)
    | (rw [← thd_outside ‹_ = (_, _, _)›]; simp; done)
    | split
    | refine (State.each_outside _ _ _ _ ?_).trans ?_
    | refine (foldl_outside _ _ ?_ _ _).trans ?_
    | refine (State.when_outside _ _ _ _ ?_).trans ?_
    | refine occurs_outside _ _ _ _ (by decide) ?_
    | (intro _; skip)
    | simp

@[simp] theorem State.writeRecord_outside (s : State) (r : Record) (ok : List Bool) (fm : Nat) (hfm : 33553 &&& fm = 33553) :
    (State.writeRecord s r ok).2.2.outside fm = s.outside fm := by
  refine outside_mono hfm ?_
  unfold State.writeRecord
  (try simp) <;> (repeat' split) <;> simp_all

@[simp] theorem State.openGeneration_outside (s : State) (g : Nat) (fm : Nat) (hfm : 33537 &&& fm = 33537) :
    (State.openGeneration s g).outside fm = s.outside fm := by
  refine outside_mono hfm ?_
  unfold State.openGeneration
  (try simp) <;> (repeat' split) <;> simp_all

@[simp] theorem State.genExhausted_outside (s : State) (fm : Nat) (hfm : 273 &&& fm = 273) :
    (State.genExhausted s).outside fm = s.outside fm := by
  refine outside_mono hfm ?_
  unfold State.genExhausted
  (try simp) <;> (repeat' split) <;> simp_all

theorem execJournalFlush_outside (q : QuadIx) (s : State) (fm : Nat) (hfm : 2147518977 &&& fm = 2147518977) :
    s.framedBy fm (execJournalFlush q s) := by
  refine State.framedBy_mono hfm ?_
  unfold execJournalFlush
  (try simp) <;> (repeat' split) <;> simp_all

@[simp] theorem State.startCheckpoint_outside (s : State) (q : Nat) (fm : Nat) (hfm : 35585 &&& fm = 35585) :
    (State.startCheckpoint s q).outside fm = s.outside fm := by
  refine outside_mono hfm ?_
  unfold State.startCheckpoint
  (try simp) <;> (repeat' split) <;> simp_all

theorem execCheckpointStart_outside (q : QuadIx) (s : State) (fm : Nat) (hfm : 2147519233 &&& fm = 2147519233) :
    s.framedBy fm (execCheckpointStart q s) := by
  refine State.framedBy_mono hfm ?_
  unfold execCheckpointStart
  (try simp) <;> (repeat' split) <;> simp_all

theorem execCheckpointSeal_outside (ok : List Bool) (s : State) (fm : Nat) (hfm : 2147517201 &&& fm = 2147517201) :
    s.framedBy fm (execCheckpointSeal ok s) := by
  refine State.framedBy_mono hfm ?_
  unfold execCheckpointSeal
  (try simp) <;> (repeat' split) <;> simp_all

@[simp] theorem State.eraseBand_outside (s : State) (pos band order : Nat) (fm : Nat) (hfm : 2048 &&& fm = 2048) :
    (State.eraseBand s pos band order).outside fm = s.outside fm := by
  refine outside_mono hfm ?_
  unfold State.eraseBand
  (try simp) <;> (repeat' split) <;> simp_all

@[simp] theorem State.collect_outside (s : State) (pos band : Nat) (fm : Nat) (hfm : 2048 &&& fm = 2048) :
    (State.collect s pos band).outside fm = s.outside fm := by
  refine outside_mono hfm ?_
  unfold State.collect
  (try simp) <;> (repeat' split) <;> simp_all

@[simp] theorem State.collectBand_outside (s : State) (pos : Nat) (choice : Option Nat) (fm : Nat) (hfm : 2305 &&& fm = 2305) :
    (State.collectBand s pos choice).outside fm = s.outside fm := by
  refine outside_mono hfm ?_
  unfold State.collectBand
  (try simp) <;> (repeat' split) <;> simp_all

theorem execGcStart_outside (pos : Nat) (s : State) (fm : Nat) (hfm : 2147485953 &&& fm = 2147485953) :
    s.framedBy fm (execGcStart pos s) := by
  refine State.framedBy_mono hfm ?_
  unfold execGcStart
  (try simp) <;> (repeat' split) <;> simp_all

theorem execWearLevelRelocate_outside (pos : Nat) (s : State) (fm : Nat) (hfm : 2147485953 &&& fm = 2147485953) :
    s.framedBy fm (execWearLevelRelocate pos s) := by
  refine State.framedBy_mono hfm ?_
  unfold execWearLevelRelocate
  (try simp) <;> (repeat' split) <;> simp_all

@[simp] theorem State.relocated_outside (s : State) (q : Nat) (r : Reloc) (unit : Nat) (fm : Nat) (hfm : 2817 &&& fm = 2817) :
    (State.relocated s q r unit).outside fm = s.outside fm := by
  refine outside_mono hfm ?_
  unfold State.relocated
  (try simp) <;> (repeat' split) <;> simp_all

theorem execRelocationUpdate_outside (die : DieIx) (unit : Nat) (mates : Nat) (s : State) (fm : Nat) (hfm : 2147486465 &&& fm = 2147486465) :
    s.framedBy fm (execRelocationUpdate die unit mates s) := by
  refine State.framedBy_mono hfm ?_
  unfold execRelocationUpdate
  (try simp) <;> (repeat' split) <;> simp_all

@[simp] theorem State.patrolBegins_outside (s : State) (t : Nat) (fm : Nat) (hfm : 2147501329 &&& fm = 2147501329) :
    (State.patrolBegins s t).outside fm = s.outside fm := by
  refine outside_mono hfm ?_
  unfold State.patrolBegins
  (try simp) <;> (repeat' split) <;> simp_all

@[simp] theorem State.patrolQuadDone_outside (s : State) (q : Nat) (fm : Nat) (hfm : 2147503377 &&& fm = 2147503377) :
    (State.patrolQuadDone s q).outside fm = s.outside fm := by
  refine outside_mono hfm ?_
  unfold State.patrolQuadDone
  (try simp) <;> (repeat' split) <;> simp_all

@[simp] theorem State.patrolNext_outside (s : State) (q : Nat) (fm : Nat) (hfm : 2147503377 &&& fm = 2147503377) :
    (State.patrolNext s q).outside fm = s.outside fm := by
  refine outside_mono hfm ?_
  unfold State.patrolNext
  (try simp) <;> (repeat' split) <;> simp_all

theorem execImagePatrolStart_outside (q : QuadIx) (s : State) (fm : Nat) (hfm : 2147503377 &&& fm = 2147503377) :
    s.framedBy fm (execImagePatrolStart q s) := by
  refine State.framedBy_mono hfm ?_
  unfold execImagePatrolStart
  repeat' first
    | (simp; done)
    | (rw [← snd_outside ‹_ = (_, _)›]; simp; done)
    | (rw [← thd_outside ‹_ = (_, _, _)›]; simp; done)
    | split
    | refine (State.each_outside _ _ _ _ ?_).trans ?_
    | refine (foldl_outside _ _ ?_ _ _).trans ?_
    | refine (State.when_outside _ _ _ _ ?_).trans ?_
    | refine occurs_outside _ _ _ _ (by decide) ?_
    | (intro _; skip)
    | simp

end Sys2Proof.Machine
end

