-- ==== Sys2Proof/Laws/FrameRestore.lean ====
section
/-!
SUPPORT. Sys2Proof/Laws/FrameRestore.lean: what each operation of Machine/Restore.lean may change.
-/

set_option Elab.async false
namespace Sys2Proof.Machine

@[simp] theorem State.putLastShutdown_outside (s : State) (cause : Nat) (isSealed incomplete single : Bool) (time : Nat) (fm : Nat) (hfm : 1 &&& fm = 1) :
    (State.putLastShutdown s cause isSealed incomplete single time).outside fm = s.outside fm := by
  refine outside_mono hfm ?_
  unfold State.putLastShutdown
  (try simp) <;> (repeat' split) <;> simp_all

@[simp] theorem State.decideStart_outside (s : State) (st : Nat) (fm : Nat) (hfm : 1 &&& fm = 1) :
    (State.decideStart s st).outside fm = s.outside fm := by
  refine outside_mono hfm ?_
  unfold State.decideStart
  (try simp) <;> (repeat' split) <;> simp_all

@[simp] theorem State.deriveGens_outside (s : State) (g : Nat) (fm : Nat) (hfm : 32768 &&& fm = 32768) :
    (State.deriveGens s g).outside fm = s.outside fm := by
  refine outside_mono hfm ?_
  unfold State.deriveGens
  repeat' first
    | (simp; done)
    | (rw [← snd_outside ‹_ = (_, _)›]; simp; done)
    | (rw [← thd_outside ‹_ = (_, _, _)›]; simp; done)
    | split
    | refine (State.each_outside _ _ _ _ ?_).trans ?_
    | refine (foldl_outside _ _ ?_ _ _).trans ?_
    | refine (State.when_outside _ _ _ _ ?_).trans ?_
    | refine occurs_outside _ _ _ _ (by decide) ?_
    | (intro _; skip)
    | simp

@[simp] theorem State.takePq_outside (s : State) (r : Record) (fm : Nat) (hfm : 1 &&& fm = 1) :
    (State.takePq s r).outside fm = s.outside fm := by
  refine outside_mono hfm ?_
  unfold State.takePq
  (try simp) <;> (repeat' split) <;> simp_all

@[simp] theorem State.sealSearch_outside (s : State) (unreadable : List Nat) (fm : Nat) (hfm : 33025 &&& fm = 33025) :
    (State.sealSearch s unreadable).outside fm = s.outside fm := by
  refine outside_mono hfm ?_
  unfold State.sealSearch
  repeat' first
    | (simp; done)
    | (rw [← snd_outside ‹_ = (_, _)›]; simp; done)
    | (rw [← thd_outside ‹_ = (_, _, _)›]; simp; done)
    | split
    | refine (State.each_outside _ _ _ _ ?_).trans ?_
    | refine (foldl_outside _ _ ?_ _ _).trans ?_
    | refine (State.when_outside _ _ _ _ ?_).trans ?_
    | refine occurs_outside _ _ _ _ (by decide) ?_
    | (intro _; skip)
    | simp

theorem execSealSearch_outside (unreadable : List Nat) (s : State) (fm : Nat) (hfm : 2147516673 &&& fm = 2147516673) :
    s.framedBy fm (execSealSearch unreadable s) := by
  refine State.framedBy_mono hfm ?_
  unfold execSealSearch
  repeat' first
    | (simp; done)
    | (rw [← snd_outside ‹_ = (_, _)›]; simp; done)
    | (rw [← thd_outside ‹_ = (_, _, _)›]; simp; done)
    | split
    | refine (State.each_outside _ _ _ _ ?_).trans ?_
    | refine (foldl_outside _ _ ?_ _ _).trans ?_
    | refine (State.when_outside _ _ _ _ ?_).trans ?_
    | refine occurs_outside _ _ _ _ (by decide) ?_
    | (intro _; skip)
    | simp

@[simp] theorem State.putEntries_outside (s : State) (l : List (Nat × LEntry)) (fm : Nat) (hfm : 256 &&& fm = 256) :
    (State.putEntries s l).outside fm = s.outside fm := by
  refine outside_mono hfm ?_
  unfold State.putEntries
  (try simp) <;> (repeat' split) <;> simp_all

@[simp] theorem State.pagesLost_outside (s : State) (q : Nat) (pages : List Nat) (die unit : Nat) (fm : Nat) (hfm : 529 &&& fm = 529) :
    (State.pagesLost s q pages die unit).outside fm = s.outside fm := by
  refine outside_mono hfm ?_
  unfold State.pagesLost
  (try simp) <;> (repeat' split) <;> simp_all

@[simp] theorem State.loadPages_outside (s : State) (q : Nat) (lost : List (Nat × Nat)) (pages : List (Nat × Nat × Nat)) (fm : Nat) (hfm : 785 &&& fm = 785) :
    (State.loadPages s q lost pages).outside fm = s.outside fm := by
  refine outside_mono hfm ?_
  unfold State.loadPages
  repeat' first
    | (simp; done)
    | (rw [← snd_outside ‹_ = (_, _)›]; simp; done)
    | (rw [← thd_outside ‹_ = (_, _, _)›]; simp; done)
    | split
    | refine (State.each_outside _ _ _ _ ?_).trans ?_
    | refine (foldl_outside _ _ ?_ _ _).trans ?_
    | refine (State.when_outside _ _ _ _ ?_).trans ?_
    | refine occurs_outside _ _ _ _ (by decide) ?_
    | (intro _; skip)
    | simp

@[simp] theorem State.loadMap_outside (s : State) (q : Nat) (r : Record) (lost : List (Nat × Nat)) (fm : Nat) (hfm : 785 &&& fm = 785) :
    (State.loadMap s q r lost).outside fm = s.outside fm := by
  refine outside_mono hfm ?_
  unfold State.loadMap
  (try simp) <;> (repeat' split) <;> simp_all

@[simp] theorem State.replay_outside (s : State) (q : Nat) (entries : List JEntry) (fm : Nat) (hfm : 768 &&& fm = 768) :
    (State.replay s q entries).outside fm = s.outside fm := by
  refine outside_mono hfm ?_
  unfold State.replay
  (try simp) <;> (repeat' split) <;> simp_all

@[simp] theorem State.replayJournal_outside (s : State) (q : Nat) (units : List (Nat × Nat)) (lost : List (Nat × Nat)) (fm : Nat) (hfm : 785 &&& fm = 785) :
    (State.replayJournal s q units lost).outside fm = s.outside fm := by
  refine outside_mono hfm ?_
  unfold State.replayJournal
  repeat' first
    | (simp; done)
    | (rw [← snd_outside ‹_ = (_, _)›]; simp; done)
    | (rw [← thd_outside ‹_ = (_, _, _)›]; simp; done)
    | split
    | refine (State.each_outside _ _ _ _ ?_).trans ?_
    | refine (foldl_outside _ _ ?_ _ _).trans ?_
    | refine (State.when_outside _ _ _ _ ?_).trans ?_
    | refine occurs_outside _ _ _ _ (by decide) ?_
    | (intro _; skip)
    | simp

@[simp] theorem State.loadQuad_outside (s : State) (q : Nat) (r : Record) (lost : List (Nat × Nat)) (fm : Nat) (hfm : 785 &&& fm = 785) :
    (State.loadQuad s q r lost).outside fm = s.outside fm := by
  refine outside_mono hfm ?_
  unfold State.loadQuad
  repeat' first
    | (simp; done)
    | (rw [← snd_outside ‹_ = (_, _)›]; simp; done)
    | (rw [← thd_outside ‹_ = (_, _, _)›]; simp; done)
    | split
    | refine (State.each_outside _ _ _ _ ?_).trans ?_
    | refine (foldl_outside _ _ ?_ _ _).trans ?_
    | refine (State.when_outside _ _ _ _ ?_).trans ?_
    | refine occurs_outside _ _ _ _ (by decide) ?_
    | (intro _; skip)
    | simp

@[simp] theorem State.clearQuad_outside (s : State) (q : Nat) (fm : Nat) (hfm : 577 &&& fm = 577) :
    (State.clearQuad s q).outside fm = s.outside fm := by
  refine outside_mono hfm ?_
  unfold State.clearQuad
  (try simp) <;> (repeat' split) <;> simp_all

@[simp] theorem State.ledgerLoad_outside (s : State) (lost : List (Nat × Nat)) (fm : Nat) (hfm : 849 &&& fm = 849) :
    (State.ledgerLoad s lost).outside fm = s.outside fm := by
  refine outside_mono hfm ?_
  unfold State.ledgerLoad
  (try simp) <;> (repeat' split) <;> simp_all

theorem execLedgerLoad_outside (lost : List (Nat × Nat)) (s : State) (fm : Nat) (hfm : 2147484497 &&& fm = 2147484497) :
    s.framedBy fm (execLedgerLoad lost s) := by
  refine State.framedBy_mono hfm ?_
  unfold execLedgerLoad
  (try simp) <;> (repeat' split) <;> simp_all

@[simp] theorem State.tryRunOpen_outside (s : State) (r : Record) (ok : List Bool) (n0 : Nat) (fm : Nat) (hfm : 33553 &&& fm = 33553) :
    (State.tryRunOpen s r ok n0).2.outside fm = s.outside fm := by
  refine outside_mono hfm ?_
  induction n0 generalizing s ok with
  | zero => rfl
  | succ n ih =>
    unfold State.tryRunOpen
    split
    have h := thd_outside (m := 33553) ‹_ = (_, _, _)›
    split
    · simpa using h.symm
    · exact (ih _ _).trans (by simpa using h.symm)

@[simp] theorem State.arm_outside (s : State) (b : Bool) (fm : Nat) (hfm : 1 &&& fm = 1) :
    (State.arm s b).outside fm = s.outside fm := by
  refine outside_mono hfm ?_
  unfold State.arm
  (try simp) <;> (repeat' split) <;> simp_all

@[simp] theorem State.runOpenWrite_outside (s : State) (ok : List Bool) (fm : Nat) (hfm : 295697 &&& fm = 295697) :
    (State.runOpenWrite s ok).outside fm = s.outside fm := by
  refine outside_mono hfm ?_
  unfold State.runOpenWrite
  repeat' first
    | (simp; done)
    | (rw [← snd_outside ‹_ = (_, _)›]; simp; done)
    | (rw [← thd_outside ‹_ = (_, _, _)›]; simp; done)
    | split
    | refine (State.each_outside _ _ _ _ ?_).trans ?_
    | refine (foldl_outside _ _ ?_ _ _).trans ?_
    | refine (State.when_outside _ _ _ _ ?_).trans ?_
    | refine occurs_outside _ _ _ _ (by decide) ?_
    | (intro _; skip)
    | simp

theorem execRunOpenWrite_outside (ok : List Bool) (s : State) (fm : Nat) (hfm : 2147779345 &&& fm = 2147779345) :
    s.framedBy fm (execRunOpenWrite ok s) := by
  refine State.framedBy_mono hfm ?_
  unfold execRunOpenWrite
  (try simp) <;> (repeat' split) <;> simp_all

@[simp] theorem State.backgroundFill_outside (s : State) (q : Nat) (fm : Nat) (hfm : 6657 &&& fm = 6657) :
    (State.backgroundFill s q).outside fm = s.outside fm := by
  refine outside_mono hfm ?_
  unfold State.backgroundFill
  (try simp) <;> (repeat' split) <;> simp_all

theorem execBackgroundFillStart_outside (q : QuadIx) (s : State) (fm : Nat) (hfm : 2147490305 &&& fm = 2147490305) :
    s.framedBy fm (execBackgroundFillStart q s) := by
  refine State.framedBy_mono hfm ?_
  unfold execBackgroundFillStart
  (try simp) <;> (repeat' split) <;> simp_all

theorem execFaultInPlaceTaken_outside (die : DieIx) (s : State) (fm : Nat) (hfm : 2147490305 &&& fm = 2147490305) :
    s.framedBy fm (execFaultInPlaceTaken die s) := by
  refine State.framedBy_mono hfm ?_
  unfold execFaultInPlaceTaken
  (try simp) <;> (repeat' split) <;> simp_all

theorem execTagCompare_outside (q : QuadIx) (patch : Nat) (s : State) (fm : Nat) (hfm : 2149637969 &&& fm = 2149637969) :
    s.framedBy fm (execTagCompare q patch s) := by
  refine State.framedBy_mono hfm ?_
  unfold execTagCompare
  (try simp) <;> (repeat' split) <;> simp_all

@[simp] theorem State.followPanel_outside (s : State) (q panel : Nat) (fm : Nat) (hfm : 512 &&& fm = 512) :
    (State.followPanel s q panel).outside fm = s.outside fm := by
  refine outside_mono hfm ?_
  unfold State.followPanel
  (try simp) <;> (repeat' split) <;> simp_all

@[simp] theorem State.fillData_outside (s : State) (p : Nat) (n0 : Option (List Host.Cell × BitVec 1024)) (fm : Nat) (hfm : 805306368 &&& fm = 805306368) :
    (State.fillData s p n0).outside fm = s.outside fm := by
  refine outside_mono hfm ?_
  unfold State.fillData
  (try simp) <;> (repeat' split) <;> simp_all

@[simp] theorem State.fillFailed_outside (s : State) (q p : Nat) (fm : Nat) (hfm : 18001 &&& fm = 18001) :
    (State.fillFailed s q p).outside fm = s.outside fm := by
  refine outside_mono hfm ?_
  unfold State.fillFailed
  (try simp) <;> (repeat' split) <;> simp_all

@[simp] theorem State.faultInEnds_outside (s : State) (q : Nat) (f : Fill) (fm : Nat) (hfm : 513 &&& fm = 513) :
    (State.faultInEnds s q f).outside fm = s.outside fm := by
  refine outside_mono hfm ?_
  unfold State.faultInEnds
  (try simp) <;> (repeat' split) <;> simp_all

@[simp] theorem State.fillGone_outside (s : State) (q p : Nat) (fm : Nat) (hfm : 2957006417 &&& fm = 2957006417) :
    (State.fillGone s q p).outside fm = s.outside fm := by
  refine outside_mono hfm ?_
  unfold State.fillGone
  (try simp) <;> (repeat' split) <;> simp_all

@[simp] theorem State.endFill_outside (s : State) (q : Nat) (f : Fill) (good : Option (List Host.Cell × BitVec 1024)) (fm : Nat) (hfm : 2957008465 &&& fm = 2957008465) :
    (State.endFill s q f good).outside fm = s.outside fm := by
  refine outside_mono hfm ?_
  unfold State.endFill
  (try simp) <;> (repeat' split) <;> simp_all

theorem execFillComplete_outside (q : QuadIx) (patch : Nat) (s : State) (fm : Nat) (hfm : 2957008465 &&& fm = 2957008465) :
    s.framedBy fm (execFillComplete q patch s) := by
  refine State.framedBy_mono hfm ?_
  unfold execFillComplete
  (try simp) <;> (repeat' split) <;> simp_all

@[simp] theorem State.answerPoison_outside (s : State) (w : HealWait) (fm : Nat) (hfm : 2147483648 &&& fm = 2147483648) :
    (State.answerPoison s w).outside fm = s.outside fm := by
  refine outside_mono hfm ?_
  unfold State.answerPoison
  (try simp) <;> (repeat' split) <;> simp_all

@[simp] theorem State.healExpiry_outside (s : State) (q : Nat) (h : Heal) (fm : Nat) (hfm : 2147484160 &&& fm = 2147484160) :
    (State.healExpiry s q h).outside fm = s.outside fm := by
  refine outside_mono hfm ?_
  unfold State.healExpiry
  (try simp) <;> (repeat' split) <;> simp_all

theorem execHealWaitExpiry_outside (q : QuadIx) (patch : Nat) (s : State) (fm : Nat) (hfm : 2147484160 &&& fm = 2147484160) :
    s.framedBy fm (execHealWaitExpiry q patch s) := by
  refine State.framedBy_mono hfm ?_
  unfold execHealWaitExpiry
  (try simp) <;> (repeat' split) <;> simp_all

@[simp] theorem State.healLine_outside (s : State) (p ix : Nat) (content : List Host.Cell) (poison : BitVec 1024) (fm : Nat) (hfm : 805323776 &&& fm = 805323776) :
    (State.healLine s p ix content poison).outside fm = s.outside fm := by
  refine outside_mono hfm ?_
  unfold State.healLine
  (try simp) <;> (repeat' split) <;> simp_all

@[simp] theorem State.healFailed_outside (s : State) (q : Nat) (h : Heal) (fm : Nat) (hfm : 2147500049 &&& fm = 2147500049) :
    (State.healFailed s q h).outside fm = s.outside fm := by
  refine outside_mono hfm ?_
  unfold State.healFailed
  (try simp) <;> (repeat' split) <;> simp_all

@[simp] theorem State.answerHealed_outside (s : State) (w : HealWait) (fm : Nat) (hfm : 2147500032 &&& fm = 2147500032) :
    (State.answerHealed s w).outside fm = s.outside fm := by
  refine outside_mono hfm ?_
  unfold State.answerHealed
  (try simp) <;> (repeat' split) <;> simp_all

@[simp] theorem State.healGood_outside (s : State) (h : Heal) (lines : List Nat) (content : List Host.Cell) (poison : BitVec 1024) (fm : Nat) (hfm : 2952807441 &&& fm = 2952807441) :
    (State.healGood s h lines content poison).outside fm = s.outside fm := by
  refine outside_mono hfm ?_
  unfold State.healGood
  (try simp) <;> (repeat' split) <;> simp_all

@[simp] theorem State.endHeal_outside (s : State) (q : Nat) (h : Heal) (lines : List Nat) (good : Option (List Host.Cell × BitVec 1024)) (fm : Nat) (hfm : 2952807953 &&& fm = 2952807953) :
    (State.endHeal s q h lines good).outside fm = s.outside fm := by
  refine outside_mono hfm ?_
  unfold State.endHeal
  (try simp) <;> (repeat' split) <;> simp_all

theorem execHealComplete_outside (q : QuadIx) (patch : Nat) (lines : List Nat) (s : State) (fm : Nat) (hfm : 2952807953 &&& fm = 2952807953) :
    s.framedBy fm (execHealComplete q patch lines s) := by
  refine State.framedBy_mono hfm ?_
  unfold execHealComplete
  (try simp) <;> (repeat' split) <;> simp_all

@[simp] theorem State.fillLost_outside (s : State) (p : Nat) (fm : Nat) (hfm : 805324369 &&& fm = 805324369) :
    (State.fillLost s p).outside fm = s.outside fm := by
  refine outside_mono hfm ?_
  unfold State.fillLost
  (try simp) <;> (repeat' split) <;> simp_all

@[simp] theorem State.reloadSlice_outside (s : State) (q : Nat) (lost : List (Nat × Nat)) (fm : Nat) (hfm : 785 &&& fm = 785) :
    (State.reloadSlice s q lost).outside fm = s.outside fm := by
  refine outside_mono hfm ?_
  unfold State.reloadSlice
  (try simp) <;> (repeat' split) <;> simp_all

@[simp] theorem State.sliceUnfilled_outside (s : State) (q : Nat) (unreadable : List (Nat × Nat)) (fm : Nat) (hfm : 849 &&& fm = 849) :
    (State.sliceUnfilled s q unreadable).outside fm = s.outside fm := by
  refine outside_mono hfm ?_
  unfold State.sliceUnfilled
  (try simp) <;> (repeat' split) <;> simp_all

@[simp] theorem State.refillShown_outside (s : State) (q : Nat) (fm : Nat) (hfm : 17 &&& fm = 17) :
    (State.refillShown s q).outside fm = s.outside fm := by
  refine outside_mono hfm ?_
  unfold State.refillShown
  (try simp) <;> (repeat' split) <;> simp_all

@[simp] theorem State.quadrantRefill_outside (s : State) (q : Nat) (unreadable : List (Nat × Nat)) (fm : Nat) (hfm : 805324625 &&& fm = 805324625) :
    (State.quadrantRefill s q unreadable).outside fm = s.outside fm := by
  refine outside_mono hfm ?_
  unfold State.quadrantRefill
  (try simp) <;> (repeat' split) <;> simp_all

theorem execQuadrantRefill_outside (q : QuadIx) (unreadable : List (Nat × Nat)) (s : State) (fm : Nat) (hfm : 2952808273 &&& fm = 2952808273) :
    s.framedBy fm (execQuadrantRefill q unreadable s) := by
  refine State.framedBy_mono hfm ?_
  unfold execQuadrantRefill
  (try simp) <;> (repeat' split) <;> simp_all

end Sys2Proof.Machine
end

