-- ==== Sys2Proof/Laws/FramePower.lean ====
section
/-!
SUPPORT. Sys2Proof/Laws/FramePower.lean: what each operation of Machine/Power.lean may change.
-/

set_option Elab.async false
namespace Sys2Proof.Machine

@[simp] theorem State.setPower_outside (s : State) (p : Power) (fm : Nat) (hfm : 262145 &&& fm = 262145) :
    (State.setPower s p).outside fm = s.outside fm := by
  refine outside_mono hfm ?_
  unfold State.setPower
  (try simp) <;> (repeat' split) <;> simp_all

@[simp] theorem State.judgeGf_outside (s : State) (fm : Nat) (hfm : 524289 &&& fm = 524289) :
    (State.judgeGf s).outside fm = s.outside fm := by
  refine outside_mono hfm ?_
  unfold State.judgeGf
  (try simp) <;> (repeat' split) <;> simp_all

@[simp] theorem State.learnGrantNext_outside (s : State) (fm : Nat) (hfm : 2148597761 &&& fm = 2148597761) :
    (State.learnGrantNext s).outside fm = s.outside fm := by
  refine outside_mono hfm ?_
  unfold State.learnGrantNext
  (try simp) <;> (repeat' split) <;> simp_all

@[simp] theorem State.learnGrantEnds_outside (s : State) (p : Nat) (fm : Nat) (hfm : 2148597761 &&& fm = 2148597761) :
    (State.learnGrantEnds s p).outside fm = s.outside fm := by
  refine outside_mono hfm ?_
  unfold State.learnGrantEnds
  (try simp) <;> (repeat' split) <;> simp_all

@[simp] theorem State.modMember_outside (s : State) (p : Nat) (f : Member → Member) (fm : Nat) (hfm : 1048576 &&& fm = 1048576) :
    (State.modMember s p f).outside fm = s.outside fm := by
  refine outside_mono hfm ?_
  unfold State.modMember
  (try simp) <;> (repeat' split) <;> simp_all

@[simp] theorem State.chgGrantNext_outside (s : State) (n0 : Nat) (fm : Nat) (hfm : 2148597761 &&& fm = 2148597761) :
    (State.chgGrantNext s n0).outside fm = s.outside fm := by
  refine outside_mono hfm ?_
  induction n0 generalizing s with
  | zero => rfl
  | succ n ih =>
    unfold State.chgGrantNext
    split
    · rfl
    · dsimp only
      split
      · rfl
      · refine (ih _).trans ?_
        split <;> simp

@[simp] theorem State.chgGrantEnds_outside (s : State) (p : Nat) (fm : Nat) (hfm : 2148597761 &&& fm = 2148597761) :
    (State.chgGrantEnds s p).outside fm = s.outside fm := by
  refine outside_mono hfm ?_
  unfold State.chgGrantEnds
  (try simp) <;> (repeat' split) <;> simp_all

@[simp] theorem State.driveChg_outside (s : State) (b : Bool) (fm : Nat) (hfm : 524289 &&& fm = 524289) :
    (State.driveChg s b).outside fm = s.outside fm := by
  refine outside_mono hfm ?_
  unfold State.driveChg
  (try simp) <;> (repeat' split) <;> simp_all

@[simp] theorem State.setPack_outside (s : State) (n : Nat) (fm : Nat) (hfm : 2 &&& fm = 2) :
    (State.setPack s n).outside fm = s.outside fm := by
  refine outside_mono hfm ?_
  unfold State.setPack
  (try simp) <;> (repeat' split) <;> simp_all

@[simp] theorem State.learnEnd_outside (s : State) (result : Nat) (ns : Bool) (fm : Nat) (hfm : 2149122067 &&& fm = 2149122067) :
    (State.learnEnd s result ns).outside fm = s.outside fm := by
  refine outside_mono hfm ?_
  unfold State.learnEnd
  (try simp) <;> (repeat' split) <;> simp_all

@[simp] theorem State.learnVoid_outside (s : State) (result : Nat) (fm : Nat) (hfm : 2149122067 &&& fm = 2149122067) :
    (State.learnVoid s result).outside fm = s.outside fm := by
  refine outside_mono hfm ?_
  unfold State.learnVoid
  (try simp) <;> (repeat' split) <;> simp_all

@[simp] theorem State.wantLearned_outside (s : State) (fm : Nat) (hfm : 1 &&& fm = 1) :
    (State.wantLearned s).outside fm = s.outside fm := by
  refine outside_mono hfm ?_
  unfold State.wantLearned
  (try simp) <;> (repeat' split) <;> simp_all

@[simp] theorem State.shipPrepare_outside (s : State) (fm : Nat) (hfm : 2149122067 &&& fm = 2149122067) :
    (State.shipPrepare s).outside fm = s.outside fm := by
  refine outside_mono hfm ?_
  unfold State.shipPrepare
  (try simp) <;> (repeat' split) <;> simp_all

@[simp] theorem State.abandonHandshake_outside (s : State) (latch raise : Bool) (fm : Nat) (hfm : 134479889 &&& fm = 134479889) :
    (State.abandonHandshake s latch raise).outside fm = s.outside fm := by
  refine outside_mono hfm ?_
  unfold State.abandonHandshake
  (try simp) <;> (repeat' split) <;> simp_all

@[simp] theorem State.putSr_outside (s : State) (n r : Nat) (b : Bool) (fm : Nat) (hfm : 1 &&& fm = 1) :
    (State.putSr s n r b).outside fm = s.outside fm := by
  refine outside_mono hfm ?_
  unfold State.putSr
  (try simp) <;> (repeat' split) <;> simp_all

@[simp] theorem State.closeRank_outside (s : State) (n r : Nat) (fm : Nat) (hfm : 1024 &&& fm = 1024) :
    (State.closeRank s n r).outside fm = s.outside fm := by
  refine outside_mono hfm ?_
  unfold State.closeRank
  (try simp) <;> (repeat' split) <;> simp_all

@[simp] theorem State.exitSr_outside (s : State) (n r : Nat) (fm : Nat) (hfm : 2147484673 &&& fm = 2147484673) :
    (State.exitSr s n r).outside fm = s.outside fm := by
  refine outside_mono hfm ?_
  unfold State.exitSr
  (try simp) <;> (repeat' split) <;> simp_all

@[simp] theorem State.dropChange_outside (s : State) (n : Nat) (fm : Nat) (hfm : 2147484673 &&& fm = 2147484673) :
    (State.dropChange s n).outside fm = s.outside fm := by
  refine outside_mono hfm ?_
  unfold State.dropChange
  (try simp) <;> (repeat' split) <;> simp_all

@[simp] theorem State.holdRefresh_outside (s : State) (n : Nat) (fm : Nat) (hfm : 1025 &&& fm = 1025) :
    (State.holdRefresh s n).outside fm = s.outside fm := by
  refine outside_mono hfm ?_
  unfold State.holdRefresh
  (try simp) <;> (repeat' split) <;> simp_all

@[simp] theorem State.holdDram_outside (s : State) (fm : Nat) (hfm : 1025 &&& fm = 1025) :
    (State.holdDram s).outside fm = s.outside fm := by
  refine outside_mono hfm ?_
  unfold State.holdDram
  (try simp) <;> (repeat' split) <;> simp_all

@[simp] theorem State.railOff_outside (s : State) (k : Nat) (fm : Nat) (hfm : 131073 &&& fm = 131073) :
    (State.railOff s k).outside fm = s.outside fm := by
  refine outside_mono hfm ?_
  unfold State.railOff
  (try simp) <;> (repeat' split) <;> simp_all

@[simp] theorem State.beginPowerDown_outside (s : State) (why : LastDown) (fm : Nat) (hfm : 918785 &&& fm = 918785) :
    (State.beginPowerDown s why).outside fm = s.outside fm := by
  refine outside_mono hfm ?_
  unfold State.beginPowerDown
  (try simp) <;> (repeat' split) <;> simp_all

@[simp] theorem State.saveTrigger_outside (s : State) (cause : Nat) (fm : Nat) (hfm : 2097153 &&& fm = 2097153) :
    (State.saveTrigger s cause).outside fm = s.outside fm := by
  refine outside_mono hfm ?_
  unfold State.saveTrigger
  (try simp) <;> (repeat' split) <;> simp_all

@[simp] theorem State.trigger_outside (s : State) (cause : Nat) (fm : Nat) (hfm : 2359313 &&& fm = 2359313) :
    (State.trigger s cause).outside fm = s.outside fm := by
  refine outside_mono hfm ?_
  unfold State.trigger
  (try simp) <;> (repeat' split) <;> simp_all

@[simp] theorem State.shakeEnds_outside (s : State) (fm : Nat) (hfm : 136577041 &&& fm = 136577041) :
    (State.shakeEnds s).outside fm = s.outside fm := by
  refine outside_mono hfm ?_
  unfold State.shakeEnds
  (try simp) <;> (repeat' split) <;> simp_all

@[simp] theorem State.shakeMet_outside (s : State) (c : Nat) (fm : Nat) (hfm : 136577041 &&& fm = 136577041) :
    (State.shakeMet s c).outside fm = s.outside fm := by
  refine outside_mono hfm ?_
  unfold State.shakeMet
  (try simp) <;> (repeat' split) <;> simp_all

@[simp] theorem State.openHandshake_outside (s : State) (ship : Bool) (fm : Nat) (hfm : 2285699091 &&& fm = 2285699091) :
    (State.openHandshake s ship).outside fm = s.outside fm := by
  refine outside_mono hfm ?_
  unfold State.openHandshake
  (try simp) <;> (repeat' split) <;> simp_all

end Sys2Proof.Machine
end

