-- ==== Sys2Proof/Laws/FrameHeads.lean ====
section
/-!
SUPPORT. Sys2Proof/Laws/FrameHeads.lean: what each operation of Machine/Heads.lean may change.
-/

set_option Elab.async false
namespace Sys2Proof.Machine

@[simp] theorem State.turnAway_outside (s : State) (r : HostReq) (wr : Bool) (fm : Nat) (hfm : 2147483649 &&& fm = 2147483649) :
    (State.turnAway s r wr).outside fm = s.outside fm := by
  refine outside_mono hfm ?_
  unfold State.turnAway
  (try simp) <;> (repeat' split) <;> simp_all

@[simp] theorem State.earlyAccess_outside (s : State) (r : HostReq) (wr : Bool) (fm : Nat) (hfm : 2147487761 &&& fm = 2147487761) :
    (State.earlyAccess s r wr).outside fm = s.outside fm := by
  refine outside_mono hfm ?_
  unfold State.earlyAccess
  (try simp) <;> (repeat' split) <;> simp_all

@[simp] theorem State.decodeError_outside (s : State) (r : HostReq) (wr : Bool) (fm : Nat) (hfm : 2147487761 &&& fm = 2147487761) :
    (State.decodeError s r wr).outside fm = s.outside fm := by
  refine outside_mono hfm ?_
  unfold State.decodeError
  (try simp) <;> (repeat' split) <;> simp_all

@[simp] theorem State.meter_outside (s : State) (k : Nat) (fm : Nat) (hfm : 8193 &&& fm = 8193) :
    (State.meter s k).2.outside fm = s.outside fm := by
  refine outside_mono hfm ?_
  unfold State.meter
  (try simp) <;> (repeat' split) <;> simp_all

@[simp] theorem State.pool_outside (s : State) (h : Nat) (r : HReq) (fm : Nat) (hfm : 20480 &&& fm = 20480) :
    (State.pool s h r).outside fm = s.outside fm := by
  refine outside_mono hfm ?_
  unfold State.pool
  (try simp) <;> (repeat' split) <;> simp_all

@[simp] theorem State.modReq_outside (s : State) (h id : Nat) (f : HReq → HReq) (fm : Nat) (hfm : 4096 &&& fm = 4096) :
    (State.modReq s h id f).outside fm = s.outside fm := by
  refine outside_mono hfm ?_
  unfold State.modReq
  (try simp) <;> (repeat' split) <;> simp_all

@[simp] theorem State.completeWrite_outside (s : State) (h : Nat) (r : HReq) (fm : Nat) (hfm : 2147505745 &&& fm = 2147505745) :
    (State.completeWrite s h r).outside fm = s.outside fm := by
  refine outside_mono hfm ?_
  unfold State.completeWrite
  (try simp) <;> (repeat' split) <;> simp_all

@[simp] theorem State.lostWrite_outside (s : State) (h : Nat) (r : HReq) (fm : Nat) (hfm : 2147504128 &&& fm = 2147504128) :
    (State.lostWrite s h r).outside fm = s.outside fm := by
  refine outside_mono hfm ?_
  unfold State.lostWrite
  (try simp) <;> (repeat' split) <;> simp_all

@[simp] theorem State.admitWrite_outside (s : State) (h : Nat) (r : HReq) (fm : Nat) (hfm : 2147507793 &&& fm = 2147507793) :
    (State.admitWrite s h r).outside fm = s.outside fm := by
  refine outside_mono hfm ?_
  unfold State.admitWrite
  (try simp) <;> (repeat' split) <;> simp_all

@[simp] theorem State.hostWrite_outside (s : State) (r : HostReq) (d : WriteData) (fm : Nat) (hfm : 2147515985 &&& fm = 2147515985) :
    (State.hostWrite s r d).outside fm = s.outside fm := by
  refine outside_mono hfm ?_
  unfold State.hostWrite
  (try simp) <;> (repeat' split) <;> simp_all

theorem execHostWrite_outside (r : HostReq) (d : WriteData) (s : State) (fm : Nat) (hfm : 2147515987 &&& fm = 2147515987) :
    s.framedBy fm (execHostWrite r d s) := by
  refine State.framedBy_mono hfm ?_
  unfold execHostWrite
  (try simp) <;> (repeat' split) <;> simp_all

@[simp] theorem State.hostRead_outside (s : State) (r : HostReq) (fm : Nat) (hfm : 2147514897 &&& fm = 2147514897) :
    (State.hostRead s r).outside fm = s.outside fm := by
  refine outside_mono hfm ?_
  unfold State.hostRead
  (try simp) <;> (repeat' split) <;> simp_all

theorem execHostRead_outside (r : HostReq) (s : State) (fm : Nat) (hfm : 2147514899 &&& fm = 2147514899) :
    s.framedBy fm (execHostRead r s) := by
  refine State.framedBy_mono hfm ?_
  unfold execHostRead
  (try simp) <;> (repeat' split) <;> simp_all

@[simp] theorem State.probeAnswer_outside (s : State) (head id : Nat) (r : HReq) (written : List Nat) (fm : Nat) (hfm : 2147507793 &&& fm = 2147507793) :
    (State.probeAnswer s head id r written).outside fm = s.outside fm := by
  refine outside_mono hfm ?_
  unfold State.probeAnswer
  (try simp) <;> (repeat' split) <;> simp_all

theorem execStateProbeAnswer_outside (head : HeadIx) (id : Nat) (mates : Nat) (s : State) (fm : Nat) (hfm : 2147507793 &&& fm = 2147507793) :
    s.framedBy fm (execStateProbeAnswer head id mates s) := by
  refine State.framedBy_mono hfm ?_
  unfold execStateProbeAnswer
  (try simp) <;> (repeat' split) <;> simp_all

@[simp] theorem State.escalationEnds_outside (s : State) (h : Nat) (fm : Nat) (hfm : 1 &&& fm = 1) :
    (State.escalationEnds s h).outside fm = s.outside fm := by
  refine outside_mono hfm ?_
  unfold State.escalationEnds
  (try simp) <;> (repeat' split) <;> simp_all

theorem execHeldWriteRelease_outside (head : HeadIx) (s : State) (fm : Nat) (hfm : 2147507793 &&& fm = 2147507793) :
    s.framedBy fm (execHeldWriteRelease head s) := by
  refine State.framedBy_mono hfm ?_
  unfold execHeldWriteRelease
  repeat' first
    | (simp; done)
    | (rw [← snd_outside ‹_ = (_, _)›]; simp; done)
    | (rw [← thd_outside ‹_ = (_, _, _)›]; simp; done)
    | split
    | refine (State.each_outside _ _ _ _ ?_).trans ?_
    | refine (foldl_outside _ _ ?_ _ _).trans ?_
    | refine (State.when_outside _ _ _ _ ?_).trans ?_
    | refine occurs_outside _ _ _ _ (by decide) ?_
    | (intro _; skip)
    | simp

theorem execHoldEscalate_outside (head : HeadIx) (s : State) (fm : Nat) (hfm : 2147487761 &&& fm = 2147487761) :
    s.framedBy fm (execHoldEscalate head s) := by
  refine State.framedBy_mono hfm ?_
  unfold execHoldEscalate
  (try simp) <;> (repeat' split) <;> simp_all

@[simp] theorem State.headFrame_outside (s : State) (fm : Nat) (hfm : 12289 &&& fm = 12289) :
    (State.headFrame s).outside fm = s.outside fm := by
  refine outside_mono hfm ?_
  unfold State.headFrame
  (try simp) <;> (repeat' split) <;> simp_all

@[simp] theorem State.judgeGpf_outside (s : State) (fm : Nat) (hfm : 2147487744 &&& fm = 2147487744) :
    (State.judgeGpf s).outside fm = s.outside fm := by
  refine outside_mono hfm ?_
  unfold State.judgeGpf
  repeat' first
    | (simp; done)
    | (rw [← snd_outside ‹_ = (_, _)›]; simp; done)
    | (rw [← thd_outside ‹_ = (_, _, _)›]; simp; done)
    | split
    | refine (State.each_outside _ _ _ _ ?_).trans ?_
    | refine (foldl_outside _ _ ?_ _ _).trans ?_
    | refine (State.when_outside _ _ _ _ ?_).trans ?_
    | refine occurs_outside _ _ _ _ (by decide) ?_
    | (intro _; skip)
    | simp

@[simp] theorem State.dropReads_outside (s : State) (h : Nat) (fm : Nat) (hfm : 5632 &&& fm = 5632) :
    (State.dropReads s h).outside fm = s.outside fm := by
  refine outside_mono hfm ?_
  unfold State.dropReads
  (try simp) <;> (repeat' split) <;> simp_all

@[simp] theorem State.linkLost_outside (s : State) (h : Nat) (fm : Nat) (hfm : 136582673 &&& fm = 136582673) :
    (State.linkLost s h).outside fm = s.outside fm := by
  refine outside_mono hfm ?_
  unfold State.linkLost
  (try simp) <;> (repeat' split) <;> simp_all

theorem execLinkDown_outside (head : HeadIx) (perst : Bool) (s : State) (fm : Nat) (hfm : 2284590609 &&& fm = 2284590609) :
    s.framedBy fm (execLinkDown head perst s) := by
  refine State.framedBy_mono hfm ?_
  unfold execLinkDown
  (try simp) <;> (repeat' split) <;> simp_all

theorem execLinkTrain_outside (head : HeadIx) (t : TrainIn) (s : State) (fm : Nat) (hfm : 2148012049 &&& fm = 2148012049) :
    s.framedBy fm (execLinkTrain head t s) := by
  refine State.framedBy_mono hfm ?_
  unfold execLinkTrain
  (try simp) <;> (repeat' split) <;> simp_all

theorem execCrcErrorWithReplay_outside (head : HeadIx) (s : State) (fm : Nat) (hfm : 2147483665 &&& fm = 2147483665) :
    s.framedBy fm (execCrcErrorWithReplay head s) := by
  refine State.framedBy_mono hfm ?_
  unfold execCrcErrorWithReplay
  (try simp) <;> (repeat' split) <;> simp_all

end Sys2Proof.Machine
end

