-- ==== Sys2Proof/Laws/FrameAccess.lean ====
section
/-!
SUPPORT. Sys2Proof/Laws/FrameAccess.lean: what each operation of Machine/Access.lean may change.
-/

set_option Elab.async false
namespace Sys2Proof.Machine

@[simp] theorem State.bankWr_outside (s : State) (p off : Nat) (w : Word) (fm : Nat) (hfm : 8 &&& fm = 8) :
    (State.bankWr s p off w).outside fm = s.outside fm := by
  refine outside_mono hfm ?_
  unfold State.bankWr
  repeat' first
    | (simp; done)
    | (rw [← snd_outside ‹_ = (_, _)›]; simp; done)
    | (rw [← thd_outside ‹_ = (_, _, _)›]; simp; done)
    | split
    | refine (State.each_outside _ _ _ _ ?_).trans ?_
    | refine (foldl_outside _ _ ?_ _ _).trans ?_
    | refine (State.when_outside _ _ _ _ ?_).trans ?_
    | refine occurs_outside _ _ _ _ (by decide) ?_
    | (intro _; skip)
    | simp

@[simp] theorem State.bankPut_outside (s : State) (p : Nat) (f : Fld) (v : Nat) (fm : Nat) (hfm : 8 &&& fm = 8) :
    (State.bankPut s p f v).outside fm = s.outside fm := by
  refine outside_mono hfm ?_
  unfold State.bankPut
  (try simp) <;> (repeat' split) <;> simp_all

@[simp] theorem State.accessFlag_outside (s : State) (p : Nat) (f : Fld) (off : Nat) (fm : Nat) (hfm : 8 &&& fm = 8) :
    (State.accessFlag s p f off).outside fm = s.outside fm := by
  refine outside_mono hfm ?_
  unfold State.accessFlag
  (try simp) <;> (repeat' split) <;> simp_all

@[simp] theorem State.reach_outside (s : State) (p off : Nat) (f : State → State) (m : Nat) (hm : 9 &&& m = 9)
    (h : ∀ x, (f x).outside m = x.outside m) : (s.reach p off f).outside m = s.outside m := by
  unfold State.reach
  split
  · rfl
  · split
    · refine outside_mono hm ?_
      split <;> simp
    · exact h _

@[simp] theorem State.readOne_outside (s : State) (p : Nat) (d : RegDef) (off : Nat) (fm : Nat) (hfm : 8 &&& fm = 8) :
    (State.readOne s p d off).2.outside fm = s.outside fm := by
  refine outside_mono hfm ?_
  unfold State.readOne
  repeat' first
    | (simp; done)
    | (rw [← snd_outside ‹_ = (_, _)›]; simp; done)
    | (rw [← thd_outside ‹_ = (_, _, _)›]; simp; done)
    | split
    | refine (State.each_outside _ _ _ _ ?_).trans ?_
    | refine (foldl_outside _ _ ?_ _ _).trans ?_
    | refine (State.when_outside _ _ _ _ ?_).trans ?_
    | refine occurs_outside _ _ _ _ (by decide) ?_
    | (intro _; skip)
    | simp

@[simp] theorem State.unmapped_outside (s : State) (p off : Nat) (fm : Nat) (hfm : 8 &&& fm = 8) :
    (State.unmapped s p off).outside fm = s.outside fm := by
  refine outside_mono hfm ?_
  unfold State.unmapped
  (try simp) <;> (repeat' split) <;> simp_all

@[simp] theorem State.bcastRead_outside (s : State) (p off : Nat) (l : List Nat) (fm : Nat) (hfm : 8 &&& fm = 8) :
    (State.bcastRead s p off l).2.outside fm = s.outside fm := by
  refine outside_mono hfm ?_
  unfold State.bcastRead
  (try simp) <;> (repeat' split) <;> simp_all

@[simp] theorem State.readReg_outside (s : State) (p off : Nat) (fm : Nat) (hfm : 8 &&& fm = 8) :
    (State.readReg s p off).2.outside fm = s.outside fm := by
  refine outside_mono hfm ?_
  unfold State.readReg
  (try simp) <;> (repeat' split) <;> simp_all

end Sys2Proof.Machine
end

