-- ==== Sys2Proof/Laws/FrameRanks.lean ====
section
/-!
SUPPORT. Sys2Proof/Laws/FrameRanks.lean: what each operation of Machine/Ranks.lean may change.
-/

set_option Elab.async false
namespace Sys2Proof.Machine

@[simp] theorem State.logHealth_outside (s : State) (q : Nat) (fm : Nat) (hfm : 262145 &&& fm = 262145) :
    (State.logHealth s q).outside fm = s.outside fm := by
  refine outside_mono hfm ?_
  unfold State.logHealth
  (try simp) <;> (repeat' split) <;> simp_all

@[simp] theorem State.exhaust_outside (s : State) (q j r : Nat) (fm : Nat) (hfm : 529 &&& fm = 529) :
    (State.exhaust s q j r).outside fm = s.outside fm := by
  refine outside_mono hfm ?_
  unfold State.exhaust
  (try simp) <;> (repeat' split) <;> simp_all

@[simp] theorem State.setOut_outside (s : State) (q j r : Nat) (fm : Nat) (hfm : 1 &&& fm = 1) :
    (State.setOut s q j r).outside fm = s.outside fm := by
  refine outside_mono hfm ?_
  unfold State.setOut
  (try simp) <;> (repeat' split) <;> simp_all

@[simp] theorem State.migrateTo_outside (s : State) (q j r : Nat) (n0 : Option Nat) (fm : Nat) (hfm : 262673 &&& fm = 262673) :
    (State.migrateTo s q j r n0).outside fm = s.outside fm := by
  refine outside_mono hfm ?_
  unfold State.migrateTo
  (try simp) <;> (repeat' split) <;> simp_all

@[simp] theorem State.startMigration_outside (s : State) (q j r : Nat) (fm : Nat) (hfm : 262673 &&& fm = 262673) :
    (State.startMigration s q j r).outside fm = s.outside fm := by
  refine outside_mono hfm ?_
  unfold State.startMigration
  repeat' first
    | (simp; done)
    | (rw [← snd_outside ‹_ = (_, _)›]; simp; done)
    | (rw [← thd_outside ‹_ = (_, _, _)›]; simp; done)
    | split
    | refine (State.each_outside _ _ _ _ ?_).trans ?_
    | refine (foldl_outside _ _ ?_ _ _).trans ?_
    | refine (State.when_outside _ _ _ _ ?_).trans ?_
    | refine occurs_outside _ _ _ _ (by decide) ?_
    | (intro _; skip)
    | simp

@[simp] theorem State.outAtStart_outside (s : State) (q j r : Nat) (n0 : Option Nat) (fm : Nat) (hfm : 262673 &&& fm = 262673) :
    (State.outAtStart s q j r n0).outside fm = s.outside fm := by
  refine outside_mono hfm ?_
  unfold State.outAtStart
  (try simp) <;> (repeat' split) <;> simp_all

@[simp] theorem State.rankOut_outside (s : State) (n r : Nat) (atStart : Bool) (fm : Nat) (hfm : 262673 &&& fm = 262673) :
    (State.rankOut s n r atStart).outside fm = s.outside fm := by
  refine outside_mono hfm ?_
  unfold State.rankOut
  repeat' first
    | (simp; done)
    | (rw [← snd_outside ‹_ = (_, _)›]; simp; done)
    | (rw [← thd_outside ‹_ = (_, _, _)›]; simp; done)
    | split
    | refine (State.each_outside _ _ _ _ ?_).trans ?_
    | refine (foldl_outside _ _ ?_ _ _).trans ?_
    | refine (State.when_outside _ _ _ _ ?_).trans ?_
    | refine occurs_outside _ _ _ _ (by decide) ?_
    | (intro _; skip)
    | simp

@[simp] theorem State.markErasure_outside (s : State) (n r m source : Nat) (atStart : Bool) (fm : Nat) (hfm : 262673 &&& fm = 262673) :
    (State.markErasure s n r m source atStart).outside fm = s.outside fm := by
  refine outside_mono hfm ?_
  unfold State.markErasure
  (try simp) <;> (repeat' split) <;> simp_all

@[simp] theorem State.entryLost_outside (s : State) (q p : Nat) (unfilled : Bool) (fm : Nat) (hfm : 2957008465 &&& fm = 2957008465) :
    (State.entryLost s q p unfilled).outside fm = s.outside fm := by
  refine outside_mono hfm ?_
  unfold State.entryLost
  (try simp) <;> (repeat' split) <;> simp_all

@[simp] theorem State.houseUe_outside (s : State) (n h : Nat) (fm : Nat) (hfm : 2957008465 &&& fm = 2957008465) :
    (State.houseUe s n h).outside fm = s.outside fm := by
  refine outside_mono hfm ?_
  unfold State.houseUe
  (try simp) <;> (repeat' split) <;> simp_all

@[simp] theorem State.poisonLine_outside (s : State) (dpa : Nat) (addrErr : Bool) (who acc : Nat) (fm : Nat) (hfm : 805322769 &&& fm = 805322769) :
    (State.poisonLine s dpa addrErr who acc).outside fm = s.outside fm := by
  refine outside_mono hfm ?_
  unfold State.poisonLine
  (try simp) <;> (repeat' split) <;> simp_all

@[simp] theorem State.healRefused_outside (s : State) (dpa : Nat) (addrErr : Bool) (who acc : Nat) (fm : Nat) (hfm : 16401 &&& fm = 16401) :
    (State.healRefused s dpa addrErr who acc).outside fm = s.outside fm := by
  refine outside_mono hfm ?_
  unfold State.healRefused
  (try simp) <;> (repeat' split) <;> simp_all

@[simp] theorem State.engineUe_outside (s : State) (n : Nat) (l : LineAt) (addrErr : Bool) (who acc : Nat) (fm : Nat) (hfm : 2957008465 &&& fm = 2957008465) :
    (State.engineUe s n l addrErr who acc).outside fm = s.outside fm := by
  refine outside_mono hfm ?_
  unfold State.engineUe
  (try simp) <;> (repeat' split) <;> simp_all

@[simp] theorem State.migrationDone_outside (s : State) (q : Nat) (m : Migration) (fm : Nat) (hfm : 262673 &&& fm = 262673) :
    (State.migrationDone s q m).outside fm = s.outside fm := by
  refine outside_mono hfm ?_
  unfold State.migrationDone
  (try simp) <;> (repeat' split) <;> simp_all

@[simp] theorem State.chunkBad_outside (s : State) (n : Nat) (m : Migration) (bad : List Nat) (fm : Nat) (hfm : 2957008465 &&& fm = 2957008465) :
    (State.chunkBad s n m bad).outside fm = s.outside fm := by
  refine outside_mono hfm ?_
  unfold State.chunkBad
  (try simp) <;> (repeat' split) <;> simp_all

@[simp] theorem State.chunkAsked_outside (s : State) (q : Nat) (m : Migration) (fm : Nat) (hfm : 17408 &&& fm = 17408) :
    (State.chunkAsked s q m).outside fm = s.outside fm := by
  refine outside_mono hfm ?_
  unfold State.chunkAsked
  (try simp) <;> (repeat' split) <;> simp_all

@[simp] theorem State.chunkCopied_outside (s : State) (q : Nat) (m : Migration) (bad : List Nat) (fm : Nat) (hfm : 2957270609 &&& fm = 2957270609) :
    (State.chunkCopied s q m bad).outside fm = s.outside fm := by
  refine outside_mono hfm ?_
  unfold State.chunkCopied
  (try simp) <;> (repeat' split) <;> simp_all

theorem execMigrationChunk_outside (q : QuadIx) (bad : List Nat) (s : State) (fm : Nat) (hfm : 2957270609 &&& fm = 2957270609) :
    s.framedBy fm (execMigrationChunk q bad s) := by
  refine State.framedBy_mono hfm ?_
  unfold execMigrationChunk
  (try simp) <;> (repeat' split) <;> simp_all

end Sys2Proof.Machine
end

