-- ==== Sys2Proof/Laws/FrameDram.lean ====
section
/-!
SUPPORT. Sys2Proof/Laws/FrameDram.lean: what each operation of Machine/Dram.lean may change.
-/

set_option Elab.async false
namespace Sys2Proof.Machine

@[simp] theorem State.setBank_outside (s : State) (n k : Nat) (b : Option Bank) (fm : Nat) (hfm : 1024 &&& fm = 1024) :
    (State.setBank s n k b).outside fm = s.outside fm := by
  refine outside_mono hfm ?_
  unfold State.setBank
  (try simp) <;> (repeat' split) <;> simp_all

@[simp] theorem State.abandonChange_outside (s : State) (n : Nat) (fm : Nat) (hfm : 2147484689 &&& fm = 2147484689) :
    (State.abandonChange s n).outside fm = s.outside fm := by
  refine outside_mono hfm ?_
  unfold State.abandonChange
  (try simp) <;> (repeat' split) <;> simp_all

@[simp] theorem State.enqueue_outside (s : State) (n : Nat) (e : QEntry) (fm : Nat) (hfm : 2147501073 &&& fm = 2147501073) :
    (State.enqueue s n e).outside fm = s.outside fm := by
  refine outside_mono hfm ?_
  unfold State.enqueue
  (try simp) <;> (repeat' split) <;> simp_all

@[simp] theorem State.enterHead_outside (s : State) (n h : Nat) (r : HReq) (e : QEntry) (fm : Nat) (hfm : 2147505745 &&& fm = 2147505745) :
    (State.enterHead s n h r e).outside fm = s.outside fm := by
  refine outside_mono hfm ?_
  unfold State.enterHead
  (try simp) <;> (repeat' split) <;> simp_all

@[simp] theorem State.entryGoes_outside (s : State) (n : Nat) (a : EntryAsk) (e : QEntry) (fm : Nat) (hfm : 2147505745 &&& fm = 2147505745) :
    (State.entryGoes s n a e).outside fm = s.outside fm := by
  refine outside_mono hfm ?_
  unfold State.entryGoes
  (try simp) <;> (repeat' split) <;> simp_all

@[simp] theorem State.queueEntry_outside (s : State) (n : Nat) (fm : Nat) (hfm : 2147505745 &&& fm = 2147505745) :
    (State.queueEntry s n).outside fm = s.outside fm := by
  refine outside_mono hfm ?_
  unfold State.queueEntry
  (try simp) <;> (repeat' split) <;> simp_all

theorem execScQueueEntry_outside (sc : ScIx) (s : State) (fm : Nat) (hfm : 2147505745 &&& fm = 2147505745) :
    s.framedBy fm (execScQueueEntry sc s) := by
  refine State.framedBy_mono hfm ?_
  unfold execScQueueEntry
  (try simp) <;> (repeat' split) <;> simp_all

@[simp] theorem State.rowIssue_outside (s : State) (n : Nat) (c : RowCmd) (fm : Nat) (hfm : 2147484689 &&& fm = 2147484689) :
    (State.rowIssue s n c).outside fm = s.outside fm := by
  refine outside_mono hfm ?_
  unfold State.rowIssue
  (try simp) <;> (repeat' split) <;> simp_all

@[simp] theorem State.lineReplaced_outside (s : State) (dpa : Nat) (fm : Nat) (hfm : 512 &&& fm = 512) :
    (State.lineReplaced s dpa).outside fm = s.outside fm := by
  refine outside_mono hfm ?_
  unfold State.lineReplaced
  (try simp) <;> (repeat' split) <;> simp_all

@[simp] theorem State.columnIssue_outside (s : State) (n : Nat) (e : QEntry) (fm : Nat) (hfm : 2952795649 &&& fm = 2952795649) :
    (State.columnIssue s n e).outside fm = s.outside fm := by
  refine outside_mono hfm ?_
  unfold State.columnIssue
  (try simp) <;> (repeat' split) <;> simp_all

@[simp] theorem State.judgeMode_outside (s : State) (n : Nat) (fm : Nat) (hfm : 1025 &&& fm = 1025) :
    (State.judgeMode s n).outside fm = s.outside fm := by
  refine outside_mono hfm ?_
  unfold State.judgeMode
  (try simp) <;> (repeat' split) <;> simp_all

@[simp] theorem State.commandIssue_outside (s : State) (n : Nat) (i : IssueIn) (fm : Nat) (hfm : 2952795665 &&& fm = 2952795665) :
    (State.commandIssue s n i).outside fm = s.outside fm := by
  refine outside_mono hfm ?_
  unfold State.commandIssue
  (try simp) <;> (repeat' split) <;> simp_all

theorem execDramCommandIssue_outside (sc : ScIx) (i : IssueIn) (s : State) (fm : Nat) (hfm : 2952795667 &&& fm = 2952795667) :
    s.framedBy fm (execDramCommandIssue sc i s) := by
  refine State.framedBy_mono hfm ?_
  unfold execDramCommandIssue
  (try simp) <;> (repeat' split) <;> simp_all

theorem execPageIdleClose_outside (sc : ScIx) (bank : Nat) (s : State) (fm : Nat) (hfm : 2147484672 &&& fm = 2147484672) :
    s.framedBy fm (execPageIdleClose sc bank s) := by
  refine State.framedBy_mono hfm ?_
  unfold execPageIdleClose
  (try simp) <;> (repeat' split) <;> simp_all

theorem execRefreshDue_outside (sc : ScIx) (rank : Nat) (bank : Nat) (s : State) (fm : Nat) (hfm : 2147484672 &&& fm = 2147484672) :
    s.framedBy fm (execRefreshDue sc rank bank s) := by
  refine State.framedBy_mono hfm ?_
  unfold execRefreshDue
  (try simp) <;> (repeat' split) <;> simp_all

theorem execMr4Poll_outside (sc : ScIx) (temps : List Nat) (s : State) (fm : Nat) (hfm : 2147484689 &&& fm = 2147484689) :
    s.framedBy fm (execMr4Poll sc temps s) := by
  refine State.framedBy_mono hfm ?_
  unfold execMr4Poll
  repeat' first
    | (simp; done)
    | (rw [← snd_outside ‹_ = (_, _)›]; simp; done)
    | (rw [← thd_outside ‹_ = (_, _, _)›]; simp; done)
    | split
    | refine (State.each_outside _ _ _ _ ?_).trans ?_
    | refine (foldl_outside _ _ ?_ _ _).trans ?_
    | refine (State.when_outside _ _ _ _ ?_).trans ?_
    | refine occurs_outside _ _ _ _ (by decide) ?_
    | (intro _; skip)
    | simp

theorem execRankIdleSelfRefresh_outside (sc : ScIx) (rank : Nat) (s : State) (fm : Nat) (hfm : 2147484673 &&& fm = 2147484673) :
    s.framedBy fm (execRankIdleSelfRefresh sc rank s) := by
  refine State.framedBy_mono hfm ?_
  unfold execRankIdleSelfRefresh
  (try simp) <;> (repeat' split) <;> simp_all

@[simp] theorem State.correctedRead_outside (s : State) (n : Nat) (e : QEntry) (errs : List Nat) (fm : Nat) (hfm : 271889 &&& fm = 271889) :
    (State.correctedRead s n e errs).outside fm = s.outside fm := by
  refine outside_mono hfm ?_
  unfold State.correctedRead
  (try simp) <;> (repeat' split) <;> simp_all

@[simp] theorem State.countUe_outside (s : State) (n : Nat) (e : QEntry) (addrErr : Bool) (fm : Nat) (hfm : 263697 &&& fm = 263697) :
    (State.countUe s n e addrErr).outside fm = s.outside fm := by
  refine outside_mono hfm ?_
  unfold State.countUe
  (try simp) <;> (repeat' split) <;> simp_all

@[simp] theorem State.answerRead_outside (s : State) (e : QEntry) (data : Line) (poison : Bool) (fm : Nat) (hfm : 2147483648 &&& fm = 2147483648) :
    (State.answerRead s e data poison).outside fm = s.outside fm := by
  refine outside_mono hfm ?_
  unfold State.answerRead
  (try simp) <;> (repeat' split) <;> simp_all

@[simp] theorem State.hostUe_outside (s : State) (e : QEntry) (addrErr : Bool) (fm : Nat) (hfm : 2147502609 &&& fm = 2147502609) :
    (State.hostUe s e addrErr).outside fm = s.outside fm := by
  refine outside_mono hfm ?_
  unfold State.hostUe
  (try simp) <;> (repeat' split) <;> simp_all

@[simp] theorem State.scrubBack_outside (s : State) (n : Nat) (e : QEntry) (fm : Nat) (hfm : 1024 &&& fm = 1024) :
    (State.scrubBack s n e).outside fm = s.outside fm := by
  refine outside_mono hfm ?_
  unfold State.scrubBack
  (try simp) <;> (repeat' split) <;> simp_all

@[simp] theorem State.readUe_outside (s : State) (n : Nat) (e : QEntry) (addrErr : Bool) (fm : Nat) (hfm : 2957270609 &&& fm = 2957270609) :
    (State.readUe s n e addrErr).outside fm = s.outside fm := by
  refine outside_mono hfm ?_
  unfold State.readUe
  (try simp) <;> (repeat' split) <;> simp_all

@[simp] theorem State.readPoison_outside (s : State) (e : QEntry) (fm : Nat) (hfm : 2147500032 &&& fm = 2147500032) :
    (State.readPoison s e).outside fm = s.outside fm := by
  refine outside_mono hfm ?_
  unfold State.readPoison
  (try simp) <;> (repeat' split) <;> simp_all

@[simp] theorem State.readDecoded_outside (s : State) (n : Nat) (f : InFlight) (errs : List Nat) (n0 : Decoded) (fm : Nat) (hfm : 2957278801 &&& fm = 2957278801) :
    (State.readDecoded s n f errs n0).outside fm = s.outside fm := by
  refine outside_mono hfm ?_
  unfold State.readDecoded
  (try simp) <;> (repeat' split) <;> simp_all

@[simp] theorem State.readData_outside (s : State) (n : Nat) (f : InFlight) (r : ReadBack) (fm : Nat) (hfm : 2957278801 &&& fm = 2957278801) :
    (State.readData s n f r).outside fm = s.outside fm := by
  refine outside_mono hfm ?_
  unfold State.readData
  (try simp) <;> (repeat' split) <;> simp_all

@[simp] theorem State.readBack_outside (s : State) (n : Nat) (r : ReadBack) (fm : Nat) (hfm : 2957278801 &&& fm = 2957278801) :
    (State.readBack s n r).outside fm = s.outside fm := by
  refine outside_mono hfm ?_
  unfold State.readBack
  (try simp) <;> (repeat' split) <;> simp_all

theorem execDramReadData_outside (reads : List (ScIx × ReadBack)) (s : State) (fm : Nat) (hfm : 2957278801 &&& fm = 2957278801) :
    s.framedBy fm (execDramReadData reads s) := by
  refine State.framedBy_mono hfm ?_
  unfold execDramReadData
  (try simp) <;> (repeat' split) <;> simp_all

@[simp] theorem State.scrubPassEnds_outside (s : State) (n : Nat) (fm : Nat) (hfm : 1025 &&& fm = 1025) :
    (State.scrubPassEnds s n).outside fm = s.outside fm := by
  refine outside_mono hfm ?_
  unfold State.scrubPassEnds
  (try simp) <;> (repeat' split) <;> simp_all

@[simp] theorem State.scrubRead_outside (s : State) (l : LineAt) (loc : Loc) (fm : Nat) (hfm : 2147501073 &&& fm = 2147501073) :
    (State.scrubRead s l loc).outside fm = s.outside fm := by
  refine outside_mono hfm ?_
  unfold State.scrubRead
  (try simp) <;> (repeat' split) <;> simp_all

@[simp] theorem State.patrolRead_outside (s : State) (n : Nat) (fm : Nat) (hfm : 2147501073 &&& fm = 2147501073) :
    (State.patrolRead s n).outside fm = s.outside fm := by
  refine outside_mono hfm ?_
  unfold State.patrolRead
  (try simp) <;> (repeat' split) <;> simp_all

theorem execPatrolScrubRead_outside (sc : ScIx) (s : State) (fm : Nat) (hfm : 2147501073 &&& fm = 2147501073) :
    s.framedBy fm (execPatrolScrubRead sc s) := by
  refine State.framedBy_mono hfm ?_
  unfold execPatrolScrubRead
  (try simp) <;> (repeat' split) <;> simp_all

theorem execCaParityAlert_outside (sc : ScIx) (s : State) (fm : Nat) (hfm : 2147483665 &&& fm = 2147483665) :
    s.framedBy fm (execCaParityAlert sc s) := by
  refine State.framedBy_mono hfm ?_
  unfold execCaParityAlert
  (try simp) <;> (repeat' split) <;> simp_all

theorem execGpfPhase1_outside (head : HeadIx) (s : State) (fm : Nat) (hfm : 2147483648 &&& fm = 2147483648) :
    s.framedBy fm (execGpfPhase1 head s) := by
  refine State.framedBy_mono hfm ?_
  unfold execGpfPhase1
  (try simp) <;> (repeat' split) <;> simp_all

theorem execGpfPhase2_outside (head : HeadIx) (s : State) (fm : Nat) (hfm : 2147487744 &&& fm = 2147487744) :
    s.framedBy fm (execGpfPhase2 head s) := by
  refine State.framedBy_mono hfm ?_
  unfold execGpfPhase2
  (try simp) <;> (repeat' split) <;> simp_all

end Sys2Proof.Machine
end

