-- ==== Sys2Proof/Laws/FrameTrain.lean ====
section
/-!
SUPPORT. Sys2Proof/Laws/FrameTrain.lean: what each operation of Machine/Train.lean may change.
-/

set_option Elab.async false
namespace Sys2Proof.Machine

@[simp] theorem State.discardPass_outside (s : State) (n : Nat) (fm : Nat) (hfm : 1025 &&& fm = 1025) :
    (State.discardPass s n).outside fm = s.outside fm := by
  refine outside_mono hfm ?_
  unfold State.discardPass
  (try simp) <;> (repeat' split) <;> simp_all

@[simp] theorem State.beginEntry_outside (s : State) (n : Nat) (fm : Nat) (hfm : 2147484673 &&& fm = 2147484673) :
    (State.beginEntry s n).outside fm = s.outside fm := by
  refine outside_mono hfm ?_
  unfold State.beginEntry
  (try simp) <;> (repeat' split) <;> simp_all

@[simp] theorem State.relock_outside (s : State) (n target : Nat) (fm : Nat) (hfm : 2147484673 &&& fm = 2147484673) :
    (State.relock s n target).outside fm = s.outside fm := by
  refine outside_mono hfm ?_
  unfold State.relock
  (try simp) <;> (repeat' split) <;> simp_all

theorem execIdleOpEnter_outside (sc : ScIx) (s : State) (fm : Nat) (hfm : 2147484673 &&& fm = 2147484673) :
    s.framedBy fm (execIdleOpEnter sc s) := by
  refine State.framedBy_mono hfm ?_
  unfold execIdleOpEnter
  (try simp) <;> (repeat' split) <;> simp_all

theorem execIdleOpExit_outside (sc : ScIx) (s : State) (fm : Nat) (hfm : 2147484689 &&& fm = 2147484689) :
    s.framedBy fm (execIdleOpExit sc s) := by
  refine State.framedBy_mono hfm ?_
  unfold execIdleOpExit
  (try simp) <;> (repeat' split) <;> simp_all

theorem execOpChangeStart_outside (sc : ScIx) (s : State) (fm : Nat) (hfm : 2147484673 &&& fm = 2147484673) :
    s.framedBy fm (execOpChangeStart sc s) := by
  refine State.framedBy_mono hfm ?_
  unfold execOpChangeStart
  (try simp) <;> (repeat' split) <;> simp_all

theorem execStandbyGeneratorLocked_outside (sc : ScIx) (s : State) (fm : Nat) (hfm : 2147484673 &&& fm = 2147484673) :
    s.framedBy fm (execStandbyGeneratorLocked sc s) := by
  refine State.framedBy_mono hfm ?_
  unfold execStandbyGeneratorLocked
  (try simp) <;> (repeat' split) <;> simp_all

theorem execOpChangeSwitch_outside (sc : ScIx) (s : State) (fm : Nat) (hfm : 2147484673 &&& fm = 2147484673) :
    s.framedBy fm (execOpChangeSwitch sc s) := by
  refine State.framedBy_mono hfm ?_
  unfold execOpChangeSwitch
  repeat' first
    | (simp; done)
    | (rw [← snd_outside ‹_ = (_, _)›]; simp; done)
    | (rw [← thd_outside ‹_ = (_, _, _)›]; simp; done)
    | split
    | refine (State.each_outside _ _ _ _ ?_).trans ?_
    | refine (foldl_outside _ _ ?_ _ _).trans ?_
    | refine (State.when_outside _ _ _ _ ?_).trans ?_
    | refine occurs_outside _ _ _ _ (by decide) ?_
    | (intro _; skip)
    | simp

theorem execOpChangeDone_outside (sc : ScIx) (s : State) (fm : Nat) (hfm : 2147484673 &&& fm = 2147484673) :
    s.framedBy fm (execOpChangeDone sc s) := by
  refine State.framedBy_mono hfm ?_
  unfold execOpChangeDone
  (try simp) <;> (repeat' split) <;> simp_all

@[simp] theorem State.laneFails_outside (s : State) (n rank lane : Nat) (fm : Nat) (hfm : 263697 &&& fm = 263697) :
    (State.laneFails s n rank lane).outside fm = s.outside fm := by
  refine outside_mono hfm ?_
  unfold State.laneFails
  (try simp) <;> (repeat' split) <;> simp_all

@[simp] theorem State.laneTrained_outside (s : State) (n op r : Nat) (t : LaneTrain) (fm : Nat) (hfm : 263697 &&& fm = 263697) :
    (State.laneTrained s n op r t).outside fm = s.outside fm := by
  refine outside_mono hfm ?_
  unfold State.laneTrained
  (try simp) <;> (repeat' split) <;> simp_all

@[simp] theorem State.rankTrained_outside (s : State) (n op : Nat) (res : List LaneTrain) (r : Nat) (fm : Nat) (hfm : 263697 &&& fm = 263697) :
    (State.rankTrained s n op res r).outside fm = s.outside fm := by
  refine outside_mono hfm ?_
  unfold State.rankTrained
  (try simp) <;> (repeat' split) <;> simp_all

@[simp] theorem State.opTrained_outside (s : State) (n : Nat) (res : List LaneTrain) (op : Nat) (fm : Nat) (hfm : 263697 &&& fm = 263697) :
    (State.opTrained s n res op).outside fm = s.outside fm := by
  refine outside_mono hfm ?_
  unfold State.opTrained
  (try simp) <;> (repeat' split) <;> simp_all

@[simp] theorem State.training_outside (s : State) (n : Nat) (ca : List CaTrain) (res : List LaneTrain) (fm : Nat) (hfm : 263701 &&& fm = 263701) :
    (State.training s n ca res).outside fm = s.outside fm := by
  refine outside_mono hfm ?_
  unfold State.training
  repeat' first
    | (simp; done)
    | (rw [← snd_outside ‹_ = (_, _)›]; simp; done)
    | (rw [← thd_outside ‹_ = (_, _, _)›]; simp; done)
    | split
    | refine (State.each_outside _ _ _ _ ?_).trans ?_
    | refine (foldl_outside _ _ ?_ _ _).trans ?_
    | refine (State.when_outside _ _ _ _ ?_).trans ?_
    | refine occurs_outside _ _ _ _ (by decide) ?_
    | (intro _; skip)
    | simp

theorem execDramTraining_outside (sc : ScIx) (ca : List CaTrain) (res : List LaneTrain) (s : State) (fm : Nat) (hfm : 2147747605 &&& fm = 2147747605) :
    s.framedBy fm (execDramTraining sc ca res s) := by
  refine State.framedBy_mono hfm ?_
  unfold execDramTraining
  (try simp) <;> (repeat' split) <;> simp_all

theorem execTrackingPassStart_outside (sc : ScIx) (s : State) (fm : Nat) (hfm : 2147484672 &&& fm = 2147484672) :
    s.framedBy fm (execTrackingPassStart sc s) := by
  refine State.framedBy_mono hfm ?_
  unfold execTrackingPassStart
  (try simp) <;> (repeat' split) <;> simp_all

@[simp] theorem State.loseLine_outside (s : State) (a : Nat) (fm : Nat) (hfm : 805322752 &&& fm = 805322752) :
    (State.loseLine s a).outside fm = s.outside fm := by
  refine outside_mono hfm ?_
  unfold State.loseLine
  (try simp) <;> (repeat' split) <;> simp_all

@[simp] theorem State.losePatch_outside (s : State) (n p : Nat) (fm : Nat) (hfm : 805322816 &&& fm = 805322816) :
    (State.losePatch s n p).outside fm = s.outside fm := by
  refine outside_mono hfm ?_
  unfold State.losePatch
  (try simp) <;> (repeat' split) <;> simp_all

@[simp] theorem State.resumeOut_outside (s : State) (n r : Nat) (fm : Nat) (hfm : 805322833 &&& fm = 805322833) :
    (State.resumeOut s n r).outside fm = s.outside fm := by
  refine outside_mono hfm ?_
  unfold State.resumeOut
  (try simp) <;> (repeat' split) <;> simp_all

@[simp] theorem State.narrowResume_outside (s : State) (n rank lane : Nat) (fm : Nat) (hfm : 805586513 &&& fm = 805586513) :
    (State.narrowResume s n rank lane).outside fm = s.outside fm := by
  refine outside_mono hfm ?_
  unfold State.narrowResume
  (try simp) <;> (repeat' split) <;> simp_all

@[simp] theorem State.narrowRun_outside (s : State) (n rank lane : Nat) (fm : Nat) (hfm : 263697 &&& fm = 263697) :
    (State.narrowRun s n rank lane).outside fm = s.outside fm := by
  refine outside_mono hfm ?_
  unfold State.narrowRun
  (try simp) <;> (repeat' split) <;> simp_all

@[simp] theorem State.narrowLane_outside (s : State) (n rank lane : Nat) (fm : Nat) (hfm : 805586513 &&& fm = 805586513) :
    (State.narrowLane s n rank lane).outside fm = s.outside fm := by
  refine outside_mono hfm ?_
  unfold State.narrowLane
  (try simp) <;> (repeat' split) <;> simp_all

@[simp] theorem State.laneMeasured_outside (s : State) (n op rank : Nat) (t : LaneTrack) (fm : Nat) (hfm : 805586513 &&& fm = 805586513) :
    (State.laneMeasured s n op rank t).outside fm = s.outside fm := by
  refine outside_mono hfm ?_
  unfold State.laneMeasured
  (try simp) <;> (repeat' split) <;> simp_all

@[simp] theorem State.lanesMeasured_outside (s : State) (n op rank : Nat) (res : List LaneTrack) (fm : Nat) (hfm : 805586513 &&& fm = 805586513) :
    (State.lanesMeasured s n op rank res).outside fm = s.outside fm := by
  refine outside_mono hfm ?_
  unfold State.lanesMeasured
  (try simp) <;> (repeat' split) <;> simp_all

@[simp] theorem State.trackStep_outside (s : State) (n : Nat) (p : Pass) (rank : Nat) (res : List LaneTrack) (fm : Nat) (hfm : 805586513 &&& fm = 805586513) :
    (State.trackStep s n p rank res).outside fm = s.outside fm := by
  refine outside_mono hfm ?_
  unfold State.trackStep
  (try simp) <;> (repeat' split) <;> simp_all

@[simp] theorem State.trackGo_outside (s : State) (n : Nat) (fm : Nat) (hfm : 1024 &&& fm = 1024) :
    (State.trackGo s n).outside fm = s.outside fm := by
  refine outside_mono hfm ?_
  unfold State.trackGo
  (try simp) <;> (repeat' split) <;> simp_all

theorem execTrackingStep_outside (sc : ScIx) (res : List LaneTrack) (s : State) (fm : Nat) (hfm : 2953070161 &&& fm = 2953070161) :
    s.framedBy fm (execTrackingStep sc res s) := by
  refine State.framedBy_mono hfm ?_
  unfold execTrackingStep
  (try simp) <;> (repeat' split) <;> simp_all

theorem execDramWriteCrcAlert_outside (sc : ScIx) (rank : Nat) (fails : Nat) (res : List LaneTrack) (s : State) (fm : Nat) (hfm : 2953070161 &&& fm = 2953070161) :
    s.framedBy fm (execDramWriteCrcAlert sc rank fails res s) := by
  refine State.framedBy_mono hfm ?_
  unfold execDramWriteCrcAlert
  (try simp) <;> (repeat' split) <;> simp_all

@[simp] theorem State.shiftCentres_outside (s : State) (n op rank lane : Nat) (write : Bool) (shift : Int) (fm : Nat) (hfm : 1024 &&& fm = 1024) :
    (State.shiftCentres s n op rank lane write shift).outside fm = s.outside fm := by
  refine outside_mono hfm ?_
  unfold State.shiftCentres
  (try simp) <;> (repeat' split) <;> simp_all

theorem execTrackingPassApply_outside (sc : ScIx) (s : State) (fm : Nat) (hfm : 2147484672 &&& fm = 2147484672) :
    s.framedBy fm (execTrackingPassApply sc s) := by
  refine State.framedBy_mono hfm ?_
  unfold execTrackingPassApply
  repeat' first
    | (simp; done)
    | (rw [← snd_outside ‹_ = (_, _)›]; simp; done)
    | (rw [← thd_outside ‹_ = (_, _, _)›]; simp; done)
    | split
    | refine (State.each_outside _ _ _ _ ?_).trans ?_
    | refine (foldl_outside _ _ ?_ _ _).trans ?_
    | refine (State.when_outside _ _ _ _ ?_).trans ?_
    | refine occurs_outside _ _ _ _ (by decide) ?_
    | (intro _; skip)
    | simp

end Sys2Proof.Machine
end

