-- ==== Sys2Proof/Laws/FrameEpoch.lean ====
section
/-!
SUPPORT. Sys2Proof/Laws/FrameEpoch.lean: what each operation of Machine/Epoch.lean may change.
-/

set_option Elab.async false
namespace Sys2Proof.Machine

@[simp] theorem State.judgePatrols_outside (s : State) (fm : Nat) (hfm : 1 &&& fm = 1) :
    (State.judgePatrols s).outside fm = s.outside fm := by
  refine outside_mono hfm ?_
  unfold State.judgePatrols
  (try simp) <;> (repeat' split) <;> simp_all

@[simp] theorem State.putFingerprint_outside (s : State) (fm : Nat) (hfm : 1 &&& fm = 1) :
    (State.putFingerprint s).outside fm = s.outside fm := by
  refine outside_mono hfm ?_
  unfold State.putFingerprint
  (try simp) <;> (repeat' split) <;> simp_all

@[simp] theorem State.endCommit_outside (s : State) (result : Nat) (fm : Nat) (hfm : 5 &&& fm = 5) :
    (State.endCommit s result).outside fm = s.outside fm := by
  refine outside_mono hfm ?_
  unfold State.endCommit
  (try simp) <;> (repeat' split) <;> simp_all

@[simp] theorem State.epochCommit_outside (s : State) (epoch : Nat) (fm : Nat) (hfm : 5 &&& fm = 5) :
    (State.epochCommit s epoch).outside fm = s.outside fm := by
  refine outside_mono hfm ?_
  unfold State.epochCommit
  (try simp) <;> (repeat' split) <;> simp_all

theorem execEpochCommit_outside (path : PathIx) (value : Word) (s : State) (fm : Nat) (hfm : 2147483661 &&& fm = 2147483661) :
    s.framedBy fm (execEpochCommit path value s) := by
  refine State.framedBy_mono hfm ?_
  unfold execEpochCommit
  (try simp) <;> (repeat' split) <;> simp_all

@[simp] theorem State.voteClass_outside (s : State) (named : List Nat) (cls : Nat) (fm : Nat) (hfm : 1 &&& fm = 1) :
    (State.voteClass s named cls).outside fm = s.outside fm := by
  refine outside_mono hfm ?_
  unfold State.voteClass
  (try simp) <;> (repeat' split) <;> simp_all

@[simp] theorem State.epochVote_outside (s : State) (c : Commit) (named : List Nat) (fm : Nat) (hfm : 5 &&& fm = 5) :
    (State.epochVote s c named).outside fm = s.outside fm := by
  refine outside_mono hfm ?_
  unfold State.epochVote
  (try simp) <;> (repeat' split) <;> simp_all

theorem execEpochVote_outside (notReady : List Nat) (s : State) (fm : Nat) (hfm : 2147483655 &&& fm = 2147483655) :
    s.framedBy fm (execEpochVote notReady s) := by
  refine State.framedBy_mono hfm ?_
  unfold execEpochVote
  (try simp) <;> (repeat' split) <;> simp_all

@[simp] theorem State.epochAbandon_outside (s : State) (fm : Nat) (hfm : 21 &&& fm = 21) :
    (State.epochAbandon s).outside fm = s.outside fm := by
  refine outside_mono hfm ?_
  unfold State.epochAbandon
  (try simp) <;> (repeat' split) <;> simp_all

@[simp] theorem State.applyWord_outside (s : State) (off : Nat) (w : Word) (fm : Nat) (hfm : 5 &&& fm = 5) :
    (State.applyWord s off w).outside fm = s.outside fm := by
  refine outside_mono hfm ?_
  unfold State.applyWord
  (try simp) <;> (repeat' split) <;> simp_all

@[simp] theorem State.epochApply_outside (s : State) (c : Commit) (snap : Sparse Word) (fm : Nat) (hfm : 1557 &&& fm = 1557) :
    (State.epochApply s c snap).outside fm = s.outside fm := by
  refine outside_mono hfm ?_
  unfold State.epochApply
  repeat' first
    | (simp; done)
    | (rw [← snd_outside ‹_ = (_, _)›]; simp; done)
    | (rw [← thd_outside ‹_ = (_, _, _)›]; simp; done)
    | split
    | refine (State.each_outside _ _ _ _ ?_).trans ?_
    | refine (foldl_outside _ _ ?_ _ _).trans ?_
    | refine (State.when_outside _ _ _ _ ?_).trans ?_
    | refine occurs_outside _ _ _ _ (by decide) ?_
    | (intro _; skip)
    | simp

theorem execEpochApply_outside (s : State) (fm : Nat) (hfm : 2147485205 &&& fm = 2147485205) :
    s.framedBy fm (execEpochApply s) := by
  refine State.framedBy_mono hfm ?_
  unfold execEpochApply
  (try simp) <;> (repeat' split) <;> simp_all

theorem execUnitPowerReturn_outside (unit : Nat) (s : State) (fm : Nat) (hfm : 2147483653 &&& fm = 2147483653) :
    s.framedBy fm (execUnitPowerReturn unit s) := by
  refine State.framedBy_mono hfm ?_
  unfold execUnitPowerReturn
  repeat' first
    | (simp; done)
    | (rw [← snd_outside ‹_ = (_, _)›]; simp; done)
    | (rw [← thd_outside ‹_ = (_, _, _)›]; simp; done)
    | split
    | refine (State.each_outside _ _ _ _ ?_).trans ?_
    | refine (foldl_outside _ _ ?_ _ _).trans ?_
    | refine (State.when_outside _ _ _ _ ?_).trans ?_
    | refine occurs_outside _ _ _ _ (by decide) ?_
    | (intro _; skip)
    | simp

theorem execClrOverruns_outside (path : PathIx) (s : State) (fm : Nat) (hfm : 2147483657 &&& fm = 2147483657) :
    s.framedBy fm (execClrOverruns path s) := by
  refine State.framedBy_mono hfm ?_
  unfold execClrOverruns
  (try simp) <;> (repeat' split) <;> simp_all

end Sys2Proof.Machine
end

