-- ==== Sys2Proof/Laws/FrameSave.lean ====
section
/-!
SUPPORT. Sys2Proof/Laws/FrameSave.lean: what each operation of Machine/Save.lean may change.
-/

set_option Elab.async false
namespace Sys2Proof.Machine

theorem execVinSenseLow_outside (s : State) (fm : Nat) (hfm : 3224109073 &&& fm = 3224109073) :
    s.framedBy fm (execVinSenseLow s) := by
  refine State.framedBy_mono hfm ?_
  unfold execVinSenseLow
  (try simp) <;> (repeat' split) <;> simp_all

theorem execPfwNAssert_outside (s : State) (fm : Nat) (hfm : 2150367249 &&& fm = 2150367249) :
    s.framedBy fm (execPfwNAssert s) := by
  refine State.framedBy_mono hfm ?_
  unfold execPfwNAssert
  (try simp) <;> (repeat' split) <;> simp_all

theorem execInputReturn_outside (mv : Nat) (s : State) (fm : Nat) (hfm : 2148270081 &&& fm = 2148270081) :
    s.framedBy fm (execInputReturn mv s) := by
  refine State.framedBy_mono hfm ?_
  unfold execInputReturn
  (try simp) <;> (repeat' split) <;> simp_all

theorem execSaveBackupEnable_outside (s : State) (fm : Nat) (hfm : 2150499585 &&& fm = 2150499585) :
    s.framedBy fm (execSaveBackupEnable s) := by
  refine State.framedBy_mono hfm ?_
  unfold execSaveBackupEnable
  (try simp) <;> (repeat' split) <;> simp_all

@[simp] theorem State.rideThrough_outside (s : State) (fm : Nat) (hfm : 2097169 &&& fm = 2097169) :
    (State.rideThrough s).outside fm = s.outside fm := by
  refine outside_mono hfm ?_
  unfold State.rideThrough
  (try simp) <;> (repeat' split) <;> simp_all

@[simp] theorem State.rideThroughEnds_outside (s : State) (fm : Nat) (hfm : 2621441 &&& fm = 2621441) :
    (State.rideThroughEnds s).outside fm = s.outside fm := by
  refine outside_mono hfm ?_
  unfold State.rideThroughEnds
  (try simp) <;> (repeat' split) <;> simp_all

@[simp] theorem State.saveCommit_outside (s : State) (fm : Nat) (hfm : 2285699091 &&& fm = 2285699091) :
    (State.saveCommit s).outside fm = s.outside fm := by
  refine outside_mono hfm ?_
  unfold State.saveCommit
  (try simp) <;> (repeat' split) <;> simp_all

theorem execSaveDecide_outside (s : State) (fm : Nat) (hfm : 2285699091 &&& fm = 2285699091) :
    s.framedBy fm (execSaveDecide s) := by
  refine State.framedBy_mono hfm ?_
  unfold execSaveDecide
  (try simp) <;> (repeat' split) <;> simp_all

@[simp] theorem State.skimAbandon_outside (s : State) (q : Nat) (fm : Nat) (hfm : 2641 &&& fm = 2641) :
    (State.skimAbandon s q).outside fm = s.outside fm := by
  refine outside_mono hfm ?_
  unfold State.skimAbandon
  (try simp) <;> (repeat' split) <;> simp_all

@[simp] theorem State.stopFlash_outside (s : State) (q : Nat) (fm : Nat) (hfm : 8017 &&& fm = 8017) :
    (State.stopFlash s q).outside fm = s.outside fm := by
  refine outside_mono hfm ?_
  unfold State.stopFlash
  (try simp) <;> (repeat' split) <;> simp_all

@[simp] theorem State.epochAbandonSave_outside (s : State) (fm : Nat) (hfm : 21 &&& fm = 21) :
    (State.epochAbandonSave s).outside fm = s.outside fm := by
  refine outside_mono hfm ?_
  unfold State.epochAbandonSave
  (try simp) <;> (repeat' split) <;> simp_all

@[simp] theorem State.quiesceHeads_outside (s : State) (fm : Nat) (hfm : 2147488769 &&& fm = 2147488769) :
    (State.quiesceHeads s).outside fm = s.outside fm := by
  refine outside_mono hfm ?_
  unfold State.quiesceHeads
  (try simp) <;> (repeat' split) <;> simp_all

@[simp] theorem State.saveClass_outside (s : State) (fm : Nat) (hfm : 18001 &&& fm = 18001) :
    (State.saveClass s).outside fm = s.outside fm := by
  refine outside_mono hfm ?_
  unfold State.saveClass
  repeat' first
    | (simp; done)
    | (rw [← snd_outside ‹_ = (_, _)›]; simp; done)
    | (rw [← thd_outside ‹_ = (_, _, _)›]; simp; done)
    | split
    | refine (State.each_outside _ _ _ _ ?_).trans ?_
    | refine (foldl_outside _ _ ?_ _ _).trans ?_
    | refine (State.when_outside _ _ _ _ ?_).trans ?_
    | refine occurs_outside _ _ _ _ (by decide) ?_
    | (intro _; skip)
    | simp

theorem execSaveCommitArrive_outside (s : State) (fm : Nat) (hfm : 2149605205 &&& fm = 2149605205) :
    s.framedBy fm (execSaveCommitArrive s) := by
  refine State.framedBy_mono hfm ?_
  unfold execSaveCommitArrive
  refine occurs_outside _ _ _ _ (by decide) fun x => ?_
  refine (State.modSave_outside _ _ _ (by decide)).trans ((State.put_outside _ _ _ _ (by decide)).trans
    ((State.put_outside _ _ _ _ (by decide)).trans ?_))
  refine (State.each_outside _ _ _ _ fun _ _ => State.modQuad_outside _ _ _ _ (by decide)).trans ?_
  refine (State.each_outside _ _ _ _ fun _ _ => State.stopFlash_outside _ _ _ (by decide)).trans ?_
  exact (State.saveClass_outside _ _ (by decide)).trans ((State.quiesceHeads_outside _ _ (by decide)).trans
    (State.epochAbandonSave_outside _ _ (by decide)))

theorem execQuadrantWriteDrained_outside (q : QuadIx) (s : State) (fm : Nat) (hfm : 2147484160 &&& fm = 2147484160) :
    s.framedBy fm (execQuadrantWriteDrained q s) := by
  refine State.framedBy_mono hfm ?_
  unfold execQuadrantWriteDrained
  (try simp) <;> (repeat' split) <;> simp_all

theorem execPersistencePoint_outside (s : State) (fm : Nat) (hfm : 2149580801 &&& fm = 2149580801) :
    s.framedBy fm (execPersistencePoint s) := by
  refine State.framedBy_mono hfm ?_
  unfold execPersistencePoint
  (try simp) <;> (repeat' split) <;> simp_all

theorem execFabricPhyOff_outside (s : State) (fm : Nat) (hfm : 2147487745 &&& fm = 2147487745) :
    s.framedBy fm (execFabricPhyOff s) := by
  refine State.framedBy_mono hfm ?_
  unfold execFabricPhyOff
  repeat' first
    | (simp; done)
    | (rw [← snd_outside ‹_ = (_, _)›]; simp; done)
    | (rw [← thd_outside ‹_ = (_, _, _)›]; simp; done)
    | split
    | refine (State.each_outside _ _ _ _ ?_).trans ?_
    | refine (foldl_outside _ _ ?_ _ _).trans ?_
    | refine (State.when_outside _ _ _ _ ?_).trans ?_
    | refine occurs_outside _ _ _ _ (by decide) ?_
    | (intro _; skip)
    | simp

theorem execSaveWriteStart_outside (q : QuadIx) (bad : List Nat) (s : State) (fm : Nat) (hfm : 2149637969 &&& fm = 2149637969) :
    s.framedBy fm (execSaveWriteStart q bad s) := by
  refine State.framedBy_mono hfm ?_
  unfold execSaveWriteStart
  (try simp) <;> (repeat' split) <;> simp_all

theorem execSaveQuadrantTailDone_outside (q : QuadIx) (s : State) (fm : Nat) (hfm : 2147484161 &&& fm = 2147484161) :
    s.framedBy fm (execSaveQuadrantTailDone q s) := by
  refine State.framedBy_mono hfm ?_
  unfold execSaveQuadrantTailDone
  (try simp) <;> (repeat' split) <;> simp_all

@[simp] theorem State.pushRecord_outside (s : State) (r : Record) (k chan : Nat) (fm : Nat) (hfm : 2048 &&& fm = 2048) :
    (State.pushRecord s r k chan).outside fm = s.outside fm := by
  refine outside_mono hfm ?_
  unfold State.pushRecord
  (try simp) <;> (repeat' split) <;> simp_all

theorem execSealWrite_outside (s : State) (fm : Nat) (hfm : 2147518721 &&& fm = 2147518721) :
    s.framedBy fm (execSealWrite s) := by
  refine State.framedBy_mono hfm ?_
  unfold execSealWrite
  (try simp) <;> (repeat' split) <;> simp_all

@[simp] theorem State.setStage_outside (s : State) (k : Nat) (c : CopyStage) (fm : Nat) (hfm : 256 &&& fm = 256) :
    (State.setStage s k c).outside fm = s.outside fm := by
  refine outside_mono hfm ?_
  unfold State.setStage
  (try simp) <;> (repeat' split) <;> simp_all

@[simp] theorem State.judgeCopy_outside (s : State) (w : RecWrite) (k : Nat) (ok : Bool) (fm : Nat) (hfm : 2321 &&& fm = 2321) :
    (State.judgeCopy s w k ok).outside fm = s.outside fm := by
  refine outside_mono hfm ?_
  unfold State.judgeCopy
  (try simp) <;> (repeat' split) <;> simp_all

@[simp] theorem State.rebuildMaps_outside (s : State) (q : Nat) (fm : Nat) (hfm : 593 &&& fm = 593) :
    (State.rebuildMaps s q).outside fm = s.outside fm := by
  refine outside_mono hfm ?_
  unfold State.rebuildMaps
  (try simp) <;> (repeat' split) <;> simp_all

@[simp] theorem State.warmResume_outside (s : State) (fm : Nat) (hfm : 333649 &&& fm = 333649) :
    (State.warmResume s).outside fm = s.outside fm := by
  refine outside_mono hfm ?_
  unfold State.warmResume
  (try simp) <;> (repeat' split) <;> simp_all

@[simp] theorem State.startWarmReset_outside (s : State) (fm : Nat) (hfm : 2282004305 &&& fm = 2282004305) :
    (State.startWarmReset s).outside fm = s.outside fm := by
  refine outside_mono hfm ?_
  unfold State.startWarmReset
  (try simp) <;> (repeat' split) <;> simp_all

@[simp] theorem State.latchedToggle_outside (s : State) (resume : Bool) (fm : Nat) (hfm : 2359297 &&& fm = 2359297) :
    (State.latchedToggle s resume).outside fm = s.outside fm := by
  refine outside_mono hfm ?_
  unfold State.latchedToggle
  (try simp) <;> (repeat' split) <;> simp_all

@[simp] theorem State.afterSeal_outside (s : State) (fm : Nat) (hfm : 2284822353 &&& fm = 2284822353) :
    (State.afterSeal s).outside fm = s.outside fm := by
  refine outside_mono hfm ?_
  unfold State.afterSeal
  (try simp) <;> (repeat' split) <;> simp_all

@[simp] theorem State.endUnsealed_outside (s : State) (fm : Nat) (hfm : 3015953 &&& fm = 3015953) :
    (State.endUnsealed s).outside fm = s.outside fm := by
  refine outside_mono hfm ?_
  unfold State.endUnsealed
  (try simp) <;> (repeat' split) <;> simp_all

@[simp] theorem State.saveSupplyLost_outside (s : State) (fm : Nat) (hfm : 3015953 &&& fm = 3015953) :
    (State.saveSupplyLost s).outside fm = s.outside fm := by
  refine outside_mono hfm ?_
  unfold State.saveSupplyLost
  (try simp) <;> (repeat' split) <;> simp_all

@[simp] theorem State.eraseStops_outside (s : State) (fm : Nat) (hfm : 24833 &&& fm = 24833) :
    (State.eraseStops s).outside fm = s.outside fm := by
  refine outside_mono hfm ?_
  unfold State.eraseStops
  (try simp) <;> (repeat' split) <;> simp_all

@[simp] theorem State.saveSealed_outside (s : State) (r : Record) (both : Bool) (fm : Nat) (hfm : 2284846929 &&& fm = 2284846929) :
    (State.saveSealed s r both).outside fm = s.outside fm := by
  refine outside_mono hfm ?_
  unfold State.saveSealed
  (try simp) <;> (repeat' split) <;> simp_all

@[simp] theorem State.sealReadback_outside (s : State) (w : RecWrite) (ok : List Bool) (fm : Nat) (hfm : 2284846929 &&& fm = 2284846929) :
    (State.sealReadback s w ok).outside fm = s.outside fm := by
  refine outside_mono hfm ?_
  unfold State.sealReadback
  (try simp) <;> (repeat' split) <;> simp_all

theorem execSealReadback_outside (ok : List Bool) (s : State) (fm : Nat) (hfm : 2284846929 &&& fm = 2284846929) :
    s.framedBy fm (execSealReadback ok s) := by
  refine State.framedBy_mono hfm ?_
  unfold execSealReadback
  (try simp) <;> (repeat' split) <;> simp_all

theorem execBkpEnRelease_outside (s : State) (fm : Nat) (hfm : 2148007936 &&& fm = 2148007936) :
    s.framedBy fm (execBkpEnRelease s) := by
  refine State.framedBy_mono hfm ?_
  unfold execBkpEnRelease
  (try simp) <;> (repeat' split) <;> simp_all

end Sys2Proof.Machine
end

