-- ==== Sys2Proof/Laws/FrameEvent.lean ====
section
/-!
SUPPORT. Sys2Proof/Laws/FrameEvent.lean: what each operation of Machine/Event.lean may change.
-/

set_option Elab.async false
namespace Sys2Proof.Machine

@[simp] theorem State.updRelease_outside (s : State) (fm : Nat) (hfm : 67108865 &&& fm = 67108865) :
    (State.updRelease s).outside fm = s.outside fm := by
  refine outside_mono hfm ?_
  unfold State.updRelease
  (try simp) <;> (repeat' split) <;> simp_all

@[simp] theorem State.clusterRestart_outside (s : State) (fm : Nat) (hfm : 75522081 &&& fm = 75522081) :
    (State.clusterRestart s).outside fm = s.outside fm := by
  refine outside_mono hfm ?_
  unfold State.clusterRestart
  (try simp) <;> (repeat' split) <;> simp_all

@[simp] theorem State.takeover_outside (s : State) (fm : Nat) (hfm : 75522097 &&& fm = 75522097) :
    (State.takeover s).outside fm = s.outside fm := by
  refine outside_mono hfm ?_
  unfold State.takeover
  (try simp) <;> (repeat' split) <;> simp_all

theorem execLockstepMismatch_outside (pair : Fin 2) (s : State) (fm : Nat) (hfm : 2223005745 &&& fm = 2223005745) :
    s.framedBy fm (execLockstepMismatch pair s) := by
  refine State.framedBy_mono hfm ?_
  unfold execLockstepMismatch
  (try simp) <;> (repeat' split) <;> simp_all

@[simp] theorem State.deviceTemp_outside (s : State) (fm : Nat) (hfm : 1073741824 &&& fm = 1073741824) :
    (State.deviceTemp s).2.outside fm = s.outside fm := by
  refine outside_mono hfm ?_
  unfold State.deviceTemp
  (try simp) <;> (repeat' split) <;> simp_all

@[simp] theorem State.healthNums_outside (s : State) (fn : FnIx) (fm : Nat) (hfm : 1073741824 &&& fm = 1073741824) :
    (State.healthNums s fn).2.outside fm = s.outside fm := by
  refine outside_mono hfm ?_
  unfold State.healthNums
  (try simp) <;> (repeat' split) <;> simp_all

@[simp] theorem State.recordFields_outside (s : State) (m : FaultMsg) (k : Nat) (fm : Nat) (hfm : 1073741824 &&& fm = 1073741824) :
    (State.recordFields s m k).2.outside fm = s.outside fm := by
  refine outside_mono hfm ?_
  unfold State.recordFields
  (try simp) <;> (repeat' split) <;> simp_all

@[simp] theorem State.addRecord_outside (s : State) (m : FaultMsg) (k : Nat) (fields : List Nat) (fm : Nat) (hfm : 8192 &&& fm = 8192) :
    (State.addRecord s m k fields).outside fm = s.outside fm := by
  refine outside_mono hfm ?_
  unfold State.addRecord
  (try simp) <;> (repeat' split) <;> simp_all

@[simp] theorem State.logEvent_outside (s : State) (m : FaultMsg) (k : Nat) (fm : Nat) (hfm : 3221233664 &&& fm = 3221233664) :
    (State.logEvent s m k).outside fm = s.outside fm := by
  refine outside_mono hfm ?_
  unfold State.logEvent
  (try simp) <;> (repeat' split) <;> simp_all

@[simp] theorem State.retireBySource_outside (s : State) (src : Nat) (fm : Nat) (hfm : 1149561841 &&& fm = 1149561841) :
    (State.retireBySource s src).outside fm = s.outside fm := by
  refine outside_mono hfm ?_
  unfold State.retireBySource
  (try simp) <;> (repeat' split) <;> simp_all

@[simp] theorem State.deferredRetire_outside (s : State) (fm : Nat) (hfm : 262673 &&& fm = 262673) :
    (State.deferredRetire s).outside fm = s.outside fm := by
  refine outside_mono hfm ?_
  unfold State.deferredRetire
  (try simp) <;> (repeat' split) <;> simp_all

@[simp] theorem State.resetReaction_outside (s : State) (fm : Nat) (hfm : 17 &&& fm = 17) :
    (State.resetReaction s).outside fm = s.outside fm := by
  refine outside_mono hfm ?_
  unfold State.resetReaction
  (try simp) <;> (repeat' split) <;> simp_all

@[simp] theorem State.judgeAlert_outside (s : State) (fm : Nat) (hfm : 524288 &&& fm = 524288) :
    (State.judgeAlert s).outside fm = s.outside fm := by
  refine outside_mono hfm ?_
  unfold State.judgeAlert
  (try simp) <;> (repeat' split) <;> simp_all

@[simp] theorem State.react_outside (s : State) (m : FaultMsg) (fm : Nat) (hfm : 3299666929 &&& fm = 3299666929) :
    (State.react s m).outside fm = s.outside fm := by
  refine outside_mono hfm ?_
  unfold State.react
  (try simp) <;> (repeat' split) <;> simp_all

@[simp] theorem State.enterNext_outside (s : State) (e : EvEntry) (fm : Nat) (hfm : 17 &&& fm = 17) :
    (State.enterNext s e).outside fm = s.outside fm := by
  refine outside_mono hfm ?_
  unfold State.enterNext
  (try simp) <;> (repeat' split) <;> simp_all

@[simp] theorem State.arrive_outside (s : State) (l : List (Nat × FaultMsg)) (fm : Nat) (hfm : 3299666929 &&& fm = 3299666929) :
    (State.arrive s l).outside fm = s.outside fm := by
  refine outside_mono hfm ?_
  unfold State.arrive
  (try simp) <;> (repeat' split) <;> simp_all

theorem execFaultMessageRaise_outside (m : RaiseIn) (s : State) (fm : Nat) (hfm : 2214592529 &&& fm = 2214592529) :
    s.framedBy fm (execFaultMessageRaise m s) := by
  refine State.framedBy_mono hfm ?_
  unfold execFaultMessageRaise
  (try simp) <;> (repeat' split) <;> simp_all

@[simp] theorem State.deliver_outside (s : State) (d : Delivery) (fm : Nat) (hfm : 17 &&& fm = 17) :
    (State.deliver s d).2.outside fm = s.outside fm := by
  refine outside_mono hfm ?_
  unfold State.deliver
  (try simp) <;> (repeat' split) <;> simp_all

@[simp] theorem State.deliverAll_outside (s : State) (l : List Delivery) (fm : Nat) (hfm : 3299666929 &&& fm = 3299666929) :
    (State.deliverAll s l).outside fm = s.outside fm := by
  refine outside_mono hfm ?_
  unfold State.deliverAll
  dsimp only
  have h := foldl_proj_outside (m := 3299666929) (fun r : List (Nat × FaultMsg) × List Nat × State => r.2.2)
    (fun acc (d : Delivery) => if acc.2.1.contains d.seg.val then acc
      else (acc.1 ++ (acc.2.2.deliver d).1.toList, d.seg.val :: acc.2.1, (acc.2.2.deliver d).2))
    (fun b a => by split <;> simp) l ([], [], s)
  split
  · exact h
  · exact (State.arrive_outside _ _ _ (by decide)).trans h

@[simp] theorem State.firstClr_outside (s : State) (fm : Nat) (hfm : 17 &&& fm = 17) :
    (State.firstClr s).outside fm = s.outside fm := by
  refine outside_mono hfm ?_
  unfold State.firstClr
  (try simp) <;> (repeat' split) <;> simp_all

@[simp] theorem State.nextPop_outside (s : State) (fm : Nat) (hfm : 17 &&& fm = 17) :
    (State.nextPop s).outside fm = s.outside fm := by
  refine outside_mono hfm ?_
  unfold State.nextPop
  (try simp) <;> (repeat' split) <;> simp_all

@[simp] theorem State.alertClear_outside (s : State) (fm : Nat) (hfm : 524305 &&& fm = 524305) :
    (State.alertClear s).outside fm = s.outside fm := by
  refine outside_mono hfm ?_
  unfold State.alertClear
  (try simp) <;> (repeat' split) <;> simp_all

@[simp] theorem State.firstClrOnce_outside (s : State) (fm : Nat) (hfm : 17 &&& fm = 17) :
    (State.firstClrOnce s).outside fm = s.outside fm := by
  refine outside_mono hfm ?_
  unfold State.firstClrOnce
  (try simp) <;> (repeat' split) <;> simp_all

@[simp] theorem State.nextPopOnce_outside (s : State) (fm : Nat) (hfm : 17 &&& fm = 17) :
    (State.nextPopOnce s).outside fm = s.outside fm := by
  refine outside_mono hfm ?_
  unfold State.nextPopOnce
  (try simp) <;> (repeat' split) <;> simp_all

@[simp] theorem State.alertClearOnce_outside (s : State) (fm : Nat) (hfm : 524305 &&& fm = 524305) :
    (State.alertClearOnce s).outside fm = s.outside fm := by
  refine outside_mono hfm ?_
  unfold State.alertClearOnce
  (try simp) <;> (repeat' split) <;> simp_all

theorem execFirstClr_outside (path : PathIx) (s : State) (fm : Nat) (hfm : 2147483673 &&& fm = 2147483673) :
    s.framedBy fm (execFirstClr path s) := by
  refine State.framedBy_mono hfm ?_
  unfold execFirstClr
  (try simp) <;> (repeat' split) <;> simp_all

theorem execNextPop_outside (path : PathIx) (s : State) (fm : Nat) (hfm : 2147483673 &&& fm = 2147483673) :
    s.framedBy fm (execNextPop path s) := by
  refine State.framedBy_mono hfm ?_
  unfold execNextPop
  (try simp) <;> (repeat' split) <;> simp_all

@[simp] theorem State.clearAhead_outside (s : State) (c : Instr) (fm : Nat) (hfm : 524305 &&& fm = 524305) :
    (State.clearAhead s c).outside fm = s.outside fm := by
  refine outside_mono hfm ?_
  unfold State.clearAhead
  (try simp) <;> (repeat' split) <;> simp_all

theorem execFaultMessageDelivery_outside (l : List Delivery) (mates : Nat) (s : State) (fm : Nat) (hfm : 3299666929 &&& fm = 3299666929) :
    s.framedBy fm (execFaultMessageDelivery l mates s) := by
  refine State.framedBy_mono hfm ?_
  unfold execFaultMessageDelivery
  refine occurs_outside _ _ _ _ (by decide) fun x => ?_
  exact (State.deliverAll_outside _ _ _ (by decide)).trans (State.each_outside _ _ _ _ fun _ _ => State.clearAhead_outside _ _ _ (by decide))

@[simp] theorem State.gfRelease_outside (s : State) (fm : Nat) (hfm : 524305 &&& fm = 524305) :
    (State.gfRelease s).outside fm = s.outside fm := by
  refine outside_mono hfm ?_
  unfold State.gfRelease
  (try simp) <;> (repeat' split) <;> simp_all

theorem execGfRelease_outside (path : PathIx) (s : State) (fm : Nat) (hfm : 2148007961 &&& fm = 2148007961) :
    s.framedBy fm (execGfRelease path s) := by
  refine State.framedBy_mono hfm ?_
  unfold execGfRelease
  (try simp) <;> (repeat' split) <;> simp_all

theorem execAlertPendClear_outside (path : PathIx) (s : State) (fm : Nat) (hfm : 2148007961 &&& fm = 2148007961) :
    s.framedBy fm (execAlertPendClear path s) := by
  refine State.framedBy_mono hfm ?_
  unfold execAlertPendClear
  (try simp) <;> (repeat' split) <;> simp_all

end Sys2Proof.Machine
end

