-- ==== Sys2Proof/Laws/FrameGauge.lean ====
section
/-!
SUPPORT. Sys2Proof/Laws/FrameGauge.lean: what each operation of Machine/Gauge.lean may change.
-/

set_option Elab.async false
namespace Sys2Proof.Machine

@[simp] theorem State.sync_outside (s : State) (kind soc : Nat) (fm : Nat) (hfm : 65537 &&& fm = 65537) :
    (State.sync s kind soc).outside fm = s.outside fm := by
  refine outside_mono hfm ?_
  unfold State.sync
  (try simp) <;> (repeat' split) <;> simp_all

@[simp] theorem State.showCharge_outside (s : State) (fm : Nat) (hfm : 1 &&& fm = 1) :
    (State.showCharge s).outside fm = s.outside fm := by
  refine outside_mono hfm ?_
  unfold State.showCharge
  (try simp) <;> (repeat' split) <;> simp_all

@[simp] theorem State.budget_outside (s : State) (fm : Nat) (hfm : 65555 &&& fm = 65555) :
    (State.budget s).outside fm = s.outside fm := by
  refine outside_mono hfm ?_
  unfold State.budget
  (try simp) <;> (repeat' split) <;> simp_all

@[simp] theorem State.judgeFet_outside (s : State) (fm : Nat) (hfm : 524305 &&& fm = 524305) :
    (State.judgeFet s).outside fm = s.outside fm := by
  refine outside_mono hfm ?_
  unfold State.judgeFet
  (try simp) <;> (repeat' split) <;> simp_all

@[simp] theorem State.judgePack_outside (s : State) (fm : Nat) (hfm : 2149122067 &&& fm = 2149122067) :
    (State.judgePack s).outside fm = s.outside fm := by
  refine outside_mono hfm ?_
  unfold State.judgePack
  (try simp) <;> (repeat' split) <;> simp_all

@[simp] theorem State.packFault_outside (s : State) (code src kind : Nat) (fm : Nat) (hfm : 2149122067 &&& fm = 2149122067) :
    (State.packFault s code src kind).outside fm = s.outside fm := by
  refine outside_mono hfm ?_
  unfold State.packFault
  (try simp) <;> (repeat' split) <;> simp_all

@[simp] theorem State.packClear_outside (s : State) (code : Nat) (fm : Nat) (hfm : 2149122067 &&& fm = 2149122067) :
    (State.packClear s code).outside fm = s.outside fm := by
  refine outside_mono hfm ?_
  unfold State.packClear
  (try simp) <;> (repeat' split) <;> simp_all

@[simp] theorem State.chargerTable_outside (s : State) (ok : Bool) (fm : Nat) (hfm : 2147483665 &&& fm = 2147483665) :
    (State.chargerTable s ok).outside fm = s.outside fm := by
  refine outside_mono hfm ?_
  unfold State.chargerTable
  (try simp) <;> (repeat' split) <;> simp_all

@[simp] theorem State.writeBack_outside (s : State) (ok : Bool) (fm : Nat) (hfm : 2147549184 &&& fm = 2147549184) :
    (State.writeBack s ok).outside fm = s.outside fm := by
  refine outside_mono hfm ?_
  unfold State.writeBack
  (try simp) <;> (repeat' split) <;> simp_all

@[simp] theorem State.packChange_outside (s : State) (e : Eeprom) (chargerOk : Bool) (fm : Nat) (hfm : 2147549201 &&& fm = 2147549201) :
    (State.packChange s e chargerOk).outside fm = s.outside fm := by
  refine outside_mono hfm ?_
  unfold State.packChange
  (try simp) <;> (repeat' split) <;> simp_all

theorem execLearnedWriteStart_outside (s : State) (fm : Nat) (hfm : 2147549185 &&& fm = 2147549185) :
    s.framedBy fm (execLearnedWriteStart s) := by
  refine State.framedBy_mono hfm ?_
  unfold execLearnedWriteStart
  (try simp) <;> (repeat' split) <;> simp_all

@[simp] theorem State.changeSlot_outside (s : State) (slot : Nat) (v : Slot) (fm : Nat) (hfm : 32768 &&& fm = 32768) :
    (State.changeSlot s slot v).outside fm = s.outside fm := by
  refine outside_mono hfm ?_
  unfold State.changeSlot
  (try simp) <;> (repeat' split) <;> simp_all

@[simp] theorem State.keysWritten_outside (s : State) (n : Nat) (fm : Nat) (hfm : 2151710737 &&& fm = 2151710737) :
    (State.keysWritten s n).outside fm = s.outside fm := by
  refine outside_mono hfm ?_
  unfold State.keysWritten
  repeat' first
    | (simp; done)
    | (rw [← snd_outside ‹_ = (_, _)›]; simp; done)
    | (rw [← thd_outside ‹_ = (_, _, _)›]; simp; done)
    | split
    | refine (State.each_outside _ _ _ _ ?_).trans ?_
    | refine (foldl_outside _ _ ?_ _ _).trans ?_
    | refine (State.when_outside _ _ _ _ ?_).trans ?_
    | refine occurs_outside _ _ _ _ (by decide) ?_
    | (intro _; skip)
    | simp

@[simp] theorem State.learnedWriteEnds_outside (s : State) (fm : Nat) (hfm : 136642577 &&& fm = 136642577) :
    (State.learnedWriteEnds s).outside fm = s.outside fm := by
  refine outside_mono hfm ?_
  unfold State.learnedWriteEnds
  (try simp) <;> (repeat' split) <;> simp_all

theorem execLearnedWriteReadback_outside (ok : Bool) (s : State) (fm : Nat) (hfm : 2288369681 &&& fm = 2288369681) :
    s.framedBy fm (execLearnedWriteReadback ok s) := by
  refine State.framedBy_mono hfm ?_
  unfold execLearnedWriteReadback
  (try simp) <;> (repeat' split) <;> simp_all

@[simp] theorem State.measure_outside (s : State) (i : SuperIn) (fm : Nat) (hfm : 65553 &&& fm = 65553) :
    (State.measure s i).outside fm = s.outside fm := by
  refine outside_mono hfm ?_
  unfold State.measure
  (try simp) <;> (repeat' split) <;> simp_all

@[simp] theorem State.readSerial_outside (s : State) (i : SuperIn) (fm : Nat) (hfm : 2147549201 &&& fm = 2147549201) :
    (State.readSerial s i).outside fm = s.outside fm := by
  refine outside_mono hfm ?_
  unfold State.readSerial
  (try simp) <;> (repeat' split) <;> simp_all

@[simp] theorem State.startCharger_outside (s : State) (i : SuperIn) (fm : Nat) (hfm : 2147549201 &&& fm = 2147549201) :
    (State.startCharger s i).outside fm = s.outside fm := by
  refine outside_mono hfm ?_
  unfold State.startCharger
  (try simp) <;> (repeat' split) <;> simp_all

@[simp] theorem State.presence_outside (s : State) (i : SuperIn) (fm : Nat) (hfm : 2147549201 &&& fm = 2147549201) :
    (State.presence s i).outside fm = s.outside fm := by
  refine outside_mono hfm ?_
  unfold State.presence
  (try simp) <;> (repeat' split) <;> simp_all

@[simp] theorem State.superFaults_outside (s : State) (fm : Nat) (hfm : 2149122067 &&& fm = 2149122067) :
    (State.superFaults s).outside fm = s.outside fm := by
  refine outside_mono hfm ?_
  unfold State.superFaults
  (try simp) <;> (repeat' split) <;> simp_all

@[simp] theorem State.gaugeSuperframe_outside (s : State) (i : SuperIn) (fm : Nat) (hfm : 2149122067 &&& fm = 2149122067) :
    (State.gaugeSuperframe s i).outside fm = s.outside fm := by
  refine outside_mono hfm ?_
  unfold State.gaugeSuperframe
  (try simp) <;> (repeat' split) <;> simp_all

@[simp] theorem State.gaugeFrame_outside (s : State) (shunt : Int) (fm : Nat) (hfm : 2162705 &&& fm = 2162705) :
    (State.gaugeFrame s shunt).outside fm = s.outside fm := by
  refine outside_mono hfm ?_
  unfold State.gaugeFrame
  (try simp) <;> (repeat' split) <;> simp_all

@[simp] theorem State.learnRegulate_outside (s : State) (fm : Nat) (hfm : 589824 &&& fm = 589824) :
    (State.learnRegulate s).outside fm = s.outside fm := by
  refine outside_mono hfm ?_
  unfold State.learnRegulate
  (try simp) <;> (repeat' split) <;> simp_all

@[simp] theorem State.tokenAllot_outside (s : State) (packCode : Nat) (late : Bool) (fm : Nat) (hfm : 2097153 &&& fm = 2097153) :
    (State.tokenAllot s packCode late).outside fm = s.outside fm := by
  refine outside_mono hfm ?_
  unfold State.tokenAllot
  (try simp) <;> (repeat' split) <;> simp_all

@[simp] theorem State.judgeDisagree_outside (s : State) (fm : Nat) (hfm : 2149122067 &&& fm = 2149122067) :
    (State.judgeDisagree s).outside fm = s.outside fm := by
  refine outside_mono hfm ?_
  unfold State.judgeDisagree
  (try simp) <;> (repeat' split) <;> simp_all

@[simp] theorem State.askChg_outside (s : State) (fm : Nat) (hfm : 2148630529 &&& fm = 2148630529) :
    (State.askChg s).outside fm = s.outside fm := by
  refine outside_mono hfm ?_
  unfold State.askChg
  (try simp) <;> (repeat' split) <;> simp_all

@[simp] theorem State.endChg_outside (s : State) (fm : Nat) (hfm : 2148597761 &&& fm = 2148597761) :
    (State.endChg s).outside fm = s.outside fm := by
  refine outside_mono hfm ?_
  unfold State.endChg
  (try simp) <;> (repeat' split) <;> simp_all

@[simp] theorem State.decideChg_outside (s : State) (fm : Nat) (hfm : 2149154817 &&& fm = 2149154817) :
    (State.decideChg s).outside fm = s.outside fm := by
  refine outside_mono hfm ?_
  unfold State.decideChg
  (try simp) <;> (repeat' split) <;> simp_all

@[simp] theorem State.chargeTerminate_outside (s : State) (fm : Nat) (hfm : 2149122049 &&& fm = 2149122049) :
    (State.chargeTerminate s).outside fm = s.outside fm := by
  refine outside_mono hfm ?_
  unfold State.chargeTerminate
  (try simp) <;> (repeat' split) <;> simp_all

@[simp] theorem State.learnStart_outside (s : State) (fm : Nat) (hfm : 589827 &&& fm = 589827) :
    (State.learnStart s).outside fm = s.outside fm := by
  refine outside_mono hfm ?_
  unfold State.learnStart
  (try simp) <;> (repeat' split) <;> simp_all

@[simp] theorem State.learnValid_outside (s : State) (fm : Nat) (hfm : 2149122067 &&& fm = 2149122067) :
    (State.learnValid s).outside fm = s.outside fm := by
  refine outside_mono hfm ?_
  unfold State.learnValid
  (try simp) <;> (repeat' split) <;> simp_all

@[simp] theorem State.learnProgress_outside (s : State) (fm : Nat) (hfm : 2149122067 &&& fm = 2149122067) :
    (State.learnProgress s).2.outside fm = s.outside fm := by
  refine outside_mono hfm ?_
  unfold State.learnProgress
  (try simp) <;> (repeat' split) <;> simp_all

@[simp] theorem State.stepFaults_outside (s : State) (fm : Nat) (hfm : 2149122067 &&& fm = 2149122067) :
    (State.stepFaults s).outside fm = s.outside fm := by
  refine outside_mono hfm ?_
  unfold State.stepFaults
  (try simp) <;> (repeat' split) <;> simp_all

@[simp] theorem State.stepSync_outside (s : State) (fullSync : Bool) (fm : Nat) (hfm : 65537 &&& fm = 65537) :
    (State.stepSync s fullSync).outside fm = s.outside fm := by
  refine outside_mono hfm ?_
  unfold State.stepSync
  (try simp) <;> (repeat' split) <;> simp_all

@[simp] theorem State.stepCycle_outside (s : State) (fm : Nat) (hfm : 65537 &&& fm = 65537) :
    (State.stepCycle s).2.outside fm = s.outside fm := by
  refine outside_mono hfm ?_
  unfold State.stepCycle
  (try simp) <;> (repeat' split) <;> simp_all

@[simp] theorem State.showSocV_outside (s : State) (v : Option Nat) (fm : Nat) (hfm : 1 &&& fm = 1) :
    (State.showSocV s v).outside fm = s.outside fm := by
  refine outside_mono hfm ?_
  unfold State.showSocV
  (try simp) <;> (repeat' split) <;> simp_all

@[simp] theorem State.stepJudge_outside (s : State) (fm : Nat) (hfm : 2149122067 &&& fm = 2149122067) :
    (State.stepJudge s).outside fm = s.outside fm := by
  refine outside_mono hfm ?_
  unfold State.stepJudge
  (try simp) <;> (repeat' split) <;> simp_all

@[simp] theorem State.stepCharge_outside (s : State) (fm : Nat) (hfm : 2149154835 &&& fm = 2149154835) :
    (State.stepCharge s).outside fm = s.outside fm := by
  refine outside_mono hfm ?_
  unfold State.stepCharge
  (try simp) <;> (repeat' split) <;> simp_all

@[simp] theorem State.gaugeFull_outside (s : State) (i : FullStepIn) (fm : Nat) (hfm : 2149154835 &&& fm = 2149154835) :
    (State.gaugeFull s i).outside fm = s.outside fm := by
  refine outside_mono hfm ?_
  unfold State.gaugeFull
  (try simp) <;> (repeat' split) <;> simp_all

theorem execGaugeFullStep_outside (i : FullStepIn) (s : State) (fm : Nat) (hfm : 2149154835 &&& fm = 2149154835) :
    s.framedBy fm (execGaugeFullStep i s) := by
  refine State.framedBy_mono hfm ?_
  unfold execGaugeFullStep
  (try simp) <;> (repeat' split) <;> simp_all

theorem execImpedanceStepQualify_outside (s : State) (fm : Nat) (hfm : 2147549185 &&& fm = 2147549185) :
    s.framedBy fm (execImpedanceStepQualify s) := by
  refine State.framedBy_mono hfm ?_
  unfold execImpedanceStepQualify
  (try simp) <;> (repeat' split) <;> simp_all

@[simp] theorem State.authEnds_outside (s : State) (pass : Bool) (fm : Nat) (hfm : 2149122067 &&& fm = 2149122067) :
    (State.authEnds s pass).outside fm = s.outside fm := by
  refine outside_mono hfm ?_
  unfold State.authEnds
  (try simp) <;> (repeat' split) <;> simp_all

theorem execPackAuthStart_outside (s : State) (fm : Nat) (hfm : 2149154835 &&& fm = 2149154835) :
    s.framedBy fm (execPackAuthStart s) := by
  refine State.framedBy_mono hfm ?_
  unfold execPackAuthStart
  (try simp) <;> (repeat' split) <;> simp_all

theorem execPackAuthResponse_outside (resp : AuthResp) (s : State) (fm : Nat) (hfm : 2149154835 &&& fm = 2149154835) :
    s.framedBy fm (execPackAuthResponse resp s) := by
  refine State.framedBy_mono hfm ?_
  unfold execPackAuthResponse
  (try simp) <;> (repeat' split) <;> simp_all

theorem execChgSelfGrant_outside (s : State) (fm : Nat) (hfm : 2147549185 &&& fm = 2147549185) :
    s.framedBy fm (execChgSelfGrant s) := by
  refine State.framedBy_mono hfm ?_
  unfold execChgSelfGrant
  (try simp) <;> (repeat' split) <;> simp_all

@[simp] theorem State.learnFallsDue_outside (s : State) (fm : Nat) (hfm : 2148597761 &&& fm = 2148597761) :
    (State.learnFallsDue s).outside fm = s.outside fm := by
  refine outside_mono hfm ?_
  unfold State.learnFallsDue
  (try simp) <;> (repeat' split) <;> simp_all

theorem execLearnDue_outside (s : State) (fm : Nat) (hfm : 2148597761 &&& fm = 2148597761) :
    s.framedBy fm (execLearnDue s) := by
  refine State.framedBy_mono hfm ?_
  unfold execLearnDue
  (try simp) <;> (repeat' split) <;> simp_all

theorem execLearnNotStarted_outside (s : State) (fm : Nat) (hfm : 2149122067 &&& fm = 2149122067) :
    s.framedBy fm (execLearnNotStarted s) := by
  refine State.framedBy_mono hfm ?_
  unfold execLearnNotStarted
  (try simp) <;> (repeat' split) <;> simp_all

theorem execConvSat_outside (s : State) (fm : Nat) (hfm : 2147483665 &&& fm = 2147483665) :
    s.framedBy fm (execConvSat s) := by
  refine State.framedBy_mono hfm ?_
  unfold execConvSat
  (try simp) <;> (repeat' split) <;> simp_all

end Sys2Proof.Machine
end

