-- ==== Sys2Proof/Laws/FrameRails.lean ====
section
/-!
SUPPORT. Sys2Proof/Laws/FrameRails.lean: what each operation of Machine/Rails.lean may change.
-/

set_option Elab.async false
namespace Sys2Proof.Machine

@[simp] theorem State.railEnds_outside (s : State) (k st : Nat) (fm : Nat) (hfm : 131073 &&& fm = 131073) :
    (State.railEnds s k st).outside fm = s.outside fm := by
  refine outside_mono hfm ?_
  unfold State.railEnds
  (try simp) <;> (repeat' split) <;> simp_all

@[simp] theorem State.declareRail_outside (s : State) (k kind : Nat) (fm : Nat) (hfm : 262145 &&& fm = 262145) :
    (State.declareRail s k kind).outside fm = s.outside fm := by
  refine outside_mono hfm ?_
  unfold State.declareRail
  (try simp) <;> (repeat' split) <;> simp_all

@[simp] theorem State.judgeIncident_outside (s : State) (fm : Nat) (hfm : 1 &&& fm = 1) :
    (State.judgeIncident s).outside fm = s.outside fm := by
  refine outside_mono hfm ?_
  unfold State.judgeIncident
  (try simp) <;> (repeat' split) <;> simp_all

theorem execFirstFailureRecord_outside (s : State) (fm : Nat) (hfm : 2147745793 &&& fm = 2147745793) :
    s.framedBy fm (execFirstFailureRecord s) := by
  refine State.framedBy_mono hfm ?_
  unfold execFirstFailureRecord
  (try simp) <;> (repeat' split) <;> simp_all

@[simp] theorem State.skimLost_outside (s : State) (q : Nat) (fm : Nat) (hfm : 2560 &&& fm = 2560) :
    (State.skimLost s q).outside fm = s.outside fm := by
  refine outside_mono hfm ?_
  unfold State.skimLost
  (try simp) <;> (repeat' split) <;> simp_all

@[simp] theorem State.channelLost_outside (s : State) (n : Nat) (fm : Nat) (hfm : 2147501061 &&& fm = 2147501061) :
    (State.channelLost s n).outside fm = s.outside fm := by
  refine outside_mono hfm ?_
  unfold State.channelLost
  (try simp) <;> (repeat' split) <;> simp_all

@[simp] theorem State.headLost_outside (s : State) (q h : Nat) (fm : Nat) (hfm : 2147504129 &&& fm = 2147504129) :
    (State.headLost s q h).outside fm = s.outside fm := by
  refine outside_mono hfm ?_
  unfold State.headLost
  (try simp) <;> (repeat' split) <;> simp_all

@[simp] theorem State.quadrantLost_outside (s : State) (q : Nat) (fm : Nat) (hfm : 2149637973 &&& fm = 2149637973) :
    (State.quadrantLost s q).outside fm = s.outside fm := by
  refine outside_mono hfm ?_
  unfold State.quadrantLost
  split
  · rfl
  · dsimp only
    refine (State.flashGo_outside _ _ _ (by decide)).trans ((State.event_outside _ _ _ _ _ (by decide)).trans
      ((State.judgeGpf_outside _ _ (by decide)).trans ((State.judgePlaces_outside _ _ (by decide)).trans ?_)))
    refine (State.each_outside _ _ _ _ fun _ _ => State.modPatch_outside _ _ _ _ (by decide)).trans ?_
    refine (State.each_outside _ _ _ _ fun _ _ => State.headLost_outside _ _ _ _ (by decide)).trans ?_
    refine (State.each_outside _ _ _ _ fun _ _ => State.channelLost_outside _ _ _ (by decide)).trans ?_
    refine (State.each_outside _ _ _ _ fun _ _ => State.modDie_outside _ _ _ _ (by decide)).trans ?_
    refine (State.modQuad_outside _ _ _ _ (by decide)).trans ?_
    split
    · exact State.each_outside _ _ _ _ fun _ _ => State.answerPoison_outside _ _ _ (by decide)
    · exact (State.skimLost_outside _ _ _ (by decide)).trans
        (State.each_outside _ _ _ _ fun _ _ => State.answerPoison_outside _ _ _ (by decide))

@[simp] theorem State.domainLost_outside (s : State) (k : Nat) (fm : Nat) (hfm : 2284773333 &&& fm = 2284773333) :
    (State.domainLost s k).outside fm = s.outside fm := by
  refine outside_mono hfm ?_
  unfold State.domainLost
  (try simp) <;> (repeat' split) <;> simp_all

@[simp] theorem State.judgeBlocked_outside (s : State) (fm : Nat) (hfm : 262161 &&& fm = 262161) :
    (State.judgeBlocked s).outside fm = s.outside fm := by
  refine outside_mono hfm ?_
  unfold State.judgeBlocked
  (try simp) <;> (repeat' split) <;> simp_all

@[simp] theorem State.railsJudged_outside (s : State) (fm : Nat) (hfm : 786449 &&& fm = 786449) :
    (State.railsJudged s).outside fm = s.outside fm := by
  refine outside_mono hfm ?_
  unfold State.railsJudged
  (try simp) <;> (repeat' split) <;> simp_all

@[simp] theorem State.releaseRail_outside (s : State) (k : Nat) (fm : Nat) (hfm : 2284773333 &&& fm = 2284773333) :
    (State.releaseRail s k).outside fm = s.outside fm := by
  refine outside_mono hfm ?_
  unfold State.releaseRail
  (try simp) <;> (repeat' split) <;> simp_all

@[simp] theorem State.holdOff_outside (s : State) (k : Nat) (fm : Nat) (hfm : 131089 &&& fm = 131089) :
    (State.holdOff s k).outside fm = s.outside fm := by
  refine outside_mono hfm ?_
  unfold State.holdOff
  (try simp) <;> (repeat' split) <;> simp_all

@[simp] theorem State.railReacts_outside (s : State) (k : Nat) (fm : Nat) (hfm : 131089 &&& fm = 131089) :
    (State.railReacts s k).outside fm = s.outside fm := by
  refine outside_mono hfm ?_
  unfold State.railReacts
  (try simp) <;> (repeat' split) <;> simp_all

@[simp] theorem State.enableRail_outside (s : State) (k delay : Nat) (fm : Nat) (hfm : 131073 &&& fm = 131073) :
    (State.enableRail s k delay).outside fm = s.outside fm := by
  refine outside_mono hfm ?_
  unfold State.enableRail
  (try simp) <;> (repeat' split) <;> simp_all

@[simp] theorem State.startStage_outside (s : State) (ix : Nat) (r : RailRun) (fm : Nat) (hfm : 917521 &&& fm = 917521) :
    (State.startStage s ix r).outside fm = s.outside fm := by
  refine outside_mono hfm ?_
  unfold State.startStage
  (try simp) <;> (repeat' split) <;> simp_all

@[simp] theorem State.pruneRuns_outside (s : State) (fm : Nat) (hfm : 262144 &&& fm = 262144) :
    (State.pruneRuns s).outside fm = s.outside fm := by
  refine outside_mono hfm ?_
  unfold State.pruneRuns
  (try simp) <;> (repeat' split) <;> simp_all

theorem execRailStageStart_outside (s : State) (fm : Nat) (hfm : 2148401169 &&& fm = 2148401169) :
    s.framedBy fm (execRailStageStart s) := by
  refine State.framedBy_mono hfm ?_
  unfold execRailStageStart
  (try simp) <;> (repeat' split) <;> simp_all

@[simp] theorem State.startMainRails_outside (s : State) (fm : Nat) (hfm : 917521 &&& fm = 917521) :
    (State.startMainRails s).outside fm = s.outside fm := by
  refine outside_mono hfm ?_
  unfold State.startMainRails
  (try simp) <;> (repeat' split) <;> simp_all

theorem execMainRailPowerUp_outside (s : State) (fm : Nat) (hfm : 2148401169 &&& fm = 2148401169) :
    s.framedBy fm (execMainRailPowerUp s) := by
  refine State.framedBy_mono hfm ?_
  unfold execMainRailPowerUp
  (try simp) <;> (repeat' split) <;> simp_all

@[simp] theorem State.railGood_outside (s : State) (k : Nat) (fm : Nat) (hfm : 917521 &&& fm = 917521) :
    (State.railGood s k).outside fm = s.outside fm := by
  refine outside_mono hfm ?_
  unfold State.railGood
  (try simp) <;> (repeat' split) <;> simp_all

theorem execRailGood_outside (k : RailIx) (s : State) (fm : Nat) (hfm : 2148401169 &&& fm = 2148401169) :
    s.framedBy fm (execRailGood k s) := by
  refine State.framedBy_mono hfm ?_
  unfold execRailGood
  (try simp) <;> (repeat' split) <;> simp_all

theorem execRailUpFail_outside (k : RailIx) (s : State) (fm : Nat) (hfm : 2284773333 &&& fm = 2284773333) :
    s.framedBy fm (execRailUpFail k s) := by
  refine State.framedBy_mono hfm ?_
  unfold execRailUpFail
  (try simp) <;> (repeat' split) <;> simp_all

theorem execRailRetry_outside (k : RailIx) (s : State) (fm : Nat) (hfm : 2148401169 &&& fm = 2148401169) :
    s.framedBy fm (execRailRetry k s) := by
  refine State.framedBy_mono hfm ?_
  unfold execRailRetry
  (try simp) <;> (repeat' split) <;> simp_all

@[simp] theorem State.railsUp_outside (s : State) (fm : Nat) (hfm : 856081 &&& fm = 856081) :
    (State.railsUp s).outside fm = s.outside fm := by
  refine outside_mono hfm ?_
  unfold State.railsUp
  (try simp) <;> (repeat' split) <;> simp_all

theorem execRailsUp_outside (s : State) (fm : Nat) (hfm : 2148339729 &&& fm = 2148339729) :
    s.framedBy fm (execRailsUp s) := by
  refine State.framedBy_mono hfm ?_
  unfold execRailsUp
  (try simp) <;> (repeat' split) <;> simp_all

@[simp] theorem State.systemReset_outside (s : State) (k : Nat) (fm : Nat) (hfm : 3015937 &&& fm = 3015937) :
    (State.systemReset s k).outside fm = s.outside fm := by
  refine outside_mono hfm ?_
  unfold State.systemReset
  (try simp) <;> (repeat' split) <;> simp_all

@[simp] theorem State.faultGood_outside (s : State) (k kind : Nat) (fm : Nat) (hfm : 2284773333 &&& fm = 2284773333) :
    (State.faultGood s k kind).outside fm = s.outside fm := by
  refine outside_mono hfm ?_
  unfold State.faultGood
  (try simp) <;> (repeat' split) <;> simp_all

@[simp] theorem State.faultDown_outside (s : State) (k kind : Nat) (fm : Nat) (hfm : 393233 &&& fm = 393233) :
    (State.faultDown s k kind).outside fm = s.outside fm := by
  refine outside_mono hfm ?_
  unfold State.faultDown
  (try simp) <;> (repeat' split) <;> simp_all

theorem execRailFault_outside (k : RailIx) (kind : RailFaultKind) (s : State) (fm : Nat) (hfm : 2284773333 &&& fm = 2284773333) :
    s.framedBy fm (execRailFault k kind s) := by
  refine State.framedBy_mono hfm ?_
  unfold execRailFault
  (try simp) <;> (repeat' split) <;> simp_all

theorem execPowerDownStart_outside (s : State) (fm : Nat) (hfm : 2148402433 &&& fm = 2148402433) :
    s.framedBy fm (execPowerDownStart s) := by
  refine State.framedBy_mono hfm ?_
  unfold execPowerDownStart
  (try simp) <;> (repeat' split) <;> simp_all

end Sys2Proof.Machine
end

