-- ==== Sys2Proof/Laws/FrameGroup.lean ====
section
/-!
SUPPORT. Sys2Proof/Laws/FrameGroup.lean: what each operation of Machine/Group.lean may change.
-/

set_option Elab.async false
namespace Sys2Proof.Machine

@[simp] theorem State.goStandalone_outside (s : State) (fm : Nat) (hfm : 917521 &&& fm = 917521) :
    (State.goStandalone s).outside fm = s.outside fm := by
  refine outside_mono hfm ?_
  unfold State.goStandalone
  (try simp) <;> (repeat' split) <;> simp_all

@[simp] theorem State.trainReceived_outside (s : State) (k : Nat) (fm : Nat) (hfm : 2149449745 &&& fm = 2149449745) :
    (State.trainReceived s k).outside fm = s.outside fm := by
  refine outside_mono hfm ?_
  unfold State.trainReceived
  (try simp) <;> (repeat' split) <;> simp_all

theorem execCascadeTrainReceived_outside (pulses : Nat) (s : State) (fm : Nat) (hfm : 2149449745 &&& fm = 2149449745) :
    s.framedBy fm (execCascadeTrainReceived pulses s) := by
  refine State.framedBy_mono hfm ?_
  unfold execCascadeTrainReceived
  (try simp) <;> (repeat' split) <;> simp_all

theorem execCascadeMasterTrain_outside (s : State) (fm : Nat) (hfm : 2148532224 &&& fm = 2148532224) :
    s.framedBy fm (execCascadeMasterTrain s) := by
  refine State.framedBy_mono hfm ?_
  unfold execCascadeMasterTrain
  (try simp) <;> (repeat' split) <;> simp_all

theorem execCascadeTimeout_outside (s : State) (fm : Nat) (hfm : 2148401169 &&& fm = 2148401169) :
    s.framedBy fm (execCascadeTimeout s) := by
  refine State.framedBy_mono hfm ?_
  unfold execCascadeTimeout
  (try simp) <;> (repeat' split) <;> simp_all

theorem execStatusPoll_outside (pos : PosIx) (answer : Option Nat) (s : State) (fm : Nat) (hfm : 2148532225 &&& fm = 2148532225) :
    s.framedBy fm (execStatusPoll pos answer s) := by
  refine State.framedBy_mono hfm ?_
  unfold execStatusPoll
  (try simp) <;> (repeat' split) <;> simp_all

theorem execDiscoveryEnd_outside (s : State) (fm : Nat) (hfm : 2149449745 &&& fm = 2149449745) :
    s.framedBy fm (execDiscoveryEnd s) := by
  refine State.framedBy_mono hfm ?_
  unfold execDiscoveryEnd
  repeat' first
    | (simp; done)
    | (rw [← snd_outside ‹_ = (_, _)›]; simp; done)
    | (rw [← thd_outside ‹_ = (_, _, _)›]; simp; done)
    | split
    | refine (State.each_outside _ _ _ _ ?_).trans ?_
    | refine (foldl_outside _ _ ?_ _ _).trans ?_
    | refine (State.when_outside _ _ _ _ ?_).trans ?_
    | refine occurs_outside _ _ _ _ (by decide) ?_
    | (intro _; skip)
    | simp

theorem execPowerUp_outside (staggerMs : Nat) (s : State) (fm : Nat) (hfm : 2148532224 &&& fm = 2148532224) :
    s.framedBy fm (execPowerUp staggerMs s) := by
  refine State.framedBy_mono hfm ?_
  unfold execPowerUp
  (try simp) <;> (repeat' split) <;> simp_all

theorem execGroupPowerUpStart_outside (s : State) (fm : Nat) (hfm : 2148401169 &&& fm = 2148401169) :
    s.framedBy fm (execGroupPowerUpStart s) := by
  refine State.framedBy_mono hfm ?_
  unfold execGroupPowerUpStart
  (try simp) <;> (repeat' split) <;> simp_all

theorem execGrpFaultAssert_outside (s : State) (fm : Nat) (hfm : 2150367249 &&& fm = 2150367249) :
    s.framedBy fm (execGrpFaultAssert s) := by
  refine State.framedBy_mono hfm ?_
  unfold execGrpFaultAssert
  (try simp) <;> (repeat' split) <;> simp_all

@[simp] theorem State.judgeDrift_outside (s : State) (p : Nat) (fm : Nat) (hfm : 1048593 &&& fm = 1048593) :
    (State.judgeDrift s p).outside fm = s.outside fm := by
  refine outside_mono hfm ?_
  unfold State.judgeDrift
  (try simp) <;> (repeat' split) <;> simp_all

@[simp] theorem State.closePeriod_outside (s : State) (p : Nat) (fm : Nat) (hfm : 2148597777 &&& fm = 2148597777) :
    (State.closePeriod s p).outside fm = s.outside fm := by
  refine outside_mono hfm ?_
  unfold State.closePeriod
  (try simp) <;> (repeat' split) <;> simp_all

@[simp] theorem State.sendSync_outside (s : State) (fm : Nat) (hfm : 2148597777 &&& fm = 2148597777) :
    (State.sendSync s).outside fm = s.outside fm := by
  refine outside_mono hfm ?_
  unfold State.sendSync
  (try simp) <;> (repeat' split) <;> simp_all

@[simp] theorem State.hearSync_outside (s : State) (period : Nat) (fm : Nat) (hfm : 1114113 &&& fm = 1114113) :
    (State.hearSync s period).outside fm = s.outside fm := by
  refine outside_mono hfm ?_
  unfold State.hearSync
  (try simp) <;> (repeat' split) <;> simp_all

theorem execSync_outside (period : Nat) (_size : Nat) (s : State) (fm : Nat) (hfm : 2148597777 &&& fm = 2148597777) :
    s.framedBy fm (execSync period _size s) := by
  refine State.framedBy_mono hfm ?_
  unfold execSync
  (try simp) <;> (repeat' split) <;> simp_all

theorem execFpReport_outside (pos : PosIx) (epoch : Nat) (fp : Nat) (s : State) (fm : Nat) (hfm : 2148532241 &&& fm = 2148532241) :
    s.framedBy fm (execFpReport pos epoch fp s) := by
  refine State.framedBy_mono hfm ?_
  unfold execFpReport
  (try simp) <;> (repeat' split) <;> simp_all

theorem execMasterLost_outside (s : State) (fm : Nat) (hfm : 2147549185 &&& fm = 2147549185) :
    s.framedBy fm (execMasterLost s) := by
  refine State.framedBy_mono hfm ?_
  unfold execMasterLost
  (try simp) <;> (repeat' split) <;> simp_all

theorem execChgReq_outside (pos : PosIx) (s : State) (fm : Nat) (hfm : 2148597761 &&& fm = 2148597761) :
    s.framedBy fm (execChgReq pos s) := by
  refine State.framedBy_mono hfm ?_
  unfold execChgReq
  (try simp) <;> (repeat' split) <;> simp_all

theorem execChgGrant_outside (s : State) (fm : Nat) (hfm : 2147549185 &&& fm = 2147549185) :
    s.framedBy fm (execChgGrant s) := by
  refine State.framedBy_mono hfm ?_
  unfold execChgGrant
  (try simp) <;> (repeat' split) <;> simp_all

theorem execChgEnd_outside (pos : PosIx) (s : State) (fm : Nat) (hfm : 2148597761 &&& fm = 2148597761) :
    s.framedBy fm (execChgEnd pos s) := by
  refine State.framedBy_mono hfm ?_
  unfold execChgEnd
  (try simp) <;> (repeat' split) <;> simp_all

theorem execLearnReq_outside (pos : PosIx) (s : State) (fm : Nat) (hfm : 2148597761 &&& fm = 2148597761) :
    s.framedBy fm (execLearnReq pos s) := by
  refine State.framedBy_mono hfm ?_
  unfold execLearnReq
  (try simp) <;> (repeat' split) <;> simp_all

theorem execLearnGrant_outside (s : State) (fm : Nat) (hfm : 2147549185 &&& fm = 2147549185) :
    s.framedBy fm (execLearnGrant s) := by
  refine State.framedBy_mono hfm ?_
  unfold execLearnGrant
  (try simp) <;> (repeat' split) <;> simp_all

theorem execLearnEndMsg_outside (pos : PosIx) (s : State) (fm : Nat) (hfm : 2148597761 &&& fm = 2148597761) :
    s.framedBy fm (execLearnEndMsg pos s) := by
  refine State.framedBy_mono hfm ?_
  unfold execLearnEndMsg
  (try simp) <;> (repeat' split) <;> simp_all

theorem execSaveNote_outside (_pos : PosIx) (cause : Nat) (s : State) (fm : Nat) (hfm : 2147483648 &&& fm = 2147483648) :
    s.framedBy fm (execSaveNote _pos cause s) := by
  refine State.framedBy_mono hfm ?_
  unfold execSaveNote
  (try simp) <;> (repeat' split) <;> simp_all

theorem execGroupSave_outside (powerDown : Bool) (s : State) (fm : Nat) (hfm : 2149842961 &&& fm = 2149842961) :
    s.framedBy fm (execGroupSave powerDown s) := by
  refine State.framedBy_mono hfm ?_
  unfold execGroupSave
  (try simp) <;> (repeat' split) <;> simp_all

end Sys2Proof.Machine
end

