-- ==== Sys2Proof/Laws/FrameOnoff.lean ====
section
/-!
SUPPORT. Sys2Proof/Laws/FrameOnoff.lean: what each operation of Machine/Onoff.lean may change.
-/

set_option Elab.async false
namespace Sys2Proof.Machine

@[simp] theorem State.mainReset_outside (s : State) (fm : Nat) (hfm : 3187670911 &&& fm = 3187670911) :
    (State.mainReset s).outside fm = s.outside fm := by
  refine outside_mono hfm ?_
  rfl

@[simp] theorem State.aonLost_outside (s : State) (powered : Bool) (fm : Nat) (hfm : 3187670911 &&& fm = 3187670911) :
    (State.aonLost s powered).outside fm = s.outside fm := by
  refine outside_mono hfm ?_
  unfold State.aonLost
  (try simp) <;> (repeat' split) <;> simp_all

@[simp] theorem State.aonTick_outside (s : State) (fm : Nat) (hfm : 2 &&& fm = 2) :
    (State.aonTick s).outside fm = s.outside fm := by
  refine outside_mono hfm ?_
  unfold State.aonTick
  (try simp) <;> (repeat' split) <;> simp_all

theorem execAonTick_outside (s : State) (fm : Nat) (hfm : 2147483650 &&& fm = 2147483650) :
    s.framedBy fm (execAonTick s) := by
  refine State.framedBy_mono hfm ?_
  unfold execAonTick
  (try simp) <;> (repeat' split) <;> simp_all

theorem execMainClockStart_outside (s : State) (fm : Nat) (hfm : 2147483650 &&& fm = 2147483650) :
    s.framedBy fm (execMainClockStart s) := by
  refine State.framedBy_mono hfm ?_
  unfold execMainClockStart
  repeat' first
    | (simp; done)
    | (rw [← snd_outside ‹_ = (_, _)›]; simp; done)
    | (rw [← thd_outside ‹_ = (_, _, _)›]; simp; done)
    | split
    | refine (State.each_outside _ _ _ _ ?_).trans ?_
    | refine (foldl_outside _ _ ?_ _ _).trans ?_
    | refine (State.when_outside _ _ _ _ ?_).trans ?_
    | refine occurs_outside _ _ _ _ (by decide) ?_
    | (intro _; skip)
    | simp

theorem execAonPowerApply_outside (straps : Nat) (s : State) (fm : Nat) (hfm : 3187670911 &&& fm = 3187670911) :
    s.framedBy fm (execAonPowerApply straps s) := by
  refine State.framedBy_mono hfm ?_
  unfold execAonPowerApply
  (try simp) <;> (repeat' split) <;> simp_all

theorem execAonReset_outside (s : State) (fm : Nat) (hfm : 3187670911 &&& fm = 3187670911) :
    s.framedBy fm (execAonReset s) := by
  refine State.framedBy_mono hfm ?_
  unfold execAonReset
  (try simp) <;> (repeat' split) <;> simp_all

theorem execPowerUpStart_outside (s : State) (fm : Nat) (hfm : 2147876864 &&& fm = 2147876864) :
    s.framedBy fm (execPowerUpStart s) := by
  refine State.framedBy_mono hfm ?_
  unfold execPowerUpStart
  repeat' first
    | (simp; done)
    | (rw [← snd_outside ‹_ = (_, _)›]; simp; done)
    | (rw [← thd_outside ‹_ = (_, _, _)›]; simp; done)
    | split
    | refine (State.each_outside _ _ _ _ ?_).trans ?_
    | refine (foldl_outside _ _ ?_ _ _).trans ?_
    | refine (State.when_outside _ _ _ _ ?_).trans ?_
    | refine occurs_outside _ _ _ _ (by decide) ?_
    | (intro _; skip)
    | simp

theorem execPorstNAssert_outside (s : State) (fm : Nat) (hfm : 3187670911 &&& fm = 3187670911) :
    s.framedBy fm (execPorstNAssert s) := by
  refine State.framedBy_mono hfm ?_
  unfold execPorstNAssert
  (try simp) <;> (repeat' split) <;> simp_all

@[simp] theorem State.powerOff_outside (s : State) (fm : Nat) (hfm : 3187670911 &&& fm = 3187670911) :
    (State.powerOff s).outside fm = s.outside fm := by
  refine outside_mono hfm ?_
  unfold State.powerOff
  (try simp) <;> (repeat' split) <;> simp_all

theorem execPowerDownStage_outside (slow : List Nat) (s : State) (fm : Nat) (hfm : 3187670911 &&& fm = 3187670911) :
    s.framedBy fm (execPowerDownStage slow s) := by
  refine State.framedBy_mono hfm ?_
  unfold execPowerDownStage
  repeat' first
    | (simp; done)
    | (rw [← snd_outside ‹_ = (_, _)›]; simp; done)
    | (rw [← thd_outside ‹_ = (_, _, _)›]; simp; done)
    | split
    | refine (State.each_outside _ _ _ _ ?_).trans ?_
    | refine (foldl_outside _ _ ?_ _ _).trans ?_
    | refine (State.when_outside _ _ _ _ ?_).trans ?_
    | refine occurs_outside _ _ _ _ (by decide) ?_
    | (intro _; skip)
    | simp

@[simp] theorem State.latchOff_outside (s : State) (ship : Bool) (fm : Nat) (hfm : 262145 &&& fm = 262145) :
    (State.latchOff s ship).outside fm = s.outside fm := by
  refine outside_mono hfm ?_
  unfold State.latchOff
  (try simp) <;> (repeat' split) <;> simp_all

@[simp] theorem State.offRequested_outside (s : State) (ship : Bool) (fm : Nat) (hfm : 2285831443 &&& fm = 2285831443) :
    (State.offRequested s ship).outside fm = s.outside fm := by
  refine outside_mono hfm ?_
  unfold State.offRequested
  (try simp) <;> (repeat' split) <;> simp_all

theorem execOffRequest_outside (path : PathIx) (s : State) (fm : Nat) (hfm : 2285831451 &&& fm = 2285831451) :
    s.framedBy fm (execOffRequest path s) := by
  refine State.framedBy_mono hfm ?_
  unfold execOffRequest
  repeat' first
    | (simp; done)
    | (rw [← snd_outside ‹_ = (_, _)›]; simp; done)
    | (rw [← thd_outside ‹_ = (_, _, _)›]; simp; done)
    | split
    | refine (State.each_outside _ _ _ _ ?_).trans ?_
    | refine (foldl_outside _ _ ?_ _ _).trans ?_
    | refine (State.when_outside _ _ _ _ ?_).trans ?_
    | refine occurs_outside _ _ _ _ (by decide) ?_
    | (intro _; skip)
    | simp

theorem execShipOffRequest_outside (path : PathIx) (s : State) (fm : Nat) (hfm : 2285831451 &&& fm = 2285831451) :
    s.framedBy fm (execShipOffRequest path s) := by
  refine State.framedBy_mono hfm ?_
  unfold execShipOffRequest
  repeat' first
    | (simp; done)
    | (rw [← snd_outside ‹_ = (_, _)›]; simp; done)
    | (rw [← thd_outside ‹_ = (_, _, _)›]; simp; done)
    | split
    | refine (State.each_outside _ _ _ _ ?_).trans ?_
    | refine (foldl_outside _ _ ?_ _ _).trans ?_
    | refine (State.when_outside _ _ _ _ ?_).trans ?_
    | refine occurs_outside _ _ _ _ (by decide) ?_
    | (intro _; skip)
    | simp

theorem execOffAck_outside (path : PathIx) (s : State) (fm : Nat) (hfm : 2284060697 &&& fm = 2284060697) :
    s.framedBy fm (execOffAck path s) := by
  refine State.framedBy_mono hfm ?_
  unfold execOffAck
  repeat' first
    | (simp; done)
    | (rw [← snd_outside ‹_ = (_, _)›]; simp; done)
    | (rw [← thd_outside ‹_ = (_, _, _)›]; simp; done)
    | split
    | refine (State.each_outside _ _ _ _ ?_).trans ?_
    | refine (foldl_outside _ _ ?_ _ _).trans ?_
    | refine (State.when_outside _ _ _ _ ?_).trans ?_
    | refine occurs_outside _ _ _ _ (by decide) ?_
    | (intro _; skip)
    | simp

theorem execOffHandshakeTimeout_outside (s : State) (fm : Nat) (hfm : 2284060689 &&& fm = 2284060689) :
    s.framedBy fm (execOffHandshakeTimeout s) := by
  refine State.framedBy_mono hfm ?_
  unfold execOffHandshakeTimeout
  (try simp) <;> (repeat' split) <;> simp_all

theorem execPwrbtnPress_outside (s : State) (fm : Nat) (hfm : 2148270080 &&& fm = 2148270080) :
    s.framedBy fm (execPwrbtnPress s) := by
  refine State.framedBy_mono hfm ?_
  unfold execPwrbtnPress
  (try simp) <;> (repeat' split) <;> simp_all

@[simp] theorem State.latchOn_outside (s : State) (b : Bool) (fm : Nat) (hfm : 262145 &&& fm = 262145) :
    (State.latchOn s b).outside fm = s.outside fm := by
  refine outside_mono hfm ?_
  unfold State.latchOn
  (try simp) <;> (repeat' split) <;> simp_all

@[simp] theorem State.toggle_outside (s : State) (fm : Nat) (hfm : 2285831443 &&& fm = 2285831443) :
    (State.toggle s).outside fm = s.outside fm := by
  refine outside_mono hfm ?_
  unfold State.toggle
  (try simp) <;> (repeat' split) <;> simp_all

@[simp] theorem State.forcedOff_outside (s : State) (fm : Nat) (hfm : 137233681 &&& fm = 137233681) :
    (State.forcedOff s).outside fm = s.outside fm := by
  refine outside_mono hfm ?_
  unfold State.forcedOff
  (try simp) <;> (repeat' split) <;> simp_all

theorem execForcedOff_outside (s : State) (fm : Nat) (hfm : 2284717329 &&& fm = 2284717329) :
    s.framedBy fm (execForcedOff s) := by
  refine State.framedBy_mono hfm ?_
  unfold execForcedOff
  (try simp) <;> (repeat' split) <;> simp_all

@[simp] theorem State.buttonReleased_outside (s : State) (t : Nat) (fm : Nat) (hfm : 2285831443 &&& fm = 2285831443) :
    (State.buttonReleased s t).outside fm = s.outside fm := by
  refine outside_mono hfm ?_
  unfold State.buttonReleased
  (try simp) <;> (repeat' split) <;> simp_all

theorem execPwrbtnRelease_outside (s : State) (fm : Nat) (hfm : 2285831443 &&& fm = 2285831443) :
    s.framedBy fm (execPwrbtnRelease s) := by
  refine State.framedBy_mono hfm ?_
  unfold execPwrbtnRelease
  (try simp) <;> (repeat' split) <;> simp_all

end Sys2Proof.Machine
end

