-- ==== Sys2Proof/Laws/FrameBoot.lean ====
section
/-!
SUPPORT. Sys2Proof/Laws/FrameBoot.lean: what each operation of Machine/Boot.lean may change.
-/

set_option Elab.async false
namespace Sys2Proof.Machine

@[simp] theorem State.modFw_outside (s : State) (k : Nat) (f : FwSlot → FwSlot) (fm : Nat) (hfm : 67108864 &&& fm = 67108864) :
    (State.modFw s k f).outside fm = s.outside fm := by
  refine outside_mono hfm ?_
  unfold State.modFw
  (try simp) <;> (repeat' split) <;> simp_all

@[simp] theorem State.runFw_outside (s : State) (k : Nat) (fm : Nat) (hfm : 1 &&& fm = 1) :
    (State.runFw s k).outside fm = s.outside fm := by
  refine outside_mono hfm ?_
  unfold State.runFw
  (try simp) <;> (repeat' split) <;> simp_all

@[simp] theorem State.fillFactory_outside (s : State) (slot use : Nat) (k : Key) (fm : Nat) (hfm : 32768 &&& fm = 32768) :
    (State.fillFactory s slot use k).outside fm = s.outside fm := by
  refine outside_mono hfm ?_
  unfold State.fillFactory
  (try simp) <;> (repeat' split) <;> simp_all

@[simp] theorem State.unwrapKeys_outside (s : State) (fw : Option Nat) (fm : Nat) (hfm : 32768 &&& fm = 32768) :
    (State.unwrapKeys s fw).outside fm = s.outside fm := by
  refine outside_mono hfm ?_
  unfold State.unwrapKeys
  (try simp) <;> (repeat' split) <;> simp_all

@[simp] theorem State.loadEntry_outside (s : State) (e : KeyEntry) (fm : Nat) (hfm : 1073774592 &&& fm = 1073774592) :
    (State.loadEntry s e).outside fm = s.outside fm := by
  refine outside_mono hfm ?_
  unfold State.loadEntry
  (try simp) <;> (repeat' split) <;> simp_all

@[simp] theorem State.drawRoot_outside (s : State) (fm : Nat) (hfm : 32768 &&& fm = 32768) :
    (State.drawRoot s).outside fm = s.outside fm := by
  refine outside_mono hfm ?_
  unfold State.drawRoot
  (try simp) <;> (repeat' split) <;> simp_all

@[simp] theorem State.loadKeyRecord_outside (s : State) (fm : Nat) (hfm : 1073774609 &&& fm = 1073774609) :
    (State.loadKeyRecord s).outside fm = s.outside fm := by
  refine outside_mono hfm ?_
  unfold State.loadKeyRecord
  (try simp) <;> (repeat' split) <;> simp_all

@[simp] theorem State.drawTenants_outside (s : State) (fm : Nat) (hfm : 32769 &&& fm = 32769) :
    (State.drawTenants s).outside fm = s.outside fm := by
  refine outside_mono hfm ?_
  unfold State.drawTenants
  (try simp) <;> (repeat' split) <;> simp_all

@[simp] theorem State.drbgStart_outside (s : State) (ok : Bool) (fm : Nat) (hfm : 32785 &&& fm = 32785) :
    (State.drbgStart s ok).outside fm = s.outside fm := by
  refine outside_mono hfm ?_
  unfold State.drbgStart
  (try simp) <;> (repeat' split) <;> simp_all

@[simp] theorem State.program_outside (s : State) (n : NorIn) (fm : Nat) (hfm : 67108864 &&& fm = 67108864) :
    (State.program s n).outside fm = s.outside fm := by
  refine outside_mono hfm ?_
  unfold State.program
  (try simp) <;> (repeat' split) <;> simp_all

@[simp] theorem State.sparesReady_outside (s : State) (fm : Nat) (hfm : 1 &&& fm = 1) :
    (State.sparesReady s).outside fm = s.outside fm := by
  refine outside_mono hfm ?_
  unfold State.sparesReady
  (try simp) <;> (repeat' split) <;> simp_all

@[simp] theorem State.releaseCores_outside (s : State) (k : Nat) (fm : Nat) (hfm : 67108897 &&& fm = 67108897) :
    (State.releaseCores s k).outside fm = s.outside fm := by
  refine outside_mono hfm ?_
  unfold State.releaseCores
  (try simp) <;> (repeat' split) <;> simp_all

@[simp] theorem State.coldBoot_outside (s : State) (recoveryLow rngOk : Bool) (fm : Nat) (hfm : 3288629297 &&& fm = 3288629297) :
    (State.coldBoot s recoveryLow rngOk).outside fm = s.outside fm := by
  refine outside_mono hfm ?_
  unfold State.coldBoot
  (try simp) <;> (repeat' split) <;> simp_all

theorem execPorstNRelease_outside (i : BootIn) (s : State) (fm : Nat) (hfm : 3293347889 &&& fm = 3293347889) :
    s.framedBy fm (execPorstNRelease i s) := by
  refine State.framedBy_mono hfm ?_
  unfold execPorstNRelease
  (try simp) <;> (repeat' split) <;> simp_all

end Sys2Proof.Machine
end

