-- ==== Sys2Proof/Laws/FrameLoad.lean ====
section
/-!
SUPPORT. Sys2Proof/Laws/FrameLoad.lean: what each operation of Machine/Load.lean may change.
-/

set_option Elab.async false
namespace Sys2Proof.Machine

@[simp] theorem State.authFailures_outside (s : State) (fm : Nat) (hfm : 17 &&& fm = 17) :
    (State.authFailures s).outside fm = s.outside fm := by
  refine outside_mono hfm ?_
  unfold State.authFailures
  (try simp) <;> (repeat' split) <;> simp_all

@[simp] theorem State.markCommon_outside (s : State) (off : Nat) (mask : Word) (common : Bool) (fm : Nat) (hfm : 4 &&& fm = 4) :
    (State.markCommon s off mask common).outside fm = s.outside fm := by
  refine outside_mono hfm ?_
  unfold State.markCommon
  (try simp) <;> (repeat' split) <;> simp_all

@[simp] theorem State.loadWord_outside (s : State) (off : Nat) (mask value : Word) (fm : Nat) (hfm : 9 &&& fm = 9) :
    (State.loadWord s off mask value).outside fm = s.outside fm := by
  refine outside_mono hfm ?_
  unfold State.loadWord
  (try simp) <;> (repeat' split) <;> simp_all

@[simp] theorem State.applyRecord_outside (s : State) (r : CfgRecord) (fm : Nat) (hfm : 13 &&& fm = 13) :
    (State.applyRecord s r).outside fm = s.outside fm := by
  refine outside_mono hfm ?_
  unfold State.applyRecord
  (try simp) <;> (repeat' split) <;> simp_all

@[simp] theorem State.applySet_outside (s : State) (warm : Bool) (type inst : Nat) (x : RegSet) (fm : Nat) (hfm : 13 &&& fm = 13) :
    (State.applySet s warm type inst x).outside fm = s.outside fm := by
  refine outside_mono hfm ?_
  unfold State.applySet
  (try simp) <;> (repeat' split) <;> simp_all

@[simp] theorem State.applySection_outside (s : State) (warm : Bool) (x : Section) (fm : Nat) (hfm : 16777229 &&& fm = 16777229) :
    (State.applySection s warm x).outside fm = s.outside fm := by
  refine outside_mono hfm ?_
  unfold State.applySection
  (try simp) <;> (repeat' split) <;> simp_all

@[simp] theorem State.applyImage_outside (s : State) (c : CfgImage) (warm : Bool) (fm : Nat) (hfm : 16777229 &&& fm = 16777229) :
    (State.applyImage s c warm).outside fm = s.outside fm := by
  refine outside_mono hfm ?_
  unfold State.applyImage
  (try simp) <;> (repeat' split) <;> simp_all

@[simp] theorem State.readUndercoat_outside (s : State) (i : LoadIn) (fm : Nat) (hfm : 33554449 &&& fm = 33554449) :
    (State.readUndercoat s i).outside fm = s.outside fm := by
  refine outside_mono hfm ?_
  unfold State.readUndercoat
  (try simp) <;> (repeat' split) <;> simp_all

@[simp] theorem State.judgeTopcoat_outside (s : State) (fm : Nat) (hfm : 16777233 &&& fm = 16777233) :
    (State.judgeTopcoat s).outside fm = s.outside fm := by
  refine outside_mono hfm ?_
  unfold State.judgeTopcoat
  (try simp) <;> (repeat' split) <;> simp_all

@[simp] theorem State.moveTime_outside (s : State) (d : Nat) (fm : Nat) (hfm : 786466 &&& fm = 786466) :
    (State.moveTime s d).outside fm = s.outside fm := by
  refine outside_mono hfm ?_
  unfold State.moveTime
  (try simp) <;> (repeat' split) <;> simp_all

@[simp] theorem State.advanceTime_outside (s : State) (fm : Nat) (hfm : 786466 &&& fm = 786466) :
    (State.advanceTime s).outside fm = s.outside fm := by
  refine outside_mono hfm ?_
  unfold State.advanceTime
  split
  · exact State.moveTime_outside _ _ _ (by decide)
  · rfl

@[simp] theorem State.loadVol_outside (s : State) (k : Nat) (n0 : Bool) (n1 : Option Nat) (fm : Nat) (hfm : 17 &&& fm = 17) :
    (State.loadVol s k n0 n1).outside fm = s.outside fm := by
  refine outside_mono hfm ?_
  unfold State.loadVol
  (try simp) <;> (repeat' split) <;> simp_all

@[simp] theorem State.loadPartitions_outside (s : State) (fm : Nat) (hfm : 65553 &&& fm = 65553) :
    (State.loadPartitions s).outside fm = s.outside fm := by
  refine outside_mono hfm ?_
  unfold State.loadPartitions
  repeat' first
    | (simp; done)
    | (rw [← snd_outside ‹_ = (_, _)›]; simp; done)
    | (rw [← thd_outside ‹_ = (_, _, _)›]; simp; done)
    | split
    | refine (State.each_outside _ _ _ _ ?_).trans ?_
    | refine (foldl_outside _ _ ?_ _ _).trans ?_
    | refine (State.when_outside _ _ _ _ ?_).trans ?_
    | refine occurs_outside _ _ _ _ (by decide) ?_
    | (intro _; skip)
    | simp

@[simp] theorem State.loadGauge_outside (s : State) (fm : Nat) (hfm : 65553 &&& fm = 65553) :
    (State.loadGauge s).outside fm = s.outside fm := by
  refine outside_mono hfm ?_
  unfold State.loadGauge
  (try simp) <;> (repeat' split) <;> simp_all

@[simp] theorem State.loadHealth_outside (s : State) (q : Nat) (fm : Nat) (hfm : 1073742337 &&& fm = 1073742337) :
    (State.loadHealth s q).outside fm = s.outside fm := by
  refine outside_mono hfm ?_
  unfold State.loadHealth
  repeat' first
    | (simp; done)
    | (rw [← snd_outside ‹_ = (_, _)›]; simp; done)
    | (rw [← thd_outside ‹_ = (_, _, _)›]; simp; done)
    | split
    | refine (State.each_outside _ _ _ _ ?_).trans ?_
    | refine (foldl_outside _ _ ?_ _ _).trans ?_
    | refine (State.when_outside _ _ _ _ ?_).trans ?_
    | refine occurs_outside _ _ _ _ (by decide) ?_
    | (intro _; skip)
    | simp

@[simp] theorem State.derived_outside (s : State) (fm : Nat) (hfm : 131073 &&& fm = 131073) :
    (State.derived s).outside fm = s.outside fm := by
  refine outside_mono hfm ?_
  unfold State.derived
  (try simp) <;> (repeat' split) <;> simp_all

@[simp] theorem State.sealPlumb_outside (s : State) (fm : Nat) (hfm : 4 &&& fm = 4) :
    (State.sealPlumb s).outside fm = s.outside fm := by
  refine outside_mono hfm ?_
  unfold State.sealPlumb
  (try simp) <;> (repeat' split) <;> simp_all

@[simp] theorem State.sealAon_outside (s : State) (c : CfgImage) (fm : Nat) (hfm : 17039361 &&& fm = 17039361) :
    (State.sealAon s c).outside fm = s.outside fm := by
  refine outside_mono hfm ?_
  unfold State.sealAon
  (try simp) <;> (repeat' split) <;> simp_all

@[simp] theorem State.sealStatus_outside (s : State) (ix : Nat) (c : CfgImage) (fm : Nat) (hfm : 1 &&& fm = 1) :
    (State.sealStatus s ix c).outside fm = s.outside fm := by
  refine outside_mono hfm ?_
  unfold State.sealStatus
  (try simp) <;> (repeat' split) <;> simp_all

@[simp] theorem State.sealSfg_outside (s : State) (fm : Nat) (hfm : 17 &&& fm = 17) :
    (State.sealSfg s).outside fm = s.outside fm := by
  refine outside_mono hfm ?_
  unfold State.sealSfg
  (try simp) <;> (repeat' split) <;> simp_all

@[simp] theorem State.seal_outside (s : State) (ix : Nat) (c : CfgImage) (fm : Nat) (hfm : 17170455 &&& fm = 17170455) :
    (State.seal s ix c).outside fm = s.outside fm := by
  refine outside_mono hfm ?_
  unfold State.seal
  (try simp) <;> (repeat' split) <;> simp_all

@[simp] theorem State.sealGroup_outside (s : State) (seqInLow : Bool) (fm : Nat) (hfm : 1572865 &&& fm = 1572865) :
    (State.sealGroup s seqInLow).outside fm = s.outside fm := by
  refine outside_mono hfm ?_
  unfold State.sealGroup
  (try simp) <;> (repeat' split) <;> simp_all

@[simp] theorem State.tryCopies_outside (s : State) (warm again : Bool) (n0 : List (Nat × CfgImage)) (fm : Nat) (hfm : 16777245 &&& fm = 16777245) :
    (State.tryCopies s warm again n0).2.outside fm = s.outside fm := by
  refine outside_mono hfm ?_
  induction n0 generalizing s again with
  | nil => rfl
  | cons x rest ih =>
    unfold State.tryCopies
    dsimp only
    split
    · split <;> simp
    · exact (ih _ _).trans (by simp)

@[simp] theorem State.copyApplied_outside (s : State) (i : LoadIn) (ix : Nat) (c : CfgImage) (fm : Nat) (hfm : 1092583991 &&& fm = 1092583991) :
    (State.copyApplied s i ix c).outside fm = s.outside fm := by
  refine outside_mono hfm ?_
  unfold State.copyApplied
  (try simp) <;> (repeat' split) <;> simp_all

@[simp] theorem State.loadBegins_outside (s : State) (i : LoadIn) (fm : Nat) (hfm : 33554449 &&& fm = 33554449) :
    (State.loadBegins s i).outside fm = s.outside fm := by
  refine outside_mono hfm ?_
  unfold State.loadBegins
  (try simp) <;> (repeat' split) <;> simp_all

@[simp] theorem State.copiesTried_outside (s : State) (fm : Nat) (hfm : 16777245 &&& fm = 16777245) :
    (State.copiesTried s).2.outside fm = s.outside fm := by
  refine outside_mono hfm ?_
  unfold State.copiesTried
  (try simp) <;> (repeat' split) <;> simp_all

@[simp] theorem State.configLoad_outside (s : State) (i : LoadIn) (fm : Nat) (hfm : 1126138431 &&& fm = 1126138431) :
    (State.configLoad s i).outside fm = s.outside fm := by
  refine outside_mono hfm ?_
  unfold State.configLoad
  (try simp) <;> (repeat' split) <;> simp_all

theorem execConfigLoad_outside (i : LoadIn) (s : State) (fm : Nat) (hfm : 3273622079 &&& fm = 3273622079) :
    s.framedBy fm (execConfigLoad i s) := by
  refine State.framedBy_mono hfm ?_
  unfold execConfigLoad
  (try simp) <;> (repeat' split) <;> simp_all

end Sys2Proof.Machine
end

