-- ==== Sys2Proof/Laws/FrameWarm.lean ====
section
/-!
SUPPORT. Sys2Proof/Laws/FrameWarm.lean: what each operation of Machine/Warm.lean may change.
-/

set_option Elab.async false
namespace Sys2Proof.Machine

@[simp] theorem State.recoveryRails_outside (s : State) (fm : Nat) (hfm : 17174541 &&& fm = 17174541) :
    (State.recoveryRails s).outside fm = s.outside fm := by
  refine outside_mono hfm ?_
  unfold State.recoveryRails
  (try simp) <;> (repeat' split) <;> simp_all

@[simp] theorem State.enterRecovery_outside (s : State) (cause : Nat) (fm : Nat) (hfm : 17174589 &&& fm = 17174589) :
    (State.enterRecovery s cause).outside fm = s.outside fm := by
  refine outside_mono hfm ?_
  unfold State.enterRecovery
  (try simp) <;> (repeat' split) <;> simp_all

theorem execRecoveryEntered_outside (cause : Fin 4) (s : State) (fm : Nat) (hfm : 2164658237 &&& fm = 2164658237) :
    s.framedBy fm (execRecoveryEntered cause s) := by
  refine State.framedBy_mono hfm ?_
  unfold execRecoveryEntered
  (try simp) <;> (repeat' split) <;> simp_all

@[simp] theorem State.mrRecognised_outside (s : State) (fm : Nat) (hfm : 2282004305 &&& fm = 2282004305) :
    (State.mrRecognised s).outside fm = s.outside fm := by
  refine outside_mono hfm ?_
  unfold State.mrRecognised
  (try simp) <;> (repeat' split) <;> simp_all

theorem execMrNWarmReset_outside (s : State) (fm : Nat) (hfm : 2282004305 &&& fm = 2282004305) :
    s.framedBy fm (execMrNWarmReset s) := by
  refine State.framedBy_mono hfm ?_
  unfold execMrNWarmReset
  (try simp) <;> (repeat' split) <;> simp_all

@[simp] theorem State.warmRegs_outside (s : State) (fm : Nat) (hfm : 1 &&& fm = 1) :
    (State.warmRegs s).outside fm = s.outside fm := by
  refine outside_mono hfm ?_
  unfold State.warmRegs
  (try simp) <;> (repeat' split) <;> simp_all

@[simp] theorem State.warmEngines_outside (s : State) (fm : Nat) (hfm : 136584985 &&& fm = 136584985) :
    (State.warmEngines s).outside fm = s.outside fm := by
  refine outside_mono hfm ?_
  unfold State.warmEngines
  (try simp) <;> (repeat' split) <;> simp_all

@[simp] theorem State.leaveRefresh_outside (s : State) (fm : Nat) (hfm : 1025 &&& fm = 1025) :
    (State.leaveRefresh s).outside fm = s.outside fm := by
  refine outside_mono hfm ?_
  unfold State.leaveRefresh
  (try simp) <;> (repeat' split) <;> simp_all

@[simp] theorem State.warmBegins_outside (s : State) (fm : Nat) (hfm : 161750813 &&& fm = 161750813) :
    (State.warmBegins s).outside fm = s.outside fm := by
  refine outside_mono hfm ?_
  unfold State.warmBegins
  (try simp) <;> (repeat' split) <;> simp_all

@[simp] theorem State.warmApplied_outside (s : State) (origin ix : Nat) (c : CfgImage) (fm : Nat) (hfm : 17237015 &&& fm = 17237015) :
    (State.warmApplied s origin ix c).outside fm = s.outside fm := by
  refine outside_mono hfm ?_
  unfold State.warmApplied
  (try simp) <;> (repeat' split) <;> simp_all

@[simp] theorem State.warmStarts_outside (s : State) (i : LoadIn) (k : Nat) (fm : Nat) (hfm : 109109297 &&& fm = 109109297) :
    (State.warmStarts s i k).outside fm = s.outside fm := by
  refine outside_mono hfm ?_
  unfold State.warmStarts
  (try simp) <;> (repeat' split) <;> simp_all

@[simp] theorem State.warmCopies_outside (s : State) (i : LoadIn) (origin k : Nat) (fm : Nat) (hfm : 126346303 &&& fm = 126346303) :
    (State.warmCopies s i origin k).outside fm = s.outside fm := by
  refine outside_mono hfm ?_
  unfold State.warmCopies
  (try simp) <;> (repeat' split) <;> simp_all

@[simp] theorem State.warmFrom_outside (s : State) (i : LoadIn) (origin : Nat) (n0 : Option Nat) (fm : Nat) (hfm : 126346303 &&& fm = 126346303) :
    (State.warmFrom s i origin n0).outside fm = s.outside fm := by
  refine outside_mono hfm ?_
  unfold State.warmFrom
  (try simp) <;> (repeat' split) <;> simp_all

@[simp] theorem State.warmLoad_outside (s : State) (i : LoadIn) (fm : Nat) (hfm : 262668095 &&& fm = 262668095) :
    (State.warmLoad s i).outside fm = s.outside fm := by
  refine outside_mono hfm ?_
  unfold State.warmLoad
  (try simp) <;> (repeat' split) <;> simp_all

theorem execWarmLoad_outside (i : LoadIn) (s : State) (fm : Nat) (hfm : 2410151743 &&& fm = 2410151743) :
    s.framedBy fm (execWarmLoad i s) := by
  refine State.framedBy_mono hfm ?_
  unfold execWarmLoad
  (try simp) <;> (repeat' split) <;> simp_all

@[simp] theorem State.reloadWear_outside (s : State) (q : Nat) (fm : Nat) (hfm : 513 &&& fm = 513) :
    (State.reloadWear s q).outside fm = s.outside fm := by
  refine outside_mono hfm ?_
  unfold State.reloadWear
  (try simp) <;> (repeat' split) <;> simp_all

@[simp] theorem State.rebuildQuad_outside (s : State) (q : Nat) (fm : Nat) (hfm : 593 &&& fm = 593) :
    (State.rebuildQuad s q).outside fm = s.outside fm := by
  refine outside_mono hfm ?_
  unfold State.rebuildQuad
  (try simp) <;> (repeat' split) <;> simp_all

theorem execWarmResetRebuild_outside (s : State) (fm : Nat) (hfm : 2147484497 &&& fm = 2147484497) :
    s.framedBy fm (execWarmResetRebuild s) := by
  refine State.framedBy_mono hfm ?_
  unfold execWarmResetRebuild
  refine occurs_outside _ _ _ _ (by decide) fun x => ?_
  simp

@[simp] theorem State.mediaReady_outside (s : State) (fm : Nat) (hfm : 2285728275 &&& fm = 2285728275) :
    (State.mediaReady s).outside fm = s.outside fm := by
  refine outside_mono hfm ?_
  unfold State.mediaReady
  (try simp) <;> (repeat' split) <;> simp_all

theorem execMediaReady_outside (s : State) (fm : Nat) (hfm : 2285728275 &&& fm = 2285728275) :
    s.framedBy fm (execMediaReady s) := by
  refine State.framedBy_mono hfm ?_
  unfold execMediaReady
  (try simp) <;> (repeat' split) <;> simp_all

end Sys2Proof.Machine
end

