-- ==== Sys2Proof/Laws/FrameMailbox.lean ====
section
/-!
SUPPORT. Sys2Proof/Laws/FrameMailbox.lean: what each operation of Machine/Mailbox.lean may change.
-/

set_option Elab.async false
namespace Sys2Proof.Machine

theorem State.command_outside (s : State) (fn : FnIx) (mgmt inRec : Bool) (f : State → State) (m : Nat) (hm : 2151677969 &&& m = 2151677969)
    (h : ∀ x, (f x).outside m = x.outside m) : s.framedBy m (s.command fn mgmt inRec f) := by
  refine occurs_outside _ _ _ _ (by have := congrArg (fun x => 2147483648 &&& x) hm; simpa [← Nat.and_assoc] using this) fun x => ?_
  split
  · exact outside_mono hm (by simp)
  · split
    · exact outside_mono hm (by simp)
    · exact h _

end Sys2Proof.Machine
end

