-- ==== Sys2Proof/Laws/FrameUpdate.lean ====
section
/-!
SUPPORT. Sys2Proof/Laws/FrameUpdate.lean: what each operation of Machine/Update.lean may change.
-/

set_option Elab.async false
namespace Sys2Proof.Machine

@[simp] theorem State.putStaged_outside (s : State) (bytes slot : Nat) (fm : Nat) (hfm : 1 &&& fm = 1) :
    (State.putStaged s bytes slot).outside fm = s.outside fm := by
  refine outside_mono hfm ?_
  unfold State.putStaged
  (try simp) <;> (repeat' split) <;> simp_all

@[simp] theorem State.fwInitiate_outside (s : State) (fn : FnIx) (slot : Nat) (h : ImageHdr) (fm : Nat) (hfm : 2218786833 &&& fm = 2218786833) :
    (State.fwInitiate s fn slot h).outside fm = s.outside fm := by
  refine outside_mono hfm ?_
  unfold State.fwInitiate
  (try simp) <;> (repeat' split) <;> simp_all

theorem execTransferFwInitiate_outside (fn : FnIx) (slot : Nat) (h : ImageHdr) (s : State) (fm : Nat) (hfm : 2218786833 &&& fm = 2218786833) :
    s.framedBy fm (execTransferFwInitiate fn slot h s) := by
  refine State.framedBy_mono hfm ?_
  unfold execTransferFwInitiate
  repeat' first
    | (simp; done)
    | (rw [← snd_outside ‹_ = (_, _)›]; simp; done)
    | (rw [← thd_outside ‹_ = (_, _, _)›]; simp; done)
    | split
    | refine (State.each_outside _ _ _ _ ?_).trans ?_
    | refine (foldl_outside _ _ ?_ _ _).trans ?_
    | refine (State.when_outside _ _ _ _ ?_).trans ?_
    | refine occurs_outside _ _ _ _ (by decide) ?_
    | (intro _; skip)
    | simp

@[simp] theorem State.stagePart_outside (s : State) (p : FwPart) (x : Staging) (fm : Nat) (hfm : 67108865 &&& fm = 67108865) :
    (State.stagePart s p x).outside fm = s.outside fm := by
  refine outside_mono hfm ?_
  unfold State.stagePart
  (try simp) <;> (repeat' split) <;> simp_all

@[simp] theorem State.partArrives_outside (s : State) (fn : FnIx) (fm : Nat) (hfm : 67108864 &&& fm = 67108864) :
    (State.partArrives s fn).outside fm = s.outside fm := by
  refine outside_mono hfm ?_
  unfold State.partArrives
  (try simp) <;> (repeat' split) <;> simp_all

@[simp] theorem State.fwPart_outside (s : State) (fn : FnIx) (p : FwPart) (f : State → Staging → State) (m : Nat) (hm : 2218786833 &&& m = 2218786833)
    (h : ∀ x y, (f x y).outside m = x.outside m) : (s.fwPart fn p f).outside m = s.outside m := by
  unfold State.fwPart
  split
  · exact outside_mono hm (by simp)
  · split
    · exact outside_mono hm (by simp)
    · split
      · exact outside_mono hm (by simp)
      · split
        · exact outside_mono hm (by simp)
        · exact (h _ _).trans (outside_mono hm (by simp))

theorem execTransferFwContinue_outside (fn : FnIx) (p : FwPart) (s : State) (fm : Nat) (hfm : 2218786833 &&& fm = 2218786833) :
    s.framedBy fm (execTransferFwContinue fn p s) := by
  refine State.framedBy_mono hfm ?_
  unfold execTransferFwContinue
  repeat' first
    | (simp; done)
    | (rw [← snd_outside ‹_ = (_, _)›]; simp; done)
    | (rw [← thd_outside ‹_ = (_, _, _)›]; simp; done)
    | split
    | refine (State.each_outside _ _ _ _ ?_).trans ?_
    | refine (foldl_outside _ _ ?_ _ _).trans ?_
    | refine (State.when_outside _ _ _ _ ?_).trans ?_
    | refine occurs_outside _ _ _ _ (by decide) ?_
    | (intro _; skip)
    | simp

@[simp] theorem State.putTarget_outside (s : State) (slot : Nat) (h : Option ImageHdr) (fm : Nat) (hfm : 67108864 &&& fm = 67108864) :
    (State.putTarget s slot h).outside fm = s.outside fm := by
  refine outside_mono hfm ?_
  unfold State.putTarget
  (try simp) <;> (repeat' split) <;> simp_all

@[simp] theorem State.fwEnd_outside (s : State) (fn : FnIx) (x : Staging) (bytes : Nat) (copyOk : Bool) (fm : Nat) (hfm : 2218786833 &&& fm = 2218786833) :
    (State.fwEnd s fn x bytes copyOk).outside fm = s.outside fm := by
  refine outside_mono hfm ?_
  unfold State.fwEnd
  (try simp) <;> (repeat' split) <;> simp_all

theorem execTransferFwEnd_outside (fn : FnIx) (p : FwPart) (copyOk : Bool) (s : State) (fm : Nat) (hfm : 2218786833 &&& fm = 2218786833) :
    s.framedBy fm (execTransferFwEnd fn p copyOk s) := by
  refine State.framedBy_mono hfm ?_
  unfold execTransferFwEnd
  repeat' first
    | (simp; done)
    | (rw [← snd_outside ‹_ = (_, _)›]; simp; done)
    | (rw [← thd_outside ‹_ = (_, _, _)›]; simp; done)
    | split
    | refine (State.each_outside _ _ _ _ ?_).trans ?_
    | refine (foldl_outside _ _ ?_ _ _).trans ?_
    | refine (State.when_outside _ _ _ _ ?_).trans ?_
    | refine occurs_outside _ _ _ _ (by decide) ?_
    | (intro _; skip)
    | simp

theorem execTransferFwAbort_outside (fn : FnIx) (s : State) (fm : Nat) (hfm : 2218786833 &&& fm = 2218786833) :
    s.framedBy fm (execTransferFwAbort fn s) := by
  refine State.framedBy_mono hfm ?_
  unfold execTransferFwAbort
  repeat' first
    | (simp; done)
    | (rw [← snd_outside ‹_ = (_, _)›]; simp; done)
    | (rw [← thd_outside ‹_ = (_, _, _)›]; simp; done)
    | split
    | refine (State.each_outside _ _ _ _ ?_).trans ?_
    | refine (foldl_outside _ _ ?_ _ _).trans ?_
    | refine (State.when_outside _ _ _ _ ?_).trans ?_
    | refine occurs_outside _ _ _ _ (by decide) ?_
    | (intro _; skip)
    | simp

theorem execUpdateLockIdleTimeout_outside (s : State) (fm : Nat) (hfm : 2214592513 &&& fm = 2214592513) :
    s.framedBy fm (execUpdateLockIdleTimeout s) := by
  refine State.framedBy_mono hfm ?_
  unfold execUpdateLockIdleTimeout
  (try simp) <;> (repeat' split) <;> simp_all

@[simp] theorem State.programSlot_outside (s : State) (slot : Nat) (fm : Nat) (hfm : 67108864 &&& fm = 67108864) :
    (State.programSlot s slot).outside fm = s.outside fm := by
  refine outside_mono hfm ?_
  unfold State.programSlot
  (try simp) <;> (repeat' split) <;> simp_all

@[simp] theorem State.leaveRecovery_outside (s : State) (fm : Nat) (hfm : 4261412735 &&& fm = 4261412735) :
    (State.leaveRecovery s).outside fm = s.outside fm := by
  refine outside_mono hfm ?_
  unfold State.leaveRecovery
  (try simp) <;> (repeat' split) <;> simp_all

@[simp] theorem State.activateOffline_outside (s : State) (fn : FnIx) (slot : Nat) (recoveryHigh : Bool) (fm : Nat) (hfm : 4261412735 &&& fm = 4261412735) :
    (State.activateOffline s fn slot recoveryHigh).outside fm = s.outside fm := by
  refine outside_mono hfm ?_
  unfold State.activateOffline
  (try simp) <;> (repeat' split) <;> simp_all

theorem execActivateFwOffline_outside (fn : FnIx) (slot : Nat) (recoveryHigh : Bool) (s : State) (fm : Nat) (hfm : 4261412735 &&& fm = 4261412735) :
    s.framedBy fm (execActivateFwOffline fn slot recoveryHigh s) := by
  refine State.framedBy_mono hfm ?_
  unfold execActivateFwOffline
  repeat' first
    | (simp; done)
    | (rw [← snd_outside ‹_ = (_, _)›]; simp; done)
    | (rw [← thd_outside ‹_ = (_, _, _)›]; simp; done)
    | split
    | refine (State.each_outside _ _ _ _ ?_).trans ?_
    | refine (foldl_outside _ _ ?_ _ _).trans ?_
    | refine (State.when_outside _ _ _ _ ?_).trans ?_
    | refine occurs_outside _ _ _ _ (by decide) ?_
    | (intro _; skip)
    | simp

@[simp] theorem State.activateOnline_outside (s : State) (fn : FnIx) (slot : Nat) (fm : Nat) (hfm : 2227200049 &&& fm = 2227200049) :
    (State.activateOnline s fn slot).outside fm = s.outside fm := by
  refine outside_mono hfm ?_
  unfold State.activateOnline
  (try simp) <;> (repeat' split) <;> simp_all

theorem execActivateFwOnline_outside (fn : FnIx) (slot : Nat) (s : State) (fm : Nat) (hfm : 2227200049 &&& fm = 2227200049) :
    s.framedBy fm (execActivateFwOnline fn slot s) := by
  refine State.framedBy_mono hfm ?_
  unfold execActivateFwOnline
  repeat' first
    | (simp; done)
    | (rw [← snd_outside ‹_ = (_, _)›]; simp; done)
    | (rw [← thd_outside ‹_ = (_, _, _)›]; simp; done)
    | split
    | refine (State.each_outside _ _ _ _ ?_).trans ?_
    | refine (foldl_outside _ _ ?_ _ _).trans ?_
    | refine (State.when_outside _ _ _ _ ?_).trans ?_
    | refine occurs_outside _ _ _ _ (by decide) ?_
    | (intro _; skip)
    | simp

@[simp] theorem State.commitSvn_outside (s : State) (fm : Nat) (hfm : 33554449 &&& fm = 33554449) :
    (State.commitSvn s).outside fm = s.outside fm := by
  refine outside_mono hfm ?_
  unfold State.commitSvn
  (try simp) <;> (repeat' split) <;> simp_all

@[simp] theorem State.onlineEnds_outside (s : State) (fm : Nat) (hfm : 2218786833 &&& fm = 2218786833) :
    (State.onlineEnds s).outside fm = s.outside fm := by
  refine outside_mono hfm ?_
  unfold State.onlineEnds
  (try simp) <;> (repeat' split) <;> simp_all

@[simp] theorem State.bootSignal_outside (s : State) (fm : Nat) (hfm : 2252341297 &&& fm = 2252341297) :
    (State.bootSignal s).outside fm = s.outside fm := by
  refine outside_mono hfm ?_
  unfold State.bootSignal
  (try simp) <;> (repeat' split) <;> simp_all

theorem execUpdBootOk_outside (path : PathIx) (s : State) (fm : Nat) (hfm : 2252341305 &&& fm = 2252341305) :
    s.framedBy fm (execUpdBootOk path s) := by
  refine State.framedBy_mono hfm ?_
  unfold execUpdBootOk
  (try simp) <;> (repeat' split) <;> simp_all

@[simp] theorem State.bootFailed_outside (s : State) (fm : Nat) (hfm : 75784241 &&& fm = 75784241) :
    (State.bootFailed s).outside fm = s.outside fm := by
  refine outside_mono hfm ?_
  unfold State.bootFailed
  (try simp) <;> (repeat' split) <;> simp_all

theorem execBootTimeout_outside (s : State) (fm : Nat) (hfm : 2223267889 &&& fm = 2223267889) :
    s.framedBy fm (execBootTimeout s) := by
  refine State.framedBy_mono hfm ?_
  unfold execBootTimeout
  (try simp) <;> (repeat' split) <;> simp_all

end Sys2Proof.Machine
end

