-- ==== Sys2Proof/Laws/FrameErase.lean ====
section
/-!
SUPPORT. Sys2Proof/Laws/FrameErase.lean: what each operation of Machine/Erase.lean may change.
-/

set_option Elab.async false
namespace Sys2Proof.Machine

@[simp] theorem State.abortVersions_outside (s : State) (q k : Nat) (fm : Nat) (hfm : 2560 &&& fm = 2560) :
    (State.abortVersions s q k).outside fm = s.outside fm := by
  refine outside_mono hfm ?_
  unfold State.abortVersions
  (try simp) <;> (repeat' split) <;> simp_all

@[simp] theorem State.abortReads_outside (s : State) (q k : Nat) (fm : Nat) (hfm : 2147484160 &&& fm = 2147484160) :
    (State.abortReads s q k).outside fm = s.outside fm := by
  refine outside_mono hfm ?_
  unfold State.abortReads
  repeat' first
    | (simp; done)
    | (rw [← snd_outside ‹_ = (_, _)›]; simp; done)
    | (rw [← thd_outside ‹_ = (_, _, _)›]; simp; done)
    | split
    | refine (State.each_outside _ _ _ _ ?_).trans ?_
    | refine (foldl_outside _ _ ?_ _ _).trans ?_
    | refine (State.when_outside _ _ _ _ ?_).trans ?_
    | refine occurs_outside _ _ _ _ (by decide) ?_
    | (intro _; skip)
    | simp

@[simp] theorem State.revokeLd_outside (s : State) (k : Nat) (fm : Nat) (hfm : 2147486545 &&& fm = 2147486545) :
    (State.revokeLd s k).outside fm = s.outside fm := by
  refine outside_mono hfm ?_
  unfold State.revokeLd
  (try simp) <;> (repeat' split) <;> simp_all

@[simp] theorem State.refillTenant_outside (s : State) (fn : FnIx) (k : Nat) (fm : Nat) (hfm : 40961 &&& fm = 40961) :
    (State.refillTenant s fn k).outside fm = s.outside fm := by
  refine outside_mono hfm ?_
  unfold State.refillTenant
  (try simp) <;> (repeat' split) <;> simp_all

@[simp] theorem State.eraseLd_outside (s : State) (fn : FnIx) (k : Nat) (kind : BgKind) (refill : Bool) (fm : Nat) (hfm : 2151721809 &&& fm = 2151721809) :
    (State.eraseLd s fn k kind refill).outside fm = s.outside fm := by
  refine outside_mono hfm ?_
  unfold State.eraseLd
  (try simp) <;> (repeat' split) <;> simp_all

@[simp] theorem State.wantErased_outside (s : State) (fn : FnIx) (l : List (Nat × Nat)) (fm : Nat) (hfm : 256 &&& fm = 256) :
    (State.wantErased s fn l).outside fm = s.outside fm := by
  refine outside_mono hfm ?_
  unfold State.wantErased
  (try simp) <;> (repeat' split) <;> simp_all

@[simp] theorem State.drawDeviceKeys_outside (s : State) (fm : Nat) (hfm : 49153 &&& fm = 49153) :
    (State.drawDeviceKeys s).outside fm = s.outside fm := by
  refine outside_mono hfm ?_
  unfold State.drawDeviceKeys
  split
  · rfl
  · simpa using foldl_proj_outside (fun r : List Key × State => r.2) (fun acc (_ : Nat) => (acc.1 ++ [acc.2.drawKey.1], acc.2.drawKey.2))
      (fun b a => by simp) (List.range 24) ([], s)

@[simp] theorem State.eraseDevice_outside (s : State) (fn : FnIx) (sanitize : Bool) (fm : Nat) (hfm : 2151735313 &&& fm = 2151735313) :
    (State.eraseDevice s fn sanitize).outside fm = s.outside fm := by
  refine outside_mono hfm ?_
  unfold State.eraseDevice
  repeat' first
    | (simp; done)
    | (rw [← snd_outside ‹_ = (_, _)›]; simp; done)
    | (rw [← thd_outside ‹_ = (_, _, _)›]; simp; done)
    | split
    | refine (State.each_outside _ _ _ _ ?_).trans ?_
    | refine (foldl_outside _ _ ?_ _ _).trans ?_
    | refine (State.when_outside _ _ _ _ ?_).trans ?_
    | refine occurs_outside _ _ _ _ (by decide) ?_
    | (intro _; skip)
    | simp

@[simp] theorem State.eraseCommand_outside (s : State) (fn : FnIx) (sanitize : Bool) (fm : Nat) (hfm : 2151738193 &&& fm = 2151738193) :
    (State.eraseCommand s fn sanitize).outside fm = s.outside fm := by
  refine outside_mono hfm ?_
  unfold State.eraseCommand
  (try simp) <;> (repeat' split) <;> simp_all

theorem execSecureErase_outside (fn : FnIx) (s : State) (fm : Nat) (hfm : 2151738193 &&& fm = 2151738193) :
    s.framedBy fm (execSecureErase fn s) := by
  refine State.framedBy_mono hfm ?_
  unfold execSecureErase
  repeat' first
    | (simp; done)
    | (rw [← snd_outside ‹_ = (_, _)›]; simp; done)
    | (rw [← thd_outside ‹_ = (_, _, _)›]; simp; done)
    | split
    | refine (State.each_outside _ _ _ _ ?_).trans ?_
    | refine (foldl_outside _ _ ?_ _ _).trans ?_
    | refine (State.when_outside _ _ _ _ ?_).trans ?_
    | refine occurs_outside _ _ _ _ (by decide) ?_
    | (intro _; skip)
    | simp

theorem execSanitize_outside (fn : FnIx) (s : State) (fm : Nat) (hfm : 2151738193 &&& fm = 2151738193) :
    s.framedBy fm (execSanitize fn s) := by
  refine State.framedBy_mono hfm ?_
  unfold execSanitize
  repeat' first
    | (simp; done)
    | (rw [← snd_outside ‹_ = (_, _)›]; simp; done)
    | (rw [← thd_outside ‹_ = (_, _, _)›]; simp; done)
    | split
    | refine (State.each_outside _ _ _ _ ?_).trans ?_
    | refine (foldl_outside _ _ ?_ _ _).trans ?_
    | refine (State.when_outside _ _ _ _ ?_).trans ?_
    | refine occurs_outside _ _ _ _ (by decide) ?_
    | (intro _; skip)
    | simp

@[simp] theorem State.switchKeys_outside (s : State) (keys : List Key) (fm : Nat) (hfm : 2147533312 &&& fm = 2147533312) :
    (State.switchKeys s keys).outside fm = s.outside fm := by
  refine outside_mono hfm ?_
  unfold State.switchKeys
  (try simp) <;> (repeat' split) <;> simp_all

@[simp] theorem State.dropQuadImage_outside (s : State) (q : Nat) (fm : Nat) (hfm : 8017 &&& fm = 8017) :
    (State.dropQuadImage s q).outside fm = s.outside fm := by
  refine outside_mono hfm ?_
  unfold State.dropQuadImage
  (try simp) <;> (repeat' split) <;> simp_all

@[simp] theorem State.dropImage_outside (s : State) (fm : Nat) (hfm : 8017 &&& fm = 8017) :
    (State.dropImage s).outside fm = s.outside fm := by
  refine outside_mono hfm ?_
  unfold State.dropImage
  (try simp) <;> (repeat' split) <;> simp_all

@[simp] theorem State.openRoot_outside (s : State) (ok : List Bool) (fm : Nat) (hfm : 49937 &&& fm = 49937) :
    (State.openRoot s ok).outside fm = s.outside fm := by
  refine outside_mono hfm ?_
  unfold State.openRoot
  repeat' first
    | (simp; done)
    | (rw [← snd_outside ‹_ = (_, _)›]; simp; done)
    | (rw [← thd_outside ‹_ = (_, _, _)›]; simp; done)
    | split
    | refine (State.each_outside _ _ _ _ ?_).trans ?_
    | refine (foldl_outside _ _ ?_ _ _).trans ?_
    | refine (State.when_outside _ _ _ _ ?_).trans ?_
    | refine occurs_outside _ _ _ _ (by decide) ?_
    | (intro _; skip)
    | simp

@[simp] theorem State.keySwitch_outside (s : State) (ok : List Bool) (fm : Nat) (hfm : 2147540817 &&& fm = 2147540817) :
    (State.keySwitch s ok).outside fm = s.outside fm := by
  refine outside_mono hfm ?_
  unfold State.keySwitch
  (try simp) <;> (repeat' split) <;> simp_all

theorem execDeviceEraseKeySwitch_outside (ok : List Bool) (s : State) (fm : Nat) (hfm : 2147540817 &&& fm = 2147540817) :
    s.framedBy fm (execDeviceEraseKeySwitch ok s) := by
  refine State.framedBy_mono hfm ?_
  unfold execDeviceEraseKeySwitch
  (try simp) <;> (repeat' split) <;> simp_all

@[simp] theorem State.zeroRange_outside (s : State) (a n : Nat) (fm : Nat) (hfm : 805306368 &&& fm = 805306368) :
    (State.zeroRange s a n).outside fm = s.outside fm := by
  refine outside_mono hfm ?_
  unfold State.zeroRange
  (try simp) <;> (repeat' split) <;> simp_all

@[simp] theorem State.dryRevoked_outside (s : State) (p : Nat) (fm : Nat) (hfm : 832 &&& fm = 832) :
    (State.dryRevoked s p).outside fm = s.outside fm := by
  refine outside_mono hfm ?_
  unfold State.dryRevoked
  (try simp) <;> (repeat' split) <;> simp_all

@[simp] theorem State.dropLd_outside (s : State) (k : Nat) (fm : Nat) (hfm : 2147486528 &&& fm = 2147486528) :
    (State.dropLd s k).outside fm = s.outside fm := by
  refine outside_mono hfm ?_
  unfold State.dropLd
  (try simp) <;> (repeat' split) <;> simp_all

@[simp] theorem State.placesAnew_outside (s : State) (fm : Nat) (hfm : 2957006417 &&& fm = 2957006417) :
    (State.placesAnew s).outside fm = s.outside fm := by
  refine outside_mono hfm ?_
  unfold State.placesAnew
  (try simp) <;> (repeat' split) <;> simp_all

@[simp] theorem State.zeroLd_outside (s : State) (k : Nat) (fm : Nat) (hfm : 2957008721 &&& fm = 2957008721) :
    (State.zeroLd s k).outside fm = s.outside fm := by
  refine outside_mono hfm ?_
  unfold State.zeroLd
  (try simp) <;> (repeat' split) <;> simp_all

@[simp] theorem State.dropFills_outside (s : State) (fm : Nat) (hfm : 512 &&& fm = 512) :
    (State.dropFills s).outside fm = s.outside fm := by
  refine outside_mono hfm ?_
  unfold State.dropFills
  (try simp) <;> (repeat' split) <;> simp_all

@[simp] theorem State.zeroAll_outside (s : State) (fm : Nat) (hfm : 805306432 &&& fm = 805306432) :
    (State.zeroAll s).outside fm = s.outside fm := by
  refine outside_mono hfm ?_
  unfold State.zeroAll
  (try simp) <;> (repeat' split) <;> simp_all

@[simp] theorem State.zeroDevice_outside (s : State) (fm : Nat) (hfm : 2957006417 &&& fm = 2957006417) :
    (State.zeroDevice s).outside fm = s.outside fm := by
  refine outside_mono hfm ?_
  unfold State.zeroDevice
  (try simp) <;> (repeat' split) <;> simp_all

@[simp] theorem State.ldErased_outside (s : State) (k : Nat) (fm : Nat) (hfm : 2957016913 &&& fm = 2957016913) :
    (State.ldErased s k).outside fm = s.outside fm := by
  refine outside_mono hfm ?_
  unfold State.ldErased
  (try simp) <;> (repeat' split) <;> simp_all

@[simp] theorem State.ldReady_outside (s : State) (k : Nat) (fm : Nat) (hfm : 8209 &&& fm = 8209) :
    (State.ldReady s k).outside fm = s.outside fm := by
  refine outside_mono hfm ?_
  unfold State.ldReady
  (try simp) <;> (repeat' split) <;> simp_all

@[simp] theorem State.deviceErased_outside (s : State) (fm : Nat) (hfm : 2957014609 &&& fm = 2957014609) :
    (State.deviceErased s).outside fm = s.outside fm := by
  refine outside_mono hfm ?_
  unfold State.deviceErased
  (try simp) <;> (repeat' split) <;> simp_all

@[simp] theorem State.scanDone_outside (s : State) (fn : FnIx) (start len : Nat) (bad : List Nat) (fm : Nat) (hfm : 2957016657 &&& fm = 2957016657) :
    (State.scanDone s fn start len bad).outside fm = s.outside fm := by
  refine outside_mono hfm ?_
  unfold State.scanDone
  (try simp) <;> (repeat' split) <;> simp_all

@[simp] theorem State.bgWork_outside (s : State) (fn : FnIx) (ld : Nat) (bad : List Nat) (n0 : BgKind) (fm : Nat) (hfm : 2957016913 &&& fm = 2957016913) :
    (State.bgWork s fn ld bad n0).outside fm = s.outside fm := by
  refine outside_mono hfm ?_
  unfold State.bgWork
  (try simp) <;> (repeat' split) <;> simp_all

@[simp] theorem State.bgDone_outside (s : State) (fn : FnIx) (b : BgCmd) (bad : List Nat) (fm : Nat) (hfm : 2957016913 &&& fm = 2957016913) :
    (State.bgDone s fn b bad).outside fm = s.outside fm := by
  refine outside_mono hfm ?_
  unfold State.bgDone
  (try simp) <;> (repeat' split) <;> simp_all

theorem execBackgroundCommandDone_outside (fn : FnIx) (bad : List Nat) (s : State) (fm : Nat) (hfm : 2957016913 &&& fm = 2957016913) :
    s.framedBy fm (execBackgroundCommandDone fn bad s) := by
  refine State.framedBy_mono hfm ?_
  unfold execBackgroundCommandDone
  (try simp) <;> (repeat' split) <;> simp_all

@[simp] theorem State.refillOf_outside (s : State) (i : Nat) (fm : Nat) (hfm : 40961 &&& fm = 40961) :
    (State.refillOf s i).outside fm = s.outside fm := by
  refine outside_mono hfm ?_
  unfold State.refillOf
  (try simp) <;> (repeat' split) <;> simp_all

@[simp] theorem State.refillsGo_outside (s : State) (fm : Nat) (hfm : 57345 &&& fm = 57345) :
    (State.refillsGo s).outside fm = s.outside fm := by
  refine outside_mono hfm ?_
  unfold State.refillsGo
  dsimp only
  split
  · exact (State.drawDeviceKeys_outside _ _ (by decide)).trans
      (State.each_outside _ _ _ _ fun _ _ => State.refillOf_outside _ _ _ (by decide))
  · exact State.each_outside _ _ _ _ fun _ _ => State.refillOf_outside _ _ _ (by decide)

theorem execDrbgReseed_outside (ok : Bool) (s : State) (fm : Nat) (hfm : 2147540993 &&& fm = 2147540993) :
    s.framedBy fm (execDrbgReseed ok s) := by
  refine State.framedBy_mono hfm ?_
  unfold execDrbgReseed
  refine occurs_outside _ _ _ _ (by decide) fun x => ?_
  split
  · exact (State.refillsGo_outside _ _ (by decide)).trans (by simp)
  · rfl

end Sys2Proof.Machine
end

