-- ==== Sys2Proof/Laws/FrameCommands.lean ====
section
/-!
SUPPORT. Sys2Proof/Laws/FrameCommands.lean: what each operation of Machine/Commands.lean may change.
-/

set_option Elab.async false
namespace Sys2Proof.Machine

theorem execUnsupportedOpcode_outside (fn : FnIx) (opcode : Nat) (s : State) (fm : Nat) (hfm : 2151677969 &&& fm = 2151677969) :
    s.framedBy fm (execUnsupportedOpcode fn opcode s) := by
  refine State.framedBy_mono hfm ?_
  unfold execUnsupportedOpcode
  (try simp) <;> (repeat' split) <;> simp_all

theorem execIdentify_outside (fn : FnIx) (s : State) (fm : Nat) (hfm : 2151677969 &&& fm = 2151677969) :
    s.framedBy fm (execIdentify fn s) := by
  refine State.framedBy_mono hfm ?_
  unfold execIdentify
  repeat' first
    | (simp; done)
    | (rw [← snd_outside ‹_ = (_, _)›]; simp; done)
    | (rw [← thd_outside ‹_ = (_, _, _)›]; simp; done)
    | split
    | refine (State.each_outside _ _ _ _ ?_).trans ?_
    | refine (foldl_outside _ _ ?_ _ _).trans ?_
    | refine (State.when_outside _ _ _ _ ?_).trans ?_
    | refine occurs_outside _ _ _ _ (by decide) ?_
    | (intro _; skip)
    | simp

theorem execGetFwInfo_outside (fn : FnIx) (s : State) (fm : Nat) (hfm : 2151677969 &&& fm = 2151677969) :
    s.framedBy fm (execGetFwInfo fn s) := by
  refine State.framedBy_mono hfm ?_
  unfold execGetFwInfo
  repeat' first
    | (simp; done)
    | (rw [← snd_outside ‹_ = (_, _)›]; simp; done)
    | (rw [← thd_outside ‹_ = (_, _, _)›]; simp; done)
    | split
    | refine (State.each_outside _ _ _ _ ?_).trans ?_
    | refine (foldl_outside _ _ ?_ _ _).trans ?_
    | refine (State.when_outside _ _ _ _ ?_).trans ?_
    | refine occurs_outside _ _ _ _ (by decide) ?_
    | (intro _; skip)
    | simp

theorem execGetTimestamp_outside (fn : FnIx) (s : State) (fm : Nat) (hfm : 2151677969 &&& fm = 2151677969) :
    s.framedBy fm (execGetTimestamp fn s) := by
  refine State.framedBy_mono hfm ?_
  unfold execGetTimestamp
  repeat' first
    | (simp; done)
    | (rw [← snd_outside ‹_ = (_, _)›]; simp; done)
    | (rw [← thd_outside ‹_ = (_, _, _)›]; simp; done)
    | split
    | refine (State.each_outside _ _ _ _ ?_).trans ?_
    | refine (foldl_outside _ _ ?_ _ _).trans ?_
    | refine (State.when_outside _ _ _ _ ?_).trans ?_
    | refine occurs_outside _ _ _ _ (by decide) ?_
    | (intro _; skip)
    | simp

theorem execSetTimestamp_outside (fn : FnIx) (ts : Nat) (s : State) (fm : Nat) (hfm : 2151694353 &&& fm = 2151694353) :
    s.framedBy fm (execSetTimestamp fn ts s) := by
  refine State.framedBy_mono hfm ?_
  unfold execSetTimestamp
  repeat' first
    | (simp; done)
    | (rw [← snd_outside ‹_ = (_, _)›]; simp; done)
    | (rw [← thd_outside ‹_ = (_, _, _)›]; simp; done)
    | split
    | refine (State.each_outside _ _ _ _ ?_).trans ?_
    | refine (foldl_outside _ _ ?_ _ _).trans ?_
    | refine (State.when_outside _ _ _ _ ?_).trans ?_
    | refine occurs_outside _ _ _ _ (by decide) ?_
    | (intro _; skip)
    | simp

theorem execGetSupportedLogs_outside (fn : FnIx) (s : State) (fm : Nat) (hfm : 2151677969 &&& fm = 2151677969) :
    s.framedBy fm (execGetSupportedLogs fn s) := by
  refine State.framedBy_mono hfm ?_
  unfold execGetSupportedLogs
  repeat' first
    | (simp; done)
    | (rw [← snd_outside ‹_ = (_, _)›]; simp; done)
    | (rw [← thd_outside ‹_ = (_, _, _)›]; simp; done)
    | split
    | refine (State.each_outside _ _ _ _ ?_).trans ?_
    | refine (foldl_outside _ _ ?_ _ _).trans ?_
    | refine (State.when_outside _ _ _ _ ?_).trans ?_
    | refine occurs_outside _ _ _ _ (by decide) ?_
    | (intro _; skip)
    | simp

theorem execGetLog_outside (fn : FnIx) (s : State) (fm : Nat) (hfm : 2151677969 &&& fm = 2151677969) :
    s.framedBy fm (execGetLog fn s) := by
  refine State.framedBy_mono hfm ?_
  unfold execGetLog
  repeat' first
    | (simp; done)
    | (rw [← snd_outside ‹_ = (_, _)›]; simp; done)
    | (rw [← thd_outside ‹_ = (_, _, _)›]; simp; done)
    | split
    | refine (State.each_outside _ _ _ _ ?_).trans ?_
    | refine (foldl_outside _ _ ?_ _ _).trans ?_
    | refine (State.when_outside _ _ _ _ ?_).trans ?_
    | refine occurs_outside _ _ _ _ (by decide) ?_
    | (intro _; skip)
    | simp

@[simp] theorem State.modLog_outside (s : State) (fn : FnIx) (log : Nat) (f : EvLog → EvLog) (fm : Nat) (hfm : 8192 &&& fm = 8192) :
    (State.modLog s fn log f).outside fm = s.outside fm := by
  refine outside_mono hfm ?_
  unfold State.modLog
  (try simp) <;> (repeat' split) <;> simp_all

theorem execGetEventRecords_outside (fn : FnIx) (log : Nat) (s : State) (fm : Nat) (hfm : 2151677969 &&& fm = 2151677969) :
    s.framedBy fm (execGetEventRecords fn log s) := by
  refine State.framedBy_mono hfm ?_
  unfold execGetEventRecords
  repeat' first
    | (simp; done)
    | (rw [← snd_outside ‹_ = (_, _)›]; simp; done)
    | (rw [← thd_outside ‹_ = (_, _, _)›]; simp; done)
    | split
    | refine (State.each_outside _ _ _ _ ?_).trans ?_
    | refine (foldl_outside _ _ ?_ _ _).trans ?_
    | refine (State.when_outside _ _ _ _ ?_).trans ?_
    | refine occurs_outside _ _ _ _ (by decide) ?_
    | (intro _; skip)
    | simp

theorem execClearEventRecords_outside (fn : FnIx) (log : Nat) (all : Bool) (handles : List Nat) (s : State) (fm : Nat) (hfm : 2151686161 &&& fm = 2151686161) :
    s.framedBy fm (execClearEventRecords fn log all handles s) := by
  refine State.framedBy_mono hfm ?_
  unfold execClearEventRecords
  repeat' first
    | (simp; done)
    | (rw [← snd_outside ‹_ = (_, _)›]; simp; done)
    | (rw [← thd_outside ‹_ = (_, _, _)›]; simp; done)
    | split
    | refine (State.each_outside _ _ _ _ ?_).trans ?_
    | refine (foldl_outside _ _ ?_ _ _).trans ?_
    | refine (State.when_outside _ _ _ _ ?_).trans ?_
    | refine occurs_outside _ _ _ _ (by decide) ?_
    | (intro _; skip)
    | simp

theorem execGetEventInterruptPolicy_outside (fn : FnIx) (s : State) (fm : Nat) (hfm : 2151677969 &&& fm = 2151677969) :
    s.framedBy fm (execGetEventInterruptPolicy fn s) := by
  refine State.framedBy_mono hfm ?_
  unfold execGetEventInterruptPolicy
  repeat' first
    | (simp; done)
    | (rw [← snd_outside ‹_ = (_, _)›]; simp; done)
    | (rw [← thd_outside ‹_ = (_, _, _)›]; simp; done)
    | split
    | refine (State.each_outside _ _ _ _ ?_).trans ?_
    | refine (foldl_outside _ _ ?_ _ _).trans ?_
    | refine (State.when_outside _ _ _ _ ?_).trans ?_
    | refine occurs_outside _ _ _ _ (by decide) ?_
    | (intro _; skip)
    | simp

theorem execSetEventInterruptPolicy_outside (fn : FnIx) (settings : List Nat) (s : State) (fm : Nat) (hfm : 2151686161 &&& fm = 2151686161) :
    s.framedBy fm (execSetEventInterruptPolicy fn settings s) := by
  refine State.framedBy_mono hfm ?_
  unfold execSetEventInterruptPolicy
  repeat' first
    | (simp; done)
    | (rw [← snd_outside ‹_ = (_, _)›]; simp; done)
    | (rw [← thd_outside ‹_ = (_, _, _)›]; simp; done)
    | split
    | refine (State.each_outside _ _ _ _ ?_).trans ?_
    | refine (foldl_outside _ _ ?_ _ _).trans ?_
    | refine (State.when_outside _ _ _ _ ?_).trans ?_
    | refine occurs_outside _ _ _ _ (by decide) ?_
    | (intro _; skip)
    | simp

theorem execIdentifyMemoryDevice_outside (fn : FnIx) (s : State) (fm : Nat) (hfm : 2151677969 &&& fm = 2151677969) :
    s.framedBy fm (execIdentifyMemoryDevice fn s) := by
  refine State.framedBy_mono hfm ?_
  unfold execIdentifyMemoryDevice
  repeat' first
    | (simp; done)
    | (rw [← snd_outside ‹_ = (_, _)›]; simp; done)
    | (rw [← thd_outside ‹_ = (_, _, _)›]; simp; done)
    | split
    | refine (State.each_outside _ _ _ _ ?_).trans ?_
    | refine (foldl_outside _ _ ?_ _ _).trans ?_
    | refine (State.when_outside _ _ _ _ ?_).trans ?_
    | refine occurs_outside _ _ _ _ (by decide) ?_
    | (intro _; skip)
    | simp

theorem execGetPartitionInfo_outside (fn : FnIx) (s : State) (fm : Nat) (hfm : 2151677969 &&& fm = 2151677969) :
    s.framedBy fm (execGetPartitionInfo fn s) := by
  refine State.framedBy_mono hfm ?_
  unfold execGetPartitionInfo
  repeat' first
    | (simp; done)
    | (rw [← snd_outside ‹_ = (_, _)›]; simp; done)
    | (rw [← thd_outside ‹_ = (_, _, _)›]; simp; done)
    | split
    | refine (State.each_outside _ _ _ _ ?_).trans ?_
    | refine (foldl_outside _ _ ?_ _ _).trans ?_
    | refine (State.when_outside _ _ _ _ ?_).trans ?_
    | refine occurs_outside _ _ _ _ (by decide) ?_
    | (intro _; skip)
    | simp

theorem execSetPartitionInfo_outside (fn : FnIx) (vol : Nat) (immediate : Bool) (s : State) (fm : Nat) (hfm : 2151743505 &&& fm = 2151743505) :
    s.framedBy fm (execSetPartitionInfo fn vol immediate s) := by
  refine State.framedBy_mono hfm ?_
  unfold execSetPartitionInfo
  repeat' first
    | (simp; done)
    | (rw [← snd_outside ‹_ = (_, _)›]; simp; done)
    | (rw [← thd_outside ‹_ = (_, _, _)›]; simp; done)
    | split
    | refine (State.each_outside _ _ _ _ ?_).trans ?_
    | refine (foldl_outside _ _ ?_ _ _).trans ?_
    | refine (State.when_outside _ _ _ _ ?_).trans ?_
    | refine occurs_outside _ _ _ _ (by decide) ?_
    | (intro _; skip)
    | simp

theorem execGetHealthInfo_outside (fn : FnIx) (s : State) (fm : Nat) (hfm : 3225419793 &&& fm = 3225419793) :
    s.framedBy fm (execGetHealthInfo fn s) := by
  refine State.framedBy_mono hfm ?_
  unfold execGetHealthInfo
  repeat' first
    | (simp; done)
    | (rw [← snd_outside ‹_ = (_, _)›]; simp; done)
    | (rw [← thd_outside ‹_ = (_, _, _)›]; simp; done)
    | split
    | refine (State.each_outside _ _ _ _ ?_).trans ?_
    | refine (foldl_outside _ _ ?_ _ _).trans ?_
    | refine (State.when_outside _ _ _ _ ?_).trans ?_
    | refine occurs_outside _ _ _ _ (by decide) ?_
    | (intro _; skip)
    | simp

theorem execGetAlertConfiguration_outside (fn : FnIx) (s : State) (fm : Nat) (hfm : 2151677969 &&& fm = 2151677969) :
    s.framedBy fm (execGetAlertConfiguration fn s) := by
  refine State.framedBy_mono hfm ?_
  unfold execGetAlertConfiguration
  repeat' first
    | (simp; done)
    | (rw [← snd_outside ‹_ = (_, _)›]; simp; done)
    | (rw [← thd_outside ‹_ = (_, _, _)›]; simp; done)
    | split
    | refine (State.each_outside _ _ _ _ ?_).trans ?_
    | refine (foldl_outside _ _ ?_ _ _).trans ?_
    | refine (State.when_outside _ _ _ _ ?_).trans ?_
    | refine occurs_outside _ _ _ _ (by decide) ?_
    | (intro _; skip)
    | simp

theorem execSetAlertConfiguration_outside (fn : FnIx) (settings : List Nat) (s : State) (fm : Nat) (hfm : 2151686161 &&& fm = 2151686161) :
    s.framedBy fm (execSetAlertConfiguration fn settings s) := by
  refine State.framedBy_mono hfm ?_
  unfold execSetAlertConfiguration
  repeat' first
    | (simp; done)
    | (rw [← snd_outside ‹_ = (_, _)›]; simp; done)
    | (rw [← thd_outside ‹_ = (_, _, _)›]; simp; done)
    | split
    | refine (State.each_outside _ _ _ _ ?_).trans ?_
    | refine (foldl_outside _ _ ?_ _ _).trans ?_
    | refine (State.when_outside _ _ _ _ ?_).trans ?_
    | refine occurs_outside _ _ _ _ (by decide) ?_
    | (intro _; skip)
    | simp

theorem execGetShutdownState_outside (fn : FnIx) (s : State) (fm : Nat) (hfm : 2151677969 &&& fm = 2151677969) :
    s.framedBy fm (execGetShutdownState fn s) := by
  refine State.framedBy_mono hfm ?_
  unfold execGetShutdownState
  repeat' first
    | (simp; done)
    | (rw [← snd_outside ‹_ = (_, _)›]; simp; done)
    | (rw [← thd_outside ‹_ = (_, _, _)›]; simp; done)
    | split
    | refine (State.each_outside _ _ _ _ ?_).trans ?_
    | refine (foldl_outside _ _ ?_ _ _).trans ?_
    | refine (State.when_outside _ _ _ _ ?_).trans ?_
    | refine occurs_outside _ _ _ _ (by decide) ?_
    | (intro _; skip)
    | simp

theorem execSetShutdownState_outside (fn : FnIx) (value : Nat) (s : State) (fm : Nat) (hfm : 2151677969 &&& fm = 2151677969) :
    s.framedBy fm (execSetShutdownState fn value s) := by
  refine State.framedBy_mono hfm ?_
  unfold execSetShutdownState
  repeat' first
    | (simp; done)
    | (rw [← snd_outside ‹_ = (_, _)›]; simp; done)
    | (rw [← thd_outside ‹_ = (_, _, _)›]; simp; done)
    | split
    | refine (State.each_outside _ _ _ _ ?_).trans ?_
    | refine (foldl_outside _ _ ?_ _ _).trans ?_
    | refine (State.when_outside _ _ _ _ ?_).trans ?_
    | refine occurs_outside _ _ _ _ (by decide) ?_
    | (intro _; skip)
    | simp

@[simp] theorem State.getPoison_outside (s : State) (fn : FnIx) (start len : Nat) (fm : Nat) (hfm : 2151694353 &&& fm = 2151694353) :
    (State.getPoison s fn start len).outside fm = s.outside fm := by
  refine outside_mono hfm ?_
  unfold State.getPoison
  (try simp) <;> (repeat' split) <;> simp_all

theorem execGetPoisonList_outside (fn : FnIx) (start len : Nat) (s : State) (fm : Nat) (hfm : 2151694353 &&& fm = 2151694353) :
    s.framedBy fm (execGetPoisonList fn start len s) := by
  refine State.framedBy_mono hfm ?_
  unfold execGetPoisonList
  repeat' first
    | (simp; done)
    | (rw [← snd_outside ‹_ = (_, _)›]; simp; done)
    | (rw [← thd_outside ‹_ = (_, _, _)›]; simp; done)
    | split
    | refine (State.each_outside _ _ _ _ ?_).trans ?_
    | refine (foldl_outside _ _ ?_ _ _).trans ?_
    | refine (State.when_outside _ _ _ _ ?_).trans ?_
    | refine occurs_outside _ _ _ _ (by decide) ?_
    | (intro _; skip)
    | simp

@[simp] theorem State.poisonCommand_outside (s : State) (fn : FnIx) (addr : Nat) (data : Option Line) (fm : Nat) (hfm : 2957008465 &&& fm = 2957008465) :
    (State.poisonCommand s fn addr data).outside fm = s.outside fm := by
  refine outside_mono hfm ?_
  unfold State.poisonCommand
  (try simp) <;> (repeat' split) <;> simp_all

theorem execInjectPoison_outside (fn : FnIx) (addr : Nat) (s : State) (fm : Nat) (hfm : 2957008465 &&& fm = 2957008465) :
    s.framedBy fm (execInjectPoison fn addr s) := by
  refine State.framedBy_mono hfm ?_
  unfold execInjectPoison
  repeat' first
    | (simp; done)
    | (rw [← snd_outside ‹_ = (_, _)›]; simp; done)
    | (rw [← thd_outside ‹_ = (_, _, _)›]; simp; done)
    | split
    | refine (State.each_outside _ _ _ _ ?_).trans ?_
    | refine (foldl_outside _ _ ?_ _ _).trans ?_
    | refine (State.when_outside _ _ _ _ ?_).trans ?_
    | refine occurs_outside _ _ _ _ (by decide) ?_
    | (intro _; skip)
    | simp

theorem execClearPoison_outside (fn : FnIx) (addr : Nat) (data : Line) (s : State) (fm : Nat) (hfm : 2957008465 &&& fm = 2957008465) :
    s.framedBy fm (execClearPoison fn addr data s) := by
  refine State.framedBy_mono hfm ?_
  unfold execClearPoison
  repeat' first
    | (simp; done)
    | (rw [← snd_outside ‹_ = (_, _)›]; simp; done)
    | (rw [← thd_outside ‹_ = (_, _, _)›]; simp; done)
    | split
    | refine (State.each_outside _ _ _ _ ?_).trans ?_
    | refine (foldl_outside _ _ ?_ _ _).trans ?_
    | refine (State.when_outside _ _ _ _ ?_).trans ?_
    | refine occurs_outside _ _ _ _ (by decide) ?_
    | (intro _; skip)
    | simp

theorem execGetScanMediaCapabilities_outside (fn : FnIx) (start len : Nat) (s : State) (fm : Nat) (hfm : 2151677969 &&& fm = 2151677969) :
    s.framedBy fm (execGetScanMediaCapabilities fn start len s) := by
  refine State.framedBy_mono hfm ?_
  unfold execGetScanMediaCapabilities
  repeat' first
    | (simp; done)
    | (rw [← snd_outside ‹_ = (_, _)›]; simp; done)
    | (rw [← thd_outside ‹_ = (_, _, _)›]; simp; done)
    | split
    | refine (State.each_outside _ _ _ _ ?_).trans ?_
    | refine (foldl_outside _ _ ?_ _ _).trans ?_
    | refine (State.when_outside _ _ _ _ ?_).trans ?_
    | refine occurs_outside _ _ _ _ (by decide) ?_
    | (intro _; skip)
    | simp

theorem execScanMedia_outside (fn : FnIx) (start len : Nat) (s : State) (fm : Nat) (hfm : 2151686161 &&& fm = 2151686161) :
    s.framedBy fm (execScanMedia fn start len s) := by
  refine State.framedBy_mono hfm ?_
  unfold execScanMedia
  repeat' first
    | (simp; done)
    | (rw [← snd_outside ‹_ = (_, _)›]; simp; done)
    | (rw [← thd_outside ‹_ = (_, _, _)›]; simp; done)
    | split
    | refine (State.each_outside _ _ _ _ ?_).trans ?_
    | refine (foldl_outside _ _ ?_ _ _).trans ?_
    | refine (State.when_outside _ _ _ _ ?_).trans ?_
    | refine occurs_outside _ _ _ _ (by decide) ?_
    | (intro _; skip)
    | simp

theorem execGetScanMediaResults_outside (fn : FnIx) (s : State) (fm : Nat) (hfm : 2151677969 &&& fm = 2151677969) :
    s.framedBy fm (execGetScanMediaResults fn s) := by
  refine State.framedBy_mono hfm ?_
  unfold execGetScanMediaResults
  repeat' first
    | (simp; done)
    | (rw [← snd_outside ‹_ = (_, _)›]; simp; done)
    | (rw [← thd_outside ‹_ = (_, _, _)›]; simp; done)
    | split
    | refine (State.each_outside _ _ _ _ ?_).trans ?_
    | refine (foldl_outside _ _ ?_ _ _).trans ?_
    | refine (State.when_outside _ _ _ _ ?_).trans ?_
    | refine occurs_outside _ _ _ _ (by decide) ?_
    | (intro _; skip)
    | simp

@[simp] theorem State.vendorLog_outside (s : State) (fn : FnIx) (type start count : Nat) (fm : Nat) (hfm : 2151677969 &&& fm = 2151677969) :
    (State.vendorLog s fn type start count).outside fm = s.outside fm := by
  refine outside_mono hfm ?_
  unfold State.vendorLog
  (try simp) <;> (repeat' split) <;> simp_all

theorem execGetVendorLog_outside (fn : FnIx) (type start count : Nat) (s : State) (fm : Nat) (hfm : 2151677969 &&& fm = 2151677969) :
    s.framedBy fm (execGetVendorLog fn type start count s) := by
  refine State.framedBy_mono hfm ?_
  unfold execGetVendorLog
  repeat' first
    | (simp; done)
    | (rw [← snd_outside ‹_ = (_, _)›]; simp; done)
    | (rw [← thd_outside ‹_ = (_, _, _)›]; simp; done)
    | split
    | refine (State.each_outside _ _ _ _ ?_).trans ?_
    | refine (foldl_outside _ _ ?_ _ _).trans ?_
    | refine (State.when_outside _ _ _ _ ?_).trans ?_
    | refine occurs_outside _ _ _ _ (by decide) ?_
    | (intro _; skip)
    | simp

end Sys2Proof.Machine
end

