-- ==== Sys2Proof/Laws/FrameKeyCmds.lean ====
section
/-!
SUPPORT. Sys2Proof/Laws/FrameKeyCmds.lean: what each operation of Machine/KeyCmds.lean may change.
-/

set_option Elab.async false
namespace Sys2Proof.Machine

@[simp] theorem State.slotCommand_outside (s : State) (fn : FnIx) (k : Nat) (v : Slot) (kept : Bool) (fm : Nat) (hfm : 2151710737 &&& fm = 2151710737) :
    (State.slotCommand s fn k v kept).outside fm = s.outside fm := by
  refine outside_mono hfm ?_
  unfold State.slotCommand
  (try simp) <;> (repeat' split) <;> simp_all

@[simp] theorem State.loadBlob_outside (s : State) (fn : FnIx) (b : KeyBlob) (fm : Nat) (hfm : 2151710737 &&& fm = 2151710737) :
    (State.loadBlob s fn b).outside fm = s.outside fm := by
  refine outside_mono hfm ?_
  unfold State.loadBlob
  (try simp) <;> (repeat' split) <;> simp_all

theorem execLoadKeyBlob_outside (fn : FnIx) (b : KeyBlob) (s : State) (fm : Nat) (hfm : 2151710737 &&& fm = 2151710737) :
    s.framedBy fm (execLoadKeyBlob fn b s) := by
  refine State.framedBy_mono hfm ?_
  unfold execLoadKeyBlob
  repeat' first
    | (simp; done)
    | (rw [← snd_outside ‹_ = (_, _)›]; simp; done)
    | (rw [← thd_outside ‹_ = (_, _, _)›]; simp; done)
    | split
    | refine (State.each_outside _ _ _ _ ?_).trans ?_
    | refine (foldl_outside _ _ ?_ _ _).trans ?_
    | refine (State.when_outside _ _ _ _ ?_).trans ?_
    | refine occurs_outside _ _ _ _ (by decide) ?_
    | (intro _; skip)
    | simp

@[simp] theorem State.eraseGeneral_outside (s : State) (fn : FnIx) (k : Nat) (urgent : Bool) (fm : Nat) (hfm : 2151711249 &&& fm = 2151711249) :
    (State.eraseGeneral s fn k urgent).outside fm = s.outside fm := by
  refine outside_mono hfm ?_
  unfold State.eraseGeneral
  (try simp) <;> (repeat' split) <;> simp_all

@[simp] theorem State.eraseSlotCommand_outside (s : State) (fn : FnIx) (k : Nat) (urgent regenerate : Bool) (fm : Nat) (hfm : 2151721809 &&& fm = 2151721809) :
    (State.eraseSlotCommand s fn k urgent regenerate).outside fm = s.outside fm := by
  refine outside_mono hfm ?_
  unfold State.eraseSlotCommand
  (try simp) <;> (repeat' split) <;> simp_all

theorem execEraseKeySlot_outside (fn : FnIx) (slot : Nat) (urgent regenerate : Bool) (s : State) (fm : Nat) (hfm : 2151721809 &&& fm = 2151721809) :
    s.framedBy fm (execEraseKeySlot fn slot urgent regenerate s) := by
  refine State.framedBy_mono hfm ?_
  unfold execEraseKeySlot
  repeat' first
    | (simp; done)
    | (rw [← snd_outside ‹_ = (_, _)›]; simp; done)
    | (rw [← thd_outside ‹_ = (_, _, _)›]; simp; done)
    | split
    | refine (State.each_outside _ _ _ _ ?_).trans ?_
    | refine (foldl_outside _ _ ?_ _ _).trans ?_
    | refine (State.when_outside _ _ _ _ ?_).trans ?_
    | refine occurs_outside _ _ _ _ (by decide) ?_
    | (intro _; skip)
    | simp

theorem execGetKeySlotStatus_outside (fn : FnIx) (slot : Nat) (s : State) (fm : Nat) (hfm : 2151677969 &&& fm = 2151677969) :
    s.framedBy fm (execGetKeySlotStatus fn slot s) := by
  refine State.framedBy_mono hfm ?_
  unfold execGetKeySlotStatus
  repeat' first
    | (simp; done)
    | (rw [← snd_outside ‹_ = (_, _)›]; simp; done)
    | (rw [← thd_outside ‹_ = (_, _, _)›]; simp; done)
    | split
    | refine (State.each_outside _ _ _ _ ?_).trans ?_
    | refine (foldl_outside _ _ ?_ _ _).trans ?_
    | refine (State.when_outside _ _ _ _ ?_).trans ?_
    | refine occurs_outside _ _ _ _ (by decide) ?_
    | (intro _; skip)
    | simp

theorem execRequestLearnCycle_outside (fn : FnIx) (s : State) (fm : Nat) (hfm : 2152792081 &&& fm = 2152792081) :
    s.framedBy fm (execRequestLearnCycle fn s) := by
  refine State.framedBy_mono hfm ?_
  unfold execRequestLearnCycle
  repeat' first
    | (simp; done)
    | (rw [← snd_outside ‹_ = (_, _)›]; simp; done)
    | (rw [← thd_outside ‹_ = (_, _, _)›]; simp; done)
    | split
    | refine (State.each_outside _ _ _ _ ?_).trans ?_
    | refine (foldl_outside _ _ ?_ _ _).trans ?_
    | refine (State.when_outside _ _ _ _ ?_).trans ?_
    | refine occurs_outside _ _ _ _ (by decide) ?_
    | (intro _; skip)
    | simp

theorem execGetLearnStatus_outside (fn : FnIx) (s : State) (fm : Nat) (hfm : 2151677969 &&& fm = 2151677969) :
    s.framedBy fm (execGetLearnStatus fn s) := by
  refine State.framedBy_mono hfm ?_
  unfold execGetLearnStatus
  repeat' first
    | (simp; done)
    | (rw [← snd_outside ‹_ = (_, _)›]; simp; done)
    | (rw [← thd_outside ‹_ = (_, _, _)›]; simp; done)
    | split
    | refine (State.each_outside _ _ _ _ ?_).trans ?_
    | refine (foldl_outside _ _ ?_ _ _).trans ?_
    | refine (State.when_outside _ _ _ _ ?_).trans ?_
    | refine occurs_outside _ _ _ _ (by decide) ?_
    | (intro _; skip)
    | simp

theorem execSetLdAllocations_outside (s : State) (fm : Nat) (hfm : 2151677969 &&& fm = 2151677969) :
    s.framedBy fm (execSetLdAllocations s) := by
  refine State.framedBy_mono hfm ?_
  unfold execSetLdAllocations
  (try simp) <;> (repeat' split) <;> simp_all

theorem State.mctpControl_outside (s : State) (f : State → State) (m : Nat) (hm : 2147483648 &&& m = 2147483648)
    (h : ∀ x, (f x).outside m = x.outside m) : s.framedBy m (s.mctpControl f) := occurs_outside _ _ _ _ hm h

@[simp] theorem State.mctpReply_outside (s : State) (code : RetCode) (payload : List Nat) (fm : Nat) (hfm : 4194304 &&& fm = 4194304) :
    (State.mctpReply s code payload).outside fm = s.outside fm := by
  refine outside_mono hfm ?_
  unfold State.mctpReply
  (try simp) <;> (repeat' split) <;> simp_all

theorem execSetEndpointId_outside (eid : Nat) (s : State) (fm : Nat) (hfm : 2151677953 &&& fm = 2151677953) :
    s.framedBy fm (execSetEndpointId eid s) := by
  refine State.framedBy_mono hfm ?_
  unfold execSetEndpointId
  repeat' first
    | (simp; done)
    | (rw [← snd_outside ‹_ = (_, _)›]; simp; done)
    | (rw [← thd_outside ‹_ = (_, _, _)›]; simp; done)
    | split
    | refine (State.each_outside _ _ _ _ ?_).trans ?_
    | refine (foldl_outside _ _ ?_ _ _).trans ?_
    | refine (State.when_outside _ _ _ _ ?_).trans ?_
    | refine occurs_outside _ _ _ _ (by decide) ?_
    | (intro _; skip)
    | simp

theorem execGetEndpointId_outside (s : State) (fm : Nat) (hfm : 2151677952 &&& fm = 2151677952) :
    s.framedBy fm (execGetEndpointId s) := by
  refine State.framedBy_mono hfm ?_
  unfold execGetEndpointId
  repeat' first
    | (simp; done)
    | (rw [← snd_outside ‹_ = (_, _)›]; simp; done)
    | (rw [← thd_outside ‹_ = (_, _, _)›]; simp; done)
    | split
    | refine (State.each_outside _ _ _ _ ?_).trans ?_
    | refine (foldl_outside _ _ ?_ _ _).trans ?_
    | refine (State.when_outside _ _ _ _ ?_).trans ?_
    | refine occurs_outside _ _ _ _ (by decide) ?_
    | (intro _; skip)
    | simp

theorem execGetMctpVersionSupport_outside (s : State) (fm : Nat) (hfm : 3225419776 &&& fm = 3225419776) :
    s.framedBy fm (execGetMctpVersionSupport s) := by
  refine State.framedBy_mono hfm ?_
  unfold execGetMctpVersionSupport
  repeat' first
    | (simp; done)
    | (rw [← snd_outside ‹_ = (_, _)›]; simp; done)
    | (rw [← thd_outside ‹_ = (_, _, _)›]; simp; done)
    | split
    | refine (State.each_outside _ _ _ _ ?_).trans ?_
    | refine (foldl_outside _ _ ?_ _ _).trans ?_
    | refine (State.when_outside _ _ _ _ ?_).trans ?_
    | refine occurs_outside _ _ _ _ (by decide) ?_
    | (intro _; skip)
    | simp

theorem execGetMessageTypeSupport_outside (s : State) (fm : Nat) (hfm : 2151677952 &&& fm = 2151677952) :
    s.framedBy fm (execGetMessageTypeSupport s) := by
  refine State.framedBy_mono hfm ?_
  unfold execGetMessageTypeSupport
  repeat' first
    | (simp; done)
    | (rw [← snd_outside ‹_ = (_, _)›]; simp; done)
    | (rw [← thd_outside ‹_ = (_, _, _)›]; simp; done)
    | split
    | refine (State.each_outside _ _ _ _ ?_).trans ?_
    | refine (foldl_outside _ _ ?_ _ _).trans ?_
    | refine (State.when_outside _ _ _ _ ?_).trans ?_
    | refine occurs_outside _ _ _ _ (by decide) ?_
    | (intro _; skip)
    | simp

end Sys2Proof.Machine
end

