-- ==== Sys2Proof/Laws/FrameRegPath.lean ====
section
/-!
SUPPORT. Sys2Proof/Laws/FrameRegPath.lean: what each operation of Machine/RegPath.lean may change.
-/

set_option Elab.async false
namespace Sys2Proof.Machine

@[simp] theorem State.onRequest_outside (s : State) (fm : Nat) (hfm : 262161 &&& fm = 262161) :
    (State.onRequest s).outside fm = s.outside fm := by
  refine outside_mono hfm ?_
  unfold State.onRequest
  (try simp) <;> (repeat' split) <;> simp_all

@[simp] theorem State.writeActs_outside (s : State) (off : Nat) (v : Word) (fm : Nat) (hfm : 2390689079 &&& fm = 2390689079) :
    (State.writeActs s off v).outside fm = s.outside fm := by
  refine outside_mono hfm ?_
  unfold State.writeActs
  (try simp) <;> (repeat' split) <;> simp_all

@[simp] theorem State.shadowWrite_outside (s : State) (d : RegDef) (off : Nat) (v : Word) (fm : Nat) (hfm : 4 &&& fm = 4) :
    (State.shadowWrite s d off v).outside fm = s.outside fm := by
  refine outside_mono hfm ?_
  unfold State.shadowWrite
  (try simp) <;> (repeat' split) <;> simp_all

@[simp] theorem State.fieldsWrite_outside (s : State) (p : Nat) (d : RegDef) (off : Nat) (v : Word) (fm : Nat) (hfm : 5 &&& fm = 5) :
    (State.fieldsWrite s p d off v).outside fm = s.outside fm := by
  refine outside_mono hfm ?_
  unfold State.fieldsWrite
  (try simp) <;> (repeat' split) <;> simp_all

@[simp] theorem State.writeOne_outside (s : State) (p : Nat) (d : RegDef) (off : Nat) (v : Word) (fm : Nat) (hfm : 2390689087 &&& fm = 2390689087) :
    (State.writeOne s p d off v).outside fm = s.outside fm := by
  refine outside_mono hfm ?_
  unfold State.writeOne
  (try simp) <;> (repeat' split) <;> simp_all

@[simp] theorem State.rwlReport_outside (s : State) (p off : Nat) (fm : Nat) (hfm : 25 &&& fm = 25) :
    (State.rwlReport s p off).outside fm = s.outside fm := by
  refine outside_mono hfm ?_
  unfold State.rwlReport
  (try simp) <;> (repeat' split) <;> simp_all

@[simp] theorem State.splitReport_outside (s : State) (fm : Nat) (hfm : 17 &&& fm = 17) :
    (State.splitReport s).outside fm = s.outside fm := by
  refine outside_mono hfm ?_
  unfold State.splitReport
  (try simp) <;> (repeat' split) <;> simp_all

@[simp] theorem State.writeAt_outside (s : State) (p a : Nat) (v : Word) (fm : Nat) (hfm : 2390689087 &&& fm = 2390689087) :
    (State.writeAt s p a v).outside fm = s.outside fm := by
  refine outside_mono hfm ?_
  unfold State.writeAt
  (try simp) <;> (repeat' split) <;> simp_all

@[simp] theorem State.writeAll_outside (s : State) (p off : Nat) (v : Word) (l : List Nat) (fm : Nat) (hfm : 2390689087 &&& fm = 2390689087) :
    (State.writeAll s p off v l).outside fm = s.outside fm := by
  refine outside_mono hfm ?_
  unfold State.writeAll
  (try simp) <;> (repeat' split) <;> simp_all

@[simp] theorem State.unmappedWrite_outside (s : State) (p off : Nat) (fm : Nat) (hfm : 25 &&& fm = 25) :
    (State.unmappedWrite s p off).outside fm = s.outside fm := by
  refine outside_mono hfm ?_
  unfold State.unmappedWrite
  (try simp) <;> (repeat' split) <;> simp_all

@[simp] theorem State.writeTo_outside (s : State) (p off : Nat) (v : Word) (n0 : Option (List Nat)) (fm : Nat) (hfm : 2390689087 &&& fm = 2390689087) :
    (State.writeTo s p off v n0).outside fm = s.outside fm := by
  refine outside_mono hfm ?_
  unfold State.writeTo
  (try simp) <;> (repeat' split) <;> simp_all

@[simp] theorem State.writeMapped_outside (s : State) (p off : Nat) (v : Word) (fm : Nat) (hfm : 2390689087 &&& fm = 2390689087) :
    (State.writeMapped s p off v).outside fm = s.outside fm := by
  refine outside_mono hfm ?_
  unfold State.writeMapped
  (try simp) <;> (repeat' split) <;> simp_all

@[simp] theorem State.writeReg_outside (s : State) (p off : Nat) (v : Word) (fm : Nat) (hfm : 2390689087 &&& fm = 2390689087) :
    (State.writeReg s p off v).outside fm = s.outside fm := by
  refine outside_mono hfm ?_
  unfold State.writeReg
  (try simp) <;> (repeat' split) <;> simp_all

@[simp] theorem State.writeWord_outside (s : State) (p off : Nat) (v : Word) (be : BitVec 4) (fm : Nat) (hfm : 2390689087 &&& fm = 2390689087) :
    (State.writeWord s p off v be).outside fm = s.outside fm := by
  refine outside_mono hfm ?_
  unfold State.writeWord
  (try simp) <;> (repeat' split) <;> simp_all

@[simp] theorem State.writePart_outside (s : State) (k : Nat) (a : RegAccess) (fm : Nat) (hfm : 2390689087 &&& fm = 2390689087) :
    (State.writePart s k a).outside fm = s.outside fm := by
  refine outside_mono hfm ?_
  unfold State.writePart
  (try simp) <;> (repeat' split) <;> simp_all

theorem execRegisterWrite_outside (accesses : List RegAccess) (s : State) (fm : Nat) (hfm : 2390689087 &&& fm = 2390689087) :
    s.framedBy fm (execRegisterWrite accesses s) := by
  refine State.framedBy_mono hfm ?_
  unfold execRegisterWrite
  (try simp) <;> (repeat' split) <;> simp_all

theorem execBroadcastWrite_outside (a : RegAccess) (s : State) (fm : Nat) (hfm : 2390689087 &&& fm = 2390689087) :
    s.framedBy fm (execBroadcastWrite a s) := by
  refine State.framedBy_mono hfm ?_
  unfold execBroadcastWrite
  (try simp) <;> (repeat' split) <;> simp_all

@[simp] theorem State.readPath_outside (s : State) (p off : Nat) (fm : Nat) (hfm : 9 &&& fm = 9) :
    (State.readPath s p off).2.outside fm = s.outside fm := by
  refine outside_mono hfm ?_
  unfold State.readPath
  (try simp) <;> (repeat' split) <;> simp_all

theorem execBroadcastRead_outside (path : PathIx) (off : Offset) (s : State) (fm : Nat) (hfm : 2147483657 &&& fm = 2147483657) :
    s.framedBy fm (execBroadcastRead path off s) := by
  refine State.framedBy_mono hfm ?_
  unfold execBroadcastRead
  (try simp) <;> (repeat' split) <;> simp_all

end Sys2Proof.Machine
end

