-- ==== Sys2Proof/Laws/FrameTwoWire.lean ====
section
/-!
SUPPORT. Sys2Proof/Laws/FrameTwoWire.lean: what each operation of Machine/TwoWire.lean may change.
-/

set_option Elab.async false
namespace Sys2Proof.Machine

@[simp] theorem State.aonMatched_outside (s : State) (fm : Nat) (hfm : 4194304 &&& fm = 4194304) :
    (State.aonMatched s).outside fm = s.outside fm := by
  refine outside_mono hfm ?_
  unfold State.aonMatched
  (try simp) <;> (repeat' split) <;> simp_all

theorem State.onTw0_outside (s : State) (f : State → State) (m : Nat) (hm : 2151677952 &&& m = 2151677952)
    (h : ∀ x, (f x).outside m = x.outside m) : s.framedBy m (s.onTw0 f) := by
  refine occurs_outside _ _ _ _ (by have := congrArg (fun x => 2147483648 &&& x) hm; simpa [← Nat.and_assoc] using this) fun x => ?_
  exact (h _).trans (outside_mono hm (by simp))

theorem execTw0PageWrite_outside (page : Byte) (s : State) (fm : Nat) (hfm : 2151677953 &&& fm = 2151677953) :
    s.framedBy fm (execTw0PageWrite page s) := by
  refine State.framedBy_mono hfm ?_
  unfold execTw0PageWrite
  repeat' first
    | (simp; done)
    | (rw [← snd_outside ‹_ = (_, _)›]; simp; done)
    | (rw [← thd_outside ‹_ = (_, _, _)›]; simp; done)
    | split
    | refine (State.each_outside _ _ _ _ ?_).trans ?_
    | refine (foldl_outside _ _ ?_ _ _).trans ?_
    | refine (State.when_outside _ _ _ _ ?_).trans ?_
    | refine occurs_outside _ _ _ _ (by decide) ?_
    | (intro _; skip)
    | simp

theorem execTw0PageRead_outside (s : State) (fm : Nat) (hfm : 2151677952 &&& fm = 2151677952) :
    s.framedBy fm (execTw0PageRead s) := by
  refine State.framedBy_mono hfm ?_
  unfold execTw0PageRead
  repeat' first
    | (simp; done)
    | (rw [← snd_outside ‹_ = (_, _)›]; simp; done)
    | (rw [← thd_outside ‹_ = (_, _, _)›]; simp; done)
    | split
    | refine (State.each_outside _ _ _ _ ?_).trans ?_
    | refine (foldl_outside _ _ ?_ _ _).trans ?_
    | refine (State.when_outside _ _ _ _ ?_).trans ?_
    | refine occurs_outside _ _ _ _ (by decide) ?_
    | (intro _; skip)
    | simp

@[simp] theorem State.tw0Malformed_outside (s : State) (fm : Nat) (hfm : 17 &&& fm = 17) :
    (State.tw0Malformed s).outside fm = s.outside fm := by
  refine outside_mono hfm ?_
  unfold State.tw0Malformed
  (try simp) <;> (repeat' split) <;> simp_all

@[simp] theorem State.tw0PecErr_outside (s : State) (fm : Nat) (hfm : 17 &&& fm = 17) :
    (State.tw0PecErr s).outside fm = s.outside fm := by
  refine outside_mono hfm ?_
  unfold State.tw0PecErr
  (try simp) <;> (repeat' split) <;> simp_all

@[simp] theorem State.tw0Words_outside (s : State) (ptr : Nat) (data : List Byte) (fm : Nat) (hfm : 2390689087 &&& fm = 2390689087) :
    (State.tw0Words s ptr data).outside fm = s.outside fm := by
  refine outside_mono hfm ?_
  unfold State.tw0Words
  (try simp) <;> (repeat' split) <;> simp_all

@[simp] theorem State.tw0Write_outside (s : State) (bytes : List Byte) (fm : Nat) (hfm : 2390689087 &&& fm = 2390689087) :
    (State.tw0Write s bytes).outside fm = s.outside fm := by
  refine outside_mono hfm ?_
  unfold State.tw0Write
  (try simp) <;> (repeat' split) <;> simp_all

theorem execTw0RegWrite_outside (bytes : List Byte) (s : State) (fm : Nat) (hfm : 2390689087 &&& fm = 2390689087) :
    s.framedBy fm (execTw0RegWrite bytes s) := by
  refine State.framedBy_mono hfm ?_
  unfold execTw0RegWrite
  repeat' first
    | (simp; done)
    | (rw [← snd_outside ‹_ = (_, _)›]; simp; done)
    | (rw [← thd_outside ‹_ = (_, _, _)›]; simp; done)
    | split
    | refine (State.each_outside _ _ _ _ ?_).trans ?_
    | refine (foldl_outside _ _ ?_ _ _).trans ?_
    | refine (State.when_outside _ _ _ _ ?_).trans ?_
    | refine occurs_outside _ _ _ _ (by decide) ?_
    | (intro _; skip)
    | simp

@[simp] theorem State.tw0Word_outside (s : State) (a : Nat) (fm : Nat) (hfm : 25 &&& fm = 25) :
    (State.tw0Word s a).2.outside fm = s.outside fm := by
  refine outside_mono hfm ?_
  unfold State.tw0Word
  (try simp) <;> (repeat' split) <;> simp_all

@[simp] theorem State.tw0Bytes_outside (s : State) (first : Bool) (a : Nat) (w : Word) (n0 : Nat) (fm : Nat) (hfm : 25 &&& fm = 25) :
    (State.tw0Bytes s first a w n0).2.outside fm = s.outside fm := by
  refine outside_mono hfm ?_
  induction n0 generalizing s first a w with
  | zero => rfl
  | succ n ih =>
    unfold State.tw0Bytes
    dsimp only
    refine (ih _ _ _ _).trans ?_
    split <;> split <;> simp

@[simp] theorem State.tw0Read_outside (s : State) (ptr count : Nat) (fm : Nat) (hfm : 25 &&& fm = 25) :
    (State.tw0Read s ptr count).2.outside fm = s.outside fm := by
  refine outside_mono hfm ?_
  unfold State.tw0Read
  (try simp) <;> (repeat' split) <;> simp_all

theorem execTw0RegRead_outside (ptr count : Nat) (s : State) (fm : Nat) (hfm : 2151677977 &&& fm = 2151677977) :
    s.framedBy fm (execTw0RegRead ptr count s) := by
  refine State.framedBy_mono hfm ?_
  unfold execTw0RegRead
  repeat' first
    | (simp; done)
    | (rw [← snd_outside ‹_ = (_, _)›]; simp; done)
    | (rw [← thd_outside ‹_ = (_, _, _)›]; simp; done)
    | split
    | refine (State.each_outside _ _ _ _ ?_).trans ?_
    | refine (foldl_outside _ _ ?_ _ _).trans ?_
    | refine (State.when_outside _ _ _ _ ?_).trans ?_
    | refine occurs_outside _ _ _ _ (by decide) ?_
    | (intro _; skip)
    | simp

theorem execTw0BlockRead_outside (ptr count : Nat) (s : State) (fm : Nat) (hfm : 2151677977 &&& fm = 2151677977) :
    s.framedBy fm (execTw0BlockRead ptr count s) := by
  refine State.framedBy_mono hfm ?_
  unfold execTw0BlockRead
  repeat' first
    | (simp; done)
    | (rw [← snd_outside ‹_ = (_, _)›]; simp; done)
    | (rw [← thd_outside ‹_ = (_, _, _)›]; simp; done)
    | split
    | refine (State.each_outside _ _ _ _ ?_).trans ?_
    | refine (foldl_outside _ _ ?_ _ _).trans ?_
    | refine (State.when_outside _ _ _ _ ?_).trans ?_
    | refine occurs_outside _ _ _ _ (by decide) ?_
    | (intro _; skip)
    | simp

theorem execTw0StatusRead_outside (s : State) (fm : Nat) (hfm : 2151677952 &&& fm = 2151677952) :
    s.framedBy fm (execTw0StatusRead s) := by
  refine State.framedBy_mono hfm ?_
  unfold execTw0StatusRead
  repeat' first
    | (simp; done)
    | (rw [← snd_outside ‹_ = (_, _)›]; simp; done)
    | (rw [← thd_outside ‹_ = (_, _, _)›]; simp; done)
    | split
    | refine (State.each_outside _ _ _ _ ?_).trans ?_
    | refine (foldl_outside _ _ ?_ _ _).trans ?_
    | refine (State.when_outside _ _ _ _ ?_).trans ?_
    | refine occurs_outside _ _ _ _ (by decide) ?_
    | (intro _; skip)
    | simp

theorem execTw0OtherCommandByte_outside (b : Byte) (s : State) (fm : Nat) (hfm : 2151677952 &&& fm = 2151677952) :
    s.framedBy fm (execTw0OtherCommandByte b s) := by
  refine State.framedBy_mono hfm ?_
  unfold execTw0OtherCommandByte
  repeat' first
    | (simp; done)
    | (rw [← snd_outside ‹_ = (_, _)›]; simp; done)
    | (rw [← thd_outside ‹_ = (_, _, _)›]; simp; done)
    | split
    | refine (State.each_outside _ _ _ _ ?_).trans ?_
    | refine (foldl_outside _ _ ?_ _ _).trans ?_
    | refine (State.when_outside _ _ _ _ ?_).trans ?_
    | refine occurs_outside _ _ _ _ (by decide) ?_
    | (intro _; skip)
    | simp

theorem execTw0Timeout_outside (s : State) (fm : Nat) (hfm : 2147483665 &&& fm = 2147483665) :
    s.framedBy fm (execTw0Timeout s) := by
  refine State.framedBy_mono hfm ?_
  unfold execTw0Timeout
  (try simp) <;> (repeat' split) <;> simp_all

theorem execTw0AonWake_outside (s : State) (fm : Nat) (hfm : 2151677952 &&& fm = 2151677952) :
    s.framedBy fm (execTw0AonWake s) := by
  refine State.framedBy_mono hfm ?_
  unfold execTw0AonWake
  (try simp) <;> (repeat' split) <;> simp_all

theorem execTw0AonSleep_outside (s : State) (fm : Nat) (hfm : 2151677952 &&& fm = 2151677952) :
    s.framedBy fm (execTw0AonSleep s) := by
  refine State.framedBy_mono hfm ?_
  unfold execTw0AonSleep
  (try simp) <;> (repeat' split) <;> simp_all

theorem execOnReq_outside (path : PathIx) (s : State) (fm : Nat) (hfm : 2147745817 &&& fm = 2147745817) :
    s.framedBy fm (execOnReq path s) := by
  refine State.framedBy_mono hfm ?_
  unfold execOnReq
  (try simp) <;> (repeat' split) <;> simp_all

theorem execAlertResponse_outside (won : Bool) (s : State) (fm : Nat) (hfm : 2152202257 &&& fm = 2152202257) :
    s.framedBy fm (execAlertResponse won s) := by
  refine State.framedBy_mono hfm ?_
  unfold execAlertResponse
  repeat' first
    | (simp; done)
    | (rw [← snd_outside ‹_ = (_, _)›]; simp; done)
    | (rw [← thd_outside ‹_ = (_, _, _)›]; simp; done)
    | split
    | refine (State.each_outside _ _ _ _ ?_).trans ?_
    | refine (foldl_outside _ _ ?_ _ _).trans ?_
    | refine (State.when_outside _ _ _ _ ?_).trans ?_
    | refine occurs_outside _ _ _ _ (by decide) ?_
    | (intro _; skip)
    | simp

@[simp] theorem State.mctpDrop_outside (s : State) (fm : Nat) (hfm : 4194321 &&& fm = 4194321) :
    (State.mctpDrop s).outside fm = s.outside fm := by
  refine outside_mono hfm ?_
  unfold State.mctpDrop
  (try simp) <;> (repeat' split) <;> simp_all

@[simp] theorem State.mctpJoin_outside (s : State) (p : MctpPacket) (before : List Byte) (fm : Nat) (hfm : 2151677969 &&& fm = 2151677969) :
    (State.mctpJoin s p before).outside fm = s.outside fm := by
  refine outside_mono hfm ?_
  unfold State.mctpJoin
  (try simp) <;> (repeat' split) <;> simp_all

@[simp] theorem State.mctpPacket_outside (s : State) (p : MctpPacket) (fm : Nat) (hfm : 2151677969 &&& fm = 2151677969) :
    (State.mctpPacket s p).outside fm = s.outside fm := by
  refine outside_mono hfm ?_
  unfold State.mctpPacket
  (try simp) <;> (repeat' split) <;> simp_all

theorem execTw0MctpPacket_outside (p : MctpPacket) (s : State) (fm : Nat) (hfm : 2151677969 &&& fm = 2151677969) :
    s.framedBy fm (execTw0MctpPacket p s) := by
  refine State.framedBy_mono hfm ?_
  unfold execTw0MctpPacket
  repeat' first
    | (simp; done)
    | (rw [← snd_outside ‹_ = (_, _)›]; simp; done)
    | (rw [← thd_outside ‹_ = (_, _, _)›]; simp; done)
    | split
    | refine (State.each_outside _ _ _ _ ?_).trans ?_
    | refine (foldl_outside _ _ ?_ _ _).trans ?_
    | refine (State.when_outside _ _ _ _ ?_).trans ?_
    | refine occurs_outside _ _ _ _ (by decide) ?_
    | (intro _; skip)
    | simp

theorem execTw0MctpResponse_outside (sent : Bool) (s : State) (fm : Nat) (hfm : 2151677969 &&& fm = 2151677969) :
    s.framedBy fm (execTw0MctpResponse sent s) := by
  refine State.framedBy_mono hfm ?_
  unfold execTw0MctpResponse
  (try simp) <;> (repeat' split) <;> simp_all

@[simp] theorem State.burnorSend_outside (s : State) (n : Nat) (r : TwReq) (code : Nat) (fm : Nat) (hfm : 8388625 &&& fm = 8388625) :
    (State.burnorSend s n r code).outside fm = s.outside fm := by
  refine outside_mono hfm ?_
  unfold State.burnorSend
  (try simp) <;> (repeat' split) <;> simp_all

@[simp] theorem State.twEnds_outside (s : State) (n : Nat) (r : TwReq) (code : Nat) (data : List Byte) (fm : Nat) (hfm : 2155872273 &&& fm = 2155872273) :
    (State.twEnds s n r code data).outside fm = s.outside fm := by
  refine outside_mono hfm ?_
  unfold State.twEnds
  (try simp) <;> (repeat' split) <;> simp_all

@[simp] theorem State.twBegins_outside (s : State) (n : Nat) (r : TwReq) (fm : Nat) (hfm : 2155872257 &&& fm = 2155872257) :
    (State.twBegins s n r).outside fm = s.outside fm := by
  refine outside_mono hfm ?_
  unfold State.twBegins
  (try simp) <;> (repeat' split) <;> simp_all

theorem execTwTransactionStart_outside (k : TwIx) (reqs : List TwReq) (s : State) (fm : Nat) (hfm : 2155872273 &&& fm = 2155872273) :
    s.framedBy fm (execTwTransactionStart k reqs s) := by
  refine State.framedBy_mono hfm ?_
  unfold execTwTransactionStart
  (try simp) <;> (repeat' split) <;> simp_all

theorem execTwTransactionEnd_outside (k : TwIx) (r : TwResult) (data : List Byte) (s : State) (fm : Nat) (hfm : 2155872273 &&& fm = 2155872273) :
    s.framedBy fm (execTwTransactionEnd k r data s) := by
  refine State.framedBy_mono hfm ?_
  unfold execTwTransactionEnd
  (try simp) <;> (repeat' split) <;> simp_all

theorem execTwArbRetry_outside (k : TwIx) (backoff : Fin 16) (s : State) (fm : Nat) (hfm : 2155872273 &&& fm = 2155872273) :
    s.framedBy fm (execTwArbRetry k backoff s) := by
  refine State.framedBy_mono hfm ?_
  unfold execTwArbRetry
  (try simp) <;> (repeat' split) <;> simp_all

@[simp] theorem State.twPulse_outside (s : State) (n : Nat) (fm : Nat) (hfm : 2147483665 &&& fm = 2147483665) :
    (State.twPulse s n).outside fm = s.outside fm := by
  refine outside_mono hfm ?_
  unfold State.twPulse
  (try simp) <;> (repeat' split) <;> simp_all

theorem execTwSclTimeout_outside (k : TwIx) (still : Bool) (s : State) (fm : Nat) (hfm : 2155872273 &&& fm = 2155872273) :
    s.framedBy fm (execTwSclTimeout k still s) := by
  refine State.framedBy_mono hfm ?_
  unfold execTwSclTimeout
  (try simp) <;> (repeat' split) <;> simp_all

@[simp] theorem State.busClear_outside (s : State) (n : Nat) (freedAt : Option (Fin 3)) (fm : Nat) (hfm : 2155872273 &&& fm = 2155872273) :
    (State.busClear s n freedAt).outside fm = s.outside fm := by
  refine outside_mono hfm ?_
  unfold State.busClear
  (try simp) <;> (repeat' split) <;> simp_all

theorem execBusClear_outside (k : TwIx) (freedAt : Option (Fin 3)) (s : State) (fm : Nat) (hfm : 2155872273 &&& fm = 2155872273) :
    s.framedBy fm (execBusClear k freedAt s) := by
  refine State.framedBy_mono hfm ?_
  unfold execBusClear
  (try simp) <;> (repeat' split) <;> simp_all

theorem execTwSdaTimeout_outside (k : TwIx) (s : State) (fm : Nat) (hfm : 2147483665 &&& fm = 2147483665) :
    s.framedBy fm (execTwSdaTimeout k s) := by
  refine State.framedBy_mono hfm ?_
  unfold execTwSdaTimeout
  (try simp) <;> (repeat' split) <;> simp_all

theorem execTwHungRetry_outside (k : TwIx) (freedAt : Option (Fin 3)) (s : State) (fm : Nat) (hfm : 2155872273 &&& fm = 2155872273) :
    s.framedBy fm (execTwHungRetry k freedAt s) := by
  refine State.framedBy_mono hfm ?_
  unfold execTwHungRetry
  (try simp) <;> (repeat' split) <;> simp_all

theorem execJtagInstruction_outside (op : JtagOp) (s : State) (fm : Nat) (hfm : 2148007936 &&& fm = 2148007936) :
    s.framedBy fm (execJtagInstruction op s) := by
  refine State.framedBy_mono hfm ?_
  unfold execJtagInstruction
  (try simp) <;> (repeat' split) <;> simp_all

end Sys2Proof.Machine
end

