-- ==== Sys2Proof/Laws/Kept.lean ====
section
/-!
SUPPORT. Sys2Proof/Laws/Kept.lean: what DRAM holds, the fuses and the queue, as one value that most operations keep.
-/

set_option Elab.async false
namespace Sys2Proof.Machine

/-- The bytes of DRAM, the fuses and the waiting commands. -/
def State.kept (s : State) : List Host.Cell × Otp × List Instr := (s.dram, s.otp, s.pending)

@[simp] theorem kept_mk (x0 x1 x2 x3 x4 x5 x6 x7 x8 x9 x10 x11 x12 x13 x14 x15 x16 x17 x18 x19 x20 x21 x22 x23 x24 x25 x26 x27 x28 x29 x30 x31 x32) :
    State.kept ⟨x0, x1, x2, x3, x4, x5, x6, x7, x8, x9, x10, x11, x12, x13, x14, x15, x16, x17, x18, x19, x20, x21, x22, x23, x24, x25, x26, x27, x28, x29, x30, x31, x32⟩ = (x28, x25, x32) := rfl

@[simp] theorem kept_eta (s : State) : (s.dram, s.otp, s.pending) = s.kept := rfl

@[simp] theorem kept_ite (c : Prop) [Decidable c] (s t : State) : (if c then s else t).kept = if c then s.kept else t.kept := by
  split <;> rfl

theorem snd_kept {α : Type} {r : α × State} {a : α} {t : State} (h : r = (a, t)) : r.2.kept = t.kept := by rw [h]

theorem thd_kept {α β : Type} {r : α × β × State} {a : α} {b : β} {t : State} (h : r = (a, b, t)) : r.2.2.kept = t.kept := by
  rw [h]

@[simp] theorem State.when_kept (s : State) (c : Bool) (f : State → State) (h : ∀ x, (f x).kept = x.kept) :
    (s.when c f).kept = s.kept := by
  simp [State.when, h]

@[simp] theorem foldl_kept {α : Type} (f : State → α → State) (h : ∀ x a, (f x a).kept = x.kept) (l : List α) (s : State) :
    (l.foldl f s).kept = s.kept := by
  induction l generalizing s with
  | nil => rfl
  | cons a l ih => simp [ih, h]

theorem foldl_proj_kept {α β : Type} (g : β → State) (f : β → α → β) (h : ∀ b a, (g (f b a)).kept = (g b).kept)
    (l : List α) (b : β) : (g (l.foldl f b)).kept = (g b).kept := by
  induction l generalizing b with
  | nil => rfl
  | cons a l ih => rw [List.foldl_cons, ih, h]

@[simp] theorem State.each_kept {α : Type} (s : State) (l : List α) (f : State → α → State) (h : ∀ x a, (f x a).kept = x.kept) :
    (s.each l f).kept = s.kept := by
  simp [State.each, h]

/-- A meaning answers a next state that keeps what `kept` names. -/
def State.keptBy (s : State) : Result → Prop
  | .next t => t.kept = s.kept
  | .fault _ => False
  | .refused _ => False

@[simp] theorem State.keptBy_next (s t : State) : s.keptBy (.next t) ↔ t.kept = s.kept := Iff.rfl

@[simp] theorem occurs_kept (s : State) (c : Bool) (f : State → State) (h : ∀ x, (f x).kept = x.kept) :
    s.keptBy (occurs c s f) := by
  unfold occurs
  split
  · exact h _
  · rfl

end Sys2Proof.Machine
end

