-- ==== Sys2Proof/Laws/KeptRegs.lean ====
section
/-!
SUPPORT. Sys2Proof/Laws/KeptRegs.lean: which operations of Machine/Regs.lean keep DRAM, the fuses and the queue.
-/

set_option Elab.async false
namespace Sys2Proof.Machine

@[simp] theorem State.wr_kept (s : State) (off : Nat) (w : Word) : (State.wr s off w).kept = s.kept := by
  unfold State.wr
  (try simp) <;> (repeat' split) <;> simp_all

@[simp] theorem State.put_kept (s : State) (f : Fld) (v : Nat) : (State.put s f v).kept = s.kept := by
  unfold State.put
  (try simp) <;> (repeat' split) <;> simp_all

@[simp] theorem State.putB_kept (s : State) (f : Fld) (b : Bool) : (State.putB s f b).kept = s.kept := by
  unfold State.putB
  (try simp) <;> (repeat' split) <;> simp_all

@[simp] theorem State.bump_kept (s : State) (f : Fld) (n : Nat) : (State.bump s f n).kept = s.kept := by
  unfold State.bump
  (try simp) <;> (repeat' split) <;> simp_all

@[simp] theorem State.putSat_kept (s : State) (f : Fld) (v : Nat) : (State.putSat s f v).kept = s.kept := by
  unfold State.putSat
  (try simp) <;> (repeat' split) <;> simp_all

@[simp] theorem State.put64_kept (s : State) (lo hi : Nat) (v : Nat) : (State.put64 s lo hi v).kept = s.kept := by
  unfold State.put64
  (try simp) <;> (repeat' split) <;> simp_all

@[simp] theorem State.unitFalls_kept (s : State) (cls unit : Nat) : (State.unitFalls s cls unit).kept = s.kept := by
  unfold State.unitFalls
  (try simp) <;> (repeat' split) <;> simp_all

@[simp] theorem State.unitReturns_kept (s : State) (cls unit : Nat) : (State.unitReturns s cls unit).kept = s.kept := by
  unfold State.unitReturns
  (try simp) <;> (repeat' split) <;> simp_all

end Sys2Proof.Machine
end

