-- ==== Sys2Proof/Laws/KeptOps.lean ====
section
/-!
SUPPORT. Sys2Proof/Laws/KeptOps.lean: which operations of Machine/Ops.lean keep DRAM, the fuses and the queue.
-/

set_option Elab.async false
namespace Sys2Proof.Machine

@[simp] theorem State.begin_kept (s : State) : (State.begin s).kept = s.kept := by
  unfold State.begin
  (try simp) <;> (repeat' split) <;> simp_all

@[simp] theorem State.emit_kept (s : State) (o : Out) : (State.emit s o).kept = s.kept := by
  unfold State.emit
  (try simp) <;> (repeat' split) <;> simp_all

@[simp] theorem State.dramOut_kept (s : State) (sc cmd rank bank addr : Nat) : (State.dramOut s sc cmd rank bank addr).kept = s.kept := by
  unfold State.dramOut
  (try simp) <;> (repeat' split) <;> simp_all

@[simp] theorem State.takeFree_kept (s : State) : (State.takeFree s).2.kept = s.kept := by
  unfold State.takeFree
  (try simp) <;> (repeat' split) <;> simp_all

@[simp] theorem State.atCycle_kept (s : State) (c : Nat) : (State.atCycle s c).kept = s.kept := by
  unfold State.atCycle
  (try simp) <;> (repeat' split) <;> simp_all

@[simp] theorem State.modQuad_kept (s : State) (q : Nat) (f : Quad → Quad) : (State.modQuad s q f).kept = s.kept := by
  unfold State.modQuad
  (try simp) <;> (repeat' split) <;> simp_all

@[simp] theorem State.modSc_kept (s : State) (n : Nat) (f : Sc → Sc) : (State.modSc s n f).kept = s.kept := by
  unfold State.modSc
  (try simp) <;> (repeat' split) <;> simp_all

@[simp] theorem State.modDie_kept (s : State) (n : Nat) (f : Die → Die) : (State.modDie s n f).kept = s.kept := by
  unfold State.modDie
  (try simp) <;> (repeat' split) <;> simp_all

@[simp] theorem State.modHead_kept (s : State) (h : Nat) (f : Head → Head) : (State.modHead s h f).kept = s.kept := by
  unfold State.modHead
  (try simp) <;> (repeat' split) <;> simp_all

@[simp] theorem State.modLd_kept (s : State) (k : Nat) (f : Ld → Ld) : (State.modLd s k f).kept = s.kept := by
  unfold State.modLd
  (try simp) <;> (repeat' split) <;> simp_all

@[simp] theorem State.modRail_kept (s : State) (k : Nat) (f : Rail → Rail) : (State.modRail s k f).kept = s.kept := by
  unfold State.modRail
  (try simp) <;> (repeat' split) <;> simp_all

@[simp] theorem State.twReenabled_kept (s : State) : (State.twReenabled s).kept = s.kept := by
  unfold State.twReenabled
  (try simp) <;> (repeat' split) <;> simp_all

@[simp] theorem State.modTw_kept (s : State) (k : Nat) (f : Tw → Tw) : (State.modTw s k f).kept = s.kept := by
  unfold State.modTw
  (try simp) <;> (repeat' split) <;> simp_all

@[simp] theorem State.modPath_kept (s : State) (p : Nat) (f : PathState → PathState) : (s.modPath p f).kept = s.kept := rfl

@[simp] theorem State.modSlot_kept (s : State) (k : Nat) (f : Slot → Slot) : (State.modSlot s k f).kept = s.kept := by
  unfold State.modSlot
  (try simp) <;> (repeat' split) <;> simp_all

@[simp] theorem State.modImage_kept (s : State) (f : Image → Image) : (State.modImage s f).kept = s.kept := by
  unfold State.modImage
  (try simp) <;> (repeat' split) <;> simp_all

@[simp] theorem State.modGauge_kept (s : State) (f : Gauge → Gauge) : (State.modGauge s f).kept = s.kept := by
  unfold State.modGauge
  (try simp) <;> (repeat' split) <;> simp_all

@[simp] theorem State.modSeq_kept (s : State) (f : Seq → Seq) : (State.modSeq s f).kept = s.kept := by
  unfold State.modSeq
  (try simp) <;> (repeat' split) <;> simp_all

@[simp] theorem State.modPins_kept (s : State) (f : Pins → Pins) : (State.modPins s f).kept = s.kept := by
  unfold State.modPins
  (try simp) <;> (repeat' split) <;> simp_all

@[simp] theorem State.modSave_kept (s : State) (f : SaveSt → SaveSt) : (State.modSave s f).kept = s.kept := by
  unfold State.modSave
  (try simp) <;> (repeat' split) <;> simp_all

@[simp] theorem State.modGroup_kept (s : State) (f : Group → Group) : (State.modGroup s f).kept = s.kept := by
  unfold State.modGroup
  (try simp) <;> (repeat' split) <;> simp_all

@[simp] theorem State.modKeys_kept (s : State) (f : Keys → Keys) : (State.modKeys s f).kept = s.kept := by
  unfold State.modKeys
  (try simp) <;> (repeat' split) <;> simp_all

@[simp] theorem State.modTick_kept (s : State) (f : Tick → Tick) : (State.modTick s f).kept = s.kept := by
  unfold State.modTick
  (try simp) <;> (repeat' split) <;> simp_all

@[simp] theorem State.modEvents_kept (s : State) (f : Events → Events) : (State.modEvents s f).kept = s.kept := by
  unfold State.modEvents
  (try simp) <;> (repeat' split) <;> simp_all

@[simp] theorem State.modFabric_kept (s : State) (f : Fabric → Fabric) : (State.modFabric s f).kept = s.kept := by
  unfold State.modFabric
  (try simp) <;> (repeat' split) <;> simp_all

@[simp] theorem State.modUpd_kept (s : State) (f : Update → Update) : (State.modUpd s f).kept = s.kept := by
  unfold State.modUpd
  (try simp) <;> (repeat' split) <;> simp_all

@[simp] theorem State.modPlumb_kept (s : State) (f : Plumb → Plumb) : (State.modPlumb s f).kept = s.kept := by
  unfold State.modPlumb
  (try simp) <;> (repeat' split) <;> simp_all

@[simp] theorem State.modTw0_kept (s : State) (f : Tw0 → Tw0) : (State.modTw0 s f).kept = s.kept := by
  unfold State.modTw0
  (try simp) <;> (repeat' split) <;> simp_all

@[simp] theorem State.sendNdr_kept (s : State) (h ld tag : Nat) : (State.sendNdr s h ld tag).kept = s.kept := by
  unfold State.sendNdr
  (try simp) <;> (repeat' split) <;> simp_all

@[simp] theorem State.sendDrs_kept (s : State) (h ld tag : Nat) (data : Line) (poison : Bool) : (State.sendDrs s h ld tag data poison).kept = s.kept := by
  unfold State.sendDrs
  (try simp) <;> (repeat' split) <;> simp_all

@[simp] theorem State.keepCredits_kept (s : State) : (State.keepCredits s).kept = s.kept := by
  unfold State.keepCredits
  (try simp) <;> (repeat' split) <;> simp_all

@[simp] theorem State.useCredit_kept (s : State) (h : Nat) (wr : Bool) : (State.useCredit s h wr).kept = s.kept := by
  unfold State.useCredit
  (try simp) <;> (repeat' split) <;> simp_all

end Sys2Proof.Machine
end

