-- ==== Sys2Proof/Laws/KeptFlags.lean ====
section
/-!
SUPPORT. Sys2Proof/Laws/KeptFlags.lean: which operations of Machine/Flags.lean keep DRAM, the fuses and the queue.
-/

set_option Elab.async false
namespace Sys2Proof.Machine

@[simp] theorem State.raise_kept (s : State) (m : FaultMsg) : (State.raise s m).kept = s.kept := by
  unfold State.raise
  (try simp) <;> (repeat' split) <;> simp_all

@[simp] theorem State.event_kept (s : State) (src kind sev : Nat) : (State.event s src kind sev).kept = s.kept := by
  unfold State.event
  (try simp) <;> (repeat' split) <;> simp_all

@[simp] theorem State.eventAt_kept (s : State) (src kind sev req acc space addr : Nat) : (State.eventAt s src kind sev req acc space addr).kept = s.kept := by
  unfold State.eventAt
  (try simp) <;> (repeat' split) <;> simp_all

@[simp] theorem State.judgeSfg_kept (s : State) : (State.judgeSfg s).kept = s.kept := by
  unfold State.judgeSfg
  (try simp) <;> (repeat' split) <;> simp_all

@[simp] theorem State.sfg_kept (s : State) (f : Fld) (b : Bool) : (State.sfg s f b).kept = s.kept := by
  unfold State.sfg
  (try simp) <;> (repeat' split) <;> simp_all

end Sys2Proof.Machine
end

