-- ==== Sys2Proof/Laws/KeptOperands.lean ====
section
/-!
SUPPORT. Sys2Proof/Laws/KeptOperands.lean: which operations of Machine/Operands.lean keep DRAM, the fuses and the queue.
-/

set_option Elab.async false
namespace Sys2Proof.Machine

@[simp] theorem State.reply_kept (s : State) (fn : FnIx) (code : RetCode) (payload : List Nat) : (State.reply s fn code payload).kept = s.kept := by
  unfold State.reply
  (try simp) <;> (repeat' split) <;> simp_all

@[simp] theorem State.phaseEnds_kept (s : State) : (State.phaseEnds s).kept = s.kept := by
  unfold State.phaseEnds
  (try simp) <;> (repeat' split) <;> simp_all

end Sys2Proof.Machine
end

