-- ==== Sys2Proof/Laws/KeptPatches.lean ====
section
/-!
SUPPORT. Sys2Proof/Laws/KeptPatches.lean: which operations of Machine/Patches.lean keep DRAM, the fuses and the queue.
-/

set_option Elab.async false
namespace Sys2Proof.Machine

@[simp] theorem State.modPatch_kept (s : State) (p : Nat) (f : Patch → Patch) : (State.modPatch s p f).kept = s.kept := by
  unfold State.modPatch
  (try simp) <;> (repeat' split) <;> simp_all

@[simp] theorem State.listOverflow_kept (s : State) (q : Nat) : (State.listOverflow s q).kept = s.kept := by
  unfold State.listOverflow
  (try simp) <;> (repeat' split) <;> simp_all

@[simp] theorem State.listPanel_kept (s : State) (q panel due : Nat) : (State.listPanel s q panel due).kept = s.kept := by
  unfold State.listPanel
  (try simp) <;> (repeat' split) <;> simp_all

@[simp] theorem State.relist_kept (s : State) (p : Nat) : (State.relist s p).kept = s.kept := by
  unfold State.relist
  (try simp) <;> (repeat' split) <;> simp_all

@[simp] theorem State.askPort_kept (s : State) (pos : Nat) (e : QEntry) : (State.askPort s pos e).kept = s.kept := by
  unfold State.askPort
  (try simp) <;> (repeat' split) <;> simp_all

@[simp] theorem State.askRows_kept (s : State) (p origin target : Nat) (wr save : Bool) : (State.askRows s p origin target wr save).kept = s.kept := by
  unfold State.askRows
  (try simp) <;> (repeat' split) <;> simp_all

@[simp] theorem State.askEntry_kept (s : State) (p : Nat) (wr : Bool) (ld : Option Nat) : (State.askEntry s p wr ld).kept = s.kept := by
  unfold State.askEntry
  (try simp) <;> (repeat' split) <;> simp_all

@[simp] theorem State.wetRoom_kept (s : State) (q : Nat) : (State.wetRoom s q).kept = s.kept := by
  unfold State.wetRoom
  (try simp) <;> (repeat' split) <;> simp_all

@[simp] theorem State.supersede_kept (s : State) (p : Nat) : (State.supersede s p).kept = s.kept := by
  unfold State.supersede
  (try simp) <;> (repeat' split) <;> simp_all

@[simp] theorem State.patchWritten_kept (s : State) (p : Nat) : (State.patchWritten s p).kept = s.kept := by
  unfold State.patchWritten
  (try simp) <;> (repeat' split) <;> simp_all

@[simp] theorem State.patchSet_kept (s : State) (p : Nat) : (State.patchSet s p).kept = s.kept := by
  unfold State.patchSet
  (try simp) <;> (repeat' split) <;> simp_all

@[simp] theorem State.patchSkimming_kept (s : State) (p : Nat) : (State.patchSkimming s p).kept = s.kept := by
  unfold State.patchSkimming
  (try simp) <;> (repeat' split) <;> simp_all

@[simp] theorem State.patchDry_kept (s : State) (p : Nat) : (State.patchDry s p).kept = s.kept := by
  unfold State.patchDry
  (try simp) <;> (repeat' split) <;> simp_all

@[simp] theorem State.settleQuad_kept (s : State) (q : Nat) (written : List Nat) : (State.settleQuad s q written).kept = s.kept := by
  unfold State.settleQuad
  (try simp) <;> (repeat' split) <;> simp_all

end Sys2Proof.Machine
end

