-- ==== Sys2Proof/Laws/KeptKeys.lean ====
section
/-!
SUPPORT. Sys2Proof/Laws/KeptKeys.lean: which operations of Machine/Keys.lean keep DRAM, the fuses and the queue.
-/

set_option Elab.async false
namespace Sys2Proof.Machine

@[simp] theorem State.drawKey_kept (s : State) : (State.drawKey s).2.kept = s.kept := by
  unfold State.drawKey
  (try simp) <;> (repeat' split) <;> simp_all

@[simp] theorem State.drawNat_kept (s : State) : (State.drawNat s).2.kept = s.kept := by
  unfold State.drawNat
  (try simp) <;> (repeat' split) <;> simp_all

@[simp] theorem State.rewriteSlot_kept (s : State) (slot source use : Nat) (persist : Bool) (k : Key) : (State.rewriteSlot s slot source use persist k).kept = s.kept := by
  unfold State.rewriteSlot
  (try simp) <;> (repeat' split) <;> simp_all

@[simp] theorem State.urgentErase_kept (s : State) (slot : Nat) : (State.urgentErase s slot).kept = s.kept := by
  unfold State.urgentErase
  (try simp) <;> (repeat' split) <;> simp_all

@[simp] theorem State.invoke_kept (s : State) (slot : Nat) : (State.invoke s slot).kept = s.kept := by
  unfold State.invoke
  (try simp) <;> (repeat' split) <;> simp_all

@[simp] theorem State.keyUsageSum_kept (s : State) : (State.keyUsageSum s).kept = s.kept := by
  unfold State.keyUsageSum
  (try simp) <;> (repeat' split) <;> simp_all

@[simp] theorem State.takeNonce_kept (s : State) (q : Nat) : (State.takeNonce s q).2.kept = s.kept := by
  unfold State.takeNonce
  (try simp) <;> (repeat' split) <;> simp_all

@[simp] theorem State.retirePair_kept (s : State) (n : Nat) : (State.retirePair s n).kept = s.kept := by
  unfold State.retirePair
  (try simp) <;> (repeat' split) <;> simp_all

@[simp] theorem State.cipherGrant_kept (s : State) (q : Nat) : (State.cipherGrant s q).kept = s.kept := by
  unfold State.cipherGrant
  (try simp) <;> (repeat' split) <;> simp_all

@[simp] theorem State.cipherSync_kept (s : State) (q : Nat) : (State.cipherSync s q).kept = s.kept := by
  unfold State.cipherSync
  (try simp) <;> (repeat' split) <;> simp_all

@[simp] theorem State.cipherGo_kept (s : State) (q : Nat) : (State.cipherGo s q).kept = s.kept := by
  unfold State.cipherGo
  (try simp) <;> (repeat' split) <;> simp_all

@[simp] theorem State.encrypts_kept (s : State) (q : Nat) (b : UnitBody) : (State.encrypts s q b).kept = s.kept := by
  unfold State.encrypts
  (try simp) <;> (repeat' split) <;> simp_all

theorem execDataKeyDerivation_kept (q : QuadIx) (r : KeyDerivation) (s : State) : s.keptBy (execDataKeyDerivation q r s) := by
  unfold execDataKeyDerivation
  (try simp) <;> (repeat' split) <;> simp_all

@[simp] theorem State.ctrlUnbind_kept (s : State) (r : CtrlReq) : (State.ctrlUnbind s r).kept = s.kept := by
  unfold State.ctrlUnbind
  (try simp) <;> (repeat' split) <;> simp_all

@[simp] theorem State.ctrlEnd_kept (s : State) (mismatch spareMismatch : Bool) : (State.ctrlEnd s mismatch spareMismatch).kept = s.kept := by
  unfold State.ctrlEnd
  (try simp) <;> (repeat' split) <;> simp_all

@[simp] theorem State.ctrlDispatch_kept (s : State) : (State.ctrlDispatch s).kept = s.kept := by
  unfold State.ctrlDispatch
  (try simp) <;> (repeat' split) <;> simp_all

@[simp] theorem State.ctrlAccept_kept (s : State) (id : Nat) (a : CtrlArrival) : (State.ctrlAccept s id a).kept = s.kept := by
  unfold State.ctrlAccept
  (try simp) <;> (repeat' split) <;> simp_all

@[simp] theorem State.ctrlGrant_kept (s : State) : (State.ctrlGrant s).kept = s.kept := by
  unfold State.ctrlGrant
  (try simp) <;> (repeat' split) <;> simp_all

@[simp] theorem State.ctrlEnter_kept (s : State) : (State.ctrlEnter s).kept = s.kept := by
  unfold State.ctrlEnter
  (try simp) <;> (repeat' split) <;> simp_all

@[simp] theorem State.ctrlArrive_kept (s : State) (a : CtrlArrival) : (State.ctrlArrive s a).kept = s.kept := by
  unfold State.ctrlArrive
  (try simp) <;> (repeat' split) <;> simp_all

theorem execControlEngineRequest_kept (i : CtrlReqIn) (s : State) : s.keptBy (execControlEngineRequest i s) := by
  unfold execControlEngineRequest
  (try simp) <;> (repeat' split) <;> simp_all

theorem execRetiringKeyZeroize_kept (slot : Nat) (s : State) : s.keptBy (execRetiringKeyZeroize slot s) := by
  unfold execRetiringKeyZeroize
  (try simp) <;> (repeat' split) <;> simp_all

theorem execEntropyTestFail_kept (s : State) : s.keptBy (execEntropyTestFail s) := by
  unfold execEntropyTestFail
  (try simp) <;> (repeat' split) <;> simp_all

end Sys2Proof.Machine
end

