-- ==== Sys2Proof/Laws/KeptMedia.lean ====
section
/-!
SUPPORT. Sys2Proof/Laws/KeptMedia.lean: which operations of Machine/Media.lean keep DRAM, the fuses and the queue.
-/

set_option Elab.async false
namespace Sys2Proof.Machine

@[simp] theorem State.modStripe_kept (s : State) (pos u : Nat) (f : StripeSet → StripeSet) : (State.modStripe s pos u f).kept = s.kept := by
  unfold State.modStripe
  (try simp) <;> (repeat' split) <;> simp_all

@[simp] theorem State.stripeAdd_kept (s : State) (pos u chan : Nat) : (State.stripeAdd s pos u chan).kept = s.kept := by
  unfold State.stripeAdd
  (try simp) <;> (repeat' split) <;> simp_all

@[simp] theorem State.stripeVoid_kept (s : State) (pos u chan : Nat) : (State.stripeVoid s pos u chan).kept = s.kept := by
  unfold State.stripeVoid
  (try simp) <;> (repeat' split) <;> simp_all

@[simp] theorem State.pushOp_kept (s : State) (n : Nat) (o : DieOp) : (State.pushOp s n o).kept = s.kept := by
  unfold State.pushOp
  (try simp) <;> (repeat' split) <;> simp_all

@[simp] theorem State.addCopy_kept (s : State) (chan : Nat) (c : RecCopy) : (State.addCopy s chan c).kept = s.kept := by
  unfold State.addCopy
  (try simp) <;> (repeat' split) <;> simp_all

@[simp] theorem State.spoilCopy_kept (s : State) (chan : Nat) (r : Record) (k : Nat) : (State.spoilCopy s chan r k).kept = s.kept := by
  unfold State.spoilCopy
  (try simp) <;> (repeat' split) <;> simp_all

@[simp] theorem State.judgeFree_kept (s : State) : (State.judgeFree s).kept = s.kept := by
  unfold State.judgeFree
  (try simp) <;> (repeat' split) <;> simp_all

@[simp] theorem State.enterBand_kept (s : State) (n b : Nat) : (State.enterBand s n b).kept = s.kept := by
  unfold State.enterBand
  (try simp) <;> (repeat' split) <;> simp_all

@[simp] theorem State.newBandFor_kept (s : State) (n : Nat) : (State.newBandFor s n).kept = s.kept := by
  unfold State.newBandFor
  (try simp) <;> (repeat' split) <;> simp_all

@[simp] theorem State.openBandFor_kept (s : State) (n : Nat) : (State.openBandFor s n).kept = s.kept := by
  unfold State.openBandFor
  (try simp) <;> (repeat' split) <;> simp_all

@[simp] theorem State.pushLedgerUnit_kept (s : State) (q : Nat) (body : UnitBody) : (State.pushLedgerUnit s q body).kept = s.kept := by
  unfold State.pushLedgerUnit
  (try simp) <;> (repeat' split) <;> simp_all

@[simp] theorem State.ledgerGo_kept (s : State) (q : Nat) : (State.ledgerGo s q).kept = s.kept := by
  unfold State.ledgerGo
  (try simp) <;> (repeat' split) <;> simp_all

@[simp] theorem State.sealLedgerUnit_kept (s : State) (q : Nat) (body : UnitBody) : (State.sealLedgerUnit s q body).kept = s.kept := by
  unfold State.sealLedgerUnit
  (try simp) <;> (repeat' split) <;> simp_all

@[simp] theorem State.showAccount_kept (s : State) (q : Nat) : (State.showAccount s q).kept = s.kept := by
  unfold State.showAccount
  (try simp) <;> (repeat' split) <;> simp_all

@[simp] theorem State.chargeWear_kept (s : State) (q : Nat) : (State.chargeWear s q).kept = s.kept := by
  unfold State.chargeWear
  (try simp) <;> (repeat' split) <;> simp_all

@[simp] theorem State.ledgerSet_kept (s : State) (p : Nat) (e : LEntry) : (State.ledgerSet s p e).kept = s.kept := by
  unfold State.ledgerSet
  (try simp) <;> (repeat' split) <;> simp_all

@[simp] theorem State.flushJournal_kept (s : State) (q : Nat) : (State.flushJournal s q).kept = s.kept := by
  unfold State.flushJournal
  (try simp) <;> (repeat' split) <;> simp_all

@[simp] theorem State.modVersion_kept (s : State) (q : Nat) (b : UnitBody) (f : Version → Version) : (State.modVersion s q b f).kept = s.kept := by
  unfold State.modVersion
  (try simp) <;> (repeat' split) <;> simp_all

@[simp] theorem State.dropVersion_kept (s : State) (q : Nat) (b : UnitBody) : (State.dropVersion s q b).kept = s.kept := by
  unfold State.dropVersion
  (try simp) <;> (repeat' split) <;> simp_all

@[simp] theorem State.markRevoked_kept (s : State) (p : Nat) : (State.markRevoked s p).kept = s.kept := by
  unfold State.markRevoked
  (try simp) <;> (repeat' split) <;> simp_all

@[simp] theorem State.startVersion_kept (s : State) (q p n order : Nat) (bySave : Bool) (content : List Host.Cell) (poison : BitVec 1024) : (State.startVersion s q p n order bySave content poison).kept = s.kept := by
  unfold State.startVersion
  (try simp) <;> (repeat' split) <;> simp_all

@[simp] theorem State.versionFailed_kept (s : State) (v : Version) : (State.versionFailed s v).kept = s.kept := by
  unfold State.versionFailed
  (try simp) <;> (repeat' split) <;> simp_all

@[simp] theorem State.dropReloc_kept (s : State) (q : Nat) (r : Reloc) : (State.dropReloc s q r).kept = s.kept := by
  unfold State.dropReloc
  (try simp) <;> (repeat' split) <;> simp_all

@[simp] theorem State.programBack_kept (s : State) (b : UnitBody) : (State.programBack s b).kept = s.kept := by
  unfold State.programBack
  (try simp) <;> (repeat' split) <;> simp_all

@[simp] theorem State.memberLost_kept (s : State) (n u : Nat) : (State.memberLost s n u).kept = s.kept := by
  unfold State.memberLost
  (try simp) <;> (repeat' split) <;> simp_all

@[simp] theorem State.parityFailed_kept (s : State) (pos u : Nat) : (State.parityFailed s pos u).kept = s.kept := by
  unfold State.parityFailed
  (try simp) <;> (repeat' split) <;> simp_all

@[simp] theorem State.opBack_kept (s : State) (n : Nat) (o : DieOp) : (State.opBack s n o).kept = s.kept := by
  unfold State.opBack
  (try simp) <;> (repeat' split) <;> simp_all

@[simp] theorem State.putLog_kept (s : State) (t : Nat) (b : LogBody) : (State.putLog s t b).kept = s.kept := by
  unfold State.putLog
  (try simp) <;> (repeat' split) <;> simp_all

@[simp] theorem State.logRecordAt_kept (s : State) (t : Nat) (b : LogBody) : (State.logRecordAt s t b).kept = s.kept := by
  unfold State.logRecordAt
  (try simp) <;> (repeat' split) <;> simp_all

@[simp] theorem State.logRecord_kept (s : State) (b : LogBody) : (State.logRecord s b).kept = s.kept := by
  unfold State.logRecord
  (try simp) <;> (repeat' split) <;> simp_all

@[simp] theorem State.wearAllowance_kept (s : State) (q : Nat) : (State.wearAllowance s q).kept = s.kept := by
  unfold State.wearAllowance
  (try simp) <;> (repeat' split) <;> simp_all

@[simp] theorem State.retireDie_kept (s : State) (n cond : Nat) : (State.retireDie s n cond).kept = s.kept := by
  unfold State.retireDie
  repeat' first
    | (simp; done)
    | (rw [← snd_kept ‹_ = (_, _)›]; simp; done)
    | (rw [← thd_kept ‹_ = (_, _, _)›]; simp; done)
    | split
    | refine (State.each_kept _ _ _ ?_).trans ?_
    | refine (foldl_kept _ ?_ _ _).trans ?_
    | refine (State.when_kept _ _ _ ?_).trans ?_
    | refine occurs_kept _ _ _ ?_
    | (intro _; skip)
    | simp

@[simp] theorem State.addPoison_kept (s : State) (line : Nat) (src : PoisonSrc) : (State.addPoison s line src).kept = s.kept := by
  unfold State.addPoison
  (try simp) <;> (repeat' split) <;> simp_all

@[simp] theorem State.writeApplied_kept (s : State) (dpa : Nat) (w : Option WriteData) : (State.writeApplied s dpa w).kept = s.kept := by
  unfold State.writeApplied
  (try simp) <;> (repeat' split) <;> simp_all

@[simp] theorem State.writeMerged_kept (s : State) (dpa : Nat) (w : Option WriteData) : (State.writeMerged s dpa w).kept = s.kept := by
  unfold State.writeMerged
  (try simp) <;> (repeat' split) <;> simp_all

@[simp] theorem State.completeQueued_kept (s : State) (n : Nat) (e : QEntry) : (State.completeQueued s n e).kept = s.kept := by
  unfold State.completeQueued
  (try simp) <;> (repeat' split) <;> simp_all

@[simp] theorem State.releaseQueued_kept (s : State) (n : Nat) : (State.releaseQueued s n).kept = s.kept := by
  unfold State.releaseQueued
  (try simp) <;> (repeat' split) <;> simp_all

@[simp] theorem State.ueEvent_kept (s : State) (dpa : Nat) (addrErr : Bool) (sev who acc : Nat) : (State.ueEvent s dpa addrErr sev who acc).kept = s.kept := by
  unfold State.ueEvent
  (try simp) <;> (repeat' split) <;> simp_all

@[simp] theorem State.badLines_kept (s : State) (p : Nat) (lines : List Nat) (who : Nat) : (State.badLines s p lines who).kept = s.kept := by
  unfold State.badLines
  (try simp) <;> (repeat' split) <;> simp_all

end Sys2Proof.Machine
end

