-- ==== Sys2Proof/Laws/Memory.lean ====
section
/-!
SUPPORT. Sys2Proof/Laws/Memory.lean: what the operations on DRAM do to its bytes, and that each keeps the canonical form.
-/

set_option Elab.async false
namespace Sys2Proof.Machine

/-! ## Canonical form -/

theorem memorySet_wf (m : List Host.Cell) (a : Nat) (b : Byte) (h : Memory.wf m = true) :
    Memory.wf (sparseSet 0#8 m a b) = true := sparseSet_wf _ _ _ _ h

theorem memoryFilter_wf (m : List Host.Cell) (p : Host.Cell → Bool) (h : Memory.wf m = true) :
    Memory.wf (m.filter p) = true := sparseFilter_wf _ _ _ h

theorem dramStore_wf (m : List Host.Cell) (a : Nat) (line : Line) (be : BitVec 64) (h : Memory.wf m = true) :
    Memory.wf (dramStore m a line be) = true := by
  unfold dramStore
  generalize List.range 64 = l
  induction l generalizing m with
  | nil => exact h
  | cons i l ih =>
    rw [List.foldl_cons]
    refine ih _ ?_
    split
    · exact memorySet_wf _ _ _ h
    · exact h

theorem dramLoad_wf (m : List Host.Cell) (a n : Nat) (content : List Host.Cell) (h : Memory.wf m = true) :
    Memory.wf (dramLoad m a n content) = true := by
  unfold dramLoad
  have h0 := memoryFilter_wf m (fun c => decide (c.1 < a ∨ a + n ≤ c.1)) h
  revert h0
  generalize m.filter (fun c => decide (c.1 < a ∨ a + n ≤ c.1)) = m0
  intro h0
  induction content generalizing m0 with
  | nil => exact h0
  | cons c l ih =>
    rw [List.foldl_cons]
    refine ih _ ?_
    split
    · exact memorySet_wf _ _ _ h0
    · exact h0

/-! ## Bytes -/

/-- A store changes exactly the enabled bytes of its line. -/
theorem dramByte_store_aux (l : List Nat) (m : List Host.Cell) (a : Nat) (line : Line) (be : BitVec 64) (x : Nat)
    (hl : l.Nodup) :
    dramByte (l.foldl (fun m i => if be.getLsbD i then sparseSet 0#8 m (a + i) (line.extractLsb' (8 * i) 8) else m) m) x =
      if a ≤ x ∧ x - a ∈ l ∧ be.getLsbD (x - a) = true then line.extractLsb' (8 * (x - a)) 8 else dramByte m x := by
  induction l generalizing m with
  | nil => simp
  | cons i l ih =>
    rw [List.nodup_cons] at hl
    rw [List.foldl_cons, ih _ hl.2]
    by_cases hx : a ≤ x ∧ x - a = i
    · obtain ⟨h1, h2⟩ := hx
      have hxi : x = a + i := by omega
      subst hxi
      simp only [Nat.add_sub_cancel_left, hl.1, false_and, and_false, if_false, List.mem_cons, true_or, true_and, Nat.le_add_right]
      by_cases hb : be.getLsbD i = true
      · simp [hb, dramByte]
      · simp [hb]
    · have hne : a + i ≠ x := fun h => hx ⟨by omega, by omega⟩
      have hb : dramByte (if be.getLsbD i then sparseSet 0#8 m (a + i) (line.extractLsb' (8 * i) 8) else m) x = dramByte m x := by
        split
        · exact sparseGet_set_other _ _ _ (Ne.symm hne)
        · rfl
      rw [hb]
      by_cases ha : a ≤ x
      · have : x - a ≠ i := fun h => hx ⟨ha, h⟩
        simp [ha, List.mem_cons, this]
      · simp [ha]

theorem dramByte_store (m : List Host.Cell) (a : Nat) (line : Line) (be : BitVec 64) (x : Nat) :
    dramByte (dramStore m a line be) x =
      if a ≤ x ∧ x < a + 64 ∧ be.getLsbD (x - a) = true then line.extractLsb' (8 * (x - a)) 8 else dramByte m x := by
  unfold dramStore
  rw [dramByte_store_aux _ _ _ _ _ _ List.nodup_range]
  have h : (a ≤ x ∧ x - a ∈ List.range 64 ∧ be.getLsbD (x - a) = true) ↔ (a ≤ x ∧ x < a + 64 ∧ be.getLsbD (x - a) = true) := by
    rw [List.mem_range]
    constructor <;> rintro ⟨h1, h2, h3⟩ <;> exact ⟨h1, by omega, h3⟩
  simp only [h]

/-- A byte outside a store's line is as before. -/
theorem dramByte_store_other (m : List Host.Cell) (a : Nat) (line : Line) (be : BitVec 64) (x : Nat)
    (h : x < a ∨ a + 64 ≤ x) : dramByte (dramStore m a line be) x = dramByte m x := by
  rw [dramByte_store, if_neg]
  omega

/-! ## What a command leaves behind -/

theorem Keeps.refl (s : State) : Keeps s s := ⟨rfl, Nat.le_refl _, id, id⟩

theorem Keeps.trans {s t u : State} (h : Keeps s t) (k : Keeps t u) : Keeps s u :=
  ⟨k.pending.trans h.pending, Nat.le_trans h.fuses k.fuses, fun x => k.fuseMax (h.fuseMax x), fun x => k.dram (h.dram x)⟩

theorem Keeps.of_kept {s t : State} (h : t.kept = s.kept) : Keeps s t := by
  obtain ⟨h1, h2, h3⟩ : t.dram = s.dram ∧ t.otp = s.otp ∧ t.pending = s.pending :=
    ⟨congrArg (·.1) h, congrArg (·.2.1) h, congrArg (·.2.2) h⟩
  exact ⟨h3, Nat.le_of_eq (by rw [h2]), by rw [h2]; exact id, by rw [h1]; exact id⟩

/-- A change of other parts of the state. -/
theorem Keeps.same {s t : State} {x0 x1 x2 x3 x4 x5 x6 x7 x8 x9 x10 x11 x12 x13 x14 x15 x16
    x17 x18 x19 x20 x21 x22 x23 x24 x26 x27 x29 x30 x31} (h : Keeps s t) :
    Keeps s ⟨x0, x1, x2, x3, x4, x5, x6, x7, x8, x9, x10, x11, x12, x13, x14, x15, x16,
      x17, x18, x19, x20, x21, x22, x23, x24, t.otp, x26, x27, t.dram, x29, x30, x31, t.pending⟩ :=
  h.trans (Keeps.of_kept rfl)

/-- DRAM emptied, with other parts of the state changed. -/
theorem Keeps.cleared {s t : State} {x0 x1 x2 x3 x4 x5 x6 x7 x8 x9 x10 x11 x12 x13 x14 x15 x16
    x17 x18 x19 x20 x21 x22 x23 x24 x26 x27 x29 x30 x31} (h : Keeps s t) :
    Keeps s ⟨x0, x1, x2, x3, x4, x5, x6, x7, x8, x9, x10, x11, x12, x13, x14, x15, x16,
      x17, x18, x19, x20, x21, x22, x23, x24, t.otp, x26, x27, [], x29, x30, x31, t.pending⟩ :=
  h.trans ⟨rfl, Nat.le_refl _, id, fun _ => rfl⟩

theorem Keeps.foldl {α : Type} (f : State → α → State) (h : ∀ x a, Keeps x (f x a)) (l : List α) (s : State) :
    Keeps s (l.foldl f s) := by
  induction l generalizing s with
  | nil => exact Keeps.refl s
  | cons a l ih => exact (h s a).trans (ih _)

theorem State.each_keeps {α : Type} (s : State) (l : List α) (f : State → α → State) (h : ∀ x a, Keeps x (f x a)) :
    Keeps s (s.each l f) := Keeps.foldl f h l s

theorem State.when_keeps (s : State) (c : Bool) (f : State → State) (h : ∀ x, Keeps x (f x)) : Keeps s (s.when c f) := by
  unfold State.when
  split
  · exact h s
  · exact Keeps.refl s

/-- A meaning answers a next state that keeps what it must. -/
def State.keepsBy (s : State) : Result → Prop
  | .next t => Keeps s t
  | .fault _ => False
  | .refused _ => False

theorem State.keepsBy_next {s t : State} (h : Keeps s t) : s.keepsBy (.next t) := h

theorem keepsBy_of_keptBy {s : State} {r : Result} (h : s.keptBy r) : s.keepsBy r := by
  cases r with
  | next t => exact Keeps.of_kept h
  | fault _ => exact h
  | refused _ => exact h

theorem begin_keeps (s : State) : Keeps s s.begin := Keeps.of_kept rfl

theorem occurs_keeps (s : State) (c : Bool) (f : State → State) (h : ∀ x, Keeps x (f x)) : s.keepsBy (occurs c s f) := by
  unfold occurs
  split
  · exact (begin_keeps s).trans (h _)
  · exact begin_keeps s

theorem snd_keeps {α : Type} {s t : State} {r : α × State} {a : α} (h : r = (a, t)) (k : Keeps s r.2) : Keeps s t := by
  rw [h] at k
  exact k

/-! ## The operations on DRAM -/

/-- What a write leaves in DRAM: zeros over the whole line with the poisoned pattern, the enabled bytes otherwise. -/
theorem State.writeLine_dram (s : State) (dpa : Nat) (d : WriteData) :
    (s.writeLine dpa d).dram =
      if d.poison then dramStore s.dram (dpa / 64 * 64) zeroLine allBytes else dramStore s.dram (dpa / 64 * 64) d.line d.be := by
  cases hp : d.poison <;> simp [State.writeLine, hp]

theorem State.writeLine_otp (s : State) (dpa : Nat) (d : WriteData) : (s.writeLine dpa d).otp = s.otp := by
  cases hp : d.poison <;> simp [State.writeLine, hp]

theorem State.writeLine_pending (s : State) (dpa : Nat) (d : WriteData) : (s.writeLine dpa d).pending = s.pending := by
  cases hp : d.poison <;> simp [State.writeLine, hp]

theorem State.writeLine_keeps (s : State) (dpa : Nat) (d : WriteData) : Keeps s (s.writeLine dpa d) where
  pending := State.writeLine_pending s dpa d
  fuses := Nat.le_of_eq (by rw [State.writeLine_otp])
  fuseMax := by rw [State.writeLine_otp]; exact id
  dram := by
    rw [State.writeLine_dram]
    split <;> exact dramStore_wf _ _ _ _

theorem State.drained_keeps (s : State) (p : Nat) : Keeps s (s.drained p) :=
  Keeps.foldl (fun s (e : Nat × Nat × WriteData) => s.writeLine e.2.1 e.2.2)
    (fun x a => State.writeLine_keeps x a.2.1 a.2.2) _ s

end Sys2Proof.Machine
end

