-- ==== Sys2Proof/Laws/KeepsMedia.lean ====
section
/-!
SUPPORT. Sys2Proof/Laws/KeepsMedia.lean: the operations of Machine/Media.lean that reach DRAM or the fuses keep what every command keeps.
-/

set_option Elab.async false
namespace Sys2Proof.Machine

theorem State.loadPatch_keeps (s : State) (p : Nat) (content : List Host.Cell) (poison : BitVec 1024) : Keeps s (State.loadPatch s p content poison) := by
  exact ⟨rfl, Nat.le_refl _, id, dramLoad_wf _ _ _ _⟩

theorem State.writeOver_keeps (s : State) (dpa : Nat) (d : WriteData) : Keeps s (State.writeOver s dpa d) := by
  unfold State.writeOver
  (try dsimp only)
  repeat' first
    | with_reducible exact Keeps.refl _
    | split
    | with_reducible refine Keeps.trans ?_ (Keeps.of_kept (State.modHead_kept _ _ _))
    | with_reducible refine Keeps.trans ?_ (Keeps.of_kept (State.modSc_kept _ _ _))
    | with_reducible refine Keeps.trans ?_ (State.writeLine_keeps _ _ _)
    | with_reducible refine occurs_keeps _ _ _ ?_
    | with_reducible refine State.keepsBy_next ?_
    | with_reducible refine Keeps.trans ?_ (State.each_keeps _ _ _ ?_)
    | with_reducible refine Keeps.trans ?_ (Keeps.foldl _ ?_ _ _)
    | with_reducible refine Keeps.trans ?_ (begin_keeps _)
    | (refine Keeps.of_kept ?_; simp; done)
    | (refine keepsBy_of_keptBy ?_; simp; done)
    | intro _
    | exact ⟨rfl, Nat.le_refl _, id, id⟩
    | with_reducible refine Keeps.same ?_
    | with_reducible refine Keeps.cleared ?_

theorem State.poisonWrite_keeps (s : State) (w : PoisonWait) : Keeps s (State.poisonWrite s w) := by
  unfold State.poisonWrite
  (try dsimp only)
  repeat' first
    | with_reducible exact Keeps.refl _
    | split
    | with_reducible refine Keeps.trans ?_ (Keeps.of_kept (State.addPoison_kept _ _ _))
    | with_reducible refine Keeps.trans ?_ (Keeps.of_kept (State.modFabric_kept _ _))
    | with_reducible refine Keeps.trans ?_ (Keeps.of_kept (State.patchWritten_kept _ _))
    | with_reducible refine Keeps.trans ?_ (Keeps.of_kept (State.reply_kept _ _ _ _))
    | with_reducible refine Keeps.trans ?_ (State.writeOver_keeps _ _ _)
    | with_reducible refine occurs_keeps _ _ _ ?_
    | with_reducible refine State.keepsBy_next ?_
    | with_reducible refine Keeps.trans ?_ (State.each_keeps _ _ _ ?_)
    | with_reducible refine Keeps.trans ?_ (Keeps.foldl _ ?_ _ _)
    | with_reducible refine Keeps.trans ?_ (begin_keeps _)
    | (refine Keeps.of_kept ?_; simp; done)
    | (refine keepsBy_of_keptBy ?_; simp; done)
    | intro _
    | exact ⟨rfl, Nat.le_refl _, id, id⟩
    | with_reducible refine Keeps.same ?_
    | with_reducible refine Keeps.cleared ?_

theorem State.poisonGoes_keeps (s : State) : Keeps s (State.poisonGoes s) := by
  unfold State.poisonGoes
  (try dsimp only)
  repeat' first
    | with_reducible exact Keeps.refl _
    | split
    | with_reducible refine Keeps.trans ?_ (Keeps.of_kept (State.modFabric_kept _ _))
    | with_reducible refine Keeps.trans ?_ (State.poisonWrite_keeps _ _)
    | with_reducible refine occurs_keeps _ _ _ ?_
    | with_reducible refine State.keepsBy_next ?_
    | with_reducible refine Keeps.trans ?_ (State.each_keeps _ _ _ ?_)
    | with_reducible refine Keeps.trans ?_ (Keeps.foldl _ ?_ _ _)
    | with_reducible refine Keeps.trans ?_ (begin_keeps _)
    | (refine Keeps.of_kept ?_; simp; done)
    | (refine keepsBy_of_keptBy ?_; simp; done)
    | intro _
    | exact ⟨rfl, Nat.le_refl _, id, id⟩
    | with_reducible refine Keeps.same ?_
    | with_reducible refine Keeps.cleared ?_

end Sys2Proof.Machine
end

