-- ==== Sys2Proof/Laws/KeptSkim.lean ====
section
/-!
SUPPORT. Sys2Proof/Laws/KeptSkim.lean: which operations of Machine/Skim.lean keep DRAM, the fuses and the queue.
-/

set_option Elab.async false
namespace Sys2Proof.Machine

@[simp] theorem State.leavePanel_kept (s : State) (q panel : Nat) : (State.leavePanel s q panel).kept = s.kept := by
  unfold State.leavePanel
  (try simp) <;> (repeat' split) <;> simp_all

@[simp] theorem State.nextPanel_kept (s : State) (q : Nat) : (State.nextPanel s q).2.kept = s.kept := by
  unfold State.nextPanel
  (try simp) <;> (repeat' split) <;> simp_all

@[simp] theorem State.nextSet_kept (s : State) (q : Nat) (n0 : Nat) : (State.nextSet s q n0).2.kept = s.kept := by
  induction n0 generalizing s with
  | zero => rfl
  | succ n ih =>
    unfold State.nextSet
    split
    · split
      · simp
      · exact (ih _).trans (by simp)
    · split
      · have h := snd_kept ‹_ = (_, _)›
        exact (ih _).trans (by simpa using h.symm)
      · have h := snd_kept ‹_ = (_, _)›
        simpa using h.symm

@[simp] theorem State.pastPatch_kept (s : State) (q p : Nat) : (State.pastPatch s q p).kept = s.kept := by
  unfold State.pastPatch
  (try simp) <;> (repeat' split) <;> simp_all

@[simp] theorem State.wearFrame_kept (s : State) : (State.wearFrame s).kept = s.kept := by
  unfold State.wearFrame
  (try simp) <;> (repeat' split) <;> simp_all

@[simp] theorem State.judgeLevel_kept (s : State) : (State.judgeLevel s).kept = s.kept := by
  unfold State.judgeLevel
  (try simp) <;> (repeat' split) <;> simp_all

theorem execPatchSettingExpiry_kept (q : QuadIx) (mates : Nat) (s : State) : s.keptBy (execPatchSettingExpiry q mates s) := by
  unfold execPatchSettingExpiry
  (try simp) <;> (repeat' split) <;> simp_all

@[simp] theorem State.skimOn_kept (s : State) (q p : Nat) (bad : List Nat) (n0 : Option (Nat × Nat)) : (State.skimOn s q p bad n0).kept = s.kept := by
  unfold State.skimOn
  (try simp) <;> (repeat' split) <;> simp_all

@[simp] theorem State.skimPatch_kept (s : State) (q p : Nat) (bad : List Nat) : (State.skimPatch s q p bad).kept = s.kept := by
  unfold State.skimPatch
  (try simp) <;> (repeat' split) <;> simp_all

@[simp] theorem State.findSet_kept (s : State) (q : Nat) : (State.findSet s q).2.kept = s.kept := by
  unfold State.findSet
  (try simp) <;> (repeat' split) <;> simp_all

@[simp] theorem State.skimStart_kept (s : State) (q : Nat) (bad written : List Nat) : (State.skimStart s q bad written).kept = s.kept := by
  unfold State.skimStart
  repeat' first
    | (simp; done)
    | (rw [← snd_kept ‹_ = (_, _)›]; simp; done)
    | (rw [← thd_kept ‹_ = (_, _, _)›]; simp; done)
    | split
    | refine (State.each_kept _ _ _ ?_).trans ?_
    | refine (foldl_kept _ ?_ _ _).trans ?_
    | refine (State.when_kept _ _ _ ?_).trans ?_
    | refine occurs_kept _ _ _ ?_
    | (intro _; skip)
    | simp

theorem execSkimStart_kept (q : QuadIx) (bad : List Nat) (mates : Nat) (s : State) : s.keptBy (execSkimStart q bad mates s) := by
  unfold execSkimStart
  (try simp) <;> (repeat' split) <;> simp_all

@[simp] theorem State.recordVersion_kept (s : State) (v : Version) (unit : Nat) : (State.recordVersion s v unit).kept = s.kept := by
  unfold State.recordVersion
  (try simp) <;> (repeat' split) <;> simp_all

theorem execVersionRecorded_kept (die : DieIx) (unit : Nat) (s : State) : s.keptBy (execVersionRecorded die unit s) := by
  unfold execVersionRecorded
  (try simp) <;> (repeat' split) <;> simp_all

theorem execWearAllowanceRecompute_kept (q : QuadIx) (s : State) : s.keptBy (execWearAllowanceRecompute q s) := by
  unfold execWearAllowanceRecompute
  (try simp) <;> (repeat' split) <;> simp_all

end Sys2Proof.Machine
end

