-- ==== Sys2Proof/Laws/KeptWalk.lean ====
section
/-!
SUPPORT. Sys2Proof/Laws/KeptWalk.lean: which operations of Machine/Walk.lean keep DRAM, the fuses and the queue.
-/

set_option Elab.async false
namespace Sys2Proof.Machine

@[simp] theorem State.modFill_kept (s : State) (q p : Nat) (f : Fill → Fill) : (State.modFill s q p f).kept = s.kept := by
  unfold State.modFill
  (try simp) <;> (repeat' split) <;> simp_all

@[simp] theorem State.modHeal_kept (s : State) (q p : Nat) (f : Heal → Heal) : (State.modHeal s q p f).kept = s.kept := by
  unfold State.modHeal
  (try simp) <;> (repeat' split) <;> simp_all

@[simp] theorem State.judgePlaces_kept (s : State) : (State.judgePlaces s).kept = s.kept := by
  unfold State.judgePlaces
  (try simp) <;> (repeat' split) <;> simp_all

@[simp] theorem State.pushFillRead_kept (s : State) (p : Nat) (order : Nat) (why : ReadWhy) : (State.pushFillRead s p order why).kept = s.kept := by
  unfold State.pushFillRead
  (try simp) <;> (repeat' split) <;> simp_all

@[simp] theorem State.raiseRead_kept (s : State) (p : Nat) : (State.raiseRead s p).kept = s.kept := by
  unfold State.raiseRead
  (try simp) <;> (repeat' split) <;> simp_all

@[simp] theorem State.takePlace_kept (s : State) (q p : Nat) : (State.takePlace s q p).kept = s.kept := by
  unfold State.takePlace
  (try simp) <;> (repeat' split) <;> simp_all

@[simp] theorem State.askPlace_kept (s : State) (q p n : Nat) : (State.askPlace s q p n).kept = s.kept := by
  unfold State.askPlace
  (try simp) <;> (repeat' split) <;> simp_all

@[simp] theorem State.startFill_kept (s : State) (q p : Nat) (cls : FillCls) : (State.startFill s q p cls).kept = s.kept := by
  unfold State.startFill
  (try simp) <;> (repeat' split) <;> simp_all

@[simp] theorem State.faultIn_kept (s : State) (p : Nat) : (State.faultIn s p).kept = s.kept := by
  unfold State.faultIn
  (try simp) <;> (repeat' split) <;> simp_all

@[simp] theorem State.startHeal_kept (s : State) (q p line : Nat) (addrErr : Bool) (waiting : List HealWait) : (State.startHeal s q p line addrErr waiting).kept = s.kept := by
  unfold State.startHeal
  (try simp) <;> (repeat' split) <;> simp_all

@[simp] theorem State.judgeFilled_kept (s : State) (q : Nat) : (State.judgeFilled s q).kept = s.kept := by
  unfold State.judgeFilled
  (try simp) <;> (repeat' split) <;> simp_all

@[simp] theorem State.leavePatch_kept (s : State) (q p : Nat) : (State.leavePatch s q p).kept = s.kept := by
  unfold State.leavePatch
  (try simp) <;> (repeat' split) <;> simp_all

@[simp] theorem State.saveWrite_kept (s : State) (q p : Nat) (k n : Nat) (content : List Host.Cell) (poison : BitVec 1024) : (State.saveWrite s q p k n content poison).kept = s.kept := by
  unfold State.saveWrite
  (try simp) <;> (repeat' split) <;> simp_all

@[simp] theorem State.saveOver_kept (s : State) (q p k n : Nat) (mask : BitVec 1024) (content : List Host.Cell) (poison : BitVec 1024) : (State.saveOver s q p k n mask content poison).kept = s.kept := by
  unfold State.saveOver
  (try simp) <;> (repeat' split) <;> simp_all

@[simp] theorem State.saveOverLost_kept (s : State) (q p k n : Nat) (mask : BitVec 1024) : (State.saveOverLost s q p k n mask).kept = s.kept := by
  unfold State.saveOverLost
  (try simp) <;> (repeat' split) <;> simp_all

@[simp] theorem State.saveMerge_kept (s : State) (q : Nat) (f : Fill) (k n : Nat) : (State.saveMerge s q f k n).kept = s.kept := by
  unfold State.saveMerge
  (try simp) <;> (repeat' split) <;> simp_all

@[simp] theorem State.savePlain_kept (s : State) (q p k n : Nat) : (State.savePlain s q p k n).kept = s.kept := by
  unfold State.savePlain
  (try simp) <;> (repeat' split) <;> simp_all

theorem State.saveOne_kept (s : State) (q : Nat) (t : State) (h : s.saveOne q = some t) : t.kept = s.kept := by
  unfold State.saveOne at h
  dsimp only at h
  repeat' split at h
  all_goals first
    | (cases h; done)
    | (injection h with h; subst h; simp; done)

@[simp] theorem State.saveFillFor_kept (s : State) (q : Nat) (n0 : Nat) : (State.saveFillFor s q n0).kept = s.kept := by
  induction n0 generalizing s with
  | zero => rfl
  | succ n ih =>
    unfold State.saveFillFor
    split
    · rfl
    · exact (ih _).trans (State.saveOne_kept _ _ _ ‹_›)

@[simp] theorem State.saveFill_kept (s : State) (q : Nat) : (State.saveFill s q).kept = s.kept := by
  unfold State.saveFill
  (try simp) <;> (repeat' split) <;> simp_all

@[simp] theorem State.holdReloc_kept (s : State) (q : Nat) (x : Nat × Nat × Bool × Nat) : (State.holdReloc s q x).kept = s.kept := by
  unfold State.holdReloc
  (try simp) <;> (repeat' split) <;> simp_all

@[simp] theorem State.startReloc_kept (s : State) (die unit : Nat) (same : Bool) (order : Nat) : (State.startReloc s die unit same order).kept = s.kept := by
  unfold State.startReloc
  (try simp) <;> (repeat' split) <;> simp_all

@[simp] theorem State.relocGo_kept (s : State) (q : Nat) : (State.relocGo s q).kept = s.kept := by
  unfold State.relocGo
  (try simp) <;> (repeat' split) <;> simp_all

@[simp] theorem State.flashGo_kept (s : State) (q : Nat) : (State.flashGo s q).kept = s.kept := by
  unfold State.flashGo
  (try simp) <;> (repeat' split) <;> simp_all

@[simp] theorem State.cipherFailed_kept (s : State) (q : Nat) (j : CipherJob) : (State.cipherFailed s q j).kept = s.kept := by
  unfold State.cipherFailed
  (try simp) <;> (repeat' split) <;> simp_all

theorem execCipherCodewordDone_kept (n : PairIx) (mismatch spareMismatch : Bool) (s : State) : s.keptBy (execCipherCodewordDone n mismatch spareMismatch s) := by
  unfold execCipherCodewordDone
  repeat' first
    | (simp; done)
    | (rw [← snd_kept ‹_ = (_, _)›]; simp; done)
    | (rw [← thd_kept ‹_ = (_, _, _)›]; simp; done)
    | split
    | refine (State.each_kept _ _ _ ?_).trans ?_
    | refine (foldl_kept _ ?_ _ _).trans ?_
    | refine (State.when_kept _ _ _ ?_).trans ?_
    | refine occurs_kept _ _ _ ?_
    | (intro _; skip)
    | simp

@[simp] theorem State.losePage_kept (s : State) (q page : Nat) : (State.losePage s q page).kept = s.kept := by
  unfold State.losePage
  (try simp) <;> (repeat' split) <;> simp_all

@[simp] theorem State.imgLost_kept (s : State) (q die unit : Nat) : (State.imgLost s q die unit).kept = s.kept := by
  unfold State.imgLost
  (try simp) <;> (repeat' split) <;> simp_all

@[simp] theorem State.pageLostEvent_kept (s : State) (q die unit : Nat) : (State.pageLostEvent s q die unit).kept = s.kept := by
  unfold State.pageLostEvent
  (try simp) <;> (repeat' split) <;> simp_all

@[simp] theorem State.versionLost_kept (s : State) (p : Nat) : (State.versionLost s p).kept = s.kept := by
  unfold State.versionLost
  (try simp) <;> (repeat' split) <;> simp_all

@[simp] theorem State.unitLost_kept (s : State) (die unit : Nat) : (State.unitLost s die unit).kept = s.kept := by
  unfold State.unitLost
  (try simp) <;> (repeat' split) <;> simp_all

end Sys2Proof.Machine
end

