-- ==== Sys2Proof/Laws/KeptCodeword.lean ====
section
/-!
SUPPORT. Sys2Proof/Laws/KeptCodeword.lean: which operations of Machine/Codeword.lean keep DRAM, the fuses and the queue.
-/

set_option Elab.async false
namespace Sys2Proof.Machine

end Sys2Proof.Machine
end

