-- ==== Sys2Proof/Laws/KeptFlash.lean ====
section
/-!
SUPPORT. Sys2Proof/Laws/KeptFlash.lean: which operations of Machine/Flash.lean keep DRAM, the fuses and the queue.
-/

set_option Elab.async false
namespace Sys2Proof.Machine

@[simp] theorem State.serveBy_kept (s : State) (fc g : Nat) : (State.serveBy s fc g).kept = s.kept := by
  unfold State.serveBy
  (try simp) <;> (repeat' split) <;> simp_all

@[simp] theorem State.shareEngine_kept (s : State) (fc : Nat) : (State.shareEngine s fc).kept = s.kept := by
  unfold State.shareEngine
  (try simp) <;> (repeat' split) <;> simp_all

@[simp] theorem State.retireEngine_kept (s : State) (g : Nat) : (State.retireEngine s g).kept = s.kept := by
  unfold State.retireEngine
  (try simp) <;> (repeat' split) <;> simp_all

@[simp] theorem State.engineCheck_kept (s : State) (fc : Nat) (c : EngineCheck) : (State.engineCheck s fc c).kept = s.kept := by
  unfold State.engineCheck
  (try simp) <;> (repeat' split) <;> simp_all

@[simp] theorem State.setCurrent_kept (s : State) (n : Nat) (o : Option DieOp) : (State.setCurrent s n o).kept = s.kept := by
  unfold State.setCurrent
  (try simp) <;> (repeat' split) <;> simp_all

@[simp] theorem State.startOp_kept (s : State) (n : Nat) (o run : DieOp) : (State.startOp s n o run).kept = s.kept := by
  unfold State.startOp
  (try simp) <;> (repeat' split) <;> simp_all

@[simp] theorem State.fillVoid_kept (s : State) (n : Nat) : (State.fillVoid s n).kept = s.kept := by
  unfold State.fillVoid
  (try simp) <;> (repeat' split) <;> simp_all

@[simp] theorem State.loadStart_kept (s : State) (n : Nat) : (State.loadStart s n).kept = s.kept := by
  unfold State.loadStart
  (try simp) <;> (repeat' split) <;> simp_all

@[simp] theorem State.dieOpStart_kept (s : State) (n : Nat) : (State.dieOpStart s n).kept = s.kept := by
  unfold State.dieOpStart
  (try simp) <;> (repeat' split) <;> simp_all

theorem execDieOpStart_kept (die : DieIx) (s : State) : s.keptBy (execDieOpStart die s) := by
  unfold execDieOpStart
  (try simp) <;> (repeat' split) <;> simp_all

@[simp] theorem State.closeStripe_kept (s : State) (pos u : Nat) : (State.closeStripe s pos u).kept = s.kept := by
  unfold State.closeStripe
  (try simp) <;> (repeat' split) <;> simp_all

@[simp] theorem State.ckptAdvance_kept (s : State) (q : Nat) : (State.ckptAdvance s q).kept = s.kept := by
  unfold State.ckptAdvance
  (try simp) <;> (repeat' split) <;> simp_all

@[simp] theorem State.coverUnit_kept (s : State) (n u : Nat) : (State.coverUnit s n u).kept = s.kept := by
  unfold State.coverUnit
  (try simp) <;> (repeat' split) <;> simp_all

@[simp] theorem State.parityGood_kept (s : State) (pos u : Nat) : (State.parityGood s pos u).kept = s.kept := by
  unfold State.parityGood
  (try simp) <;> (repeat' split) <;> simp_all

theorem execStripeClose_kept (pos unit : Nat) (s : State) : s.keptBy (execStripeClose pos unit s) := by
  unfold execStripeClose
  (try simp) <;> (repeat' split) <;> simp_all

@[simp] theorem State.closeOld_kept (s : State) (pos u : Nat) : (State.closeOld s pos u).kept = s.kept := by
  unfold State.closeOld
  (try simp) <;> (repeat' split) <;> simp_all

@[simp] theorem State.placeProgram_kept (s : State) (n : Nat) (o : DieOp) (body : UnitBody) (spoiled token : Bool) : (State.placeProgram s n o body spoiled token).kept = s.kept := by
  unfold State.placeProgram
  (try simp) <;> (repeat' split) <;> simp_all

@[simp] theorem State.loadEnds_kept (s : State) (n : Nat) : (State.loadEnds s n).kept = s.kept := by
  unfold State.loadEnds
  (try simp) <;> (repeat' split) <;> simp_all

@[simp] theorem State.confirm_kept (s : State) (n : Nat) (e : EngineCheck) : (State.confirm s n e).kept = s.kept := by
  unfold State.confirm
  (try simp) <;> (repeat' split) <;> simp_all

theorem execFlashProgramConfirm_kept (die : DieIx) (e : EngineCheck) (s : State) : s.keptBy (execFlashProgramConfirm die e s) := by
  unfold execFlashProgramConfirm
  (try simp) <;> (repeat' split) <;> simp_all

@[simp] theorem State.programGood_kept (s : State) (n u : Nat) (body : UnitBody) : (State.programGood s n u body).kept = s.kept := by
  unfold State.programGood
  (try simp) <;> (repeat' split) <;> simp_all

@[simp] theorem State.programBad_kept (s : State) (n u : Nat) (body : UnitBody) (plane : Option Nat) : (State.programBad s n u body plane).kept = s.kept := by
  unfold State.programBad
  (try simp) <;> (repeat' split) <;> simp_all

@[simp] theorem State.programEnds_kept (s : State) (n : Nat) (failed : Bool) (plane : Option Nat) : (State.programEnds s n failed plane).kept = s.kept := by
  unfold State.programEnds
  (try simp) <;> (repeat' split) <;> simp_all

theorem execFlashProgramStatus_kept (die : DieIx) (failed : Option (Fin 4)) (s : State) : s.keptBy (execFlashProgramStatus die failed s) := by
  unfold execFlashProgramStatus
  (try simp) <;> (repeat' split) <;> simp_all

@[simp] theorem State.showWear_kept (s : State) (n : Nat) : (State.showWear s n).kept = s.kept := by
  unfold State.showWear
  (try simp) <;> (repeat' split) <;> simp_all

@[simp] theorem State.replaceBlock_kept (s : State) (n band plane : Nat) : (State.replaceBlock s n band plane).kept = s.kept := by
  unfold State.replaceBlock
  (try simp) <;> (repeat' split) <;> simp_all

@[simp] theorem State.bandErased_kept (s : State) (pos band : Nat) : (State.bandErased s pos band).kept = s.kept := by
  unfold State.bandErased
  (try simp) <;> (repeat' split) <;> simp_all

@[simp] theorem State.eraseGood_kept (s : State) (n band : Nat) : (State.eraseGood s n band).kept = s.kept := by
  unfold State.eraseGood
  (try simp) <;> (repeat' split) <;> simp_all

@[simp] theorem State.eraseEnds_kept (s : State) (n : Nat) (failed : Bool) (plane : Option Nat) : (State.eraseEnds s n failed plane).kept = s.kept := by
  unfold State.eraseEnds
  (try simp) <;> (repeat' split) <;> simp_all

theorem execFlashEraseStatus_kept (die : DieIx) (failed : Option (Fin 4)) (s : State) : s.keptBy (execFlashEraseStatus die failed s) := by
  unfold execFlashEraseStatus
  (try simp) <;> (repeat' split) <;> simp_all

@[simp] theorem State.rebuildUnit_kept (s : State) (n u : Nat) (good : Bool) : (State.rebuildUnit s n u good).kept = s.kept := by
  unfold State.rebuildUnit
  (try simp) <;> (repeat' split) <;> simp_all

@[simp] theorem State.rebuildEnd_kept (s : State) (r : Rebuild) : (State.rebuildEnd s r).kept = s.kept := by
  unfold State.rebuildEnd
  (try simp) <;> (repeat' split) <;> simp_all

@[simp] theorem State.memberRead_kept (s : State) (die u chan : Nat) (ok : Bool) : (State.memberRead s die u chan ok).kept = s.kept := by
  unfold State.memberRead
  (try simp) <;> (repeat' split) <;> simp_all

@[simp] theorem State.undecodable_kept (s : State) (n u : Nat) : (State.undecodable s n u).kept = s.kept := by
  unfold State.undecodable
  (try simp) <;> (repeat' split) <;> simp_all

@[simp] theorem State.readResult_kept (s : State) (n u : Nat) (why : ReadWhy) (passes : Nat) (ok : Bool) : (State.readResult s n u why passes ok).kept = s.kept := by
  unfold State.readResult
  (try simp) <;> (repeat' split) <;> simp_all

@[simp] theorem State.unitDecoded_kept (s : State) (n u : Nat) (why : ReadWhy) (r : FlashRead) : (State.unitDecoded s n u why r).kept = s.kept := by
  unfold State.unitDecoded
  (try simp) <;> (repeat' split) <;> simp_all

theorem execFlashReadData_kept (die : DieIx) (r : FlashRead) (s : State) : s.keptBy (execFlashReadData die r s) := by
  unfold execFlashReadData
  (try simp) <;> (repeat' split) <;> simp_all

theorem execFlashStatusTimeout_kept (die : DieIx) (s : State) : s.keptBy (execFlashStatusTimeout die s) := by
  unfold execFlashStatusTimeout
  (try simp) <;> (repeat' split) <;> simp_all

@[simp] theorem State.rebuildStart_kept (s : State) (n u : Nat) : (State.rebuildStart s n u).kept = s.kept := by
  unfold State.rebuildStart
  (try simp) <;> (repeat' split) <;> simp_all

theorem execStripeRebuild_kept (die : DieIx) (unit : Nat) (s : State) : s.keptBy (execStripeRebuild die unit s) := by
  unfold execStripeRebuild
  (try simp) <;> (repeat' split) <;> simp_all

theorem execDieRebuildRelocate_kept (die : DieIx) (s : State) : s.keptBy (execDieRebuildRelocate die s) := by
  unfold execDieRebuildRelocate
  (try simp) <;> (repeat' split) <;> simp_all

@[simp] theorem State.channelFailed_kept (s : State) (fc : Nat) : (State.channelFailed s fc).kept = s.kept := by
  unfold State.channelFailed
  (try simp) <;> (repeat' split) <;> simp_all

theorem execFcFailed_kept (fc : FcIx) (s : State) : s.keptBy (execFcFailed fc s) := by
  unfold execFcFailed
  (try simp) <;> (repeat' split) <;> simp_all

@[simp] theorem State.buildMap_kept (s : State) (n : Nat) (factory : List Nat) : (State.buildMap s n factory).kept = s.kept := by
  unfold State.buildMap
  (try simp) <;> (repeat' split) <;> simp_all

@[simp] theorem State.initDie_kept (s : State) (n : Nat) (i : DieInit) : (State.initDie s n i).kept = s.kept := by
  unfold State.initDie
  (try simp) <;> (repeat' split) <;> simp_all

@[simp] theorem State.channelCut_kept (s : State) (fc : Nat) : (State.channelCut s fc).kept = s.kept := by
  unfold State.channelCut
  (try simp) <;> (repeat' split) <;> simp_all

@[simp] theorem State.channelBack_kept (s : State) (fc : Nat) : (State.channelBack s fc).kept = s.kept := by
  unfold State.channelBack
  (try simp) <;> (repeat' split) <;> simp_all

@[simp] theorem State.takeRecordDie_kept (s : State) (fc : Nat) : (State.takeRecordDie s fc).kept = s.kept := by
  unfold State.takeRecordDie
  (try simp) <;> (repeat' split) <;> simp_all

@[simp] theorem State.takeEngines_kept (s : State) (fc : Nat) : (State.takeEngines s fc).kept = s.kept := by
  unfold State.takeEngines
  (try simp) <;> (repeat' split) <;> simp_all

@[simp] theorem State.releaseWp_kept (s : State) (fc : Nat) : (State.releaseWp s fc).kept = s.kept := by
  unfold State.releaseWp
  (try simp) <;> (repeat' split) <;> simp_all

@[simp] theorem State.initChannel_kept (s : State) (fc busFails : Nat) (r : List DieInit) : (State.initChannel s fc busFails r).kept = s.kept := by
  unfold State.initChannel
  (try simp) <;> (repeat' split) <;> simp_all

theorem execFlashChannelInit_kept (fc : FcIx) (busFails : Nat) (r : List DieInit) (s : State) : s.keptBy (execFlashChannelInit fc busFails r s) := by
  unfold execFlashChannelInit
  (try simp) <;> (repeat' split) <;> simp_all

end Sys2Proof.Machine
end

