-- ==== Sys2Proof/Laws/KeptImage.lean ====
section
/-!
SUPPORT. Sys2Proof/Laws/KeptImage.lean: which operations of Machine/Image.lean keep DRAM, the fuses and the queue.
-/

set_option Elab.async false
namespace Sys2Proof.Machine

@[simp] theorem State.putRecordSeq_kept (s : State) (n : Nat) : (State.putRecordSeq s n).kept = s.kept := by
  unfold State.putRecordSeq
  (try simp) <;> (repeat' split) <;> simp_all

@[simp] theorem State.programCopy_kept (s : State) (r : Record) (chan k : Nat) (ok : Bool) : (State.programCopy s r chan k ok).2.kept = s.kept := by
  unfold State.programCopy
  (try simp) <;> (repeat' split) <;> simp_all

@[simp] theorem State.writeCopy_kept (s : State) (r : Record) (k : Nat) (ok retryOk : Bool) : (State.writeCopy s r k ok retryOk).2.kept = s.kept := by
  unfold State.writeCopy
  repeat' first
    | (simp; done)
    | (rw [← snd_kept ‹_ = (_, _)›]; simp; done)
    | (rw [← thd_kept ‹_ = (_, _, _)›]; simp; done)
    | split
    | refine (State.each_kept _ _ _ ?_).trans ?_
    | refine (foldl_kept _ ?_ _ _).trans ?_
    | refine (State.when_kept _ _ _ ?_).trans ?_
    | refine occurs_kept _ _ _ ?_
    | (intro _; skip)
    | simp

@[simp] theorem State.writeRecord_kept (s : State) (r : Record) (ok : List Bool) : (State.writeRecord s r ok).2.2.kept = s.kept := by
  unfold State.writeRecord
  (try simp) <;> (repeat' split) <;> simp_all

@[simp] theorem State.openGeneration_kept (s : State) (g : Nat) : (State.openGeneration s g).kept = s.kept := by
  unfold State.openGeneration
  (try simp) <;> (repeat' split) <;> simp_all

@[simp] theorem State.genExhausted_kept (s : State) : (State.genExhausted s).kept = s.kept := by
  unfold State.genExhausted
  (try simp) <;> (repeat' split) <;> simp_all

theorem execJournalFlush_kept (q : QuadIx) (s : State) : s.keptBy (execJournalFlush q s) := by
  unfold execJournalFlush
  (try simp) <;> (repeat' split) <;> simp_all

@[simp] theorem State.startCheckpoint_kept (s : State) (q : Nat) : (State.startCheckpoint s q).kept = s.kept := by
  unfold State.startCheckpoint
  (try simp) <;> (repeat' split) <;> simp_all

theorem execCheckpointStart_kept (q : QuadIx) (s : State) : s.keptBy (execCheckpointStart q s) := by
  unfold execCheckpointStart
  (try simp) <;> (repeat' split) <;> simp_all

theorem execCheckpointSeal_kept (ok : List Bool) (s : State) : s.keptBy (execCheckpointSeal ok s) := by
  unfold execCheckpointSeal
  (try simp) <;> (repeat' split) <;> simp_all

@[simp] theorem State.eraseBand_kept (s : State) (pos band order : Nat) : (State.eraseBand s pos band order).kept = s.kept := by
  unfold State.eraseBand
  (try simp) <;> (repeat' split) <;> simp_all

@[simp] theorem State.collect_kept (s : State) (pos band : Nat) : (State.collect s pos band).kept = s.kept := by
  unfold State.collect
  (try simp) <;> (repeat' split) <;> simp_all

@[simp] theorem State.collectBand_kept (s : State) (pos : Nat) (choice : Option Nat) : (State.collectBand s pos choice).kept = s.kept := by
  unfold State.collectBand
  (try simp) <;> (repeat' split) <;> simp_all

theorem execGcStart_kept (pos : Nat) (s : State) : s.keptBy (execGcStart pos s) := by
  unfold execGcStart
  (try simp) <;> (repeat' split) <;> simp_all

theorem execWearLevelRelocate_kept (pos : Nat) (s : State) : s.keptBy (execWearLevelRelocate pos s) := by
  unfold execWearLevelRelocate
  (try simp) <;> (repeat' split) <;> simp_all

@[simp] theorem State.relocated_kept (s : State) (q : Nat) (r : Reloc) (unit : Nat) : (State.relocated s q r unit).kept = s.kept := by
  unfold State.relocated
  (try simp) <;> (repeat' split) <;> simp_all

theorem execRelocationUpdate_kept (die : DieIx) (unit : Nat) (mates : Nat) (s : State) : s.keptBy (execRelocationUpdate die unit mates s) := by
  unfold execRelocationUpdate
  (try simp) <;> (repeat' split) <;> simp_all

@[simp] theorem State.patrolBegins_kept (s : State) (t : Nat) : (State.patrolBegins s t).kept = s.kept := by
  unfold State.patrolBegins
  (try simp) <;> (repeat' split) <;> simp_all

@[simp] theorem State.patrolQuadDone_kept (s : State) (q : Nat) : (State.patrolQuadDone s q).kept = s.kept := by
  unfold State.patrolQuadDone
  (try simp) <;> (repeat' split) <;> simp_all

@[simp] theorem State.patrolNext_kept (s : State) (q : Nat) : (State.patrolNext s q).kept = s.kept := by
  unfold State.patrolNext
  (try simp) <;> (repeat' split) <;> simp_all

theorem execImagePatrolStart_kept (q : QuadIx) (s : State) : s.keptBy (execImagePatrolStart q s) := by
  unfold execImagePatrolStart
  repeat' first
    | (simp; done)
    | (rw [← snd_kept ‹_ = (_, _)›]; simp; done)
    | (rw [← thd_kept ‹_ = (_, _, _)›]; simp; done)
    | split
    | refine (State.each_kept _ _ _ ?_).trans ?_
    | refine (foldl_kept _ ?_ _ _).trans ?_
    | refine (State.when_kept _ _ _ ?_).trans ?_
    | refine occurs_kept _ _ _ ?_
    | (intro _; skip)
    | simp

end Sys2Proof.Machine
end

