-- ==== Sys2Proof/Laws/KeptRestore.lean ====
section
/-!
SUPPORT. Sys2Proof/Laws/KeptRestore.lean: which operations of Machine/Restore.lean keep DRAM, the fuses and the queue.
-/

set_option Elab.async false
namespace Sys2Proof.Machine

@[simp] theorem State.putLastShutdown_kept (s : State) (cause : Nat) (isSealed incomplete single : Bool) (time : Nat) : (State.putLastShutdown s cause isSealed incomplete single time).kept = s.kept := by
  unfold State.putLastShutdown
  (try simp) <;> (repeat' split) <;> simp_all

@[simp] theorem State.decideStart_kept (s : State) (st : Nat) : (State.decideStart s st).kept = s.kept := by
  unfold State.decideStart
  (try simp) <;> (repeat' split) <;> simp_all

@[simp] theorem State.deriveGens_kept (s : State) (g : Nat) : (State.deriveGens s g).kept = s.kept := by
  unfold State.deriveGens
  repeat' first
    | (simp; done)
    | (rw [← snd_kept ‹_ = (_, _)›]; simp; done)
    | (rw [← thd_kept ‹_ = (_, _, _)›]; simp; done)
    | split
    | refine (State.each_kept _ _ _ ?_).trans ?_
    | refine (foldl_kept _ ?_ _ _).trans ?_
    | refine (State.when_kept _ _ _ ?_).trans ?_
    | refine occurs_kept _ _ _ ?_
    | (intro _; skip)
    | simp

@[simp] theorem State.takePq_kept (s : State) (r : Record) : (State.takePq s r).kept = s.kept := by
  unfold State.takePq
  (try simp) <;> (repeat' split) <;> simp_all

@[simp] theorem State.sealSearch_kept (s : State) (unreadable : List Nat) : (State.sealSearch s unreadable).kept = s.kept := by
  unfold State.sealSearch
  repeat' first
    | (simp; done)
    | (rw [← snd_kept ‹_ = (_, _)›]; simp; done)
    | (rw [← thd_kept ‹_ = (_, _, _)›]; simp; done)
    | split
    | refine (State.each_kept _ _ _ ?_).trans ?_
    | refine (foldl_kept _ ?_ _ _).trans ?_
    | refine (State.when_kept _ _ _ ?_).trans ?_
    | refine occurs_kept _ _ _ ?_
    | (intro _; skip)
    | simp

theorem execSealSearch_kept (unreadable : List Nat) (s : State) : s.keptBy (execSealSearch unreadable s) := by
  unfold execSealSearch
  repeat' first
    | (simp; done)
    | (rw [← snd_kept ‹_ = (_, _)›]; simp; done)
    | (rw [← thd_kept ‹_ = (_, _, _)›]; simp; done)
    | split
    | refine (State.each_kept _ _ _ ?_).trans ?_
    | refine (foldl_kept _ ?_ _ _).trans ?_
    | refine (State.when_kept _ _ _ ?_).trans ?_
    | refine occurs_kept _ _ _ ?_
    | (intro _; skip)
    | simp

@[simp] theorem State.putEntries_kept (s : State) (l : List (Nat × LEntry)) : (State.putEntries s l).kept = s.kept := by
  unfold State.putEntries
  (try simp) <;> (repeat' split) <;> simp_all

@[simp] theorem State.pagesLost_kept (s : State) (q : Nat) (pages : List Nat) (die unit : Nat) : (State.pagesLost s q pages die unit).kept = s.kept := by
  unfold State.pagesLost
  (try simp) <;> (repeat' split) <;> simp_all

@[simp] theorem State.loadPages_kept (s : State) (q : Nat) (lost : List (Nat × Nat)) (pages : List (Nat × Nat × Nat)) : (State.loadPages s q lost pages).kept = s.kept := by
  unfold State.loadPages
  repeat' first
    | (simp; done)
    | (rw [← snd_kept ‹_ = (_, _)›]; simp; done)
    | (rw [← thd_kept ‹_ = (_, _, _)›]; simp; done)
    | split
    | refine (State.each_kept _ _ _ ?_).trans ?_
    | refine (foldl_kept _ ?_ _ _).trans ?_
    | refine (State.when_kept _ _ _ ?_).trans ?_
    | refine occurs_kept _ _ _ ?_
    | (intro _; skip)
    | simp

@[simp] theorem State.loadMap_kept (s : State) (q : Nat) (r : Record) (lost : List (Nat × Nat)) : (State.loadMap s q r lost).kept = s.kept := by
  unfold State.loadMap
  (try simp) <;> (repeat' split) <;> simp_all

@[simp] theorem State.replay_kept (s : State) (q : Nat) (entries : List JEntry) : (State.replay s q entries).kept = s.kept := by
  unfold State.replay
  (try simp) <;> (repeat' split) <;> simp_all

@[simp] theorem State.replayJournal_kept (s : State) (q : Nat) (units : List (Nat × Nat)) (lost : List (Nat × Nat)) : (State.replayJournal s q units lost).kept = s.kept := by
  unfold State.replayJournal
  repeat' first
    | (simp; done)
    | (rw [← snd_kept ‹_ = (_, _)›]; simp; done)
    | (rw [← thd_kept ‹_ = (_, _, _)›]; simp; done)
    | split
    | refine (State.each_kept _ _ _ ?_).trans ?_
    | refine (foldl_kept _ ?_ _ _).trans ?_
    | refine (State.when_kept _ _ _ ?_).trans ?_
    | refine occurs_kept _ _ _ ?_
    | (intro _; skip)
    | simp

@[simp] theorem State.loadQuad_kept (s : State) (q : Nat) (r : Record) (lost : List (Nat × Nat)) : (State.loadQuad s q r lost).kept = s.kept := by
  unfold State.loadQuad
  (try simp) <;> (repeat' split) <;> simp_all

@[simp] theorem State.clearQuad_kept (s : State) (q : Nat) : (State.clearQuad s q).kept = s.kept := by
  unfold State.clearQuad
  (try simp) <;> (repeat' split) <;> simp_all

@[simp] theorem State.ledgerLoad_kept (s : State) (lost : List (Nat × Nat)) : (State.ledgerLoad s lost).kept = s.kept := by
  unfold State.ledgerLoad
  (try simp) <;> (repeat' split) <;> simp_all

theorem execLedgerLoad_kept (lost : List (Nat × Nat)) (s : State) : s.keptBy (execLedgerLoad lost s) := by
  unfold execLedgerLoad
  (try simp) <;> (repeat' split) <;> simp_all

@[simp] theorem State.tryRunOpen_kept (s : State) (r : Record) (ok : List Bool) (n0 : Nat) : (State.tryRunOpen s r ok n0).2.kept = s.kept := by
  induction n0 generalizing s ok with
  | zero => rfl
  | succ n ih =>
    unfold State.tryRunOpen
    split
    have h := thd_kept ‹_ = (_, _, _)›
    split
    · simpa using h.symm
    · exact (ih _ _).trans (by simpa using h.symm)

@[simp] theorem State.arm_kept (s : State) (b : Bool) : (State.arm s b).kept = s.kept := by
  unfold State.arm
  (try simp) <;> (repeat' split) <;> simp_all

@[simp] theorem State.runOpenWrite_kept (s : State) (ok : List Bool) : (State.runOpenWrite s ok).kept = s.kept := by
  unfold State.runOpenWrite
  repeat' first
    | (simp; done)
    | (rw [← snd_kept ‹_ = (_, _)›]; simp; done)
    | (rw [← thd_kept ‹_ = (_, _, _)›]; simp; done)
    | split
    | refine (State.each_kept _ _ _ ?_).trans ?_
    | refine (foldl_kept _ ?_ _ _).trans ?_
    | refine (State.when_kept _ _ _ ?_).trans ?_
    | refine occurs_kept _ _ _ ?_
    | (intro _; skip)
    | simp

theorem execRunOpenWrite_kept (ok : List Bool) (s : State) : s.keptBy (execRunOpenWrite ok s) := by
  unfold execRunOpenWrite
  (try simp) <;> (repeat' split) <;> simp_all

@[simp] theorem State.backgroundFill_kept (s : State) (q : Nat) : (State.backgroundFill s q).kept = s.kept := by
  unfold State.backgroundFill
  (try simp) <;> (repeat' split) <;> simp_all

theorem execBackgroundFillStart_kept (q : QuadIx) (s : State) : s.keptBy (execBackgroundFillStart q s) := by
  unfold execBackgroundFillStart
  (try simp) <;> (repeat' split) <;> simp_all

theorem execFaultInPlaceTaken_kept (die : DieIx) (s : State) : s.keptBy (execFaultInPlaceTaken die s) := by
  unfold execFaultInPlaceTaken
  (try simp) <;> (repeat' split) <;> simp_all

theorem execTagCompare_kept (q : QuadIx) (patch : Nat) (s : State) : s.keptBy (execTagCompare q patch s) := by
  unfold execTagCompare
  (try simp) <;> (repeat' split) <;> simp_all

@[simp] theorem State.followPanel_kept (s : State) (q panel : Nat) : (State.followPanel s q panel).kept = s.kept := by
  unfold State.followPanel
  (try simp) <;> (repeat' split) <;> simp_all

@[simp] theorem State.fillFailed_kept (s : State) (q p : Nat) : (State.fillFailed s q p).kept = s.kept := by
  unfold State.fillFailed
  (try simp) <;> (repeat' split) <;> simp_all

@[simp] theorem State.faultInEnds_kept (s : State) (q : Nat) (f : Fill) : (State.faultInEnds s q f).kept = s.kept := by
  unfold State.faultInEnds
  (try simp) <;> (repeat' split) <;> simp_all

@[simp] theorem State.answerPoison_kept (s : State) (w : HealWait) : (State.answerPoison s w).kept = s.kept := by
  unfold State.answerPoison
  (try simp) <;> (repeat' split) <;> simp_all

@[simp] theorem State.healExpiry_kept (s : State) (q : Nat) (h : Heal) : (State.healExpiry s q h).kept = s.kept := by
  unfold State.healExpiry
  (try simp) <;> (repeat' split) <;> simp_all

theorem execHealWaitExpiry_kept (q : QuadIx) (patch : Nat) (s : State) : s.keptBy (execHealWaitExpiry q patch s) := by
  unfold execHealWaitExpiry
  (try simp) <;> (repeat' split) <;> simp_all

@[simp] theorem State.healFailed_kept (s : State) (q : Nat) (h : Heal) : (State.healFailed s q h).kept = s.kept := by
  unfold State.healFailed
  (try simp) <;> (repeat' split) <;> simp_all

@[simp] theorem State.answerHealed_kept (s : State) (w : HealWait) : (State.answerHealed s w).kept = s.kept := by
  unfold State.answerHealed
  (try simp) <;> (repeat' split) <;> simp_all

@[simp] theorem State.reloadSlice_kept (s : State) (q : Nat) (lost : List (Nat × Nat)) : (State.reloadSlice s q lost).kept = s.kept := by
  unfold State.reloadSlice
  (try simp) <;> (repeat' split) <;> simp_all

@[simp] theorem State.sliceUnfilled_kept (s : State) (q : Nat) (unreadable : List (Nat × Nat)) : (State.sliceUnfilled s q unreadable).kept = s.kept := by
  unfold State.sliceUnfilled
  (try simp) <;> (repeat' split) <;> simp_all

@[simp] theorem State.refillShown_kept (s : State) (q : Nat) : (State.refillShown s q).kept = s.kept := by
  unfold State.refillShown
  (try simp) <;> (repeat' split) <;> simp_all

end Sys2Proof.Machine
end

