-- ==== Sys2Proof/Laws/KeepsRestore.lean ====
section
/-!
SUPPORT. Sys2Proof/Laws/KeepsRestore.lean: the operations of Machine/Restore.lean that reach DRAM or the fuses keep what every command keeps.
-/

set_option Elab.async false
namespace Sys2Proof.Machine

theorem State.fillData_keeps (s : State) (p : Nat) (n0 : Option (List Host.Cell × BitVec 1024)) : Keeps s (State.fillData s p n0) := by
  unfold State.fillData
  (try dsimp only)
  repeat' first
    | with_reducible exact Keeps.refl _
    | split
    | with_reducible refine Keeps.trans ?_ (State.loadPatch_keeps _ _ _ _)
    | with_reducible refine occurs_keeps _ _ _ ?_
    | with_reducible refine State.keepsBy_next ?_
    | with_reducible refine Keeps.trans ?_ (State.each_keeps _ _ _ ?_)
    | with_reducible refine Keeps.trans ?_ (Keeps.foldl _ ?_ _ _)
    | with_reducible refine Keeps.trans ?_ (begin_keeps _)
    | (refine Keeps.of_kept ?_; simp; done)
    | (refine keepsBy_of_keptBy ?_; simp; done)
    | intro _
    | exact ⟨rfl, Nat.le_refl _, id, id⟩
    | with_reducible refine Keeps.same ?_
    | with_reducible refine Keeps.cleared ?_

theorem State.fillGone_keeps (s : State) (q p : Nat) : Keeps s (State.fillGone s q p) := by
  unfold State.fillGone
  exact (Keeps.of_kept (State.modQuad_kept _ _ _)).trans ((Keeps.of_kept (State.judgePlaces_kept _)).trans
    ((Keeps.of_kept (State.judgeFilled_kept _ _)).trans ((State.each_keeps _ _ _ fun _ _ =>
      Keeps.of_kept (State.releaseQueued_kept _ _)).trans (State.poisonGoes_keeps _))))

theorem State.endFill_keeps (s : State) (q : Nat) (f : Fill) (good : Option (List Host.Cell × BitVec 1024)) : Keeps s (State.endFill s q f good) := by
  have h1 : Keeps s (((s.fillData f.patch good).askRows f.patch 18 (if f.cls = .faultIn then 0 else 200000) true false).modPatch
      f.patch fun x => { x with unfilled := false }) :=
    (State.fillData_keeps _ _ _).trans ((Keeps.of_kept (State.askRows_kept _ _ _ _ _ _)).trans (Keeps.of_kept (State.modPatch_kept _ _ _)))
  unfold State.endFill
  refine h1.trans ?_
  generalize ((s.fillData f.patch good).askRows f.patch 18 (if f.cls = .faultIn then 0 else 200000) true false).modPatch
      f.patch (fun x => { x with unfilled := false }) = a
  refine Keeps.trans ?_ (State.fillGone_keeps _ _ _)
  have h2 : Keeps a (if good.isSome then a else a.fillFailed q f.patch) := by
    split
    · exact Keeps.refl a
    · exact Keeps.of_kept (State.fillFailed_kept _ _ _)
  refine h2.trans ?_
  generalize (if good.isSome then a else a.fillFailed q f.patch) = b
  split
  · exact Keeps.of_kept (State.faultInEnds_kept _ _ _)
  · exact Keeps.refl _

theorem execFillComplete_keeps (q : QuadIx) (patch : Nat) (s : State) : s.keepsBy (execFillComplete q patch s) := by
  unfold execFillComplete
  split
  · exact begin_keeps s
  · refine Keeps.trans (begin_keeps s) ?_
    split
    · exact State.endFill_keeps _ _ _ _
    · exact State.endFill_keeps _ _ _ _
    · exact State.endFill_keeps _ _ _ _
    · split
      · exact State.endFill_keeps _ _ _ _
      · split
        · exact State.endFill_keeps _ _ _ _
        · exact Keeps.refl _

theorem State.healLine_keeps (s : State) (p ix : Nat) (content : List Host.Cell) (poison : BitVec 1024) : Keeps s (State.healLine s p ix content poison) := by
  exact ⟨rfl, Nat.le_refl _, id, dramLoad_wf _ _ _ _⟩

theorem State.healGood_keeps (s : State) (h : Heal) (lines : List Nat) (content : List Host.Cell) (poison : BitVec 1024) : Keeps s (State.healGood s h lines content poison) := by
  unfold State.healGood
  (try dsimp only)
  repeat' first
    | with_reducible exact Keeps.refl _
    | split
    | with_reducible refine Keeps.trans ?_ (Keeps.of_kept (State.answerHealed_kept _ _))
    | with_reducible refine Keeps.trans ?_ (Keeps.of_kept (State.bump_kept _ _ _))
    | with_reducible refine Keeps.trans ?_ (State.healLine_keeps _ _ _ _ _)
    | with_reducible refine Keeps.trans ?_ (Keeps.of_kept (State.ueEvent_kept _ _ _ _ _ _))
    | with_reducible refine occurs_keeps _ _ _ ?_
    | with_reducible refine State.keepsBy_next ?_
    | with_reducible refine Keeps.trans ?_ (State.each_keeps _ _ _ ?_)
    | with_reducible refine Keeps.trans ?_ (Keeps.foldl _ ?_ _ _)
    | with_reducible refine Keeps.trans ?_ (begin_keeps _)
    | (refine Keeps.of_kept ?_; simp; done)
    | (refine keepsBy_of_keptBy ?_; simp; done)
    | intro _
    | exact ⟨rfl, Nat.le_refl _, id, id⟩
    | with_reducible refine Keeps.same ?_
    | with_reducible refine Keeps.cleared ?_

theorem State.endHeal_keeps (s : State) (q : Nat) (h : Heal) (lines : List Nat) (good : Option (List Host.Cell × BitVec 1024)) : Keeps s (State.endHeal s q h lines good) := by
  unfold State.endHeal
  (try dsimp only)
  repeat' first
    | with_reducible exact Keeps.refl _
    | split
    | with_reducible refine Keeps.trans ?_ (Keeps.of_kept (State.healFailed_kept _ _ _))
    | with_reducible refine Keeps.trans ?_ (State.healGood_keeps _ _ _ _ _)
    | with_reducible refine Keeps.trans ?_ (Keeps.of_kept (State.modQuad_kept _ _ _))
    | with_reducible refine occurs_keeps _ _ _ ?_
    | with_reducible refine State.keepsBy_next ?_
    | with_reducible refine Keeps.trans ?_ (State.each_keeps _ _ _ ?_)
    | with_reducible refine Keeps.trans ?_ (Keeps.foldl _ ?_ _ _)
    | with_reducible refine Keeps.trans ?_ (begin_keeps _)
    | (refine Keeps.of_kept ?_; simp; done)
    | (refine keepsBy_of_keptBy ?_; simp; done)
    | intro _
    | exact ⟨rfl, Nat.le_refl _, id, id⟩
    | with_reducible refine Keeps.same ?_
    | with_reducible refine Keeps.cleared ?_

theorem execHealComplete_keeps (q : QuadIx) (patch : Nat) (lines : List Nat) (s : State) : s.keepsBy (execHealComplete q patch lines s) := by
  unfold execHealComplete
  (try dsimp only)
  repeat' first
    | with_reducible exact Keeps.refl _
    | split
    | with_reducible refine Keeps.trans ?_ (Keeps.of_kept (State.begin_kept _))
    | with_reducible refine Keeps.trans ?_ (State.endHeal_keeps _ _ _ _ _)
    | with_reducible refine Keeps.trans ?_ (Keeps.of_kept (State.healExpiry_kept _ _ _))
    | with_reducible refine occurs_keeps _ _ _ ?_
    | with_reducible refine State.keepsBy_next ?_
    | with_reducible refine Keeps.trans ?_ (State.each_keeps _ _ _ ?_)
    | with_reducible refine Keeps.trans ?_ (Keeps.foldl _ ?_ _ _)
    | with_reducible refine Keeps.trans ?_ (begin_keeps _)
    | (refine Keeps.of_kept ?_; simp; done)
    | (refine keepsBy_of_keptBy ?_; simp; done)
    | intro _
    | exact ⟨rfl, Nat.le_refl _, id, id⟩
    | with_reducible refine Keeps.same ?_
    | with_reducible refine Keeps.cleared ?_

theorem State.fillLost_keeps (s : State) (p : Nat) : Keeps s (State.fillLost s p) := by
  unfold State.fillLost
  (try dsimp only)
  repeat' first
    | with_reducible exact Keeps.refl _
    | split
    | with_reducible refine Keeps.trans ?_ (State.loadPatch_keeps _ _ _ _)
    | with_reducible refine Keeps.trans ?_ (Keeps.of_kept (State.modPatch_kept _ _ _))
    | with_reducible refine Keeps.trans ?_ (Keeps.of_kept (State.patchWritten_kept _ _))
    | with_reducible refine occurs_keeps _ _ _ ?_
    | with_reducible refine State.keepsBy_next ?_
    | with_reducible refine Keeps.trans ?_ (State.each_keeps _ _ _ ?_)
    | with_reducible refine Keeps.trans ?_ (Keeps.foldl _ ?_ _ _)
    | with_reducible refine Keeps.trans ?_ (begin_keeps _)
    | (refine Keeps.of_kept ?_; simp; done)
    | (refine keepsBy_of_keptBy ?_; simp; done)
    | intro _
    | exact ⟨rfl, Nat.le_refl _, id, id⟩
    | with_reducible refine Keeps.same ?_
    | with_reducible refine Keeps.cleared ?_

theorem State.quadrantRefill_keeps (s : State) (q : Nat) (unreadable : List (Nat × Nat)) : Keeps s (State.quadrantRefill s q unreadable) := by
  unfold State.quadrantRefill
  exact (Keeps.of_kept (State.sliceUnfilled_kept s q unreadable)).trans ((State.each_keeps _ _ _ fun _ _ => State.fillLost_keeps _ _).trans
    (Keeps.of_kept (State.refillShown_kept _ _)))

theorem execQuadrantRefill_keeps (q : QuadIx) (unreadable : List (Nat × Nat)) (s : State) : s.keepsBy (execQuadrantRefill q unreadable s) := by
  unfold execQuadrantRefill
  (try dsimp only)
  repeat' first
    | with_reducible exact Keeps.refl _
    | split
    | with_reducible refine Keeps.trans ?_ (State.quadrantRefill_keeps _ _ _)
    | with_reducible refine occurs_keeps _ _ _ ?_
    | with_reducible refine State.keepsBy_next ?_
    | with_reducible refine Keeps.trans ?_ (State.each_keeps _ _ _ ?_)
    | with_reducible refine Keeps.trans ?_ (Keeps.foldl _ ?_ _ _)
    | with_reducible refine Keeps.trans ?_ (begin_keeps _)
    | (refine Keeps.of_kept ?_; simp; done)
    | (refine keepsBy_of_keptBy ?_; simp; done)
    | intro _
    | exact ⟨rfl, Nat.le_refl _, id, id⟩
    | with_reducible refine Keeps.same ?_
    | with_reducible refine Keeps.cleared ?_

end Sys2Proof.Machine
end

