-- ==== Sys2Proof/Laws/KeptPower.lean ====
section
/-!
SUPPORT. Sys2Proof/Laws/KeptPower.lean: which operations of Machine/Power.lean keep DRAM, the fuses and the queue.
-/

set_option Elab.async false
namespace Sys2Proof.Machine

@[simp] theorem State.setPower_kept (s : State) (p : Power) : (State.setPower s p).kept = s.kept := by
  unfold State.setPower
  (try simp) <;> (repeat' split) <;> simp_all

@[simp] theorem State.judgeGf_kept (s : State) : (State.judgeGf s).kept = s.kept := by
  unfold State.judgeGf
  (try simp) <;> (repeat' split) <;> simp_all

@[simp] theorem State.learnGrantNext_kept (s : State) : (State.learnGrantNext s).kept = s.kept := by
  unfold State.learnGrantNext
  (try simp) <;> (repeat' split) <;> simp_all

@[simp] theorem State.learnGrantEnds_kept (s : State) (p : Nat) : (State.learnGrantEnds s p).kept = s.kept := by
  unfold State.learnGrantEnds
  (try simp) <;> (repeat' split) <;> simp_all

@[simp] theorem State.modMember_kept (s : State) (p : Nat) (f : Member → Member) : (State.modMember s p f).kept = s.kept := by
  unfold State.modMember
  (try simp) <;> (repeat' split) <;> simp_all

@[simp] theorem State.chgGrantNext_kept (s : State) (n0 : Nat) : (State.chgGrantNext s n0).kept = s.kept := by
  induction n0 generalizing s with
  | zero => rfl
  | succ n ih =>
    unfold State.chgGrantNext
    split
    · rfl
    · dsimp only
      split
      · rfl
      · refine (ih _).trans ?_
        split <;> simp

@[simp] theorem State.chgGrantEnds_kept (s : State) (p : Nat) : (State.chgGrantEnds s p).kept = s.kept := by
  unfold State.chgGrantEnds
  (try simp) <;> (repeat' split) <;> simp_all

@[simp] theorem State.driveChg_kept (s : State) (b : Bool) : (State.driveChg s b).kept = s.kept := by
  unfold State.driveChg
  (try simp) <;> (repeat' split) <;> simp_all

@[simp] theorem State.setPack_kept (s : State) (n : Nat) : (State.setPack s n).kept = s.kept := by
  unfold State.setPack
  (try simp) <;> (repeat' split) <;> simp_all

@[simp] theorem State.learnEnd_kept (s : State) (result : Nat) (ns : Bool) : (State.learnEnd s result ns).kept = s.kept := by
  unfold State.learnEnd
  (try simp) <;> (repeat' split) <;> simp_all

@[simp] theorem State.learnVoid_kept (s : State) (result : Nat) : (State.learnVoid s result).kept = s.kept := by
  unfold State.learnVoid
  (try simp) <;> (repeat' split) <;> simp_all

@[simp] theorem State.wantLearned_kept (s : State) : (State.wantLearned s).kept = s.kept := by
  unfold State.wantLearned
  (try simp) <;> (repeat' split) <;> simp_all

@[simp] theorem State.shipPrepare_kept (s : State) : (State.shipPrepare s).kept = s.kept := by
  unfold State.shipPrepare
  (try simp) <;> (repeat' split) <;> simp_all

@[simp] theorem State.abandonHandshake_kept (s : State) (latch raise : Bool) : (State.abandonHandshake s latch raise).kept = s.kept := by
  unfold State.abandonHandshake
  (try simp) <;> (repeat' split) <;> simp_all

@[simp] theorem State.putSr_kept (s : State) (n r : Nat) (b : Bool) : (State.putSr s n r b).kept = s.kept := by
  unfold State.putSr
  (try simp) <;> (repeat' split) <;> simp_all

@[simp] theorem State.closeRank_kept (s : State) (n r : Nat) : (State.closeRank s n r).kept = s.kept := by
  unfold State.closeRank
  (try simp) <;> (repeat' split) <;> simp_all

@[simp] theorem State.exitSr_kept (s : State) (n r : Nat) : (State.exitSr s n r).kept = s.kept := by
  unfold State.exitSr
  (try simp) <;> (repeat' split) <;> simp_all

@[simp] theorem State.dropChange_kept (s : State) (n : Nat) : (State.dropChange s n).kept = s.kept := by
  unfold State.dropChange
  (try simp) <;> (repeat' split) <;> simp_all

@[simp] theorem State.holdRefresh_kept (s : State) (n : Nat) : (State.holdRefresh s n).kept = s.kept := by
  unfold State.holdRefresh
  (try simp) <;> (repeat' split) <;> simp_all

@[simp] theorem State.holdDram_kept (s : State) : (State.holdDram s).kept = s.kept := by
  unfold State.holdDram
  (try simp) <;> (repeat' split) <;> simp_all

@[simp] theorem State.railOff_kept (s : State) (k : Nat) : (State.railOff s k).kept = s.kept := by
  unfold State.railOff
  (try simp) <;> (repeat' split) <;> simp_all

@[simp] theorem State.beginPowerDown_kept (s : State) (why : LastDown) : (State.beginPowerDown s why).kept = s.kept := by
  unfold State.beginPowerDown
  (try simp) <;> (repeat' split) <;> simp_all

@[simp] theorem State.saveTrigger_kept (s : State) (cause : Nat) : (State.saveTrigger s cause).kept = s.kept := by
  unfold State.saveTrigger
  (try simp) <;> (repeat' split) <;> simp_all

@[simp] theorem State.trigger_kept (s : State) (cause : Nat) : (State.trigger s cause).kept = s.kept := by
  unfold State.trigger
  (try simp) <;> (repeat' split) <;> simp_all

@[simp] theorem State.shakeEnds_kept (s : State) : (State.shakeEnds s).kept = s.kept := by
  unfold State.shakeEnds
  (try simp) <;> (repeat' split) <;> simp_all

@[simp] theorem State.shakeMet_kept (s : State) (c : Nat) : (State.shakeMet s c).kept = s.kept := by
  unfold State.shakeMet
  (try simp) <;> (repeat' split) <;> simp_all

@[simp] theorem State.openHandshake_kept (s : State) (ship : Bool) : (State.openHandshake s ship).kept = s.kept := by
  unfold State.openHandshake
  (try simp) <;> (repeat' split) <;> simp_all

end Sys2Proof.Machine
end

