-- ==== Sys2Proof/Laws/KeptHeads.lean ====
section
/-!
SUPPORT. Sys2Proof/Laws/KeptHeads.lean: which operations of Machine/Heads.lean keep DRAM, the fuses and the queue.
-/

set_option Elab.async false
namespace Sys2Proof.Machine

@[simp] theorem State.turnAway_kept (s : State) (r : HostReq) (wr : Bool) : (State.turnAway s r wr).kept = s.kept := by
  unfold State.turnAway
  (try simp) <;> (repeat' split) <;> simp_all

@[simp] theorem State.earlyAccess_kept (s : State) (r : HostReq) (wr : Bool) : (State.earlyAccess s r wr).kept = s.kept := by
  unfold State.earlyAccess
  (try simp) <;> (repeat' split) <;> simp_all

@[simp] theorem State.decodeError_kept (s : State) (r : HostReq) (wr : Bool) : (State.decodeError s r wr).kept = s.kept := by
  unfold State.decodeError
  (try simp) <;> (repeat' split) <;> simp_all

@[simp] theorem State.meter_kept (s : State) (k : Nat) : (State.meter s k).2.kept = s.kept := by
  unfold State.meter
  (try simp) <;> (repeat' split) <;> simp_all

@[simp] theorem State.pool_kept (s : State) (h : Nat) (r : HReq) : (State.pool s h r).kept = s.kept := by
  unfold State.pool
  (try simp) <;> (repeat' split) <;> simp_all

@[simp] theorem State.modReq_kept (s : State) (h id : Nat) (f : HReq → HReq) : (State.modReq s h id f).kept = s.kept := by
  unfold State.modReq
  (try simp) <;> (repeat' split) <;> simp_all

@[simp] theorem State.completeWrite_kept (s : State) (h : Nat) (r : HReq) : (State.completeWrite s h r).kept = s.kept := by
  unfold State.completeWrite
  (try simp) <;> (repeat' split) <;> simp_all

@[simp] theorem State.lostWrite_kept (s : State) (h : Nat) (r : HReq) : (State.lostWrite s h r).kept = s.kept := by
  unfold State.lostWrite
  (try simp) <;> (repeat' split) <;> simp_all

@[simp] theorem State.admitWrite_kept (s : State) (h : Nat) (r : HReq) : (State.admitWrite s h r).kept = s.kept := by
  unfold State.admitWrite
  (try simp) <;> (repeat' split) <;> simp_all

@[simp] theorem State.hostWrite_kept (s : State) (r : HostReq) (d : WriteData) : (State.hostWrite s r d).kept = s.kept := by
  unfold State.hostWrite
  (try simp) <;> (repeat' split) <;> simp_all

theorem execHostWrite_kept (r : HostReq) (d : WriteData) (s : State) : s.keptBy (execHostWrite r d s) := by
  unfold execHostWrite
  (try simp) <;> (repeat' split) <;> simp_all

@[simp] theorem State.hostRead_kept (s : State) (r : HostReq) : (State.hostRead s r).kept = s.kept := by
  unfold State.hostRead
  (try simp) <;> (repeat' split) <;> simp_all

theorem execHostRead_kept (r : HostReq) (s : State) : s.keptBy (execHostRead r s) := by
  unfold execHostRead
  (try simp) <;> (repeat' split) <;> simp_all

@[simp] theorem State.probeAnswer_kept (s : State) (head id : Nat) (r : HReq) (written : List Nat) : (State.probeAnswer s head id r written).kept = s.kept := by
  unfold State.probeAnswer
  (try simp) <;> (repeat' split) <;> simp_all

theorem execStateProbeAnswer_kept (head : HeadIx) (id : Nat) (mates : Nat) (s : State) : s.keptBy (execStateProbeAnswer head id mates s) := by
  unfold execStateProbeAnswer
  (try simp) <;> (repeat' split) <;> simp_all

@[simp] theorem State.escalationEnds_kept (s : State) (h : Nat) : (State.escalationEnds s h).kept = s.kept := by
  unfold State.escalationEnds
  (try simp) <;> (repeat' split) <;> simp_all

theorem execHeldWriteRelease_kept (head : HeadIx) (s : State) : s.keptBy (execHeldWriteRelease head s) := by
  unfold execHeldWriteRelease
  (try simp) <;> (repeat' split) <;> simp_all

theorem execHoldEscalate_kept (head : HeadIx) (s : State) : s.keptBy (execHoldEscalate head s) := by
  unfold execHoldEscalate
  (try simp) <;> (repeat' split) <;> simp_all

@[simp] theorem State.headFrame_kept (s : State) : (State.headFrame s).kept = s.kept := by
  unfold State.headFrame
  (try simp) <;> (repeat' split) <;> simp_all

@[simp] theorem State.judgeGpf_kept (s : State) : (State.judgeGpf s).kept = s.kept := by
  unfold State.judgeGpf
  repeat' first
    | (simp; done)
    | (rw [← snd_kept ‹_ = (_, _)›]; simp; done)
    | (rw [← thd_kept ‹_ = (_, _, _)›]; simp; done)
    | split
    | refine (State.each_kept _ _ _ ?_).trans ?_
    | refine (foldl_kept _ ?_ _ _).trans ?_
    | refine (State.when_kept _ _ _ ?_).trans ?_
    | refine occurs_kept _ _ _ ?_
    | (intro _; skip)
    | simp

@[simp] theorem State.dropReads_kept (s : State) (h : Nat) : (State.dropReads s h).kept = s.kept := by
  unfold State.dropReads
  (try simp) <;> (repeat' split) <;> simp_all

@[simp] theorem State.linkLost_kept (s : State) (h : Nat) : (State.linkLost s h).kept = s.kept := by
  unfold State.linkLost
  (try simp) <;> (repeat' split) <;> simp_all

theorem execLinkDown_kept (head : HeadIx) (perst : Bool) (s : State) : s.keptBy (execLinkDown head perst s) := by
  unfold execLinkDown
  (try simp) <;> (repeat' split) <;> simp_all

theorem execLinkTrain_kept (head : HeadIx) (t : TrainIn) (s : State) : s.keptBy (execLinkTrain head t s) := by
  unfold execLinkTrain
  (try simp) <;> (repeat' split) <;> simp_all

theorem execCrcErrorWithReplay_kept (head : HeadIx) (s : State) : s.keptBy (execCrcErrorWithReplay head s) := by
  unfold execCrcErrorWithReplay
  (try simp) <;> (repeat' split) <;> simp_all

end Sys2Proof.Machine
end

