-- ==== Sys2Proof/Laws/KeptRanks.lean ====
section
/-!
SUPPORT. Sys2Proof/Laws/KeptRanks.lean: which operations of Machine/Ranks.lean keep DRAM, the fuses and the queue.
-/

set_option Elab.async false
namespace Sys2Proof.Machine

@[simp] theorem State.logHealth_kept (s : State) (q : Nat) : (State.logHealth s q).kept = s.kept := by
  unfold State.logHealth
  (try simp) <;> (repeat' split) <;> simp_all

@[simp] theorem State.exhaust_kept (s : State) (q j r : Nat) : (State.exhaust s q j r).kept = s.kept := by
  unfold State.exhaust
  (try simp) <;> (repeat' split) <;> simp_all

@[simp] theorem State.setOut_kept (s : State) (q j r : Nat) : (State.setOut s q j r).kept = s.kept := by
  unfold State.setOut
  (try simp) <;> (repeat' split) <;> simp_all

@[simp] theorem State.migrateTo_kept (s : State) (q j r : Nat) (n0 : Option Nat) : (State.migrateTo s q j r n0).kept = s.kept := by
  unfold State.migrateTo
  (try simp) <;> (repeat' split) <;> simp_all

@[simp] theorem State.startMigration_kept (s : State) (q j r : Nat) : (State.startMigration s q j r).kept = s.kept := by
  unfold State.startMigration
  repeat' first
    | (simp; done)
    | (rw [← snd_kept ‹_ = (_, _)›]; simp; done)
    | (rw [← thd_kept ‹_ = (_, _, _)›]; simp; done)
    | split
    | refine (State.each_kept _ _ _ ?_).trans ?_
    | refine (foldl_kept _ ?_ _ _).trans ?_
    | refine (State.when_kept _ _ _ ?_).trans ?_
    | refine occurs_kept _ _ _ ?_
    | (intro _; skip)
    | simp

@[simp] theorem State.outAtStart_kept (s : State) (q j r : Nat) (n0 : Option Nat) : (State.outAtStart s q j r n0).kept = s.kept := by
  unfold State.outAtStart
  (try simp) <;> (repeat' split) <;> simp_all

@[simp] theorem State.rankOut_kept (s : State) (n r : Nat) (atStart : Bool) : (State.rankOut s n r atStart).kept = s.kept := by
  unfold State.rankOut
  repeat' first
    | (simp; done)
    | (rw [← snd_kept ‹_ = (_, _)›]; simp; done)
    | (rw [← thd_kept ‹_ = (_, _, _)›]; simp; done)
    | split
    | refine (State.each_kept _ _ _ ?_).trans ?_
    | refine (foldl_kept _ ?_ _ _).trans ?_
    | refine (State.when_kept _ _ _ ?_).trans ?_
    | refine occurs_kept _ _ _ ?_
    | (intro _; skip)
    | simp

@[simp] theorem State.markErasure_kept (s : State) (n r m source : Nat) (atStart : Bool) : (State.markErasure s n r m source atStart).kept = s.kept := by
  unfold State.markErasure
  (try simp) <;> (repeat' split) <;> simp_all

@[simp] theorem State.healRefused_kept (s : State) (dpa : Nat) (addrErr : Bool) (who acc : Nat) : (State.healRefused s dpa addrErr who acc).kept = s.kept := by
  unfold State.healRefused
  (try simp) <;> (repeat' split) <;> simp_all

@[simp] theorem State.migrationDone_kept (s : State) (q : Nat) (m : Migration) : (State.migrationDone s q m).kept = s.kept := by
  unfold State.migrationDone
  (try simp) <;> (repeat' split) <;> simp_all

@[simp] theorem State.chunkAsked_kept (s : State) (q : Nat) (m : Migration) : (State.chunkAsked s q m).kept = s.kept := by
  unfold State.chunkAsked
  (try simp) <;> (repeat' split) <;> simp_all

end Sys2Proof.Machine
end

