-- ==== Sys2Proof/Laws/KeepsRanks.lean ====
section
/-!
SUPPORT. Sys2Proof/Laws/KeepsRanks.lean: the operations of Machine/Ranks.lean that reach DRAM or the fuses keep what every command keeps.
-/

set_option Elab.async false
namespace Sys2Proof.Machine

theorem State.entryLost_keeps (s : State) (q p : Nat) (unfilled : Bool) : Keeps s (State.entryLost s q p unfilled) := by
  unfold State.entryLost
  split
  · exact State.endFill_keeps _ _ _ _
  · exact Keeps.of_kept (State.patchWritten_kept _ _)

theorem State.houseUe_keeps (s : State) (n h : Nat) : Keeps s (State.houseUe s n h) := by
  refine (Keeps.of_kept (State.event_kept s (srcSc n 16) 1 Sev.uncorrected)).trans ?_
  unfold State.houseUe
  generalize s.event (srcSc n 16) 1 Sev.uncorrected = t
  split
  · exact State.each_keeps _ _ _ fun _ _ => State.entryLost_keeps _ _ _ _
  · split
    · exact State.each_keeps _ _ _ fun _ _ => State.entryLost_keeps _ _ _ _
    · exact Keeps.refl t

theorem State.poisonLine_keeps (s : State) (dpa : Nat) (addrErr : Bool) (who acc : Nat) : Keeps s (State.poisonLine s dpa addrErr who acc) := by
  unfold State.poisonLine
  (try dsimp only)
  repeat' first
    | with_reducible exact Keeps.refl _
    | split
    | with_reducible refine Keeps.trans ?_ (Keeps.of_kept (State.addPoison_kept _ _ _))
    | with_reducible refine Keeps.trans ?_ (Keeps.of_kept (State.ueEvent_kept _ _ _ _ _ _))
    | with_reducible refine Keeps.trans ?_ (State.writeLine_keeps _ _ _)
    | with_reducible refine occurs_keeps _ _ _ ?_
    | with_reducible refine State.keepsBy_next ?_
    | with_reducible refine Keeps.trans ?_ (State.each_keeps _ _ _ ?_)
    | with_reducible refine Keeps.trans ?_ (Keeps.foldl _ ?_ _ _)
    | with_reducible refine Keeps.trans ?_ (begin_keeps _)
    | (refine Keeps.of_kept ?_; simp; done)
    | (refine keepsBy_of_keptBy ?_; simp; done)
    | intro _
    | exact ⟨rfl, Nat.le_refl _, id, id⟩
    | with_reducible refine Keeps.same ?_
    | with_reducible refine Keeps.cleared ?_

theorem State.engineUe_keeps (s : State) (n : Nat) (l : LineAt) (addrErr : Bool) (who acc : Nat) : Keeps s (State.engineUe s n l addrErr who acc) := by
  unfold State.engineUe
  split
  · exact State.houseUe_keeps _ _ _
  · dsimp only
    split
    · exact State.poisonLine_keeps _ _ _ _ _
    · split
      · exact Keeps.refl s
      · split
        · exact Keeps.of_kept (State.startHeal_kept _ _ _ _ _ _)
        · exact Keeps.of_kept (State.healRefused_kept _ _ _ _ _)

theorem State.chunkBad_keeps (s : State) (n : Nat) (m : Migration) (bad : List Nat) : Keeps s (State.chunkBad s n m bad) := by
  unfold State.chunkBad
  (try dsimp only)
  repeat' first
    | with_reducible exact Keeps.refl _
    | split
    | with_reducible refine Keeps.trans ?_ (State.engineUe_keeps _ _ _ _ _ _)
    | with_reducible refine occurs_keeps _ _ _ ?_
    | with_reducible refine State.keepsBy_next ?_
    | with_reducible refine Keeps.trans ?_ (State.each_keeps _ _ _ ?_)
    | with_reducible refine Keeps.trans ?_ (Keeps.foldl _ ?_ _ _)
    | with_reducible refine Keeps.trans ?_ (begin_keeps _)
    | (refine Keeps.of_kept ?_; simp; done)
    | (refine keepsBy_of_keptBy ?_; simp; done)
    | intro _
    | exact ⟨rfl, Nat.le_refl _, id, id⟩
    | with_reducible refine Keeps.same ?_
    | with_reducible refine Keeps.cleared ?_

theorem State.chunkCopied_keeps (s : State) (q : Nat) (m : Migration) (bad : List Nat) : Keeps s (State.chunkCopied s q m bad) := by
  refine (State.chunkBad_keeps s (4 * q + m.j) m bad).trans (Keeps.of_kept ?_)
  unfold State.chunkCopied
  generalize s.chunkBad (4 * q + m.j) m bad = t
  dsimp only
  split <;> simp

theorem execMigrationChunk_keeps (q : QuadIx) (bad : List Nat) (s : State) : s.keepsBy (execMigrationChunk q bad s) := by
  unfold execMigrationChunk
  (try dsimp only)
  repeat' first
    | with_reducible exact Keeps.refl _
    | split
    | with_reducible refine Keeps.trans ?_ (Keeps.of_kept (State.begin_kept _))
    | with_reducible refine Keeps.trans ?_ (State.chunkCopied_keeps _ _ _ _)
    | with_reducible refine occurs_keeps _ _ _ ?_
    | with_reducible refine State.keepsBy_next ?_
    | with_reducible refine Keeps.trans ?_ (State.each_keeps _ _ _ ?_)
    | with_reducible refine Keeps.trans ?_ (Keeps.foldl _ ?_ _ _)
    | with_reducible refine Keeps.trans ?_ (begin_keeps _)
    | (refine Keeps.of_kept ?_; simp; done)
    | (refine keepsBy_of_keptBy ?_; simp; done)
    | intro _
    | exact ⟨rfl, Nat.le_refl _, id, id⟩
    | with_reducible refine Keeps.same ?_
    | with_reducible refine Keeps.cleared ?_

end Sys2Proof.Machine
end

