-- ==== Sys2Proof/Laws/KeptDram.lean ====
section
/-!
SUPPORT. Sys2Proof/Laws/KeptDram.lean: which operations of Machine/Dram.lean keep DRAM, the fuses and the queue.
-/

set_option Elab.async false
namespace Sys2Proof.Machine

@[simp] theorem State.setBank_kept (s : State) (n k : Nat) (b : Option Bank) : (State.setBank s n k b).kept = s.kept := by
  unfold State.setBank
  (try simp) <;> (repeat' split) <;> simp_all

@[simp] theorem State.abandonChange_kept (s : State) (n : Nat) : (State.abandonChange s n).kept = s.kept := by
  unfold State.abandonChange
  (try simp) <;> (repeat' split) <;> simp_all

@[simp] theorem State.enqueue_kept (s : State) (n : Nat) (e : QEntry) : (State.enqueue s n e).kept = s.kept := by
  unfold State.enqueue
  (try simp) <;> (repeat' split) <;> simp_all

@[simp] theorem State.enterHead_kept (s : State) (n h : Nat) (r : HReq) (e : QEntry) : (State.enterHead s n h r e).kept = s.kept := by
  unfold State.enterHead
  (try simp) <;> (repeat' split) <;> simp_all

@[simp] theorem State.entryGoes_kept (s : State) (n : Nat) (a : EntryAsk) (e : QEntry) : (State.entryGoes s n a e).kept = s.kept := by
  unfold State.entryGoes
  (try simp) <;> (repeat' split) <;> simp_all

@[simp] theorem State.queueEntry_kept (s : State) (n : Nat) : (State.queueEntry s n).kept = s.kept := by
  unfold State.queueEntry
  (try simp) <;> (repeat' split) <;> simp_all

theorem execScQueueEntry_kept (sc : ScIx) (s : State) : s.keptBy (execScQueueEntry sc s) := by
  unfold execScQueueEntry
  (try simp) <;> (repeat' split) <;> simp_all

@[simp] theorem State.rowIssue_kept (s : State) (n : Nat) (c : RowCmd) : (State.rowIssue s n c).kept = s.kept := by
  unfold State.rowIssue
  (try simp) <;> (repeat' split) <;> simp_all

@[simp] theorem State.lineReplaced_kept (s : State) (dpa : Nat) : (State.lineReplaced s dpa).kept = s.kept := by
  unfold State.lineReplaced
  (try simp) <;> (repeat' split) <;> simp_all

@[simp] theorem State.judgeMode_kept (s : State) (n : Nat) : (State.judgeMode s n).kept = s.kept := by
  unfold State.judgeMode
  (try simp) <;> (repeat' split) <;> simp_all

theorem execPageIdleClose_kept (sc : ScIx) (bank : Nat) (s : State) : s.keptBy (execPageIdleClose sc bank s) := by
  unfold execPageIdleClose
  (try simp) <;> (repeat' split) <;> simp_all

theorem execRefreshDue_kept (sc : ScIx) (rank : Nat) (bank : Nat) (s : State) : s.keptBy (execRefreshDue sc rank bank s) := by
  unfold execRefreshDue
  (try simp) <;> (repeat' split) <;> simp_all

theorem execMr4Poll_kept (sc : ScIx) (temps : List Nat) (s : State) : s.keptBy (execMr4Poll sc temps s) := by
  unfold execMr4Poll
  (try simp) <;> (repeat' split) <;> simp_all

theorem execRankIdleSelfRefresh_kept (sc : ScIx) (rank : Nat) (s : State) : s.keptBy (execRankIdleSelfRefresh sc rank s) := by
  unfold execRankIdleSelfRefresh
  (try simp) <;> (repeat' split) <;> simp_all

@[simp] theorem State.correctedRead_kept (s : State) (n : Nat) (e : QEntry) (errs : List Nat) : (State.correctedRead s n e errs).kept = s.kept := by
  unfold State.correctedRead
  (try simp) <;> (repeat' split) <;> simp_all

@[simp] theorem State.countUe_kept (s : State) (n : Nat) (e : QEntry) (addrErr : Bool) : (State.countUe s n e addrErr).kept = s.kept := by
  unfold State.countUe
  (try simp) <;> (repeat' split) <;> simp_all

@[simp] theorem State.answerRead_kept (s : State) (e : QEntry) (data : Line) (poison : Bool) : (State.answerRead s e data poison).kept = s.kept := by
  unfold State.answerRead
  (try simp) <;> (repeat' split) <;> simp_all

@[simp] theorem State.hostUe_kept (s : State) (e : QEntry) (addrErr : Bool) : (State.hostUe s e addrErr).kept = s.kept := by
  unfold State.hostUe
  (try simp) <;> (repeat' split) <;> simp_all

@[simp] theorem State.scrubBack_kept (s : State) (n : Nat) (e : QEntry) : (State.scrubBack s n e).kept = s.kept := by
  unfold State.scrubBack
  (try simp) <;> (repeat' split) <;> simp_all

@[simp] theorem State.readPoison_kept (s : State) (e : QEntry) : (State.readPoison s e).kept = s.kept := by
  unfold State.readPoison
  (try simp) <;> (repeat' split) <;> simp_all

@[simp] theorem State.scrubPassEnds_kept (s : State) (n : Nat) : (State.scrubPassEnds s n).kept = s.kept := by
  unfold State.scrubPassEnds
  (try simp) <;> (repeat' split) <;> simp_all

@[simp] theorem State.scrubRead_kept (s : State) (l : LineAt) (loc : Loc) : (State.scrubRead s l loc).kept = s.kept := by
  unfold State.scrubRead
  (try simp) <;> (repeat' split) <;> simp_all

@[simp] theorem State.patrolRead_kept (s : State) (n : Nat) : (State.patrolRead s n).kept = s.kept := by
  unfold State.patrolRead
  (try simp) <;> (repeat' split) <;> simp_all

theorem execPatrolScrubRead_kept (sc : ScIx) (s : State) : s.keptBy (execPatrolScrubRead sc s) := by
  unfold execPatrolScrubRead
  (try simp) <;> (repeat' split) <;> simp_all

theorem execCaParityAlert_kept (sc : ScIx) (s : State) : s.keptBy (execCaParityAlert sc s) := by
  unfold execCaParityAlert
  (try simp) <;> (repeat' split) <;> simp_all

theorem execGpfPhase1_kept (head : HeadIx) (s : State) : s.keptBy (execGpfPhase1 head s) := by
  unfold execGpfPhase1
  (try simp) <;> (repeat' split) <;> simp_all

theorem execGpfPhase2_kept (head : HeadIx) (s : State) : s.keptBy (execGpfPhase2 head s) := by
  unfold execGpfPhase2
  (try simp) <;> (repeat' split) <;> simp_all

end Sys2Proof.Machine
end

