-- ==== Sys2Proof/Laws/KeepsDram.lean ====
section
/-!
SUPPORT. Sys2Proof/Laws/KeepsDram.lean: the operations of Machine/Dram.lean that reach DRAM or the fuses keep what every command keeps.
-/

set_option Elab.async false
namespace Sys2Proof.Machine

theorem State.columnIssue_keeps (s : State) (n : Nat) (e : QEntry) : Keeps s (State.columnIssue s n e) := by
  unfold State.columnIssue
  (try dsimp only)
  repeat' first
    | with_reducible exact Keeps.refl _
    | split
    | with_reducible refine Keeps.trans ?_ (Keeps.of_kept (State.bump_kept _ _ _))
    | with_reducible refine Keeps.trans ?_ (Keeps.of_kept (State.dramOut_kept _ _ _ _ _ _))
    | with_reducible refine Keeps.trans ?_ (Keeps.of_kept (State.judgeGpf_kept _))
    | with_reducible refine Keeps.trans ?_ (Keeps.of_kept (State.lineReplaced_kept _ _))
    | with_reducible refine Keeps.trans ?_ (Keeps.of_kept (State.modSc_kept _ _ _))
    | with_reducible refine Keeps.trans ?_ (Keeps.of_kept (State.setBank_kept _ _ _ _))
    | with_reducible refine Keeps.trans ?_ (State.writeLine_keeps _ _ _)
    | with_reducible refine occurs_keeps _ _ _ ?_
    | with_reducible refine State.keepsBy_next ?_
    | with_reducible refine Keeps.trans ?_ (State.each_keeps _ _ _ ?_)
    | with_reducible refine Keeps.trans ?_ (Keeps.foldl _ ?_ _ _)
    | with_reducible refine Keeps.trans ?_ (begin_keeps _)
    | (refine Keeps.of_kept ?_; simp; done)
    | (refine keepsBy_of_keptBy ?_; simp; done)
    | intro _
    | exact ⟨rfl, Nat.le_refl _, id, id⟩
    | with_reducible refine Keeps.same ?_
    | with_reducible refine Keeps.cleared ?_

theorem State.commandIssue_keeps (s : State) (n : Nat) (i : IssueIn) : Keeps s (State.commandIssue s n i) := by
  unfold State.commandIssue
  (try dsimp only)
  repeat' first
    | with_reducible exact Keeps.refl _
    | split
    | with_reducible refine Keeps.trans ?_ (State.columnIssue_keeps _ _ _)
    | with_reducible refine Keeps.trans ?_ (Keeps.of_kept (State.judgeMode_kept _ _))
    | with_reducible refine Keeps.trans ?_ (Keeps.of_kept (State.rowIssue_kept _ _ _))
    | with_reducible refine occurs_keeps _ _ _ ?_
    | with_reducible refine State.keepsBy_next ?_
    | with_reducible refine Keeps.trans ?_ (State.each_keeps _ _ _ ?_)
    | with_reducible refine Keeps.trans ?_ (Keeps.foldl _ ?_ _ _)
    | with_reducible refine Keeps.trans ?_ (begin_keeps _)
    | (refine Keeps.of_kept ?_; simp; done)
    | (refine keepsBy_of_keptBy ?_; simp; done)
    | intro _
    | exact ⟨rfl, Nat.le_refl _, id, id⟩
    | with_reducible refine Keeps.same ?_
    | with_reducible refine Keeps.cleared ?_

theorem execDramCommandIssue_keeps (sc : ScIx) (i : IssueIn) (s : State) : s.keepsBy (execDramCommandIssue sc i s) := by
  unfold execDramCommandIssue
  (try dsimp only)
  repeat' first
    | with_reducible exact Keeps.refl _
    | split
    | with_reducible refine Keeps.trans ?_ (Keeps.of_kept (State.atCycle_kept _ _))
    | with_reducible refine Keeps.trans ?_ (Keeps.of_kept (State.begin_kept _))
    | with_reducible refine Keeps.trans ?_ (State.commandIssue_keeps _ _ _)
    | with_reducible refine occurs_keeps _ _ _ ?_
    | with_reducible refine State.keepsBy_next ?_
    | with_reducible refine Keeps.trans ?_ (State.each_keeps _ _ _ ?_)
    | with_reducible refine Keeps.trans ?_ (Keeps.foldl _ ?_ _ _)
    | with_reducible refine Keeps.trans ?_ (begin_keeps _)
    | (refine Keeps.of_kept ?_; simp; done)
    | (refine keepsBy_of_keptBy ?_; simp; done)
    | intro _
    | exact ⟨rfl, Nat.le_refl _, id, id⟩
    | with_reducible refine Keeps.same ?_
    | with_reducible refine Keeps.cleared ?_

theorem State.readUe_keeps (s : State) (n : Nat) (e : QEntry) (addrErr : Bool) : Keeps s (State.readUe s n e addrErr) := by
  unfold State.readUe
  (try dsimp only)
  repeat' first
    | with_reducible exact Keeps.refl _
    | split
    | with_reducible refine Keeps.trans ?_ (Keeps.of_kept (State.countUe_kept _ _ _ _))
    | with_reducible refine Keeps.trans ?_ (State.engineUe_keeps _ _ _ _ _ _)
    | with_reducible refine Keeps.trans ?_ (Keeps.of_kept (State.hostUe_kept _ _ _))
    | with_reducible refine occurs_keeps _ _ _ ?_
    | with_reducible refine State.keepsBy_next ?_
    | with_reducible refine Keeps.trans ?_ (State.each_keeps _ _ _ ?_)
    | with_reducible refine Keeps.trans ?_ (Keeps.foldl _ ?_ _ _)
    | with_reducible refine Keeps.trans ?_ (begin_keeps _)
    | (refine Keeps.of_kept ?_; simp; done)
    | (refine keepsBy_of_keptBy ?_; simp; done)
    | intro _
    | exact ⟨rfl, Nat.le_refl _, id, id⟩
    | with_reducible refine Keeps.same ?_
    | with_reducible refine Keeps.cleared ?_

theorem State.readDecoded_keeps (s : State) (n : Nat) (f : InFlight) (errs : List Nat) (n0 : Decoded) : Keeps s (State.readDecoded s n f errs n0) := by
  unfold State.readDecoded
  (try dsimp only)
  repeat' first
    | with_reducible exact Keeps.refl _
    | split
    | with_reducible refine Keeps.trans ?_ (Keeps.of_kept (State.answerRead_kept _ _ _ _))
    | with_reducible refine Keeps.trans ?_ (Keeps.of_kept (State.correctedRead_kept _ _ _ _))
    | with_reducible refine Keeps.trans ?_ (Keeps.of_kept (State.readPoison_kept _ _))
    | with_reducible refine Keeps.trans ?_ (State.readUe_keeps _ _ _ _)
    | with_reducible refine Keeps.trans ?_ (Keeps.of_kept (State.scrubBack_kept _ _ _))
    | with_reducible refine occurs_keeps _ _ _ ?_
    | with_reducible refine State.keepsBy_next ?_
    | with_reducible refine Keeps.trans ?_ (State.each_keeps _ _ _ ?_)
    | with_reducible refine Keeps.trans ?_ (Keeps.foldl _ ?_ _ _)
    | with_reducible refine Keeps.trans ?_ (begin_keeps _)
    | (refine Keeps.of_kept ?_; simp; done)
    | (refine keepsBy_of_keptBy ?_; simp; done)
    | intro _
    | exact ⟨rfl, Nat.le_refl _, id, id⟩
    | with_reducible refine Keeps.same ?_
    | with_reducible refine Keeps.cleared ?_

theorem State.readData_keeps (s : State) (n : Nat) (f : InFlight) (r : ReadBack) : Keeps s (State.readData s n f r) := by
  unfold State.readData
  (try dsimp only)
  repeat' first
    | with_reducible exact Keeps.refl _
    | split
    | with_reducible refine Keeps.trans ?_ (Keeps.of_kept (State.modSc_kept _ _ _))
    | with_reducible refine Keeps.trans ?_ (State.readDecoded_keeps _ _ _ _ _)
    | with_reducible refine occurs_keeps _ _ _ ?_
    | with_reducible refine State.keepsBy_next ?_
    | with_reducible refine Keeps.trans ?_ (State.each_keeps _ _ _ ?_)
    | with_reducible refine Keeps.trans ?_ (Keeps.foldl _ ?_ _ _)
    | with_reducible refine Keeps.trans ?_ (begin_keeps _)
    | (refine Keeps.of_kept ?_; simp; done)
    | (refine keepsBy_of_keptBy ?_; simp; done)
    | intro _
    | exact ⟨rfl, Nat.le_refl _, id, id⟩
    | with_reducible refine Keeps.same ?_
    | with_reducible refine Keeps.cleared ?_

theorem State.readBack_keeps (s : State) (n : Nat) (r : ReadBack) : Keeps s (State.readBack s n r) := by
  unfold State.readBack
  (try dsimp only)
  repeat' first
    | with_reducible exact Keeps.refl _
    | split
    | with_reducible refine Keeps.trans ?_ (State.readData_keeps _ _ _ _)
    | with_reducible refine occurs_keeps _ _ _ ?_
    | with_reducible refine State.keepsBy_next ?_
    | with_reducible refine Keeps.trans ?_ (State.each_keeps _ _ _ ?_)
    | with_reducible refine Keeps.trans ?_ (Keeps.foldl _ ?_ _ _)
    | with_reducible refine Keeps.trans ?_ (begin_keeps _)
    | (refine Keeps.of_kept ?_; simp; done)
    | (refine keepsBy_of_keptBy ?_; simp; done)
    | intro _
    | exact ⟨rfl, Nat.le_refl _, id, id⟩
    | with_reducible refine Keeps.same ?_
    | with_reducible refine Keeps.cleared ?_

theorem execDramReadData_keeps (reads : List (ScIx × ReadBack)) (s : State) : s.keepsBy (execDramReadData reads s) := by
  unfold execDramReadData
  (try dsimp only)
  repeat' first
    | with_reducible exact Keeps.refl _
    | split
    | with_reducible refine Keeps.trans ?_ (Keeps.of_kept (State.begin_kept _))
    | with_reducible refine Keeps.trans ?_ (State.readBack_keeps _ _ _)
    | with_reducible refine occurs_keeps _ _ _ ?_
    | with_reducible refine State.keepsBy_next ?_
    | with_reducible refine Keeps.trans ?_ (State.each_keeps _ _ _ ?_)
    | with_reducible refine Keeps.trans ?_ (Keeps.foldl _ ?_ _ _)
    | with_reducible refine Keeps.trans ?_ (begin_keeps _)
    | (refine Keeps.of_kept ?_; simp; done)
    | (refine keepsBy_of_keptBy ?_; simp; done)
    | intro _
    | exact ⟨rfl, Nat.le_refl _, id, id⟩
    | with_reducible refine Keeps.same ?_
    | with_reducible refine Keeps.cleared ?_

end Sys2Proof.Machine
end

