-- ==== Sys2Proof/Laws/KeptAccess.lean ====
section
/-!
SUPPORT. Sys2Proof/Laws/KeptAccess.lean: which operations of Machine/Access.lean keep DRAM, the fuses and the queue.
-/

set_option Elab.async false
namespace Sys2Proof.Machine

@[simp] theorem State.bankWr_kept (s : State) (p off : Nat) (w : Word) : (State.bankWr s p off w).kept = s.kept := by
  unfold State.bankWr
  repeat' first
    | (simp; done)
    | (rw [← snd_kept ‹_ = (_, _)›]; simp; done)
    | (rw [← thd_kept ‹_ = (_, _, _)›]; simp; done)
    | split
    | refine (State.each_kept _ _ _ ?_).trans ?_
    | refine (foldl_kept _ ?_ _ _).trans ?_
    | refine (State.when_kept _ _ _ ?_).trans ?_
    | refine occurs_kept _ _ _ ?_
    | (intro _; skip)
    | simp

@[simp] theorem State.bankPut_kept (s : State) (p : Nat) (f : Fld) (v : Nat) : (State.bankPut s p f v).kept = s.kept := by
  unfold State.bankPut
  (try simp) <;> (repeat' split) <;> simp_all

@[simp] theorem State.accessFlag_kept (s : State) (p : Nat) (f : Fld) (off : Nat) : (State.accessFlag s p f off).kept = s.kept := by
  unfold State.accessFlag
  (try simp) <;> (repeat' split) <;> simp_all

@[simp] theorem State.reach_kept (s : State) (p off : Nat) (f : State → State) (h : ∀ x, (f x).kept = x.kept) :
    (s.reach p off f).kept = s.kept := by
  unfold State.reach
  split
  · rfl
  · split
    · split <;> simp
    · exact h _

@[simp] theorem State.readOne_kept (s : State) (p : Nat) (d : RegDef) (off : Nat) : (State.readOne s p d off).2.kept = s.kept := by
  unfold State.readOne
  repeat' first
    | (simp; done)
    | (rw [← snd_kept ‹_ = (_, _)›]; simp; done)
    | (rw [← thd_kept ‹_ = (_, _, _)›]; simp; done)
    | split
    | refine (State.each_kept _ _ _ ?_).trans ?_
    | refine (foldl_kept _ ?_ _ _).trans ?_
    | refine (State.when_kept _ _ _ ?_).trans ?_
    | refine occurs_kept _ _ _ ?_
    | (intro _; skip)
    | simp

@[simp] theorem State.unmapped_kept (s : State) (p off : Nat) : (State.unmapped s p off).kept = s.kept := by
  unfold State.unmapped
  (try simp) <;> (repeat' split) <;> simp_all

@[simp] theorem State.bcastRead_kept (s : State) (p off : Nat) (l : List Nat) : (State.bcastRead s p off l).2.kept = s.kept := by
  unfold State.bcastRead
  (try simp) <;> (repeat' split) <;> simp_all

@[simp] theorem State.readReg_kept (s : State) (p off : Nat) : (State.readReg s p off).2.kept = s.kept := by
  unfold State.readReg
  (try simp) <;> (repeat' split) <;> simp_all

end Sys2Proof.Machine
end

