-- ==== Sys2Proof/Laws/KeptSave.lean ====
section
/-!
SUPPORT. Sys2Proof/Laws/KeptSave.lean: which operations of Machine/Save.lean keep DRAM, the fuses and the queue.
-/

set_option Elab.async false
namespace Sys2Proof.Machine

theorem execVinSenseLow_kept (s : State) : s.keptBy (execVinSenseLow s) := by
  unfold execVinSenseLow
  (try simp) <;> (repeat' split) <;> simp_all

theorem execPfwNAssert_kept (s : State) : s.keptBy (execPfwNAssert s) := by
  unfold execPfwNAssert
  (try simp) <;> (repeat' split) <;> simp_all

theorem execInputReturn_kept (mv : Nat) (s : State) : s.keptBy (execInputReturn mv s) := by
  unfold execInputReturn
  (try simp) <;> (repeat' split) <;> simp_all

theorem execSaveBackupEnable_kept (s : State) : s.keptBy (execSaveBackupEnable s) := by
  unfold execSaveBackupEnable
  (try simp) <;> (repeat' split) <;> simp_all

@[simp] theorem State.rideThrough_kept (s : State) : (State.rideThrough s).kept = s.kept := by
  unfold State.rideThrough
  (try simp) <;> (repeat' split) <;> simp_all

@[simp] theorem State.rideThroughEnds_kept (s : State) : (State.rideThroughEnds s).kept = s.kept := by
  unfold State.rideThroughEnds
  (try simp) <;> (repeat' split) <;> simp_all

@[simp] theorem State.saveCommit_kept (s : State) : (State.saveCommit s).kept = s.kept := by
  unfold State.saveCommit
  (try simp) <;> (repeat' split) <;> simp_all

theorem execSaveDecide_kept (s : State) : s.keptBy (execSaveDecide s) := by
  unfold execSaveDecide
  (try simp) <;> (repeat' split) <;> simp_all

@[simp] theorem State.skimAbandon_kept (s : State) (q : Nat) : (State.skimAbandon s q).kept = s.kept := by
  unfold State.skimAbandon
  (try simp) <;> (repeat' split) <;> simp_all

@[simp] theorem State.stopFlash_kept (s : State) (q : Nat) : (State.stopFlash s q).kept = s.kept := by
  unfold State.stopFlash
  (try simp) <;> (repeat' split) <;> simp_all

@[simp] theorem State.epochAbandonSave_kept (s : State) : (State.epochAbandonSave s).kept = s.kept := by
  unfold State.epochAbandonSave
  (try simp) <;> (repeat' split) <;> simp_all

@[simp] theorem State.quiesceHeads_kept (s : State) : (State.quiesceHeads s).kept = s.kept := by
  unfold State.quiesceHeads
  (try simp) <;> (repeat' split) <;> simp_all

@[simp] theorem State.saveClass_kept (s : State) : (State.saveClass s).kept = s.kept := by
  unfold State.saveClass
  (try simp) <;> (repeat' split) <;> simp_all

theorem execSaveCommitArrive_kept (s : State) : s.keptBy (execSaveCommitArrive s) := by
  unfold execSaveCommitArrive
  (try simp) <;> (repeat' split) <;> simp_all

theorem execQuadrantWriteDrained_kept (q : QuadIx) (s : State) : s.keptBy (execQuadrantWriteDrained q s) := by
  unfold execQuadrantWriteDrained
  (try simp) <;> (repeat' split) <;> simp_all

theorem execPersistencePoint_kept (s : State) : s.keptBy (execPersistencePoint s) := by
  unfold execPersistencePoint
  (try simp) <;> (repeat' split) <;> simp_all

theorem execFabricPhyOff_kept (s : State) : s.keptBy (execFabricPhyOff s) := by
  unfold execFabricPhyOff
  (try simp) <;> (repeat' split) <;> simp_all

theorem execSaveWriteStart_kept (q : QuadIx) (bad : List Nat) (s : State) : s.keptBy (execSaveWriteStart q bad s) := by
  unfold execSaveWriteStart
  (try simp) <;> (repeat' split) <;> simp_all

theorem execSaveQuadrantTailDone_kept (q : QuadIx) (s : State) : s.keptBy (execSaveQuadrantTailDone q s) := by
  unfold execSaveQuadrantTailDone
  (try simp) <;> (repeat' split) <;> simp_all

@[simp] theorem State.pushRecord_kept (s : State) (r : Record) (k chan : Nat) : (State.pushRecord s r k chan).kept = s.kept := by
  unfold State.pushRecord
  (try simp) <;> (repeat' split) <;> simp_all

theorem execSealWrite_kept (s : State) : s.keptBy (execSealWrite s) := by
  unfold execSealWrite
  (try simp) <;> (repeat' split) <;> simp_all

@[simp] theorem State.setStage_kept (s : State) (k : Nat) (c : CopyStage) : (State.setStage s k c).kept = s.kept := by
  unfold State.setStage
  (try simp) <;> (repeat' split) <;> simp_all

@[simp] theorem State.judgeCopy_kept (s : State) (w : RecWrite) (k : Nat) (ok : Bool) : (State.judgeCopy s w k ok).kept = s.kept := by
  unfold State.judgeCopy
  (try simp) <;> (repeat' split) <;> simp_all

@[simp] theorem State.rebuildMaps_kept (s : State) (q : Nat) : (State.rebuildMaps s q).kept = s.kept := by
  unfold State.rebuildMaps
  (try simp) <;> (repeat' split) <;> simp_all

@[simp] theorem State.warmResume_kept (s : State) : (State.warmResume s).kept = s.kept := by
  unfold State.warmResume
  (try simp) <;> (repeat' split) <;> simp_all

@[simp] theorem State.startWarmReset_kept (s : State) : (State.startWarmReset s).kept = s.kept := by
  unfold State.startWarmReset
  (try simp) <;> (repeat' split) <;> simp_all

@[simp] theorem State.latchedToggle_kept (s : State) (resume : Bool) : (State.latchedToggle s resume).kept = s.kept := by
  unfold State.latchedToggle
  (try simp) <;> (repeat' split) <;> simp_all

@[simp] theorem State.afterSeal_kept (s : State) : (State.afterSeal s).kept = s.kept := by
  unfold State.afterSeal
  (try simp) <;> (repeat' split) <;> simp_all

@[simp] theorem State.endUnsealed_kept (s : State) : (State.endUnsealed s).kept = s.kept := by
  unfold State.endUnsealed
  (try simp) <;> (repeat' split) <;> simp_all

@[simp] theorem State.saveSupplyLost_kept (s : State) : (State.saveSupplyLost s).kept = s.kept := by
  unfold State.saveSupplyLost
  (try simp) <;> (repeat' split) <;> simp_all

@[simp] theorem State.eraseStops_kept (s : State) : (State.eraseStops s).kept = s.kept := by
  unfold State.eraseStops
  (try simp) <;> (repeat' split) <;> simp_all

@[simp] theorem State.saveSealed_kept (s : State) (r : Record) (both : Bool) : (State.saveSealed s r both).kept = s.kept := by
  unfold State.saveSealed
  (try simp) <;> (repeat' split) <;> simp_all

@[simp] theorem State.sealReadback_kept (s : State) (w : RecWrite) (ok : List Bool) : (State.sealReadback s w ok).kept = s.kept := by
  unfold State.sealReadback
  (try simp) <;> (repeat' split) <;> simp_all

theorem execSealReadback_kept (ok : List Bool) (s : State) : s.keptBy (execSealReadback ok s) := by
  unfold execSealReadback
  (try simp) <;> (repeat' split) <;> simp_all

theorem execBkpEnRelease_kept (s : State) : s.keptBy (execBkpEnRelease s) := by
  unfold execBkpEnRelease
  (try simp) <;> (repeat' split) <;> simp_all

end Sys2Proof.Machine
end

