-- ==== Sys2Proof/Laws/KeptGauge.lean ====
section
/-!
SUPPORT. Sys2Proof/Laws/KeptGauge.lean: which operations of Machine/Gauge.lean keep DRAM, the fuses and the queue.
-/

set_option Elab.async false
namespace Sys2Proof.Machine

@[simp] theorem State.sync_kept (s : State) (kind soc : Nat) : (State.sync s kind soc).kept = s.kept := by
  unfold State.sync
  (try simp) <;> (repeat' split) <;> simp_all

@[simp] theorem State.showCharge_kept (s : State) : (State.showCharge s).kept = s.kept := by
  unfold State.showCharge
  (try simp) <;> (repeat' split) <;> simp_all

@[simp] theorem State.budget_kept (s : State) : (State.budget s).kept = s.kept := by
  unfold State.budget
  (try simp) <;> (repeat' split) <;> simp_all

@[simp] theorem State.judgeFet_kept (s : State) : (State.judgeFet s).kept = s.kept := by
  unfold State.judgeFet
  (try simp) <;> (repeat' split) <;> simp_all

@[simp] theorem State.judgePack_kept (s : State) : (State.judgePack s).kept = s.kept := by
  unfold State.judgePack
  (try simp) <;> (repeat' split) <;> simp_all

@[simp] theorem State.packFault_kept (s : State) (code src kind : Nat) : (State.packFault s code src kind).kept = s.kept := by
  unfold State.packFault
  (try simp) <;> (repeat' split) <;> simp_all

@[simp] theorem State.packClear_kept (s : State) (code : Nat) : (State.packClear s code).kept = s.kept := by
  unfold State.packClear
  (try simp) <;> (repeat' split) <;> simp_all

@[simp] theorem State.chargerTable_kept (s : State) (ok : Bool) : (State.chargerTable s ok).kept = s.kept := by
  unfold State.chargerTable
  (try simp) <;> (repeat' split) <;> simp_all

@[simp] theorem State.writeBack_kept (s : State) (ok : Bool) : (State.writeBack s ok).kept = s.kept := by
  unfold State.writeBack
  (try simp) <;> (repeat' split) <;> simp_all

@[simp] theorem State.packChange_kept (s : State) (e : Eeprom) (chargerOk : Bool) : (State.packChange s e chargerOk).kept = s.kept := by
  unfold State.packChange
  (try simp) <;> (repeat' split) <;> simp_all

theorem execLearnedWriteStart_kept (s : State) : s.keptBy (execLearnedWriteStart s) := by
  unfold execLearnedWriteStart
  (try simp) <;> (repeat' split) <;> simp_all

@[simp] theorem State.changeSlot_kept (s : State) (slot : Nat) (v : Slot) : (State.changeSlot s slot v).kept = s.kept := by
  unfold State.changeSlot
  (try simp) <;> (repeat' split) <;> simp_all

@[simp] theorem State.keysWritten_kept (s : State) (n : Nat) : (State.keysWritten s n).kept = s.kept := by
  unfold State.keysWritten
  repeat' first
    | (simp; done)
    | (rw [← snd_kept ‹_ = (_, _)›]; simp; done)
    | (rw [← thd_kept ‹_ = (_, _, _)›]; simp; done)
    | split
    | refine (State.each_kept _ _ _ ?_).trans ?_
    | refine (foldl_kept _ ?_ _ _).trans ?_
    | refine (State.when_kept _ _ _ ?_).trans ?_
    | refine occurs_kept _ _ _ ?_
    | (intro _; skip)
    | simp

@[simp] theorem State.learnedWriteEnds_kept (s : State) : (State.learnedWriteEnds s).kept = s.kept := by
  unfold State.learnedWriteEnds
  (try simp) <;> (repeat' split) <;> simp_all

theorem execLearnedWriteReadback_kept (ok : Bool) (s : State) : s.keptBy (execLearnedWriteReadback ok s) := by
  unfold execLearnedWriteReadback
  (try simp) <;> (repeat' split) <;> simp_all

@[simp] theorem State.measure_kept (s : State) (i : SuperIn) : (State.measure s i).kept = s.kept := by
  unfold State.measure
  (try simp) <;> (repeat' split) <;> simp_all

@[simp] theorem State.readSerial_kept (s : State) (i : SuperIn) : (State.readSerial s i).kept = s.kept := by
  unfold State.readSerial
  (try simp) <;> (repeat' split) <;> simp_all

@[simp] theorem State.startCharger_kept (s : State) (i : SuperIn) : (State.startCharger s i).kept = s.kept := by
  unfold State.startCharger
  (try simp) <;> (repeat' split) <;> simp_all

@[simp] theorem State.presence_kept (s : State) (i : SuperIn) : (State.presence s i).kept = s.kept := by
  unfold State.presence
  (try simp) <;> (repeat' split) <;> simp_all

@[simp] theorem State.superFaults_kept (s : State) : (State.superFaults s).kept = s.kept := by
  unfold State.superFaults
  (try simp) <;> (repeat' split) <;> simp_all

@[simp] theorem State.gaugeSuperframe_kept (s : State) (i : SuperIn) : (State.gaugeSuperframe s i).kept = s.kept := by
  unfold State.gaugeSuperframe
  (try simp) <;> (repeat' split) <;> simp_all

@[simp] theorem State.gaugeFrame_kept (s : State) (shunt : Int) : (State.gaugeFrame s shunt).kept = s.kept := by
  unfold State.gaugeFrame
  (try simp) <;> (repeat' split) <;> simp_all

@[simp] theorem State.learnRegulate_kept (s : State) : (State.learnRegulate s).kept = s.kept := by
  unfold State.learnRegulate
  (try simp) <;> (repeat' split) <;> simp_all

@[simp] theorem State.tokenAllot_kept (s : State) (packCode : Nat) (late : Bool) : (State.tokenAllot s packCode late).kept = s.kept := by
  unfold State.tokenAllot
  (try simp) <;> (repeat' split) <;> simp_all

@[simp] theorem State.judgeDisagree_kept (s : State) : (State.judgeDisagree s).kept = s.kept := by
  unfold State.judgeDisagree
  (try simp) <;> (repeat' split) <;> simp_all

@[simp] theorem State.askChg_kept (s : State) : (State.askChg s).kept = s.kept := by
  unfold State.askChg
  (try simp) <;> (repeat' split) <;> simp_all

@[simp] theorem State.endChg_kept (s : State) : (State.endChg s).kept = s.kept := by
  unfold State.endChg
  (try simp) <;> (repeat' split) <;> simp_all

@[simp] theorem State.decideChg_kept (s : State) : (State.decideChg s).kept = s.kept := by
  unfold State.decideChg
  (try simp) <;> (repeat' split) <;> simp_all

@[simp] theorem State.chargeTerminate_kept (s : State) : (State.chargeTerminate s).kept = s.kept := by
  unfold State.chargeTerminate
  (try simp) <;> (repeat' split) <;> simp_all

@[simp] theorem State.learnStart_kept (s : State) : (State.learnStart s).kept = s.kept := by
  unfold State.learnStart
  (try simp) <;> (repeat' split) <;> simp_all

@[simp] theorem State.learnValid_kept (s : State) : (State.learnValid s).kept = s.kept := by
  unfold State.learnValid
  (try simp) <;> (repeat' split) <;> simp_all

@[simp] theorem State.learnProgress_kept (s : State) : (State.learnProgress s).2.kept = s.kept := by
  unfold State.learnProgress
  (try simp) <;> (repeat' split) <;> simp_all

@[simp] theorem State.stepFaults_kept (s : State) : (State.stepFaults s).kept = s.kept := by
  unfold State.stepFaults
  (try simp) <;> (repeat' split) <;> simp_all

@[simp] theorem State.stepSync_kept (s : State) (fullSync : Bool) : (State.stepSync s fullSync).kept = s.kept := by
  unfold State.stepSync
  (try simp) <;> (repeat' split) <;> simp_all

@[simp] theorem State.stepCycle_kept (s : State) : (State.stepCycle s).2.kept = s.kept := by
  unfold State.stepCycle
  (try simp) <;> (repeat' split) <;> simp_all

@[simp] theorem State.showSocV_kept (s : State) (v : Option Nat) : (State.showSocV s v).kept = s.kept := by
  unfold State.showSocV
  (try simp) <;> (repeat' split) <;> simp_all

@[simp] theorem State.stepJudge_kept (s : State) : (State.stepJudge s).kept = s.kept := by
  unfold State.stepJudge
  (try simp) <;> (repeat' split) <;> simp_all

@[simp] theorem State.stepCharge_kept (s : State) : (State.stepCharge s).kept = s.kept := by
  unfold State.stepCharge
  (try simp) <;> (repeat' split) <;> simp_all

@[simp] theorem State.gaugeFull_kept (s : State) (i : FullStepIn) : (State.gaugeFull s i).kept = s.kept := by
  unfold State.gaugeFull
  (try simp) <;> (repeat' split) <;> simp_all

theorem execGaugeFullStep_kept (i : FullStepIn) (s : State) : s.keptBy (execGaugeFullStep i s) := by
  unfold execGaugeFullStep
  (try simp) <;> (repeat' split) <;> simp_all

theorem execImpedanceStepQualify_kept (s : State) : s.keptBy (execImpedanceStepQualify s) := by
  unfold execImpedanceStepQualify
  (try simp) <;> (repeat' split) <;> simp_all

@[simp] theorem State.authEnds_kept (s : State) (pass : Bool) : (State.authEnds s pass).kept = s.kept := by
  unfold State.authEnds
  (try simp) <;> (repeat' split) <;> simp_all

theorem execPackAuthStart_kept (s : State) : s.keptBy (execPackAuthStart s) := by
  unfold execPackAuthStart
  (try simp) <;> (repeat' split) <;> simp_all

theorem execPackAuthResponse_kept (resp : AuthResp) (s : State) : s.keptBy (execPackAuthResponse resp s) := by
  unfold execPackAuthResponse
  (try simp) <;> (repeat' split) <;> simp_all

theorem execChgSelfGrant_kept (s : State) : s.keptBy (execChgSelfGrant s) := by
  unfold execChgSelfGrant
  (try simp) <;> (repeat' split) <;> simp_all

@[simp] theorem State.learnFallsDue_kept (s : State) : (State.learnFallsDue s).kept = s.kept := by
  unfold State.learnFallsDue
  (try simp) <;> (repeat' split) <;> simp_all

theorem execLearnDue_kept (s : State) : s.keptBy (execLearnDue s) := by
  unfold execLearnDue
  (try simp) <;> (repeat' split) <;> simp_all

theorem execLearnNotStarted_kept (s : State) : s.keptBy (execLearnNotStarted s) := by
  unfold execLearnNotStarted
  (try simp) <;> (repeat' split) <;> simp_all

theorem execConvSat_kept (s : State) : s.keptBy (execConvSat s) := by
  unfold execConvSat
  (try simp) <;> (repeat' split) <;> simp_all

end Sys2Proof.Machine
end

