-- ==== Sys2Proof/Laws/KeptRails.lean ====
section
/-!
SUPPORT. Sys2Proof/Laws/KeptRails.lean: which operations of Machine/Rails.lean keep DRAM, the fuses and the queue.
-/

set_option Elab.async false
namespace Sys2Proof.Machine

@[simp] theorem State.railEnds_kept (s : State) (k st : Nat) : (State.railEnds s k st).kept = s.kept := by
  unfold State.railEnds
  (try simp) <;> (repeat' split) <;> simp_all

@[simp] theorem State.declareRail_kept (s : State) (k kind : Nat) : (State.declareRail s k kind).kept = s.kept := by
  unfold State.declareRail
  (try simp) <;> (repeat' split) <;> simp_all

@[simp] theorem State.judgeIncident_kept (s : State) : (State.judgeIncident s).kept = s.kept := by
  unfold State.judgeIncident
  (try simp) <;> (repeat' split) <;> simp_all

theorem execFirstFailureRecord_kept (s : State) : s.keptBy (execFirstFailureRecord s) := by
  unfold execFirstFailureRecord
  (try simp) <;> (repeat' split) <;> simp_all

@[simp] theorem State.skimLost_kept (s : State) (q : Nat) : (State.skimLost s q).kept = s.kept := by
  unfold State.skimLost
  (try simp) <;> (repeat' split) <;> simp_all

@[simp] theorem State.channelLost_kept (s : State) (n : Nat) : (State.channelLost s n).kept = s.kept := by
  unfold State.channelLost
  (try simp) <;> (repeat' split) <;> simp_all

@[simp] theorem State.headLost_kept (s : State) (q h : Nat) : (State.headLost s q h).kept = s.kept := by
  unfold State.headLost
  (try simp) <;> (repeat' split) <;> simp_all

@[simp] theorem State.quadrantLost_kept (s : State) (q : Nat) : (State.quadrantLost s q).kept = s.kept := by
  unfold State.quadrantLost
  (try simp) <;> (repeat' split) <;> simp_all

@[simp] theorem State.domainLost_kept (s : State) (k : Nat) : (State.domainLost s k).kept = s.kept := by
  unfold State.domainLost
  (try simp) <;> (repeat' split) <;> simp_all

@[simp] theorem State.judgeBlocked_kept (s : State) : (State.judgeBlocked s).kept = s.kept := by
  unfold State.judgeBlocked
  (try simp) <;> (repeat' split) <;> simp_all

@[simp] theorem State.railsJudged_kept (s : State) : (State.railsJudged s).kept = s.kept := by
  unfold State.railsJudged
  (try simp) <;> (repeat' split) <;> simp_all

@[simp] theorem State.releaseRail_kept (s : State) (k : Nat) : (State.releaseRail s k).kept = s.kept := by
  unfold State.releaseRail
  (try simp) <;> (repeat' split) <;> simp_all

@[simp] theorem State.holdOff_kept (s : State) (k : Nat) : (State.holdOff s k).kept = s.kept := by
  unfold State.holdOff
  (try simp) <;> (repeat' split) <;> simp_all

@[simp] theorem State.railReacts_kept (s : State) (k : Nat) : (State.railReacts s k).kept = s.kept := by
  unfold State.railReacts
  (try simp) <;> (repeat' split) <;> simp_all

@[simp] theorem State.enableRail_kept (s : State) (k delay : Nat) : (State.enableRail s k delay).kept = s.kept := by
  unfold State.enableRail
  (try simp) <;> (repeat' split) <;> simp_all

@[simp] theorem State.startStage_kept (s : State) (ix : Nat) (r : RailRun) : (State.startStage s ix r).kept = s.kept := by
  unfold State.startStage
  (try simp) <;> (repeat' split) <;> simp_all

@[simp] theorem State.pruneRuns_kept (s : State) : (State.pruneRuns s).kept = s.kept := by
  unfold State.pruneRuns
  (try simp) <;> (repeat' split) <;> simp_all

theorem execRailStageStart_kept (s : State) : s.keptBy (execRailStageStart s) := by
  unfold execRailStageStart
  (try simp) <;> (repeat' split) <;> simp_all

@[simp] theorem State.startMainRails_kept (s : State) : (State.startMainRails s).kept = s.kept := by
  unfold State.startMainRails
  (try simp) <;> (repeat' split) <;> simp_all

theorem execMainRailPowerUp_kept (s : State) : s.keptBy (execMainRailPowerUp s) := by
  unfold execMainRailPowerUp
  (try simp) <;> (repeat' split) <;> simp_all

@[simp] theorem State.railGood_kept (s : State) (k : Nat) : (State.railGood s k).kept = s.kept := by
  unfold State.railGood
  (try simp) <;> (repeat' split) <;> simp_all

theorem execRailGood_kept (k : RailIx) (s : State) : s.keptBy (execRailGood k s) := by
  unfold execRailGood
  (try simp) <;> (repeat' split) <;> simp_all

theorem execRailUpFail_kept (k : RailIx) (s : State) : s.keptBy (execRailUpFail k s) := by
  unfold execRailUpFail
  (try simp) <;> (repeat' split) <;> simp_all

theorem execRailRetry_kept (k : RailIx) (s : State) : s.keptBy (execRailRetry k s) := by
  unfold execRailRetry
  (try simp) <;> (repeat' split) <;> simp_all

@[simp] theorem State.railsUp_kept (s : State) : (State.railsUp s).kept = s.kept := by
  unfold State.railsUp
  (try simp) <;> (repeat' split) <;> simp_all

theorem execRailsUp_kept (s : State) : s.keptBy (execRailsUp s) := by
  unfold execRailsUp
  (try simp) <;> (repeat' split) <;> simp_all

@[simp] theorem State.systemReset_kept (s : State) (k : Nat) : (State.systemReset s k).kept = s.kept := by
  unfold State.systemReset
  (try simp) <;> (repeat' split) <;> simp_all

@[simp] theorem State.faultGood_kept (s : State) (k kind : Nat) : (State.faultGood s k kind).kept = s.kept := by
  unfold State.faultGood
  (try simp) <;> (repeat' split) <;> simp_all

@[simp] theorem State.faultDown_kept (s : State) (k kind : Nat) : (State.faultDown s k kind).kept = s.kept := by
  unfold State.faultDown
  (try simp) <;> (repeat' split) <;> simp_all

theorem execRailFault_kept (k : RailIx) (kind : RailFaultKind) (s : State) : s.keptBy (execRailFault k kind s) := by
  unfold execRailFault
  (try simp) <;> (repeat' split) <;> simp_all

theorem execPowerDownStart_kept (s : State) : s.keptBy (execPowerDownStart s) := by
  unfold execPowerDownStart
  (try simp) <;> (repeat' split) <;> simp_all

end Sys2Proof.Machine
end

