-- ==== Sys2Proof/Laws/KeptGroup.lean ====
section
/-!
SUPPORT. Sys2Proof/Laws/KeptGroup.lean: which operations of Machine/Group.lean keep DRAM, the fuses and the queue.
-/

set_option Elab.async false
namespace Sys2Proof.Machine

@[simp] theorem State.goStandalone_kept (s : State) : (State.goStandalone s).kept = s.kept := by
  unfold State.goStandalone
  (try simp) <;> (repeat' split) <;> simp_all

@[simp] theorem State.trainReceived_kept (s : State) (k : Nat) : (State.trainReceived s k).kept = s.kept := by
  unfold State.trainReceived
  (try simp) <;> (repeat' split) <;> simp_all

theorem execCascadeTrainReceived_kept (pulses : Nat) (s : State) : s.keptBy (execCascadeTrainReceived pulses s) := by
  unfold execCascadeTrainReceived
  (try simp) <;> (repeat' split) <;> simp_all

theorem execCascadeMasterTrain_kept (s : State) : s.keptBy (execCascadeMasterTrain s) := by
  unfold execCascadeMasterTrain
  (try simp) <;> (repeat' split) <;> simp_all

theorem execCascadeTimeout_kept (s : State) : s.keptBy (execCascadeTimeout s) := by
  unfold execCascadeTimeout
  (try simp) <;> (repeat' split) <;> simp_all

theorem execStatusPoll_kept (pos : PosIx) (answer : Option Nat) (s : State) : s.keptBy (execStatusPoll pos answer s) := by
  unfold execStatusPoll
  (try simp) <;> (repeat' split) <;> simp_all

theorem execDiscoveryEnd_kept (s : State) : s.keptBy (execDiscoveryEnd s) := by
  unfold execDiscoveryEnd
  (try simp) <;> (repeat' split) <;> simp_all

theorem execPowerUp_kept (staggerMs : Nat) (s : State) : s.keptBy (execPowerUp staggerMs s) := by
  unfold execPowerUp
  (try simp) <;> (repeat' split) <;> simp_all

theorem execGroupPowerUpStart_kept (s : State) : s.keptBy (execGroupPowerUpStart s) := by
  unfold execGroupPowerUpStart
  (try simp) <;> (repeat' split) <;> simp_all

theorem execGrpFaultAssert_kept (s : State) : s.keptBy (execGrpFaultAssert s) := by
  unfold execGrpFaultAssert
  (try simp) <;> (repeat' split) <;> simp_all

@[simp] theorem State.judgeDrift_kept (s : State) (p : Nat) : (State.judgeDrift s p).kept = s.kept := by
  unfold State.judgeDrift
  (try simp) <;> (repeat' split) <;> simp_all

@[simp] theorem State.closePeriod_kept (s : State) (p : Nat) : (State.closePeriod s p).kept = s.kept := by
  unfold State.closePeriod
  (try simp) <;> (repeat' split) <;> simp_all

@[simp] theorem State.sendSync_kept (s : State) : (State.sendSync s).kept = s.kept := by
  unfold State.sendSync
  (try simp) <;> (repeat' split) <;> simp_all

@[simp] theorem State.hearSync_kept (s : State) (period : Nat) : (State.hearSync s period).kept = s.kept := by
  unfold State.hearSync
  (try simp) <;> (repeat' split) <;> simp_all

theorem execSync_kept (period : Nat) (_size : Nat) (s : State) : s.keptBy (execSync period _size s) := by
  unfold execSync
  (try simp) <;> (repeat' split) <;> simp_all

theorem execFpReport_kept (pos : PosIx) (epoch : Nat) (fp : Nat) (s : State) : s.keptBy (execFpReport pos epoch fp s) := by
  unfold execFpReport
  (try simp) <;> (repeat' split) <;> simp_all

theorem execMasterLost_kept (s : State) : s.keptBy (execMasterLost s) := by
  unfold execMasterLost
  (try simp) <;> (repeat' split) <;> simp_all

theorem execChgReq_kept (pos : PosIx) (s : State) : s.keptBy (execChgReq pos s) := by
  unfold execChgReq
  (try simp) <;> (repeat' split) <;> simp_all

theorem execChgGrant_kept (s : State) : s.keptBy (execChgGrant s) := by
  unfold execChgGrant
  (try simp) <;> (repeat' split) <;> simp_all

theorem execChgEnd_kept (pos : PosIx) (s : State) : s.keptBy (execChgEnd pos s) := by
  unfold execChgEnd
  (try simp) <;> (repeat' split) <;> simp_all

theorem execLearnReq_kept (pos : PosIx) (s : State) : s.keptBy (execLearnReq pos s) := by
  unfold execLearnReq
  (try simp) <;> (repeat' split) <;> simp_all

theorem execLearnGrant_kept (s : State) : s.keptBy (execLearnGrant s) := by
  unfold execLearnGrant
  (try simp) <;> (repeat' split) <;> simp_all

theorem execLearnEndMsg_kept (pos : PosIx) (s : State) : s.keptBy (execLearnEndMsg pos s) := by
  unfold execLearnEndMsg
  (try simp) <;> (repeat' split) <;> simp_all

theorem execSaveNote_kept (_pos : PosIx) (cause : Nat) (s : State) : s.keptBy (execSaveNote _pos cause s) := by
  unfold execSaveNote
  (try simp) <;> (repeat' split) <;> simp_all

theorem execGroupSave_kept (powerDown : Bool) (s : State) : s.keptBy (execGroupSave powerDown s) := by
  unfold execGroupSave
  (try simp) <;> (repeat' split) <;> simp_all

end Sys2Proof.Machine
end

