-- ==== Sys2Proof/Laws/KeptOnoff.lean ====
section
/-!
SUPPORT. Sys2Proof/Laws/KeptOnoff.lean: which operations of Machine/Onoff.lean keep DRAM, the fuses and the queue.
-/

set_option Elab.async false
namespace Sys2Proof.Machine

@[simp] theorem State.aonTick_kept (s : State) : (State.aonTick s).kept = s.kept := by
  unfold State.aonTick
  (try simp) <;> (repeat' split) <;> simp_all

theorem execAonTick_kept (s : State) : s.keptBy (execAonTick s) := by
  unfold execAonTick
  (try simp) <;> (repeat' split) <;> simp_all

theorem execMainClockStart_kept (s : State) : s.keptBy (execMainClockStart s) := by
  unfold execMainClockStart
  repeat' first
    | (simp; done)
    | (rw [← snd_kept ‹_ = (_, _)›]; simp; done)
    | (rw [← thd_kept ‹_ = (_, _, _)›]; simp; done)
    | split
    | refine (State.each_kept _ _ _ ?_).trans ?_
    | refine (foldl_kept _ ?_ _ _).trans ?_
    | refine (State.when_kept _ _ _ ?_).trans ?_
    | refine occurs_kept _ _ _ ?_
    | (intro _; skip)
    | simp

theorem execPowerUpStart_kept (s : State) : s.keptBy (execPowerUpStart s) := by
  unfold execPowerUpStart
  (try simp) <;> (repeat' split) <;> simp_all

@[simp] theorem State.latchOff_kept (s : State) (ship : Bool) : (State.latchOff s ship).kept = s.kept := by
  unfold State.latchOff
  (try simp) <;> (repeat' split) <;> simp_all

@[simp] theorem State.offRequested_kept (s : State) (ship : Bool) : (State.offRequested s ship).kept = s.kept := by
  unfold State.offRequested
  (try simp) <;> (repeat' split) <;> simp_all

theorem execOffRequest_kept (path : PathIx) (s : State) : s.keptBy (execOffRequest path s) := by
  unfold execOffRequest
  repeat' first
    | (simp; done)
    | (rw [← snd_kept ‹_ = (_, _)›]; simp; done)
    | (rw [← thd_kept ‹_ = (_, _, _)›]; simp; done)
    | split
    | refine (State.each_kept _ _ _ ?_).trans ?_
    | refine (foldl_kept _ ?_ _ _).trans ?_
    | refine (State.when_kept _ _ _ ?_).trans ?_
    | refine occurs_kept _ _ _ ?_
    | (intro _; skip)
    | simp

theorem execShipOffRequest_kept (path : PathIx) (s : State) : s.keptBy (execShipOffRequest path s) := by
  unfold execShipOffRequest
  repeat' first
    | (simp; done)
    | (rw [← snd_kept ‹_ = (_, _)›]; simp; done)
    | (rw [← thd_kept ‹_ = (_, _, _)›]; simp; done)
    | split
    | refine (State.each_kept _ _ _ ?_).trans ?_
    | refine (foldl_kept _ ?_ _ _).trans ?_
    | refine (State.when_kept _ _ _ ?_).trans ?_
    | refine occurs_kept _ _ _ ?_
    | (intro _; skip)
    | simp

theorem execOffAck_kept (path : PathIx) (s : State) : s.keptBy (execOffAck path s) := by
  unfold execOffAck
  repeat' first
    | (simp; done)
    | (rw [← snd_kept ‹_ = (_, _)›]; simp; done)
    | (rw [← thd_kept ‹_ = (_, _, _)›]; simp; done)
    | split
    | refine (State.each_kept _ _ _ ?_).trans ?_
    | refine (foldl_kept _ ?_ _ _).trans ?_
    | refine (State.when_kept _ _ _ ?_).trans ?_
    | refine occurs_kept _ _ _ ?_
    | (intro _; skip)
    | simp

theorem execOffHandshakeTimeout_kept (s : State) : s.keptBy (execOffHandshakeTimeout s) := by
  unfold execOffHandshakeTimeout
  (try simp) <;> (repeat' split) <;> simp_all

theorem execPwrbtnPress_kept (s : State) : s.keptBy (execPwrbtnPress s) := by
  unfold execPwrbtnPress
  (try simp) <;> (repeat' split) <;> simp_all

@[simp] theorem State.latchOn_kept (s : State) (b : Bool) : (State.latchOn s b).kept = s.kept := by
  unfold State.latchOn
  (try simp) <;> (repeat' split) <;> simp_all

@[simp] theorem State.toggle_kept (s : State) : (State.toggle s).kept = s.kept := by
  unfold State.toggle
  (try simp) <;> (repeat' split) <;> simp_all

@[simp] theorem State.forcedOff_kept (s : State) : (State.forcedOff s).kept = s.kept := by
  unfold State.forcedOff
  (try simp) <;> (repeat' split) <;> simp_all

theorem execForcedOff_kept (s : State) : s.keptBy (execForcedOff s) := by
  unfold execForcedOff
  (try simp) <;> (repeat' split) <;> simp_all

@[simp] theorem State.buttonReleased_kept (s : State) (t : Nat) : (State.buttonReleased s t).kept = s.kept := by
  unfold State.buttonReleased
  (try simp) <;> (repeat' split) <;> simp_all

theorem execPwrbtnRelease_kept (s : State) : s.keptBy (execPwrbtnRelease s) := by
  unfold execPwrbtnRelease
  (try simp) <;> (repeat' split) <;> simp_all

end Sys2Proof.Machine
end

