-- ==== Sys2Proof/Laws/KeepsOnoff.lean ====
section
/-!
SUPPORT. Sys2Proof/Laws/KeepsOnoff.lean: the operations of Machine/Onoff.lean that reach DRAM or the fuses keep what every command keeps.
-/

set_option Elab.async false
namespace Sys2Proof.Machine

theorem State.mainReset_keeps (s : State) : Keeps s (State.mainReset s) := by
  exact ⟨rfl, Nat.le_refl _, id, fun _ => rfl⟩

theorem State.aonLost_keeps (s : State) (powered : Bool) : Keeps s (State.aonLost s powered) := by
  unfold State.aonLost
  (try dsimp only)
  repeat' first
    | with_reducible exact Keeps.refl _
    | split
    | with_reducible refine Keeps.trans ?_ (State.mainReset_keeps _)
    | with_reducible refine occurs_keeps _ _ _ ?_
    | with_reducible refine State.keepsBy_next ?_
    | with_reducible refine Keeps.trans ?_ (State.each_keeps _ _ _ ?_)
    | with_reducible refine Keeps.trans ?_ (Keeps.foldl _ ?_ _ _)
    | with_reducible refine Keeps.trans ?_ (begin_keeps _)
    | (refine Keeps.of_kept ?_; simp; done)
    | (refine keepsBy_of_keptBy ?_; simp; done)
    | intro _
    | exact ⟨rfl, Nat.le_refl _, id, id⟩
    | with_reducible refine Keeps.same ?_
    | with_reducible refine Keeps.cleared ?_

theorem execAonPowerApply_keeps (straps : Nat) (s : State) : s.keepsBy (execAonPowerApply straps s) := by
  unfold execAonPowerApply
  (try dsimp only)
  repeat' first
    | with_reducible exact Keeps.refl _
    | split
    | with_reducible refine Keeps.trans ?_ (State.aonLost_keeps _ _)
    | with_reducible refine Keeps.trans ?_ (Keeps.of_kept (State.begin_kept _))
    | with_reducible refine occurs_keeps _ _ _ ?_
    | with_reducible refine State.keepsBy_next ?_
    | with_reducible refine Keeps.trans ?_ (State.each_keeps _ _ _ ?_)
    | with_reducible refine Keeps.trans ?_ (Keeps.foldl _ ?_ _ _)
    | with_reducible refine Keeps.trans ?_ (begin_keeps _)
    | (refine Keeps.of_kept ?_; simp; done)
    | (refine keepsBy_of_keptBy ?_; simp; done)
    | intro _
    | exact ⟨rfl, Nat.le_refl _, id, id⟩
    | with_reducible refine Keeps.same ?_
    | with_reducible refine Keeps.cleared ?_

theorem execAonReset_keeps (s : State) : s.keepsBy (execAonReset s) := by
  unfold execAonReset
  (try dsimp only)
  repeat' first
    | with_reducible exact Keeps.refl _
    | split
    | with_reducible refine Keeps.trans ?_ (State.aonLost_keeps _ _)
    | with_reducible refine Keeps.trans ?_ (Keeps.of_kept (State.begin_kept _))
    | with_reducible refine occurs_keeps _ _ _ ?_
    | with_reducible refine State.keepsBy_next ?_
    | with_reducible refine Keeps.trans ?_ (State.each_keeps _ _ _ ?_)
    | with_reducible refine Keeps.trans ?_ (Keeps.foldl _ ?_ _ _)
    | with_reducible refine Keeps.trans ?_ (begin_keeps _)
    | (refine Keeps.of_kept ?_; simp; done)
    | (refine keepsBy_of_keptBy ?_; simp; done)
    | intro _
    | exact ⟨rfl, Nat.le_refl _, id, id⟩
    | with_reducible refine Keeps.same ?_
    | with_reducible refine Keeps.cleared ?_

theorem execPorstNAssert_keeps (s : State) : s.keepsBy (execPorstNAssert s) := by
  unfold execPorstNAssert
  (try dsimp only)
  repeat' first
    | with_reducible exact Keeps.refl _
    | split
    | with_reducible refine Keeps.trans ?_ (Keeps.of_kept (State.begin_kept _))
    | with_reducible refine Keeps.trans ?_ (Keeps.of_kept (State.event_kept _ _ _ _))
    | with_reducible refine Keeps.trans ?_ (State.mainReset_keeps _)
    | with_reducible refine Keeps.trans ?_ (Keeps.of_kept (State.modPins_kept _ _))
    | with_reducible refine Keeps.trans ?_ (Keeps.of_kept (State.modSeq_kept _ _))
    | with_reducible refine occurs_keeps _ _ _ ?_
    | with_reducible refine State.keepsBy_next ?_
    | with_reducible refine Keeps.trans ?_ (State.each_keeps _ _ _ ?_)
    | with_reducible refine Keeps.trans ?_ (Keeps.foldl _ ?_ _ _)
    | with_reducible refine Keeps.trans ?_ (begin_keeps _)
    | (refine Keeps.of_kept ?_; simp; done)
    | (refine keepsBy_of_keptBy ?_; simp; done)
    | intro _
    | exact ⟨rfl, Nat.le_refl _, id, id⟩
    | with_reducible refine Keeps.same ?_
    | with_reducible refine Keeps.cleared ?_

theorem State.powerOff_keeps (s : State) : Keeps s (State.powerOff s) := by
  unfold State.powerOff
  (try dsimp only)
  repeat' first
    | with_reducible exact Keeps.refl _
    | split
    | with_reducible refine Keeps.trans ?_ (State.mainReset_keeps _)
    | with_reducible refine Keeps.trans ?_ (Keeps.of_kept (State.modPins_kept _ _))
    | with_reducible refine Keeps.trans ?_ (Keeps.of_kept (State.modSeq_kept _ _))
    | with_reducible refine Keeps.trans ?_ (Keeps.of_kept (State.put_kept _ _ _))
    | with_reducible refine Keeps.trans ?_ (Keeps.of_kept (State.putB_kept _ _ _))
    | with_reducible refine Keeps.trans ?_ (Keeps.of_kept (State.setPack_kept _ _))
    | with_reducible refine occurs_keeps _ _ _ ?_
    | with_reducible refine State.keepsBy_next ?_
    | with_reducible refine Keeps.trans ?_ (State.each_keeps _ _ _ ?_)
    | with_reducible refine Keeps.trans ?_ (Keeps.foldl _ ?_ _ _)
    | with_reducible refine Keeps.trans ?_ (begin_keeps _)
    | (refine Keeps.of_kept ?_; simp; done)
    | (refine keepsBy_of_keptBy ?_; simp; done)
    | intro _
    | exact ⟨rfl, Nat.le_refl _, id, id⟩
    | with_reducible refine Keeps.same ?_
    | with_reducible refine Keeps.cleared ?_

theorem execPowerDownStage_keeps (slow : List Nat) (s : State) : s.keepsBy (execPowerDownStage slow s) := by
  unfold execPowerDownStage
  (try dsimp only)
  repeat' first
    | with_reducible exact Keeps.refl _
    | split
    | with_reducible refine Keeps.trans ?_ (Keeps.of_kept (State.event_kept _ _ _ _))
    | with_reducible refine Keeps.trans ?_ (Keeps.of_kept (State.modSeq_kept _ _))
    | with_reducible refine Keeps.trans ?_ (State.powerOff_keeps _)
    | with_reducible refine Keeps.trans ?_ (Keeps.of_kept (State.put_kept _ _ _))
    | with_reducible refine Keeps.trans ?_ (Keeps.of_kept (State.railOff_kept _ _))
    | with_reducible refine occurs_keeps _ _ _ ?_
    | with_reducible refine State.keepsBy_next ?_
    | with_reducible refine Keeps.trans ?_ (State.each_keeps _ _ _ ?_)
    | with_reducible refine Keeps.trans ?_ (Keeps.foldl _ ?_ _ _)
    | with_reducible refine Keeps.trans ?_ (begin_keeps _)
    | (refine Keeps.of_kept ?_; simp; done)
    | (refine keepsBy_of_keptBy ?_; simp; done)
    | intro _
    | exact ⟨rfl, Nat.le_refl _, id, id⟩
    | with_reducible refine Keeps.same ?_
    | with_reducible refine Keeps.cleared ?_

end Sys2Proof.Machine
end

