-- ==== Sys2Proof/Laws/KeptTrain.lean ====
section
/-!
SUPPORT. Sys2Proof/Laws/KeptTrain.lean: which operations of Machine/Train.lean keep DRAM, the fuses and the queue.
-/

set_option Elab.async false
namespace Sys2Proof.Machine

@[simp] theorem State.discardPass_kept (s : State) (n : Nat) : (State.discardPass s n).kept = s.kept := by
  unfold State.discardPass
  (try simp) <;> (repeat' split) <;> simp_all

@[simp] theorem State.beginEntry_kept (s : State) (n : Nat) : (State.beginEntry s n).kept = s.kept := by
  unfold State.beginEntry
  (try simp) <;> (repeat' split) <;> simp_all

@[simp] theorem State.relock_kept (s : State) (n target : Nat) : (State.relock s n target).kept = s.kept := by
  unfold State.relock
  (try simp) <;> (repeat' split) <;> simp_all

theorem execIdleOpEnter_kept (sc : ScIx) (s : State) : s.keptBy (execIdleOpEnter sc s) := by
  unfold execIdleOpEnter
  (try simp) <;> (repeat' split) <;> simp_all

theorem execIdleOpExit_kept (sc : ScIx) (s : State) : s.keptBy (execIdleOpExit sc s) := by
  unfold execIdleOpExit
  (try simp) <;> (repeat' split) <;> simp_all

theorem execOpChangeStart_kept (sc : ScIx) (s : State) : s.keptBy (execOpChangeStart sc s) := by
  unfold execOpChangeStart
  (try simp) <;> (repeat' split) <;> simp_all

theorem execStandbyGeneratorLocked_kept (sc : ScIx) (s : State) : s.keptBy (execStandbyGeneratorLocked sc s) := by
  unfold execStandbyGeneratorLocked
  (try simp) <;> (repeat' split) <;> simp_all

theorem execOpChangeSwitch_kept (sc : ScIx) (s : State) : s.keptBy (execOpChangeSwitch sc s) := by
  unfold execOpChangeSwitch
  (try simp) <;> (repeat' split) <;> simp_all

theorem execOpChangeDone_kept (sc : ScIx) (s : State) : s.keptBy (execOpChangeDone sc s) := by
  unfold execOpChangeDone
  (try simp) <;> (repeat' split) <;> simp_all

@[simp] theorem State.laneFails_kept (s : State) (n rank lane : Nat) : (State.laneFails s n rank lane).kept = s.kept := by
  unfold State.laneFails
  (try simp) <;> (repeat' split) <;> simp_all

@[simp] theorem State.laneTrained_kept (s : State) (n op r : Nat) (t : LaneTrain) : (State.laneTrained s n op r t).kept = s.kept := by
  unfold State.laneTrained
  (try simp) <;> (repeat' split) <;> simp_all

@[simp] theorem State.rankTrained_kept (s : State) (n op : Nat) (res : List LaneTrain) (r : Nat) : (State.rankTrained s n op res r).kept = s.kept := by
  unfold State.rankTrained
  (try simp) <;> (repeat' split) <;> simp_all

@[simp] theorem State.opTrained_kept (s : State) (n : Nat) (res : List LaneTrain) (op : Nat) : (State.opTrained s n res op).kept = s.kept := by
  unfold State.opTrained
  (try simp) <;> (repeat' split) <;> simp_all

@[simp] theorem State.training_kept (s : State) (n : Nat) (ca : List CaTrain) (res : List LaneTrain) : (State.training s n ca res).kept = s.kept := by
  unfold State.training
  repeat' first
    | (simp; done)
    | (rw [← snd_kept ‹_ = (_, _)›]; simp; done)
    | (rw [← thd_kept ‹_ = (_, _, _)›]; simp; done)
    | split
    | refine (State.each_kept _ _ _ ?_).trans ?_
    | refine (foldl_kept _ ?_ _ _).trans ?_
    | refine (State.when_kept _ _ _ ?_).trans ?_
    | refine occurs_kept _ _ _ ?_
    | (intro _; skip)
    | simp

theorem execDramTraining_kept (sc : ScIx) (ca : List CaTrain) (res : List LaneTrain) (s : State) : s.keptBy (execDramTraining sc ca res s) := by
  unfold execDramTraining
  (try simp) <;> (repeat' split) <;> simp_all

theorem execTrackingPassStart_kept (sc : ScIx) (s : State) : s.keptBy (execTrackingPassStart sc s) := by
  unfold execTrackingPassStart
  (try simp) <;> (repeat' split) <;> simp_all

@[simp] theorem State.narrowRun_kept (s : State) (n rank lane : Nat) : (State.narrowRun s n rank lane).kept = s.kept := by
  unfold State.narrowRun
  (try simp) <;> (repeat' split) <;> simp_all

@[simp] theorem State.trackGo_kept (s : State) (n : Nat) : (State.trackGo s n).kept = s.kept := by
  unfold State.trackGo
  (try simp) <;> (repeat' split) <;> simp_all

@[simp] theorem State.shiftCentres_kept (s : State) (n op rank lane : Nat) (write : Bool) (shift : Int) : (State.shiftCentres s n op rank lane write shift).kept = s.kept := by
  unfold State.shiftCentres
  (try simp) <;> (repeat' split) <;> simp_all

theorem execTrackingPassApply_kept (sc : ScIx) (s : State) : s.keptBy (execTrackingPassApply sc s) := by
  unfold execTrackingPassApply
  (try simp) <;> (repeat' split) <;> simp_all

end Sys2Proof.Machine
end

