-- ==== Sys2Proof/Laws/KeepsTrain.lean ====
section
/-!
SUPPORT. Sys2Proof/Laws/KeepsTrain.lean: the operations of Machine/Train.lean that reach DRAM or the fuses keep what every command keeps.
-/

set_option Elab.async false
namespace Sys2Proof.Machine

theorem State.loseLine_keeps (s : State) (a : Nat) : Keeps s (State.loseLine s a) := by
  unfold State.loseLine
  (try dsimp only)
  repeat' first
    | with_reducible exact Keeps.refl _
    | split
    | with_reducible refine Keeps.trans ?_ (Keeps.of_kept (State.addPoison_kept _ _ _))
    | with_reducible refine Keeps.trans ?_ (State.writeLine_keeps _ _ _)
    | with_reducible refine occurs_keeps _ _ _ ?_
    | with_reducible refine State.keepsBy_next ?_
    | with_reducible refine Keeps.trans ?_ (State.each_keeps _ _ _ ?_)
    | with_reducible refine Keeps.trans ?_ (Keeps.foldl _ ?_ _ _)
    | with_reducible refine Keeps.trans ?_ (begin_keeps _)
    | (refine Keeps.of_kept ?_; simp; done)
    | (refine keepsBy_of_keptBy ?_; simp; done)
    | intro _
    | exact ⟨rfl, Nat.le_refl _, id, id⟩
    | with_reducible refine Keeps.same ?_
    | with_reducible refine Keeps.cleared ?_

theorem State.losePatch_keeps (s : State) (n p : Nat) : Keeps s (State.losePatch s n p) := by
  unfold State.losePatch
  split
  · exact Keeps.refl s
  · split
    · exact State.each_keeps _ _ _ fun x a => State.loseLine_keeps _ _
    · exact Keeps.of_kept (State.modPatch_kept _ _ _)

theorem State.resumeOut_keeps (s : State) (n r : Nat) : Keeps s (State.resumeOut s n r) := by
  unfold State.resumeOut
  (try dsimp only)
  repeat' first
    | with_reducible exact Keeps.refl _
    | split
    | with_reducible refine Keeps.trans ?_ (Keeps.of_kept (State.judgeFilled_kept _ _))
    | with_reducible refine Keeps.trans ?_ (State.losePatch_keeps _ _ _)
    | with_reducible refine occurs_keeps _ _ _ ?_
    | with_reducible refine State.keepsBy_next ?_
    | with_reducible refine Keeps.trans ?_ (State.each_keeps _ _ _ ?_)
    | with_reducible refine Keeps.trans ?_ (Keeps.foldl _ ?_ _ _)
    | with_reducible refine Keeps.trans ?_ (begin_keeps _)
    | (refine Keeps.of_kept ?_; simp; done)
    | (refine keepsBy_of_keptBy ?_; simp; done)
    | intro _
    | exact ⟨rfl, Nat.le_refl _, id, id⟩
    | with_reducible refine Keeps.same ?_
    | with_reducible refine Keeps.cleared ?_

theorem State.narrowResume_keeps (s : State) (n rank lane : Nat) : Keeps s (State.narrowResume s n rank lane) := by
  have h := Keeps.of_kept (State.laneFails_kept s n rank lane)
  unfold State.narrowResume
  dsimp only
  split
  · exact h.trans (State.resumeOut_keeps _ _ _)
  · exact h

theorem State.narrowLane_keeps (s : State) (n rank lane : Nat) : Keeps s (State.narrowLane s n rank lane) := by
  unfold State.narrowLane
  (try dsimp only)
  repeat' first
    | with_reducible exact Keeps.refl _
    | split
    | with_reducible refine Keeps.trans ?_ (State.narrowResume_keeps _ _ _ _)
    | with_reducible refine Keeps.trans ?_ (Keeps.of_kept (State.narrowRun_kept _ _ _ _))
    | with_reducible refine occurs_keeps _ _ _ ?_
    | with_reducible refine State.keepsBy_next ?_
    | with_reducible refine Keeps.trans ?_ (State.each_keeps _ _ _ ?_)
    | with_reducible refine Keeps.trans ?_ (Keeps.foldl _ ?_ _ _)
    | with_reducible refine Keeps.trans ?_ (begin_keeps _)
    | (refine Keeps.of_kept ?_; simp; done)
    | (refine keepsBy_of_keptBy ?_; simp; done)
    | intro _
    | exact ⟨rfl, Nat.le_refl _, id, id⟩
    | with_reducible refine Keeps.same ?_
    | with_reducible refine Keeps.cleared ?_

theorem State.laneMeasured_keeps (s : State) (n op rank : Nat) (t : LaneTrack) : Keeps s (State.laneMeasured s n op rank t) := by
  unfold State.laneMeasured
  (try dsimp only)
  repeat' first
    | with_reducible exact Keeps.refl _
    | split
    | with_reducible refine Keeps.trans ?_ (Keeps.of_kept (State.modSc_kept _ _ _))
    | with_reducible refine Keeps.trans ?_ (State.narrowLane_keeps _ _ _ _)
    | with_reducible refine occurs_keeps _ _ _ ?_
    | with_reducible refine State.keepsBy_next ?_
    | with_reducible refine Keeps.trans ?_ (State.each_keeps _ _ _ ?_)
    | with_reducible refine Keeps.trans ?_ (Keeps.foldl _ ?_ _ _)
    | with_reducible refine Keeps.trans ?_ (begin_keeps _)
    | (refine Keeps.of_kept ?_; simp; done)
    | (refine keepsBy_of_keptBy ?_; simp; done)
    | intro _
    | exact ⟨rfl, Nat.le_refl _, id, id⟩
    | with_reducible refine Keeps.same ?_
    | with_reducible refine Keeps.cleared ?_

theorem State.lanesMeasured_keeps (s : State) (n op rank : Nat) (res : List LaneTrack) : Keeps s (State.lanesMeasured s n op rank res) := by
  unfold State.lanesMeasured
  (try dsimp only)
  repeat' first
    | with_reducible exact Keeps.refl _
    | split
    | with_reducible refine Keeps.trans ?_ (State.laneMeasured_keeps _ _ _ _ _)
    | with_reducible refine occurs_keeps _ _ _ ?_
    | with_reducible refine State.keepsBy_next ?_
    | with_reducible refine Keeps.trans ?_ (State.each_keeps _ _ _ ?_)
    | with_reducible refine Keeps.trans ?_ (Keeps.foldl _ ?_ _ _)
    | with_reducible refine Keeps.trans ?_ (begin_keeps _)
    | (refine Keeps.of_kept ?_; simp; done)
    | (refine keepsBy_of_keptBy ?_; simp; done)
    | intro _
    | exact ⟨rfl, Nat.le_refl _, id, id⟩
    | with_reducible refine Keeps.same ?_
    | with_reducible refine Keeps.cleared ?_

theorem State.trackStep_keeps (s : State) (n : Nat) (p : Pass) (rank : Nat) (res : List LaneTrack) : Keeps s (State.trackStep s n p rank res) := by
  unfold State.trackStep
  (try dsimp only)
  repeat' first
    | with_reducible exact Keeps.refl _
    | split
    | with_reducible refine Keeps.trans ?_ (State.lanesMeasured_keeps _ _ _ _ _)
    | with_reducible refine Keeps.trans ?_ (Keeps.of_kept (State.modSc_kept _ _ _))
    | with_reducible refine occurs_keeps _ _ _ ?_
    | with_reducible refine State.keepsBy_next ?_
    | with_reducible refine Keeps.trans ?_ (State.each_keeps _ _ _ ?_)
    | with_reducible refine Keeps.trans ?_ (Keeps.foldl _ ?_ _ _)
    | with_reducible refine Keeps.trans ?_ (begin_keeps _)
    | (refine Keeps.of_kept ?_; simp; done)
    | (refine keepsBy_of_keptBy ?_; simp; done)
    | intro _
    | exact ⟨rfl, Nat.le_refl _, id, id⟩
    | with_reducible refine Keeps.same ?_
    | with_reducible refine Keeps.cleared ?_

theorem execTrackingStep_keeps (sc : ScIx) (res : List LaneTrack) (s : State) : s.keepsBy (execTrackingStep sc res s) := by
  unfold execTrackingStep
  (try dsimp only)
  repeat' first
    | with_reducible exact Keeps.refl _
    | split
    | with_reducible refine Keeps.trans ?_ (Keeps.of_kept (State.begin_kept _))
    | with_reducible refine Keeps.trans ?_ (State.trackStep_keeps _ _ _ _ _)
    | with_reducible refine occurs_keeps _ _ _ ?_
    | with_reducible refine State.keepsBy_next ?_
    | with_reducible refine Keeps.trans ?_ (State.each_keeps _ _ _ ?_)
    | with_reducible refine Keeps.trans ?_ (Keeps.foldl _ ?_ _ _)
    | with_reducible refine Keeps.trans ?_ (begin_keeps _)
    | (refine Keeps.of_kept ?_; simp; done)
    | (refine keepsBy_of_keptBy ?_; simp; done)
    | intro _
    | exact ⟨rfl, Nat.le_refl _, id, id⟩
    | with_reducible refine Keeps.same ?_
    | with_reducible refine Keeps.cleared ?_

theorem execDramWriteCrcAlert_keeps (sc : ScIx) (rank : Nat) (fails : Nat) (res : List LaneTrack) (s : State) : s.keepsBy (execDramWriteCrcAlert sc rank fails res s) := by
  unfold execDramWriteCrcAlert
  (try dsimp only)
  repeat' first
    | with_reducible exact Keeps.refl _
    | split
    | with_reducible refine Keeps.trans ?_ (Keeps.of_kept (State.bump_kept _ _ _))
    | with_reducible refine Keeps.trans ?_ (Keeps.of_kept (State.event_kept _ _ _ _))
    | with_reducible refine Keeps.trans ?_ (State.lanesMeasured_keeps _ _ _ _ _)
    | with_reducible refine Keeps.trans ?_ (Keeps.of_kept (State.modSc_kept _ _ _))
    | with_reducible refine Keeps.trans ?_ (Keeps.of_kept (State.rankOut_kept _ _ _ _))
    | with_reducible refine occurs_keeps _ _ _ ?_
    | with_reducible refine State.keepsBy_next ?_
    | with_reducible refine Keeps.trans ?_ (State.each_keeps _ _ _ ?_)
    | with_reducible refine Keeps.trans ?_ (Keeps.foldl _ ?_ _ _)
    | with_reducible refine Keeps.trans ?_ (begin_keeps _)
    | (refine Keeps.of_kept ?_; simp; done)
    | (refine keepsBy_of_keptBy ?_; simp; done)
    | intro _
    | exact ⟨rfl, Nat.le_refl _, id, id⟩
    | with_reducible refine Keeps.same ?_
    | with_reducible refine Keeps.cleared ?_

end Sys2Proof.Machine
end

