-- ==== Sys2Proof/Laws/KeptEpoch.lean ====
section
/-!
SUPPORT. Sys2Proof/Laws/KeptEpoch.lean: which operations of Machine/Epoch.lean keep DRAM, the fuses and the queue.
-/

set_option Elab.async false
namespace Sys2Proof.Machine

@[simp] theorem State.judgePatrols_kept (s : State) : (State.judgePatrols s).kept = s.kept := by
  unfold State.judgePatrols
  (try simp) <;> (repeat' split) <;> simp_all

@[simp] theorem State.putFingerprint_kept (s : State) : (State.putFingerprint s).kept = s.kept := by
  unfold State.putFingerprint
  (try simp) <;> (repeat' split) <;> simp_all

@[simp] theorem State.endCommit_kept (s : State) (result : Nat) : (State.endCommit s result).kept = s.kept := by
  unfold State.endCommit
  (try simp) <;> (repeat' split) <;> simp_all

@[simp] theorem State.epochCommit_kept (s : State) (epoch : Nat) : (State.epochCommit s epoch).kept = s.kept := by
  unfold State.epochCommit
  (try simp) <;> (repeat' split) <;> simp_all

theorem execEpochCommit_kept (path : PathIx) (value : Word) (s : State) : s.keptBy (execEpochCommit path value s) := by
  unfold execEpochCommit
  (try simp) <;> (repeat' split) <;> simp_all

@[simp] theorem State.voteClass_kept (s : State) (named : List Nat) (cls : Nat) : (State.voteClass s named cls).kept = s.kept := by
  unfold State.voteClass
  (try simp) <;> (repeat' split) <;> simp_all

@[simp] theorem State.epochVote_kept (s : State) (c : Commit) (named : List Nat) : (State.epochVote s c named).kept = s.kept := by
  unfold State.epochVote
  (try simp) <;> (repeat' split) <;> simp_all

theorem execEpochVote_kept (notReady : List Nat) (s : State) : s.keptBy (execEpochVote notReady s) := by
  unfold execEpochVote
  (try simp) <;> (repeat' split) <;> simp_all

@[simp] theorem State.epochAbandon_kept (s : State) : (State.epochAbandon s).kept = s.kept := by
  unfold State.epochAbandon
  (try simp) <;> (repeat' split) <;> simp_all

@[simp] theorem State.applyWord_kept (s : State) (off : Nat) (w : Word) : (State.applyWord s off w).kept = s.kept := by
  unfold State.applyWord
  (try simp) <;> (repeat' split) <;> simp_all

@[simp] theorem State.epochApply_kept (s : State) (c : Commit) (snap : Sparse Word) : (State.epochApply s c snap).kept = s.kept := by
  unfold State.epochApply
  repeat' first
    | (simp; done)
    | (rw [← snd_kept ‹_ = (_, _)›]; simp; done)
    | (rw [← thd_kept ‹_ = (_, _, _)›]; simp; done)
    | split
    | refine (State.each_kept _ _ _ ?_).trans ?_
    | refine (foldl_kept _ ?_ _ _).trans ?_
    | refine (State.when_kept _ _ _ ?_).trans ?_
    | refine occurs_kept _ _ _ ?_
    | (intro _; skip)
    | simp

theorem execEpochApply_kept (s : State) : s.keptBy (execEpochApply s) := by
  unfold execEpochApply
  (try simp) <;> (repeat' split) <;> simp_all

theorem execUnitPowerReturn_kept (unit : Nat) (s : State) : s.keptBy (execUnitPowerReturn unit s) := by
  unfold execUnitPowerReturn
  (try simp) <;> (repeat' split) <;> simp_all

theorem execClrOverruns_kept (path : PathIx) (s : State) : s.keptBy (execClrOverruns path s) := by
  unfold execClrOverruns
  (try simp) <;> (repeat' split) <;> simp_all

end Sys2Proof.Machine
end

