-- ==== Sys2Proof/Laws/KeptEvent.lean ====
section
/-!
SUPPORT. Sys2Proof/Laws/KeptEvent.lean: which operations of Machine/Event.lean keep DRAM, the fuses and the queue.
-/

set_option Elab.async false
namespace Sys2Proof.Machine

@[simp] theorem State.updRelease_kept (s : State) : (State.updRelease s).kept = s.kept := by
  unfold State.updRelease
  (try simp) <;> (repeat' split) <;> simp_all

@[simp] theorem State.clusterRestart_kept (s : State) : (State.clusterRestart s).kept = s.kept := by
  unfold State.clusterRestart
  (try simp) <;> (repeat' split) <;> simp_all

@[simp] theorem State.takeover_kept (s : State) : (State.takeover s).kept = s.kept := by
  unfold State.takeover
  (try simp) <;> (repeat' split) <;> simp_all

theorem execLockstepMismatch_kept (pair : Fin 2) (s : State) : s.keptBy (execLockstepMismatch pair s) := by
  unfold execLockstepMismatch
  (try simp) <;> (repeat' split) <;> simp_all

@[simp] theorem State.deviceTemp_kept (s : State) : (State.deviceTemp s).2.kept = s.kept := by
  unfold State.deviceTemp
  (try simp) <;> (repeat' split) <;> simp_all

@[simp] theorem State.healthNums_kept (s : State) (fn : FnIx) : (State.healthNums s fn).2.kept = s.kept := by
  unfold State.healthNums
  (try simp) <;> (repeat' split) <;> simp_all

@[simp] theorem State.recordFields_kept (s : State) (m : FaultMsg) (k : Nat) : (State.recordFields s m k).2.kept = s.kept := by
  unfold State.recordFields
  (try simp) <;> (repeat' split) <;> simp_all

@[simp] theorem State.addRecord_kept (s : State) (m : FaultMsg) (k : Nat) (fields : List Nat) : (State.addRecord s m k fields).kept = s.kept := by
  unfold State.addRecord
  (try simp) <;> (repeat' split) <;> simp_all

@[simp] theorem State.logEvent_kept (s : State) (m : FaultMsg) (k : Nat) : (State.logEvent s m k).kept = s.kept := by
  unfold State.logEvent
  (try simp) <;> (repeat' split) <;> simp_all

@[simp] theorem State.retireBySource_kept (s : State) (src : Nat) : (State.retireBySource s src).kept = s.kept := by
  unfold State.retireBySource
  (try simp) <;> (repeat' split) <;> simp_all

@[simp] theorem State.deferredRetire_kept (s : State) : (State.deferredRetire s).kept = s.kept := by
  unfold State.deferredRetire
  (try simp) <;> (repeat' split) <;> simp_all

@[simp] theorem State.resetReaction_kept (s : State) : (State.resetReaction s).kept = s.kept := by
  unfold State.resetReaction
  (try simp) <;> (repeat' split) <;> simp_all

@[simp] theorem State.judgeAlert_kept (s : State) : (State.judgeAlert s).kept = s.kept := by
  unfold State.judgeAlert
  (try simp) <;> (repeat' split) <;> simp_all

@[simp] theorem State.react_kept (s : State) (m : FaultMsg) : (State.react s m).kept = s.kept := by
  unfold State.react
  (try simp) <;> (repeat' split) <;> simp_all

@[simp] theorem State.enterNext_kept (s : State) (e : EvEntry) : (State.enterNext s e).kept = s.kept := by
  unfold State.enterNext
  (try simp) <;> (repeat' split) <;> simp_all

@[simp] theorem State.arrive_kept (s : State) (l : List (Nat × FaultMsg)) : (State.arrive s l).kept = s.kept := by
  unfold State.arrive
  (try simp) <;> (repeat' split) <;> simp_all

theorem execFaultMessageRaise_kept (m : RaiseIn) (s : State) : s.keptBy (execFaultMessageRaise m s) := by
  unfold execFaultMessageRaise
  (try simp) <;> (repeat' split) <;> simp_all

@[simp] theorem State.deliver_kept (s : State) (d : Delivery) : (State.deliver s d).2.kept = s.kept := by
  unfold State.deliver
  (try simp) <;> (repeat' split) <;> simp_all

@[simp] theorem State.deliverAll_kept (s : State) (l : List Delivery) : (State.deliverAll s l).kept = s.kept := by
  unfold State.deliverAll
  dsimp only
  have h := foldl_proj_kept (fun r : List (Nat × FaultMsg) × List Nat × State => r.2.2)
    (fun acc (d : Delivery) => if acc.2.1.contains d.seg.val then acc
      else (acc.1 ++ (acc.2.2.deliver d).1.toList, d.seg.val :: acc.2.1, (acc.2.2.deliver d).2))
    (fun b a => by split <;> simp) l ([], [], s)
  split
  · exact h
  · exact (State.arrive_kept _ _).trans h

@[simp] theorem State.firstClr_kept (s : State) : (State.firstClr s).kept = s.kept := by
  unfold State.firstClr
  (try simp) <;> (repeat' split) <;> simp_all

@[simp] theorem State.nextPop_kept (s : State) : (State.nextPop s).kept = s.kept := by
  unfold State.nextPop
  (try simp) <;> (repeat' split) <;> simp_all

@[simp] theorem State.alertClear_kept (s : State) : (State.alertClear s).kept = s.kept := by
  unfold State.alertClear
  (try simp) <;> (repeat' split) <;> simp_all

@[simp] theorem State.firstClrOnce_kept (s : State) : (State.firstClrOnce s).kept = s.kept := by
  unfold State.firstClrOnce
  (try simp) <;> (repeat' split) <;> simp_all

@[simp] theorem State.nextPopOnce_kept (s : State) : (State.nextPopOnce s).kept = s.kept := by
  unfold State.nextPopOnce
  (try simp) <;> (repeat' split) <;> simp_all

@[simp] theorem State.alertClearOnce_kept (s : State) : (State.alertClearOnce s).kept = s.kept := by
  unfold State.alertClearOnce
  (try simp) <;> (repeat' split) <;> simp_all

theorem execFirstClr_kept (path : PathIx) (s : State) : s.keptBy (execFirstClr path s) := by
  unfold execFirstClr
  (try simp) <;> (repeat' split) <;> simp_all

theorem execNextPop_kept (path : PathIx) (s : State) : s.keptBy (execNextPop path s) := by
  unfold execNextPop
  (try simp) <;> (repeat' split) <;> simp_all

@[simp] theorem State.clearAhead_kept (s : State) (c : Instr) : (State.clearAhead s c).kept = s.kept := by
  unfold State.clearAhead
  (try simp) <;> (repeat' split) <;> simp_all

theorem execFaultMessageDelivery_kept (l : List Delivery) (mates : Nat) (s : State) : s.keptBy (execFaultMessageDelivery l mates s) := by
  unfold execFaultMessageDelivery
  (try simp) <;> (repeat' split) <;> simp_all

@[simp] theorem State.gfRelease_kept (s : State) : (State.gfRelease s).kept = s.kept := by
  unfold State.gfRelease
  (try simp) <;> (repeat' split) <;> simp_all

theorem execGfRelease_kept (path : PathIx) (s : State) : s.keptBy (execGfRelease path s) := by
  unfold execGfRelease
  (try simp) <;> (repeat' split) <;> simp_all

theorem execAlertPendClear_kept (path : PathIx) (s : State) : s.keptBy (execAlertPendClear path s) := by
  unfold execAlertPendClear
  (try simp) <;> (repeat' split) <;> simp_all

end Sys2Proof.Machine
end

