-- ==== Sys2Proof/Laws/KeptBoot.lean ====
section
/-!
SUPPORT. Sys2Proof/Laws/KeptBoot.lean: which operations of Machine/Boot.lean keep DRAM, the fuses and the queue.
-/

set_option Elab.async false
namespace Sys2Proof.Machine

@[simp] theorem State.modFw_kept (s : State) (k : Nat) (f : FwSlot → FwSlot) : (State.modFw s k f).kept = s.kept := by
  unfold State.modFw
  (try simp) <;> (repeat' split) <;> simp_all

@[simp] theorem State.runFw_kept (s : State) (k : Nat) : (State.runFw s k).kept = s.kept := by
  unfold State.runFw
  (try simp) <;> (repeat' split) <;> simp_all

@[simp] theorem State.fillFactory_kept (s : State) (slot use : Nat) (k : Key) : (State.fillFactory s slot use k).kept = s.kept := by
  unfold State.fillFactory
  (try simp) <;> (repeat' split) <;> simp_all

@[simp] theorem State.unwrapKeys_kept (s : State) (fw : Option Nat) : (State.unwrapKeys s fw).kept = s.kept := by
  unfold State.unwrapKeys
  (try simp) <;> (repeat' split) <;> simp_all

@[simp] theorem State.loadEntry_kept (s : State) (e : KeyEntry) : (State.loadEntry s e).kept = s.kept := by
  unfold State.loadEntry
  (try simp) <;> (repeat' split) <;> simp_all

@[simp] theorem State.drawRoot_kept (s : State) : (State.drawRoot s).kept = s.kept := by
  unfold State.drawRoot
  (try simp) <;> (repeat' split) <;> simp_all

@[simp] theorem State.loadKeyRecord_kept (s : State) : (State.loadKeyRecord s).kept = s.kept := by
  unfold State.loadKeyRecord
  (try simp) <;> (repeat' split) <;> simp_all

@[simp] theorem State.drawTenants_kept (s : State) : (State.drawTenants s).kept = s.kept := by
  unfold State.drawTenants
  (try simp) <;> (repeat' split) <;> simp_all

@[simp] theorem State.drbgStart_kept (s : State) (ok : Bool) : (State.drbgStart s ok).kept = s.kept := by
  unfold State.drbgStart
  (try simp) <;> (repeat' split) <;> simp_all

@[simp] theorem State.program_kept (s : State) (n : NorIn) : (State.program s n).kept = s.kept := by
  unfold State.program
  (try simp) <;> (repeat' split) <;> simp_all

@[simp] theorem State.sparesReady_kept (s : State) : (State.sparesReady s).kept = s.kept := by
  unfold State.sparesReady
  (try simp) <;> (repeat' split) <;> simp_all

@[simp] theorem State.releaseCores_kept (s : State) (k : Nat) : (State.releaseCores s k).kept = s.kept := by
  unfold State.releaseCores
  (try simp) <;> (repeat' split) <;> simp_all

@[simp] theorem State.coldBoot_kept (s : State) (recoveryLow rngOk : Bool) : (State.coldBoot s recoveryLow rngOk).kept = s.kept := by
  unfold State.coldBoot
  (try simp) <;> (repeat' split) <;> simp_all

theorem execPorstNRelease_kept (i : BootIn) (s : State) : s.keptBy (execPorstNRelease i s) := by
  unfold execPorstNRelease
  (try simp) <;> (repeat' split) <;> simp_all

end Sys2Proof.Machine
end

