-- ==== Sys2Proof/Laws/KeptLoad.lean ====
section
/-!
SUPPORT. Sys2Proof/Laws/KeptLoad.lean: which operations of Machine/Load.lean keep DRAM, the fuses and the queue.
-/

set_option Elab.async false
namespace Sys2Proof.Machine

@[simp] theorem State.authFailures_kept (s : State) : (State.authFailures s).kept = s.kept := by
  unfold State.authFailures
  (try simp) <;> (repeat' split) <;> simp_all

@[simp] theorem State.markCommon_kept (s : State) (off : Nat) (mask : Word) (common : Bool) : (State.markCommon s off mask common).kept = s.kept := by
  unfold State.markCommon
  (try simp) <;> (repeat' split) <;> simp_all

@[simp] theorem State.loadWord_kept (s : State) (off : Nat) (mask value : Word) : (State.loadWord s off mask value).kept = s.kept := by
  unfold State.loadWord
  (try simp) <;> (repeat' split) <;> simp_all

@[simp] theorem State.applyRecord_kept (s : State) (r : CfgRecord) : (State.applyRecord s r).kept = s.kept := by
  unfold State.applyRecord
  (try simp) <;> (repeat' split) <;> simp_all

@[simp] theorem State.applySet_kept (s : State) (warm : Bool) (type inst : Nat) (x : RegSet) : (State.applySet s warm type inst x).kept = s.kept := by
  unfold State.applySet
  (try simp) <;> (repeat' split) <;> simp_all

@[simp] theorem State.applySection_kept (s : State) (warm : Bool) (x : Section) : (State.applySection s warm x).kept = s.kept := by
  unfold State.applySection
  (try simp) <;> (repeat' split) <;> simp_all

@[simp] theorem State.applyImage_kept (s : State) (c : CfgImage) (warm : Bool) : (State.applyImage s c warm).kept = s.kept := by
  unfold State.applyImage
  (try simp) <;> (repeat' split) <;> simp_all

@[simp] theorem State.judgeTopcoat_kept (s : State) : (State.judgeTopcoat s).kept = s.kept := by
  unfold State.judgeTopcoat
  (try simp) <;> (repeat' split) <;> simp_all

@[simp] theorem State.moveTime_kept (s : State) (d : Nat) : (State.moveTime s d).kept = s.kept := by
  unfold State.moveTime
  (try simp) <;> (repeat' split) <;> simp_all

@[simp] theorem State.advanceTime_kept (s : State) : (State.advanceTime s).kept = s.kept := by
  unfold State.advanceTime
  split
  · exact State.moveTime_kept _ _
  · rfl

@[simp] theorem State.loadVol_kept (s : State) (k : Nat) (n0 : Bool) (n1 : Option Nat) : (State.loadVol s k n0 n1).kept = s.kept := by
  unfold State.loadVol
  (try simp) <;> (repeat' split) <;> simp_all

@[simp] theorem State.loadPartitions_kept (s : State) : (State.loadPartitions s).kept = s.kept := by
  unfold State.loadPartitions
  repeat' first
    | (simp; done)
    | (rw [← snd_kept ‹_ = (_, _)›]; simp; done)
    | (rw [← thd_kept ‹_ = (_, _, _)›]; simp; done)
    | split
    | refine (State.each_kept _ _ _ ?_).trans ?_
    | refine (foldl_kept _ ?_ _ _).trans ?_
    | refine (State.when_kept _ _ _ ?_).trans ?_
    | refine occurs_kept _ _ _ ?_
    | (intro _; skip)
    | simp

@[simp] theorem State.loadGauge_kept (s : State) : (State.loadGauge s).kept = s.kept := by
  unfold State.loadGauge
  (try simp) <;> (repeat' split) <;> simp_all

@[simp] theorem State.loadHealth_kept (s : State) (q : Nat) : (State.loadHealth s q).kept = s.kept := by
  unfold State.loadHealth
  repeat' first
    | (simp; done)
    | (rw [← snd_kept ‹_ = (_, _)›]; simp; done)
    | (rw [← thd_kept ‹_ = (_, _, _)›]; simp; done)
    | split
    | refine (State.each_kept _ _ _ ?_).trans ?_
    | refine (foldl_kept _ ?_ _ _).trans ?_
    | refine (State.when_kept _ _ _ ?_).trans ?_
    | refine occurs_kept _ _ _ ?_
    | (intro _; skip)
    | simp

@[simp] theorem State.derived_kept (s : State) : (State.derived s).kept = s.kept := by
  unfold State.derived
  (try simp) <;> (repeat' split) <;> simp_all

@[simp] theorem State.sealPlumb_kept (s : State) : (State.sealPlumb s).kept = s.kept := by
  unfold State.sealPlumb
  (try simp) <;> (repeat' split) <;> simp_all

@[simp] theorem State.sealAon_kept (s : State) (c : CfgImage) : (State.sealAon s c).kept = s.kept := by
  unfold State.sealAon
  (try simp) <;> (repeat' split) <;> simp_all

@[simp] theorem State.sealStatus_kept (s : State) (ix : Nat) (c : CfgImage) : (State.sealStatus s ix c).kept = s.kept := by
  unfold State.sealStatus
  (try simp) <;> (repeat' split) <;> simp_all

@[simp] theorem State.sealSfg_kept (s : State) : (State.sealSfg s).kept = s.kept := by
  unfold State.sealSfg
  (try simp) <;> (repeat' split) <;> simp_all

@[simp] theorem State.seal_kept (s : State) (ix : Nat) (c : CfgImage) : (State.seal s ix c).kept = s.kept := by
  unfold State.seal
  (try simp) <;> (repeat' split) <;> simp_all

@[simp] theorem State.sealGroup_kept (s : State) (seqInLow : Bool) : (State.sealGroup s seqInLow).kept = s.kept := by
  unfold State.sealGroup
  (try simp) <;> (repeat' split) <;> simp_all

@[simp] theorem State.tryCopies_kept (s : State) (warm again : Bool) (n0 : List (Nat × CfgImage)) : (State.tryCopies s warm again n0).2.kept = s.kept := by
  induction n0 generalizing s again with
  | nil => rfl
  | cons x rest ih =>
    unfold State.tryCopies
    dsimp only
    split
    · split <;> simp
    · exact (ih _ _).trans (by simp)

@[simp] theorem State.copyApplied_kept (s : State) (i : LoadIn) (ix : Nat) (c : CfgImage) : (State.copyApplied s i ix c).kept = s.kept := by
  unfold State.copyApplied
  (try simp) <;> (repeat' split) <;> simp_all

@[simp] theorem State.copiesTried_kept (s : State) : (State.copiesTried s).2.kept = s.kept := by
  unfold State.copiesTried
  (try simp) <;> (repeat' split) <;> simp_all

end Sys2Proof.Machine
end

