-- ==== Sys2Proof/Laws/KeepsLoad.lean ====
section
/-!
SUPPORT. Sys2Proof/Laws/KeepsLoad.lean: the operations of Machine/Load.lean that reach DRAM or the fuses keep what every command keeps.
-/

set_option Elab.async false
namespace Sys2Proof.Machine

theorem State.readUndercoat_keeps (s : State) (i : LoadIn) : Keeps s (State.readUndercoat s i) := by
  unfold State.readUndercoat
  (try dsimp only)
  repeat' first
    | with_reducible exact Keeps.refl _
    | split
    | with_reducible refine Keeps.trans ?_ (Keeps.of_kept (State.event_kept _ _ _ _))
    | with_reducible refine Keeps.trans ?_ (Keeps.of_kept (State.put_kept _ _ _))
    | with_reducible refine occurs_keeps _ _ _ ?_
    | with_reducible refine State.keepsBy_next ?_
    | with_reducible refine Keeps.trans ?_ (State.each_keeps _ _ _ ?_)
    | with_reducible refine Keeps.trans ?_ (Keeps.foldl _ ?_ _ _)
    | with_reducible refine Keeps.trans ?_ (begin_keeps _)
    | (refine Keeps.of_kept ?_; simp; done)
    | (refine keepsBy_of_keptBy ?_; simp; done)
    | intro _
    | exact ⟨rfl, Nat.le_refl _, id, id⟩
    | with_reducible refine Keeps.same ?_
    | with_reducible refine Keeps.cleared ?_

theorem State.loadBegins_keeps (s : State) (i : LoadIn) : Keeps s (State.loadBegins s i) := by
  unfold State.loadBegins
  (try dsimp only)
  repeat' first
    | with_reducible exact Keeps.refl _
    | split
    | with_reducible refine Keeps.trans ?_ (Keeps.of_kept (State.authFailures_kept _))
    | with_reducible refine Keeps.trans ?_ (Keeps.of_kept (State.putSat_kept _ _ _))
    | with_reducible refine Keeps.trans ?_ (State.readUndercoat_keeps _ _)
    | with_reducible refine occurs_keeps _ _ _ ?_
    | with_reducible refine State.keepsBy_next ?_
    | with_reducible refine Keeps.trans ?_ (State.each_keeps _ _ _ ?_)
    | with_reducible refine Keeps.trans ?_ (Keeps.foldl _ ?_ _ _)
    | with_reducible refine Keeps.trans ?_ (begin_keeps _)
    | (refine Keeps.of_kept ?_; simp; done)
    | (refine keepsBy_of_keptBy ?_; simp; done)
    | intro _
    | exact ⟨rfl, Nat.le_refl _, id, id⟩
    | with_reducible refine Keeps.same ?_
    | with_reducible refine Keeps.cleared ?_

theorem State.configLoad_keeps (s : State) (i : LoadIn) : Keeps s (State.configLoad s i) := by
  have h := (State.loadBegins_keeps s i).trans (Keeps.of_kept (State.copiesTried_kept (s.loadBegins i)))
  unfold State.configLoad
  dsimp only
  split
  · exact h.trans (Keeps.of_kept (State.modSeq_kept _ _))
  · exact h.trans (Keeps.of_kept (State.copyApplied_kept _ _ _ _))

theorem execConfigLoad_keeps (i : LoadIn) (s : State) : s.keepsBy (execConfigLoad i s) := by
  unfold execConfigLoad
  (try dsimp only)
  repeat' first
    | with_reducible exact Keeps.refl _
    | split
    | with_reducible refine Keeps.trans ?_ (State.configLoad_keeps _ _)
    | with_reducible refine occurs_keeps _ _ _ ?_
    | with_reducible refine State.keepsBy_next ?_
    | with_reducible refine Keeps.trans ?_ (State.each_keeps _ _ _ ?_)
    | with_reducible refine Keeps.trans ?_ (Keeps.foldl _ ?_ _ _)
    | with_reducible refine Keeps.trans ?_ (begin_keeps _)
    | (refine Keeps.of_kept ?_; simp; done)
    | (refine keepsBy_of_keptBy ?_; simp; done)
    | intro _
    | exact ⟨rfl, Nat.le_refl _, id, id⟩
    | with_reducible refine Keeps.same ?_
    | with_reducible refine Keeps.cleared ?_

end Sys2Proof.Machine
end

