-- ==== Sys2Proof/Laws/KeptWarm.lean ====
section
/-!
SUPPORT. Sys2Proof/Laws/KeptWarm.lean: which operations of Machine/Warm.lean keep DRAM, the fuses and the queue.
-/

set_option Elab.async false
namespace Sys2Proof.Machine

@[simp] theorem State.recoveryRails_kept (s : State) : (State.recoveryRails s).kept = s.kept := by
  unfold State.recoveryRails
  (try simp) <;> (repeat' split) <;> simp_all

@[simp] theorem State.enterRecovery_kept (s : State) (cause : Nat) : (State.enterRecovery s cause).kept = s.kept := by
  unfold State.enterRecovery
  (try simp) <;> (repeat' split) <;> simp_all

theorem execRecoveryEntered_kept (cause : Fin 4) (s : State) : s.keptBy (execRecoveryEntered cause s) := by
  unfold execRecoveryEntered
  (try simp) <;> (repeat' split) <;> simp_all

@[simp] theorem State.mrRecognised_kept (s : State) : (State.mrRecognised s).kept = s.kept := by
  unfold State.mrRecognised
  (try simp) <;> (repeat' split) <;> simp_all

theorem execMrNWarmReset_kept (s : State) : s.keptBy (execMrNWarmReset s) := by
  unfold execMrNWarmReset
  (try simp) <;> (repeat' split) <;> simp_all

@[simp] theorem State.warmRegs_kept (s : State) : (State.warmRegs s).kept = s.kept := by
  unfold State.warmRegs
  (try simp) <;> (repeat' split) <;> simp_all

@[simp] theorem State.warmEngines_kept (s : State) : (State.warmEngines s).kept = s.kept := by
  unfold State.warmEngines
  (try simp) <;> (repeat' split) <;> simp_all

@[simp] theorem State.leaveRefresh_kept (s : State) : (State.leaveRefresh s).kept = s.kept := by
  unfold State.leaveRefresh
  (try simp) <;> (repeat' split) <;> simp_all

@[simp] theorem State.warmBegins_kept (s : State) : (State.warmBegins s).kept = s.kept := by
  unfold State.warmBegins
  (try simp) <;> (repeat' split) <;> simp_all

@[simp] theorem State.warmApplied_kept (s : State) (origin ix : Nat) (c : CfgImage) : (State.warmApplied s origin ix c).kept = s.kept := by
  unfold State.warmApplied
  (try simp) <;> (repeat' split) <;> simp_all

@[simp] theorem State.reloadWear_kept (s : State) (q : Nat) : (State.reloadWear s q).kept = s.kept := by
  unfold State.reloadWear
  (try simp) <;> (repeat' split) <;> simp_all

@[simp] theorem State.rebuildQuad_kept (s : State) (q : Nat) : (State.rebuildQuad s q).kept = s.kept := by
  unfold State.rebuildQuad
  (try simp) <;> (repeat' split) <;> simp_all

theorem execWarmResetRebuild_kept (s : State) : s.keptBy (execWarmResetRebuild s) := by
  unfold execWarmResetRebuild
  (try simp) <;> (repeat' split) <;> simp_all

@[simp] theorem State.mediaReady_kept (s : State) : (State.mediaReady s).kept = s.kept := by
  unfold State.mediaReady
  (try simp) <;> (repeat' split) <;> simp_all

theorem execMediaReady_kept (s : State) : s.keptBy (execMediaReady s) := by
  unfold execMediaReady
  (try simp) <;> (repeat' split) <;> simp_all

end Sys2Proof.Machine
end

