-- ==== Sys2Proof/Laws/KeptMailbox.lean ====
section
/-!
SUPPORT. Sys2Proof/Laws/KeptMailbox.lean: which operations of Machine/Mailbox.lean keep DRAM, the fuses and the queue.
-/

set_option Elab.async false
namespace Sys2Proof.Machine

@[simp] theorem State.command_kept (s : State) (fn : FnIx) (mgmt inRec : Bool) (f : State → State)
    (h : ∀ x, (f x).kept = x.kept) : s.keptBy (s.command fn mgmt inRec f) := by
  refine occurs_kept _ _ _ fun x => ?_
  split
  · simp
  · split
    · simp
    · exact h _

end Sys2Proof.Machine
end

