-- ==== Sys2Proof/Laws/KeptUpdate.lean ====
section
/-!
SUPPORT. Sys2Proof/Laws/KeptUpdate.lean: which operations of Machine/Update.lean keep DRAM, the fuses and the queue.
-/

set_option Elab.async false
namespace Sys2Proof.Machine

@[simp] theorem State.putStaged_kept (s : State) (bytes slot : Nat) : (State.putStaged s bytes slot).kept = s.kept := by
  unfold State.putStaged
  (try simp) <;> (repeat' split) <;> simp_all

@[simp] theorem State.fwInitiate_kept (s : State) (fn : FnIx) (slot : Nat) (h : ImageHdr) : (State.fwInitiate s fn slot h).kept = s.kept := by
  unfold State.fwInitiate
  (try simp) <;> (repeat' split) <;> simp_all

theorem execTransferFwInitiate_kept (fn : FnIx) (slot : Nat) (h : ImageHdr) (s : State) : s.keptBy (execTransferFwInitiate fn slot h s) := by
  unfold execTransferFwInitiate
  (try simp) <;> (repeat' split) <;> simp_all

@[simp] theorem State.stagePart_kept (s : State) (p : FwPart) (x : Staging) : (State.stagePart s p x).kept = s.kept := by
  unfold State.stagePart
  (try simp) <;> (repeat' split) <;> simp_all

@[simp] theorem State.partArrives_kept (s : State) (fn : FnIx) : (State.partArrives s fn).kept = s.kept := by
  unfold State.partArrives
  (try simp) <;> (repeat' split) <;> simp_all

@[simp] theorem State.fwPart_kept (s : State) (fn : FnIx) (p : FwPart) (f : State → Staging → State)
    (h : ∀ x y, (f x y).kept = x.kept) : (s.fwPart fn p f).kept = s.kept := by
  unfold State.fwPart
  split
  · simp
  · split
    · simp
    · split
      · simp
      · split <;> simp [h]

theorem execTransferFwContinue_kept (fn : FnIx) (p : FwPart) (s : State) : s.keptBy (execTransferFwContinue fn p s) := by
  unfold execTransferFwContinue
  (try simp) <;> (repeat' split) <;> simp_all

@[simp] theorem State.putTarget_kept (s : State) (slot : Nat) (h : Option ImageHdr) : (State.putTarget s slot h).kept = s.kept := by
  unfold State.putTarget
  (try simp) <;> (repeat' split) <;> simp_all

@[simp] theorem State.fwEnd_kept (s : State) (fn : FnIx) (x : Staging) (bytes : Nat) (copyOk : Bool) : (State.fwEnd s fn x bytes copyOk).kept = s.kept := by
  unfold State.fwEnd
  (try simp) <;> (repeat' split) <;> simp_all

theorem execTransferFwEnd_kept (fn : FnIx) (p : FwPart) (copyOk : Bool) (s : State) : s.keptBy (execTransferFwEnd fn p copyOk s) := by
  unfold execTransferFwEnd
  (try simp) <;> (repeat' split) <;> simp_all

theorem execTransferFwAbort_kept (fn : FnIx) (s : State) : s.keptBy (execTransferFwAbort fn s) := by
  unfold execTransferFwAbort
  (try simp) <;> (repeat' split) <;> simp_all

theorem execUpdateLockIdleTimeout_kept (s : State) : s.keptBy (execUpdateLockIdleTimeout s) := by
  unfold execUpdateLockIdleTimeout
  (try simp) <;> (repeat' split) <;> simp_all

@[simp] theorem State.programSlot_kept (s : State) (slot : Nat) : (State.programSlot s slot).kept = s.kept := by
  unfold State.programSlot
  (try simp) <;> (repeat' split) <;> simp_all

@[simp] theorem State.activateOnline_kept (s : State) (fn : FnIx) (slot : Nat) : (State.activateOnline s fn slot).kept = s.kept := by
  unfold State.activateOnline
  (try simp) <;> (repeat' split) <;> simp_all

theorem execActivateFwOnline_kept (fn : FnIx) (slot : Nat) (s : State) : s.keptBy (execActivateFwOnline fn slot s) := by
  unfold execActivateFwOnline
  (try simp) <;> (repeat' split) <;> simp_all

@[simp] theorem State.onlineEnds_kept (s : State) : (State.onlineEnds s).kept = s.kept := by
  unfold State.onlineEnds
  (try simp) <;> (repeat' split) <;> simp_all

@[simp] theorem State.bootFailed_kept (s : State) : (State.bootFailed s).kept = s.kept := by
  unfold State.bootFailed
  (try simp) <;> (repeat' split) <;> simp_all

theorem execBootTimeout_kept (s : State) : s.keptBy (execBootTimeout s) := by
  unfold execBootTimeout
  (try simp) <;> (repeat' split) <;> simp_all

end Sys2Proof.Machine
end

