-- ==== Sys2Proof/Laws/KeptRegPath.lean ====
section
/-!
SUPPORT. Sys2Proof/Laws/KeptRegPath.lean: which operations of Machine/RegPath.lean keep DRAM, the fuses and the queue.
-/

set_option Elab.async false
namespace Sys2Proof.Machine

@[simp] theorem State.onRequest_kept (s : State) : (State.onRequest s).kept = s.kept := by
  unfold State.onRequest
  (try simp) <;> (repeat' split) <;> simp_all

@[simp] theorem State.shadowWrite_kept (s : State) (d : RegDef) (off : Nat) (v : Word) : (State.shadowWrite s d off v).kept = s.kept := by
  unfold State.shadowWrite
  (try simp) <;> (repeat' split) <;> simp_all

@[simp] theorem State.fieldsWrite_kept (s : State) (p : Nat) (d : RegDef) (off : Nat) (v : Word) : (State.fieldsWrite s p d off v).kept = s.kept := by
  unfold State.fieldsWrite
  (try simp) <;> (repeat' split) <;> simp_all

@[simp] theorem State.rwlReport_kept (s : State) (p off : Nat) : (State.rwlReport s p off).kept = s.kept := by
  unfold State.rwlReport
  (try simp) <;> (repeat' split) <;> simp_all

@[simp] theorem State.splitReport_kept (s : State) : (State.splitReport s).kept = s.kept := by
  unfold State.splitReport
  (try simp) <;> (repeat' split) <;> simp_all

@[simp] theorem State.unmappedWrite_kept (s : State) (p off : Nat) : (State.unmappedWrite s p off).kept = s.kept := by
  unfold State.unmappedWrite
  (try simp) <;> (repeat' split) <;> simp_all

@[simp] theorem State.readPath_kept (s : State) (p off : Nat) : (State.readPath s p off).2.kept = s.kept := by
  unfold State.readPath
  (try simp) <;> (repeat' split) <;> simp_all

theorem execBroadcastRead_kept (path : PathIx) (off : Offset) (s : State) : s.keptBy (execBroadcastRead path off s) := by
  unfold execBroadcastRead
  (try simp) <;> (repeat' split) <;> simp_all

end Sys2Proof.Machine
end

