-- ==== Sys2Proof/Laws/KeptTwoWire.lean ====
section
/-!
SUPPORT. Sys2Proof/Laws/KeptTwoWire.lean: which operations of Machine/TwoWire.lean keep DRAM, the fuses and the queue.
-/

set_option Elab.async false
namespace Sys2Proof.Machine

@[simp] theorem State.aonMatched_kept (s : State) : (State.aonMatched s).kept = s.kept := by
  unfold State.aonMatched
  (try simp) <;> (repeat' split) <;> simp_all

@[simp] theorem State.onTw0_kept (s : State) (f : State → State) (h : ∀ x, (f x).kept = x.kept) :
    s.keptBy (s.onTw0 f) := by
  refine occurs_kept _ _ _ fun x => ?_
  simp [h]

theorem execTw0PageWrite_kept (page : Byte) (s : State) : s.keptBy (execTw0PageWrite page s) := by
  unfold execTw0PageWrite
  (try simp) <;> (repeat' split) <;> simp_all

theorem execTw0PageRead_kept (s : State) : s.keptBy (execTw0PageRead s) := by
  unfold execTw0PageRead
  (try simp) <;> (repeat' split) <;> simp_all

@[simp] theorem State.tw0Malformed_kept (s : State) : (State.tw0Malformed s).kept = s.kept := by
  unfold State.tw0Malformed
  (try simp) <;> (repeat' split) <;> simp_all

@[simp] theorem State.tw0PecErr_kept (s : State) : (State.tw0PecErr s).kept = s.kept := by
  unfold State.tw0PecErr
  (try simp) <;> (repeat' split) <;> simp_all

@[simp] theorem State.tw0Word_kept (s : State) (a : Nat) : (State.tw0Word s a).2.kept = s.kept := by
  unfold State.tw0Word
  (try simp) <;> (repeat' split) <;> simp_all

@[simp] theorem State.tw0Bytes_kept (s : State) (first : Bool) (a : Nat) (w : Word) (n0 : Nat) : (State.tw0Bytes s first a w n0).2.kept = s.kept := by
  induction n0 generalizing s first a w with
  | zero => rfl
  | succ n ih =>
    unfold State.tw0Bytes
    dsimp only
    refine (ih _ _ _ _).trans ?_
    split <;> split <;> simp

@[simp] theorem State.tw0Read_kept (s : State) (ptr count : Nat) : (State.tw0Read s ptr count).2.kept = s.kept := by
  unfold State.tw0Read
  (try simp) <;> (repeat' split) <;> simp_all

theorem execTw0RegRead_kept (ptr count : Nat) (s : State) : s.keptBy (execTw0RegRead ptr count s) := by
  unfold execTw0RegRead
  (try simp) <;> (repeat' split) <;> simp_all

theorem execTw0BlockRead_kept (ptr count : Nat) (s : State) : s.keptBy (execTw0BlockRead ptr count s) := by
  unfold execTw0BlockRead
  (try simp) <;> (repeat' split) <;> simp_all

theorem execTw0StatusRead_kept (s : State) : s.keptBy (execTw0StatusRead s) := by
  unfold execTw0StatusRead
  (try simp) <;> (repeat' split) <;> simp_all

theorem execTw0OtherCommandByte_kept (b : Byte) (s : State) : s.keptBy (execTw0OtherCommandByte b s) := by
  unfold execTw0OtherCommandByte
  (try simp) <;> (repeat' split) <;> simp_all

theorem execTw0Timeout_kept (s : State) : s.keptBy (execTw0Timeout s) := by
  unfold execTw0Timeout
  (try simp) <;> (repeat' split) <;> simp_all

theorem execTw0AonWake_kept (s : State) : s.keptBy (execTw0AonWake s) := by
  unfold execTw0AonWake
  (try simp) <;> (repeat' split) <;> simp_all

theorem execTw0AonSleep_kept (s : State) : s.keptBy (execTw0AonSleep s) := by
  unfold execTw0AonSleep
  (try simp) <;> (repeat' split) <;> simp_all

theorem execOnReq_kept (path : PathIx) (s : State) : s.keptBy (execOnReq path s) := by
  unfold execOnReq
  (try simp) <;> (repeat' split) <;> simp_all

theorem execAlertResponse_kept (won : Bool) (s : State) : s.keptBy (execAlertResponse won s) := by
  unfold execAlertResponse
  (try simp) <;> (repeat' split) <;> simp_all

@[simp] theorem State.mctpDrop_kept (s : State) : (State.mctpDrop s).kept = s.kept := by
  unfold State.mctpDrop
  (try simp) <;> (repeat' split) <;> simp_all

@[simp] theorem State.mctpJoin_kept (s : State) (p : MctpPacket) (before : List Byte) : (State.mctpJoin s p before).kept = s.kept := by
  unfold State.mctpJoin
  (try simp) <;> (repeat' split) <;> simp_all

@[simp] theorem State.mctpPacket_kept (s : State) (p : MctpPacket) : (State.mctpPacket s p).kept = s.kept := by
  unfold State.mctpPacket
  (try simp) <;> (repeat' split) <;> simp_all

theorem execTw0MctpPacket_kept (p : MctpPacket) (s : State) : s.keptBy (execTw0MctpPacket p s) := by
  unfold execTw0MctpPacket
  (try simp) <;> (repeat' split) <;> simp_all

theorem execTw0MctpResponse_kept (sent : Bool) (s : State) : s.keptBy (execTw0MctpResponse sent s) := by
  unfold execTw0MctpResponse
  (try simp) <;> (repeat' split) <;> simp_all

@[simp] theorem State.burnorSend_kept (s : State) (n : Nat) (r : TwReq) (code : Nat) : (State.burnorSend s n r code).kept = s.kept := by
  unfold State.burnorSend
  (try simp) <;> (repeat' split) <;> simp_all

@[simp] theorem State.twEnds_kept (s : State) (n : Nat) (r : TwReq) (code : Nat) (data : List Byte) : (State.twEnds s n r code data).kept = s.kept := by
  unfold State.twEnds
  (try simp) <;> (repeat' split) <;> simp_all

@[simp] theorem State.twBegins_kept (s : State) (n : Nat) (r : TwReq) : (State.twBegins s n r).kept = s.kept := by
  unfold State.twBegins
  (try simp) <;> (repeat' split) <;> simp_all

theorem execTwTransactionStart_kept (k : TwIx) (reqs : List TwReq) (s : State) : s.keptBy (execTwTransactionStart k reqs s) := by
  unfold execTwTransactionStart
  (try simp) <;> (repeat' split) <;> simp_all

theorem execTwTransactionEnd_kept (k : TwIx) (r : TwResult) (data : List Byte) (s : State) : s.keptBy (execTwTransactionEnd k r data s) := by
  unfold execTwTransactionEnd
  (try simp) <;> (repeat' split) <;> simp_all

theorem execTwArbRetry_kept (k : TwIx) (backoff : Fin 16) (s : State) : s.keptBy (execTwArbRetry k backoff s) := by
  unfold execTwArbRetry
  (try simp) <;> (repeat' split) <;> simp_all

@[simp] theorem State.twPulse_kept (s : State) (n : Nat) : (State.twPulse s n).kept = s.kept := by
  unfold State.twPulse
  (try simp) <;> (repeat' split) <;> simp_all

theorem execTwSclTimeout_kept (k : TwIx) (still : Bool) (s : State) : s.keptBy (execTwSclTimeout k still s) := by
  unfold execTwSclTimeout
  (try simp) <;> (repeat' split) <;> simp_all

@[simp] theorem State.busClear_kept (s : State) (n : Nat) (freedAt : Option (Fin 3)) : (State.busClear s n freedAt).kept = s.kept := by
  unfold State.busClear
  (try simp) <;> (repeat' split) <;> simp_all

theorem execBusClear_kept (k : TwIx) (freedAt : Option (Fin 3)) (s : State) : s.keptBy (execBusClear k freedAt s) := by
  unfold execBusClear
  (try simp) <;> (repeat' split) <;> simp_all

theorem execTwSdaTimeout_kept (k : TwIx) (s : State) : s.keptBy (execTwSdaTimeout k s) := by
  unfold execTwSdaTimeout
  (try simp) <;> (repeat' split) <;> simp_all

theorem execTwHungRetry_kept (k : TwIx) (freedAt : Option (Fin 3)) (s : State) : s.keptBy (execTwHungRetry k freedAt s) := by
  unfold execTwHungRetry
  (try simp) <;> (repeat' split) <;> simp_all

theorem execJtagInstruction_kept (op : JtagOp) (s : State) : s.keptBy (execJtagInstruction op s) := by
  unfold execJtagInstruction
  (try simp) <;> (repeat' split) <;> simp_all

end Sys2Proof.Machine
end

