-- ==== Sys2Proof/Laws/KeepsPorts.lean ====
section
/-!
SUPPORT. Sys2Proof/Laws/KeepsPorts.lean: a command that comes in by the mailbox, on TW0 or on a register path keeps what its own
work keeps.
-/

set_option Elab.async false
namespace Sys2Proof.Machine

theorem State.command_keeps (s : State) (fn : FnIx) (mgmt inRec : Bool) (f : State → State) (h : ∀ x, Keeps x (f x)) :
    s.keepsBy (s.command fn mgmt inRec f) := by
  refine occurs_keeps _ _ _ fun x => ?_
  split
  · exact Keeps.of_kept (State.reply_kept _ _ _ _)
  · split
    · exact Keeps.of_kept (State.reply_kept _ _ _ _)
    · exact h x

theorem State.onTw0_keeps (s : State) (f : State → State) (h : ∀ x, Keeps x (f x)) : s.keepsBy (s.onTw0 f) :=
  occurs_keeps _ _ _ fun x => (Keeps.of_kept (State.aonMatched_kept x)).trans (h _)

theorem State.reach_keeps (s : State) (p off : Nat) (f : State → State) (h : ∀ x, Keeps x (f x)) : Keeps s (s.reach p off f) := by
  unfold State.reach
  split
  · exact Keeps.refl s
  · split
    · split
      · exact Keeps.of_kept (State.putB_kept _ _ _)
      · exact Keeps.of_kept (State.accessFlag_kept _ _ _ _)
    · exact h s

end Sys2Proof.Machine
end

