-- ==== Sys2Proof/Laws/KeepsWarm.lean ====
section
/-!
SUPPORT. Sys2Proof/Laws/KeepsWarm.lean: the operations of Machine/Warm.lean that reach DRAM or the fuses keep what every command keeps.
-/

set_option Elab.async false
namespace Sys2Proof.Machine

theorem State.warmStarts_keeps (s : State) (i : LoadIn) (k : Nat) : Keeps s (State.warmStarts s i k) := by
  unfold State.warmStarts
  (try dsimp only)
  repeat' first
    | with_reducible exact Keeps.refl _
    | split
    | with_reducible refine Keeps.trans ?_ (Keeps.of_kept (State.clusterRestart_kept _))
    | with_reducible refine Keeps.trans ?_ (Keeps.of_kept (State.deriveGens_kept _ _))
    | with_reducible refine Keeps.trans ?_ (State.loadBegins_keeps _ _)
    | with_reducible refine Keeps.trans ?_ (Keeps.of_kept (State.runFw_kept _ _))
    | with_reducible refine Keeps.trans ?_ (Keeps.of_kept (State.unwrapKeys_kept _ _))
    | with_reducible refine occurs_keeps _ _ _ ?_
    | with_reducible refine State.keepsBy_next ?_
    | with_reducible refine Keeps.trans ?_ (State.each_keeps _ _ _ ?_)
    | with_reducible refine Keeps.trans ?_ (Keeps.foldl _ ?_ _ _)
    | with_reducible refine Keeps.trans ?_ (begin_keeps _)
    | (refine Keeps.of_kept ?_; simp; done)
    | (refine keepsBy_of_keptBy ?_; simp; done)
    | intro _
    | exact ⟨rfl, Nat.le_refl _, id, id⟩
    | with_reducible refine Keeps.same ?_
    | with_reducible refine Keeps.cleared ?_

theorem State.warmCopies_keeps (s : State) (i : LoadIn) (origin k : Nat) : Keeps s (State.warmCopies s i origin k) := by
  have h := (State.warmStarts_keeps s i k).trans (Keeps.of_kept (State.tryCopies_kept (s.warmStarts i k) true false (s.warmStarts i k).sameLayout))
  unfold State.warmCopies
  dsimp only
  split
  · exact h.trans (Keeps.of_kept (State.modSeq_kept _ _))
  · exact h.trans (Keeps.of_kept (State.warmApplied_kept _ _ _ _))

theorem State.warmFrom_keeps (s : State) (i : LoadIn) (origin : Nat) (n0 : Option Nat) : Keeps s (State.warmFrom s i origin n0) := by
  unfold State.warmFrom
  (try dsimp only)
  repeat' first
    | with_reducible exact Keeps.refl _
    | split
    | with_reducible refine Keeps.trans ?_ (Keeps.of_kept (State.modSeq_kept _ _))
    | with_reducible refine Keeps.trans ?_ (State.warmCopies_keeps _ _ _ _)
    | with_reducible refine occurs_keeps _ _ _ ?_
    | with_reducible refine State.keepsBy_next ?_
    | with_reducible refine Keeps.trans ?_ (State.each_keeps _ _ _ ?_)
    | with_reducible refine Keeps.trans ?_ (Keeps.foldl _ ?_ _ _)
    | with_reducible refine Keeps.trans ?_ (begin_keeps _)
    | (refine Keeps.of_kept ?_; simp; done)
    | (refine keepsBy_of_keptBy ?_; simp; done)
    | intro _
    | exact ⟨rfl, Nat.le_refl _, id, id⟩
    | with_reducible refine Keeps.same ?_
    | with_reducible refine Keeps.cleared ?_

theorem State.warmLoad_keeps (s : State) (i : LoadIn) : Keeps s (State.warmLoad s i) := by
  unfold State.warmLoad
  (try dsimp only)
  repeat' first
    | with_reducible exact Keeps.refl _
    | split
    | with_reducible refine Keeps.trans ?_ (Keeps.of_kept (State.warmBegins_kept _))
    | with_reducible refine Keeps.trans ?_ (State.warmFrom_keeps _ _ _ _)
    | with_reducible refine occurs_keeps _ _ _ ?_
    | with_reducible refine State.keepsBy_next ?_
    | with_reducible refine Keeps.trans ?_ (State.each_keeps _ _ _ ?_)
    | with_reducible refine Keeps.trans ?_ (Keeps.foldl _ ?_ _ _)
    | with_reducible refine Keeps.trans ?_ (begin_keeps _)
    | (refine Keeps.of_kept ?_; simp; done)
    | (refine keepsBy_of_keptBy ?_; simp; done)
    | intro _
    | exact ⟨rfl, Nat.le_refl _, id, id⟩
    | with_reducible refine Keeps.same ?_
    | with_reducible refine Keeps.cleared ?_

theorem execWarmLoad_keeps (i : LoadIn) (s : State) : s.keepsBy (execWarmLoad i s) := by
  unfold execWarmLoad
  (try dsimp only)
  repeat' first
    | with_reducible exact Keeps.refl _
    | split
    | with_reducible refine Keeps.trans ?_ (State.warmLoad_keeps _ _)
    | with_reducible refine occurs_keeps _ _ _ ?_
    | with_reducible refine State.keepsBy_next ?_
    | with_reducible refine Keeps.trans ?_ (State.each_keeps _ _ _ ?_)
    | with_reducible refine Keeps.trans ?_ (Keeps.foldl _ ?_ _ _)
    | with_reducible refine Keeps.trans ?_ (begin_keeps _)
    | (refine Keeps.of_kept ?_; simp; done)
    | (refine keepsBy_of_keptBy ?_; simp; done)
    | intro _
    | exact ⟨rfl, Nat.le_refl _, id, id⟩
    | with_reducible refine Keeps.same ?_
    | with_reducible refine Keeps.cleared ?_

end Sys2Proof.Machine
end

