-- ==== Sys2Proof/Laws/KeepsUpdate.lean ====
section
/-!
SUPPORT. Sys2Proof/Laws/KeepsUpdate.lean: the operations of Machine/Update.lean that reach DRAM or the fuses keep what every command keeps.
-/

set_option Elab.async false
namespace Sys2Proof.Machine

theorem State.leaveRecovery_keeps (s : State) : Keeps s (State.leaveRecovery s) := by
  unfold State.leaveRecovery
  (try dsimp only)
  repeat' first
    | with_reducible exact Keeps.refl _
    | split
    | with_reducible refine Keeps.trans ?_ (Keeps.of_kept (State.coldBoot_kept _ _ _))
    | with_reducible refine Keeps.trans ?_ (State.mainReset_keeps _)
    | with_reducible refine Keeps.trans ?_ (Keeps.of_kept (State.modSeq_kept _ _))
    | with_reducible refine Keeps.trans ?_ (Keeps.of_kept (State.put_kept _ _ _))
    | with_reducible refine Keeps.trans ?_ (Keeps.of_kept (State.setPower_kept _ _))
    | with_reducible refine occurs_keeps _ _ _ ?_
    | with_reducible refine State.keepsBy_next ?_
    | with_reducible refine State.command_keeps _ _ _ _ _ ?_
    | with_reducible refine State.onTw0_keeps _ _ ?_
    | with_reducible refine Keeps.trans ?_ (State.reach_keeps _ _ _ _ ?_)
    | with_reducible refine Keeps.trans ?_ (State.each_keeps _ _ _ ?_)
    | with_reducible refine Keeps.trans ?_ (Keeps.foldl _ ?_ _ _)
    | with_reducible refine Keeps.trans ?_ (begin_keeps _)
    | (refine Keeps.of_kept ?_; simp; done)
    | (refine keepsBy_of_keptBy ?_; simp; done)
    | intro _
    | exact ⟨rfl, Nat.le_refl _, id, id⟩
    | with_reducible refine Keeps.same ?_
    | with_reducible refine Keeps.cleared ?_

theorem State.activateOffline_keeps (s : State) (fn : FnIx) (slot : Nat) (recoveryHigh : Bool) : Keeps s (State.activateOffline s fn slot recoveryHigh) := by
  unfold State.activateOffline
  (try dsimp only)
  repeat' first
    | with_reducible exact Keeps.refl _
    | split
    | with_reducible refine Keeps.trans ?_ (State.leaveRecovery_keeps _)
    | with_reducible refine Keeps.trans ?_ (Keeps.of_kept (State.programSlot_kept _ _))
    | with_reducible refine Keeps.trans ?_ (Keeps.of_kept (State.reply_kept _ _ _ _))
    | with_reducible refine occurs_keeps _ _ _ ?_
    | with_reducible refine State.keepsBy_next ?_
    | with_reducible refine State.command_keeps _ _ _ _ _ ?_
    | with_reducible refine State.onTw0_keeps _ _ ?_
    | with_reducible refine Keeps.trans ?_ (State.reach_keeps _ _ _ _ ?_)
    | with_reducible refine Keeps.trans ?_ (State.each_keeps _ _ _ ?_)
    | with_reducible refine Keeps.trans ?_ (Keeps.foldl _ ?_ _ _)
    | with_reducible refine Keeps.trans ?_ (begin_keeps _)
    | (refine Keeps.of_kept ?_; simp; done)
    | (refine keepsBy_of_keptBy ?_; simp; done)
    | intro _
    | exact ⟨rfl, Nat.le_refl _, id, id⟩
    | with_reducible refine Keeps.same ?_
    | with_reducible refine Keeps.cleared ?_

theorem execActivateFwOffline_keeps (fn : FnIx) (slot : Nat) (recoveryHigh : Bool) (s : State) : s.keepsBy (execActivateFwOffline fn slot recoveryHigh s) := by
  unfold execActivateFwOffline
  (try dsimp only)
  repeat' first
    | with_reducible exact Keeps.refl _
    | split
    | with_reducible refine Keeps.trans ?_ (State.activateOffline_keeps _ _ _ _)
    | with_reducible refine occurs_keeps _ _ _ ?_
    | with_reducible refine State.keepsBy_next ?_
    | with_reducible refine State.command_keeps _ _ _ _ _ ?_
    | with_reducible refine State.onTw0_keeps _ _ ?_
    | with_reducible refine Keeps.trans ?_ (State.reach_keeps _ _ _ _ ?_)
    | with_reducible refine Keeps.trans ?_ (State.each_keeps _ _ _ ?_)
    | with_reducible refine Keeps.trans ?_ (Keeps.foldl _ ?_ _ _)
    | with_reducible refine Keeps.trans ?_ (begin_keeps _)
    | (refine Keeps.of_kept ?_; simp; done)
    | (refine keepsBy_of_keptBy ?_; simp; done)
    | intro _
    | exact ⟨rfl, Nat.le_refl _, id, id⟩
    | with_reducible refine Keeps.same ?_
    | with_reducible refine Keeps.cleared ?_

theorem State.commitSvn_keeps (s : State) : Keeps s (State.commitSvn s) := by
  unfold State.commitSvn
  split
  · split
    · rename_i h
      refine Keeps.trans ?_ (Keeps.of_kept ((State.event_kept _ _ _ _).trans (State.put_kept _ _ _)))
      exact ⟨rfl, Nat.le_of_lt h.2.1, fun _ => h.2.2, id⟩
    · exact Keeps.refl s
  · exact Keeps.refl s

theorem State.bootSignal_keeps (s : State) : Keeps s (State.bootSignal s) := by
  unfold State.bootSignal
  (try dsimp only)
  repeat' first
    | with_reducible exact Keeps.refl _
    | split
    | with_reducible refine Keeps.trans ?_ (State.commitSvn_keeps _)
    | with_reducible refine Keeps.trans ?_ (Keeps.of_kept (State.modUpd_kept _ _))
    | with_reducible refine Keeps.trans ?_ (Keeps.of_kept (State.onlineEnds_kept _))
    | with_reducible refine Keeps.trans ?_ (Keeps.of_kept (State.put_kept _ _ _))
    | with_reducible refine occurs_keeps _ _ _ ?_
    | with_reducible refine State.keepsBy_next ?_
    | with_reducible refine State.command_keeps _ _ _ _ _ ?_
    | with_reducible refine State.onTw0_keeps _ _ ?_
    | with_reducible refine Keeps.trans ?_ (State.reach_keeps _ _ _ _ ?_)
    | with_reducible refine Keeps.trans ?_ (State.each_keeps _ _ _ ?_)
    | with_reducible refine Keeps.trans ?_ (Keeps.foldl _ ?_ _ _)
    | with_reducible refine Keeps.trans ?_ (begin_keeps _)
    | (refine Keeps.of_kept ?_; simp; done)
    | (refine keepsBy_of_keptBy ?_; simp; done)
    | intro _
    | exact ⟨rfl, Nat.le_refl _, id, id⟩
    | with_reducible refine Keeps.same ?_
    | with_reducible refine Keeps.cleared ?_

theorem execUpdBootOk_keeps (path : PathIx) (s : State) : s.keepsBy (execUpdBootOk path s) := by
  unfold execUpdBootOk
  (try dsimp only)
  repeat' first
    | with_reducible exact Keeps.refl _
    | split
    | with_reducible refine Keeps.trans ?_ (Keeps.of_kept (State.begin_kept _))
    | with_reducible refine Keeps.trans ?_ (State.bootSignal_keeps _)
    | with_reducible refine occurs_keeps _ _ _ ?_
    | with_reducible refine State.keepsBy_next ?_
    | with_reducible refine State.command_keeps _ _ _ _ _ ?_
    | with_reducible refine State.onTw0_keeps _ _ ?_
    | with_reducible refine Keeps.trans ?_ (State.reach_keeps _ _ _ _ ?_)
    | with_reducible refine Keeps.trans ?_ (State.each_keeps _ _ _ ?_)
    | with_reducible refine Keeps.trans ?_ (Keeps.foldl _ ?_ _ _)
    | with_reducible refine Keeps.trans ?_ (begin_keeps _)
    | (refine Keeps.of_kept ?_; simp; done)
    | (refine keepsBy_of_keptBy ?_; simp; done)
    | intro _
    | exact ⟨rfl, Nat.le_refl _, id, id⟩
    | with_reducible refine Keeps.same ?_
    | with_reducible refine Keeps.cleared ?_

end Sys2Proof.Machine
end

