-- ==== Sys2Proof/Laws/KeptErase.lean ====
section
/-!
SUPPORT. Sys2Proof/Laws/KeptErase.lean: which operations of Machine/Erase.lean keep DRAM, the fuses and the queue.
-/

set_option Elab.async false
namespace Sys2Proof.Machine

@[simp] theorem State.abortVersions_kept (s : State) (q k : Nat) : (State.abortVersions s q k).kept = s.kept := by
  unfold State.abortVersions
  (try simp) <;> (repeat' split) <;> simp_all

@[simp] theorem State.abortReads_kept (s : State) (q k : Nat) : (State.abortReads s q k).kept = s.kept := by
  unfold State.abortReads
  (try simp) <;> (repeat' split) <;> simp_all

@[simp] theorem State.revokeLd_kept (s : State) (k : Nat) : (State.revokeLd s k).kept = s.kept := by
  unfold State.revokeLd
  (try simp) <;> (repeat' split) <;> simp_all

@[simp] theorem State.refillTenant_kept (s : State) (fn : FnIx) (k : Nat) : (State.refillTenant s fn k).kept = s.kept := by
  unfold State.refillTenant
  (try simp) <;> (repeat' split) <;> simp_all

@[simp] theorem State.eraseLd_kept (s : State) (fn : FnIx) (k : Nat) (kind : BgKind) (refill : Bool) : (State.eraseLd s fn k kind refill).kept = s.kept := by
  unfold State.eraseLd
  (try simp) <;> (repeat' split) <;> simp_all

@[simp] theorem State.wantErased_kept (s : State) (fn : FnIx) (l : List (Nat × Nat)) : (State.wantErased s fn l).kept = s.kept := by
  unfold State.wantErased
  (try simp) <;> (repeat' split) <;> simp_all

@[simp] theorem State.drawDeviceKeys_kept (s : State) : (State.drawDeviceKeys s).kept = s.kept := by
  unfold State.drawDeviceKeys
  split
  · rfl
  · simpa using foldl_proj_kept (fun r : List Key × State => r.2) (fun acc (_ : Nat) => (acc.1 ++ [acc.2.drawKey.1], acc.2.drawKey.2))
      (fun b a => by simp) (List.range 24) ([], s)

@[simp] theorem State.eraseDevice_kept (s : State) (fn : FnIx) (sanitize : Bool) : (State.eraseDevice s fn sanitize).kept = s.kept := by
  unfold State.eraseDevice
  repeat' first
    | (simp; done)
    | (rw [← snd_kept ‹_ = (_, _)›]; simp; done)
    | (rw [← thd_kept ‹_ = (_, _, _)›]; simp; done)
    | split
    | refine (State.each_kept _ _ _ ?_).trans ?_
    | refine (foldl_kept _ ?_ _ _).trans ?_
    | refine (State.when_kept _ _ _ ?_).trans ?_
    | refine occurs_kept _ _ _ ?_
    | (intro _; skip)
    | simp

@[simp] theorem State.eraseCommand_kept (s : State) (fn : FnIx) (sanitize : Bool) : (State.eraseCommand s fn sanitize).kept = s.kept := by
  unfold State.eraseCommand
  (try simp) <;> (repeat' split) <;> simp_all

theorem execSecureErase_kept (fn : FnIx) (s : State) : s.keptBy (execSecureErase fn s) := by
  unfold execSecureErase
  (try simp) <;> (repeat' split) <;> simp_all

theorem execSanitize_kept (fn : FnIx) (s : State) : s.keptBy (execSanitize fn s) := by
  unfold execSanitize
  (try simp) <;> (repeat' split) <;> simp_all

@[simp] theorem State.switchKeys_kept (s : State) (keys : List Key) : (State.switchKeys s keys).kept = s.kept := by
  unfold State.switchKeys
  (try simp) <;> (repeat' split) <;> simp_all

@[simp] theorem State.dropQuadImage_kept (s : State) (q : Nat) : (State.dropQuadImage s q).kept = s.kept := by
  unfold State.dropQuadImage
  (try simp) <;> (repeat' split) <;> simp_all

@[simp] theorem State.dropImage_kept (s : State) : (State.dropImage s).kept = s.kept := by
  unfold State.dropImage
  (try simp) <;> (repeat' split) <;> simp_all

@[simp] theorem State.openRoot_kept (s : State) (ok : List Bool) : (State.openRoot s ok).kept = s.kept := by
  unfold State.openRoot
  repeat' first
    | (simp; done)
    | (rw [← snd_kept ‹_ = (_, _)›]; simp; done)
    | (rw [← thd_kept ‹_ = (_, _, _)›]; simp; done)
    | split
    | refine (State.each_kept _ _ _ ?_).trans ?_
    | refine (foldl_kept _ ?_ _ _).trans ?_
    | refine (State.when_kept _ _ _ ?_).trans ?_
    | refine occurs_kept _ _ _ ?_
    | (intro _; skip)
    | simp

@[simp] theorem State.keySwitch_kept (s : State) (ok : List Bool) : (State.keySwitch s ok).kept = s.kept := by
  unfold State.keySwitch
  (try simp) <;> (repeat' split) <;> simp_all

theorem execDeviceEraseKeySwitch_kept (ok : List Bool) (s : State) : s.keptBy (execDeviceEraseKeySwitch ok s) := by
  unfold execDeviceEraseKeySwitch
  (try simp) <;> (repeat' split) <;> simp_all

@[simp] theorem State.dryRevoked_kept (s : State) (p : Nat) : (State.dryRevoked s p).kept = s.kept := by
  unfold State.dryRevoked
  (try simp) <;> (repeat' split) <;> simp_all

@[simp] theorem State.dropLd_kept (s : State) (k : Nat) : (State.dropLd s k).kept = s.kept := by
  unfold State.dropLd
  (try simp) <;> (repeat' split) <;> simp_all

@[simp] theorem State.dropFills_kept (s : State) : (State.dropFills s).kept = s.kept := by
  unfold State.dropFills
  (try simp) <;> (repeat' split) <;> simp_all

@[simp] theorem State.ldReady_kept (s : State) (k : Nat) : (State.ldReady s k).kept = s.kept := by
  unfold State.ldReady
  (try simp) <;> (repeat' split) <;> simp_all

@[simp] theorem State.refillOf_kept (s : State) (i : Nat) : (State.refillOf s i).kept = s.kept := by
  unfold State.refillOf
  (try simp) <;> (repeat' split) <;> simp_all

@[simp] theorem State.refillsGo_kept (s : State) : (State.refillsGo s).kept = s.kept := by
  unfold State.refillsGo
  (try dsimp only)
  (repeat' split) <;> simp only [State.drawDeviceKeys_kept, State.refillOf_kept, State.each_kept, kept_mk, kept_ite, kept_eta, ite_self, implies_true]

theorem execDrbgReseed_kept (ok : Bool) (s : State) : s.keptBy (execDrbgReseed ok s) := by
  unfold execDrbgReseed
  (try simp) <;> (repeat' split) <;> simp_all

end Sys2Proof.Machine
end

