-- ==== Sys2Proof/Laws/KeepsErase.lean ====
section
/-!
SUPPORT. Sys2Proof/Laws/KeepsErase.lean: the operations of Machine/Erase.lean that reach DRAM or the fuses keep what every command keeps.
-/

set_option Elab.async false
namespace Sys2Proof.Machine

theorem State.zeroRange_keeps (s : State) (a n : Nat) : Keeps s (State.zeroRange s a n) := by
  exact ⟨rfl, Nat.le_refl _, id, memoryFilter_wf _ _⟩

theorem State.placesAnew_keeps (s : State) : Keeps s (State.placesAnew s) := by
  unfold State.placesAnew
  (try dsimp only)
  repeat' first
    | with_reducible exact Keeps.refl _
    | split
    | with_reducible refine Keeps.trans ?_ (Keeps.of_kept (State.judgeFilled_kept _ _))
    | with_reducible refine Keeps.trans ?_ (Keeps.of_kept (State.judgePlaces_kept _))
    | with_reducible refine Keeps.trans ?_ (State.poisonGoes_keeps _)
    | with_reducible refine occurs_keeps _ _ _ ?_
    | with_reducible refine State.keepsBy_next ?_
    | with_reducible refine State.command_keeps _ _ _ _ _ ?_
    | with_reducible refine State.onTw0_keeps _ _ ?_
    | with_reducible refine Keeps.trans ?_ (State.reach_keeps _ _ _ _ ?_)
    | with_reducible refine Keeps.trans ?_ (State.each_keeps _ _ _ ?_)
    | with_reducible refine Keeps.trans ?_ (Keeps.foldl _ ?_ _ _)
    | with_reducible refine Keeps.trans ?_ (begin_keeps _)
    | (refine Keeps.of_kept ?_; simp; done)
    | (refine keepsBy_of_keptBy ?_; simp; done)
    | intro _
    | exact ⟨rfl, Nat.le_refl _, id, id⟩
    | with_reducible refine Keeps.same ?_
    | with_reducible refine Keeps.cleared ?_

theorem State.zeroLd_keeps (s : State) (k : Nat) : Keeps s (State.zeroLd s k) := by
  unfold State.zeroLd
  (try dsimp only)
  repeat' first
    | with_reducible exact Keeps.refl _
    | split
    | with_reducible refine Keeps.trans ?_ (Keeps.of_kept (State.dropLd_kept _ _))
    | with_reducible refine Keeps.trans ?_ (State.placesAnew_keeps _)
    | with_reducible refine Keeps.trans ?_ (State.zeroRange_keeps _ _ _)
    | with_reducible refine occurs_keeps _ _ _ ?_
    | with_reducible refine State.keepsBy_next ?_
    | with_reducible refine State.command_keeps _ _ _ _ _ ?_
    | with_reducible refine State.onTw0_keeps _ _ ?_
    | with_reducible refine Keeps.trans ?_ (State.reach_keeps _ _ _ _ ?_)
    | with_reducible refine Keeps.trans ?_ (State.each_keeps _ _ _ ?_)
    | with_reducible refine Keeps.trans ?_ (Keeps.foldl _ ?_ _ _)
    | with_reducible refine Keeps.trans ?_ (begin_keeps _)
    | (refine Keeps.of_kept ?_; simp; done)
    | (refine keepsBy_of_keptBy ?_; simp; done)
    | intro _
    | exact ⟨rfl, Nat.le_refl _, id, id⟩
    | with_reducible refine Keeps.same ?_
    | with_reducible refine Keeps.cleared ?_

theorem State.zeroAll_keeps (s : State) : Keeps s (State.zeroAll s) := by
  unfold State.zeroAll
  (try dsimp only)
  repeat' first
    | with_reducible exact Keeps.refl _
    | split
    | with_reducible refine occurs_keeps _ _ _ ?_
    | with_reducible refine State.keepsBy_next ?_
    | with_reducible refine State.command_keeps _ _ _ _ _ ?_
    | with_reducible refine State.onTw0_keeps _ _ ?_
    | with_reducible refine Keeps.trans ?_ (State.reach_keeps _ _ _ _ ?_)
    | with_reducible refine Keeps.trans ?_ (State.each_keeps _ _ _ ?_)
    | with_reducible refine Keeps.trans ?_ (Keeps.foldl _ ?_ _ _)
    | with_reducible refine Keeps.trans ?_ (begin_keeps _)
    | (refine Keeps.of_kept ?_; simp; done)
    | (refine keepsBy_of_keptBy ?_; simp; done)
    | intro _
    | exact ⟨rfl, Nat.le_refl _, id, id⟩
    | with_reducible refine Keeps.same ?_
    | with_reducible refine Keeps.cleared ?_

theorem State.zeroDevice_keeps (s : State) : Keeps s (State.zeroDevice s) := by
  unfold State.zeroDevice
  (try dsimp only)
  repeat' first
    | with_reducible exact Keeps.refl _
    | split
    | with_reducible refine Keeps.trans ?_ (Keeps.of_kept (State.dropFills_kept _))
    | with_reducible refine Keeps.trans ?_ (State.placesAnew_keeps _)
    | with_reducible refine Keeps.trans ?_ (State.zeroAll_keeps _)
    | with_reducible refine occurs_keeps _ _ _ ?_
    | with_reducible refine State.keepsBy_next ?_
    | with_reducible refine State.command_keeps _ _ _ _ _ ?_
    | with_reducible refine State.onTw0_keeps _ _ ?_
    | with_reducible refine Keeps.trans ?_ (State.reach_keeps _ _ _ _ ?_)
    | with_reducible refine Keeps.trans ?_ (State.each_keeps _ _ _ ?_)
    | with_reducible refine Keeps.trans ?_ (Keeps.foldl _ ?_ _ _)
    | with_reducible refine Keeps.trans ?_ (begin_keeps _)
    | (refine Keeps.of_kept ?_; simp; done)
    | (refine keepsBy_of_keptBy ?_; simp; done)
    | intro _
    | exact ⟨rfl, Nat.le_refl _, id, id⟩
    | with_reducible refine Keeps.same ?_
    | with_reducible refine Keeps.cleared ?_

theorem State.ldErased_keeps (s : State) (k : Nat) : Keeps s (State.ldErased s k) := by
  unfold State.ldErased
  (try dsimp only)
  repeat' first
    | with_reducible exact Keeps.refl _
    | split
    | with_reducible refine Keeps.trans ?_ (Keeps.of_kept (State.event_kept _ _ _ _))
    | with_reducible refine Keeps.trans ?_ (Keeps.of_kept (State.modLd_kept _ _ _))
    | with_reducible refine Keeps.trans ?_ (Keeps.of_kept (State.putB_kept _ _ _))
    | with_reducible refine Keeps.trans ?_ (State.zeroLd_keeps _ _)
    | with_reducible refine occurs_keeps _ _ _ ?_
    | with_reducible refine State.keepsBy_next ?_
    | with_reducible refine State.command_keeps _ _ _ _ _ ?_
    | with_reducible refine State.onTw0_keeps _ _ ?_
    | with_reducible refine Keeps.trans ?_ (State.reach_keeps _ _ _ _ ?_)
    | with_reducible refine Keeps.trans ?_ (State.each_keeps _ _ _ ?_)
    | with_reducible refine Keeps.trans ?_ (Keeps.foldl _ ?_ _ _)
    | with_reducible refine Keeps.trans ?_ (begin_keeps _)
    | (refine Keeps.of_kept ?_; simp; done)
    | (refine keepsBy_of_keptBy ?_; simp; done)
    | intro _
    | exact ⟨rfl, Nat.le_refl _, id, id⟩
    | with_reducible refine Keeps.same ?_
    | with_reducible refine Keeps.cleared ?_

theorem State.deviceErased_keeps (s : State) : Keeps s (State.deviceErased s) := by
  unfold State.deviceErased
  (try dsimp only)
  repeat' first
    | with_reducible exact Keeps.refl _
    | split
    | with_reducible refine Keeps.trans ?_ (Keeps.of_kept (State.ldReady_kept _ _))
    | with_reducible refine Keeps.trans ?_ (Keeps.of_kept (State.modFabric_kept _ _))
    | with_reducible refine Keeps.trans ?_ (State.zeroDevice_keeps _)
    | with_reducible refine occurs_keeps _ _ _ ?_
    | with_reducible refine State.keepsBy_next ?_
    | with_reducible refine State.command_keeps _ _ _ _ _ ?_
    | with_reducible refine State.onTw0_keeps _ _ ?_
    | with_reducible refine Keeps.trans ?_ (State.reach_keeps _ _ _ _ ?_)
    | with_reducible refine Keeps.trans ?_ (State.each_keeps _ _ _ ?_)
    | with_reducible refine Keeps.trans ?_ (Keeps.foldl _ ?_ _ _)
    | with_reducible refine Keeps.trans ?_ (begin_keeps _)
    | (refine Keeps.of_kept ?_; simp; done)
    | (refine keepsBy_of_keptBy ?_; simp; done)
    | intro _
    | exact ⟨rfl, Nat.le_refl _, id, id⟩
    | with_reducible refine Keeps.same ?_
    | with_reducible refine Keeps.cleared ?_

theorem State.scanDone_keeps (s : State) (fn : FnIx) (start len : Nat) (bad : List Nat) : Keeps s (State.scanDone s fn start len bad) := by
  unfold State.scanDone
  (try dsimp only)
  repeat' first
    | with_reducible exact Keeps.refl _
    | split
    | with_reducible refine Keeps.trans ?_ (State.engineUe_keeps _ _ _ _ _ _)
    | with_reducible refine Keeps.trans ?_ (Keeps.of_kept (State.modLd_kept _ _ _))
    | with_reducible refine occurs_keeps _ _ _ ?_
    | with_reducible refine State.keepsBy_next ?_
    | with_reducible refine State.command_keeps _ _ _ _ _ ?_
    | with_reducible refine State.onTw0_keeps _ _ ?_
    | with_reducible refine Keeps.trans ?_ (State.reach_keeps _ _ _ _ ?_)
    | with_reducible refine Keeps.trans ?_ (State.each_keeps _ _ _ ?_)
    | with_reducible refine Keeps.trans ?_ (Keeps.foldl _ ?_ _ _)
    | with_reducible refine Keeps.trans ?_ (begin_keeps _)
    | (refine Keeps.of_kept ?_; simp; done)
    | (refine keepsBy_of_keptBy ?_; simp; done)
    | intro _
    | exact ⟨rfl, Nat.le_refl _, id, id⟩
    | with_reducible refine Keeps.same ?_
    | with_reducible refine Keeps.cleared ?_

theorem State.bgWork_keeps (s : State) (fn : FnIx) (ld : Nat) (bad : List Nat) (n0 : BgKind) : Keeps s (State.bgWork s fn ld bad n0) := by
  unfold State.bgWork
  (try dsimp only)
  repeat' first
    | with_reducible exact Keeps.refl _
    | split
    | with_reducible refine Keeps.trans ?_ (State.deviceErased_keeps _)
    | with_reducible refine Keeps.trans ?_ (State.ldErased_keeps _ _)
    | with_reducible refine Keeps.trans ?_ (Keeps.of_kept (State.modLd_kept _ _ _))
    | with_reducible refine Keeps.trans ?_ (State.scanDone_keeps _ _ _ _ _)
    | with_reducible refine Keeps.trans ?_ (State.zeroLd_keeps _ _)
    | with_reducible refine occurs_keeps _ _ _ ?_
    | with_reducible refine State.keepsBy_next ?_
    | with_reducible refine State.command_keeps _ _ _ _ _ ?_
    | with_reducible refine State.onTw0_keeps _ _ ?_
    | with_reducible refine Keeps.trans ?_ (State.reach_keeps _ _ _ _ ?_)
    | with_reducible refine Keeps.trans ?_ (State.each_keeps _ _ _ ?_)
    | with_reducible refine Keeps.trans ?_ (Keeps.foldl _ ?_ _ _)
    | with_reducible refine Keeps.trans ?_ (begin_keeps _)
    | (refine Keeps.of_kept ?_; simp; done)
    | (refine keepsBy_of_keptBy ?_; simp; done)
    | intro _
    | exact ⟨rfl, Nat.le_refl _, id, id⟩
    | with_reducible refine Keeps.same ?_
    | with_reducible refine Keeps.cleared ?_

theorem State.bgDone_keeps (s : State) (fn : FnIx) (b : BgCmd) (bad : List Nat) : Keeps s (State.bgDone s fn b bad) := by
  unfold State.bgDone
  (try dsimp only)
  repeat' first
    | with_reducible exact Keeps.refl _
    | split
    | with_reducible refine Keeps.trans ?_ (State.bgWork_keeps _ _ _ _ _)
    | with_reducible refine Keeps.trans ?_ (Keeps.of_kept (State.emit_kept _ _))
    | with_reducible refine Keeps.trans ?_ (Keeps.of_kept (State.event_kept _ _ _ _))
    | with_reducible refine Keeps.trans ?_ (Keeps.of_kept (State.modLd_kept _ _ _))
    | with_reducible refine occurs_keeps _ _ _ ?_
    | with_reducible refine State.keepsBy_next ?_
    | with_reducible refine State.command_keeps _ _ _ _ _ ?_
    | with_reducible refine State.onTw0_keeps _ _ ?_
    | with_reducible refine Keeps.trans ?_ (State.reach_keeps _ _ _ _ ?_)
    | with_reducible refine Keeps.trans ?_ (State.each_keeps _ _ _ ?_)
    | with_reducible refine Keeps.trans ?_ (Keeps.foldl _ ?_ _ _)
    | with_reducible refine Keeps.trans ?_ (begin_keeps _)
    | (refine Keeps.of_kept ?_; simp; done)
    | (refine keepsBy_of_keptBy ?_; simp; done)
    | intro _
    | exact ⟨rfl, Nat.le_refl _, id, id⟩
    | with_reducible refine Keeps.same ?_
    | with_reducible refine Keeps.cleared ?_

theorem execBackgroundCommandDone_keeps (fn : FnIx) (bad : List Nat) (s : State) : s.keepsBy (execBackgroundCommandDone fn bad s) := by
  unfold execBackgroundCommandDone
  (try dsimp only)
  repeat' first
    | with_reducible exact Keeps.refl _
    | split
    | with_reducible refine Keeps.trans ?_ (Keeps.of_kept (State.begin_kept _))
    | with_reducible refine Keeps.trans ?_ (State.bgDone_keeps _ _ _ _)
    | with_reducible refine occurs_keeps _ _ _ ?_
    | with_reducible refine State.keepsBy_next ?_
    | with_reducible refine State.command_keeps _ _ _ _ _ ?_
    | with_reducible refine State.onTw0_keeps _ _ ?_
    | with_reducible refine Keeps.trans ?_ (State.reach_keeps _ _ _ _ ?_)
    | with_reducible refine Keeps.trans ?_ (State.each_keeps _ _ _ ?_)
    | with_reducible refine Keeps.trans ?_ (Keeps.foldl _ ?_ _ _)
    | with_reducible refine Keeps.trans ?_ (begin_keeps _)
    | (refine Keeps.of_kept ?_; simp; done)
    | (refine keepsBy_of_keptBy ?_; simp; done)
    | intro _
    | exact ⟨rfl, Nat.le_refl _, id, id⟩
    | with_reducible refine Keeps.same ?_
    | with_reducible refine Keeps.cleared ?_

end Sys2Proof.Machine
end

