-- ==== Sys2Proof/Laws/KeptCommands.lean ====
section
/-!
SUPPORT. Sys2Proof/Laws/KeptCommands.lean: which operations of Machine/Commands.lean keep DRAM, the fuses and the queue.
-/

set_option Elab.async false
namespace Sys2Proof.Machine

theorem execUnsupportedOpcode_kept (fn : FnIx) (opcode : Nat) (s : State) : s.keptBy (execUnsupportedOpcode fn opcode s) := by
  unfold execUnsupportedOpcode
  (try simp) <;> (repeat' split) <;> simp_all

theorem execIdentify_kept (fn : FnIx) (s : State) : s.keptBy (execIdentify fn s) := by
  unfold execIdentify
  (try simp) <;> (repeat' split) <;> simp_all

theorem execGetFwInfo_kept (fn : FnIx) (s : State) : s.keptBy (execGetFwInfo fn s) := by
  unfold execGetFwInfo
  (try simp) <;> (repeat' split) <;> simp_all

theorem execGetTimestamp_kept (fn : FnIx) (s : State) : s.keptBy (execGetTimestamp fn s) := by
  unfold execGetTimestamp
  (try simp) <;> (repeat' split) <;> simp_all

theorem execSetTimestamp_kept (fn : FnIx) (ts : Nat) (s : State) : s.keptBy (execSetTimestamp fn ts s) := by
  unfold execSetTimestamp
  (try simp) <;> (repeat' split) <;> simp_all

theorem execGetSupportedLogs_kept (fn : FnIx) (s : State) : s.keptBy (execGetSupportedLogs fn s) := by
  unfold execGetSupportedLogs
  (try simp) <;> (repeat' split) <;> simp_all

theorem execGetLog_kept (fn : FnIx) (s : State) : s.keptBy (execGetLog fn s) := by
  unfold execGetLog
  (try simp) <;> (repeat' split) <;> simp_all

@[simp] theorem State.modLog_kept (s : State) (fn : FnIx) (log : Nat) (f : EvLog → EvLog) : (State.modLog s fn log f).kept = s.kept := by
  unfold State.modLog
  (try simp) <;> (repeat' split) <;> simp_all

theorem execGetEventRecords_kept (fn : FnIx) (log : Nat) (s : State) : s.keptBy (execGetEventRecords fn log s) := by
  unfold execGetEventRecords
  (try simp) <;> (repeat' split) <;> simp_all

theorem execClearEventRecords_kept (fn : FnIx) (log : Nat) (all : Bool) (handles : List Nat) (s : State) : s.keptBy (execClearEventRecords fn log all handles s) := by
  unfold execClearEventRecords
  (try simp) <;> (repeat' split) <;> simp_all

theorem execGetEventInterruptPolicy_kept (fn : FnIx) (s : State) : s.keptBy (execGetEventInterruptPolicy fn s) := by
  unfold execGetEventInterruptPolicy
  (try simp) <;> (repeat' split) <;> simp_all

theorem execSetEventInterruptPolicy_kept (fn : FnIx) (settings : List Nat) (s : State) : s.keptBy (execSetEventInterruptPolicy fn settings s) := by
  unfold execSetEventInterruptPolicy
  (try simp) <;> (repeat' split) <;> simp_all

theorem execIdentifyMemoryDevice_kept (fn : FnIx) (s : State) : s.keptBy (execIdentifyMemoryDevice fn s) := by
  unfold execIdentifyMemoryDevice
  (try simp) <;> (repeat' split) <;> simp_all

theorem execGetPartitionInfo_kept (fn : FnIx) (s : State) : s.keptBy (execGetPartitionInfo fn s) := by
  unfold execGetPartitionInfo
  (try simp) <;> (repeat' split) <;> simp_all

theorem execSetPartitionInfo_kept (fn : FnIx) (vol : Nat) (immediate : Bool) (s : State) : s.keptBy (execSetPartitionInfo fn vol immediate s) := by
  unfold execSetPartitionInfo
  (try simp) <;> (repeat' split) <;> simp_all

theorem execGetHealthInfo_kept (fn : FnIx) (s : State) : s.keptBy (execGetHealthInfo fn s) := by
  unfold execGetHealthInfo
  (try simp) <;> (repeat' split) <;> simp_all

theorem execGetAlertConfiguration_kept (fn : FnIx) (s : State) : s.keptBy (execGetAlertConfiguration fn s) := by
  unfold execGetAlertConfiguration
  (try simp) <;> (repeat' split) <;> simp_all

theorem execSetAlertConfiguration_kept (fn : FnIx) (settings : List Nat) (s : State) : s.keptBy (execSetAlertConfiguration fn settings s) := by
  unfold execSetAlertConfiguration
  (try simp) <;> (repeat' split) <;> simp_all

theorem execGetShutdownState_kept (fn : FnIx) (s : State) : s.keptBy (execGetShutdownState fn s) := by
  unfold execGetShutdownState
  (try simp) <;> (repeat' split) <;> simp_all

theorem execSetShutdownState_kept (fn : FnIx) (value : Nat) (s : State) : s.keptBy (execSetShutdownState fn value s) := by
  unfold execSetShutdownState
  (try simp) <;> (repeat' split) <;> simp_all

@[simp] theorem State.getPoison_kept (s : State) (fn : FnIx) (start len : Nat) : (State.getPoison s fn start len).kept = s.kept := by
  unfold State.getPoison
  (try simp) <;> (repeat' split) <;> simp_all

theorem execGetPoisonList_kept (fn : FnIx) (start len : Nat) (s : State) : s.keptBy (execGetPoisonList fn start len s) := by
  unfold execGetPoisonList
  (try simp) <;> (repeat' split) <;> simp_all

theorem execGetScanMediaCapabilities_kept (fn : FnIx) (start len : Nat) (s : State) : s.keptBy (execGetScanMediaCapabilities fn start len s) := by
  unfold execGetScanMediaCapabilities
  repeat' first
    | (simp; done)
    | (rw [← snd_kept ‹_ = (_, _)›]; simp; done)
    | (rw [← thd_kept ‹_ = (_, _, _)›]; simp; done)
    | split
    | refine (State.each_kept _ _ _ ?_).trans ?_
    | refine (foldl_kept _ ?_ _ _).trans ?_
    | refine (State.when_kept _ _ _ ?_).trans ?_
    | refine occurs_kept _ _ _ ?_
    | (intro _; skip)
    | simp

theorem execScanMedia_kept (fn : FnIx) (start len : Nat) (s : State) : s.keptBy (execScanMedia fn start len s) := by
  unfold execScanMedia
  repeat' first
    | (simp; done)
    | (rw [← snd_kept ‹_ = (_, _)›]; simp; done)
    | (rw [← thd_kept ‹_ = (_, _, _)›]; simp; done)
    | split
    | refine (State.each_kept _ _ _ ?_).trans ?_
    | refine (foldl_kept _ ?_ _ _).trans ?_
    | refine (State.when_kept _ _ _ ?_).trans ?_
    | refine occurs_kept _ _ _ ?_
    | (intro _; skip)
    | simp

theorem execGetScanMediaResults_kept (fn : FnIx) (s : State) : s.keptBy (execGetScanMediaResults fn s) := by
  unfold execGetScanMediaResults
  (try simp) <;> (repeat' split) <;> simp_all

@[simp] theorem State.vendorLog_kept (s : State) (fn : FnIx) (type start count : Nat) : (State.vendorLog s fn type start count).kept = s.kept := by
  unfold State.vendorLog
  (try simp) <;> (repeat' split) <;> simp_all

theorem execGetVendorLog_kept (fn : FnIx) (type start count : Nat) (s : State) : s.keptBy (execGetVendorLog fn type start count s) := by
  unfold execGetVendorLog
  (try simp) <;> (repeat' split) <;> simp_all

end Sys2Proof.Machine
end

