-- ==== Sys2Proof/Laws/KeepsCommands.lean ====
section
/-!
SUPPORT. Sys2Proof/Laws/KeepsCommands.lean: the operations of Machine/Commands.lean that reach DRAM or the fuses keep what every command keeps.
-/

set_option Elab.async false
namespace Sys2Proof.Machine

theorem State.poisonCommand_keeps (s : State) (fn : FnIx) (addr : Nat) (data : Option Line) : Keeps s (State.poisonCommand s fn addr data) := by
  unfold State.poisonCommand
  (try dsimp only)
  repeat' first
    | with_reducible exact Keeps.refl _
    | split
    | with_reducible refine Keeps.trans ?_ (Keeps.of_kept (State.faultIn_kept _ _))
    | with_reducible refine Keeps.trans ?_ (Keeps.of_kept (State.modFabric_kept _ _))
    | with_reducible refine Keeps.trans ?_ (State.poisonWrite_keeps _ _)
    | with_reducible refine Keeps.trans ?_ (Keeps.of_kept (State.reply_kept _ _ _ _))
    | with_reducible refine occurs_keeps _ _ _ ?_
    | with_reducible refine State.keepsBy_next ?_
    | with_reducible refine State.command_keeps _ _ _ _ _ ?_
    | with_reducible refine State.onTw0_keeps _ _ ?_
    | with_reducible refine Keeps.trans ?_ (State.reach_keeps _ _ _ _ ?_)
    | with_reducible refine Keeps.trans ?_ (State.each_keeps _ _ _ ?_)
    | with_reducible refine Keeps.trans ?_ (Keeps.foldl _ ?_ _ _)
    | with_reducible refine Keeps.trans ?_ (begin_keeps _)
    | (refine Keeps.of_kept ?_; simp; done)
    | (refine keepsBy_of_keptBy ?_; simp; done)
    | intro _
    | exact ⟨rfl, Nat.le_refl _, id, id⟩
    | with_reducible refine Keeps.same ?_
    | with_reducible refine Keeps.cleared ?_

theorem execInjectPoison_keeps (fn : FnIx) (addr : Nat) (s : State) : s.keepsBy (execInjectPoison fn addr s) := by
  unfold execInjectPoison
  (try dsimp only)
  repeat' first
    | with_reducible exact Keeps.refl _
    | split
    | with_reducible refine Keeps.trans ?_ (State.poisonCommand_keeps _ _ _ _)
    | with_reducible refine occurs_keeps _ _ _ ?_
    | with_reducible refine State.keepsBy_next ?_
    | with_reducible refine State.command_keeps _ _ _ _ _ ?_
    | with_reducible refine State.onTw0_keeps _ _ ?_
    | with_reducible refine Keeps.trans ?_ (State.reach_keeps _ _ _ _ ?_)
    | with_reducible refine Keeps.trans ?_ (State.each_keeps _ _ _ ?_)
    | with_reducible refine Keeps.trans ?_ (Keeps.foldl _ ?_ _ _)
    | with_reducible refine Keeps.trans ?_ (begin_keeps _)
    | (refine Keeps.of_kept ?_; simp; done)
    | (refine keepsBy_of_keptBy ?_; simp; done)
    | intro _
    | exact ⟨rfl, Nat.le_refl _, id, id⟩
    | with_reducible refine Keeps.same ?_
    | with_reducible refine Keeps.cleared ?_

theorem execClearPoison_keeps (fn : FnIx) (addr : Nat) (data : Line) (s : State) : s.keepsBy (execClearPoison fn addr data s) := by
  unfold execClearPoison
  (try dsimp only)
  repeat' first
    | with_reducible exact Keeps.refl _
    | split
    | with_reducible refine Keeps.trans ?_ (State.poisonCommand_keeps _ _ _ _)
    | with_reducible refine occurs_keeps _ _ _ ?_
    | with_reducible refine State.keepsBy_next ?_
    | with_reducible refine State.command_keeps _ _ _ _ _ ?_
    | with_reducible refine State.onTw0_keeps _ _ ?_
    | with_reducible refine Keeps.trans ?_ (State.reach_keeps _ _ _ _ ?_)
    | with_reducible refine Keeps.trans ?_ (State.each_keeps _ _ _ ?_)
    | with_reducible refine Keeps.trans ?_ (Keeps.foldl _ ?_ _ _)
    | with_reducible refine Keeps.trans ?_ (begin_keeps _)
    | (refine Keeps.of_kept ?_; simp; done)
    | (refine keepsBy_of_keptBy ?_; simp; done)
    | intro _
    | exact ⟨rfl, Nat.le_refl _, id, id⟩
    | with_reducible refine Keeps.same ?_
    | with_reducible refine Keeps.cleared ?_

end Sys2Proof.Machine
end

