-- ==== Sys2Proof/Laws/KeptFrame.lean ====
section
/-!
SUPPORT. Sys2Proof/Laws/KeptFrame.lean: which operations of Machine/Frame.lean keep DRAM, the fuses and the queue.
-/

set_option Elab.async false
namespace Sys2Proof.Machine

@[simp] theorem State.missedDone_kept (s : State) (u : Nat) : (State.missedDone s u).kept = s.kept := by
  unfold State.missedDone
  (try simp) <;> (repeat' split) <;> simp_all

@[simp] theorem State.heartbeat_kept (s : State) (missing : List Nat) : (State.heartbeat s missing).kept = s.kept := by
  unfold State.heartbeat
  (try simp) <;> (repeat' split) <;> simp_all

@[simp] theorem State.ringToken_kept (s : State) (silent : List Nat) (g : Nat) : (State.ringToken s silent g).kept = s.kept := by
  unfold State.ringToken
  (try simp) <;> (repeat' split) <;> simp_all

@[simp] theorem State.treesDelivered_kept (s : State) : (State.treesDelivered s).kept = s.kept := by
  unfold State.treesDelivered
  (try simp) <;> (repeat' split) <;> simp_all

@[simp] theorem State.judgeObservers_kept (s : State) (silent : List Nat) : (State.judgeObservers s silent).kept = s.kept := by
  unfold State.judgeObservers
  (try simp) <;> (repeat' split) <;> simp_all

@[simp] theorem State.resetTaken_kept (s : State) : (State.resetTaken s).kept = s.kept := by
  unfold State.resetTaken
  (try simp) <;> (repeat' split) <;> simp_all

@[simp] theorem State.publish_kept (s : State) (missing : List Nat) : (State.publish s missing).kept = s.kept := by
  unfold State.publish
  (try simp) <;> (repeat' split) <;> simp_all

@[simp] theorem State.railSample_kept (s : State) (k raw : Nat) : (State.railSample s k raw).kept = s.kept := by
  unfold State.railSample
  (try simp) <;> (repeat' split) <;> simp_all

@[simp] theorem State.railSamples_kept (s : State) (l : List (Nat × Nat)) : (State.railSamples s l).kept = s.kept := by
  unfold State.railSamples
  repeat' first
    | (simp; done)
    | (rw [← snd_kept ‹_ = (_, _)›]; simp; done)
    | (rw [← thd_kept ‹_ = (_, _, _)›]; simp; done)
    | split
    | refine (State.each_kept _ _ _ ?_).trans ?_
    | refine (foldl_kept _ ?_ _ _).trans ?_
    | refine (State.when_kept _ _ _ ?_).trans ?_
    | refine occurs_kept _ _ _ ?_
    | (intro _; skip)
    | simp

@[simp] theorem State.sampleGf_kept (s : State) (outside : Bool) : (State.sampleGf s outside).kept = s.kept := by
  unfold State.sampleGf
  (try simp) <;> (repeat' split) <;> simp_all

@[simp] theorem State.paces_kept (s : State) : (State.paces s).kept = s.kept := by
  unfold State.paces
  (try simp) <;> (repeat' split) <;> simp_all

@[simp] theorem State.frameEnds_kept (s : State) (i : FrameIn) : (State.frameEnds s i).kept = s.kept := by
  unfold State.frameEnds
  (try simp) <;> (repeat' split) <;> simp_all

theorem execTickSkew_kept (treeB : Bool) (s : State) : s.keptBy (execTickSkew treeB s) := by
  unfold execTickSkew
  (try simp) <;> (repeat' split) <;> simp_all

@[simp] theorem State.clockCheck_kept (s : State) (xtal aon : Nat) : (State.clockCheck s xtal aon).kept = s.kept := by
  unfold State.clockCheck
  (try simp) <;> (repeat' split) <;> simp_all

@[simp] theorem State.plumbMismatch_kept (s : State) (f : Nat × Nat × Bool) : (State.plumbMismatch s f).kept = s.kept := by
  unfold State.plumbMismatch
  (try simp) <;> (repeat' split) <;> simp_all

@[simp] theorem State.plumbCheck_kept (s : State) (folds : List (Nat × Nat × Bool)) : (State.plumbCheck s folds).kept = s.kept := by
  unfold State.plumbCheck
  (try simp) <;> (repeat' split) <;> simp_all

@[simp] theorem State.dieTemps_kept (s : State) (l : List (Option Int)) : (State.dieTemps s l).kept = s.kept := by
  unfold State.dieTemps
  (try simp) <;> (repeat' split) <;> simp_all

@[simp] theorem State.judgeLimits_kept (s : State) : (State.judgeLimits s).kept = s.kept := by
  unfold State.judgeLimits
  (try simp) <;> (repeat' split) <;> simp_all

@[simp] theorem State.scSuperframe_kept (s : State) (n : Nat) : (State.scSuperframe s n).kept = s.kept := by
  unfold State.scSuperframe
  (try simp) <;> (repeat' split) <;> simp_all

@[simp] theorem State.skimRate_kept (s : State) : (State.skimRate s).kept = s.kept := by
  unfold State.skimRate
  (try simp) <;> (repeat' split) <;> simp_all

@[simp] theorem State.railRetries_kept (s : State) : (State.railRetries s).kept = s.kept := by
  unfold State.railRetries
  (try simp) <;> (repeat' split) <;> simp_all

@[simp] theorem State.superframeBoundary_kept (s : State) (i : SuperIn) : (State.superframeBoundary s i).kept = s.kept := by
  unfold State.superframeBoundary
  (try simp) <;> (repeat' split) <;> simp_all

theorem execSuperframeBoundary_kept (i : SuperIn) (s : State) : s.keptBy (execSuperframeBoundary i s) := by
  unfold execSuperframeBoundary
  (try simp) <;> (repeat' split) <;> simp_all

end Sys2Proof.Machine
end

