-- ==== Sys2Proof/Laws/KeepsFrame.lean ====
section
/-!
SUPPORT. Sys2Proof/Laws/KeepsFrame.lean: the operations of Machine/Frame.lean that reach DRAM or the fuses keep what every command keeps.
-/

set_option Elab.async false
namespace Sys2Proof.Machine

theorem State.unitsFrame_keeps (s : State) (i : FrameIn) : Keeps s (State.unitsFrame s i) := by
  have h : Keeps s s.headFrame.keepCredits.judgeLevel.poisonGoes := (Keeps.of_kept (by simp)).trans (State.poisonGoes_keeps _)
  refine h.trans (Keeps.of_kept ?_)
  unfold State.unitsFrame
  generalize s.headFrame.keepCredits.judgeLevel.poisonGoes = a
  simp

theorem State.frameBoundary_keeps (s : State) (i : FrameIn) : Keeps s (State.frameBoundary s i) := by
  unfold State.frameBoundary
  (try dsimp only)
  repeat' first
    | with_reducible exact Keeps.refl _
    | split
    | with_reducible refine Keeps.trans ?_ (Keeps.of_kept (State.epochAbandon_kept _))
    | with_reducible refine Keeps.trans ?_ (Keeps.of_kept (State.frameEnds_kept _ _))
    | with_reducible refine Keeps.trans ?_ (Keeps.of_kept (State.judgeObservers_kept _ _))
    | with_reducible refine Keeps.trans ?_ (Keeps.of_kept (State.modTick_kept _ _))
    | with_reducible refine Keeps.trans ?_ (Keeps.of_kept (State.publish_kept _ _))
    | with_reducible refine Keeps.trans ?_ (Keeps.of_kept (State.rideThroughEnds_kept _))
    | with_reducible refine Keeps.trans ?_ (Keeps.of_kept (State.sampleGf_kept _ _))
    | with_reducible refine Keeps.trans ?_ (Keeps.of_kept (State.treesDelivered_kept _))
    | with_reducible refine Keeps.trans ?_ (State.unitsFrame_keeps _ _)
    | with_reducible refine occurs_keeps _ _ _ ?_
    | with_reducible refine State.keepsBy_next ?_
    | with_reducible refine Keeps.trans ?_ (State.each_keeps _ _ _ ?_)
    | with_reducible refine Keeps.trans ?_ (Keeps.foldl _ ?_ _ _)
    | with_reducible refine Keeps.trans ?_ (begin_keeps _)
    | (refine Keeps.of_kept ?_; simp; done)
    | (refine keepsBy_of_keptBy ?_; simp; done)
    | intro _
    | exact ⟨rfl, Nat.le_refl _, id, id⟩
    | with_reducible refine Keeps.same ?_
    | with_reducible refine Keeps.cleared ?_

theorem execFrameBoundary_keeps (i : FrameIn) (s : State) : s.keepsBy (execFrameBoundary i s) := by
  unfold execFrameBoundary
  (try dsimp only)
  repeat' first
    | with_reducible exact Keeps.refl _
    | split
    | with_reducible refine Keeps.trans ?_ (State.frameBoundary_keeps _ _)
    | with_reducible refine occurs_keeps _ _ _ ?_
    | with_reducible refine State.keepsBy_next ?_
    | with_reducible refine Keeps.trans ?_ (State.each_keeps _ _ _ ?_)
    | with_reducible refine Keeps.trans ?_ (Keeps.foldl _ ?_ _ _)
    | with_reducible refine Keeps.trans ?_ (begin_keeps _)
    | (refine Keeps.of_kept ?_; simp; done)
    | (refine keepsBy_of_keptBy ?_; simp; done)
    | intro _
    | exact ⟨rfl, Nat.le_refl _, id, id⟩
    | with_reducible refine Keeps.same ?_
    | with_reducible refine Keeps.cleared ?_

end Sys2Proof.Machine
end

