-- ==== Sys2Proof/Laws/KeepsRegPath.lean ====
section
/-!
SUPPORT. Sys2Proof/Laws/KeepsRegPath.lean: the operations of Machine/RegPath.lean that reach DRAM or the fuses keep what every command keeps.
-/

set_option Elab.async false
namespace Sys2Proof.Machine

theorem State.writeActs_keeps (s : State) (off : Nat) (v : Word) : Keeps s (State.writeActs s off v) := by
  unfold State.writeActs
  dsimp only
  split
  · exact Keeps.of_kept (by simp)
  · split
    · exact Keeps.of_kept (by simp)
    · split
      · exact Keeps.of_kept (by simp)
      · split
        · exact Keeps.of_kept (by simp)
        · split
          · exact Keeps.of_kept (by simp)
          · split
            · exact Keeps.of_kept (by simp)
            · split
              · exact Keeps.of_kept (by simp)
              · split
                · exact State.when_keeps _ _ _ State.bootSignal_keeps
                · exact Keeps.refl s

theorem State.writeOne_keeps (s : State) (p : Nat) (d : RegDef) (off : Nat) (v : Word) : Keeps s (State.writeOne s p d off v) := by
  unfold State.writeOne
  (try dsimp only)
  repeat' first
    | with_reducible exact Keeps.refl _
    | split
    | with_reducible refine Keeps.trans ?_ (Keeps.of_kept (State.bankWr_kept _ _ _ _))
    | with_reducible refine Keeps.trans ?_ (Keeps.of_kept (State.fieldsWrite_kept _ _ _ _ _))
    | with_reducible refine Keeps.trans ?_ (State.writeActs_keeps _ _ _)
    | with_reducible refine occurs_keeps _ _ _ ?_
    | with_reducible refine State.keepsBy_next ?_
    | with_reducible refine State.command_keeps _ _ _ _ _ ?_
    | with_reducible refine State.onTw0_keeps _ _ ?_
    | with_reducible refine Keeps.trans ?_ (State.reach_keeps _ _ _ _ ?_)
    | with_reducible refine Keeps.trans ?_ (State.each_keeps _ _ _ ?_)
    | with_reducible refine Keeps.trans ?_ (Keeps.foldl _ ?_ _ _)
    | with_reducible refine Keeps.trans ?_ (begin_keeps _)
    | (refine Keeps.of_kept ?_; simp; done)
    | (refine keepsBy_of_keptBy ?_; simp; done)
    | intro _
    | exact ⟨rfl, Nat.le_refl _, id, id⟩
    | with_reducible refine Keeps.same ?_
    | with_reducible refine Keeps.cleared ?_

theorem State.writeAt_keeps (s : State) (p a : Nat) (v : Word) : Keeps s (State.writeAt s p a v) := by
  unfold State.writeAt
  (try dsimp only)
  repeat' first
    | with_reducible exact Keeps.refl _
    | split
    | with_reducible refine Keeps.trans ?_ (State.writeOne_keeps _ _ _ _ _)
    | with_reducible refine occurs_keeps _ _ _ ?_
    | with_reducible refine State.keepsBy_next ?_
    | with_reducible refine State.command_keeps _ _ _ _ _ ?_
    | with_reducible refine State.onTw0_keeps _ _ ?_
    | with_reducible refine Keeps.trans ?_ (State.reach_keeps _ _ _ _ ?_)
    | with_reducible refine Keeps.trans ?_ (State.each_keeps _ _ _ ?_)
    | with_reducible refine Keeps.trans ?_ (Keeps.foldl _ ?_ _ _)
    | with_reducible refine Keeps.trans ?_ (begin_keeps _)
    | (refine Keeps.of_kept ?_; simp; done)
    | (refine keepsBy_of_keptBy ?_; simp; done)
    | intro _
    | exact ⟨rfl, Nat.le_refl _, id, id⟩
    | with_reducible refine Keeps.same ?_
    | with_reducible refine Keeps.cleared ?_

theorem State.writeAll_keeps (s : State) (p off : Nat) (v : Word) (l : List Nat) : Keeps s (State.writeAll s p off v l) := by
  unfold State.writeAll
  (try dsimp only)
  repeat' first
    | with_reducible exact Keeps.refl _
    | split
    | with_reducible refine Keeps.trans ?_ (Keeps.of_kept (State.rwlReport_kept _ _ _))
    | with_reducible refine Keeps.trans ?_ (Keeps.of_kept (State.splitReport_kept _))
    | with_reducible refine Keeps.trans ?_ (State.writeAt_keeps _ _ _ _)
    | with_reducible refine occurs_keeps _ _ _ ?_
    | with_reducible refine State.keepsBy_next ?_
    | with_reducible refine State.command_keeps _ _ _ _ _ ?_
    | with_reducible refine State.onTw0_keeps _ _ ?_
    | with_reducible refine Keeps.trans ?_ (State.reach_keeps _ _ _ _ ?_)
    | with_reducible refine Keeps.trans ?_ (State.each_keeps _ _ _ ?_)
    | with_reducible refine Keeps.trans ?_ (Keeps.foldl _ ?_ _ _)
    | with_reducible refine Keeps.trans ?_ (begin_keeps _)
    | (refine Keeps.of_kept ?_; simp; done)
    | (refine keepsBy_of_keptBy ?_; simp; done)
    | intro _
    | exact ⟨rfl, Nat.le_refl _, id, id⟩
    | with_reducible refine Keeps.same ?_
    | with_reducible refine Keeps.cleared ?_

theorem State.writeTo_keeps (s : State) (p off : Nat) (v : Word) (n0 : Option (List Nat)) : Keeps s (State.writeTo s p off v n0) := by
  unfold State.writeTo
  (try dsimp only)
  repeat' first
    | with_reducible exact Keeps.refl _
    | split
    | with_reducible refine Keeps.trans ?_ (Keeps.of_kept (State.bankPut_kept _ _ _ _))
    | with_reducible refine Keeps.trans ?_ (State.writeAll_keeps _ _ _ _ _)
    | with_reducible refine occurs_keeps _ _ _ ?_
    | with_reducible refine State.keepsBy_next ?_
    | with_reducible refine State.command_keeps _ _ _ _ _ ?_
    | with_reducible refine State.onTw0_keeps _ _ ?_
    | with_reducible refine Keeps.trans ?_ (State.reach_keeps _ _ _ _ ?_)
    | with_reducible refine Keeps.trans ?_ (State.each_keeps _ _ _ ?_)
    | with_reducible refine Keeps.trans ?_ (Keeps.foldl _ ?_ _ _)
    | with_reducible refine Keeps.trans ?_ (begin_keeps _)
    | (refine Keeps.of_kept ?_; simp; done)
    | (refine keepsBy_of_keptBy ?_; simp; done)
    | intro _
    | exact ⟨rfl, Nat.le_refl _, id, id⟩
    | with_reducible refine Keeps.same ?_
    | with_reducible refine Keeps.cleared ?_

theorem State.writeMapped_keeps (s : State) (p off : Nat) (v : Word) : Keeps s (State.writeMapped s p off v) := by
  unfold State.writeMapped
  (try dsimp only)
  repeat' first
    | with_reducible exact Keeps.refl _
    | split
    | with_reducible refine Keeps.trans ?_ (Keeps.of_kept (State.unmappedWrite_kept _ _ _))
    | with_reducible refine Keeps.trans ?_ (State.writeTo_keeps _ _ _ _ _)
    | with_reducible refine occurs_keeps _ _ _ ?_
    | with_reducible refine State.keepsBy_next ?_
    | with_reducible refine State.command_keeps _ _ _ _ _ ?_
    | with_reducible refine State.onTw0_keeps _ _ ?_
    | with_reducible refine Keeps.trans ?_ (State.reach_keeps _ _ _ _ ?_)
    | with_reducible refine Keeps.trans ?_ (State.each_keeps _ _ _ ?_)
    | with_reducible refine Keeps.trans ?_ (Keeps.foldl _ ?_ _ _)
    | with_reducible refine Keeps.trans ?_ (begin_keeps _)
    | (refine Keeps.of_kept ?_; simp; done)
    | (refine keepsBy_of_keptBy ?_; simp; done)
    | intro _
    | exact ⟨rfl, Nat.le_refl _, id, id⟩
    | with_reducible refine Keeps.same ?_
    | with_reducible refine Keeps.cleared ?_

theorem State.writeReg_keeps (s : State) (p off : Nat) (v : Word) : Keeps s (State.writeReg s p off v) := by
  unfold State.writeReg
  (try dsimp only)
  repeat' first
    | with_reducible exact Keeps.refl _
    | split
    | with_reducible refine Keeps.trans ?_ (Keeps.of_kept (State.accessFlag_kept _ _ _ _))
    | with_reducible refine Keeps.trans ?_ (State.writeMapped_keeps _ _ _ _)
    | with_reducible refine occurs_keeps _ _ _ ?_
    | with_reducible refine State.keepsBy_next ?_
    | with_reducible refine State.command_keeps _ _ _ _ _ ?_
    | with_reducible refine State.onTw0_keeps _ _ ?_
    | with_reducible refine Keeps.trans ?_ (State.reach_keeps _ _ _ _ ?_)
    | with_reducible refine Keeps.trans ?_ (State.each_keeps _ _ _ ?_)
    | with_reducible refine Keeps.trans ?_ (Keeps.foldl _ ?_ _ _)
    | with_reducible refine Keeps.trans ?_ (begin_keeps _)
    | (refine Keeps.of_kept ?_; simp; done)
    | (refine keepsBy_of_keptBy ?_; simp; done)
    | intro _
    | exact ⟨rfl, Nat.le_refl _, id, id⟩
    | with_reducible refine Keeps.same ?_
    | with_reducible refine Keeps.cleared ?_

theorem State.writeWord_keeps (s : State) (p off : Nat) (v : Word) (be : BitVec 4) : Keeps s (State.writeWord s p off v be) := by
  unfold State.writeWord
  (try dsimp only)
  repeat' first
    | with_reducible exact Keeps.refl _
    | split
    | with_reducible refine Keeps.trans ?_ (Keeps.of_kept (State.accessFlag_kept _ _ _ _))
    | with_reducible refine Keeps.trans ?_ (State.writeReg_keeps _ _ _ _)
    | with_reducible refine occurs_keeps _ _ _ ?_
    | with_reducible refine State.keepsBy_next ?_
    | with_reducible refine State.command_keeps _ _ _ _ _ ?_
    | with_reducible refine State.onTw0_keeps _ _ ?_
    | with_reducible refine Keeps.trans ?_ (State.reach_keeps _ _ _ _ ?_)
    | with_reducible refine Keeps.trans ?_ (State.each_keeps _ _ _ ?_)
    | with_reducible refine Keeps.trans ?_ (Keeps.foldl _ ?_ _ _)
    | with_reducible refine Keeps.trans ?_ (begin_keeps _)
    | (refine Keeps.of_kept ?_; simp; done)
    | (refine keepsBy_of_keptBy ?_; simp; done)
    | intro _
    | exact ⟨rfl, Nat.le_refl _, id, id⟩
    | with_reducible refine Keeps.same ?_
    | with_reducible refine Keeps.cleared ?_

theorem State.writePart_keeps (s : State) (k : Nat) (a : RegAccess) : Keeps s (State.writePart s k a) := by
  unfold State.writePart
  (try dsimp only)
  repeat' first
    | with_reducible exact Keeps.refl _
    | split
    | with_reducible refine Keeps.trans ?_ (Keeps.of_kept (State.accessFlag_kept _ _ _ _))
    | with_reducible refine Keeps.trans ?_ (State.writeWord_keeps _ _ _ _ _)
    | with_reducible refine occurs_keeps _ _ _ ?_
    | with_reducible refine State.keepsBy_next ?_
    | with_reducible refine State.command_keeps _ _ _ _ _ ?_
    | with_reducible refine State.onTw0_keeps _ _ ?_
    | with_reducible refine Keeps.trans ?_ (State.reach_keeps _ _ _ _ ?_)
    | with_reducible refine Keeps.trans ?_ (State.each_keeps _ _ _ ?_)
    | with_reducible refine Keeps.trans ?_ (Keeps.foldl _ ?_ _ _)
    | with_reducible refine Keeps.trans ?_ (begin_keeps _)
    | (refine Keeps.of_kept ?_; simp; done)
    | (refine keepsBy_of_keptBy ?_; simp; done)
    | intro _
    | exact ⟨rfl, Nat.le_refl _, id, id⟩
    | with_reducible refine Keeps.same ?_
    | with_reducible refine Keeps.cleared ?_

theorem execRegisterWrite_keeps (accesses : List RegAccess) (s : State) : s.keepsBy (execRegisterWrite accesses s) := by
  unfold execRegisterWrite
  (try dsimp only)
  repeat' first
    | with_reducible exact Keeps.refl _
    | split
    | with_reducible refine Keeps.trans ?_ (Keeps.of_kept (State.begin_kept _))
    | with_reducible refine Keeps.trans ?_ (State.writePart_keeps _ _ _)
    | with_reducible refine occurs_keeps _ _ _ ?_
    | with_reducible refine State.keepsBy_next ?_
    | with_reducible refine State.command_keeps _ _ _ _ _ ?_
    | with_reducible refine State.onTw0_keeps _ _ ?_
    | with_reducible refine Keeps.trans ?_ (State.reach_keeps _ _ _ _ ?_)
    | with_reducible refine Keeps.trans ?_ (State.each_keeps _ _ _ ?_)
    | with_reducible refine Keeps.trans ?_ (Keeps.foldl _ ?_ _ _)
    | with_reducible refine Keeps.trans ?_ (begin_keeps _)
    | (refine Keeps.of_kept ?_; simp; done)
    | (refine keepsBy_of_keptBy ?_; simp; done)
    | intro _
    | exact ⟨rfl, Nat.le_refl _, id, id⟩
    | with_reducible refine Keeps.same ?_
    | with_reducible refine Keeps.cleared ?_

theorem execBroadcastWrite_keeps (a : RegAccess) (s : State) : s.keepsBy (execBroadcastWrite a s) := by
  unfold execBroadcastWrite
  (try dsimp only)
  repeat' first
    | with_reducible exact Keeps.refl _
    | split
    | with_reducible refine Keeps.trans ?_ (State.writePart_keeps _ _ _)
    | with_reducible refine occurs_keeps _ _ _ ?_
    | with_reducible refine State.keepsBy_next ?_
    | with_reducible refine State.command_keeps _ _ _ _ _ ?_
    | with_reducible refine State.onTw0_keeps _ _ ?_
    | with_reducible refine Keeps.trans ?_ (State.reach_keeps _ _ _ _ ?_)
    | with_reducible refine Keeps.trans ?_ (State.each_keeps _ _ _ ?_)
    | with_reducible refine Keeps.trans ?_ (Keeps.foldl _ ?_ _ _)
    | with_reducible refine Keeps.trans ?_ (begin_keeps _)
    | (refine Keeps.of_kept ?_; simp; done)
    | (refine keepsBy_of_keptBy ?_; simp; done)
    | intro _
    | exact ⟨rfl, Nat.le_refl _, id, id⟩
    | with_reducible refine Keeps.same ?_
    | with_reducible refine Keeps.cleared ?_

end Sys2Proof.Machine
end

