-- ==== Sys2Proof/Laws/KeepsTwoWire.lean ====
section
/-!
SUPPORT. Sys2Proof/Laws/KeepsTwoWire.lean: the operations of Machine/TwoWire.lean that reach DRAM or the fuses keep what every command keeps.
-/

set_option Elab.async false
namespace Sys2Proof.Machine

theorem State.tw0Words_keeps (s : State) (ptr : Nat) (data : List Byte) : Keeps s (State.tw0Words s ptr data) := by
  unfold State.tw0Words
  (try dsimp only)
  repeat' first
    | with_reducible exact Keeps.refl _
    | split
    | with_reducible refine Keeps.trans ?_ (State.writeReg_keeps _ _ _ _)
    | with_reducible refine occurs_keeps _ _ _ ?_
    | with_reducible refine State.keepsBy_next ?_
    | with_reducible refine State.command_keeps _ _ _ _ _ ?_
    | with_reducible refine State.onTw0_keeps _ _ ?_
    | with_reducible refine Keeps.trans ?_ (State.reach_keeps _ _ _ _ ?_)
    | with_reducible refine Keeps.trans ?_ (State.each_keeps _ _ _ ?_)
    | with_reducible refine Keeps.trans ?_ (Keeps.foldl _ ?_ _ _)
    | with_reducible refine Keeps.trans ?_ (begin_keeps _)
    | (refine Keeps.of_kept ?_; simp; done)
    | (refine keepsBy_of_keptBy ?_; simp; done)
    | intro _
    | exact ⟨rfl, Nat.le_refl _, id, id⟩
    | with_reducible refine Keeps.same ?_
    | with_reducible refine Keeps.cleared ?_

theorem State.tw0Write_keeps (s : State) (bytes : List Byte) : Keeps s (State.tw0Write s bytes) := by
  unfold State.tw0Write
  (try dsimp only)
  repeat' first
    | with_reducible exact Keeps.refl _
    | split
    | with_reducible refine Keeps.trans ?_ (Keeps.of_kept (State.tw0Malformed_kept _))
    | with_reducible refine Keeps.trans ?_ (Keeps.of_kept (State.tw0PecErr_kept _))
    | with_reducible refine Keeps.trans ?_ (State.tw0Words_keeps _ _ _)
    | with_reducible refine occurs_keeps _ _ _ ?_
    | with_reducible refine State.keepsBy_next ?_
    | with_reducible refine State.command_keeps _ _ _ _ _ ?_
    | with_reducible refine State.onTw0_keeps _ _ ?_
    | with_reducible refine Keeps.trans ?_ (State.reach_keeps _ _ _ _ ?_)
    | with_reducible refine Keeps.trans ?_ (State.each_keeps _ _ _ ?_)
    | with_reducible refine Keeps.trans ?_ (Keeps.foldl _ ?_ _ _)
    | with_reducible refine Keeps.trans ?_ (begin_keeps _)
    | (refine Keeps.of_kept ?_; simp; done)
    | (refine keepsBy_of_keptBy ?_; simp; done)
    | intro _
    | exact ⟨rfl, Nat.le_refl _, id, id⟩
    | with_reducible refine Keeps.same ?_
    | with_reducible refine Keeps.cleared ?_

theorem execTw0RegWrite_keeps (bytes : List Byte) (s : State) : s.keepsBy (execTw0RegWrite bytes s) := by
  unfold execTw0RegWrite
  (try dsimp only)
  repeat' first
    | with_reducible exact Keeps.refl _
    | split
    | with_reducible refine Keeps.trans ?_ (State.tw0Write_keeps _ _)
    | with_reducible refine occurs_keeps _ _ _ ?_
    | with_reducible refine State.keepsBy_next ?_
    | with_reducible refine State.command_keeps _ _ _ _ _ ?_
    | with_reducible refine State.onTw0_keeps _ _ ?_
    | with_reducible refine Keeps.trans ?_ (State.reach_keeps _ _ _ _ ?_)
    | with_reducible refine Keeps.trans ?_ (State.each_keeps _ _ _ ?_)
    | with_reducible refine Keeps.trans ?_ (Keeps.foldl _ ?_ _ _)
    | with_reducible refine Keeps.trans ?_ (begin_keeps _)
    | (refine Keeps.of_kept ?_; simp; done)
    | (refine keepsBy_of_keptBy ?_; simp; done)
    | intro _
    | exact ⟨rfl, Nat.le_refl _, id, id⟩
    | with_reducible refine Keeps.same ?_
    | with_reducible refine Keeps.cleared ?_

end Sys2Proof.Machine
end

