-- ==== Sys2Proof/Laws/KeptKeyCmds.lean ====
section
/-!
SUPPORT. Sys2Proof/Laws/KeptKeyCmds.lean: which operations of Machine/KeyCmds.lean keep DRAM, the fuses and the queue.
-/

set_option Elab.async false
namespace Sys2Proof.Machine

@[simp] theorem State.slotCommand_kept (s : State) (fn : FnIx) (k : Nat) (v : Slot) (kept : Bool) : (State.slotCommand s fn k v kept).kept = s.kept := by
  unfold State.slotCommand
  (try simp) <;> (repeat' split) <;> simp_all

@[simp] theorem State.loadBlob_kept (s : State) (fn : FnIx) (b : KeyBlob) : (State.loadBlob s fn b).kept = s.kept := by
  unfold State.loadBlob
  (try simp) <;> (repeat' split) <;> simp_all

theorem execLoadKeyBlob_kept (fn : FnIx) (b : KeyBlob) (s : State) : s.keptBy (execLoadKeyBlob fn b s) := by
  unfold execLoadKeyBlob
  (try simp) <;> (repeat' split) <;> simp_all

@[simp] theorem State.eraseGeneral_kept (s : State) (fn : FnIx) (k : Nat) (urgent : Bool) : (State.eraseGeneral s fn k urgent).kept = s.kept := by
  unfold State.eraseGeneral
  (try simp) <;> (repeat' split) <;> simp_all

@[simp] theorem State.eraseSlotCommand_kept (s : State) (fn : FnIx) (k : Nat) (urgent regenerate : Bool) : (State.eraseSlotCommand s fn k urgent regenerate).kept = s.kept := by
  unfold State.eraseSlotCommand
  (try simp) <;> (repeat' split) <;> simp_all

theorem execEraseKeySlot_kept (fn : FnIx) (slot : Nat) (urgent regenerate : Bool) (s : State) : s.keptBy (execEraseKeySlot fn slot urgent regenerate s) := by
  unfold execEraseKeySlot
  (try simp) <;> (repeat' split) <;> simp_all

theorem execGetKeySlotStatus_kept (fn : FnIx) (slot : Nat) (s : State) : s.keptBy (execGetKeySlotStatus fn slot s) := by
  unfold execGetKeySlotStatus
  (try simp) <;> (repeat' split) <;> simp_all

theorem execRequestLearnCycle_kept (fn : FnIx) (s : State) : s.keptBy (execRequestLearnCycle fn s) := by
  unfold execRequestLearnCycle
  (try simp) <;> (repeat' split) <;> simp_all

theorem execGetLearnStatus_kept (fn : FnIx) (s : State) : s.keptBy (execGetLearnStatus fn s) := by
  unfold execGetLearnStatus
  (try simp) <;> (repeat' split) <;> simp_all

theorem execSetLdAllocations_kept (s : State) : s.keptBy (execSetLdAllocations s) := by
  unfold execSetLdAllocations
  (try simp) <;> (repeat' split) <;> simp_all

@[simp] theorem State.mctpControl_kept (s : State) (f : State → State) (h : ∀ x, (f x).kept = x.kept) :
    s.keptBy (s.mctpControl f) := occurs_kept _ _ _ h

@[simp] theorem State.mctpReply_kept (s : State) (code : RetCode) (payload : List Nat) : (State.mctpReply s code payload).kept = s.kept := by
  unfold State.mctpReply
  (try simp) <;> (repeat' split) <;> simp_all

theorem execSetEndpointId_kept (eid : Nat) (s : State) : s.keptBy (execSetEndpointId eid s) := by
  unfold execSetEndpointId
  (try simp) <;> (repeat' split) <;> simp_all

theorem execGetEndpointId_kept (s : State) : s.keptBy (execGetEndpointId s) := by
  unfold execGetEndpointId
  (try simp) <;> (repeat' split) <;> simp_all

theorem execGetMctpVersionSupport_kept (s : State) : s.keptBy (execGetMctpVersionSupport s) := by
  unfold execGetMctpVersionSupport
  (try simp) <;> (repeat' split) <;> simp_all

theorem execGetMessageTypeSupport_kept (s : State) : s.keptBy (execGetMessageTypeSupport s) := by
  unfold execGetMessageTypeSupport
  (try simp) <;> (repeat' split) <;> simp_all

end Sys2Proof.Machine
end

