-- ==== Sys2Proof/Laws/State.lean ====
section
/-!
SUPPORT. Sys2Proof/Laws/State.lean: what the updates of the state leave as it was: one lemma for each field and each update.
-/

set_option Elab.async false
namespace Sys2Proof.Machine

/-! ### modQuad -/

@[simp] theorem State.modQuad_regs (s : State) (q : Nat) (f : Quad → Quad) : (State.modQuad s q f).regs = s.regs := rfl
@[simp] theorem State.modQuad_tick (s : State) (q : Nat) (f : Quad → Quad) : (State.modQuad s q f).tick = s.tick := rfl
@[simp] theorem State.modQuad_plumb (s : State) (q : Nat) (f : Quad → Quad) : (State.modQuad s q f).plumb = s.plumb := rfl
@[simp] theorem State.modQuad_paths (s : State) (q : Nat) (f : Quad → Quad) : (State.modQuad s q f).paths = s.paths := rfl
@[simp] theorem State.modQuad_events (s : State) (q : Nat) (f : Quad → Quad) : (State.modQuad s q f).events = s.events := rfl
@[simp] theorem State.modQuad_cluster (s : State) (q : Nat) (f : Quad → Quad) : (State.modQuad s q f).cluster = s.cluster := rfl
@[simp] theorem State.modQuad_patches (s : State) (q : Nat) (f : Quad → Quad) : (State.modQuad s q f).patches = s.patches := rfl
@[simp] theorem State.modQuad_retired (s : State) (q : Nat) (f : Quad → Quad) : (State.modQuad s q f).retired = s.retired := rfl
@[simp] theorem State.modQuad_image (s : State) (q : Nat) (f : Quad → Quad) : (State.modQuad s q f).image = s.image := rfl
@[simp] theorem State.modQuad_scs (s : State) (q : Nat) (f : Quad → Quad) : (State.modQuad s q f).scs = s.scs := rfl
@[simp] theorem State.modQuad_dies (s : State) (q : Nat) (f : Quad → Quad) : (State.modQuad s q f).dies = s.dies := rfl
@[simp] theorem State.modQuad_heads (s : State) (q : Nat) (f : Quad → Quad) : (State.modQuad s q f).heads = s.heads := rfl
@[simp] theorem State.modQuad_lds (s : State) (q : Nat) (f : Quad → Quad) : (State.modQuad s q f).lds = s.lds := rfl
@[simp] theorem State.modQuad_fabric (s : State) (q : Nat) (f : Quad → Quad) : (State.modQuad s q f).fabric = s.fabric := rfl
@[simp] theorem State.modQuad_keys (s : State) (q : Nat) (f : Quad → Quad) : (State.modQuad s q f).keys = s.keys := rfl
@[simp] theorem State.modQuad_gauge (s : State) (q : Nat) (f : Quad → Quad) : (State.modQuad s q f).gauge = s.gauge := rfl
@[simp] theorem State.modQuad_rails (s : State) (q : Nat) (f : Quad → Quad) : (State.modQuad s q f).rails = s.rails := rfl
@[simp] theorem State.modQuad_seq (s : State) (q : Nat) (f : Quad → Quad) : (State.modQuad s q f).seq = s.seq := rfl
@[simp] theorem State.modQuad_pins (s : State) (q : Nat) (f : Quad → Quad) : (State.modQuad s q f).pins = s.pins := rfl
@[simp] theorem State.modQuad_group (s : State) (q : Nat) (f : Quad → Quad) : (State.modQuad s q f).group = s.group := rfl
@[simp] theorem State.modQuad_save (s : State) (q : Nat) (f : Quad → Quad) : (State.modQuad s q f).save = s.save := rfl
@[simp] theorem State.modQuad_tw0 (s : State) (q : Nat) (f : Quad → Quad) : (State.modQuad s q f).tw0 = s.tw0 := rfl
@[simp] theorem State.modQuad_tws (s : State) (q : Nat) (f : Quad → Quad) : (State.modQuad s q f).tws = s.tws := rfl
@[simp] theorem State.modQuad_cfg (s : State) (q : Nat) (f : Quad → Quad) : (State.modQuad s q f).cfg = s.cfg := rfl
@[simp] theorem State.modQuad_otp (s : State) (q : Nat) (f : Quad → Quad) : (State.modQuad s q f).otp = s.otp := rfl
@[simp] theorem State.modQuad_upd (s : State) (q : Nat) (f : Quad → Quad) : (State.modQuad s q f).upd = s.upd := rfl
@[simp] theorem State.modQuad_shake (s : State) (q : Nat) (f : Quad → Quad) : (State.modQuad s q f).shake = s.shake := rfl
@[simp] theorem State.modQuad_dram (s : State) (q : Nat) (f : Quad → Quad) : (State.modQuad s q f).dram = s.dram := rfl
@[simp] theorem State.modQuad_poison (s : State) (q : Nat) (f : Quad → Quad) : (State.modQuad s q f).poison = s.poison := rfl
@[simp] theorem State.modQuad_fresh (s : State) (q : Nat) (f : Quad → Quad) : (State.modQuad s q f).fresh = s.fresh := rfl
@[simp] theorem State.modQuad_out (s : State) (q : Nat) (f : Quad → Quad) : (State.modQuad s q f).out = s.out := rfl
@[simp] theorem State.modQuad_pending (s : State) (q : Nat) (f : Quad → Quad) : (State.modQuad s q f).pending = s.pending := rfl

/-! ### modSc -/

@[simp] theorem State.modSc_regs (s : State) (n : Nat) (f : Sc → Sc) : (State.modSc s n f).regs = s.regs := rfl
@[simp] theorem State.modSc_tick (s : State) (n : Nat) (f : Sc → Sc) : (State.modSc s n f).tick = s.tick := rfl
@[simp] theorem State.modSc_plumb (s : State) (n : Nat) (f : Sc → Sc) : (State.modSc s n f).plumb = s.plumb := rfl
@[simp] theorem State.modSc_paths (s : State) (n : Nat) (f : Sc → Sc) : (State.modSc s n f).paths = s.paths := rfl
@[simp] theorem State.modSc_events (s : State) (n : Nat) (f : Sc → Sc) : (State.modSc s n f).events = s.events := rfl
@[simp] theorem State.modSc_cluster (s : State) (n : Nat) (f : Sc → Sc) : (State.modSc s n f).cluster = s.cluster := rfl
@[simp] theorem State.modSc_patches (s : State) (n : Nat) (f : Sc → Sc) : (State.modSc s n f).patches = s.patches := rfl
@[simp] theorem State.modSc_retired (s : State) (n : Nat) (f : Sc → Sc) : (State.modSc s n f).retired = s.retired := rfl
@[simp] theorem State.modSc_image (s : State) (n : Nat) (f : Sc → Sc) : (State.modSc s n f).image = s.image := rfl
@[simp] theorem State.modSc_quads (s : State) (n : Nat) (f : Sc → Sc) : (State.modSc s n f).quads = s.quads := rfl
@[simp] theorem State.modSc_dies (s : State) (n : Nat) (f : Sc → Sc) : (State.modSc s n f).dies = s.dies := rfl
@[simp] theorem State.modSc_heads (s : State) (n : Nat) (f : Sc → Sc) : (State.modSc s n f).heads = s.heads := rfl
@[simp] theorem State.modSc_lds (s : State) (n : Nat) (f : Sc → Sc) : (State.modSc s n f).lds = s.lds := rfl
@[simp] theorem State.modSc_fabric (s : State) (n : Nat) (f : Sc → Sc) : (State.modSc s n f).fabric = s.fabric := rfl
@[simp] theorem State.modSc_keys (s : State) (n : Nat) (f : Sc → Sc) : (State.modSc s n f).keys = s.keys := rfl
@[simp] theorem State.modSc_gauge (s : State) (n : Nat) (f : Sc → Sc) : (State.modSc s n f).gauge = s.gauge := rfl
@[simp] theorem State.modSc_rails (s : State) (n : Nat) (f : Sc → Sc) : (State.modSc s n f).rails = s.rails := rfl
@[simp] theorem State.modSc_seq (s : State) (n : Nat) (f : Sc → Sc) : (State.modSc s n f).seq = s.seq := rfl
@[simp] theorem State.modSc_pins (s : State) (n : Nat) (f : Sc → Sc) : (State.modSc s n f).pins = s.pins := rfl
@[simp] theorem State.modSc_group (s : State) (n : Nat) (f : Sc → Sc) : (State.modSc s n f).group = s.group := rfl
@[simp] theorem State.modSc_save (s : State) (n : Nat) (f : Sc → Sc) : (State.modSc s n f).save = s.save := rfl
@[simp] theorem State.modSc_tw0 (s : State) (n : Nat) (f : Sc → Sc) : (State.modSc s n f).tw0 = s.tw0 := rfl
@[simp] theorem State.modSc_tws (s : State) (n : Nat) (f : Sc → Sc) : (State.modSc s n f).tws = s.tws := rfl
@[simp] theorem State.modSc_cfg (s : State) (n : Nat) (f : Sc → Sc) : (State.modSc s n f).cfg = s.cfg := rfl
@[simp] theorem State.modSc_otp (s : State) (n : Nat) (f : Sc → Sc) : (State.modSc s n f).otp = s.otp := rfl
@[simp] theorem State.modSc_upd (s : State) (n : Nat) (f : Sc → Sc) : (State.modSc s n f).upd = s.upd := rfl
@[simp] theorem State.modSc_shake (s : State) (n : Nat) (f : Sc → Sc) : (State.modSc s n f).shake = s.shake := rfl
@[simp] theorem State.modSc_dram (s : State) (n : Nat) (f : Sc → Sc) : (State.modSc s n f).dram = s.dram := rfl
@[simp] theorem State.modSc_poison (s : State) (n : Nat) (f : Sc → Sc) : (State.modSc s n f).poison = s.poison := rfl
@[simp] theorem State.modSc_fresh (s : State) (n : Nat) (f : Sc → Sc) : (State.modSc s n f).fresh = s.fresh := rfl
@[simp] theorem State.modSc_out (s : State) (n : Nat) (f : Sc → Sc) : (State.modSc s n f).out = s.out := rfl
@[simp] theorem State.modSc_pending (s : State) (n : Nat) (f : Sc → Sc) : (State.modSc s n f).pending = s.pending := rfl

/-! ### modDie -/

@[simp] theorem State.modDie_regs (s : State) (n : Nat) (f : Die → Die) : (State.modDie s n f).regs = s.regs := rfl
@[simp] theorem State.modDie_tick (s : State) (n : Nat) (f : Die → Die) : (State.modDie s n f).tick = s.tick := rfl
@[simp] theorem State.modDie_plumb (s : State) (n : Nat) (f : Die → Die) : (State.modDie s n f).plumb = s.plumb := rfl
@[simp] theorem State.modDie_paths (s : State) (n : Nat) (f : Die → Die) : (State.modDie s n f).paths = s.paths := rfl
@[simp] theorem State.modDie_events (s : State) (n : Nat) (f : Die → Die) : (State.modDie s n f).events = s.events := rfl
@[simp] theorem State.modDie_cluster (s : State) (n : Nat) (f : Die → Die) : (State.modDie s n f).cluster = s.cluster := rfl
@[simp] theorem State.modDie_patches (s : State) (n : Nat) (f : Die → Die) : (State.modDie s n f).patches = s.patches := rfl
@[simp] theorem State.modDie_retired (s : State) (n : Nat) (f : Die → Die) : (State.modDie s n f).retired = s.retired := rfl
@[simp] theorem State.modDie_image (s : State) (n : Nat) (f : Die → Die) : (State.modDie s n f).image = s.image := rfl
@[simp] theorem State.modDie_quads (s : State) (n : Nat) (f : Die → Die) : (State.modDie s n f).quads = s.quads := rfl
@[simp] theorem State.modDie_scs (s : State) (n : Nat) (f : Die → Die) : (State.modDie s n f).scs = s.scs := rfl
@[simp] theorem State.modDie_heads (s : State) (n : Nat) (f : Die → Die) : (State.modDie s n f).heads = s.heads := rfl
@[simp] theorem State.modDie_lds (s : State) (n : Nat) (f : Die → Die) : (State.modDie s n f).lds = s.lds := rfl
@[simp] theorem State.modDie_fabric (s : State) (n : Nat) (f : Die → Die) : (State.modDie s n f).fabric = s.fabric := rfl
@[simp] theorem State.modDie_keys (s : State) (n : Nat) (f : Die → Die) : (State.modDie s n f).keys = s.keys := rfl
@[simp] theorem State.modDie_gauge (s : State) (n : Nat) (f : Die → Die) : (State.modDie s n f).gauge = s.gauge := rfl
@[simp] theorem State.modDie_rails (s : State) (n : Nat) (f : Die → Die) : (State.modDie s n f).rails = s.rails := rfl
@[simp] theorem State.modDie_seq (s : State) (n : Nat) (f : Die → Die) : (State.modDie s n f).seq = s.seq := rfl
@[simp] theorem State.modDie_pins (s : State) (n : Nat) (f : Die → Die) : (State.modDie s n f).pins = s.pins := rfl
@[simp] theorem State.modDie_group (s : State) (n : Nat) (f : Die → Die) : (State.modDie s n f).group = s.group := rfl
@[simp] theorem State.modDie_save (s : State) (n : Nat) (f : Die → Die) : (State.modDie s n f).save = s.save := rfl
@[simp] theorem State.modDie_tw0 (s : State) (n : Nat) (f : Die → Die) : (State.modDie s n f).tw0 = s.tw0 := rfl
@[simp] theorem State.modDie_tws (s : State) (n : Nat) (f : Die → Die) : (State.modDie s n f).tws = s.tws := rfl
@[simp] theorem State.modDie_cfg (s : State) (n : Nat) (f : Die → Die) : (State.modDie s n f).cfg = s.cfg := rfl
@[simp] theorem State.modDie_otp (s : State) (n : Nat) (f : Die → Die) : (State.modDie s n f).otp = s.otp := rfl
@[simp] theorem State.modDie_upd (s : State) (n : Nat) (f : Die → Die) : (State.modDie s n f).upd = s.upd := rfl
@[simp] theorem State.modDie_shake (s : State) (n : Nat) (f : Die → Die) : (State.modDie s n f).shake = s.shake := rfl
@[simp] theorem State.modDie_dram (s : State) (n : Nat) (f : Die → Die) : (State.modDie s n f).dram = s.dram := rfl
@[simp] theorem State.modDie_poison (s : State) (n : Nat) (f : Die → Die) : (State.modDie s n f).poison = s.poison := rfl
@[simp] theorem State.modDie_fresh (s : State) (n : Nat) (f : Die → Die) : (State.modDie s n f).fresh = s.fresh := rfl
@[simp] theorem State.modDie_out (s : State) (n : Nat) (f : Die → Die) : (State.modDie s n f).out = s.out := rfl
@[simp] theorem State.modDie_pending (s : State) (n : Nat) (f : Die → Die) : (State.modDie s n f).pending = s.pending := rfl

/-! ### modHead -/

@[simp] theorem State.modHead_regs (s : State) (h : Nat) (f : Head → Head) : (State.modHead s h f).regs = s.regs := rfl
@[simp] theorem State.modHead_tick (s : State) (h : Nat) (f : Head → Head) : (State.modHead s h f).tick = s.tick := rfl
@[simp] theorem State.modHead_plumb (s : State) (h : Nat) (f : Head → Head) : (State.modHead s h f).plumb = s.plumb := rfl
@[simp] theorem State.modHead_paths (s : State) (h : Nat) (f : Head → Head) : (State.modHead s h f).paths = s.paths := rfl
@[simp] theorem State.modHead_events (s : State) (h : Nat) (f : Head → Head) : (State.modHead s h f).events = s.events := rfl
@[simp] theorem State.modHead_cluster (s : State) (h : Nat) (f : Head → Head) : (State.modHead s h f).cluster = s.cluster := rfl
@[simp] theorem State.modHead_patches (s : State) (h : Nat) (f : Head → Head) : (State.modHead s h f).patches = s.patches := rfl
@[simp] theorem State.modHead_retired (s : State) (h : Nat) (f : Head → Head) : (State.modHead s h f).retired = s.retired := rfl
@[simp] theorem State.modHead_image (s : State) (h : Nat) (f : Head → Head) : (State.modHead s h f).image = s.image := rfl
@[simp] theorem State.modHead_quads (s : State) (h : Nat) (f : Head → Head) : (State.modHead s h f).quads = s.quads := rfl
@[simp] theorem State.modHead_scs (s : State) (h : Nat) (f : Head → Head) : (State.modHead s h f).scs = s.scs := rfl
@[simp] theorem State.modHead_dies (s : State) (h : Nat) (f : Head → Head) : (State.modHead s h f).dies = s.dies := rfl
@[simp] theorem State.modHead_lds (s : State) (h : Nat) (f : Head → Head) : (State.modHead s h f).lds = s.lds := rfl
@[simp] theorem State.modHead_fabric (s : State) (h : Nat) (f : Head → Head) : (State.modHead s h f).fabric = s.fabric := rfl
@[simp] theorem State.modHead_keys (s : State) (h : Nat) (f : Head → Head) : (State.modHead s h f).keys = s.keys := rfl
@[simp] theorem State.modHead_gauge (s : State) (h : Nat) (f : Head → Head) : (State.modHead s h f).gauge = s.gauge := rfl
@[simp] theorem State.modHead_rails (s : State) (h : Nat) (f : Head → Head) : (State.modHead s h f).rails = s.rails := rfl
@[simp] theorem State.modHead_seq (s : State) (h : Nat) (f : Head → Head) : (State.modHead s h f).seq = s.seq := rfl
@[simp] theorem State.modHead_pins (s : State) (h : Nat) (f : Head → Head) : (State.modHead s h f).pins = s.pins := rfl
@[simp] theorem State.modHead_group (s : State) (h : Nat) (f : Head → Head) : (State.modHead s h f).group = s.group := rfl
@[simp] theorem State.modHead_save (s : State) (h : Nat) (f : Head → Head) : (State.modHead s h f).save = s.save := rfl
@[simp] theorem State.modHead_tw0 (s : State) (h : Nat) (f : Head → Head) : (State.modHead s h f).tw0 = s.tw0 := rfl
@[simp] theorem State.modHead_tws (s : State) (h : Nat) (f : Head → Head) : (State.modHead s h f).tws = s.tws := rfl
@[simp] theorem State.modHead_cfg (s : State) (h : Nat) (f : Head → Head) : (State.modHead s h f).cfg = s.cfg := rfl
@[simp] theorem State.modHead_otp (s : State) (h : Nat) (f : Head → Head) : (State.modHead s h f).otp = s.otp := rfl
@[simp] theorem State.modHead_upd (s : State) (h : Nat) (f : Head → Head) : (State.modHead s h f).upd = s.upd := rfl
@[simp] theorem State.modHead_shake (s : State) (h : Nat) (f : Head → Head) : (State.modHead s h f).shake = s.shake := rfl
@[simp] theorem State.modHead_dram (s : State) (h : Nat) (f : Head → Head) : (State.modHead s h f).dram = s.dram := rfl
@[simp] theorem State.modHead_poison (s : State) (h : Nat) (f : Head → Head) : (State.modHead s h f).poison = s.poison := rfl
@[simp] theorem State.modHead_fresh (s : State) (h : Nat) (f : Head → Head) : (State.modHead s h f).fresh = s.fresh := rfl
@[simp] theorem State.modHead_out (s : State) (h : Nat) (f : Head → Head) : (State.modHead s h f).out = s.out := rfl
@[simp] theorem State.modHead_pending (s : State) (h : Nat) (f : Head → Head) : (State.modHead s h f).pending = s.pending := rfl

/-! ### modLd -/

@[simp] theorem State.modLd_regs (s : State) (k : Nat) (f : Ld → Ld) : (State.modLd s k f).regs = s.regs := rfl
@[simp] theorem State.modLd_tick (s : State) (k : Nat) (f : Ld → Ld) : (State.modLd s k f).tick = s.tick := rfl
@[simp] theorem State.modLd_plumb (s : State) (k : Nat) (f : Ld → Ld) : (State.modLd s k f).plumb = s.plumb := rfl
@[simp] theorem State.modLd_paths (s : State) (k : Nat) (f : Ld → Ld) : (State.modLd s k f).paths = s.paths := rfl
@[simp] theorem State.modLd_events (s : State) (k : Nat) (f : Ld → Ld) : (State.modLd s k f).events = s.events := rfl
@[simp] theorem State.modLd_cluster (s : State) (k : Nat) (f : Ld → Ld) : (State.modLd s k f).cluster = s.cluster := rfl
@[simp] theorem State.modLd_patches (s : State) (k : Nat) (f : Ld → Ld) : (State.modLd s k f).patches = s.patches := rfl
@[simp] theorem State.modLd_retired (s : State) (k : Nat) (f : Ld → Ld) : (State.modLd s k f).retired = s.retired := rfl
@[simp] theorem State.modLd_image (s : State) (k : Nat) (f : Ld → Ld) : (State.modLd s k f).image = s.image := rfl
@[simp] theorem State.modLd_quads (s : State) (k : Nat) (f : Ld → Ld) : (State.modLd s k f).quads = s.quads := rfl
@[simp] theorem State.modLd_scs (s : State) (k : Nat) (f : Ld → Ld) : (State.modLd s k f).scs = s.scs := rfl
@[simp] theorem State.modLd_dies (s : State) (k : Nat) (f : Ld → Ld) : (State.modLd s k f).dies = s.dies := rfl
@[simp] theorem State.modLd_heads (s : State) (k : Nat) (f : Ld → Ld) : (State.modLd s k f).heads = s.heads := rfl
@[simp] theorem State.modLd_fabric (s : State) (k : Nat) (f : Ld → Ld) : (State.modLd s k f).fabric = s.fabric := rfl
@[simp] theorem State.modLd_keys (s : State) (k : Nat) (f : Ld → Ld) : (State.modLd s k f).keys = s.keys := rfl
@[simp] theorem State.modLd_gauge (s : State) (k : Nat) (f : Ld → Ld) : (State.modLd s k f).gauge = s.gauge := rfl
@[simp] theorem State.modLd_rails (s : State) (k : Nat) (f : Ld → Ld) : (State.modLd s k f).rails = s.rails := rfl
@[simp] theorem State.modLd_seq (s : State) (k : Nat) (f : Ld → Ld) : (State.modLd s k f).seq = s.seq := rfl
@[simp] theorem State.modLd_pins (s : State) (k : Nat) (f : Ld → Ld) : (State.modLd s k f).pins = s.pins := rfl
@[simp] theorem State.modLd_group (s : State) (k : Nat) (f : Ld → Ld) : (State.modLd s k f).group = s.group := rfl
@[simp] theorem State.modLd_save (s : State) (k : Nat) (f : Ld → Ld) : (State.modLd s k f).save = s.save := rfl
@[simp] theorem State.modLd_tw0 (s : State) (k : Nat) (f : Ld → Ld) : (State.modLd s k f).tw0 = s.tw0 := rfl
@[simp] theorem State.modLd_tws (s : State) (k : Nat) (f : Ld → Ld) : (State.modLd s k f).tws = s.tws := rfl
@[simp] theorem State.modLd_cfg (s : State) (k : Nat) (f : Ld → Ld) : (State.modLd s k f).cfg = s.cfg := rfl
@[simp] theorem State.modLd_otp (s : State) (k : Nat) (f : Ld → Ld) : (State.modLd s k f).otp = s.otp := rfl
@[simp] theorem State.modLd_upd (s : State) (k : Nat) (f : Ld → Ld) : (State.modLd s k f).upd = s.upd := rfl
@[simp] theorem State.modLd_shake (s : State) (k : Nat) (f : Ld → Ld) : (State.modLd s k f).shake = s.shake := rfl
@[simp] theorem State.modLd_dram (s : State) (k : Nat) (f : Ld → Ld) : (State.modLd s k f).dram = s.dram := rfl
@[simp] theorem State.modLd_poison (s : State) (k : Nat) (f : Ld → Ld) : (State.modLd s k f).poison = s.poison := rfl
@[simp] theorem State.modLd_fresh (s : State) (k : Nat) (f : Ld → Ld) : (State.modLd s k f).fresh = s.fresh := rfl
@[simp] theorem State.modLd_out (s : State) (k : Nat) (f : Ld → Ld) : (State.modLd s k f).out = s.out := rfl
@[simp] theorem State.modLd_pending (s : State) (k : Nat) (f : Ld → Ld) : (State.modLd s k f).pending = s.pending := rfl

/-! ### modRail -/

@[simp] theorem State.modRail_regs (s : State) (k : Nat) (f : Rail → Rail) : (State.modRail s k f).regs = s.regs := rfl
@[simp] theorem State.modRail_tick (s : State) (k : Nat) (f : Rail → Rail) : (State.modRail s k f).tick = s.tick := rfl
@[simp] theorem State.modRail_plumb (s : State) (k : Nat) (f : Rail → Rail) : (State.modRail s k f).plumb = s.plumb := rfl
@[simp] theorem State.modRail_paths (s : State) (k : Nat) (f : Rail → Rail) : (State.modRail s k f).paths = s.paths := rfl
@[simp] theorem State.modRail_events (s : State) (k : Nat) (f : Rail → Rail) : (State.modRail s k f).events = s.events := rfl
@[simp] theorem State.modRail_cluster (s : State) (k : Nat) (f : Rail → Rail) : (State.modRail s k f).cluster = s.cluster := rfl
@[simp] theorem State.modRail_patches (s : State) (k : Nat) (f : Rail → Rail) : (State.modRail s k f).patches = s.patches := rfl
@[simp] theorem State.modRail_retired (s : State) (k : Nat) (f : Rail → Rail) : (State.modRail s k f).retired = s.retired := rfl
@[simp] theorem State.modRail_image (s : State) (k : Nat) (f : Rail → Rail) : (State.modRail s k f).image = s.image := rfl
@[simp] theorem State.modRail_quads (s : State) (k : Nat) (f : Rail → Rail) : (State.modRail s k f).quads = s.quads := rfl
@[simp] theorem State.modRail_scs (s : State) (k : Nat) (f : Rail → Rail) : (State.modRail s k f).scs = s.scs := rfl
@[simp] theorem State.modRail_dies (s : State) (k : Nat) (f : Rail → Rail) : (State.modRail s k f).dies = s.dies := rfl
@[simp] theorem State.modRail_heads (s : State) (k : Nat) (f : Rail → Rail) : (State.modRail s k f).heads = s.heads := rfl
@[simp] theorem State.modRail_lds (s : State) (k : Nat) (f : Rail → Rail) : (State.modRail s k f).lds = s.lds := rfl
@[simp] theorem State.modRail_fabric (s : State) (k : Nat) (f : Rail → Rail) : (State.modRail s k f).fabric = s.fabric := rfl
@[simp] theorem State.modRail_keys (s : State) (k : Nat) (f : Rail → Rail) : (State.modRail s k f).keys = s.keys := rfl
@[simp] theorem State.modRail_gauge (s : State) (k : Nat) (f : Rail → Rail) : (State.modRail s k f).gauge = s.gauge := rfl
@[simp] theorem State.modRail_seq (s : State) (k : Nat) (f : Rail → Rail) : (State.modRail s k f).seq = s.seq := rfl
@[simp] theorem State.modRail_pins (s : State) (k : Nat) (f : Rail → Rail) : (State.modRail s k f).pins = s.pins := rfl
@[simp] theorem State.modRail_group (s : State) (k : Nat) (f : Rail → Rail) : (State.modRail s k f).group = s.group := rfl
@[simp] theorem State.modRail_save (s : State) (k : Nat) (f : Rail → Rail) : (State.modRail s k f).save = s.save := rfl
@[simp] theorem State.modRail_tw0 (s : State) (k : Nat) (f : Rail → Rail) : (State.modRail s k f).tw0 = s.tw0 := rfl
@[simp] theorem State.modRail_tws (s : State) (k : Nat) (f : Rail → Rail) : (State.modRail s k f).tws = s.tws := rfl
@[simp] theorem State.modRail_cfg (s : State) (k : Nat) (f : Rail → Rail) : (State.modRail s k f).cfg = s.cfg := rfl
@[simp] theorem State.modRail_otp (s : State) (k : Nat) (f : Rail → Rail) : (State.modRail s k f).otp = s.otp := rfl
@[simp] theorem State.modRail_upd (s : State) (k : Nat) (f : Rail → Rail) : (State.modRail s k f).upd = s.upd := rfl
@[simp] theorem State.modRail_shake (s : State) (k : Nat) (f : Rail → Rail) : (State.modRail s k f).shake = s.shake := rfl
@[simp] theorem State.modRail_dram (s : State) (k : Nat) (f : Rail → Rail) : (State.modRail s k f).dram = s.dram := rfl
@[simp] theorem State.modRail_poison (s : State) (k : Nat) (f : Rail → Rail) : (State.modRail s k f).poison = s.poison := rfl
@[simp] theorem State.modRail_fresh (s : State) (k : Nat) (f : Rail → Rail) : (State.modRail s k f).fresh = s.fresh := rfl
@[simp] theorem State.modRail_out (s : State) (k : Nat) (f : Rail → Rail) : (State.modRail s k f).out = s.out := rfl
@[simp] theorem State.modRail_pending (s : State) (k : Nat) (f : Rail → Rail) : (State.modRail s k f).pending = s.pending := rfl

/-! ### modTw -/

@[simp] theorem State.modTw_regs (s : State) (k : Nat) (f : Tw → Tw) : (State.modTw s k f).regs = s.regs := rfl
@[simp] theorem State.modTw_tick (s : State) (k : Nat) (f : Tw → Tw) : (State.modTw s k f).tick = s.tick := rfl
@[simp] theorem State.modTw_plumb (s : State) (k : Nat) (f : Tw → Tw) : (State.modTw s k f).plumb = s.plumb := rfl
@[simp] theorem State.modTw_paths (s : State) (k : Nat) (f : Tw → Tw) : (State.modTw s k f).paths = s.paths := rfl
@[simp] theorem State.modTw_events (s : State) (k : Nat) (f : Tw → Tw) : (State.modTw s k f).events = s.events := rfl
@[simp] theorem State.modTw_cluster (s : State) (k : Nat) (f : Tw → Tw) : (State.modTw s k f).cluster = s.cluster := rfl
@[simp] theorem State.modTw_patches (s : State) (k : Nat) (f : Tw → Tw) : (State.modTw s k f).patches = s.patches := rfl
@[simp] theorem State.modTw_retired (s : State) (k : Nat) (f : Tw → Tw) : (State.modTw s k f).retired = s.retired := rfl
@[simp] theorem State.modTw_image (s : State) (k : Nat) (f : Tw → Tw) : (State.modTw s k f).image = s.image := rfl
@[simp] theorem State.modTw_quads (s : State) (k : Nat) (f : Tw → Tw) : (State.modTw s k f).quads = s.quads := rfl
@[simp] theorem State.modTw_scs (s : State) (k : Nat) (f : Tw → Tw) : (State.modTw s k f).scs = s.scs := rfl
@[simp] theorem State.modTw_dies (s : State) (k : Nat) (f : Tw → Tw) : (State.modTw s k f).dies = s.dies := rfl
@[simp] theorem State.modTw_heads (s : State) (k : Nat) (f : Tw → Tw) : (State.modTw s k f).heads = s.heads := rfl
@[simp] theorem State.modTw_lds (s : State) (k : Nat) (f : Tw → Tw) : (State.modTw s k f).lds = s.lds := rfl
@[simp] theorem State.modTw_fabric (s : State) (k : Nat) (f : Tw → Tw) : (State.modTw s k f).fabric = s.fabric := rfl
@[simp] theorem State.modTw_keys (s : State) (k : Nat) (f : Tw → Tw) : (State.modTw s k f).keys = s.keys := rfl
@[simp] theorem State.modTw_gauge (s : State) (k : Nat) (f : Tw → Tw) : (State.modTw s k f).gauge = s.gauge := rfl
@[simp] theorem State.modTw_rails (s : State) (k : Nat) (f : Tw → Tw) : (State.modTw s k f).rails = s.rails := rfl
@[simp] theorem State.modTw_seq (s : State) (k : Nat) (f : Tw → Tw) : (State.modTw s k f).seq = s.seq := rfl
@[simp] theorem State.modTw_pins (s : State) (k : Nat) (f : Tw → Tw) : (State.modTw s k f).pins = s.pins := rfl
@[simp] theorem State.modTw_group (s : State) (k : Nat) (f : Tw → Tw) : (State.modTw s k f).group = s.group := rfl
@[simp] theorem State.modTw_save (s : State) (k : Nat) (f : Tw → Tw) : (State.modTw s k f).save = s.save := rfl
@[simp] theorem State.modTw_tw0 (s : State) (k : Nat) (f : Tw → Tw) : (State.modTw s k f).tw0 = s.tw0 := rfl
@[simp] theorem State.modTw_cfg (s : State) (k : Nat) (f : Tw → Tw) : (State.modTw s k f).cfg = s.cfg := rfl
@[simp] theorem State.modTw_otp (s : State) (k : Nat) (f : Tw → Tw) : (State.modTw s k f).otp = s.otp := rfl
@[simp] theorem State.modTw_upd (s : State) (k : Nat) (f : Tw → Tw) : (State.modTw s k f).upd = s.upd := rfl
@[simp] theorem State.modTw_shake (s : State) (k : Nat) (f : Tw → Tw) : (State.modTw s k f).shake = s.shake := rfl
@[simp] theorem State.modTw_dram (s : State) (k : Nat) (f : Tw → Tw) : (State.modTw s k f).dram = s.dram := rfl
@[simp] theorem State.modTw_poison (s : State) (k : Nat) (f : Tw → Tw) : (State.modTw s k f).poison = s.poison := rfl
@[simp] theorem State.modTw_fresh (s : State) (k : Nat) (f : Tw → Tw) : (State.modTw s k f).fresh = s.fresh := rfl
@[simp] theorem State.modTw_out (s : State) (k : Nat) (f : Tw → Tw) : (State.modTw s k f).out = s.out := rfl
@[simp] theorem State.modTw_pending (s : State) (k : Nat) (f : Tw → Tw) : (State.modTw s k f).pending = s.pending := rfl

/-! ### modPath -/

@[simp] theorem State.modPath_regs (s : State) (p : Nat) (f : PathState → PathState) : (State.modPath s p f).regs = s.regs := rfl
@[simp] theorem State.modPath_tick (s : State) (p : Nat) (f : PathState → PathState) : (State.modPath s p f).tick = s.tick := rfl
@[simp] theorem State.modPath_plumb (s : State) (p : Nat) (f : PathState → PathState) : (State.modPath s p f).plumb = s.plumb := rfl
@[simp] theorem State.modPath_events (s : State) (p : Nat) (f : PathState → PathState) : (State.modPath s p f).events = s.events := rfl
@[simp] theorem State.modPath_cluster (s : State) (p : Nat) (f : PathState → PathState) : (State.modPath s p f).cluster = s.cluster := rfl
@[simp] theorem State.modPath_patches (s : State) (p : Nat) (f : PathState → PathState) : (State.modPath s p f).patches = s.patches := rfl
@[simp] theorem State.modPath_retired (s : State) (p : Nat) (f : PathState → PathState) : (State.modPath s p f).retired = s.retired := rfl
@[simp] theorem State.modPath_image (s : State) (p : Nat) (f : PathState → PathState) : (State.modPath s p f).image = s.image := rfl
@[simp] theorem State.modPath_quads (s : State) (p : Nat) (f : PathState → PathState) : (State.modPath s p f).quads = s.quads := rfl
@[simp] theorem State.modPath_scs (s : State) (p : Nat) (f : PathState → PathState) : (State.modPath s p f).scs = s.scs := rfl
@[simp] theorem State.modPath_dies (s : State) (p : Nat) (f : PathState → PathState) : (State.modPath s p f).dies = s.dies := rfl
@[simp] theorem State.modPath_heads (s : State) (p : Nat) (f : PathState → PathState) : (State.modPath s p f).heads = s.heads := rfl
@[simp] theorem State.modPath_lds (s : State) (p : Nat) (f : PathState → PathState) : (State.modPath s p f).lds = s.lds := rfl
@[simp] theorem State.modPath_fabric (s : State) (p : Nat) (f : PathState → PathState) : (State.modPath s p f).fabric = s.fabric := rfl
@[simp] theorem State.modPath_keys (s : State) (p : Nat) (f : PathState → PathState) : (State.modPath s p f).keys = s.keys := rfl
@[simp] theorem State.modPath_gauge (s : State) (p : Nat) (f : PathState → PathState) : (State.modPath s p f).gauge = s.gauge := rfl
@[simp] theorem State.modPath_rails (s : State) (p : Nat) (f : PathState → PathState) : (State.modPath s p f).rails = s.rails := rfl
@[simp] theorem State.modPath_seq (s : State) (p : Nat) (f : PathState → PathState) : (State.modPath s p f).seq = s.seq := rfl
@[simp] theorem State.modPath_pins (s : State) (p : Nat) (f : PathState → PathState) : (State.modPath s p f).pins = s.pins := rfl
@[simp] theorem State.modPath_group (s : State) (p : Nat) (f : PathState → PathState) : (State.modPath s p f).group = s.group := rfl
@[simp] theorem State.modPath_save (s : State) (p : Nat) (f : PathState → PathState) : (State.modPath s p f).save = s.save := rfl
@[simp] theorem State.modPath_tw0 (s : State) (p : Nat) (f : PathState → PathState) : (State.modPath s p f).tw0 = s.tw0 := rfl
@[simp] theorem State.modPath_tws (s : State) (p : Nat) (f : PathState → PathState) : (State.modPath s p f).tws = s.tws := rfl
@[simp] theorem State.modPath_cfg (s : State) (p : Nat) (f : PathState → PathState) : (State.modPath s p f).cfg = s.cfg := rfl
@[simp] theorem State.modPath_otp (s : State) (p : Nat) (f : PathState → PathState) : (State.modPath s p f).otp = s.otp := rfl
@[simp] theorem State.modPath_upd (s : State) (p : Nat) (f : PathState → PathState) : (State.modPath s p f).upd = s.upd := rfl
@[simp] theorem State.modPath_shake (s : State) (p : Nat) (f : PathState → PathState) : (State.modPath s p f).shake = s.shake := rfl
@[simp] theorem State.modPath_dram (s : State) (p : Nat) (f : PathState → PathState) : (State.modPath s p f).dram = s.dram := rfl
@[simp] theorem State.modPath_poison (s : State) (p : Nat) (f : PathState → PathState) : (State.modPath s p f).poison = s.poison := rfl
@[simp] theorem State.modPath_fresh (s : State) (p : Nat) (f : PathState → PathState) : (State.modPath s p f).fresh = s.fresh := rfl
@[simp] theorem State.modPath_out (s : State) (p : Nat) (f : PathState → PathState) : (State.modPath s p f).out = s.out := rfl
@[simp] theorem State.modPath_pending (s : State) (p : Nat) (f : PathState → PathState) : (State.modPath s p f).pending = s.pending := rfl

/-! ### modSlot -/

@[simp] theorem State.modSlot_regs (s : State) (k : Nat) (f : Slot → Slot) : (State.modSlot s k f).regs = s.regs := rfl
@[simp] theorem State.modSlot_tick (s : State) (k : Nat) (f : Slot → Slot) : (State.modSlot s k f).tick = s.tick := rfl
@[simp] theorem State.modSlot_plumb (s : State) (k : Nat) (f : Slot → Slot) : (State.modSlot s k f).plumb = s.plumb := rfl
@[simp] theorem State.modSlot_paths (s : State) (k : Nat) (f : Slot → Slot) : (State.modSlot s k f).paths = s.paths := rfl
@[simp] theorem State.modSlot_events (s : State) (k : Nat) (f : Slot → Slot) : (State.modSlot s k f).events = s.events := rfl
@[simp] theorem State.modSlot_cluster (s : State) (k : Nat) (f : Slot → Slot) : (State.modSlot s k f).cluster = s.cluster := rfl
@[simp] theorem State.modSlot_patches (s : State) (k : Nat) (f : Slot → Slot) : (State.modSlot s k f).patches = s.patches := rfl
@[simp] theorem State.modSlot_retired (s : State) (k : Nat) (f : Slot → Slot) : (State.modSlot s k f).retired = s.retired := rfl
@[simp] theorem State.modSlot_image (s : State) (k : Nat) (f : Slot → Slot) : (State.modSlot s k f).image = s.image := rfl
@[simp] theorem State.modSlot_quads (s : State) (k : Nat) (f : Slot → Slot) : (State.modSlot s k f).quads = s.quads := rfl
@[simp] theorem State.modSlot_scs (s : State) (k : Nat) (f : Slot → Slot) : (State.modSlot s k f).scs = s.scs := rfl
@[simp] theorem State.modSlot_dies (s : State) (k : Nat) (f : Slot → Slot) : (State.modSlot s k f).dies = s.dies := rfl
@[simp] theorem State.modSlot_heads (s : State) (k : Nat) (f : Slot → Slot) : (State.modSlot s k f).heads = s.heads := rfl
@[simp] theorem State.modSlot_lds (s : State) (k : Nat) (f : Slot → Slot) : (State.modSlot s k f).lds = s.lds := rfl
@[simp] theorem State.modSlot_fabric (s : State) (k : Nat) (f : Slot → Slot) : (State.modSlot s k f).fabric = s.fabric := rfl
@[simp] theorem State.modSlot_gauge (s : State) (k : Nat) (f : Slot → Slot) : (State.modSlot s k f).gauge = s.gauge := rfl
@[simp] theorem State.modSlot_rails (s : State) (k : Nat) (f : Slot → Slot) : (State.modSlot s k f).rails = s.rails := rfl
@[simp] theorem State.modSlot_seq (s : State) (k : Nat) (f : Slot → Slot) : (State.modSlot s k f).seq = s.seq := rfl
@[simp] theorem State.modSlot_pins (s : State) (k : Nat) (f : Slot → Slot) : (State.modSlot s k f).pins = s.pins := rfl
@[simp] theorem State.modSlot_group (s : State) (k : Nat) (f : Slot → Slot) : (State.modSlot s k f).group = s.group := rfl
@[simp] theorem State.modSlot_save (s : State) (k : Nat) (f : Slot → Slot) : (State.modSlot s k f).save = s.save := rfl
@[simp] theorem State.modSlot_tw0 (s : State) (k : Nat) (f : Slot → Slot) : (State.modSlot s k f).tw0 = s.tw0 := rfl
@[simp] theorem State.modSlot_tws (s : State) (k : Nat) (f : Slot → Slot) : (State.modSlot s k f).tws = s.tws := rfl
@[simp] theorem State.modSlot_cfg (s : State) (k : Nat) (f : Slot → Slot) : (State.modSlot s k f).cfg = s.cfg := rfl
@[simp] theorem State.modSlot_otp (s : State) (k : Nat) (f : Slot → Slot) : (State.modSlot s k f).otp = s.otp := rfl
@[simp] theorem State.modSlot_upd (s : State) (k : Nat) (f : Slot → Slot) : (State.modSlot s k f).upd = s.upd := rfl
@[simp] theorem State.modSlot_shake (s : State) (k : Nat) (f : Slot → Slot) : (State.modSlot s k f).shake = s.shake := rfl
@[simp] theorem State.modSlot_dram (s : State) (k : Nat) (f : Slot → Slot) : (State.modSlot s k f).dram = s.dram := rfl
@[simp] theorem State.modSlot_poison (s : State) (k : Nat) (f : Slot → Slot) : (State.modSlot s k f).poison = s.poison := rfl
@[simp] theorem State.modSlot_fresh (s : State) (k : Nat) (f : Slot → Slot) : (State.modSlot s k f).fresh = s.fresh := rfl
@[simp] theorem State.modSlot_out (s : State) (k : Nat) (f : Slot → Slot) : (State.modSlot s k f).out = s.out := rfl
@[simp] theorem State.modSlot_pending (s : State) (k : Nat) (f : Slot → Slot) : (State.modSlot s k f).pending = s.pending := rfl

/-! ### modImage -/

@[simp] theorem State.modImage_regs (s : State) (f : Image → Image) : (State.modImage s f).regs = s.regs := rfl
@[simp] theorem State.modImage_tick (s : State) (f : Image → Image) : (State.modImage s f).tick = s.tick := rfl
@[simp] theorem State.modImage_plumb (s : State) (f : Image → Image) : (State.modImage s f).plumb = s.plumb := rfl
@[simp] theorem State.modImage_paths (s : State) (f : Image → Image) : (State.modImage s f).paths = s.paths := rfl
@[simp] theorem State.modImage_events (s : State) (f : Image → Image) : (State.modImage s f).events = s.events := rfl
@[simp] theorem State.modImage_cluster (s : State) (f : Image → Image) : (State.modImage s f).cluster = s.cluster := rfl
@[simp] theorem State.modImage_patches (s : State) (f : Image → Image) : (State.modImage s f).patches = s.patches := rfl
@[simp] theorem State.modImage_retired (s : State) (f : Image → Image) : (State.modImage s f).retired = s.retired := rfl
@[simp] theorem State.modImage_quads (s : State) (f : Image → Image) : (State.modImage s f).quads = s.quads := rfl
@[simp] theorem State.modImage_scs (s : State) (f : Image → Image) : (State.modImage s f).scs = s.scs := rfl
@[simp] theorem State.modImage_dies (s : State) (f : Image → Image) : (State.modImage s f).dies = s.dies := rfl
@[simp] theorem State.modImage_heads (s : State) (f : Image → Image) : (State.modImage s f).heads = s.heads := rfl
@[simp] theorem State.modImage_lds (s : State) (f : Image → Image) : (State.modImage s f).lds = s.lds := rfl
@[simp] theorem State.modImage_fabric (s : State) (f : Image → Image) : (State.modImage s f).fabric = s.fabric := rfl
@[simp] theorem State.modImage_keys (s : State) (f : Image → Image) : (State.modImage s f).keys = s.keys := rfl
@[simp] theorem State.modImage_gauge (s : State) (f : Image → Image) : (State.modImage s f).gauge = s.gauge := rfl
@[simp] theorem State.modImage_rails (s : State) (f : Image → Image) : (State.modImage s f).rails = s.rails := rfl
@[simp] theorem State.modImage_seq (s : State) (f : Image → Image) : (State.modImage s f).seq = s.seq := rfl
@[simp] theorem State.modImage_pins (s : State) (f : Image → Image) : (State.modImage s f).pins = s.pins := rfl
@[simp] theorem State.modImage_group (s : State) (f : Image → Image) : (State.modImage s f).group = s.group := rfl
@[simp] theorem State.modImage_save (s : State) (f : Image → Image) : (State.modImage s f).save = s.save := rfl
@[simp] theorem State.modImage_tw0 (s : State) (f : Image → Image) : (State.modImage s f).tw0 = s.tw0 := rfl
@[simp] theorem State.modImage_tws (s : State) (f : Image → Image) : (State.modImage s f).tws = s.tws := rfl
@[simp] theorem State.modImage_cfg (s : State) (f : Image → Image) : (State.modImage s f).cfg = s.cfg := rfl
@[simp] theorem State.modImage_otp (s : State) (f : Image → Image) : (State.modImage s f).otp = s.otp := rfl
@[simp] theorem State.modImage_upd (s : State) (f : Image → Image) : (State.modImage s f).upd = s.upd := rfl
@[simp] theorem State.modImage_shake (s : State) (f : Image → Image) : (State.modImage s f).shake = s.shake := rfl
@[simp] theorem State.modImage_dram (s : State) (f : Image → Image) : (State.modImage s f).dram = s.dram := rfl
@[simp] theorem State.modImage_poison (s : State) (f : Image → Image) : (State.modImage s f).poison = s.poison := rfl
@[simp] theorem State.modImage_fresh (s : State) (f : Image → Image) : (State.modImage s f).fresh = s.fresh := rfl
@[simp] theorem State.modImage_out (s : State) (f : Image → Image) : (State.modImage s f).out = s.out := rfl
@[simp] theorem State.modImage_pending (s : State) (f : Image → Image) : (State.modImage s f).pending = s.pending := rfl

/-! ### modGauge -/

@[simp] theorem State.modGauge_regs (s : State) (f : Gauge → Gauge) : (State.modGauge s f).regs = s.regs := rfl
@[simp] theorem State.modGauge_tick (s : State) (f : Gauge → Gauge) : (State.modGauge s f).tick = s.tick := rfl
@[simp] theorem State.modGauge_plumb (s : State) (f : Gauge → Gauge) : (State.modGauge s f).plumb = s.plumb := rfl
@[simp] theorem State.modGauge_paths (s : State) (f : Gauge → Gauge) : (State.modGauge s f).paths = s.paths := rfl
@[simp] theorem State.modGauge_events (s : State) (f : Gauge → Gauge) : (State.modGauge s f).events = s.events := rfl
@[simp] theorem State.modGauge_cluster (s : State) (f : Gauge → Gauge) : (State.modGauge s f).cluster = s.cluster := rfl
@[simp] theorem State.modGauge_patches (s : State) (f : Gauge → Gauge) : (State.modGauge s f).patches = s.patches := rfl
@[simp] theorem State.modGauge_retired (s : State) (f : Gauge → Gauge) : (State.modGauge s f).retired = s.retired := rfl
@[simp] theorem State.modGauge_image (s : State) (f : Gauge → Gauge) : (State.modGauge s f).image = s.image := rfl
@[simp] theorem State.modGauge_quads (s : State) (f : Gauge → Gauge) : (State.modGauge s f).quads = s.quads := rfl
@[simp] theorem State.modGauge_scs (s : State) (f : Gauge → Gauge) : (State.modGauge s f).scs = s.scs := rfl
@[simp] theorem State.modGauge_dies (s : State) (f : Gauge → Gauge) : (State.modGauge s f).dies = s.dies := rfl
@[simp] theorem State.modGauge_heads (s : State) (f : Gauge → Gauge) : (State.modGauge s f).heads = s.heads := rfl
@[simp] theorem State.modGauge_lds (s : State) (f : Gauge → Gauge) : (State.modGauge s f).lds = s.lds := rfl
@[simp] theorem State.modGauge_fabric (s : State) (f : Gauge → Gauge) : (State.modGauge s f).fabric = s.fabric := rfl
@[simp] theorem State.modGauge_keys (s : State) (f : Gauge → Gauge) : (State.modGauge s f).keys = s.keys := rfl
@[simp] theorem State.modGauge_rails (s : State) (f : Gauge → Gauge) : (State.modGauge s f).rails = s.rails := rfl
@[simp] theorem State.modGauge_seq (s : State) (f : Gauge → Gauge) : (State.modGauge s f).seq = s.seq := rfl
@[simp] theorem State.modGauge_pins (s : State) (f : Gauge → Gauge) : (State.modGauge s f).pins = s.pins := rfl
@[simp] theorem State.modGauge_group (s : State) (f : Gauge → Gauge) : (State.modGauge s f).group = s.group := rfl
@[simp] theorem State.modGauge_save (s : State) (f : Gauge → Gauge) : (State.modGauge s f).save = s.save := rfl
@[simp] theorem State.modGauge_tw0 (s : State) (f : Gauge → Gauge) : (State.modGauge s f).tw0 = s.tw0 := rfl
@[simp] theorem State.modGauge_tws (s : State) (f : Gauge → Gauge) : (State.modGauge s f).tws = s.tws := rfl
@[simp] theorem State.modGauge_cfg (s : State) (f : Gauge → Gauge) : (State.modGauge s f).cfg = s.cfg := rfl
@[simp] theorem State.modGauge_otp (s : State) (f : Gauge → Gauge) : (State.modGauge s f).otp = s.otp := rfl
@[simp] theorem State.modGauge_upd (s : State) (f : Gauge → Gauge) : (State.modGauge s f).upd = s.upd := rfl
@[simp] theorem State.modGauge_shake (s : State) (f : Gauge → Gauge) : (State.modGauge s f).shake = s.shake := rfl
@[simp] theorem State.modGauge_dram (s : State) (f : Gauge → Gauge) : (State.modGauge s f).dram = s.dram := rfl
@[simp] theorem State.modGauge_poison (s : State) (f : Gauge → Gauge) : (State.modGauge s f).poison = s.poison := rfl
@[simp] theorem State.modGauge_fresh (s : State) (f : Gauge → Gauge) : (State.modGauge s f).fresh = s.fresh := rfl
@[simp] theorem State.modGauge_out (s : State) (f : Gauge → Gauge) : (State.modGauge s f).out = s.out := rfl
@[simp] theorem State.modGauge_pending (s : State) (f : Gauge → Gauge) : (State.modGauge s f).pending = s.pending := rfl

/-! ### modSeq -/

@[simp] theorem State.modSeq_regs (s : State) (f : Seq → Seq) : (State.modSeq s f).regs = s.regs := rfl
@[simp] theorem State.modSeq_tick (s : State) (f : Seq → Seq) : (State.modSeq s f).tick = s.tick := rfl
@[simp] theorem State.modSeq_plumb (s : State) (f : Seq → Seq) : (State.modSeq s f).plumb = s.plumb := rfl
@[simp] theorem State.modSeq_paths (s : State) (f : Seq → Seq) : (State.modSeq s f).paths = s.paths := rfl
@[simp] theorem State.modSeq_events (s : State) (f : Seq → Seq) : (State.modSeq s f).events = s.events := rfl
@[simp] theorem State.modSeq_cluster (s : State) (f : Seq → Seq) : (State.modSeq s f).cluster = s.cluster := rfl
@[simp] theorem State.modSeq_patches (s : State) (f : Seq → Seq) : (State.modSeq s f).patches = s.patches := rfl
@[simp] theorem State.modSeq_retired (s : State) (f : Seq → Seq) : (State.modSeq s f).retired = s.retired := rfl
@[simp] theorem State.modSeq_image (s : State) (f : Seq → Seq) : (State.modSeq s f).image = s.image := rfl
@[simp] theorem State.modSeq_quads (s : State) (f : Seq → Seq) : (State.modSeq s f).quads = s.quads := rfl
@[simp] theorem State.modSeq_scs (s : State) (f : Seq → Seq) : (State.modSeq s f).scs = s.scs := rfl
@[simp] theorem State.modSeq_dies (s : State) (f : Seq → Seq) : (State.modSeq s f).dies = s.dies := rfl
@[simp] theorem State.modSeq_heads (s : State) (f : Seq → Seq) : (State.modSeq s f).heads = s.heads := rfl
@[simp] theorem State.modSeq_lds (s : State) (f : Seq → Seq) : (State.modSeq s f).lds = s.lds := rfl
@[simp] theorem State.modSeq_fabric (s : State) (f : Seq → Seq) : (State.modSeq s f).fabric = s.fabric := rfl
@[simp] theorem State.modSeq_keys (s : State) (f : Seq → Seq) : (State.modSeq s f).keys = s.keys := rfl
@[simp] theorem State.modSeq_gauge (s : State) (f : Seq → Seq) : (State.modSeq s f).gauge = s.gauge := rfl
@[simp] theorem State.modSeq_rails (s : State) (f : Seq → Seq) : (State.modSeq s f).rails = s.rails := rfl
@[simp] theorem State.modSeq_pins (s : State) (f : Seq → Seq) : (State.modSeq s f).pins = s.pins := rfl
@[simp] theorem State.modSeq_group (s : State) (f : Seq → Seq) : (State.modSeq s f).group = s.group := rfl
@[simp] theorem State.modSeq_save (s : State) (f : Seq → Seq) : (State.modSeq s f).save = s.save := rfl
@[simp] theorem State.modSeq_tw0 (s : State) (f : Seq → Seq) : (State.modSeq s f).tw0 = s.tw0 := rfl
@[simp] theorem State.modSeq_tws (s : State) (f : Seq → Seq) : (State.modSeq s f).tws = s.tws := rfl
@[simp] theorem State.modSeq_cfg (s : State) (f : Seq → Seq) : (State.modSeq s f).cfg = s.cfg := rfl
@[simp] theorem State.modSeq_otp (s : State) (f : Seq → Seq) : (State.modSeq s f).otp = s.otp := rfl
@[simp] theorem State.modSeq_upd (s : State) (f : Seq → Seq) : (State.modSeq s f).upd = s.upd := rfl
@[simp] theorem State.modSeq_shake (s : State) (f : Seq → Seq) : (State.modSeq s f).shake = s.shake := rfl
@[simp] theorem State.modSeq_dram (s : State) (f : Seq → Seq) : (State.modSeq s f).dram = s.dram := rfl
@[simp] theorem State.modSeq_poison (s : State) (f : Seq → Seq) : (State.modSeq s f).poison = s.poison := rfl
@[simp] theorem State.modSeq_fresh (s : State) (f : Seq → Seq) : (State.modSeq s f).fresh = s.fresh := rfl
@[simp] theorem State.modSeq_out (s : State) (f : Seq → Seq) : (State.modSeq s f).out = s.out := rfl
@[simp] theorem State.modSeq_pending (s : State) (f : Seq → Seq) : (State.modSeq s f).pending = s.pending := rfl

/-! ### modPins -/

@[simp] theorem State.modPins_regs (s : State) (f : Pins → Pins) : (State.modPins s f).regs = s.regs := rfl
@[simp] theorem State.modPins_tick (s : State) (f : Pins → Pins) : (State.modPins s f).tick = s.tick := rfl
@[simp] theorem State.modPins_plumb (s : State) (f : Pins → Pins) : (State.modPins s f).plumb = s.plumb := rfl
@[simp] theorem State.modPins_paths (s : State) (f : Pins → Pins) : (State.modPins s f).paths = s.paths := rfl
@[simp] theorem State.modPins_events (s : State) (f : Pins → Pins) : (State.modPins s f).events = s.events := rfl
@[simp] theorem State.modPins_cluster (s : State) (f : Pins → Pins) : (State.modPins s f).cluster = s.cluster := rfl
@[simp] theorem State.modPins_patches (s : State) (f : Pins → Pins) : (State.modPins s f).patches = s.patches := rfl
@[simp] theorem State.modPins_retired (s : State) (f : Pins → Pins) : (State.modPins s f).retired = s.retired := rfl
@[simp] theorem State.modPins_image (s : State) (f : Pins → Pins) : (State.modPins s f).image = s.image := rfl
@[simp] theorem State.modPins_quads (s : State) (f : Pins → Pins) : (State.modPins s f).quads = s.quads := rfl
@[simp] theorem State.modPins_scs (s : State) (f : Pins → Pins) : (State.modPins s f).scs = s.scs := rfl
@[simp] theorem State.modPins_dies (s : State) (f : Pins → Pins) : (State.modPins s f).dies = s.dies := rfl
@[simp] theorem State.modPins_heads (s : State) (f : Pins → Pins) : (State.modPins s f).heads = s.heads := rfl
@[simp] theorem State.modPins_lds (s : State) (f : Pins → Pins) : (State.modPins s f).lds = s.lds := rfl
@[simp] theorem State.modPins_fabric (s : State) (f : Pins → Pins) : (State.modPins s f).fabric = s.fabric := rfl
@[simp] theorem State.modPins_keys (s : State) (f : Pins → Pins) : (State.modPins s f).keys = s.keys := rfl
@[simp] theorem State.modPins_gauge (s : State) (f : Pins → Pins) : (State.modPins s f).gauge = s.gauge := rfl
@[simp] theorem State.modPins_rails (s : State) (f : Pins → Pins) : (State.modPins s f).rails = s.rails := rfl
@[simp] theorem State.modPins_seq (s : State) (f : Pins → Pins) : (State.modPins s f).seq = s.seq := rfl
@[simp] theorem State.modPins_group (s : State) (f : Pins → Pins) : (State.modPins s f).group = s.group := rfl
@[simp] theorem State.modPins_save (s : State) (f : Pins → Pins) : (State.modPins s f).save = s.save := rfl
@[simp] theorem State.modPins_tw0 (s : State) (f : Pins → Pins) : (State.modPins s f).tw0 = s.tw0 := rfl
@[simp] theorem State.modPins_tws (s : State) (f : Pins → Pins) : (State.modPins s f).tws = s.tws := rfl
@[simp] theorem State.modPins_cfg (s : State) (f : Pins → Pins) : (State.modPins s f).cfg = s.cfg := rfl
@[simp] theorem State.modPins_otp (s : State) (f : Pins → Pins) : (State.modPins s f).otp = s.otp := rfl
@[simp] theorem State.modPins_upd (s : State) (f : Pins → Pins) : (State.modPins s f).upd = s.upd := rfl
@[simp] theorem State.modPins_shake (s : State) (f : Pins → Pins) : (State.modPins s f).shake = s.shake := rfl
@[simp] theorem State.modPins_dram (s : State) (f : Pins → Pins) : (State.modPins s f).dram = s.dram := rfl
@[simp] theorem State.modPins_poison (s : State) (f : Pins → Pins) : (State.modPins s f).poison = s.poison := rfl
@[simp] theorem State.modPins_fresh (s : State) (f : Pins → Pins) : (State.modPins s f).fresh = s.fresh := rfl
@[simp] theorem State.modPins_out (s : State) (f : Pins → Pins) : (State.modPins s f).out = s.out := rfl
@[simp] theorem State.modPins_pending (s : State) (f : Pins → Pins) : (State.modPins s f).pending = s.pending := rfl

/-! ### modSave -/

@[simp] theorem State.modSave_regs (s : State) (f : SaveSt → SaveSt) : (State.modSave s f).regs = s.regs := rfl
@[simp] theorem State.modSave_tick (s : State) (f : SaveSt → SaveSt) : (State.modSave s f).tick = s.tick := rfl
@[simp] theorem State.modSave_plumb (s : State) (f : SaveSt → SaveSt) : (State.modSave s f).plumb = s.plumb := rfl
@[simp] theorem State.modSave_paths (s : State) (f : SaveSt → SaveSt) : (State.modSave s f).paths = s.paths := rfl
@[simp] theorem State.modSave_events (s : State) (f : SaveSt → SaveSt) : (State.modSave s f).events = s.events := rfl
@[simp] theorem State.modSave_cluster (s : State) (f : SaveSt → SaveSt) : (State.modSave s f).cluster = s.cluster := rfl
@[simp] theorem State.modSave_patches (s : State) (f : SaveSt → SaveSt) : (State.modSave s f).patches = s.patches := rfl
@[simp] theorem State.modSave_retired (s : State) (f : SaveSt → SaveSt) : (State.modSave s f).retired = s.retired := rfl
@[simp] theorem State.modSave_image (s : State) (f : SaveSt → SaveSt) : (State.modSave s f).image = s.image := rfl
@[simp] theorem State.modSave_quads (s : State) (f : SaveSt → SaveSt) : (State.modSave s f).quads = s.quads := rfl
@[simp] theorem State.modSave_scs (s : State) (f : SaveSt → SaveSt) : (State.modSave s f).scs = s.scs := rfl
@[simp] theorem State.modSave_dies (s : State) (f : SaveSt → SaveSt) : (State.modSave s f).dies = s.dies := rfl
@[simp] theorem State.modSave_heads (s : State) (f : SaveSt → SaveSt) : (State.modSave s f).heads = s.heads := rfl
@[simp] theorem State.modSave_lds (s : State) (f : SaveSt → SaveSt) : (State.modSave s f).lds = s.lds := rfl
@[simp] theorem State.modSave_fabric (s : State) (f : SaveSt → SaveSt) : (State.modSave s f).fabric = s.fabric := rfl
@[simp] theorem State.modSave_keys (s : State) (f : SaveSt → SaveSt) : (State.modSave s f).keys = s.keys := rfl
@[simp] theorem State.modSave_gauge (s : State) (f : SaveSt → SaveSt) : (State.modSave s f).gauge = s.gauge := rfl
@[simp] theorem State.modSave_rails (s : State) (f : SaveSt → SaveSt) : (State.modSave s f).rails = s.rails := rfl
@[simp] theorem State.modSave_seq (s : State) (f : SaveSt → SaveSt) : (State.modSave s f).seq = s.seq := rfl
@[simp] theorem State.modSave_pins (s : State) (f : SaveSt → SaveSt) : (State.modSave s f).pins = s.pins := rfl
@[simp] theorem State.modSave_group (s : State) (f : SaveSt → SaveSt) : (State.modSave s f).group = s.group := rfl
@[simp] theorem State.modSave_tw0 (s : State) (f : SaveSt → SaveSt) : (State.modSave s f).tw0 = s.tw0 := rfl
@[simp] theorem State.modSave_tws (s : State) (f : SaveSt → SaveSt) : (State.modSave s f).tws = s.tws := rfl
@[simp] theorem State.modSave_cfg (s : State) (f : SaveSt → SaveSt) : (State.modSave s f).cfg = s.cfg := rfl
@[simp] theorem State.modSave_otp (s : State) (f : SaveSt → SaveSt) : (State.modSave s f).otp = s.otp := rfl
@[simp] theorem State.modSave_upd (s : State) (f : SaveSt → SaveSt) : (State.modSave s f).upd = s.upd := rfl
@[simp] theorem State.modSave_shake (s : State) (f : SaveSt → SaveSt) : (State.modSave s f).shake = s.shake := rfl
@[simp] theorem State.modSave_dram (s : State) (f : SaveSt → SaveSt) : (State.modSave s f).dram = s.dram := rfl
@[simp] theorem State.modSave_poison (s : State) (f : SaveSt → SaveSt) : (State.modSave s f).poison = s.poison := rfl
@[simp] theorem State.modSave_fresh (s : State) (f : SaveSt → SaveSt) : (State.modSave s f).fresh = s.fresh := rfl
@[simp] theorem State.modSave_out (s : State) (f : SaveSt → SaveSt) : (State.modSave s f).out = s.out := rfl
@[simp] theorem State.modSave_pending (s : State) (f : SaveSt → SaveSt) : (State.modSave s f).pending = s.pending := rfl

/-! ### modGroup -/

@[simp] theorem State.modGroup_regs (s : State) (f : Group → Group) : (State.modGroup s f).regs = s.regs := rfl
@[simp] theorem State.modGroup_tick (s : State) (f : Group → Group) : (State.modGroup s f).tick = s.tick := rfl
@[simp] theorem State.modGroup_plumb (s : State) (f : Group → Group) : (State.modGroup s f).plumb = s.plumb := rfl
@[simp] theorem State.modGroup_paths (s : State) (f : Group → Group) : (State.modGroup s f).paths = s.paths := rfl
@[simp] theorem State.modGroup_events (s : State) (f : Group → Group) : (State.modGroup s f).events = s.events := rfl
@[simp] theorem State.modGroup_cluster (s : State) (f : Group → Group) : (State.modGroup s f).cluster = s.cluster := rfl
@[simp] theorem State.modGroup_patches (s : State) (f : Group → Group) : (State.modGroup s f).patches = s.patches := rfl
@[simp] theorem State.modGroup_retired (s : State) (f : Group → Group) : (State.modGroup s f).retired = s.retired := rfl
@[simp] theorem State.modGroup_image (s : State) (f : Group → Group) : (State.modGroup s f).image = s.image := rfl
@[simp] theorem State.modGroup_quads (s : State) (f : Group → Group) : (State.modGroup s f).quads = s.quads := rfl
@[simp] theorem State.modGroup_scs (s : State) (f : Group → Group) : (State.modGroup s f).scs = s.scs := rfl
@[simp] theorem State.modGroup_dies (s : State) (f : Group → Group) : (State.modGroup s f).dies = s.dies := rfl
@[simp] theorem State.modGroup_heads (s : State) (f : Group → Group) : (State.modGroup s f).heads = s.heads := rfl
@[simp] theorem State.modGroup_lds (s : State) (f : Group → Group) : (State.modGroup s f).lds = s.lds := rfl
@[simp] theorem State.modGroup_fabric (s : State) (f : Group → Group) : (State.modGroup s f).fabric = s.fabric := rfl
@[simp] theorem State.modGroup_keys (s : State) (f : Group → Group) : (State.modGroup s f).keys = s.keys := rfl
@[simp] theorem State.modGroup_gauge (s : State) (f : Group → Group) : (State.modGroup s f).gauge = s.gauge := rfl
@[simp] theorem State.modGroup_rails (s : State) (f : Group → Group) : (State.modGroup s f).rails = s.rails := rfl
@[simp] theorem State.modGroup_seq (s : State) (f : Group → Group) : (State.modGroup s f).seq = s.seq := rfl
@[simp] theorem State.modGroup_pins (s : State) (f : Group → Group) : (State.modGroup s f).pins = s.pins := rfl
@[simp] theorem State.modGroup_save (s : State) (f : Group → Group) : (State.modGroup s f).save = s.save := rfl
@[simp] theorem State.modGroup_tw0 (s : State) (f : Group → Group) : (State.modGroup s f).tw0 = s.tw0 := rfl
@[simp] theorem State.modGroup_tws (s : State) (f : Group → Group) : (State.modGroup s f).tws = s.tws := rfl
@[simp] theorem State.modGroup_cfg (s : State) (f : Group → Group) : (State.modGroup s f).cfg = s.cfg := rfl
@[simp] theorem State.modGroup_otp (s : State) (f : Group → Group) : (State.modGroup s f).otp = s.otp := rfl
@[simp] theorem State.modGroup_upd (s : State) (f : Group → Group) : (State.modGroup s f).upd = s.upd := rfl
@[simp] theorem State.modGroup_shake (s : State) (f : Group → Group) : (State.modGroup s f).shake = s.shake := rfl
@[simp] theorem State.modGroup_dram (s : State) (f : Group → Group) : (State.modGroup s f).dram = s.dram := rfl
@[simp] theorem State.modGroup_poison (s : State) (f : Group → Group) : (State.modGroup s f).poison = s.poison := rfl
@[simp] theorem State.modGroup_fresh (s : State) (f : Group → Group) : (State.modGroup s f).fresh = s.fresh := rfl
@[simp] theorem State.modGroup_out (s : State) (f : Group → Group) : (State.modGroup s f).out = s.out := rfl
@[simp] theorem State.modGroup_pending (s : State) (f : Group → Group) : (State.modGroup s f).pending = s.pending := rfl

/-! ### modKeys -/

@[simp] theorem State.modKeys_regs (s : State) (f : Keys → Keys) : (State.modKeys s f).regs = s.regs := rfl
@[simp] theorem State.modKeys_tick (s : State) (f : Keys → Keys) : (State.modKeys s f).tick = s.tick := rfl
@[simp] theorem State.modKeys_plumb (s : State) (f : Keys → Keys) : (State.modKeys s f).plumb = s.plumb := rfl
@[simp] theorem State.modKeys_paths (s : State) (f : Keys → Keys) : (State.modKeys s f).paths = s.paths := rfl
@[simp] theorem State.modKeys_events (s : State) (f : Keys → Keys) : (State.modKeys s f).events = s.events := rfl
@[simp] theorem State.modKeys_cluster (s : State) (f : Keys → Keys) : (State.modKeys s f).cluster = s.cluster := rfl
@[simp] theorem State.modKeys_patches (s : State) (f : Keys → Keys) : (State.modKeys s f).patches = s.patches := rfl
@[simp] theorem State.modKeys_retired (s : State) (f : Keys → Keys) : (State.modKeys s f).retired = s.retired := rfl
@[simp] theorem State.modKeys_image (s : State) (f : Keys → Keys) : (State.modKeys s f).image = s.image := rfl
@[simp] theorem State.modKeys_quads (s : State) (f : Keys → Keys) : (State.modKeys s f).quads = s.quads := rfl
@[simp] theorem State.modKeys_scs (s : State) (f : Keys → Keys) : (State.modKeys s f).scs = s.scs := rfl
@[simp] theorem State.modKeys_dies (s : State) (f : Keys → Keys) : (State.modKeys s f).dies = s.dies := rfl
@[simp] theorem State.modKeys_heads (s : State) (f : Keys → Keys) : (State.modKeys s f).heads = s.heads := rfl
@[simp] theorem State.modKeys_lds (s : State) (f : Keys → Keys) : (State.modKeys s f).lds = s.lds := rfl
@[simp] theorem State.modKeys_fabric (s : State) (f : Keys → Keys) : (State.modKeys s f).fabric = s.fabric := rfl
@[simp] theorem State.modKeys_gauge (s : State) (f : Keys → Keys) : (State.modKeys s f).gauge = s.gauge := rfl
@[simp] theorem State.modKeys_rails (s : State) (f : Keys → Keys) : (State.modKeys s f).rails = s.rails := rfl
@[simp] theorem State.modKeys_seq (s : State) (f : Keys → Keys) : (State.modKeys s f).seq = s.seq := rfl
@[simp] theorem State.modKeys_pins (s : State) (f : Keys → Keys) : (State.modKeys s f).pins = s.pins := rfl
@[simp] theorem State.modKeys_group (s : State) (f : Keys → Keys) : (State.modKeys s f).group = s.group := rfl
@[simp] theorem State.modKeys_save (s : State) (f : Keys → Keys) : (State.modKeys s f).save = s.save := rfl
@[simp] theorem State.modKeys_tw0 (s : State) (f : Keys → Keys) : (State.modKeys s f).tw0 = s.tw0 := rfl
@[simp] theorem State.modKeys_tws (s : State) (f : Keys → Keys) : (State.modKeys s f).tws = s.tws := rfl
@[simp] theorem State.modKeys_cfg (s : State) (f : Keys → Keys) : (State.modKeys s f).cfg = s.cfg := rfl
@[simp] theorem State.modKeys_otp (s : State) (f : Keys → Keys) : (State.modKeys s f).otp = s.otp := rfl
@[simp] theorem State.modKeys_upd (s : State) (f : Keys → Keys) : (State.modKeys s f).upd = s.upd := rfl
@[simp] theorem State.modKeys_shake (s : State) (f : Keys → Keys) : (State.modKeys s f).shake = s.shake := rfl
@[simp] theorem State.modKeys_dram (s : State) (f : Keys → Keys) : (State.modKeys s f).dram = s.dram := rfl
@[simp] theorem State.modKeys_poison (s : State) (f : Keys → Keys) : (State.modKeys s f).poison = s.poison := rfl
@[simp] theorem State.modKeys_fresh (s : State) (f : Keys → Keys) : (State.modKeys s f).fresh = s.fresh := rfl
@[simp] theorem State.modKeys_out (s : State) (f : Keys → Keys) : (State.modKeys s f).out = s.out := rfl
@[simp] theorem State.modKeys_pending (s : State) (f : Keys → Keys) : (State.modKeys s f).pending = s.pending := rfl

/-! ### modTick -/

@[simp] theorem State.modTick_regs (s : State) (f : Tick → Tick) : (State.modTick s f).regs = s.regs := rfl
@[simp] theorem State.modTick_plumb (s : State) (f : Tick → Tick) : (State.modTick s f).plumb = s.plumb := rfl
@[simp] theorem State.modTick_paths (s : State) (f : Tick → Tick) : (State.modTick s f).paths = s.paths := rfl
@[simp] theorem State.modTick_events (s : State) (f : Tick → Tick) : (State.modTick s f).events = s.events := rfl
@[simp] theorem State.modTick_cluster (s : State) (f : Tick → Tick) : (State.modTick s f).cluster = s.cluster := rfl
@[simp] theorem State.modTick_patches (s : State) (f : Tick → Tick) : (State.modTick s f).patches = s.patches := rfl
@[simp] theorem State.modTick_retired (s : State) (f : Tick → Tick) : (State.modTick s f).retired = s.retired := rfl
@[simp] theorem State.modTick_image (s : State) (f : Tick → Tick) : (State.modTick s f).image = s.image := rfl
@[simp] theorem State.modTick_quads (s : State) (f : Tick → Tick) : (State.modTick s f).quads = s.quads := rfl
@[simp] theorem State.modTick_scs (s : State) (f : Tick → Tick) : (State.modTick s f).scs = s.scs := rfl
@[simp] theorem State.modTick_dies (s : State) (f : Tick → Tick) : (State.modTick s f).dies = s.dies := rfl
@[simp] theorem State.modTick_heads (s : State) (f : Tick → Tick) : (State.modTick s f).heads = s.heads := rfl
@[simp] theorem State.modTick_lds (s : State) (f : Tick → Tick) : (State.modTick s f).lds = s.lds := rfl
@[simp] theorem State.modTick_fabric (s : State) (f : Tick → Tick) : (State.modTick s f).fabric = s.fabric := rfl
@[simp] theorem State.modTick_keys (s : State) (f : Tick → Tick) : (State.modTick s f).keys = s.keys := rfl
@[simp] theorem State.modTick_gauge (s : State) (f : Tick → Tick) : (State.modTick s f).gauge = s.gauge := rfl
@[simp] theorem State.modTick_rails (s : State) (f : Tick → Tick) : (State.modTick s f).rails = s.rails := rfl
@[simp] theorem State.modTick_seq (s : State) (f : Tick → Tick) : (State.modTick s f).seq = s.seq := rfl
@[simp] theorem State.modTick_pins (s : State) (f : Tick → Tick) : (State.modTick s f).pins = s.pins := rfl
@[simp] theorem State.modTick_group (s : State) (f : Tick → Tick) : (State.modTick s f).group = s.group := rfl
@[simp] theorem State.modTick_save (s : State) (f : Tick → Tick) : (State.modTick s f).save = s.save := rfl
@[simp] theorem State.modTick_tw0 (s : State) (f : Tick → Tick) : (State.modTick s f).tw0 = s.tw0 := rfl
@[simp] theorem State.modTick_tws (s : State) (f : Tick → Tick) : (State.modTick s f).tws = s.tws := rfl
@[simp] theorem State.modTick_cfg (s : State) (f : Tick → Tick) : (State.modTick s f).cfg = s.cfg := rfl
@[simp] theorem State.modTick_otp (s : State) (f : Tick → Tick) : (State.modTick s f).otp = s.otp := rfl
@[simp] theorem State.modTick_upd (s : State) (f : Tick → Tick) : (State.modTick s f).upd = s.upd := rfl
@[simp] theorem State.modTick_shake (s : State) (f : Tick → Tick) : (State.modTick s f).shake = s.shake := rfl
@[simp] theorem State.modTick_dram (s : State) (f : Tick → Tick) : (State.modTick s f).dram = s.dram := rfl
@[simp] theorem State.modTick_poison (s : State) (f : Tick → Tick) : (State.modTick s f).poison = s.poison := rfl
@[simp] theorem State.modTick_fresh (s : State) (f : Tick → Tick) : (State.modTick s f).fresh = s.fresh := rfl
@[simp] theorem State.modTick_out (s : State) (f : Tick → Tick) : (State.modTick s f).out = s.out := rfl
@[simp] theorem State.modTick_pending (s : State) (f : Tick → Tick) : (State.modTick s f).pending = s.pending := rfl

/-! ### modEvents -/

@[simp] theorem State.modEvents_regs (s : State) (f : Events → Events) : (State.modEvents s f).regs = s.regs := rfl
@[simp] theorem State.modEvents_tick (s : State) (f : Events → Events) : (State.modEvents s f).tick = s.tick := rfl
@[simp] theorem State.modEvents_plumb (s : State) (f : Events → Events) : (State.modEvents s f).plumb = s.plumb := rfl
@[simp] theorem State.modEvents_paths (s : State) (f : Events → Events) : (State.modEvents s f).paths = s.paths := rfl
@[simp] theorem State.modEvents_cluster (s : State) (f : Events → Events) : (State.modEvents s f).cluster = s.cluster := rfl
@[simp] theorem State.modEvents_patches (s : State) (f : Events → Events) : (State.modEvents s f).patches = s.patches := rfl
@[simp] theorem State.modEvents_retired (s : State) (f : Events → Events) : (State.modEvents s f).retired = s.retired := rfl
@[simp] theorem State.modEvents_image (s : State) (f : Events → Events) : (State.modEvents s f).image = s.image := rfl
@[simp] theorem State.modEvents_quads (s : State) (f : Events → Events) : (State.modEvents s f).quads = s.quads := rfl
@[simp] theorem State.modEvents_scs (s : State) (f : Events → Events) : (State.modEvents s f).scs = s.scs := rfl
@[simp] theorem State.modEvents_dies (s : State) (f : Events → Events) : (State.modEvents s f).dies = s.dies := rfl
@[simp] theorem State.modEvents_heads (s : State) (f : Events → Events) : (State.modEvents s f).heads = s.heads := rfl
@[simp] theorem State.modEvents_lds (s : State) (f : Events → Events) : (State.modEvents s f).lds = s.lds := rfl
@[simp] theorem State.modEvents_fabric (s : State) (f : Events → Events) : (State.modEvents s f).fabric = s.fabric := rfl
@[simp] theorem State.modEvents_keys (s : State) (f : Events → Events) : (State.modEvents s f).keys = s.keys := rfl
@[simp] theorem State.modEvents_gauge (s : State) (f : Events → Events) : (State.modEvents s f).gauge = s.gauge := rfl
@[simp] theorem State.modEvents_rails (s : State) (f : Events → Events) : (State.modEvents s f).rails = s.rails := rfl
@[simp] theorem State.modEvents_seq (s : State) (f : Events → Events) : (State.modEvents s f).seq = s.seq := rfl
@[simp] theorem State.modEvents_pins (s : State) (f : Events → Events) : (State.modEvents s f).pins = s.pins := rfl
@[simp] theorem State.modEvents_group (s : State) (f : Events → Events) : (State.modEvents s f).group = s.group := rfl
@[simp] theorem State.modEvents_save (s : State) (f : Events → Events) : (State.modEvents s f).save = s.save := rfl
@[simp] theorem State.modEvents_tw0 (s : State) (f : Events → Events) : (State.modEvents s f).tw0 = s.tw0 := rfl
@[simp] theorem State.modEvents_tws (s : State) (f : Events → Events) : (State.modEvents s f).tws = s.tws := rfl
@[simp] theorem State.modEvents_cfg (s : State) (f : Events → Events) : (State.modEvents s f).cfg = s.cfg := rfl
@[simp] theorem State.modEvents_otp (s : State) (f : Events → Events) : (State.modEvents s f).otp = s.otp := rfl
@[simp] theorem State.modEvents_upd (s : State) (f : Events → Events) : (State.modEvents s f).upd = s.upd := rfl
@[simp] theorem State.modEvents_shake (s : State) (f : Events → Events) : (State.modEvents s f).shake = s.shake := rfl
@[simp] theorem State.modEvents_dram (s : State) (f : Events → Events) : (State.modEvents s f).dram = s.dram := rfl
@[simp] theorem State.modEvents_poison (s : State) (f : Events → Events) : (State.modEvents s f).poison = s.poison := rfl
@[simp] theorem State.modEvents_fresh (s : State) (f : Events → Events) : (State.modEvents s f).fresh = s.fresh := rfl
@[simp] theorem State.modEvents_out (s : State) (f : Events → Events) : (State.modEvents s f).out = s.out := rfl
@[simp] theorem State.modEvents_pending (s : State) (f : Events → Events) : (State.modEvents s f).pending = s.pending := rfl

/-! ### modFabric -/

@[simp] theorem State.modFabric_regs (s : State) (f : Fabric → Fabric) : (State.modFabric s f).regs = s.regs := rfl
@[simp] theorem State.modFabric_tick (s : State) (f : Fabric → Fabric) : (State.modFabric s f).tick = s.tick := rfl
@[simp] theorem State.modFabric_plumb (s : State) (f : Fabric → Fabric) : (State.modFabric s f).plumb = s.plumb := rfl
@[simp] theorem State.modFabric_paths (s : State) (f : Fabric → Fabric) : (State.modFabric s f).paths = s.paths := rfl
@[simp] theorem State.modFabric_events (s : State) (f : Fabric → Fabric) : (State.modFabric s f).events = s.events := rfl
@[simp] theorem State.modFabric_cluster (s : State) (f : Fabric → Fabric) : (State.modFabric s f).cluster = s.cluster := rfl
@[simp] theorem State.modFabric_patches (s : State) (f : Fabric → Fabric) : (State.modFabric s f).patches = s.patches := rfl
@[simp] theorem State.modFabric_retired (s : State) (f : Fabric → Fabric) : (State.modFabric s f).retired = s.retired := rfl
@[simp] theorem State.modFabric_image (s : State) (f : Fabric → Fabric) : (State.modFabric s f).image = s.image := rfl
@[simp] theorem State.modFabric_quads (s : State) (f : Fabric → Fabric) : (State.modFabric s f).quads = s.quads := rfl
@[simp] theorem State.modFabric_scs (s : State) (f : Fabric → Fabric) : (State.modFabric s f).scs = s.scs := rfl
@[simp] theorem State.modFabric_dies (s : State) (f : Fabric → Fabric) : (State.modFabric s f).dies = s.dies := rfl
@[simp] theorem State.modFabric_heads (s : State) (f : Fabric → Fabric) : (State.modFabric s f).heads = s.heads := rfl
@[simp] theorem State.modFabric_lds (s : State) (f : Fabric → Fabric) : (State.modFabric s f).lds = s.lds := rfl
@[simp] theorem State.modFabric_keys (s : State) (f : Fabric → Fabric) : (State.modFabric s f).keys = s.keys := rfl
@[simp] theorem State.modFabric_gauge (s : State) (f : Fabric → Fabric) : (State.modFabric s f).gauge = s.gauge := rfl
@[simp] theorem State.modFabric_rails (s : State) (f : Fabric → Fabric) : (State.modFabric s f).rails = s.rails := rfl
@[simp] theorem State.modFabric_seq (s : State) (f : Fabric → Fabric) : (State.modFabric s f).seq = s.seq := rfl
@[simp] theorem State.modFabric_pins (s : State) (f : Fabric → Fabric) : (State.modFabric s f).pins = s.pins := rfl
@[simp] theorem State.modFabric_group (s : State) (f : Fabric → Fabric) : (State.modFabric s f).group = s.group := rfl
@[simp] theorem State.modFabric_save (s : State) (f : Fabric → Fabric) : (State.modFabric s f).save = s.save := rfl
@[simp] theorem State.modFabric_tw0 (s : State) (f : Fabric → Fabric) : (State.modFabric s f).tw0 = s.tw0 := rfl
@[simp] theorem State.modFabric_tws (s : State) (f : Fabric → Fabric) : (State.modFabric s f).tws = s.tws := rfl
@[simp] theorem State.modFabric_cfg (s : State) (f : Fabric → Fabric) : (State.modFabric s f).cfg = s.cfg := rfl
@[simp] theorem State.modFabric_otp (s : State) (f : Fabric → Fabric) : (State.modFabric s f).otp = s.otp := rfl
@[simp] theorem State.modFabric_upd (s : State) (f : Fabric → Fabric) : (State.modFabric s f).upd = s.upd := rfl
@[simp] theorem State.modFabric_shake (s : State) (f : Fabric → Fabric) : (State.modFabric s f).shake = s.shake := rfl
@[simp] theorem State.modFabric_dram (s : State) (f : Fabric → Fabric) : (State.modFabric s f).dram = s.dram := rfl
@[simp] theorem State.modFabric_poison (s : State) (f : Fabric → Fabric) : (State.modFabric s f).poison = s.poison := rfl
@[simp] theorem State.modFabric_fresh (s : State) (f : Fabric → Fabric) : (State.modFabric s f).fresh = s.fresh := rfl
@[simp] theorem State.modFabric_out (s : State) (f : Fabric → Fabric) : (State.modFabric s f).out = s.out := rfl
@[simp] theorem State.modFabric_pending (s : State) (f : Fabric → Fabric) : (State.modFabric s f).pending = s.pending := rfl

/-! ### modUpd -/

@[simp] theorem State.modUpd_regs (s : State) (f : Update → Update) : (State.modUpd s f).regs = s.regs := rfl
@[simp] theorem State.modUpd_tick (s : State) (f : Update → Update) : (State.modUpd s f).tick = s.tick := rfl
@[simp] theorem State.modUpd_plumb (s : State) (f : Update → Update) : (State.modUpd s f).plumb = s.plumb := rfl
@[simp] theorem State.modUpd_paths (s : State) (f : Update → Update) : (State.modUpd s f).paths = s.paths := rfl
@[simp] theorem State.modUpd_events (s : State) (f : Update → Update) : (State.modUpd s f).events = s.events := rfl
@[simp] theorem State.modUpd_cluster (s : State) (f : Update → Update) : (State.modUpd s f).cluster = s.cluster := rfl
@[simp] theorem State.modUpd_patches (s : State) (f : Update → Update) : (State.modUpd s f).patches = s.patches := rfl
@[simp] theorem State.modUpd_retired (s : State) (f : Update → Update) : (State.modUpd s f).retired = s.retired := rfl
@[simp] theorem State.modUpd_image (s : State) (f : Update → Update) : (State.modUpd s f).image = s.image := rfl
@[simp] theorem State.modUpd_quads (s : State) (f : Update → Update) : (State.modUpd s f).quads = s.quads := rfl
@[simp] theorem State.modUpd_scs (s : State) (f : Update → Update) : (State.modUpd s f).scs = s.scs := rfl
@[simp] theorem State.modUpd_dies (s : State) (f : Update → Update) : (State.modUpd s f).dies = s.dies := rfl
@[simp] theorem State.modUpd_heads (s : State) (f : Update → Update) : (State.modUpd s f).heads = s.heads := rfl
@[simp] theorem State.modUpd_lds (s : State) (f : Update → Update) : (State.modUpd s f).lds = s.lds := rfl
@[simp] theorem State.modUpd_fabric (s : State) (f : Update → Update) : (State.modUpd s f).fabric = s.fabric := rfl
@[simp] theorem State.modUpd_keys (s : State) (f : Update → Update) : (State.modUpd s f).keys = s.keys := rfl
@[simp] theorem State.modUpd_gauge (s : State) (f : Update → Update) : (State.modUpd s f).gauge = s.gauge := rfl
@[simp] theorem State.modUpd_rails (s : State) (f : Update → Update) : (State.modUpd s f).rails = s.rails := rfl
@[simp] theorem State.modUpd_seq (s : State) (f : Update → Update) : (State.modUpd s f).seq = s.seq := rfl
@[simp] theorem State.modUpd_pins (s : State) (f : Update → Update) : (State.modUpd s f).pins = s.pins := rfl
@[simp] theorem State.modUpd_group (s : State) (f : Update → Update) : (State.modUpd s f).group = s.group := rfl
@[simp] theorem State.modUpd_save (s : State) (f : Update → Update) : (State.modUpd s f).save = s.save := rfl
@[simp] theorem State.modUpd_tw0 (s : State) (f : Update → Update) : (State.modUpd s f).tw0 = s.tw0 := rfl
@[simp] theorem State.modUpd_tws (s : State) (f : Update → Update) : (State.modUpd s f).tws = s.tws := rfl
@[simp] theorem State.modUpd_cfg (s : State) (f : Update → Update) : (State.modUpd s f).cfg = s.cfg := rfl
@[simp] theorem State.modUpd_otp (s : State) (f : Update → Update) : (State.modUpd s f).otp = s.otp := rfl
@[simp] theorem State.modUpd_shake (s : State) (f : Update → Update) : (State.modUpd s f).shake = s.shake := rfl
@[simp] theorem State.modUpd_dram (s : State) (f : Update → Update) : (State.modUpd s f).dram = s.dram := rfl
@[simp] theorem State.modUpd_poison (s : State) (f : Update → Update) : (State.modUpd s f).poison = s.poison := rfl
@[simp] theorem State.modUpd_fresh (s : State) (f : Update → Update) : (State.modUpd s f).fresh = s.fresh := rfl
@[simp] theorem State.modUpd_out (s : State) (f : Update → Update) : (State.modUpd s f).out = s.out := rfl
@[simp] theorem State.modUpd_pending (s : State) (f : Update → Update) : (State.modUpd s f).pending = s.pending := rfl

/-! ### modPlumb -/

@[simp] theorem State.modPlumb_regs (s : State) (f : Plumb → Plumb) : (State.modPlumb s f).regs = s.regs := rfl
@[simp] theorem State.modPlumb_tick (s : State) (f : Plumb → Plumb) : (State.modPlumb s f).tick = s.tick := rfl
@[simp] theorem State.modPlumb_paths (s : State) (f : Plumb → Plumb) : (State.modPlumb s f).paths = s.paths := rfl
@[simp] theorem State.modPlumb_events (s : State) (f : Plumb → Plumb) : (State.modPlumb s f).events = s.events := rfl
@[simp] theorem State.modPlumb_cluster (s : State) (f : Plumb → Plumb) : (State.modPlumb s f).cluster = s.cluster := rfl
@[simp] theorem State.modPlumb_patches (s : State) (f : Plumb → Plumb) : (State.modPlumb s f).patches = s.patches := rfl
@[simp] theorem State.modPlumb_retired (s : State) (f : Plumb → Plumb) : (State.modPlumb s f).retired = s.retired := rfl
@[simp] theorem State.modPlumb_image (s : State) (f : Plumb → Plumb) : (State.modPlumb s f).image = s.image := rfl
@[simp] theorem State.modPlumb_quads (s : State) (f : Plumb → Plumb) : (State.modPlumb s f).quads = s.quads := rfl
@[simp] theorem State.modPlumb_scs (s : State) (f : Plumb → Plumb) : (State.modPlumb s f).scs = s.scs := rfl
@[simp] theorem State.modPlumb_dies (s : State) (f : Plumb → Plumb) : (State.modPlumb s f).dies = s.dies := rfl
@[simp] theorem State.modPlumb_heads (s : State) (f : Plumb → Plumb) : (State.modPlumb s f).heads = s.heads := rfl
@[simp] theorem State.modPlumb_lds (s : State) (f : Plumb → Plumb) : (State.modPlumb s f).lds = s.lds := rfl
@[simp] theorem State.modPlumb_fabric (s : State) (f : Plumb → Plumb) : (State.modPlumb s f).fabric = s.fabric := rfl
@[simp] theorem State.modPlumb_keys (s : State) (f : Plumb → Plumb) : (State.modPlumb s f).keys = s.keys := rfl
@[simp] theorem State.modPlumb_gauge (s : State) (f : Plumb → Plumb) : (State.modPlumb s f).gauge = s.gauge := rfl
@[simp] theorem State.modPlumb_rails (s : State) (f : Plumb → Plumb) : (State.modPlumb s f).rails = s.rails := rfl
@[simp] theorem State.modPlumb_seq (s : State) (f : Plumb → Plumb) : (State.modPlumb s f).seq = s.seq := rfl
@[simp] theorem State.modPlumb_pins (s : State) (f : Plumb → Plumb) : (State.modPlumb s f).pins = s.pins := rfl
@[simp] theorem State.modPlumb_group (s : State) (f : Plumb → Plumb) : (State.modPlumb s f).group = s.group := rfl
@[simp] theorem State.modPlumb_save (s : State) (f : Plumb → Plumb) : (State.modPlumb s f).save = s.save := rfl
@[simp] theorem State.modPlumb_tw0 (s : State) (f : Plumb → Plumb) : (State.modPlumb s f).tw0 = s.tw0 := rfl
@[simp] theorem State.modPlumb_tws (s : State) (f : Plumb → Plumb) : (State.modPlumb s f).tws = s.tws := rfl
@[simp] theorem State.modPlumb_cfg (s : State) (f : Plumb → Plumb) : (State.modPlumb s f).cfg = s.cfg := rfl
@[simp] theorem State.modPlumb_otp (s : State) (f : Plumb → Plumb) : (State.modPlumb s f).otp = s.otp := rfl
@[simp] theorem State.modPlumb_upd (s : State) (f : Plumb → Plumb) : (State.modPlumb s f).upd = s.upd := rfl
@[simp] theorem State.modPlumb_shake (s : State) (f : Plumb → Plumb) : (State.modPlumb s f).shake = s.shake := rfl
@[simp] theorem State.modPlumb_dram (s : State) (f : Plumb → Plumb) : (State.modPlumb s f).dram = s.dram := rfl
@[simp] theorem State.modPlumb_poison (s : State) (f : Plumb → Plumb) : (State.modPlumb s f).poison = s.poison := rfl
@[simp] theorem State.modPlumb_fresh (s : State) (f : Plumb → Plumb) : (State.modPlumb s f).fresh = s.fresh := rfl
@[simp] theorem State.modPlumb_out (s : State) (f : Plumb → Plumb) : (State.modPlumb s f).out = s.out := rfl
@[simp] theorem State.modPlumb_pending (s : State) (f : Plumb → Plumb) : (State.modPlumb s f).pending = s.pending := rfl

/-! ### modTw0 -/

@[simp] theorem State.modTw0_regs (s : State) (f : Tw0 → Tw0) : (State.modTw0 s f).regs = s.regs := rfl
@[simp] theorem State.modTw0_tick (s : State) (f : Tw0 → Tw0) : (State.modTw0 s f).tick = s.tick := rfl
@[simp] theorem State.modTw0_plumb (s : State) (f : Tw0 → Tw0) : (State.modTw0 s f).plumb = s.plumb := rfl
@[simp] theorem State.modTw0_paths (s : State) (f : Tw0 → Tw0) : (State.modTw0 s f).paths = s.paths := rfl
@[simp] theorem State.modTw0_events (s : State) (f : Tw0 → Tw0) : (State.modTw0 s f).events = s.events := rfl
@[simp] theorem State.modTw0_cluster (s : State) (f : Tw0 → Tw0) : (State.modTw0 s f).cluster = s.cluster := rfl
@[simp] theorem State.modTw0_patches (s : State) (f : Tw0 → Tw0) : (State.modTw0 s f).patches = s.patches := rfl
@[simp] theorem State.modTw0_retired (s : State) (f : Tw0 → Tw0) : (State.modTw0 s f).retired = s.retired := rfl
@[simp] theorem State.modTw0_image (s : State) (f : Tw0 → Tw0) : (State.modTw0 s f).image = s.image := rfl
@[simp] theorem State.modTw0_quads (s : State) (f : Tw0 → Tw0) : (State.modTw0 s f).quads = s.quads := rfl
@[simp] theorem State.modTw0_scs (s : State) (f : Tw0 → Tw0) : (State.modTw0 s f).scs = s.scs := rfl
@[simp] theorem State.modTw0_dies (s : State) (f : Tw0 → Tw0) : (State.modTw0 s f).dies = s.dies := rfl
@[simp] theorem State.modTw0_heads (s : State) (f : Tw0 → Tw0) : (State.modTw0 s f).heads = s.heads := rfl
@[simp] theorem State.modTw0_lds (s : State) (f : Tw0 → Tw0) : (State.modTw0 s f).lds = s.lds := rfl
@[simp] theorem State.modTw0_fabric (s : State) (f : Tw0 → Tw0) : (State.modTw0 s f).fabric = s.fabric := rfl
@[simp] theorem State.modTw0_keys (s : State) (f : Tw0 → Tw0) : (State.modTw0 s f).keys = s.keys := rfl
@[simp] theorem State.modTw0_gauge (s : State) (f : Tw0 → Tw0) : (State.modTw0 s f).gauge = s.gauge := rfl
@[simp] theorem State.modTw0_rails (s : State) (f : Tw0 → Tw0) : (State.modTw0 s f).rails = s.rails := rfl
@[simp] theorem State.modTw0_seq (s : State) (f : Tw0 → Tw0) : (State.modTw0 s f).seq = s.seq := rfl
@[simp] theorem State.modTw0_pins (s : State) (f : Tw0 → Tw0) : (State.modTw0 s f).pins = s.pins := rfl
@[simp] theorem State.modTw0_group (s : State) (f : Tw0 → Tw0) : (State.modTw0 s f).group = s.group := rfl
@[simp] theorem State.modTw0_save (s : State) (f : Tw0 → Tw0) : (State.modTw0 s f).save = s.save := rfl
@[simp] theorem State.modTw0_tws (s : State) (f : Tw0 → Tw0) : (State.modTw0 s f).tws = s.tws := rfl
@[simp] theorem State.modTw0_cfg (s : State) (f : Tw0 → Tw0) : (State.modTw0 s f).cfg = s.cfg := rfl
@[simp] theorem State.modTw0_otp (s : State) (f : Tw0 → Tw0) : (State.modTw0 s f).otp = s.otp := rfl
@[simp] theorem State.modTw0_upd (s : State) (f : Tw0 → Tw0) : (State.modTw0 s f).upd = s.upd := rfl
@[simp] theorem State.modTw0_shake (s : State) (f : Tw0 → Tw0) : (State.modTw0 s f).shake = s.shake := rfl
@[simp] theorem State.modTw0_dram (s : State) (f : Tw0 → Tw0) : (State.modTw0 s f).dram = s.dram := rfl
@[simp] theorem State.modTw0_poison (s : State) (f : Tw0 → Tw0) : (State.modTw0 s f).poison = s.poison := rfl
@[simp] theorem State.modTw0_fresh (s : State) (f : Tw0 → Tw0) : (State.modTw0 s f).fresh = s.fresh := rfl
@[simp] theorem State.modTw0_out (s : State) (f : Tw0 → Tw0) : (State.modTw0 s f).out = s.out := rfl
@[simp] theorem State.modTw0_pending (s : State) (f : Tw0 → Tw0) : (State.modTw0 s f).pending = s.pending := rfl

/-! ### begin -/

@[simp] theorem State.begin_regs (s : State) : (State.begin s).regs = s.regs := rfl
@[simp] theorem State.begin_tick (s : State) : (State.begin s).tick = s.tick := rfl
@[simp] theorem State.begin_plumb (s : State) : (State.begin s).plumb = s.plumb := rfl
@[simp] theorem State.begin_paths (s : State) : (State.begin s).paths = s.paths := rfl
@[simp] theorem State.begin_events (s : State) : (State.begin s).events = s.events := rfl
@[simp] theorem State.begin_cluster (s : State) : (State.begin s).cluster = s.cluster := rfl
@[simp] theorem State.begin_patches (s : State) : (State.begin s).patches = s.patches := rfl
@[simp] theorem State.begin_retired (s : State) : (State.begin s).retired = s.retired := rfl
@[simp] theorem State.begin_image (s : State) : (State.begin s).image = s.image := rfl
@[simp] theorem State.begin_quads (s : State) : (State.begin s).quads = s.quads := rfl
@[simp] theorem State.begin_scs (s : State) : (State.begin s).scs = s.scs := rfl
@[simp] theorem State.begin_dies (s : State) : (State.begin s).dies = s.dies := rfl
@[simp] theorem State.begin_heads (s : State) : (State.begin s).heads = s.heads := rfl
@[simp] theorem State.begin_lds (s : State) : (State.begin s).lds = s.lds := rfl
@[simp] theorem State.begin_fabric (s : State) : (State.begin s).fabric = s.fabric := rfl
@[simp] theorem State.begin_keys (s : State) : (State.begin s).keys = s.keys := rfl
@[simp] theorem State.begin_gauge (s : State) : (State.begin s).gauge = s.gauge := rfl
@[simp] theorem State.begin_rails (s : State) : (State.begin s).rails = s.rails := rfl
@[simp] theorem State.begin_seq (s : State) : (State.begin s).seq = s.seq := rfl
@[simp] theorem State.begin_pins (s : State) : (State.begin s).pins = s.pins := rfl
@[simp] theorem State.begin_group (s : State) : (State.begin s).group = s.group := rfl
@[simp] theorem State.begin_save (s : State) : (State.begin s).save = s.save := rfl
@[simp] theorem State.begin_tw0 (s : State) : (State.begin s).tw0 = s.tw0 := rfl
@[simp] theorem State.begin_tws (s : State) : (State.begin s).tws = s.tws := rfl
@[simp] theorem State.begin_cfg (s : State) : (State.begin s).cfg = s.cfg := rfl
@[simp] theorem State.begin_otp (s : State) : (State.begin s).otp = s.otp := rfl
@[simp] theorem State.begin_upd (s : State) : (State.begin s).upd = s.upd := rfl
@[simp] theorem State.begin_shake (s : State) : (State.begin s).shake = s.shake := rfl
@[simp] theorem State.begin_dram (s : State) : (State.begin s).dram = s.dram := rfl
@[simp] theorem State.begin_poison (s : State) : (State.begin s).poison = s.poison := rfl
@[simp] theorem State.begin_fresh (s : State) : (State.begin s).fresh = s.fresh := rfl
@[simp] theorem State.begin_pending (s : State) : (State.begin s).pending = s.pending := rfl

/-! ### emit -/

@[simp] theorem State.emit_regs (s : State) (o : Out) : (State.emit s o).regs = s.regs := rfl
@[simp] theorem State.emit_tick (s : State) (o : Out) : (State.emit s o).tick = s.tick := rfl
@[simp] theorem State.emit_plumb (s : State) (o : Out) : (State.emit s o).plumb = s.plumb := rfl
@[simp] theorem State.emit_paths (s : State) (o : Out) : (State.emit s o).paths = s.paths := rfl
@[simp] theorem State.emit_events (s : State) (o : Out) : (State.emit s o).events = s.events := rfl
@[simp] theorem State.emit_cluster (s : State) (o : Out) : (State.emit s o).cluster = s.cluster := rfl
@[simp] theorem State.emit_patches (s : State) (o : Out) : (State.emit s o).patches = s.patches := rfl
@[simp] theorem State.emit_retired (s : State) (o : Out) : (State.emit s o).retired = s.retired := rfl
@[simp] theorem State.emit_image (s : State) (o : Out) : (State.emit s o).image = s.image := rfl
@[simp] theorem State.emit_quads (s : State) (o : Out) : (State.emit s o).quads = s.quads := rfl
@[simp] theorem State.emit_scs (s : State) (o : Out) : (State.emit s o).scs = s.scs := rfl
@[simp] theorem State.emit_dies (s : State) (o : Out) : (State.emit s o).dies = s.dies := rfl
@[simp] theorem State.emit_heads (s : State) (o : Out) : (State.emit s o).heads = s.heads := rfl
@[simp] theorem State.emit_lds (s : State) (o : Out) : (State.emit s o).lds = s.lds := rfl
@[simp] theorem State.emit_fabric (s : State) (o : Out) : (State.emit s o).fabric = s.fabric := rfl
@[simp] theorem State.emit_keys (s : State) (o : Out) : (State.emit s o).keys = s.keys := rfl
@[simp] theorem State.emit_gauge (s : State) (o : Out) : (State.emit s o).gauge = s.gauge := rfl
@[simp] theorem State.emit_rails (s : State) (o : Out) : (State.emit s o).rails = s.rails := rfl
@[simp] theorem State.emit_seq (s : State) (o : Out) : (State.emit s o).seq = s.seq := rfl
@[simp] theorem State.emit_pins (s : State) (o : Out) : (State.emit s o).pins = s.pins := rfl
@[simp] theorem State.emit_group (s : State) (o : Out) : (State.emit s o).group = s.group := rfl
@[simp] theorem State.emit_save (s : State) (o : Out) : (State.emit s o).save = s.save := rfl
@[simp] theorem State.emit_tw0 (s : State) (o : Out) : (State.emit s o).tw0 = s.tw0 := rfl
@[simp] theorem State.emit_tws (s : State) (o : Out) : (State.emit s o).tws = s.tws := rfl
@[simp] theorem State.emit_cfg (s : State) (o : Out) : (State.emit s o).cfg = s.cfg := rfl
@[simp] theorem State.emit_otp (s : State) (o : Out) : (State.emit s o).otp = s.otp := rfl
@[simp] theorem State.emit_upd (s : State) (o : Out) : (State.emit s o).upd = s.upd := rfl
@[simp] theorem State.emit_shake (s : State) (o : Out) : (State.emit s o).shake = s.shake := rfl
@[simp] theorem State.emit_dram (s : State) (o : Out) : (State.emit s o).dram = s.dram := rfl
@[simp] theorem State.emit_poison (s : State) (o : Out) : (State.emit s o).poison = s.poison := rfl
@[simp] theorem State.emit_fresh (s : State) (o : Out) : (State.emit s o).fresh = s.fresh := rfl
@[simp] theorem State.emit_pending (s : State) (o : Out) : (State.emit s o).pending = s.pending := rfl

/-! ### atCycle -/

@[simp] theorem State.atCycle_regs (s : State) (c : Nat) : (State.atCycle s c).regs = s.regs := rfl
@[simp] theorem State.atCycle_plumb (s : State) (c : Nat) : (State.atCycle s c).plumb = s.plumb := rfl
@[simp] theorem State.atCycle_paths (s : State) (c : Nat) : (State.atCycle s c).paths = s.paths := rfl
@[simp] theorem State.atCycle_events (s : State) (c : Nat) : (State.atCycle s c).events = s.events := rfl
@[simp] theorem State.atCycle_cluster (s : State) (c : Nat) : (State.atCycle s c).cluster = s.cluster := rfl
@[simp] theorem State.atCycle_patches (s : State) (c : Nat) : (State.atCycle s c).patches = s.patches := rfl
@[simp] theorem State.atCycle_retired (s : State) (c : Nat) : (State.atCycle s c).retired = s.retired := rfl
@[simp] theorem State.atCycle_image (s : State) (c : Nat) : (State.atCycle s c).image = s.image := rfl
@[simp] theorem State.atCycle_quads (s : State) (c : Nat) : (State.atCycle s c).quads = s.quads := rfl
@[simp] theorem State.atCycle_scs (s : State) (c : Nat) : (State.atCycle s c).scs = s.scs := rfl
@[simp] theorem State.atCycle_dies (s : State) (c : Nat) : (State.atCycle s c).dies = s.dies := rfl
@[simp] theorem State.atCycle_heads (s : State) (c : Nat) : (State.atCycle s c).heads = s.heads := rfl
@[simp] theorem State.atCycle_lds (s : State) (c : Nat) : (State.atCycle s c).lds = s.lds := rfl
@[simp] theorem State.atCycle_fabric (s : State) (c : Nat) : (State.atCycle s c).fabric = s.fabric := rfl
@[simp] theorem State.atCycle_keys (s : State) (c : Nat) : (State.atCycle s c).keys = s.keys := rfl
@[simp] theorem State.atCycle_gauge (s : State) (c : Nat) : (State.atCycle s c).gauge = s.gauge := rfl
@[simp] theorem State.atCycle_rails (s : State) (c : Nat) : (State.atCycle s c).rails = s.rails := rfl
@[simp] theorem State.atCycle_seq (s : State) (c : Nat) : (State.atCycle s c).seq = s.seq := rfl
@[simp] theorem State.atCycle_pins (s : State) (c : Nat) : (State.atCycle s c).pins = s.pins := rfl
@[simp] theorem State.atCycle_group (s : State) (c : Nat) : (State.atCycle s c).group = s.group := rfl
@[simp] theorem State.atCycle_save (s : State) (c : Nat) : (State.atCycle s c).save = s.save := rfl
@[simp] theorem State.atCycle_tw0 (s : State) (c : Nat) : (State.atCycle s c).tw0 = s.tw0 := rfl
@[simp] theorem State.atCycle_tws (s : State) (c : Nat) : (State.atCycle s c).tws = s.tws := rfl
@[simp] theorem State.atCycle_cfg (s : State) (c : Nat) : (State.atCycle s c).cfg = s.cfg := rfl
@[simp] theorem State.atCycle_otp (s : State) (c : Nat) : (State.atCycle s c).otp = s.otp := rfl
@[simp] theorem State.atCycle_upd (s : State) (c : Nat) : (State.atCycle s c).upd = s.upd := rfl
@[simp] theorem State.atCycle_shake (s : State) (c : Nat) : (State.atCycle s c).shake = s.shake := rfl
@[simp] theorem State.atCycle_dram (s : State) (c : Nat) : (State.atCycle s c).dram = s.dram := rfl
@[simp] theorem State.atCycle_poison (s : State) (c : Nat) : (State.atCycle s c).poison = s.poison := rfl
@[simp] theorem State.atCycle_fresh (s : State) (c : Nat) : (State.atCycle s c).fresh = s.fresh := rfl
@[simp] theorem State.atCycle_out (s : State) (c : Nat) : (State.atCycle s c).out = s.out := rfl
@[simp] theorem State.atCycle_pending (s : State) (c : Nat) : (State.atCycle s c).pending = s.pending := rfl

/-! ### takeFree -/

@[simp] theorem State.takeFree_regs (s : State) : ((State.takeFree s).2).regs = s.regs := rfl
@[simp] theorem State.takeFree_tick (s : State) : ((State.takeFree s).2).tick = s.tick := rfl
@[simp] theorem State.takeFree_plumb (s : State) : ((State.takeFree s).2).plumb = s.plumb := rfl
@[simp] theorem State.takeFree_paths (s : State) : ((State.takeFree s).2).paths = s.paths := rfl
@[simp] theorem State.takeFree_events (s : State) : ((State.takeFree s).2).events = s.events := rfl
@[simp] theorem State.takeFree_cluster (s : State) : ((State.takeFree s).2).cluster = s.cluster := rfl
@[simp] theorem State.takeFree_patches (s : State) : ((State.takeFree s).2).patches = s.patches := rfl
@[simp] theorem State.takeFree_retired (s : State) : ((State.takeFree s).2).retired = s.retired := rfl
@[simp] theorem State.takeFree_image (s : State) : ((State.takeFree s).2).image = s.image := rfl
@[simp] theorem State.takeFree_quads (s : State) : ((State.takeFree s).2).quads = s.quads := rfl
@[simp] theorem State.takeFree_scs (s : State) : ((State.takeFree s).2).scs = s.scs := rfl
@[simp] theorem State.takeFree_dies (s : State) : ((State.takeFree s).2).dies = s.dies := rfl
@[simp] theorem State.takeFree_heads (s : State) : ((State.takeFree s).2).heads = s.heads := rfl
@[simp] theorem State.takeFree_lds (s : State) : ((State.takeFree s).2).lds = s.lds := rfl
@[simp] theorem State.takeFree_fabric (s : State) : ((State.takeFree s).2).fabric = s.fabric := rfl
@[simp] theorem State.takeFree_keys (s : State) : ((State.takeFree s).2).keys = s.keys := rfl
@[simp] theorem State.takeFree_gauge (s : State) : ((State.takeFree s).2).gauge = s.gauge := rfl
@[simp] theorem State.takeFree_rails (s : State) : ((State.takeFree s).2).rails = s.rails := rfl
@[simp] theorem State.takeFree_seq (s : State) : ((State.takeFree s).2).seq = s.seq := rfl
@[simp] theorem State.takeFree_pins (s : State) : ((State.takeFree s).2).pins = s.pins := rfl
@[simp] theorem State.takeFree_group (s : State) : ((State.takeFree s).2).group = s.group := rfl
@[simp] theorem State.takeFree_save (s : State) : ((State.takeFree s).2).save = s.save := rfl
@[simp] theorem State.takeFree_tw0 (s : State) : ((State.takeFree s).2).tw0 = s.tw0 := rfl
@[simp] theorem State.takeFree_tws (s : State) : ((State.takeFree s).2).tws = s.tws := rfl
@[simp] theorem State.takeFree_cfg (s : State) : ((State.takeFree s).2).cfg = s.cfg := rfl
@[simp] theorem State.takeFree_otp (s : State) : ((State.takeFree s).2).otp = s.otp := rfl
@[simp] theorem State.takeFree_upd (s : State) : ((State.takeFree s).2).upd = s.upd := rfl
@[simp] theorem State.takeFree_shake (s : State) : ((State.takeFree s).2).shake = s.shake := rfl
@[simp] theorem State.takeFree_dram (s : State) : ((State.takeFree s).2).dram = s.dram := rfl
@[simp] theorem State.takeFree_poison (s : State) : ((State.takeFree s).2).poison = s.poison := rfl
@[simp] theorem State.takeFree_out (s : State) : ((State.takeFree s).2).out = s.out := rfl
@[simp] theorem State.takeFree_pending (s : State) : ((State.takeFree s).2).pending = s.pending := rfl

/-! ### wr -/

@[simp] theorem State.wr_tick (s : State) (off : Nat) (w : Word) : (State.wr s off w).tick = s.tick := rfl
@[simp] theorem State.wr_plumb (s : State) (off : Nat) (w : Word) : (State.wr s off w).plumb = s.plumb := rfl
@[simp] theorem State.wr_paths (s : State) (off : Nat) (w : Word) : (State.wr s off w).paths = s.paths := rfl
@[simp] theorem State.wr_events (s : State) (off : Nat) (w : Word) : (State.wr s off w).events = s.events := rfl
@[simp] theorem State.wr_cluster (s : State) (off : Nat) (w : Word) : (State.wr s off w).cluster = s.cluster := rfl
@[simp] theorem State.wr_patches (s : State) (off : Nat) (w : Word) : (State.wr s off w).patches = s.patches := rfl
@[simp] theorem State.wr_retired (s : State) (off : Nat) (w : Word) : (State.wr s off w).retired = s.retired := rfl
@[simp] theorem State.wr_image (s : State) (off : Nat) (w : Word) : (State.wr s off w).image = s.image := rfl
@[simp] theorem State.wr_quads (s : State) (off : Nat) (w : Word) : (State.wr s off w).quads = s.quads := rfl
@[simp] theorem State.wr_scs (s : State) (off : Nat) (w : Word) : (State.wr s off w).scs = s.scs := rfl
@[simp] theorem State.wr_dies (s : State) (off : Nat) (w : Word) : (State.wr s off w).dies = s.dies := rfl
@[simp] theorem State.wr_heads (s : State) (off : Nat) (w : Word) : (State.wr s off w).heads = s.heads := rfl
@[simp] theorem State.wr_lds (s : State) (off : Nat) (w : Word) : (State.wr s off w).lds = s.lds := rfl
@[simp] theorem State.wr_fabric (s : State) (off : Nat) (w : Word) : (State.wr s off w).fabric = s.fabric := rfl
@[simp] theorem State.wr_keys (s : State) (off : Nat) (w : Word) : (State.wr s off w).keys = s.keys := rfl
@[simp] theorem State.wr_gauge (s : State) (off : Nat) (w : Word) : (State.wr s off w).gauge = s.gauge := rfl
@[simp] theorem State.wr_rails (s : State) (off : Nat) (w : Word) : (State.wr s off w).rails = s.rails := rfl
@[simp] theorem State.wr_seq (s : State) (off : Nat) (w : Word) : (State.wr s off w).seq = s.seq := rfl
@[simp] theorem State.wr_pins (s : State) (off : Nat) (w : Word) : (State.wr s off w).pins = s.pins := rfl
@[simp] theorem State.wr_group (s : State) (off : Nat) (w : Word) : (State.wr s off w).group = s.group := rfl
@[simp] theorem State.wr_save (s : State) (off : Nat) (w : Word) : (State.wr s off w).save = s.save := rfl
@[simp] theorem State.wr_tw0 (s : State) (off : Nat) (w : Word) : (State.wr s off w).tw0 = s.tw0 := rfl
@[simp] theorem State.wr_tws (s : State) (off : Nat) (w : Word) : (State.wr s off w).tws = s.tws := rfl
@[simp] theorem State.wr_cfg (s : State) (off : Nat) (w : Word) : (State.wr s off w).cfg = s.cfg := rfl
@[simp] theorem State.wr_otp (s : State) (off : Nat) (w : Word) : (State.wr s off w).otp = s.otp := rfl
@[simp] theorem State.wr_upd (s : State) (off : Nat) (w : Word) : (State.wr s off w).upd = s.upd := rfl
@[simp] theorem State.wr_shake (s : State) (off : Nat) (w : Word) : (State.wr s off w).shake = s.shake := rfl
@[simp] theorem State.wr_dram (s : State) (off : Nat) (w : Word) : (State.wr s off w).dram = s.dram := rfl
@[simp] theorem State.wr_poison (s : State) (off : Nat) (w : Word) : (State.wr s off w).poison = s.poison := rfl
@[simp] theorem State.wr_fresh (s : State) (off : Nat) (w : Word) : (State.wr s off w).fresh = s.fresh := rfl
@[simp] theorem State.wr_out (s : State) (off : Nat) (w : Word) : (State.wr s off w).out = s.out := rfl
@[simp] theorem State.wr_pending (s : State) (off : Nat) (w : Word) : (State.wr s off w).pending = s.pending := rfl

/-! ### put -/

@[simp] theorem State.put_tick (s : State) (f : Fld) (v : Nat) : (State.put s f v).tick = s.tick := rfl
@[simp] theorem State.put_plumb (s : State) (f : Fld) (v : Nat) : (State.put s f v).plumb = s.plumb := rfl
@[simp] theorem State.put_paths (s : State) (f : Fld) (v : Nat) : (State.put s f v).paths = s.paths := rfl
@[simp] theorem State.put_events (s : State) (f : Fld) (v : Nat) : (State.put s f v).events = s.events := rfl
@[simp] theorem State.put_cluster (s : State) (f : Fld) (v : Nat) : (State.put s f v).cluster = s.cluster := rfl
@[simp] theorem State.put_patches (s : State) (f : Fld) (v : Nat) : (State.put s f v).patches = s.patches := rfl
@[simp] theorem State.put_retired (s : State) (f : Fld) (v : Nat) : (State.put s f v).retired = s.retired := rfl
@[simp] theorem State.put_image (s : State) (f : Fld) (v : Nat) : (State.put s f v).image = s.image := rfl
@[simp] theorem State.put_quads (s : State) (f : Fld) (v : Nat) : (State.put s f v).quads = s.quads := rfl
@[simp] theorem State.put_scs (s : State) (f : Fld) (v : Nat) : (State.put s f v).scs = s.scs := rfl
@[simp] theorem State.put_dies (s : State) (f : Fld) (v : Nat) : (State.put s f v).dies = s.dies := rfl
@[simp] theorem State.put_heads (s : State) (f : Fld) (v : Nat) : (State.put s f v).heads = s.heads := rfl
@[simp] theorem State.put_lds (s : State) (f : Fld) (v : Nat) : (State.put s f v).lds = s.lds := rfl
@[simp] theorem State.put_fabric (s : State) (f : Fld) (v : Nat) : (State.put s f v).fabric = s.fabric := rfl
@[simp] theorem State.put_keys (s : State) (f : Fld) (v : Nat) : (State.put s f v).keys = s.keys := rfl
@[simp] theorem State.put_gauge (s : State) (f : Fld) (v : Nat) : (State.put s f v).gauge = s.gauge := rfl
@[simp] theorem State.put_rails (s : State) (f : Fld) (v : Nat) : (State.put s f v).rails = s.rails := rfl
@[simp] theorem State.put_seq (s : State) (f : Fld) (v : Nat) : (State.put s f v).seq = s.seq := rfl
@[simp] theorem State.put_pins (s : State) (f : Fld) (v : Nat) : (State.put s f v).pins = s.pins := rfl
@[simp] theorem State.put_group (s : State) (f : Fld) (v : Nat) : (State.put s f v).group = s.group := rfl
@[simp] theorem State.put_save (s : State) (f : Fld) (v : Nat) : (State.put s f v).save = s.save := rfl
@[simp] theorem State.put_tw0 (s : State) (f : Fld) (v : Nat) : (State.put s f v).tw0 = s.tw0 := rfl
@[simp] theorem State.put_tws (s : State) (f : Fld) (v : Nat) : (State.put s f v).tws = s.tws := rfl
@[simp] theorem State.put_cfg (s : State) (f : Fld) (v : Nat) : (State.put s f v).cfg = s.cfg := rfl
@[simp] theorem State.put_otp (s : State) (f : Fld) (v : Nat) : (State.put s f v).otp = s.otp := rfl
@[simp] theorem State.put_upd (s : State) (f : Fld) (v : Nat) : (State.put s f v).upd = s.upd := rfl
@[simp] theorem State.put_shake (s : State) (f : Fld) (v : Nat) : (State.put s f v).shake = s.shake := rfl
@[simp] theorem State.put_dram (s : State) (f : Fld) (v : Nat) : (State.put s f v).dram = s.dram := rfl
@[simp] theorem State.put_poison (s : State) (f : Fld) (v : Nat) : (State.put s f v).poison = s.poison := rfl
@[simp] theorem State.put_fresh (s : State) (f : Fld) (v : Nat) : (State.put s f v).fresh = s.fresh := rfl
@[simp] theorem State.put_out (s : State) (f : Fld) (v : Nat) : (State.put s f v).out = s.out := rfl
@[simp] theorem State.put_pending (s : State) (f : Fld) (v : Nat) : (State.put s f v).pending = s.pending := rfl

/-! ### putB -/

@[simp] theorem State.putB_tick (s : State) (f : Fld) (b : Bool) : (State.putB s f b).tick = s.tick := rfl
@[simp] theorem State.putB_plumb (s : State) (f : Fld) (b : Bool) : (State.putB s f b).plumb = s.plumb := rfl
@[simp] theorem State.putB_paths (s : State) (f : Fld) (b : Bool) : (State.putB s f b).paths = s.paths := rfl
@[simp] theorem State.putB_events (s : State) (f : Fld) (b : Bool) : (State.putB s f b).events = s.events := rfl
@[simp] theorem State.putB_cluster (s : State) (f : Fld) (b : Bool) : (State.putB s f b).cluster = s.cluster := rfl
@[simp] theorem State.putB_patches (s : State) (f : Fld) (b : Bool) : (State.putB s f b).patches = s.patches := rfl
@[simp] theorem State.putB_retired (s : State) (f : Fld) (b : Bool) : (State.putB s f b).retired = s.retired := rfl
@[simp] theorem State.putB_image (s : State) (f : Fld) (b : Bool) : (State.putB s f b).image = s.image := rfl
@[simp] theorem State.putB_quads (s : State) (f : Fld) (b : Bool) : (State.putB s f b).quads = s.quads := rfl
@[simp] theorem State.putB_scs (s : State) (f : Fld) (b : Bool) : (State.putB s f b).scs = s.scs := rfl
@[simp] theorem State.putB_dies (s : State) (f : Fld) (b : Bool) : (State.putB s f b).dies = s.dies := rfl
@[simp] theorem State.putB_heads (s : State) (f : Fld) (b : Bool) : (State.putB s f b).heads = s.heads := rfl
@[simp] theorem State.putB_lds (s : State) (f : Fld) (b : Bool) : (State.putB s f b).lds = s.lds := rfl
@[simp] theorem State.putB_fabric (s : State) (f : Fld) (b : Bool) : (State.putB s f b).fabric = s.fabric := rfl
@[simp] theorem State.putB_keys (s : State) (f : Fld) (b : Bool) : (State.putB s f b).keys = s.keys := rfl
@[simp] theorem State.putB_gauge (s : State) (f : Fld) (b : Bool) : (State.putB s f b).gauge = s.gauge := rfl
@[simp] theorem State.putB_rails (s : State) (f : Fld) (b : Bool) : (State.putB s f b).rails = s.rails := rfl
@[simp] theorem State.putB_seq (s : State) (f : Fld) (b : Bool) : (State.putB s f b).seq = s.seq := rfl
@[simp] theorem State.putB_pins (s : State) (f : Fld) (b : Bool) : (State.putB s f b).pins = s.pins := rfl
@[simp] theorem State.putB_group (s : State) (f : Fld) (b : Bool) : (State.putB s f b).group = s.group := rfl
@[simp] theorem State.putB_save (s : State) (f : Fld) (b : Bool) : (State.putB s f b).save = s.save := rfl
@[simp] theorem State.putB_tw0 (s : State) (f : Fld) (b : Bool) : (State.putB s f b).tw0 = s.tw0 := rfl
@[simp] theorem State.putB_tws (s : State) (f : Fld) (b : Bool) : (State.putB s f b).tws = s.tws := rfl
@[simp] theorem State.putB_cfg (s : State) (f : Fld) (b : Bool) : (State.putB s f b).cfg = s.cfg := rfl
@[simp] theorem State.putB_otp (s : State) (f : Fld) (b : Bool) : (State.putB s f b).otp = s.otp := rfl
@[simp] theorem State.putB_upd (s : State) (f : Fld) (b : Bool) : (State.putB s f b).upd = s.upd := rfl
@[simp] theorem State.putB_shake (s : State) (f : Fld) (b : Bool) : (State.putB s f b).shake = s.shake := rfl
@[simp] theorem State.putB_dram (s : State) (f : Fld) (b : Bool) : (State.putB s f b).dram = s.dram := rfl
@[simp] theorem State.putB_poison (s : State) (f : Fld) (b : Bool) : (State.putB s f b).poison = s.poison := rfl
@[simp] theorem State.putB_fresh (s : State) (f : Fld) (b : Bool) : (State.putB s f b).fresh = s.fresh := rfl
@[simp] theorem State.putB_out (s : State) (f : Fld) (b : Bool) : (State.putB s f b).out = s.out := rfl
@[simp] theorem State.putB_pending (s : State) (f : Fld) (b : Bool) : (State.putB s f b).pending = s.pending := rfl

/-! ### bump -/

@[simp] theorem State.bump_tick (s : State) (f : Fld) (n : Nat) : (State.bump s f n).tick = s.tick := rfl
@[simp] theorem State.bump_plumb (s : State) (f : Fld) (n : Nat) : (State.bump s f n).plumb = s.plumb := rfl
@[simp] theorem State.bump_paths (s : State) (f : Fld) (n : Nat) : (State.bump s f n).paths = s.paths := rfl
@[simp] theorem State.bump_events (s : State) (f : Fld) (n : Nat) : (State.bump s f n).events = s.events := rfl
@[simp] theorem State.bump_cluster (s : State) (f : Fld) (n : Nat) : (State.bump s f n).cluster = s.cluster := rfl
@[simp] theorem State.bump_patches (s : State) (f : Fld) (n : Nat) : (State.bump s f n).patches = s.patches := rfl
@[simp] theorem State.bump_retired (s : State) (f : Fld) (n : Nat) : (State.bump s f n).retired = s.retired := rfl
@[simp] theorem State.bump_image (s : State) (f : Fld) (n : Nat) : (State.bump s f n).image = s.image := rfl
@[simp] theorem State.bump_quads (s : State) (f : Fld) (n : Nat) : (State.bump s f n).quads = s.quads := rfl
@[simp] theorem State.bump_scs (s : State) (f : Fld) (n : Nat) : (State.bump s f n).scs = s.scs := rfl
@[simp] theorem State.bump_dies (s : State) (f : Fld) (n : Nat) : (State.bump s f n).dies = s.dies := rfl
@[simp] theorem State.bump_heads (s : State) (f : Fld) (n : Nat) : (State.bump s f n).heads = s.heads := rfl
@[simp] theorem State.bump_lds (s : State) (f : Fld) (n : Nat) : (State.bump s f n).lds = s.lds := rfl
@[simp] theorem State.bump_fabric (s : State) (f : Fld) (n : Nat) : (State.bump s f n).fabric = s.fabric := rfl
@[simp] theorem State.bump_keys (s : State) (f : Fld) (n : Nat) : (State.bump s f n).keys = s.keys := rfl
@[simp] theorem State.bump_gauge (s : State) (f : Fld) (n : Nat) : (State.bump s f n).gauge = s.gauge := rfl
@[simp] theorem State.bump_rails (s : State) (f : Fld) (n : Nat) : (State.bump s f n).rails = s.rails := rfl
@[simp] theorem State.bump_seq (s : State) (f : Fld) (n : Nat) : (State.bump s f n).seq = s.seq := rfl
@[simp] theorem State.bump_pins (s : State) (f : Fld) (n : Nat) : (State.bump s f n).pins = s.pins := rfl
@[simp] theorem State.bump_group (s : State) (f : Fld) (n : Nat) : (State.bump s f n).group = s.group := rfl
@[simp] theorem State.bump_save (s : State) (f : Fld) (n : Nat) : (State.bump s f n).save = s.save := rfl
@[simp] theorem State.bump_tw0 (s : State) (f : Fld) (n : Nat) : (State.bump s f n).tw0 = s.tw0 := rfl
@[simp] theorem State.bump_tws (s : State) (f : Fld) (n : Nat) : (State.bump s f n).tws = s.tws := rfl
@[simp] theorem State.bump_cfg (s : State) (f : Fld) (n : Nat) : (State.bump s f n).cfg = s.cfg := rfl
@[simp] theorem State.bump_otp (s : State) (f : Fld) (n : Nat) : (State.bump s f n).otp = s.otp := rfl
@[simp] theorem State.bump_upd (s : State) (f : Fld) (n : Nat) : (State.bump s f n).upd = s.upd := rfl
@[simp] theorem State.bump_shake (s : State) (f : Fld) (n : Nat) : (State.bump s f n).shake = s.shake := rfl
@[simp] theorem State.bump_dram (s : State) (f : Fld) (n : Nat) : (State.bump s f n).dram = s.dram := rfl
@[simp] theorem State.bump_poison (s : State) (f : Fld) (n : Nat) : (State.bump s f n).poison = s.poison := rfl
@[simp] theorem State.bump_fresh (s : State) (f : Fld) (n : Nat) : (State.bump s f n).fresh = s.fresh := rfl
@[simp] theorem State.bump_out (s : State) (f : Fld) (n : Nat) : (State.bump s f n).out = s.out := rfl
@[simp] theorem State.bump_pending (s : State) (f : Fld) (n : Nat) : (State.bump s f n).pending = s.pending := rfl

/-! ### putSat -/

@[simp] theorem State.putSat_tick (s : State) (f : Fld) (v : Nat) : (State.putSat s f v).tick = s.tick := rfl
@[simp] theorem State.putSat_plumb (s : State) (f : Fld) (v : Nat) : (State.putSat s f v).plumb = s.plumb := rfl
@[simp] theorem State.putSat_paths (s : State) (f : Fld) (v : Nat) : (State.putSat s f v).paths = s.paths := rfl
@[simp] theorem State.putSat_events (s : State) (f : Fld) (v : Nat) : (State.putSat s f v).events = s.events := rfl
@[simp] theorem State.putSat_cluster (s : State) (f : Fld) (v : Nat) : (State.putSat s f v).cluster = s.cluster := rfl
@[simp] theorem State.putSat_patches (s : State) (f : Fld) (v : Nat) : (State.putSat s f v).patches = s.patches := rfl
@[simp] theorem State.putSat_retired (s : State) (f : Fld) (v : Nat) : (State.putSat s f v).retired = s.retired := rfl
@[simp] theorem State.putSat_image (s : State) (f : Fld) (v : Nat) : (State.putSat s f v).image = s.image := rfl
@[simp] theorem State.putSat_quads (s : State) (f : Fld) (v : Nat) : (State.putSat s f v).quads = s.quads := rfl
@[simp] theorem State.putSat_scs (s : State) (f : Fld) (v : Nat) : (State.putSat s f v).scs = s.scs := rfl
@[simp] theorem State.putSat_dies (s : State) (f : Fld) (v : Nat) : (State.putSat s f v).dies = s.dies := rfl
@[simp] theorem State.putSat_heads (s : State) (f : Fld) (v : Nat) : (State.putSat s f v).heads = s.heads := rfl
@[simp] theorem State.putSat_lds (s : State) (f : Fld) (v : Nat) : (State.putSat s f v).lds = s.lds := rfl
@[simp] theorem State.putSat_fabric (s : State) (f : Fld) (v : Nat) : (State.putSat s f v).fabric = s.fabric := rfl
@[simp] theorem State.putSat_keys (s : State) (f : Fld) (v : Nat) : (State.putSat s f v).keys = s.keys := rfl
@[simp] theorem State.putSat_gauge (s : State) (f : Fld) (v : Nat) : (State.putSat s f v).gauge = s.gauge := rfl
@[simp] theorem State.putSat_rails (s : State) (f : Fld) (v : Nat) : (State.putSat s f v).rails = s.rails := rfl
@[simp] theorem State.putSat_seq (s : State) (f : Fld) (v : Nat) : (State.putSat s f v).seq = s.seq := rfl
@[simp] theorem State.putSat_pins (s : State) (f : Fld) (v : Nat) : (State.putSat s f v).pins = s.pins := rfl
@[simp] theorem State.putSat_group (s : State) (f : Fld) (v : Nat) : (State.putSat s f v).group = s.group := rfl
@[simp] theorem State.putSat_save (s : State) (f : Fld) (v : Nat) : (State.putSat s f v).save = s.save := rfl
@[simp] theorem State.putSat_tw0 (s : State) (f : Fld) (v : Nat) : (State.putSat s f v).tw0 = s.tw0 := rfl
@[simp] theorem State.putSat_tws (s : State) (f : Fld) (v : Nat) : (State.putSat s f v).tws = s.tws := rfl
@[simp] theorem State.putSat_cfg (s : State) (f : Fld) (v : Nat) : (State.putSat s f v).cfg = s.cfg := rfl
@[simp] theorem State.putSat_otp (s : State) (f : Fld) (v : Nat) : (State.putSat s f v).otp = s.otp := rfl
@[simp] theorem State.putSat_upd (s : State) (f : Fld) (v : Nat) : (State.putSat s f v).upd = s.upd := rfl
@[simp] theorem State.putSat_shake (s : State) (f : Fld) (v : Nat) : (State.putSat s f v).shake = s.shake := rfl
@[simp] theorem State.putSat_dram (s : State) (f : Fld) (v : Nat) : (State.putSat s f v).dram = s.dram := rfl
@[simp] theorem State.putSat_poison (s : State) (f : Fld) (v : Nat) : (State.putSat s f v).poison = s.poison := rfl
@[simp] theorem State.putSat_fresh (s : State) (f : Fld) (v : Nat) : (State.putSat s f v).fresh = s.fresh := rfl
@[simp] theorem State.putSat_out (s : State) (f : Fld) (v : Nat) : (State.putSat s f v).out = s.out := rfl
@[simp] theorem State.putSat_pending (s : State) (f : Fld) (v : Nat) : (State.putSat s f v).pending = s.pending := rfl

/-! ### put64 -/

@[simp] theorem State.put64_tick (s : State) (lo hi : Nat) (v : Nat) : (State.put64 s lo hi v).tick = s.tick := rfl
@[simp] theorem State.put64_plumb (s : State) (lo hi : Nat) (v : Nat) : (State.put64 s lo hi v).plumb = s.plumb := rfl
@[simp] theorem State.put64_paths (s : State) (lo hi : Nat) (v : Nat) : (State.put64 s lo hi v).paths = s.paths := rfl
@[simp] theorem State.put64_events (s : State) (lo hi : Nat) (v : Nat) : (State.put64 s lo hi v).events = s.events := rfl
@[simp] theorem State.put64_cluster (s : State) (lo hi : Nat) (v : Nat) : (State.put64 s lo hi v).cluster = s.cluster := rfl
@[simp] theorem State.put64_patches (s : State) (lo hi : Nat) (v : Nat) : (State.put64 s lo hi v).patches = s.patches := rfl
@[simp] theorem State.put64_retired (s : State) (lo hi : Nat) (v : Nat) : (State.put64 s lo hi v).retired = s.retired := rfl
@[simp] theorem State.put64_image (s : State) (lo hi : Nat) (v : Nat) : (State.put64 s lo hi v).image = s.image := rfl
@[simp] theorem State.put64_quads (s : State) (lo hi : Nat) (v : Nat) : (State.put64 s lo hi v).quads = s.quads := rfl
@[simp] theorem State.put64_scs (s : State) (lo hi : Nat) (v : Nat) : (State.put64 s lo hi v).scs = s.scs := rfl
@[simp] theorem State.put64_dies (s : State) (lo hi : Nat) (v : Nat) : (State.put64 s lo hi v).dies = s.dies := rfl
@[simp] theorem State.put64_heads (s : State) (lo hi : Nat) (v : Nat) : (State.put64 s lo hi v).heads = s.heads := rfl
@[simp] theorem State.put64_lds (s : State) (lo hi : Nat) (v : Nat) : (State.put64 s lo hi v).lds = s.lds := rfl
@[simp] theorem State.put64_fabric (s : State) (lo hi : Nat) (v : Nat) : (State.put64 s lo hi v).fabric = s.fabric := rfl
@[simp] theorem State.put64_keys (s : State) (lo hi : Nat) (v : Nat) : (State.put64 s lo hi v).keys = s.keys := rfl
@[simp] theorem State.put64_gauge (s : State) (lo hi : Nat) (v : Nat) : (State.put64 s lo hi v).gauge = s.gauge := rfl
@[simp] theorem State.put64_rails (s : State) (lo hi : Nat) (v : Nat) : (State.put64 s lo hi v).rails = s.rails := rfl
@[simp] theorem State.put64_seq (s : State) (lo hi : Nat) (v : Nat) : (State.put64 s lo hi v).seq = s.seq := rfl
@[simp] theorem State.put64_pins (s : State) (lo hi : Nat) (v : Nat) : (State.put64 s lo hi v).pins = s.pins := rfl
@[simp] theorem State.put64_group (s : State) (lo hi : Nat) (v : Nat) : (State.put64 s lo hi v).group = s.group := rfl
@[simp] theorem State.put64_save (s : State) (lo hi : Nat) (v : Nat) : (State.put64 s lo hi v).save = s.save := rfl
@[simp] theorem State.put64_tw0 (s : State) (lo hi : Nat) (v : Nat) : (State.put64 s lo hi v).tw0 = s.tw0 := rfl
@[simp] theorem State.put64_tws (s : State) (lo hi : Nat) (v : Nat) : (State.put64 s lo hi v).tws = s.tws := rfl
@[simp] theorem State.put64_cfg (s : State) (lo hi : Nat) (v : Nat) : (State.put64 s lo hi v).cfg = s.cfg := rfl
@[simp] theorem State.put64_otp (s : State) (lo hi : Nat) (v : Nat) : (State.put64 s lo hi v).otp = s.otp := rfl
@[simp] theorem State.put64_upd (s : State) (lo hi : Nat) (v : Nat) : (State.put64 s lo hi v).upd = s.upd := rfl
@[simp] theorem State.put64_shake (s : State) (lo hi : Nat) (v : Nat) : (State.put64 s lo hi v).shake = s.shake := rfl
@[simp] theorem State.put64_dram (s : State) (lo hi : Nat) (v : Nat) : (State.put64 s lo hi v).dram = s.dram := rfl
@[simp] theorem State.put64_poison (s : State) (lo hi : Nat) (v : Nat) : (State.put64 s lo hi v).poison = s.poison := rfl
@[simp] theorem State.put64_fresh (s : State) (lo hi : Nat) (v : Nat) : (State.put64 s lo hi v).fresh = s.fresh := rfl
@[simp] theorem State.put64_out (s : State) (lo hi : Nat) (v : Nat) : (State.put64 s lo hi v).out = s.out := rfl
@[simp] theorem State.put64_pending (s : State) (lo hi : Nat) (v : Nat) : (State.put64 s lo hi v).pending = s.pending := rfl

/-! ### Messages (R478): the registers and the pending messages -/

@[simp] theorem State.raise_tick (s : State) (m : FaultMsg) : (State.raise s m).tick = s.tick := by
  unfold State.raise
  dsimp only
  split
  · rfl
  · split <;> rfl
@[simp] theorem State.raise_plumb (s : State) (m : FaultMsg) : (State.raise s m).plumb = s.plumb := by
  unfold State.raise
  dsimp only
  split
  · rfl
  · split <;> rfl
@[simp] theorem State.raise_paths (s : State) (m : FaultMsg) : (State.raise s m).paths = s.paths := by
  unfold State.raise
  dsimp only
  split
  · rfl
  · split <;> rfl
@[simp] theorem State.raise_cluster (s : State) (m : FaultMsg) : (State.raise s m).cluster = s.cluster := by
  unfold State.raise
  dsimp only
  split
  · rfl
  · split <;> rfl
@[simp] theorem State.raise_patches (s : State) (m : FaultMsg) : (State.raise s m).patches = s.patches := by
  unfold State.raise
  dsimp only
  split
  · rfl
  · split <;> rfl
@[simp] theorem State.raise_retired (s : State) (m : FaultMsg) : (State.raise s m).retired = s.retired := by
  unfold State.raise
  dsimp only
  split
  · rfl
  · split <;> rfl
@[simp] theorem State.raise_image (s : State) (m : FaultMsg) : (State.raise s m).image = s.image := by
  unfold State.raise
  dsimp only
  split
  · rfl
  · split <;> rfl
@[simp] theorem State.raise_quads (s : State) (m : FaultMsg) : (State.raise s m).quads = s.quads := by
  unfold State.raise
  dsimp only
  split
  · rfl
  · split <;> rfl
@[simp] theorem State.raise_scs (s : State) (m : FaultMsg) : (State.raise s m).scs = s.scs := by
  unfold State.raise
  dsimp only
  split
  · rfl
  · split <;> rfl
@[simp] theorem State.raise_dies (s : State) (m : FaultMsg) : (State.raise s m).dies = s.dies := by
  unfold State.raise
  dsimp only
  split
  · rfl
  · split <;> rfl
@[simp] theorem State.raise_heads (s : State) (m : FaultMsg) : (State.raise s m).heads = s.heads := by
  unfold State.raise
  dsimp only
  split
  · rfl
  · split <;> rfl
@[simp] theorem State.raise_lds (s : State) (m : FaultMsg) : (State.raise s m).lds = s.lds := by
  unfold State.raise
  dsimp only
  split
  · rfl
  · split <;> rfl
@[simp] theorem State.raise_fabric (s : State) (m : FaultMsg) : (State.raise s m).fabric = s.fabric := by
  unfold State.raise
  dsimp only
  split
  · rfl
  · split <;> rfl
@[simp] theorem State.raise_keys (s : State) (m : FaultMsg) : (State.raise s m).keys = s.keys := by
  unfold State.raise
  dsimp only
  split
  · rfl
  · split <;> rfl
@[simp] theorem State.raise_gauge (s : State) (m : FaultMsg) : (State.raise s m).gauge = s.gauge := by
  unfold State.raise
  dsimp only
  split
  · rfl
  · split <;> rfl
@[simp] theorem State.raise_rails (s : State) (m : FaultMsg) : (State.raise s m).rails = s.rails := by
  unfold State.raise
  dsimp only
  split
  · rfl
  · split <;> rfl
@[simp] theorem State.raise_seq (s : State) (m : FaultMsg) : (State.raise s m).seq = s.seq := by
  unfold State.raise
  dsimp only
  split
  · rfl
  · split <;> rfl
@[simp] theorem State.raise_pins (s : State) (m : FaultMsg) : (State.raise s m).pins = s.pins := by
  unfold State.raise
  dsimp only
  split
  · rfl
  · split <;> rfl
@[simp] theorem State.raise_group (s : State) (m : FaultMsg) : (State.raise s m).group = s.group := by
  unfold State.raise
  dsimp only
  split
  · rfl
  · split <;> rfl
@[simp] theorem State.raise_save (s : State) (m : FaultMsg) : (State.raise s m).save = s.save := by
  unfold State.raise
  dsimp only
  split
  · rfl
  · split <;> rfl
@[simp] theorem State.raise_tw0 (s : State) (m : FaultMsg) : (State.raise s m).tw0 = s.tw0 := by
  unfold State.raise
  dsimp only
  split
  · rfl
  · split <;> rfl
@[simp] theorem State.raise_tws (s : State) (m : FaultMsg) : (State.raise s m).tws = s.tws := by
  unfold State.raise
  dsimp only
  split
  · rfl
  · split <;> rfl
@[simp] theorem State.raise_cfg (s : State) (m : FaultMsg) : (State.raise s m).cfg = s.cfg := by
  unfold State.raise
  dsimp only
  split
  · rfl
  · split <;> rfl
@[simp] theorem State.raise_otp (s : State) (m : FaultMsg) : (State.raise s m).otp = s.otp := by
  unfold State.raise
  dsimp only
  split
  · rfl
  · split <;> rfl
@[simp] theorem State.raise_upd (s : State) (m : FaultMsg) : (State.raise s m).upd = s.upd := by
  unfold State.raise
  dsimp only
  split
  · rfl
  · split <;> rfl
@[simp] theorem State.raise_shake (s : State) (m : FaultMsg) : (State.raise s m).shake = s.shake := by
  unfold State.raise
  dsimp only
  split
  · rfl
  · split <;> rfl
@[simp] theorem State.raise_dram (s : State) (m : FaultMsg) : (State.raise s m).dram = s.dram := by
  unfold State.raise
  dsimp only
  split
  · rfl
  · split <;> rfl
@[simp] theorem State.raise_poison (s : State) (m : FaultMsg) : (State.raise s m).poison = s.poison := by
  unfold State.raise
  dsimp only
  split
  · rfl
  · split <;> rfl
@[simp] theorem State.raise_fresh (s : State) (m : FaultMsg) : (State.raise s m).fresh = s.fresh := by
  unfold State.raise
  dsimp only
  split
  · rfl
  · split <;> rfl
@[simp] theorem State.raise_out (s : State) (m : FaultMsg) : (State.raise s m).out = s.out := by
  unfold State.raise
  dsimp only
  split
  · rfl
  · split <;> rfl
@[simp] theorem State.raise_pending (s : State) (m : FaultMsg) : (State.raise s m).pending = s.pending := by
  unfold State.raise
  dsimp only
  split
  · rfl
  · split <;> rfl

@[simp] theorem State.event_tick (s : State) (src kind sev : Nat) : (State.event s src kind sev).tick = s.tick := State.raise_tick _ _
@[simp] theorem State.event_plumb (s : State) (src kind sev : Nat) : (State.event s src kind sev).plumb = s.plumb := State.raise_plumb _ _
@[simp] theorem State.event_paths (s : State) (src kind sev : Nat) : (State.event s src kind sev).paths = s.paths := State.raise_paths _ _
@[simp] theorem State.event_cluster (s : State) (src kind sev : Nat) : (State.event s src kind sev).cluster = s.cluster := State.raise_cluster _ _
@[simp] theorem State.event_patches (s : State) (src kind sev : Nat) : (State.event s src kind sev).patches = s.patches := State.raise_patches _ _
@[simp] theorem State.event_retired (s : State) (src kind sev : Nat) : (State.event s src kind sev).retired = s.retired := State.raise_retired _ _
@[simp] theorem State.event_image (s : State) (src kind sev : Nat) : (State.event s src kind sev).image = s.image := State.raise_image _ _
@[simp] theorem State.event_quads (s : State) (src kind sev : Nat) : (State.event s src kind sev).quads = s.quads := State.raise_quads _ _
@[simp] theorem State.event_scs (s : State) (src kind sev : Nat) : (State.event s src kind sev).scs = s.scs := State.raise_scs _ _
@[simp] theorem State.event_dies (s : State) (src kind sev : Nat) : (State.event s src kind sev).dies = s.dies := State.raise_dies _ _
@[simp] theorem State.event_heads (s : State) (src kind sev : Nat) : (State.event s src kind sev).heads = s.heads := State.raise_heads _ _
@[simp] theorem State.event_lds (s : State) (src kind sev : Nat) : (State.event s src kind sev).lds = s.lds := State.raise_lds _ _
@[simp] theorem State.event_fabric (s : State) (src kind sev : Nat) : (State.event s src kind sev).fabric = s.fabric := State.raise_fabric _ _
@[simp] theorem State.event_keys (s : State) (src kind sev : Nat) : (State.event s src kind sev).keys = s.keys := State.raise_keys _ _
@[simp] theorem State.event_gauge (s : State) (src kind sev : Nat) : (State.event s src kind sev).gauge = s.gauge := State.raise_gauge _ _
@[simp] theorem State.event_rails (s : State) (src kind sev : Nat) : (State.event s src kind sev).rails = s.rails := State.raise_rails _ _
@[simp] theorem State.event_seq (s : State) (src kind sev : Nat) : (State.event s src kind sev).seq = s.seq := State.raise_seq _ _
@[simp] theorem State.event_pins (s : State) (src kind sev : Nat) : (State.event s src kind sev).pins = s.pins := State.raise_pins _ _
@[simp] theorem State.event_group (s : State) (src kind sev : Nat) : (State.event s src kind sev).group = s.group := State.raise_group _ _
@[simp] theorem State.event_save (s : State) (src kind sev : Nat) : (State.event s src kind sev).save = s.save := State.raise_save _ _
@[simp] theorem State.event_tw0 (s : State) (src kind sev : Nat) : (State.event s src kind sev).tw0 = s.tw0 := State.raise_tw0 _ _
@[simp] theorem State.event_tws (s : State) (src kind sev : Nat) : (State.event s src kind sev).tws = s.tws := State.raise_tws _ _
@[simp] theorem State.event_cfg (s : State) (src kind sev : Nat) : (State.event s src kind sev).cfg = s.cfg := State.raise_cfg _ _
@[simp] theorem State.event_otp (s : State) (src kind sev : Nat) : (State.event s src kind sev).otp = s.otp := State.raise_otp _ _
@[simp] theorem State.event_upd (s : State) (src kind sev : Nat) : (State.event s src kind sev).upd = s.upd := State.raise_upd _ _
@[simp] theorem State.event_shake (s : State) (src kind sev : Nat) : (State.event s src kind sev).shake = s.shake := State.raise_shake _ _
@[simp] theorem State.event_dram (s : State) (src kind sev : Nat) : (State.event s src kind sev).dram = s.dram := State.raise_dram _ _
@[simp] theorem State.event_poison (s : State) (src kind sev : Nat) : (State.event s src kind sev).poison = s.poison := State.raise_poison _ _
@[simp] theorem State.event_fresh (s : State) (src kind sev : Nat) : (State.event s src kind sev).fresh = s.fresh := State.raise_fresh _ _
@[simp] theorem State.event_out (s : State) (src kind sev : Nat) : (State.event s src kind sev).out = s.out := State.raise_out _ _
@[simp] theorem State.event_pending (s : State) (src kind sev : Nat) : (State.event s src kind sev).pending = s.pending := State.raise_pending _ _

@[simp] theorem State.eventAt_tick (s : State) (src kind sev req acc space addr : Nat) : (State.eventAt s src kind sev req acc space addr).tick = s.tick := State.raise_tick _ _
@[simp] theorem State.eventAt_plumb (s : State) (src kind sev req acc space addr : Nat) : (State.eventAt s src kind sev req acc space addr).plumb = s.plumb := State.raise_plumb _ _
@[simp] theorem State.eventAt_paths (s : State) (src kind sev req acc space addr : Nat) : (State.eventAt s src kind sev req acc space addr).paths = s.paths := State.raise_paths _ _
@[simp] theorem State.eventAt_cluster (s : State) (src kind sev req acc space addr : Nat) : (State.eventAt s src kind sev req acc space addr).cluster = s.cluster := State.raise_cluster _ _
@[simp] theorem State.eventAt_patches (s : State) (src kind sev req acc space addr : Nat) : (State.eventAt s src kind sev req acc space addr).patches = s.patches := State.raise_patches _ _
@[simp] theorem State.eventAt_retired (s : State) (src kind sev req acc space addr : Nat) : (State.eventAt s src kind sev req acc space addr).retired = s.retired := State.raise_retired _ _
@[simp] theorem State.eventAt_image (s : State) (src kind sev req acc space addr : Nat) : (State.eventAt s src kind sev req acc space addr).image = s.image := State.raise_image _ _
@[simp] theorem State.eventAt_quads (s : State) (src kind sev req acc space addr : Nat) : (State.eventAt s src kind sev req acc space addr).quads = s.quads := State.raise_quads _ _
@[simp] theorem State.eventAt_scs (s : State) (src kind sev req acc space addr : Nat) : (State.eventAt s src kind sev req acc space addr).scs = s.scs := State.raise_scs _ _
@[simp] theorem State.eventAt_dies (s : State) (src kind sev req acc space addr : Nat) : (State.eventAt s src kind sev req acc space addr).dies = s.dies := State.raise_dies _ _
@[simp] theorem State.eventAt_heads (s : State) (src kind sev req acc space addr : Nat) : (State.eventAt s src kind sev req acc space addr).heads = s.heads := State.raise_heads _ _
@[simp] theorem State.eventAt_lds (s : State) (src kind sev req acc space addr : Nat) : (State.eventAt s src kind sev req acc space addr).lds = s.lds := State.raise_lds _ _
@[simp] theorem State.eventAt_fabric (s : State) (src kind sev req acc space addr : Nat) : (State.eventAt s src kind sev req acc space addr).fabric = s.fabric := State.raise_fabric _ _
@[simp] theorem State.eventAt_keys (s : State) (src kind sev req acc space addr : Nat) : (State.eventAt s src kind sev req acc space addr).keys = s.keys := State.raise_keys _ _
@[simp] theorem State.eventAt_gauge (s : State) (src kind sev req acc space addr : Nat) : (State.eventAt s src kind sev req acc space addr).gauge = s.gauge := State.raise_gauge _ _
@[simp] theorem State.eventAt_rails (s : State) (src kind sev req acc space addr : Nat) : (State.eventAt s src kind sev req acc space addr).rails = s.rails := State.raise_rails _ _
@[simp] theorem State.eventAt_seq (s : State) (src kind sev req acc space addr : Nat) : (State.eventAt s src kind sev req acc space addr).seq = s.seq := State.raise_seq _ _
@[simp] theorem State.eventAt_pins (s : State) (src kind sev req acc space addr : Nat) : (State.eventAt s src kind sev req acc space addr).pins = s.pins := State.raise_pins _ _
@[simp] theorem State.eventAt_group (s : State) (src kind sev req acc space addr : Nat) : (State.eventAt s src kind sev req acc space addr).group = s.group := State.raise_group _ _
@[simp] theorem State.eventAt_save (s : State) (src kind sev req acc space addr : Nat) : (State.eventAt s src kind sev req acc space addr).save = s.save := State.raise_save _ _
@[simp] theorem State.eventAt_tw0 (s : State) (src kind sev req acc space addr : Nat) : (State.eventAt s src kind sev req acc space addr).tw0 = s.tw0 := State.raise_tw0 _ _
@[simp] theorem State.eventAt_tws (s : State) (src kind sev req acc space addr : Nat) : (State.eventAt s src kind sev req acc space addr).tws = s.tws := State.raise_tws _ _
@[simp] theorem State.eventAt_cfg (s : State) (src kind sev req acc space addr : Nat) : (State.eventAt s src kind sev req acc space addr).cfg = s.cfg := State.raise_cfg _ _
@[simp] theorem State.eventAt_otp (s : State) (src kind sev req acc space addr : Nat) : (State.eventAt s src kind sev req acc space addr).otp = s.otp := State.raise_otp _ _
@[simp] theorem State.eventAt_upd (s : State) (src kind sev req acc space addr : Nat) : (State.eventAt s src kind sev req acc space addr).upd = s.upd := State.raise_upd _ _
@[simp] theorem State.eventAt_shake (s : State) (src kind sev req acc space addr : Nat) : (State.eventAt s src kind sev req acc space addr).shake = s.shake := State.raise_shake _ _
@[simp] theorem State.eventAt_dram (s : State) (src kind sev req acc space addr : Nat) : (State.eventAt s src kind sev req acc space addr).dram = s.dram := State.raise_dram _ _
@[simp] theorem State.eventAt_poison (s : State) (src kind sev req acc space addr : Nat) : (State.eventAt s src kind sev req acc space addr).poison = s.poison := State.raise_poison _ _
@[simp] theorem State.eventAt_fresh (s : State) (src kind sev req acc space addr : Nat) : (State.eventAt s src kind sev req acc space addr).fresh = s.fresh := State.raise_fresh _ _
@[simp] theorem State.eventAt_out (s : State) (src kind sev req acc space addr : Nat) : (State.eventAt s src kind sev req acc space addr).out = s.out := State.raise_out _ _
@[simp] theorem State.eventAt_pending (s : State) (src kind sev req acc space addr : Nat) : (State.eventAt s src kind sev req acc space addr).pending = s.pending := State.raise_pending _ _

@[simp] theorem State.modQuad_same (s : State) (q : Nat) (f : Quad → Quad) : (State.modQuad s q f).quad q = f (s.quad q) := sparseGet_upd_same _ _ _ _
theorem State.modQuad_other (s : State) (q : Nat) (f : Quad → Quad) {j : Nat} (hj : j ≠ q) : (State.modQuad s q f).quad j = s.quad j := sparseGet_upd_other _ _ _ hj
@[simp] theorem State.modSc_same (s : State) (n : Nat) (f : Sc → Sc) : (State.modSc s n f).sc n = f (s.sc n) := sparseGet_upd_same _ _ _ _
theorem State.modSc_other (s : State) (n : Nat) (f : Sc → Sc) {j : Nat} (hj : j ≠ n) : (State.modSc s n f).sc j = s.sc j := sparseGet_upd_other _ _ _ hj
@[simp] theorem State.modDie_same (s : State) (n : Nat) (f : Die → Die) : (State.modDie s n f).die n = f (s.die n) := sparseGet_upd_same _ _ _ _
theorem State.modDie_other (s : State) (n : Nat) (f : Die → Die) {j : Nat} (hj : j ≠ n) : (State.modDie s n f).die j = s.die j := sparseGet_upd_other _ _ _ hj
@[simp] theorem State.modHead_same (s : State) (h : Nat) (f : Head → Head) : (State.modHead s h f).head h = f (s.head h) := sparseGet_upd_same _ _ _ _
theorem State.modHead_other (s : State) (h : Nat) (f : Head → Head) {j : Nat} (hj : j ≠ h) : (State.modHead s h f).head j = s.head j := sparseGet_upd_other _ _ _ hj
@[simp] theorem State.modLd_same (s : State) (k : Nat) (f : Ld → Ld) : (State.modLd s k f).ld k = f (s.ld k) := sparseGet_upd_same _ _ _ _
theorem State.modLd_other (s : State) (k : Nat) (f : Ld → Ld) {j : Nat} (hj : j ≠ k) : (State.modLd s k f).ld j = s.ld j := sparseGet_upd_other _ _ _ hj
@[simp] theorem State.modRail_same (s : State) (k : Nat) (f : Rail → Rail) : (State.modRail s k f).rail k = f (s.rail k) := sparseGet_upd_same _ _ _ _
theorem State.modRail_other (s : State) (k : Nat) (f : Rail → Rail) {j : Nat} (hj : j ≠ k) : (State.modRail s k f).rail j = s.rail j := sparseGet_upd_other _ _ _ hj
@[simp] theorem State.modTw_same (s : State) (k : Nat) (f : Tw → Tw) : (State.modTw s k f).tw k = f (s.tw k) := sparseGet_upd_same _ _ _ _
theorem State.modTw_other (s : State) (k : Nat) (f : Tw → Tw) {j : Nat} (hj : j ≠ k) : (State.modTw s k f).tw j = s.tw j := sparseGet_upd_other _ _ _ hj
@[simp] theorem State.modPath_same (s : State) (p : Nat) (f : PathState → PathState) : (State.modPath s p f).path p = f (s.path p) := sparseGet_upd_same _ _ _ _
theorem State.modPath_other (s : State) (p : Nat) (f : PathState → PathState) {j : Nat} (hj : j ≠ p) : (State.modPath s p f).path j = s.path j := sparseGet_upd_other _ _ _ hj
@[simp] theorem State.modImage_same (s : State) (f : Image → Image) : (State.modImage s f).image = f s.image := rfl
@[simp] theorem State.modGauge_same (s : State) (f : Gauge → Gauge) : (State.modGauge s f).gauge = f s.gauge := rfl
@[simp] theorem State.modSeq_same (s : State) (f : Seq → Seq) : (State.modSeq s f).seq = f s.seq := rfl
@[simp] theorem State.modPins_same (s : State) (f : Pins → Pins) : (State.modPins s f).pins = f s.pins := rfl
@[simp] theorem State.modSave_same (s : State) (f : SaveSt → SaveSt) : (State.modSave s f).save = f s.save := rfl
@[simp] theorem State.modGroup_same (s : State) (f : Group → Group) : (State.modGroup s f).group = f s.group := rfl
@[simp] theorem State.modKeys_same (s : State) (f : Keys → Keys) : (State.modKeys s f).keys = f s.keys := rfl
@[simp] theorem State.modTick_same (s : State) (f : Tick → Tick) : (State.modTick s f).tick = f s.tick := rfl
@[simp] theorem State.modEvents_same (s : State) (f : Events → Events) : (State.modEvents s f).events = f s.events := rfl
@[simp] theorem State.modFabric_same (s : State) (f : Fabric → Fabric) : (State.modFabric s f).fabric = f s.fabric := rfl
@[simp] theorem State.modUpd_same (s : State) (f : Update → Update) : (State.modUpd s f).upd = f s.upd := rfl
@[simp] theorem State.modPlumb_same (s : State) (f : Plumb → Plumb) : (State.modPlumb s f).plumb = f s.plumb := rfl
@[simp] theorem State.modTw0_same (s : State) (f : Tw0 → Tw0) : (State.modTw0 s f).tw0 = f s.tw0 := rfl

@[simp] theorem State.modSlot_same (s : State) (k : Nat) (f : Slot → Slot) : (s.modSlot k f).slot k = f (s.slot k) := sparseGet_upd_same _ _ _ _
theorem State.modSlot_other (s : State) (k : Nat) (f : Slot → Slot) {j : Nat} (hj : j ≠ k) : (s.modSlot k f).slot j = s.slot j := sparseGet_upd_other _ _ _ hj

end Sys2Proof.Machine
end

