-- ==== Sys2Proof/Laws/Regs.lean ====
section
/-!
SUPPORT. Sys2Proof/Laws/Regs.lean: a field reads as it was last set; setting one field leaves every other as it was.
-/

set_option Elab.async false
namespace Sys2Proof.Machine

/-! ## Words -/

theorem sparseFind_setWord (m : Sparse Word) (off x : Nat) (w : Word) :
    sparseFind (setWord m off w) x = if x = off then (if w = resetWord off then none else some w) else sparseFind m x := by
  unfold setWord
  split
  · rw [sparseFind_erase]
  · rw [sparseFind_place _ _ _ _ (sparseErase_gone m off), sparseFind_erase]
    by_cases hj : x = off <;> simp [hj]

@[simp] theorem State.rd_wr_same (s : State) (off : Nat) (w : Word) : (s.wr off w).rd off = w := by
  unfold State.rd State.wr
  rw [sparseFind_setWord]
  by_cases h : w = resetWord off <;> simp [h]

theorem State.rd_wr_other (s : State) {off x : Nat} (w : Word) (h : x ≠ off) : (s.wr off w).rd x = s.rd x := by
  unfold State.rd State.wr
  rw [sparseFind_setWord, if_neg h]

/-- Only the register file decides what a register reads as. -/
theorem State.rd_congr {s t : State} (h : s.regs = t.regs) (x : Nat) : s.rd x = t.rd x := by
  unfold State.rd
  rw [h]

theorem State.get_congr {s t : State} (h : s.regs = t.regs) (f : Fld) : s.get f = t.get f := by
  unfold State.get
  rw [State.rd_congr h]

/-! ## Fields -/

/-- Two fields that share no bit. -/
def Fld.apart (f g : Fld) : Bool := decide (f.off ≠ g.off) || decide (f.lo + f.width ≤ g.lo) || decide (g.lo + g.width ≤ f.lo)

theorem Fld.getLsbD_mask (f : Fld) (i : Nat) (h : f.lo + f.width ≤ 32) :
    f.mask.getLsbD i = (decide (f.lo ≤ i) && decide (i < f.lo + f.width)) := by
  unfold Fld.mask
  rw [BitVec.getLsbD_ofNat, Nat.testBit_shiftLeft, Nat.testBit_two_pow_sub_one]
  by_cases h1 : f.lo ≤ i <;> by_cases h2 : i < f.lo + f.width <;> simp [h1, h2] <;> omega

/-- The bits of a word after a field is set. -/
theorem Fld.getLsbD_into (f : Fld) (w : Word) (v i : Nat) (h : f.lo + f.width ≤ 32) :
    (f.into w v).getLsbD i =
      if f.lo ≤ i ∧ i < f.lo + f.width then v.testBit (i - f.lo) else w.getLsbD i := by
  unfold Fld.into
  rw [BitVec.getLsbD_or, BitVec.getLsbD_and, BitVec.getLsbD_not, f.getLsbD_mask i h, BitVec.getLsbD_ofNat,
    Nat.testBit_shiftLeft, Nat.testBit_mod_two_pow]
  by_cases hi : i < 32
  · by_cases h1 : f.lo ≤ i <;> by_cases h2 : i < f.lo + f.width
    · have h3 : i - f.lo < f.width := by omega
      simp [h1, h2, hi, h3]
    · have h3 : ¬ i - f.lo < f.width := by omega
      simp [h1, h2, hi, h3]
    · simp [h1, h2, hi]
    · simp [h1, h2, hi]
  · have h2 : ¬ i < f.lo + f.width := by omega
    simp [hi, h2, BitVec.getLsbD_of_ge w i (by omega)]

theorem Fld.of_testBit (f : Fld) (w : Word) (i : Nat) :
    (f.of w).testBit i = (decide (i < f.width) && w.getLsbD (f.lo + i)) := by
  unfold Fld.of
  rw [Nat.testBit_mod_two_pow, Nat.testBit_shiftRight, BitVec.testBit_toNat]

/-- A field reads as it was set, taken modulo its width. -/
theorem Fld.of_into_same (f : Fld) (w : Word) (v : Nat) (h : f.lo + f.width ≤ 32) : f.of (f.into w v) = v % 2 ^ f.width := by
  apply Nat.eq_of_testBit_eq
  intro i
  rw [f.of_testBit, Nat.testBit_mod_two_pow]
  by_cases hi : i < f.width
  · rw [f.getLsbD_into _ _ _ h, if_pos (by omega), Nat.add_sub_cancel_left]
  · simp [hi]

theorem Fld.of_into_other (f g : Fld) (w : Word) (v : Nat) (hg : g.lo + g.width ≤ 32)
    (h : f.lo + f.width ≤ g.lo ∨ g.lo + g.width ≤ f.lo) : f.of (g.into w v) = f.of w := by
  apply Nat.eq_of_testBit_eq
  intro i
  rw [f.of_testBit, f.of_testBit]
  by_cases hi : i < f.width
  · rw [g.getLsbD_into _ _ _ hg, if_neg (by omega)]
  · simp [hi]

theorem State.rd_put_other (s : State) (f : Fld) (v : Nat) {x : Nat} (h : x ≠ f.off) : (s.put f v).rd x = s.rd x :=
  State.rd_wr_other s _ h

theorem State.rd_bump_other (s : State) (f : Fld) (n : Nat) {x : Nat} (h : x ≠ f.off) : (s.bump f n).rd x = s.rd x :=
  State.rd_put_other s f _ h

theorem State.rd_modEvents (s : State) (f : Events → Events) (x : Nat) : (s.modEvents f).rd x = s.rd x := rfl

theorem State.get_put_same (s : State) (f : Fld) (v : Nat) (h : f.lo + f.width ≤ 32) : (s.put f v).get f = v % 2 ^ f.width := by
  unfold State.get State.put
  rw [State.rd_wr_same, f.of_into_same _ _ h]

theorem State.get_put_other (s : State) (f g : Fld) (v : Nat) (hg : g.lo + g.width ≤ 32) (h : f.apart g = true) :
    (s.put g v).get f = s.get f := by
  unfold State.get State.put
  simp only [Fld.apart, Bool.or_eq_true, decide_eq_true_eq] at h
  by_cases ho : f.off = g.off
  · rw [ho, State.rd_wr_same, f.of_into_other g _ _ hg (by tauto)]
  · rw [State.rd_wr_other _ _ ho]

theorem State.get_putB_same (s : State) (f : Fld) (b : Bool) (h : f.lo + f.width ≤ 32) (hw : f.width = 1) :
    (s.putB f b).get f = b.toNat := by
  unfold State.putB
  rw [State.get_put_same _ _ _ h, hw]
  cases b <;> rfl

theorem State.flag_putB_same (s : State) (f : Fld) (b : Bool) (h : f.lo + f.width ≤ 32) (hw : f.width = 1) :
    (s.putB f b).flag f = b := by
  unfold State.flag
  rw [State.get_putB_same _ _ _ h hw]
  cases b <;> rfl

theorem State.get_putB_other (s : State) (f g : Fld) (b : Bool) (hg : g.lo + g.width ≤ 32) (h : f.apart g = true) :
    (s.putB g b).get f = s.get f := State.get_put_other _ _ _ _ hg h

theorem State.flag_put_other (s : State) (f g : Fld) (v : Nat) (hg : g.lo + g.width ≤ 32) (h : f.apart g = true) :
    (s.put g v).flag f = s.flag f := by
  unfold State.flag
  rw [State.get_put_other _ _ _ _ hg h]

theorem State.flag_putB_other (s : State) (f g : Fld) (b : Bool) (hg : g.lo + g.width ≤ 32) (h : f.apart g = true) :
    (s.putB g b).flag f = s.flag f := State.flag_put_other _ _ _ _ hg h

theorem State.get_bump_other (s : State) (f g : Fld) (n : Nat) (hg : g.lo + g.width ≤ 32) (h : f.apart g = true) :
    (s.bump g n).get f = s.get f := State.get_put_other _ _ _ _ hg h

/-- A counter after a rise: it stops at its largest value. -/
theorem State.get_bump_same (s : State) (f : Fld) (n : Nat) (h : f.lo + f.width ≤ 32) :
    (s.bump f n).get f = min (s.get f + n) (2 ^ f.width - 1) := by
  unfold State.bump
  rw [State.get_put_same _ _ _ h]
  refine Nat.mod_eq_of_lt ?_
  have : 0 < 2 ^ f.width := Nat.two_pow_pos _
  omega

theorem State.get_putSat_same (s : State) (f : Fld) (v : Nat) (h : f.lo + f.width ≤ 32) :
    (s.putSat f v).get f = min v (2 ^ f.width - 1) := by
  unfold State.putSat
  rw [State.get_put_same _ _ _ h]
  refine Nat.mod_eq_of_lt ?_
  have : 0 < 2 ^ f.width := Nat.two_pow_pos _
  omega

/-! ## Messages (R478) -/

/-- Raising a message changes no register but the source's EVT_COUNT and EVT_DROPPED. -/
theorem State.rd_raise (s : State) (m : FaultMsg) (x : Nat) (h1 : x ≠ 0x023000 + 0x4 * m.src) (h2 : x ≠ 0x020050) :
    (s.raise m).rd x = s.rd x := by
  unfold State.raise
  dsimp only
  split
  · rw [State.rd_modEvents, State.rd_put_other _ _ _ h1, State.rd_bump_other _ _ _ h1]
  · rw [State.rd_bump_other _ _ _ h2]
    split
    · rw [State.rd_modEvents, State.rd_put_other _ _ _ h1, State.rd_bump_other _ _ _ h1]
    · rw [State.rd_put_other _ _ _ h1, State.rd_bump_other _ _ _ h1]

theorem State.get_raise (s : State) (m : FaultMsg) (f : Fld) (h1 : f.off ≠ 0x023000 + 0x4 * m.src) (h2 : f.off ≠ 0x020050) :
    (s.raise m).get f = s.get f := by
  unfold State.get
  rw [State.rd_raise _ _ _ h1 h2]

theorem State.get_event (s : State) (src kind sev : Nat) (f : Fld) (h1 : f.off ≠ 0x023000 + 0x4 * src) (h2 : f.off ≠ 0x020050) :
    (s.event src kind sev).get f = s.get f := State.get_raise _ _ _ h1 h2

theorem State.get_eventAt (s : State) (src kind sev req acc space addr : Nat) (f : Fld) (h1 : f.off ≠ 0x023000 + 0x4 * src)
    (h2 : f.off ≠ 0x020050) : (s.eventAt src kind sev req acc space addr).get f = s.get f := State.get_raise _ _ _ h1 h2

end Sys2Proof.Machine
end

