-- ==== Sys2Proof/Laws/Fields.lean ====
section
/-!
SUPPORT. Sys2Proof/Laws/Fields.lean: what reads of registers, of units and of time give after an update that does not
touch them, and the messages that wait on sources.
-/

set_option Elab.async false
namespace Sys2Proof.Machine

/-! ### modQuad -/

@[simp] theorem State.modQuad_rd (s : State) (q : Nat) (f : Quad → Quad) (x : Nat) : (State.modQuad s q f).rd x = s.rd x := rfl
@[simp] theorem State.modQuad_get (s : State) (q : Nat) (f : Quad → Quad) (x : Fld) : (State.modQuad s q f).get x = s.get x := rfl
@[simp] theorem State.modQuad_flag (s : State) (q : Nat) (f : Quad → Quad) (x : Fld) : (State.modQuad s q f).flag x = s.flag x := rfl
@[simp] theorem State.modQuad_sc (s : State) (q : Nat) (f : Quad → Quad) (x : Nat) : (State.modQuad s q f).sc x = s.sc x := rfl
@[simp] theorem State.modQuad_die (s : State) (q : Nat) (f : Quad → Quad) (x : Nat) : (State.modQuad s q f).die x = s.die x := rfl
@[simp] theorem State.modQuad_head (s : State) (q : Nat) (f : Quad → Quad) (x : Nat) : (State.modQuad s q f).head x = s.head x := rfl
@[simp] theorem State.modQuad_ld (s : State) (q : Nat) (f : Quad → Quad) (x : Nat) : (State.modQuad s q f).ld x = s.ld x := rfl
@[simp] theorem State.modQuad_rail (s : State) (q : Nat) (f : Quad → Quad) (x : Nat) : (State.modQuad s q f).rail x = s.rail x := rfl
@[simp] theorem State.modQuad_tw (s : State) (q : Nat) (f : Quad → Quad) (x : Nat) : (State.modQuad s q f).tw x = s.tw x := rfl
@[simp] theorem State.modQuad_path (s : State) (q : Nat) (f : Quad → Quad) (x : Nat) : (State.modQuad s q f).path x = s.path x := rfl
@[simp] theorem State.modQuad_slot (s : State) (q : Nat) (f : Quad → Quad) (x : Nat) : (State.modQuad s q f).slot x = s.slot x := rfl
@[simp] theorem State.modQuad_now (s : State) (q : Nat) (f : Quad → Quad) : (State.modQuad s q f).now = s.now := rfl
@[simp] theorem State.modQuad_frame (s : State) (q : Nat) (f : Quad → Quad) : (State.modQuad s q f).frame = s.frame := rfl
@[simp] theorem State.modQuad_sf (s : State) (q : Nat) (f : Quad → Quad) : (State.modQuad s q f).sf = s.sf := rfl

/-! ### modSc -/

@[simp] theorem State.modSc_rd (s : State) (n : Nat) (f : Sc → Sc) (x : Nat) : (State.modSc s n f).rd x = s.rd x := rfl
@[simp] theorem State.modSc_get (s : State) (n : Nat) (f : Sc → Sc) (x : Fld) : (State.modSc s n f).get x = s.get x := rfl
@[simp] theorem State.modSc_flag (s : State) (n : Nat) (f : Sc → Sc) (x : Fld) : (State.modSc s n f).flag x = s.flag x := rfl
@[simp] theorem State.modSc_quad (s : State) (n : Nat) (f : Sc → Sc) (x : Nat) : (State.modSc s n f).quad x = s.quad x := rfl
@[simp] theorem State.modSc_die (s : State) (n : Nat) (f : Sc → Sc) (x : Nat) : (State.modSc s n f).die x = s.die x := rfl
@[simp] theorem State.modSc_head (s : State) (n : Nat) (f : Sc → Sc) (x : Nat) : (State.modSc s n f).head x = s.head x := rfl
@[simp] theorem State.modSc_ld (s : State) (n : Nat) (f : Sc → Sc) (x : Nat) : (State.modSc s n f).ld x = s.ld x := rfl
@[simp] theorem State.modSc_rail (s : State) (n : Nat) (f : Sc → Sc) (x : Nat) : (State.modSc s n f).rail x = s.rail x := rfl
@[simp] theorem State.modSc_tw (s : State) (n : Nat) (f : Sc → Sc) (x : Nat) : (State.modSc s n f).tw x = s.tw x := rfl
@[simp] theorem State.modSc_path (s : State) (n : Nat) (f : Sc → Sc) (x : Nat) : (State.modSc s n f).path x = s.path x := rfl
@[simp] theorem State.modSc_slot (s : State) (n : Nat) (f : Sc → Sc) (x : Nat) : (State.modSc s n f).slot x = s.slot x := rfl
@[simp] theorem State.modSc_now (s : State) (n : Nat) (f : Sc → Sc) : (State.modSc s n f).now = s.now := rfl
@[simp] theorem State.modSc_frame (s : State) (n : Nat) (f : Sc → Sc) : (State.modSc s n f).frame = s.frame := rfl
@[simp] theorem State.modSc_sf (s : State) (n : Nat) (f : Sc → Sc) : (State.modSc s n f).sf = s.sf := rfl

/-! ### modDie -/

@[simp] theorem State.modDie_rd (s : State) (n : Nat) (f : Die → Die) (x : Nat) : (State.modDie s n f).rd x = s.rd x := rfl
@[simp] theorem State.modDie_get (s : State) (n : Nat) (f : Die → Die) (x : Fld) : (State.modDie s n f).get x = s.get x := rfl
@[simp] theorem State.modDie_flag (s : State) (n : Nat) (f : Die → Die) (x : Fld) : (State.modDie s n f).flag x = s.flag x := rfl
@[simp] theorem State.modDie_quad (s : State) (n : Nat) (f : Die → Die) (x : Nat) : (State.modDie s n f).quad x = s.quad x := rfl
@[simp] theorem State.modDie_sc (s : State) (n : Nat) (f : Die → Die) (x : Nat) : (State.modDie s n f).sc x = s.sc x := rfl
@[simp] theorem State.modDie_head (s : State) (n : Nat) (f : Die → Die) (x : Nat) : (State.modDie s n f).head x = s.head x := rfl
@[simp] theorem State.modDie_ld (s : State) (n : Nat) (f : Die → Die) (x : Nat) : (State.modDie s n f).ld x = s.ld x := rfl
@[simp] theorem State.modDie_rail (s : State) (n : Nat) (f : Die → Die) (x : Nat) : (State.modDie s n f).rail x = s.rail x := rfl
@[simp] theorem State.modDie_tw (s : State) (n : Nat) (f : Die → Die) (x : Nat) : (State.modDie s n f).tw x = s.tw x := rfl
@[simp] theorem State.modDie_path (s : State) (n : Nat) (f : Die → Die) (x : Nat) : (State.modDie s n f).path x = s.path x := rfl
@[simp] theorem State.modDie_slot (s : State) (n : Nat) (f : Die → Die) (x : Nat) : (State.modDie s n f).slot x = s.slot x := rfl
@[simp] theorem State.modDie_now (s : State) (n : Nat) (f : Die → Die) : (State.modDie s n f).now = s.now := rfl
@[simp] theorem State.modDie_frame (s : State) (n : Nat) (f : Die → Die) : (State.modDie s n f).frame = s.frame := rfl
@[simp] theorem State.modDie_sf (s : State) (n : Nat) (f : Die → Die) : (State.modDie s n f).sf = s.sf := rfl

/-! ### modHead -/

@[simp] theorem State.modHead_rd (s : State) (h : Nat) (f : Head → Head) (x : Nat) : (State.modHead s h f).rd x = s.rd x := rfl
@[simp] theorem State.modHead_get (s : State) (h : Nat) (f : Head → Head) (x : Fld) : (State.modHead s h f).get x = s.get x := rfl
@[simp] theorem State.modHead_flag (s : State) (h : Nat) (f : Head → Head) (x : Fld) : (State.modHead s h f).flag x = s.flag x := rfl
@[simp] theorem State.modHead_quad (s : State) (h : Nat) (f : Head → Head) (x : Nat) : (State.modHead s h f).quad x = s.quad x := rfl
@[simp] theorem State.modHead_sc (s : State) (h : Nat) (f : Head → Head) (x : Nat) : (State.modHead s h f).sc x = s.sc x := rfl
@[simp] theorem State.modHead_die (s : State) (h : Nat) (f : Head → Head) (x : Nat) : (State.modHead s h f).die x = s.die x := rfl
@[simp] theorem State.modHead_ld (s : State) (h : Nat) (f : Head → Head) (x : Nat) : (State.modHead s h f).ld x = s.ld x := rfl
@[simp] theorem State.modHead_rail (s : State) (h : Nat) (f : Head → Head) (x : Nat) : (State.modHead s h f).rail x = s.rail x := rfl
@[simp] theorem State.modHead_tw (s : State) (h : Nat) (f : Head → Head) (x : Nat) : (State.modHead s h f).tw x = s.tw x := rfl
@[simp] theorem State.modHead_path (s : State) (h : Nat) (f : Head → Head) (x : Nat) : (State.modHead s h f).path x = s.path x := rfl
@[simp] theorem State.modHead_slot (s : State) (h : Nat) (f : Head → Head) (x : Nat) : (State.modHead s h f).slot x = s.slot x := rfl
@[simp] theorem State.modHead_now (s : State) (h : Nat) (f : Head → Head) : (State.modHead s h f).now = s.now := rfl
@[simp] theorem State.modHead_frame (s : State) (h : Nat) (f : Head → Head) : (State.modHead s h f).frame = s.frame := rfl
@[simp] theorem State.modHead_sf (s : State) (h : Nat) (f : Head → Head) : (State.modHead s h f).sf = s.sf := rfl

/-! ### modLd -/

@[simp] theorem State.modLd_rd (s : State) (k : Nat) (f : Ld → Ld) (x : Nat) : (State.modLd s k f).rd x = s.rd x := rfl
@[simp] theorem State.modLd_get (s : State) (k : Nat) (f : Ld → Ld) (x : Fld) : (State.modLd s k f).get x = s.get x := rfl
@[simp] theorem State.modLd_flag (s : State) (k : Nat) (f : Ld → Ld) (x : Fld) : (State.modLd s k f).flag x = s.flag x := rfl
@[simp] theorem State.modLd_quad (s : State) (k : Nat) (f : Ld → Ld) (x : Nat) : (State.modLd s k f).quad x = s.quad x := rfl
@[simp] theorem State.modLd_sc (s : State) (k : Nat) (f : Ld → Ld) (x : Nat) : (State.modLd s k f).sc x = s.sc x := rfl
@[simp] theorem State.modLd_die (s : State) (k : Nat) (f : Ld → Ld) (x : Nat) : (State.modLd s k f).die x = s.die x := rfl
@[simp] theorem State.modLd_head (s : State) (k : Nat) (f : Ld → Ld) (x : Nat) : (State.modLd s k f).head x = s.head x := rfl
@[simp] theorem State.modLd_rail (s : State) (k : Nat) (f : Ld → Ld) (x : Nat) : (State.modLd s k f).rail x = s.rail x := rfl
@[simp] theorem State.modLd_tw (s : State) (k : Nat) (f : Ld → Ld) (x : Nat) : (State.modLd s k f).tw x = s.tw x := rfl
@[simp] theorem State.modLd_path (s : State) (k : Nat) (f : Ld → Ld) (x : Nat) : (State.modLd s k f).path x = s.path x := rfl
@[simp] theorem State.modLd_slot (s : State) (k : Nat) (f : Ld → Ld) (x : Nat) : (State.modLd s k f).slot x = s.slot x := rfl
@[simp] theorem State.modLd_now (s : State) (k : Nat) (f : Ld → Ld) : (State.modLd s k f).now = s.now := rfl
@[simp] theorem State.modLd_frame (s : State) (k : Nat) (f : Ld → Ld) : (State.modLd s k f).frame = s.frame := rfl
@[simp] theorem State.modLd_sf (s : State) (k : Nat) (f : Ld → Ld) : (State.modLd s k f).sf = s.sf := rfl

/-! ### modRail -/

@[simp] theorem State.modRail_rd (s : State) (k : Nat) (f : Rail → Rail) (x : Nat) : (State.modRail s k f).rd x = s.rd x := rfl
@[simp] theorem State.modRail_get (s : State) (k : Nat) (f : Rail → Rail) (x : Fld) : (State.modRail s k f).get x = s.get x := rfl
@[simp] theorem State.modRail_flag (s : State) (k : Nat) (f : Rail → Rail) (x : Fld) : (State.modRail s k f).flag x = s.flag x := rfl
@[simp] theorem State.modRail_quad (s : State) (k : Nat) (f : Rail → Rail) (x : Nat) : (State.modRail s k f).quad x = s.quad x := rfl
@[simp] theorem State.modRail_sc (s : State) (k : Nat) (f : Rail → Rail) (x : Nat) : (State.modRail s k f).sc x = s.sc x := rfl
@[simp] theorem State.modRail_die (s : State) (k : Nat) (f : Rail → Rail) (x : Nat) : (State.modRail s k f).die x = s.die x := rfl
@[simp] theorem State.modRail_head (s : State) (k : Nat) (f : Rail → Rail) (x : Nat) : (State.modRail s k f).head x = s.head x := rfl
@[simp] theorem State.modRail_ld (s : State) (k : Nat) (f : Rail → Rail) (x : Nat) : (State.modRail s k f).ld x = s.ld x := rfl
@[simp] theorem State.modRail_tw (s : State) (k : Nat) (f : Rail → Rail) (x : Nat) : (State.modRail s k f).tw x = s.tw x := rfl
@[simp] theorem State.modRail_path (s : State) (k : Nat) (f : Rail → Rail) (x : Nat) : (State.modRail s k f).path x = s.path x := rfl
@[simp] theorem State.modRail_slot (s : State) (k : Nat) (f : Rail → Rail) (x : Nat) : (State.modRail s k f).slot x = s.slot x := rfl
@[simp] theorem State.modRail_now (s : State) (k : Nat) (f : Rail → Rail) : (State.modRail s k f).now = s.now := rfl
@[simp] theorem State.modRail_frame (s : State) (k : Nat) (f : Rail → Rail) : (State.modRail s k f).frame = s.frame := rfl
@[simp] theorem State.modRail_sf (s : State) (k : Nat) (f : Rail → Rail) : (State.modRail s k f).sf = s.sf := rfl

/-! ### modTw -/

@[simp] theorem State.modTw_rd (s : State) (k : Nat) (f : Tw → Tw) (x : Nat) : (State.modTw s k f).rd x = s.rd x := rfl
@[simp] theorem State.modTw_get (s : State) (k : Nat) (f : Tw → Tw) (x : Fld) : (State.modTw s k f).get x = s.get x := rfl
@[simp] theorem State.modTw_flag (s : State) (k : Nat) (f : Tw → Tw) (x : Fld) : (State.modTw s k f).flag x = s.flag x := rfl
@[simp] theorem State.modTw_quad (s : State) (k : Nat) (f : Tw → Tw) (x : Nat) : (State.modTw s k f).quad x = s.quad x := rfl
@[simp] theorem State.modTw_sc (s : State) (k : Nat) (f : Tw → Tw) (x : Nat) : (State.modTw s k f).sc x = s.sc x := rfl
@[simp] theorem State.modTw_die (s : State) (k : Nat) (f : Tw → Tw) (x : Nat) : (State.modTw s k f).die x = s.die x := rfl
@[simp] theorem State.modTw_head (s : State) (k : Nat) (f : Tw → Tw) (x : Nat) : (State.modTw s k f).head x = s.head x := rfl
@[simp] theorem State.modTw_ld (s : State) (k : Nat) (f : Tw → Tw) (x : Nat) : (State.modTw s k f).ld x = s.ld x := rfl
@[simp] theorem State.modTw_rail (s : State) (k : Nat) (f : Tw → Tw) (x : Nat) : (State.modTw s k f).rail x = s.rail x := rfl
@[simp] theorem State.modTw_path (s : State) (k : Nat) (f : Tw → Tw) (x : Nat) : (State.modTw s k f).path x = s.path x := rfl
@[simp] theorem State.modTw_slot (s : State) (k : Nat) (f : Tw → Tw) (x : Nat) : (State.modTw s k f).slot x = s.slot x := rfl
@[simp] theorem State.modTw_now (s : State) (k : Nat) (f : Tw → Tw) : (State.modTw s k f).now = s.now := rfl
@[simp] theorem State.modTw_frame (s : State) (k : Nat) (f : Tw → Tw) : (State.modTw s k f).frame = s.frame := rfl
@[simp] theorem State.modTw_sf (s : State) (k : Nat) (f : Tw → Tw) : (State.modTw s k f).sf = s.sf := rfl

/-! ### modPath -/

@[simp] theorem State.modPath_rd (s : State) (p : Nat) (f : PathState → PathState) (x : Nat) : (State.modPath s p f).rd x = s.rd x := rfl
@[simp] theorem State.modPath_get (s : State) (p : Nat) (f : PathState → PathState) (x : Fld) : (State.modPath s p f).get x = s.get x := rfl
@[simp] theorem State.modPath_flag (s : State) (p : Nat) (f : PathState → PathState) (x : Fld) : (State.modPath s p f).flag x = s.flag x := rfl
@[simp] theorem State.modPath_quad (s : State) (p : Nat) (f : PathState → PathState) (x : Nat) : (State.modPath s p f).quad x = s.quad x := rfl
@[simp] theorem State.modPath_sc (s : State) (p : Nat) (f : PathState → PathState) (x : Nat) : (State.modPath s p f).sc x = s.sc x := rfl
@[simp] theorem State.modPath_die (s : State) (p : Nat) (f : PathState → PathState) (x : Nat) : (State.modPath s p f).die x = s.die x := rfl
@[simp] theorem State.modPath_head (s : State) (p : Nat) (f : PathState → PathState) (x : Nat) : (State.modPath s p f).head x = s.head x := rfl
@[simp] theorem State.modPath_ld (s : State) (p : Nat) (f : PathState → PathState) (x : Nat) : (State.modPath s p f).ld x = s.ld x := rfl
@[simp] theorem State.modPath_rail (s : State) (p : Nat) (f : PathState → PathState) (x : Nat) : (State.modPath s p f).rail x = s.rail x := rfl
@[simp] theorem State.modPath_tw (s : State) (p : Nat) (f : PathState → PathState) (x : Nat) : (State.modPath s p f).tw x = s.tw x := rfl
@[simp] theorem State.modPath_slot (s : State) (p : Nat) (f : PathState → PathState) (x : Nat) : (State.modPath s p f).slot x = s.slot x := rfl
@[simp] theorem State.modPath_now (s : State) (p : Nat) (f : PathState → PathState) : (State.modPath s p f).now = s.now := rfl
@[simp] theorem State.modPath_frame (s : State) (p : Nat) (f : PathState → PathState) : (State.modPath s p f).frame = s.frame := rfl
@[simp] theorem State.modPath_sf (s : State) (p : Nat) (f : PathState → PathState) : (State.modPath s p f).sf = s.sf := rfl

/-! ### modSlot -/

@[simp] theorem State.modSlot_rd (s : State) (k : Nat) (f : Slot → Slot) (x : Nat) : (State.modSlot s k f).rd x = s.rd x := rfl
@[simp] theorem State.modSlot_get (s : State) (k : Nat) (f : Slot → Slot) (x : Fld) : (State.modSlot s k f).get x = s.get x := rfl
@[simp] theorem State.modSlot_flag (s : State) (k : Nat) (f : Slot → Slot) (x : Fld) : (State.modSlot s k f).flag x = s.flag x := rfl
@[simp] theorem State.modSlot_quad (s : State) (k : Nat) (f : Slot → Slot) (x : Nat) : (State.modSlot s k f).quad x = s.quad x := rfl
@[simp] theorem State.modSlot_sc (s : State) (k : Nat) (f : Slot → Slot) (x : Nat) : (State.modSlot s k f).sc x = s.sc x := rfl
@[simp] theorem State.modSlot_die (s : State) (k : Nat) (f : Slot → Slot) (x : Nat) : (State.modSlot s k f).die x = s.die x := rfl
@[simp] theorem State.modSlot_head (s : State) (k : Nat) (f : Slot → Slot) (x : Nat) : (State.modSlot s k f).head x = s.head x := rfl
@[simp] theorem State.modSlot_ld (s : State) (k : Nat) (f : Slot → Slot) (x : Nat) : (State.modSlot s k f).ld x = s.ld x := rfl
@[simp] theorem State.modSlot_rail (s : State) (k : Nat) (f : Slot → Slot) (x : Nat) : (State.modSlot s k f).rail x = s.rail x := rfl
@[simp] theorem State.modSlot_tw (s : State) (k : Nat) (f : Slot → Slot) (x : Nat) : (State.modSlot s k f).tw x = s.tw x := rfl
@[simp] theorem State.modSlot_path (s : State) (k : Nat) (f : Slot → Slot) (x : Nat) : (State.modSlot s k f).path x = s.path x := rfl
@[simp] theorem State.modSlot_now (s : State) (k : Nat) (f : Slot → Slot) : (State.modSlot s k f).now = s.now := rfl
@[simp] theorem State.modSlot_frame (s : State) (k : Nat) (f : Slot → Slot) : (State.modSlot s k f).frame = s.frame := rfl
@[simp] theorem State.modSlot_sf (s : State) (k : Nat) (f : Slot → Slot) : (State.modSlot s k f).sf = s.sf := rfl

/-! ### modImage -/

@[simp] theorem State.modImage_rd (s : State) (f : Image → Image) (x : Nat) : (State.modImage s f).rd x = s.rd x := rfl
@[simp] theorem State.modImage_get (s : State) (f : Image → Image) (x : Fld) : (State.modImage s f).get x = s.get x := rfl
@[simp] theorem State.modImage_flag (s : State) (f : Image → Image) (x : Fld) : (State.modImage s f).flag x = s.flag x := rfl
@[simp] theorem State.modImage_quad (s : State) (f : Image → Image) (x : Nat) : (State.modImage s f).quad x = s.quad x := rfl
@[simp] theorem State.modImage_sc (s : State) (f : Image → Image) (x : Nat) : (State.modImage s f).sc x = s.sc x := rfl
@[simp] theorem State.modImage_die (s : State) (f : Image → Image) (x : Nat) : (State.modImage s f).die x = s.die x := rfl
@[simp] theorem State.modImage_head (s : State) (f : Image → Image) (x : Nat) : (State.modImage s f).head x = s.head x := rfl
@[simp] theorem State.modImage_ld (s : State) (f : Image → Image) (x : Nat) : (State.modImage s f).ld x = s.ld x := rfl
@[simp] theorem State.modImage_rail (s : State) (f : Image → Image) (x : Nat) : (State.modImage s f).rail x = s.rail x := rfl
@[simp] theorem State.modImage_tw (s : State) (f : Image → Image) (x : Nat) : (State.modImage s f).tw x = s.tw x := rfl
@[simp] theorem State.modImage_path (s : State) (f : Image → Image) (x : Nat) : (State.modImage s f).path x = s.path x := rfl
@[simp] theorem State.modImage_slot (s : State) (f : Image → Image) (x : Nat) : (State.modImage s f).slot x = s.slot x := rfl
@[simp] theorem State.modImage_now (s : State) (f : Image → Image) : (State.modImage s f).now = s.now := rfl
@[simp] theorem State.modImage_frame (s : State) (f : Image → Image) : (State.modImage s f).frame = s.frame := rfl
@[simp] theorem State.modImage_sf (s : State) (f : Image → Image) : (State.modImage s f).sf = s.sf := rfl

/-! ### modGauge -/

@[simp] theorem State.modGauge_rd (s : State) (f : Gauge → Gauge) (x : Nat) : (State.modGauge s f).rd x = s.rd x := rfl
@[simp] theorem State.modGauge_get (s : State) (f : Gauge → Gauge) (x : Fld) : (State.modGauge s f).get x = s.get x := rfl
@[simp] theorem State.modGauge_flag (s : State) (f : Gauge → Gauge) (x : Fld) : (State.modGauge s f).flag x = s.flag x := rfl
@[simp] theorem State.modGauge_quad (s : State) (f : Gauge → Gauge) (x : Nat) : (State.modGauge s f).quad x = s.quad x := rfl
@[simp] theorem State.modGauge_sc (s : State) (f : Gauge → Gauge) (x : Nat) : (State.modGauge s f).sc x = s.sc x := rfl
@[simp] theorem State.modGauge_die (s : State) (f : Gauge → Gauge) (x : Nat) : (State.modGauge s f).die x = s.die x := rfl
@[simp] theorem State.modGauge_head (s : State) (f : Gauge → Gauge) (x : Nat) : (State.modGauge s f).head x = s.head x := rfl
@[simp] theorem State.modGauge_ld (s : State) (f : Gauge → Gauge) (x : Nat) : (State.modGauge s f).ld x = s.ld x := rfl
@[simp] theorem State.modGauge_rail (s : State) (f : Gauge → Gauge) (x : Nat) : (State.modGauge s f).rail x = s.rail x := rfl
@[simp] theorem State.modGauge_tw (s : State) (f : Gauge → Gauge) (x : Nat) : (State.modGauge s f).tw x = s.tw x := rfl
@[simp] theorem State.modGauge_path (s : State) (f : Gauge → Gauge) (x : Nat) : (State.modGauge s f).path x = s.path x := rfl
@[simp] theorem State.modGauge_slot (s : State) (f : Gauge → Gauge) (x : Nat) : (State.modGauge s f).slot x = s.slot x := rfl
@[simp] theorem State.modGauge_now (s : State) (f : Gauge → Gauge) : (State.modGauge s f).now = s.now := rfl
@[simp] theorem State.modGauge_frame (s : State) (f : Gauge → Gauge) : (State.modGauge s f).frame = s.frame := rfl
@[simp] theorem State.modGauge_sf (s : State) (f : Gauge → Gauge) : (State.modGauge s f).sf = s.sf := rfl

/-! ### modSeq -/

@[simp] theorem State.modSeq_rd (s : State) (f : Seq → Seq) (x : Nat) : (State.modSeq s f).rd x = s.rd x := rfl
@[simp] theorem State.modSeq_get (s : State) (f : Seq → Seq) (x : Fld) : (State.modSeq s f).get x = s.get x := rfl
@[simp] theorem State.modSeq_flag (s : State) (f : Seq → Seq) (x : Fld) : (State.modSeq s f).flag x = s.flag x := rfl
@[simp] theorem State.modSeq_quad (s : State) (f : Seq → Seq) (x : Nat) : (State.modSeq s f).quad x = s.quad x := rfl
@[simp] theorem State.modSeq_sc (s : State) (f : Seq → Seq) (x : Nat) : (State.modSeq s f).sc x = s.sc x := rfl
@[simp] theorem State.modSeq_die (s : State) (f : Seq → Seq) (x : Nat) : (State.modSeq s f).die x = s.die x := rfl
@[simp] theorem State.modSeq_head (s : State) (f : Seq → Seq) (x : Nat) : (State.modSeq s f).head x = s.head x := rfl
@[simp] theorem State.modSeq_ld (s : State) (f : Seq → Seq) (x : Nat) : (State.modSeq s f).ld x = s.ld x := rfl
@[simp] theorem State.modSeq_rail (s : State) (f : Seq → Seq) (x : Nat) : (State.modSeq s f).rail x = s.rail x := rfl
@[simp] theorem State.modSeq_tw (s : State) (f : Seq → Seq) (x : Nat) : (State.modSeq s f).tw x = s.tw x := rfl
@[simp] theorem State.modSeq_path (s : State) (f : Seq → Seq) (x : Nat) : (State.modSeq s f).path x = s.path x := rfl
@[simp] theorem State.modSeq_slot (s : State) (f : Seq → Seq) (x : Nat) : (State.modSeq s f).slot x = s.slot x := rfl
@[simp] theorem State.modSeq_now (s : State) (f : Seq → Seq) : (State.modSeq s f).now = s.now := rfl
@[simp] theorem State.modSeq_frame (s : State) (f : Seq → Seq) : (State.modSeq s f).frame = s.frame := rfl
@[simp] theorem State.modSeq_sf (s : State) (f : Seq → Seq) : (State.modSeq s f).sf = s.sf := rfl

/-! ### modPins -/

@[simp] theorem State.modPins_rd (s : State) (f : Pins → Pins) (x : Nat) : (State.modPins s f).rd x = s.rd x := rfl
@[simp] theorem State.modPins_get (s : State) (f : Pins → Pins) (x : Fld) : (State.modPins s f).get x = s.get x := rfl
@[simp] theorem State.modPins_flag (s : State) (f : Pins → Pins) (x : Fld) : (State.modPins s f).flag x = s.flag x := rfl
@[simp] theorem State.modPins_quad (s : State) (f : Pins → Pins) (x : Nat) : (State.modPins s f).quad x = s.quad x := rfl
@[simp] theorem State.modPins_sc (s : State) (f : Pins → Pins) (x : Nat) : (State.modPins s f).sc x = s.sc x := rfl
@[simp] theorem State.modPins_die (s : State) (f : Pins → Pins) (x : Nat) : (State.modPins s f).die x = s.die x := rfl
@[simp] theorem State.modPins_head (s : State) (f : Pins → Pins) (x : Nat) : (State.modPins s f).head x = s.head x := rfl
@[simp] theorem State.modPins_ld (s : State) (f : Pins → Pins) (x : Nat) : (State.modPins s f).ld x = s.ld x := rfl
@[simp] theorem State.modPins_rail (s : State) (f : Pins → Pins) (x : Nat) : (State.modPins s f).rail x = s.rail x := rfl
@[simp] theorem State.modPins_tw (s : State) (f : Pins → Pins) (x : Nat) : (State.modPins s f).tw x = s.tw x := rfl
@[simp] theorem State.modPins_path (s : State) (f : Pins → Pins) (x : Nat) : (State.modPins s f).path x = s.path x := rfl
@[simp] theorem State.modPins_slot (s : State) (f : Pins → Pins) (x : Nat) : (State.modPins s f).slot x = s.slot x := rfl
@[simp] theorem State.modPins_now (s : State) (f : Pins → Pins) : (State.modPins s f).now = s.now := rfl
@[simp] theorem State.modPins_frame (s : State) (f : Pins → Pins) : (State.modPins s f).frame = s.frame := rfl
@[simp] theorem State.modPins_sf (s : State) (f : Pins → Pins) : (State.modPins s f).sf = s.sf := rfl

/-! ### modSave -/

@[simp] theorem State.modSave_rd (s : State) (f : SaveSt → SaveSt) (x : Nat) : (State.modSave s f).rd x = s.rd x := rfl
@[simp] theorem State.modSave_get (s : State) (f : SaveSt → SaveSt) (x : Fld) : (State.modSave s f).get x = s.get x := rfl
@[simp] theorem State.modSave_flag (s : State) (f : SaveSt → SaveSt) (x : Fld) : (State.modSave s f).flag x = s.flag x := rfl
@[simp] theorem State.modSave_quad (s : State) (f : SaveSt → SaveSt) (x : Nat) : (State.modSave s f).quad x = s.quad x := rfl
@[simp] theorem State.modSave_sc (s : State) (f : SaveSt → SaveSt) (x : Nat) : (State.modSave s f).sc x = s.sc x := rfl
@[simp] theorem State.modSave_die (s : State) (f : SaveSt → SaveSt) (x : Nat) : (State.modSave s f).die x = s.die x := rfl
@[simp] theorem State.modSave_head (s : State) (f : SaveSt → SaveSt) (x : Nat) : (State.modSave s f).head x = s.head x := rfl
@[simp] theorem State.modSave_ld (s : State) (f : SaveSt → SaveSt) (x : Nat) : (State.modSave s f).ld x = s.ld x := rfl
@[simp] theorem State.modSave_rail (s : State) (f : SaveSt → SaveSt) (x : Nat) : (State.modSave s f).rail x = s.rail x := rfl
@[simp] theorem State.modSave_tw (s : State) (f : SaveSt → SaveSt) (x : Nat) : (State.modSave s f).tw x = s.tw x := rfl
@[simp] theorem State.modSave_path (s : State) (f : SaveSt → SaveSt) (x : Nat) : (State.modSave s f).path x = s.path x := rfl
@[simp] theorem State.modSave_slot (s : State) (f : SaveSt → SaveSt) (x : Nat) : (State.modSave s f).slot x = s.slot x := rfl
@[simp] theorem State.modSave_now (s : State) (f : SaveSt → SaveSt) : (State.modSave s f).now = s.now := rfl
@[simp] theorem State.modSave_frame (s : State) (f : SaveSt → SaveSt) : (State.modSave s f).frame = s.frame := rfl
@[simp] theorem State.modSave_sf (s : State) (f : SaveSt → SaveSt) : (State.modSave s f).sf = s.sf := rfl

/-! ### modGroup -/

@[simp] theorem State.modGroup_rd (s : State) (f : Group → Group) (x : Nat) : (State.modGroup s f).rd x = s.rd x := rfl
@[simp] theorem State.modGroup_get (s : State) (f : Group → Group) (x : Fld) : (State.modGroup s f).get x = s.get x := rfl
@[simp] theorem State.modGroup_flag (s : State) (f : Group → Group) (x : Fld) : (State.modGroup s f).flag x = s.flag x := rfl
@[simp] theorem State.modGroup_quad (s : State) (f : Group → Group) (x : Nat) : (State.modGroup s f).quad x = s.quad x := rfl
@[simp] theorem State.modGroup_sc (s : State) (f : Group → Group) (x : Nat) : (State.modGroup s f).sc x = s.sc x := rfl
@[simp] theorem State.modGroup_die (s : State) (f : Group → Group) (x : Nat) : (State.modGroup s f).die x = s.die x := rfl
@[simp] theorem State.modGroup_head (s : State) (f : Group → Group) (x : Nat) : (State.modGroup s f).head x = s.head x := rfl
@[simp] theorem State.modGroup_ld (s : State) (f : Group → Group) (x : Nat) : (State.modGroup s f).ld x = s.ld x := rfl
@[simp] theorem State.modGroup_rail (s : State) (f : Group → Group) (x : Nat) : (State.modGroup s f).rail x = s.rail x := rfl
@[simp] theorem State.modGroup_tw (s : State) (f : Group → Group) (x : Nat) : (State.modGroup s f).tw x = s.tw x := rfl
@[simp] theorem State.modGroup_path (s : State) (f : Group → Group) (x : Nat) : (State.modGroup s f).path x = s.path x := rfl
@[simp] theorem State.modGroup_slot (s : State) (f : Group → Group) (x : Nat) : (State.modGroup s f).slot x = s.slot x := rfl
@[simp] theorem State.modGroup_now (s : State) (f : Group → Group) : (State.modGroup s f).now = s.now := rfl
@[simp] theorem State.modGroup_frame (s : State) (f : Group → Group) : (State.modGroup s f).frame = s.frame := rfl
@[simp] theorem State.modGroup_sf (s : State) (f : Group → Group) : (State.modGroup s f).sf = s.sf := rfl

/-! ### modKeys -/

@[simp] theorem State.modKeys_rd (s : State) (f : Keys → Keys) (x : Nat) : (State.modKeys s f).rd x = s.rd x := rfl
@[simp] theorem State.modKeys_get (s : State) (f : Keys → Keys) (x : Fld) : (State.modKeys s f).get x = s.get x := rfl
@[simp] theorem State.modKeys_flag (s : State) (f : Keys → Keys) (x : Fld) : (State.modKeys s f).flag x = s.flag x := rfl
@[simp] theorem State.modKeys_quad (s : State) (f : Keys → Keys) (x : Nat) : (State.modKeys s f).quad x = s.quad x := rfl
@[simp] theorem State.modKeys_sc (s : State) (f : Keys → Keys) (x : Nat) : (State.modKeys s f).sc x = s.sc x := rfl
@[simp] theorem State.modKeys_die (s : State) (f : Keys → Keys) (x : Nat) : (State.modKeys s f).die x = s.die x := rfl
@[simp] theorem State.modKeys_head (s : State) (f : Keys → Keys) (x : Nat) : (State.modKeys s f).head x = s.head x := rfl
@[simp] theorem State.modKeys_ld (s : State) (f : Keys → Keys) (x : Nat) : (State.modKeys s f).ld x = s.ld x := rfl
@[simp] theorem State.modKeys_rail (s : State) (f : Keys → Keys) (x : Nat) : (State.modKeys s f).rail x = s.rail x := rfl
@[simp] theorem State.modKeys_tw (s : State) (f : Keys → Keys) (x : Nat) : (State.modKeys s f).tw x = s.tw x := rfl
@[simp] theorem State.modKeys_path (s : State) (f : Keys → Keys) (x : Nat) : (State.modKeys s f).path x = s.path x := rfl
@[simp] theorem State.modKeys_now (s : State) (f : Keys → Keys) : (State.modKeys s f).now = s.now := rfl
@[simp] theorem State.modKeys_frame (s : State) (f : Keys → Keys) : (State.modKeys s f).frame = s.frame := rfl
@[simp] theorem State.modKeys_sf (s : State) (f : Keys → Keys) : (State.modKeys s f).sf = s.sf := rfl

/-! ### modTick -/

@[simp] theorem State.modTick_rd (s : State) (f : Tick → Tick) (x : Nat) : (State.modTick s f).rd x = s.rd x := rfl
@[simp] theorem State.modTick_get (s : State) (f : Tick → Tick) (x : Fld) : (State.modTick s f).get x = s.get x := rfl
@[simp] theorem State.modTick_flag (s : State) (f : Tick → Tick) (x : Fld) : (State.modTick s f).flag x = s.flag x := rfl
@[simp] theorem State.modTick_quad (s : State) (f : Tick → Tick) (x : Nat) : (State.modTick s f).quad x = s.quad x := rfl
@[simp] theorem State.modTick_sc (s : State) (f : Tick → Tick) (x : Nat) : (State.modTick s f).sc x = s.sc x := rfl
@[simp] theorem State.modTick_die (s : State) (f : Tick → Tick) (x : Nat) : (State.modTick s f).die x = s.die x := rfl
@[simp] theorem State.modTick_head (s : State) (f : Tick → Tick) (x : Nat) : (State.modTick s f).head x = s.head x := rfl
@[simp] theorem State.modTick_ld (s : State) (f : Tick → Tick) (x : Nat) : (State.modTick s f).ld x = s.ld x := rfl
@[simp] theorem State.modTick_rail (s : State) (f : Tick → Tick) (x : Nat) : (State.modTick s f).rail x = s.rail x := rfl
@[simp] theorem State.modTick_tw (s : State) (f : Tick → Tick) (x : Nat) : (State.modTick s f).tw x = s.tw x := rfl
@[simp] theorem State.modTick_path (s : State) (f : Tick → Tick) (x : Nat) : (State.modTick s f).path x = s.path x := rfl
@[simp] theorem State.modTick_slot (s : State) (f : Tick → Tick) (x : Nat) : (State.modTick s f).slot x = s.slot x := rfl

/-! ### modEvents -/

@[simp] theorem State.modEvents_get (s : State) (f : Events → Events) (x : Fld) : (State.modEvents s f).get x = s.get x := rfl
@[simp] theorem State.modEvents_flag (s : State) (f : Events → Events) (x : Fld) : (State.modEvents s f).flag x = s.flag x := rfl
@[simp] theorem State.modEvents_quad (s : State) (f : Events → Events) (x : Nat) : (State.modEvents s f).quad x = s.quad x := rfl
@[simp] theorem State.modEvents_sc (s : State) (f : Events → Events) (x : Nat) : (State.modEvents s f).sc x = s.sc x := rfl
@[simp] theorem State.modEvents_die (s : State) (f : Events → Events) (x : Nat) : (State.modEvents s f).die x = s.die x := rfl
@[simp] theorem State.modEvents_head (s : State) (f : Events → Events) (x : Nat) : (State.modEvents s f).head x = s.head x := rfl
@[simp] theorem State.modEvents_ld (s : State) (f : Events → Events) (x : Nat) : (State.modEvents s f).ld x = s.ld x := rfl
@[simp] theorem State.modEvents_rail (s : State) (f : Events → Events) (x : Nat) : (State.modEvents s f).rail x = s.rail x := rfl
@[simp] theorem State.modEvents_tw (s : State) (f : Events → Events) (x : Nat) : (State.modEvents s f).tw x = s.tw x := rfl
@[simp] theorem State.modEvents_path (s : State) (f : Events → Events) (x : Nat) : (State.modEvents s f).path x = s.path x := rfl
@[simp] theorem State.modEvents_slot (s : State) (f : Events → Events) (x : Nat) : (State.modEvents s f).slot x = s.slot x := rfl
@[simp] theorem State.modEvents_now (s : State) (f : Events → Events) : (State.modEvents s f).now = s.now := rfl
@[simp] theorem State.modEvents_frame (s : State) (f : Events → Events) : (State.modEvents s f).frame = s.frame := rfl
@[simp] theorem State.modEvents_sf (s : State) (f : Events → Events) : (State.modEvents s f).sf = s.sf := rfl

/-! ### modFabric -/

@[simp] theorem State.modFabric_rd (s : State) (f : Fabric → Fabric) (x : Nat) : (State.modFabric s f).rd x = s.rd x := rfl
@[simp] theorem State.modFabric_get (s : State) (f : Fabric → Fabric) (x : Fld) : (State.modFabric s f).get x = s.get x := rfl
@[simp] theorem State.modFabric_flag (s : State) (f : Fabric → Fabric) (x : Fld) : (State.modFabric s f).flag x = s.flag x := rfl
@[simp] theorem State.modFabric_quad (s : State) (f : Fabric → Fabric) (x : Nat) : (State.modFabric s f).quad x = s.quad x := rfl
@[simp] theorem State.modFabric_sc (s : State) (f : Fabric → Fabric) (x : Nat) : (State.modFabric s f).sc x = s.sc x := rfl
@[simp] theorem State.modFabric_die (s : State) (f : Fabric → Fabric) (x : Nat) : (State.modFabric s f).die x = s.die x := rfl
@[simp] theorem State.modFabric_head (s : State) (f : Fabric → Fabric) (x : Nat) : (State.modFabric s f).head x = s.head x := rfl
@[simp] theorem State.modFabric_ld (s : State) (f : Fabric → Fabric) (x : Nat) : (State.modFabric s f).ld x = s.ld x := rfl
@[simp] theorem State.modFabric_rail (s : State) (f : Fabric → Fabric) (x : Nat) : (State.modFabric s f).rail x = s.rail x := rfl
@[simp] theorem State.modFabric_tw (s : State) (f : Fabric → Fabric) (x : Nat) : (State.modFabric s f).tw x = s.tw x := rfl
@[simp] theorem State.modFabric_path (s : State) (f : Fabric → Fabric) (x : Nat) : (State.modFabric s f).path x = s.path x := rfl
@[simp] theorem State.modFabric_slot (s : State) (f : Fabric → Fabric) (x : Nat) : (State.modFabric s f).slot x = s.slot x := rfl
@[simp] theorem State.modFabric_now (s : State) (f : Fabric → Fabric) : (State.modFabric s f).now = s.now := rfl
@[simp] theorem State.modFabric_frame (s : State) (f : Fabric → Fabric) : (State.modFabric s f).frame = s.frame := rfl
@[simp] theorem State.modFabric_sf (s : State) (f : Fabric → Fabric) : (State.modFabric s f).sf = s.sf := rfl

/-! ### modUpd -/

@[simp] theorem State.modUpd_rd (s : State) (f : Update → Update) (x : Nat) : (State.modUpd s f).rd x = s.rd x := rfl
@[simp] theorem State.modUpd_get (s : State) (f : Update → Update) (x : Fld) : (State.modUpd s f).get x = s.get x := rfl
@[simp] theorem State.modUpd_flag (s : State) (f : Update → Update) (x : Fld) : (State.modUpd s f).flag x = s.flag x := rfl
@[simp] theorem State.modUpd_quad (s : State) (f : Update → Update) (x : Nat) : (State.modUpd s f).quad x = s.quad x := rfl
@[simp] theorem State.modUpd_sc (s : State) (f : Update → Update) (x : Nat) : (State.modUpd s f).sc x = s.sc x := rfl
@[simp] theorem State.modUpd_die (s : State) (f : Update → Update) (x : Nat) : (State.modUpd s f).die x = s.die x := rfl
@[simp] theorem State.modUpd_head (s : State) (f : Update → Update) (x : Nat) : (State.modUpd s f).head x = s.head x := rfl
@[simp] theorem State.modUpd_ld (s : State) (f : Update → Update) (x : Nat) : (State.modUpd s f).ld x = s.ld x := rfl
@[simp] theorem State.modUpd_rail (s : State) (f : Update → Update) (x : Nat) : (State.modUpd s f).rail x = s.rail x := rfl
@[simp] theorem State.modUpd_tw (s : State) (f : Update → Update) (x : Nat) : (State.modUpd s f).tw x = s.tw x := rfl
@[simp] theorem State.modUpd_path (s : State) (f : Update → Update) (x : Nat) : (State.modUpd s f).path x = s.path x := rfl
@[simp] theorem State.modUpd_slot (s : State) (f : Update → Update) (x : Nat) : (State.modUpd s f).slot x = s.slot x := rfl
@[simp] theorem State.modUpd_now (s : State) (f : Update → Update) : (State.modUpd s f).now = s.now := rfl
@[simp] theorem State.modUpd_frame (s : State) (f : Update → Update) : (State.modUpd s f).frame = s.frame := rfl
@[simp] theorem State.modUpd_sf (s : State) (f : Update → Update) : (State.modUpd s f).sf = s.sf := rfl

/-! ### modPlumb -/

@[simp] theorem State.modPlumb_rd (s : State) (f : Plumb → Plumb) (x : Nat) : (State.modPlumb s f).rd x = s.rd x := rfl
@[simp] theorem State.modPlumb_get (s : State) (f : Plumb → Plumb) (x : Fld) : (State.modPlumb s f).get x = s.get x := rfl
@[simp] theorem State.modPlumb_flag (s : State) (f : Plumb → Plumb) (x : Fld) : (State.modPlumb s f).flag x = s.flag x := rfl
@[simp] theorem State.modPlumb_quad (s : State) (f : Plumb → Plumb) (x : Nat) : (State.modPlumb s f).quad x = s.quad x := rfl
@[simp] theorem State.modPlumb_sc (s : State) (f : Plumb → Plumb) (x : Nat) : (State.modPlumb s f).sc x = s.sc x := rfl
@[simp] theorem State.modPlumb_die (s : State) (f : Plumb → Plumb) (x : Nat) : (State.modPlumb s f).die x = s.die x := rfl
@[simp] theorem State.modPlumb_head (s : State) (f : Plumb → Plumb) (x : Nat) : (State.modPlumb s f).head x = s.head x := rfl
@[simp] theorem State.modPlumb_ld (s : State) (f : Plumb → Plumb) (x : Nat) : (State.modPlumb s f).ld x = s.ld x := rfl
@[simp] theorem State.modPlumb_rail (s : State) (f : Plumb → Plumb) (x : Nat) : (State.modPlumb s f).rail x = s.rail x := rfl
@[simp] theorem State.modPlumb_tw (s : State) (f : Plumb → Plumb) (x : Nat) : (State.modPlumb s f).tw x = s.tw x := rfl
@[simp] theorem State.modPlumb_path (s : State) (f : Plumb → Plumb) (x : Nat) : (State.modPlumb s f).path x = s.path x := rfl
@[simp] theorem State.modPlumb_slot (s : State) (f : Plumb → Plumb) (x : Nat) : (State.modPlumb s f).slot x = s.slot x := rfl
@[simp] theorem State.modPlumb_now (s : State) (f : Plumb → Plumb) : (State.modPlumb s f).now = s.now := rfl
@[simp] theorem State.modPlumb_frame (s : State) (f : Plumb → Plumb) : (State.modPlumb s f).frame = s.frame := rfl
@[simp] theorem State.modPlumb_sf (s : State) (f : Plumb → Plumb) : (State.modPlumb s f).sf = s.sf := rfl

/-! ### modTw0 -/

@[simp] theorem State.modTw0_rd (s : State) (f : Tw0 → Tw0) (x : Nat) : (State.modTw0 s f).rd x = s.rd x := rfl
@[simp] theorem State.modTw0_get (s : State) (f : Tw0 → Tw0) (x : Fld) : (State.modTw0 s f).get x = s.get x := rfl
@[simp] theorem State.modTw0_flag (s : State) (f : Tw0 → Tw0) (x : Fld) : (State.modTw0 s f).flag x = s.flag x := rfl
@[simp] theorem State.modTw0_quad (s : State) (f : Tw0 → Tw0) (x : Nat) : (State.modTw0 s f).quad x = s.quad x := rfl
@[simp] theorem State.modTw0_sc (s : State) (f : Tw0 → Tw0) (x : Nat) : (State.modTw0 s f).sc x = s.sc x := rfl
@[simp] theorem State.modTw0_die (s : State) (f : Tw0 → Tw0) (x : Nat) : (State.modTw0 s f).die x = s.die x := rfl
@[simp] theorem State.modTw0_head (s : State) (f : Tw0 → Tw0) (x : Nat) : (State.modTw0 s f).head x = s.head x := rfl
@[simp] theorem State.modTw0_ld (s : State) (f : Tw0 → Tw0) (x : Nat) : (State.modTw0 s f).ld x = s.ld x := rfl
@[simp] theorem State.modTw0_rail (s : State) (f : Tw0 → Tw0) (x : Nat) : (State.modTw0 s f).rail x = s.rail x := rfl
@[simp] theorem State.modTw0_tw (s : State) (f : Tw0 → Tw0) (x : Nat) : (State.modTw0 s f).tw x = s.tw x := rfl
@[simp] theorem State.modTw0_path (s : State) (f : Tw0 → Tw0) (x : Nat) : (State.modTw0 s f).path x = s.path x := rfl
@[simp] theorem State.modTw0_slot (s : State) (f : Tw0 → Tw0) (x : Nat) : (State.modTw0 s f).slot x = s.slot x := rfl
@[simp] theorem State.modTw0_now (s : State) (f : Tw0 → Tw0) : (State.modTw0 s f).now = s.now := rfl
@[simp] theorem State.modTw0_frame (s : State) (f : Tw0 → Tw0) : (State.modTw0 s f).frame = s.frame := rfl
@[simp] theorem State.modTw0_sf (s : State) (f : Tw0 → Tw0) : (State.modTw0 s f).sf = s.sf := rfl

/-! ### begin -/

@[simp] theorem State.begin_rd (s : State) (x : Nat) : (State.begin s).rd x = s.rd x := rfl
@[simp] theorem State.begin_get (s : State) (x : Fld) : (State.begin s).get x = s.get x := rfl
@[simp] theorem State.begin_flag (s : State) (x : Fld) : (State.begin s).flag x = s.flag x := rfl
@[simp] theorem State.begin_quad (s : State) (x : Nat) : (State.begin s).quad x = s.quad x := rfl
@[simp] theorem State.begin_sc (s : State) (x : Nat) : (State.begin s).sc x = s.sc x := rfl
@[simp] theorem State.begin_die (s : State) (x : Nat) : (State.begin s).die x = s.die x := rfl
@[simp] theorem State.begin_head (s : State) (x : Nat) : (State.begin s).head x = s.head x := rfl
@[simp] theorem State.begin_ld (s : State) (x : Nat) : (State.begin s).ld x = s.ld x := rfl
@[simp] theorem State.begin_rail (s : State) (x : Nat) : (State.begin s).rail x = s.rail x := rfl
@[simp] theorem State.begin_tw (s : State) (x : Nat) : (State.begin s).tw x = s.tw x := rfl
@[simp] theorem State.begin_path (s : State) (x : Nat) : (State.begin s).path x = s.path x := rfl
@[simp] theorem State.begin_slot (s : State) (x : Nat) : (State.begin s).slot x = s.slot x := rfl
@[simp] theorem State.begin_now (s : State) : (State.begin s).now = s.now := rfl
@[simp] theorem State.begin_frame (s : State) : (State.begin s).frame = s.frame := rfl
@[simp] theorem State.begin_sf (s : State) : (State.begin s).sf = s.sf := rfl

/-! ### emit -/

@[simp] theorem State.emit_rd (s : State) (o : Out) (x : Nat) : (State.emit s o).rd x = s.rd x := rfl
@[simp] theorem State.emit_get (s : State) (o : Out) (x : Fld) : (State.emit s o).get x = s.get x := rfl
@[simp] theorem State.emit_flag (s : State) (o : Out) (x : Fld) : (State.emit s o).flag x = s.flag x := rfl
@[simp] theorem State.emit_quad (s : State) (o : Out) (x : Nat) : (State.emit s o).quad x = s.quad x := rfl
@[simp] theorem State.emit_sc (s : State) (o : Out) (x : Nat) : (State.emit s o).sc x = s.sc x := rfl
@[simp] theorem State.emit_die (s : State) (o : Out) (x : Nat) : (State.emit s o).die x = s.die x := rfl
@[simp] theorem State.emit_head (s : State) (o : Out) (x : Nat) : (State.emit s o).head x = s.head x := rfl
@[simp] theorem State.emit_ld (s : State) (o : Out) (x : Nat) : (State.emit s o).ld x = s.ld x := rfl
@[simp] theorem State.emit_rail (s : State) (o : Out) (x : Nat) : (State.emit s o).rail x = s.rail x := rfl
@[simp] theorem State.emit_tw (s : State) (o : Out) (x : Nat) : (State.emit s o).tw x = s.tw x := rfl
@[simp] theorem State.emit_path (s : State) (o : Out) (x : Nat) : (State.emit s o).path x = s.path x := rfl
@[simp] theorem State.emit_slot (s : State) (o : Out) (x : Nat) : (State.emit s o).slot x = s.slot x := rfl
@[simp] theorem State.emit_now (s : State) (o : Out) : (State.emit s o).now = s.now := rfl
@[simp] theorem State.emit_frame (s : State) (o : Out) : (State.emit s o).frame = s.frame := rfl
@[simp] theorem State.emit_sf (s : State) (o : Out) : (State.emit s o).sf = s.sf := rfl

/-! ### atCycle -/

@[simp] theorem State.atCycle_rd (s : State) (c : Nat) (x : Nat) : (State.atCycle s c).rd x = s.rd x := rfl
@[simp] theorem State.atCycle_get (s : State) (c : Nat) (x : Fld) : (State.atCycle s c).get x = s.get x := rfl
@[simp] theorem State.atCycle_flag (s : State) (c : Nat) (x : Fld) : (State.atCycle s c).flag x = s.flag x := rfl
@[simp] theorem State.atCycle_quad (s : State) (c : Nat) (x : Nat) : (State.atCycle s c).quad x = s.quad x := rfl
@[simp] theorem State.atCycle_sc (s : State) (c : Nat) (x : Nat) : (State.atCycle s c).sc x = s.sc x := rfl
@[simp] theorem State.atCycle_die (s : State) (c : Nat) (x : Nat) : (State.atCycle s c).die x = s.die x := rfl
@[simp] theorem State.atCycle_head (s : State) (c : Nat) (x : Nat) : (State.atCycle s c).head x = s.head x := rfl
@[simp] theorem State.atCycle_ld (s : State) (c : Nat) (x : Nat) : (State.atCycle s c).ld x = s.ld x := rfl
@[simp] theorem State.atCycle_rail (s : State) (c : Nat) (x : Nat) : (State.atCycle s c).rail x = s.rail x := rfl
@[simp] theorem State.atCycle_tw (s : State) (c : Nat) (x : Nat) : (State.atCycle s c).tw x = s.tw x := rfl
@[simp] theorem State.atCycle_path (s : State) (c : Nat) (x : Nat) : (State.atCycle s c).path x = s.path x := rfl
@[simp] theorem State.atCycle_slot (s : State) (c : Nat) (x : Nat) : (State.atCycle s c).slot x = s.slot x := rfl

/-! ### takeFree -/

@[simp] theorem State.takeFree_rd (s : State) (x : Nat) : (State.takeFree s).2.rd x = s.rd x := rfl
@[simp] theorem State.takeFree_get (s : State) (x : Fld) : (State.takeFree s).2.get x = s.get x := rfl
@[simp] theorem State.takeFree_flag (s : State) (x : Fld) : (State.takeFree s).2.flag x = s.flag x := rfl
@[simp] theorem State.takeFree_quad (s : State) (x : Nat) : (State.takeFree s).2.quad x = s.quad x := rfl
@[simp] theorem State.takeFree_sc (s : State) (x : Nat) : (State.takeFree s).2.sc x = s.sc x := rfl
@[simp] theorem State.takeFree_die (s : State) (x : Nat) : (State.takeFree s).2.die x = s.die x := rfl
@[simp] theorem State.takeFree_head (s : State) (x : Nat) : (State.takeFree s).2.head x = s.head x := rfl
@[simp] theorem State.takeFree_ld (s : State) (x : Nat) : (State.takeFree s).2.ld x = s.ld x := rfl
@[simp] theorem State.takeFree_rail (s : State) (x : Nat) : (State.takeFree s).2.rail x = s.rail x := rfl
@[simp] theorem State.takeFree_tw (s : State) (x : Nat) : (State.takeFree s).2.tw x = s.tw x := rfl
@[simp] theorem State.takeFree_path (s : State) (x : Nat) : (State.takeFree s).2.path x = s.path x := rfl
@[simp] theorem State.takeFree_slot (s : State) (x : Nat) : (State.takeFree s).2.slot x = s.slot x := rfl
@[simp] theorem State.takeFree_now (s : State) : (State.takeFree s).2.now = s.now := rfl
@[simp] theorem State.takeFree_frame (s : State) : (State.takeFree s).2.frame = s.frame := rfl
@[simp] theorem State.takeFree_sf (s : State) : (State.takeFree s).2.sf = s.sf := rfl

/-! ### wr -/

@[simp] theorem State.wr_quad (s : State) (off : Nat) (w : Word) (x : Nat) : (State.wr s off w).quad x = s.quad x := rfl
@[simp] theorem State.wr_sc (s : State) (off : Nat) (w : Word) (x : Nat) : (State.wr s off w).sc x = s.sc x := rfl
@[simp] theorem State.wr_die (s : State) (off : Nat) (w : Word) (x : Nat) : (State.wr s off w).die x = s.die x := rfl
@[simp] theorem State.wr_head (s : State) (off : Nat) (w : Word) (x : Nat) : (State.wr s off w).head x = s.head x := rfl
@[simp] theorem State.wr_ld (s : State) (off : Nat) (w : Word) (x : Nat) : (State.wr s off w).ld x = s.ld x := rfl
@[simp] theorem State.wr_rail (s : State) (off : Nat) (w : Word) (x : Nat) : (State.wr s off w).rail x = s.rail x := rfl
@[simp] theorem State.wr_tw (s : State) (off : Nat) (w : Word) (x : Nat) : (State.wr s off w).tw x = s.tw x := rfl
@[simp] theorem State.wr_path (s : State) (off : Nat) (w : Word) (x : Nat) : (State.wr s off w).path x = s.path x := rfl
@[simp] theorem State.wr_slot (s : State) (off : Nat) (w : Word) (x : Nat) : (State.wr s off w).slot x = s.slot x := rfl
@[simp] theorem State.wr_now (s : State) (off : Nat) (w : Word) : (State.wr s off w).now = s.now := rfl
@[simp] theorem State.wr_frame (s : State) (off : Nat) (w : Word) : (State.wr s off w).frame = s.frame := rfl
@[simp] theorem State.wr_sf (s : State) (off : Nat) (w : Word) : (State.wr s off w).sf = s.sf := rfl

/-! ### put -/

@[simp] theorem State.put_quad (s : State) (f : Fld) (v : Nat) (x : Nat) : (State.put s f v).quad x = s.quad x := rfl
@[simp] theorem State.put_sc (s : State) (f : Fld) (v : Nat) (x : Nat) : (State.put s f v).sc x = s.sc x := rfl
@[simp] theorem State.put_die (s : State) (f : Fld) (v : Nat) (x : Nat) : (State.put s f v).die x = s.die x := rfl
@[simp] theorem State.put_head (s : State) (f : Fld) (v : Nat) (x : Nat) : (State.put s f v).head x = s.head x := rfl
@[simp] theorem State.put_ld (s : State) (f : Fld) (v : Nat) (x : Nat) : (State.put s f v).ld x = s.ld x := rfl
@[simp] theorem State.put_rail (s : State) (f : Fld) (v : Nat) (x : Nat) : (State.put s f v).rail x = s.rail x := rfl
@[simp] theorem State.put_tw (s : State) (f : Fld) (v : Nat) (x : Nat) : (State.put s f v).tw x = s.tw x := rfl
@[simp] theorem State.put_path (s : State) (f : Fld) (v : Nat) (x : Nat) : (State.put s f v).path x = s.path x := rfl
@[simp] theorem State.put_slot (s : State) (f : Fld) (v : Nat) (x : Nat) : (State.put s f v).slot x = s.slot x := rfl
@[simp] theorem State.put_now (s : State) (f : Fld) (v : Nat) : (State.put s f v).now = s.now := rfl
@[simp] theorem State.put_frame (s : State) (f : Fld) (v : Nat) : (State.put s f v).frame = s.frame := rfl
@[simp] theorem State.put_sf (s : State) (f : Fld) (v : Nat) : (State.put s f v).sf = s.sf := rfl

/-! ### putB -/

@[simp] theorem State.putB_quad (s : State) (f : Fld) (b : Bool) (x : Nat) : (State.putB s f b).quad x = s.quad x := rfl
@[simp] theorem State.putB_sc (s : State) (f : Fld) (b : Bool) (x : Nat) : (State.putB s f b).sc x = s.sc x := rfl
@[simp] theorem State.putB_die (s : State) (f : Fld) (b : Bool) (x : Nat) : (State.putB s f b).die x = s.die x := rfl
@[simp] theorem State.putB_head (s : State) (f : Fld) (b : Bool) (x : Nat) : (State.putB s f b).head x = s.head x := rfl
@[simp] theorem State.putB_ld (s : State) (f : Fld) (b : Bool) (x : Nat) : (State.putB s f b).ld x = s.ld x := rfl
@[simp] theorem State.putB_rail (s : State) (f : Fld) (b : Bool) (x : Nat) : (State.putB s f b).rail x = s.rail x := rfl
@[simp] theorem State.putB_tw (s : State) (f : Fld) (b : Bool) (x : Nat) : (State.putB s f b).tw x = s.tw x := rfl
@[simp] theorem State.putB_path (s : State) (f : Fld) (b : Bool) (x : Nat) : (State.putB s f b).path x = s.path x := rfl
@[simp] theorem State.putB_slot (s : State) (f : Fld) (b : Bool) (x : Nat) : (State.putB s f b).slot x = s.slot x := rfl
@[simp] theorem State.putB_now (s : State) (f : Fld) (b : Bool) : (State.putB s f b).now = s.now := rfl
@[simp] theorem State.putB_frame (s : State) (f : Fld) (b : Bool) : (State.putB s f b).frame = s.frame := rfl
@[simp] theorem State.putB_sf (s : State) (f : Fld) (b : Bool) : (State.putB s f b).sf = s.sf := rfl

/-! ### bump -/

@[simp] theorem State.bump_quad (s : State) (f : Fld) (n : Nat) (x : Nat) : (State.bump s f n).quad x = s.quad x := rfl
@[simp] theorem State.bump_sc (s : State) (f : Fld) (n : Nat) (x : Nat) : (State.bump s f n).sc x = s.sc x := rfl
@[simp] theorem State.bump_die (s : State) (f : Fld) (n : Nat) (x : Nat) : (State.bump s f n).die x = s.die x := rfl
@[simp] theorem State.bump_head (s : State) (f : Fld) (n : Nat) (x : Nat) : (State.bump s f n).head x = s.head x := rfl
@[simp] theorem State.bump_ld (s : State) (f : Fld) (n : Nat) (x : Nat) : (State.bump s f n).ld x = s.ld x := rfl
@[simp] theorem State.bump_rail (s : State) (f : Fld) (n : Nat) (x : Nat) : (State.bump s f n).rail x = s.rail x := rfl
@[simp] theorem State.bump_tw (s : State) (f : Fld) (n : Nat) (x : Nat) : (State.bump s f n).tw x = s.tw x := rfl
@[simp] theorem State.bump_path (s : State) (f : Fld) (n : Nat) (x : Nat) : (State.bump s f n).path x = s.path x := rfl
@[simp] theorem State.bump_slot (s : State) (f : Fld) (n : Nat) (x : Nat) : (State.bump s f n).slot x = s.slot x := rfl
@[simp] theorem State.bump_now (s : State) (f : Fld) (n : Nat) : (State.bump s f n).now = s.now := rfl
@[simp] theorem State.bump_frame (s : State) (f : Fld) (n : Nat) : (State.bump s f n).frame = s.frame := rfl
@[simp] theorem State.bump_sf (s : State) (f : Fld) (n : Nat) : (State.bump s f n).sf = s.sf := rfl

/-! ### putSat -/

@[simp] theorem State.putSat_quad (s : State) (f : Fld) (v : Nat) (x : Nat) : (State.putSat s f v).quad x = s.quad x := rfl
@[simp] theorem State.putSat_sc (s : State) (f : Fld) (v : Nat) (x : Nat) : (State.putSat s f v).sc x = s.sc x := rfl
@[simp] theorem State.putSat_die (s : State) (f : Fld) (v : Nat) (x : Nat) : (State.putSat s f v).die x = s.die x := rfl
@[simp] theorem State.putSat_head (s : State) (f : Fld) (v : Nat) (x : Nat) : (State.putSat s f v).head x = s.head x := rfl
@[simp] theorem State.putSat_ld (s : State) (f : Fld) (v : Nat) (x : Nat) : (State.putSat s f v).ld x = s.ld x := rfl
@[simp] theorem State.putSat_rail (s : State) (f : Fld) (v : Nat) (x : Nat) : (State.putSat s f v).rail x = s.rail x := rfl
@[simp] theorem State.putSat_tw (s : State) (f : Fld) (v : Nat) (x : Nat) : (State.putSat s f v).tw x = s.tw x := rfl
@[simp] theorem State.putSat_path (s : State) (f : Fld) (v : Nat) (x : Nat) : (State.putSat s f v).path x = s.path x := rfl
@[simp] theorem State.putSat_slot (s : State) (f : Fld) (v : Nat) (x : Nat) : (State.putSat s f v).slot x = s.slot x := rfl
@[simp] theorem State.putSat_now (s : State) (f : Fld) (v : Nat) : (State.putSat s f v).now = s.now := rfl
@[simp] theorem State.putSat_frame (s : State) (f : Fld) (v : Nat) : (State.putSat s f v).frame = s.frame := rfl
@[simp] theorem State.putSat_sf (s : State) (f : Fld) (v : Nat) : (State.putSat s f v).sf = s.sf := rfl

/-! ### put64 -/

@[simp] theorem State.put64_quad (s : State) (lo hi : Nat) (v : Nat) (x : Nat) : (State.put64 s lo hi v).quad x = s.quad x := rfl
@[simp] theorem State.put64_sc (s : State) (lo hi : Nat) (v : Nat) (x : Nat) : (State.put64 s lo hi v).sc x = s.sc x := rfl
@[simp] theorem State.put64_die (s : State) (lo hi : Nat) (v : Nat) (x : Nat) : (State.put64 s lo hi v).die x = s.die x := rfl
@[simp] theorem State.put64_head (s : State) (lo hi : Nat) (v : Nat) (x : Nat) : (State.put64 s lo hi v).head x = s.head x := rfl
@[simp] theorem State.put64_ld (s : State) (lo hi : Nat) (v : Nat) (x : Nat) : (State.put64 s lo hi v).ld x = s.ld x := rfl
@[simp] theorem State.put64_rail (s : State) (lo hi : Nat) (v : Nat) (x : Nat) : (State.put64 s lo hi v).rail x = s.rail x := rfl
@[simp] theorem State.put64_tw (s : State) (lo hi : Nat) (v : Nat) (x : Nat) : (State.put64 s lo hi v).tw x = s.tw x := rfl
@[simp] theorem State.put64_path (s : State) (lo hi : Nat) (v : Nat) (x : Nat) : (State.put64 s lo hi v).path x = s.path x := rfl
@[simp] theorem State.put64_slot (s : State) (lo hi : Nat) (v : Nat) (x : Nat) : (State.put64 s lo hi v).slot x = s.slot x := rfl
@[simp] theorem State.put64_now (s : State) (lo hi : Nat) (v : Nat) : (State.put64 s lo hi v).now = s.now := rfl
@[simp] theorem State.put64_frame (s : State) (lo hi : Nat) (v : Nat) : (State.put64 s lo hi v).frame = s.frame := rfl
@[simp] theorem State.put64_sf (s : State) (lo hi : Nat) (v : Nat) : (State.put64 s lo hi v).sf = s.sf := rfl

/-! ### raise -/

@[simp] theorem State.raise_quad (s : State) (m : FaultMsg) (x : Nat) : (State.raise s m).quad x = s.quad x := by
  unfold State.quad
  rw [State.raise_quads]
@[simp] theorem State.raise_sc (s : State) (m : FaultMsg) (x : Nat) : (State.raise s m).sc x = s.sc x := by
  unfold State.sc
  rw [State.raise_scs]
@[simp] theorem State.raise_die (s : State) (m : FaultMsg) (x : Nat) : (State.raise s m).die x = s.die x := by
  unfold State.die
  rw [State.raise_dies]
@[simp] theorem State.raise_head (s : State) (m : FaultMsg) (x : Nat) : (State.raise s m).head x = s.head x := by
  unfold State.head
  rw [State.raise_heads]
@[simp] theorem State.raise_ld (s : State) (m : FaultMsg) (x : Nat) : (State.raise s m).ld x = s.ld x := by
  unfold State.ld
  rw [State.raise_lds]
@[simp] theorem State.raise_rail (s : State) (m : FaultMsg) (x : Nat) : (State.raise s m).rail x = s.rail x := by
  unfold State.rail
  rw [State.raise_rails]
@[simp] theorem State.raise_tw (s : State) (m : FaultMsg) (x : Nat) : (State.raise s m).tw x = s.tw x := by
  unfold State.tw
  rw [State.raise_tws]
@[simp] theorem State.raise_path (s : State) (m : FaultMsg) (x : Nat) : (State.raise s m).path x = s.path x := by
  unfold State.path
  rw [State.raise_paths]
@[simp] theorem State.raise_slot (s : State) (m : FaultMsg) (x : Nat) : (State.raise s m).slot x = s.slot x := by
  unfold State.slot
  rw [State.raise_keys]
@[simp] theorem State.raise_now (s : State) (m : FaultMsg) : (State.raise s m).now = s.now := by
  unfold State.now
  rw [State.raise_tick]
@[simp] theorem State.raise_frame (s : State) (m : FaultMsg) : (State.raise s m).frame = s.frame := by
  unfold State.frame
  rw [State.raise_tick]
@[simp] theorem State.raise_sf (s : State) (m : FaultMsg) : (State.raise s m).sf = s.sf := by
  unfold State.sf
  rw [State.raise_tick]

/-! ### event -/

@[simp] theorem State.event_quad (s : State) (src kind sev : Nat) (x : Nat) : (State.event s src kind sev).quad x = s.quad x := by
  unfold State.quad
  rw [State.event_quads]
@[simp] theorem State.event_sc (s : State) (src kind sev : Nat) (x : Nat) : (State.event s src kind sev).sc x = s.sc x := by
  unfold State.sc
  rw [State.event_scs]
@[simp] theorem State.event_die (s : State) (src kind sev : Nat) (x : Nat) : (State.event s src kind sev).die x = s.die x := by
  unfold State.die
  rw [State.event_dies]
@[simp] theorem State.event_head (s : State) (src kind sev : Nat) (x : Nat) : (State.event s src kind sev).head x = s.head x := by
  unfold State.head
  rw [State.event_heads]
@[simp] theorem State.event_ld (s : State) (src kind sev : Nat) (x : Nat) : (State.event s src kind sev).ld x = s.ld x := by
  unfold State.ld
  rw [State.event_lds]
@[simp] theorem State.event_rail (s : State) (src kind sev : Nat) (x : Nat) : (State.event s src kind sev).rail x = s.rail x := by
  unfold State.rail
  rw [State.event_rails]
@[simp] theorem State.event_tw (s : State) (src kind sev : Nat) (x : Nat) : (State.event s src kind sev).tw x = s.tw x := by
  unfold State.tw
  rw [State.event_tws]
@[simp] theorem State.event_path (s : State) (src kind sev : Nat) (x : Nat) : (State.event s src kind sev).path x = s.path x := by
  unfold State.path
  rw [State.event_paths]
@[simp] theorem State.event_slot (s : State) (src kind sev : Nat) (x : Nat) : (State.event s src kind sev).slot x = s.slot x := by
  unfold State.slot
  rw [State.event_keys]
@[simp] theorem State.event_now (s : State) (src kind sev : Nat) : (State.event s src kind sev).now = s.now := by
  unfold State.now
  rw [State.event_tick]
@[simp] theorem State.event_frame (s : State) (src kind sev : Nat) : (State.event s src kind sev).frame = s.frame := by
  unfold State.frame
  rw [State.event_tick]
@[simp] theorem State.event_sf (s : State) (src kind sev : Nat) : (State.event s src kind sev).sf = s.sf := by
  unfold State.sf
  rw [State.event_tick]

/-! ### eventAt -/

@[simp] theorem State.eventAt_quad (s : State) (src kind sev req acc space addr : Nat) (x : Nat) : (State.eventAt s src kind sev req acc space addr).quad x = s.quad x := by
  unfold State.quad
  rw [State.eventAt_quads]
@[simp] theorem State.eventAt_sc (s : State) (src kind sev req acc space addr : Nat) (x : Nat) : (State.eventAt s src kind sev req acc space addr).sc x = s.sc x := by
  unfold State.sc
  rw [State.eventAt_scs]
@[simp] theorem State.eventAt_die (s : State) (src kind sev req acc space addr : Nat) (x : Nat) : (State.eventAt s src kind sev req acc space addr).die x = s.die x := by
  unfold State.die
  rw [State.eventAt_dies]
@[simp] theorem State.eventAt_head (s : State) (src kind sev req acc space addr : Nat) (x : Nat) : (State.eventAt s src kind sev req acc space addr).head x = s.head x := by
  unfold State.head
  rw [State.eventAt_heads]
@[simp] theorem State.eventAt_ld (s : State) (src kind sev req acc space addr : Nat) (x : Nat) : (State.eventAt s src kind sev req acc space addr).ld x = s.ld x := by
  unfold State.ld
  rw [State.eventAt_lds]
@[simp] theorem State.eventAt_rail (s : State) (src kind sev req acc space addr : Nat) (x : Nat) : (State.eventAt s src kind sev req acc space addr).rail x = s.rail x := by
  unfold State.rail
  rw [State.eventAt_rails]
@[simp] theorem State.eventAt_tw (s : State) (src kind sev req acc space addr : Nat) (x : Nat) : (State.eventAt s src kind sev req acc space addr).tw x = s.tw x := by
  unfold State.tw
  rw [State.eventAt_tws]
@[simp] theorem State.eventAt_path (s : State) (src kind sev req acc space addr : Nat) (x : Nat) : (State.eventAt s src kind sev req acc space addr).path x = s.path x := by
  unfold State.path
  rw [State.eventAt_paths]
@[simp] theorem State.eventAt_slot (s : State) (src kind sev req acc space addr : Nat) (x : Nat) : (State.eventAt s src kind sev req acc space addr).slot x = s.slot x := by
  unfold State.slot
  rw [State.eventAt_keys]
@[simp] theorem State.eventAt_now (s : State) (src kind sev req acc space addr : Nat) : (State.eventAt s src kind sev req acc space addr).now = s.now := by
  unfold State.now
  rw [State.eventAt_tick]
@[simp] theorem State.eventAt_frame (s : State) (src kind sev req acc space addr : Nat) : (State.eventAt s src kind sev req acc space addr).frame = s.frame := by
  unfold State.frame
  rw [State.eventAt_tick]
@[simp] theorem State.eventAt_sf (s : State) (src kind sev req acc space addr : Nat) : (State.eventAt s src kind sev req acc space addr).sf = s.sf := by
  unfold State.sf
  rw [State.eventAt_tick]

/-! ### Commands that complete -/

/-- A command that does its work on a condition completes where the condition holds. -/
theorem yields_occurs {c : Bool} {s : State} {f : State → State} {P : State → Prop} (h : c = true) (hp : P (f s.begin)) :
    ∃ t, occurs c s f = .next t ∧ P t := ⟨f s.begin, by rw [occurs, if_pos h], hp⟩

theorem State.flag_event (s : State) (src kind sev : Nat) (f : Fld) (h1 : f.off ≠ 0x023000 + 0x4 * src) (h2 : f.off ≠ 0x020050) :
    (s.event src kind sev).flag f = s.flag f := by
  unfold State.flag
  rw [State.get_event _ _ _ _ _ h1 h2]

theorem State.flag_eventAt (s : State) (src kind sev req acc space addr : Nat) (f : Fld) (h1 : f.off ≠ 0x023000 + 0x4 * src)
    (h2 : f.off ≠ 0x020050) : (s.eventAt src kind sev req acc space addr).flag f = s.flag f := by
  unfold State.flag
  rw [State.get_eventAt _ _ _ _ _ _ _ _ _ h1 h2]

/-! ### Messages that wait on their sources -/

theorem State.pends_congr {s t : State} (h : t.events.pending = s.events.pending) (x : Nat) : t.pends x = s.pends x := by
  unfold State.pends
  rw [h]

theorem State.raise_pends (s : State) (m : FaultMsg) : (s.raise m).pends m.src = true := by
  unfold State.raise State.pends
  dsimp only
  split
  · simp [sparseFind_place, sparseErase_gone]
  · split
    · simp [sparseFind_place, sparseErase_gone]
    · simp_all

theorem State.raise_pends_other (s : State) (m : FaultMsg) (x : Nat) (h : s.pends x = true) : (s.raise m).pends x = true := by
  by_cases hx : x = m.src
  · rw [hx]
    exact s.raise_pends m
  · unfold State.pends at h ⊢
    unfold State.raise
    dsimp only
    split
    · simp [sparseFind_place _ _ _ _ (sparseErase_gone _ _), sparseFind_erase, hx]
      simpa using h
    · split
      · simp [sparseFind_place _ _ _ _ (sparseErase_gone _ _), sparseFind_erase, hx]
        simpa using h
      · simpa using h

theorem State.event_pends (s : State) (src kind sev : Nat) : (s.event src kind sev).pends src = true :=
  s.raise_pends (msgPlain src kind sev)

theorem State.event_pends_other (s : State) (src kind sev x : Nat) (h : s.pends x = true) :
    (s.event src kind sev).pends x = true := State.raise_pends_other _ _ _ h

theorem State.eventAt_pends (s : State) (src kind sev req acc space addr : Nat) :
    (s.eventAt src kind sev req acc space addr).pends src = true := s.raise_pends _

theorem State.eventAt_pends_other (s : State) (src kind sev req acc space addr x : Nat) (h : s.pends x = true) :
    (s.eventAt src kind sev req acc space addr).pends x = true := State.raise_pends_other _ _ _ h

@[simp] theorem State.modQuad_pends (s : State) (q : Nat) (f : Quad → Quad) (x : Nat) : (State.modQuad s q f).pends x = s.pends x := rfl
@[simp] theorem State.modSc_pends (s : State) (n : Nat) (f : Sc → Sc) (x : Nat) : (State.modSc s n f).pends x = s.pends x := rfl
@[simp] theorem State.modDie_pends (s : State) (n : Nat) (f : Die → Die) (x : Nat) : (State.modDie s n f).pends x = s.pends x := rfl
@[simp] theorem State.modHead_pends (s : State) (h : Nat) (f : Head → Head) (x : Nat) : (State.modHead s h f).pends x = s.pends x := rfl
@[simp] theorem State.modLd_pends (s : State) (k : Nat) (f : Ld → Ld) (x : Nat) : (State.modLd s k f).pends x = s.pends x := rfl
@[simp] theorem State.modRail_pends (s : State) (k : Nat) (f : Rail → Rail) (x : Nat) : (State.modRail s k f).pends x = s.pends x := rfl
@[simp] theorem State.modTw_pends (s : State) (k : Nat) (f : Tw → Tw) (x : Nat) : (State.modTw s k f).pends x = s.pends x := rfl
@[simp] theorem State.modPath_pends (s : State) (p : Nat) (f : PathState → PathState) (x : Nat) : (State.modPath s p f).pends x = s.pends x := rfl
@[simp] theorem State.modSlot_pends (s : State) (k : Nat) (f : Slot → Slot) (x : Nat) : (State.modSlot s k f).pends x = s.pends x := rfl
@[simp] theorem State.modImage_pends (s : State) (f : Image → Image) (x : Nat) : (State.modImage s f).pends x = s.pends x := rfl
@[simp] theorem State.modGauge_pends (s : State) (f : Gauge → Gauge) (x : Nat) : (State.modGauge s f).pends x = s.pends x := rfl
@[simp] theorem State.modSeq_pends (s : State) (f : Seq → Seq) (x : Nat) : (State.modSeq s f).pends x = s.pends x := rfl
@[simp] theorem State.modPins_pends (s : State) (f : Pins → Pins) (x : Nat) : (State.modPins s f).pends x = s.pends x := rfl
@[simp] theorem State.modSave_pends (s : State) (f : SaveSt → SaveSt) (x : Nat) : (State.modSave s f).pends x = s.pends x := rfl
@[simp] theorem State.modGroup_pends (s : State) (f : Group → Group) (x : Nat) : (State.modGroup s f).pends x = s.pends x := rfl
@[simp] theorem State.modKeys_pends (s : State) (f : Keys → Keys) (x : Nat) : (State.modKeys s f).pends x = s.pends x := rfl
@[simp] theorem State.modTick_pends (s : State) (f : Tick → Tick) (x : Nat) : (State.modTick s f).pends x = s.pends x := rfl
@[simp] theorem State.modFabric_pends (s : State) (f : Fabric → Fabric) (x : Nat) : (State.modFabric s f).pends x = s.pends x := rfl
@[simp] theorem State.modUpd_pends (s : State) (f : Update → Update) (x : Nat) : (State.modUpd s f).pends x = s.pends x := rfl
@[simp] theorem State.modPlumb_pends (s : State) (f : Plumb → Plumb) (x : Nat) : (State.modPlumb s f).pends x = s.pends x := rfl
@[simp] theorem State.modTw0_pends (s : State) (f : Tw0 → Tw0) (x : Nat) : (State.modTw0 s f).pends x = s.pends x := rfl
@[simp] theorem State.begin_pends (s : State) (x : Nat) : (State.begin s).pends x = s.pends x := rfl
@[simp] theorem State.emit_pends (s : State) (o : Out) (x : Nat) : (State.emit s o).pends x = s.pends x := rfl
@[simp] theorem State.atCycle_pends (s : State) (c : Nat) (x : Nat) : (State.atCycle s c).pends x = s.pends x := rfl
@[simp] theorem State.takeFree_pends (s : State) (x : Nat) : (State.takeFree s).2.pends x = s.pends x := rfl
@[simp] theorem State.wr_pends (s : State) (off : Nat) (w : Word) (x : Nat) : (State.wr s off w).pends x = s.pends x := rfl
@[simp] theorem State.put_pends (s : State) (f : Fld) (v : Nat) (x : Nat) : (State.put s f v).pends x = s.pends x := rfl
@[simp] theorem State.putB_pends (s : State) (f : Fld) (b : Bool) (x : Nat) : (State.putB s f b).pends x = s.pends x := rfl
@[simp] theorem State.bump_pends (s : State) (f : Fld) (n : Nat) (x : Nat) : (State.bump s f n).pends x = s.pends x := rfl
@[simp] theorem State.putSat_pends (s : State) (f : Fld) (v : Nat) (x : Nat) : (State.putSat s f v).pends x = s.pends x := rfl
@[simp] theorem State.put64_pends (s : State) (lo hi : Nat) (v : Nat) (x : Nat) : (State.put64 s lo hi v).pends x = s.pends x := rfl

end Sys2Proof.Machine
end

