-- ==== Sys2Proof/Tests/Slice0.lean ====
section
/-!
SUPPORT. Sys2Proof/Tests/Slice0.lean: the states that tests and witnesses start from, tests of single commands, and for
every clause of a statement a state and operands that meet its hypotheses.
-/

set_option Elab.async false
namespace Sys2Proof.Machine

/-! ## A running device -/

/-- Registers of a device that is sealed, media ready and armed: head 0 has its link up, LD 0 is its management LD with
1 GiB of which 256 MiB are volatile, each sub-channel is in Run with ranks 0 and 1, each flash channel is up. -/
def runRegs : Sparse Word :=
  [(0x030000, 0x1#32), (0x060000, 0x241#32), (0x080000, 0x21#32), (0x081000, 0x5#32), (0x081004, 0x40000#32), (0x081008, 0x1#32),
    (0x090000, 0x1#32)] ++
  (List.range 4).flatMap fun q =>
    ((List.range 4).flatMap fun j =>
      [(scBase (4 * q + j), 0x0#32), (scBase (4 * q + j) + 0x40, 0x4001#32), (scBase (4 * q + j) + 0x44, 0x4011#32)]) ++
    (List.range 4).map fun c => (fcBase (4 * q + c), 0x2#32)

def wRun : State := { State.reset with
  regs := runRegs
  tick := { clocksOn := true }
  seq := { power := .run }
  pins := { State.reset.pins with porstN := true }
  cluster := { running := true, bootOk := true }
  heads := [(0, { mediaReady := true, phyOn := true }), (1, { mediaReady := true, phyOn := true })]
  scs := (List.range 16).map fun n => (n, { ready := true })
  keys := { State.reset.keys with slots := [(4, { st := .valid })] } }

/-- A write that a head holds. -/
def wHeld : HReq :=
  { id := 0, ld := 0, tag := 1, dpa := 64, write := some ⟨0#512, allBytes, false⟩, arrival := 0, deadline := 0, stage := .held }

/-- The running device with a host's read that asks for its sub-channel. -/
def wAsk : State := { wRun with heads := [(0, { mediaReady := true, phyOn := true, reqs := [{ id := 1, ld := 0, tag := 7, dpa := 64, arrival := 0, deadline := 1000 }] }), (1, { mediaReady := true, phyOn := true })] }

/-- A host's read whose column command issued. -/
def wFly : InFlight := ⟨{ id := 0, origin := 0, dpa := 64, loc := wRun.locOf 64, deadline := 1000, entered := 0, head := some 0, tag := 7 }, 5, false⟩

/-- The definition of the register at an offset. -/
def regDef (off : Nat) : RegDef := ((regAt off).map (·.1)).getD ⟨"", .ctl, 0, [], []⟩

/-- A record of a save's seal. -/
def wRec : Record := { kind := .sealSave, seq := 0, run := 0, gen := 0, time := 0, dsc := 0, mapLoc := [], journalTail := [], ckptSf := 0, pq := [], firstRunTime := 0, key := .fixed 0 }

/-- A die's operation. -/
def wOp (k : OpKind) : DieOp := { order := 3, kind := k, quad := 0, entered := 0 }

/-- The running device as the master of a group of five, and as its member at position 3. -/
def wMaster : State :=
  ((wRun.put Reg.SEQ_GROUP_SIZE_M1 4).putB Reg.SEQ_GROUP_STATUS_MASTER true).put Reg.SEQ_GROUP_STATUS_POSITION 0

def wMember : State := (wRun.put Reg.SEQ_GROUP_SIZE_M1 4).put Reg.SEQ_GROUP_STATUS_POSITION 3

/-- Quadrant 0 with a SET patch at the head of its list, its pace full, its key valid, and a die that takes it. -/
def wSkim : State := { (((wRun.putB Reg.SKIM_CTRL_ENABLE true).put (Reg.DIE_STATUS_STATE 0) 2).put (Reg.DIE_STATUS_STATE 8) 2) with
  patches := [(0, { st := .set })]
  quads := [(0, { panel := some (0, []), wear := patchCost, pace := patchCost })]
  keys := { wRun.keys with slots := [(1, { st := .valid, key := some (.fixed 1) }), (4, { st := .valid, key := some (.fixed 0) })] }
  dies := [(0, { noBand := false, nextUnit := 1 })] }

/-- A fill waits for unit 9 of die 0, whose stripe can rebuild it. -/
def wReb : State := { ((wRun.put (Reg.DIE_STATUS_STATE 0) 2).put (Reg.DIE_STATUS_STATE 8) 2) with
  image := { ledger := [(0, .version 0 9 1 0)] }
  dies := [(0, { units := [(9, some { body := .filler 0, good := true })] }), (8, { units := [(9, some { body := .parity 0 [0], good := true })] })]
  quads := [(0, { fills := [{ patch := 0, cls := .background }] })] }

/-- A configuration image with a media profile and nothing else. -/
def wImg : CfgImage :=
  { formatOk := true, encrypted := false, len := 100, seq := 1, layoutCrc := 5, dirCount := 1, checks := 0, cmacKey := .fixed 25,
    intact := true, bytes := [],
    sections := [⟨0x10, 0, true, true,
      .media { bands := 10, unitsPerBand := 4, planes := 4, pe := 3000, sparePct := 2, d := 128, levels := 0 } []⟩] }

/-- The header of a firmware image that may run. -/
def wFw : FwHdr :=
  { formatOk := true, commitSvn := false, liveOk := true, svn := 0, buildSeq := 1, revision := 0, payloadLen := 16, codeLen := 16,
    preserveFmt := 0, pubkeyOk := true, sigOk := true, tagOk := true }

/-- Both areas of slot A as `wImg` and `wFw` program them. -/
def wUpd : Update := { State.reset.upd with cfgA := { image := some wImg }, fwA := { image := some wFw, act := some 1 }, factoryOk := true }

/-- A start at the point where the configuration is loaded. -/
def wCold : State := { State.reset with
  tick := { clocksOn := true }
  seq := { power := .boot }
  pins := { State.reset.pins with porstN := true }
  cluster := { running := true }
  keys := { State.reset.keys with slots := [(25, { st := .valid, key := some (.fixed 25) })] }
  upd := wUpd }

/-- A warm reset at the point where the configuration is loaded again. -/
def wWarm : State := { wRun with
  seq := { power := .warmReset, warmDrain := true, dramHeld := true, aonImage := some (1, 5) }
  upd := wUpd }

/-- What a load meets. -/
def wLoad : LoadIn := ⟨5, [], [true, true, true, true], false⟩

/-! ## What the hypotheses of the statements are met by -/

theorem wit_AStepRunsTheFrontCommand :
    ∃ s : State, (s.pending = []) :=
  ⟨State.reset, by decide +kernel⟩

theorem wit_EveryStepKeepsTheInvariant :
    ∃ s t : State, s.inv ∧ step s = .next t :=
  ⟨State.reset, State.reset, ⟨rfl, by decide⟩, rfl⟩

theorem wit_CommandsTouchOnlyTheirParts :
    ∃ (c : Instr) (s t : State) (p : Part), exec c s = .next t ∧ p ∉ touches c :=
  ⟨.aonTick, State.reset, _, .dram, rfl, by decide⟩

theorem wit_FusesAreOnlyBlownByAGoodBoot :
    ∃ (c : Instr) (s t : State), exec c s = .next t :=
  ⟨.aonTick, State.reset, _, rfl⟩

theorem wit_BytesOfDramChangeOnlyWhereStored :
    (∃ (c : Instr) (s t : State), exec c s = .next t ∧ Part.dram ∉ touches c) ∧
    (∃ (q : QuadIx) (p : Nat) (l : List Nat) (s t : State) (a : Nat), exec (.healComplete q p l) s = .next t ∧
      (a < p * 65536 ∨ p * 65536 + 65536 ≤ a)) ∧
    (∃ (fn : FnIx) (addr : Nat) (data : Line) (s t : State) (a : Nat),
      (exec (.injectPoison fn addr) s = .next t ∨ exec (.clearPoison fn addr data) s = .next t) ∧ (∀ d, s.fnAddr fn addr = some d →
      a < lineOf d ∨ lineOf d + 64 ≤ a)) :=
  ⟨⟨.aonTick, State.reset, _, rfl, by decide⟩,
   ⟨0, 1, [], wRun, _, 0, rfl, by decide⟩,
   ⟨0, 64, 0, wRun, _, 200, Or.inl rfl, by decide +kernel⟩⟩

theorem wit_FrameBoundariesAreMultiplesOf1024 :
    ∃ (_i : FrameIn) (s : State), (s.tick.clocksOn = true) ∧ (s.mainOff = false) :=
  ⟨⟨[], [], [], 0, 0, false⟩, wRun, by decide +kernel⟩

theorem wit_BroadcastsThatSelectNothingAreEmpty :
    (∃ (p : PathIx) (off : Offset) (_v : Word) (s : State), (s.served p = true) ∧ (s.writeShut p off.toNat = false) ∧ (off.toNat % 4 = 0) ∧
      (s.targets p off.toNat = some []) ∧ (s.noRegister p off.toNat = false)) ∧
    (∃ (p : PathIx) (off : Offset) (s : State), (s.served p = true) ∧ (off.toNat % 4 = 0) ∧ ((decide (p = 2) && s.aonServes) = false) ∧
      ((s.inRecovery && !recoveryOffset off.toNat) = false) ∧ (s.targets p off.toNat = some []) ∧
      ((regAt (firstInstance off.toNat)).isSome = true)) :=
  ⟨⟨0, 0x1B8000, 5, wRun.bankPut 0 Reg.BCAST_QMASK_MASK 0, by decide +kernel⟩,
   ⟨0, 0x1B8000, wRun.bankPut 0 Reg.BCAST_QMASK_MASK 0, by decide +kernel⟩⟩

theorem wit_BroadcastReadsReturnTheFirstInstance :
    ∃ (p : PathIx) (off : Offset) (s : State) (d : RegDef) (u a : Nat) (rest : List Nat), (s.served p = true) ∧ (off.toNat % 4 = 0) ∧
      ((decide (p = 2) && s.aonServes) = false) ∧ ((s.inRecovery && !recoveryOffset off.toNat) = false) ∧
      (s.targets p off.toNat = some (a :: rest)) ∧ (regAt (firstInstance off.toNat) = some (d, u)) :=
  ⟨0, 0x1B8000, (wRun.bankPut 0 Reg.BCAST_QMASK_MASK 1).bankPut 0 Reg.BCAST_SCMASK_MASK 3, regDef 0x210000, 0, 0x210000, [0x214000],
    by decide +kernel⟩

theorem wit_ASourceHoldsOneMessage :
    (∃ (m : RaiseIn) (s : State), (s.mainOff = false) ∧ (sparseFind s.events.pending m.src = none)) ∧
    (∃ (m : RaiseIn) (s : State) (old : FaultMsg), (s.mainOff = false) ∧ (sparseFind s.events.pending m.src = some old)) ∧
    (∃ (m : RaiseIn) (s : State) (old : FaultMsg), (s.mainOff = false) ∧ (sparseFind s.events.pending m.src = some old)) :=
  ⟨⟨⟨0x440, 1, 1, 0, 0, 0, 0⟩, wRun, by decide +kernel⟩,
   ⟨⟨0x440, 1, 1, 0, 0, 0, 0⟩, wRun.event 0x440 2 3, { msgPlain 0x440 2 3 with time := 0 }, by decide +kernel⟩,
   ⟨⟨0x440, 1, 4, 0, 0, 0, 0⟩, wRun.event 0x440 2 3, { msgPlain 0x440 2 3 with time := 0 }, by decide +kernel⟩⟩

theorem wit_ConflictsEndTransactionsOnTw2AndTw3 :
    ∃ (k : TwIx) (_l : List Byte) (s : State) (q : TwReq), ((s.tw (segNo k)).current = some q) ∧ (s.twRuns = true) ∧
      ((segNo k = 2 ∨ segNo k = 3)) :=
  ⟨1, [], { wRun with tws := [(2, { current := some ⟨1, false, 0x20, [1], 0⟩ })] }, ⟨1, false, 0x20, [1], 0⟩, by decide +kernel⟩

theorem wit_WetPatchesSetAfterTheSettingTime :
    (∃ (r : HostReq) (_d : WriteData) (s : State), (s.receives r.head true = true) ∧ ((s.head r.head).mediaReady = true) ∧
      (s.decodes r.head r.ld r.addr = true) ∧ (s.ldNotReady r.ld = false) ∧
      (s.heldBefore r.head (lineOf (s.ldBase r.ld + r.addr)) = false) ∧ (s.level ≠ 3) ∧
      ((s.quad (quadOf (patchOf (lineOf (s.ldBase r.ld + r.addr))))).railLost = false) ∧
      (s.undoneBefore r.head s.fabric.nextId (s.ldBase r.ld + r.addr) = false) ∧ (s.waitsFill (lineOf (s.ldBase r.ld + r.addr)) = false) ∧
      (s.persistent (lineOf (s.ldBase r.ld + r.addr)) = true)) ∧
    (∃ (q : QuadIx) (mates : Nat) (s : State) (p : Nat) (x : Patch), (sparseFind s.patches p = some x) ∧ (quadOf p = q) ∧ (x.st = .wet) ∧
      (p ∉ s.matesWrite mates) ∧ (sparseWf (fun k => (s.quad (quadOf k)).dflt) s.patches = true)) ∧
    (∃ (q : QuadIx) (mates : Nat) (s : State) (p : Nat) (x : Patch), (sparseFind s.patches p = some x) ∧ (quadOf p = q) ∧ (x.st = .wet) ∧
      (p ∉ s.matesWrite mates) ∧ (sparseWf (fun k => (s.quad (quadOf k)).dflt) s.patches = true)) :=
  ⟨⟨⟨0, 0, 0, 0x20000000, 7⟩, ⟨0#512, allBytes, false⟩, wRun, by decide +kernel⟩,
   ⟨0, 0, { wRun with tick := { clocksOn := true, devTime := 1048576 * 100000 }, patches := [(0, { st := .wet, sw := 1 })] }, 0,
     { st := .wet, sw := 1 }, by decide +kernel⟩,
   ⟨0, 0, { wRun with patches := [(0, { st := .wet, sw := 1 })] }, 0, { st := .wet, sw := 1 }, by decide +kernel⟩⟩

theorem wit_PathsThatAreNotServedChangeNothing :
    ∃ (p : PathIx) (l : List RegAccess) (a : RegAccess) (_v : Word) (s : State), (s.served p = false) ∧ ((∀ x ∈ l, x.path = p)) ∧
      (a.path = p) :=
  ⟨0, [⟨0, 0x010200, 8, 5, 0xFF, 0⟩], ⟨0, 0x1B8000, 4, 5, 0xF, 0⟩, 5, State.reset, by decide +kernel⟩

theorem wit_DeviceWideCommandsAreUnsupportedOnTenants :
    ∃ (fn : FnIx) (_n : Nat) (_b : Bool) (_h : ImageHdr) (_f : FwPart) (_k : KeyBlob) (s : State), (s.fnServed fn = true) ∧
      (s.inRecovery = false) ∧ (s.isMgmtFn fn = false) ∧ (fn.val < 16) :=
  ⟨1, 0, true, .fw wFw, ⟨0, 0, true⟩, { target := 30, wrap := 27, intact := true, key := 77, slot := 30, use := 4, persist := false },
    ((wRun.putB (Reg.LD_CFG_ENABLE 1) true).put (Reg.LD_RANGE_BASE 1) 4).put (Reg.LD_RANGE_SIZE 1) 4, by decide +kernel⟩

theorem wit_MailboxSettingsStayWithTheirFunction :
    ∃ (fn : FnIx) (n m : Nat) (b : Bool) (l : List Nat) (s t : State) (c : Instr), c ∈ [Instr.setEventInterruptPolicy fn l,
      .setAlertConfiguration fn l, .clearEventRecords fn n b l, .scanMedia fn n m] ∧ exec c s = .next t :=
  ⟨0, 0, 0, true, [1, 2, 3, 4], wRun, _, .setAlertConfiguration 0 [1, 2, 3, 4], by simp, rfl⟩

theorem wit_SmallCommandsKeepTheOtherRegisters :
    ∃ (c : Instr) (l : List Nat) (src : Nat) (s t : State), ownRegs c = some (l, src) ∧ exec c s = .next t :=
  ⟨.entropyTestFail, _, _, wRun, _, rfl, rfl⟩

theorem wit_TheWriteGrantedLastStands :
    (∃ (p q : PathIx) (_v _w : Word) (s : State), (s.served p = true) ∧ (s.served q = true) ∧ (s.writeShut p 0x40 = false) ∧
      (s.writeShut q 0x40 = false) ∧ ((p.val + 5 - s.ptr 0 5) % 5 < (q.val + 5 - s.ptr 0 5) % 5)) ∧
    (∃ (p q : PathIx) (_v _w : Word) (s : State), (s.served p = true) ∧ (s.served q = true) ∧ (s.writeShut p 0x40 = false) ∧
      (s.writeShut q 0x40 = false) ∧ ((p.val + 5 - s.ptr 0 5) % 5 < (q.val + 5 - s.ptr 0 5) % 5)) :=
  ⟨⟨0, 3, 5#32, 7#32, wRun, by decide +kernel⟩,
   ⟨3, 0, 5#32, 7#32, { wRun with tick := { clocksOn := true, devTime := 1024 * 3 } }, by decide +kernel⟩⟩

theorem wit_ClockCommandsMoveTime :
    (∃ (s : State) (_i : FrameIn), (s.tick.clocksOn = true) ∧ (s.mainOff = false)) ∧
    (∃ (s : State) (_i : SuperIn), (s.tick.clocksOn = true) ∧ (s.mainOff = false) ∧ (s.tick.devTime % 1048576 = 0) ∧
      (s.tick.superAt < s.sf)) ∧
    (∃ (s : State) (_b : Bool), (s.tick.clocksOn = true) ∧ (s.mainOff = false)) ∧
    (∃ (s : State) (_b : Bool), (s.tick.clocksOn = true) ∧ (s.mainOff = false)) ∧
    (∃ s : State, (s.tick.aonPowered = true) ∧ (s.tick.clocksOn = false)) ∧
    (∃ s : State, (s.tick.aonPowered = true) ∧ (s.tick.clocksOn = false)) ∧
    (∃ s : State, (s.tick.aonPowered = true) ∧ (s.tick.clocksOn = false) ∧ (s.seq.power ≠ .off)) :=
  ⟨⟨wRun, ⟨[], [], [], 0, 0, false⟩, by decide +kernel⟩,
   ⟨{ wRun with tick := { clocksOn := true, devTime := 2097152 } }, ⟨6000, 32, 0, 0, 0, 0, [], false, [], ⟨false, none, 0, 0, 0, []⟩,
     true⟩, by decide +kernel⟩,
   ⟨wRun, true, by decide +kernel⟩,
   ⟨wRun, false, by decide +kernel⟩,
   ⟨{ State.reset with tick := { aonPowered := true } }, by decide +kernel⟩,
   ⟨{ State.reset with tick := { aonPowered := true, aonFrac := 63, devTime := 70000 } }, by decide +kernel⟩,
   ⟨{ wRun with tick := { aonPowered := true } }, by decide +kernel⟩⟩

theorem wit_RegisterWritesFollowAccessTypes :
    (∃ (p : PathIx) (off : Offset) (_v : Word) (s : State) (d : RegDef) (u : Nat), (s.served p = true) ∧
      (s.writeShut p off.toNat = false) ∧ (off.toNat % 4 = 0) ∧ (s.targets p off.toNat = none) ∧
      ((s.inRecovery && !recoveryOffset off.toNat) = false) ∧ (regAt off.toNat = some (d, u)) ∧ (bankedOff off.toNat = false) ∧
      (accMask d .rws = 0#32) ∧ (accMask d .rwl = 0#32) ∧ (off.toNat ∉ [0x010000, 0x010204, 0x020000, 0x020004, 0x030018, 0x060004,
      0x07000C, 0x0A0004])) ∧
    (∃ (p : PathIx) (off : Offset) (_v : Word) (s : State) (d : RegDef) (u : Nat), (s.served p = true) ∧
      (s.writeShut p off.toNat = false) ∧ (off.toNat % 4 = 0) ∧ (s.targets p off.toNat = none) ∧
      ((s.inRecovery && !recoveryOffset off.toNat) = false) ∧ (regAt off.toNat = some (d, u)) ∧ (bankedOff off.toNat = false) ∧
      (accMask d .rws = 0#32) ∧ (accMask d .rwl = 0#32) ∧ (off.toNat ∉ [0x010000, 0x010204, 0x020000, 0x020004, 0x030018, 0x060004,
      0x07000C, 0x0A0004])) ∧
    (∃ (p : PathIx) (off : Offset) (_v : Word) (s : State) (d : RegDef) (u : Nat), (s.served p = true) ∧
      (s.writeShut p off.toNat = false) ∧ (off.toNat % 4 = 0) ∧ (s.targets p off.toNat = none) ∧
      ((s.inRecovery && !recoveryOffset off.toNat) = false) ∧ (regAt off.toNat = some (d, u)) ∧ (bankedOff off.toNat = false) ∧
      (s.isSealed = true) ∧ (sparseGet 0#32 s.plumb.common (commonKey off.toNat) &&& rwsMask off.toNat = 0#32) ∧ ((∀ f ∈ d.fields,
      f.acc = .rws ∨ f.acc = .ro)) ∧ (off.toNat ∉ [0x010000, 0x010204, 0x020000, 0x020004, 0x030018, 0x060004, 0x07000C, 0x0A0004])) ∧
    (∃ (p : PathIx) (s : State), (s.served p = true) ∧ (s.writeShut p 0x010000 = false)) ∧
    (∃ (p : PathIx) (off : Offset) (_v : Word) (s : State), (s.served p = true) ∧ (s.writeShut p off.toNat = false) ∧ (off.toNat % 4 = 0) ∧
      (s.targets p off.toNat = some []) ∧ (s.noRegister p off.toNat = false)) ∧
    (∃ (p : PathIx) (off : Offset) (_v : Word) (s : State) (l : List Nat) (d : RegDef), (s.served p = true) ∧
      (s.writeShut p off.toNat = false) ∧ (off.toNat % 4 = 0) ∧ (s.targets p off.toNat = some l) ∧ (l ≠ []) ∧ ((∀ a ∈ l,
      (regAt a).map (·.1) = some d)) ∧ (s.noRegister p off.toNat = false) ∧ ((∀ a ∈ l, bankedOff a = false)) ∧ (s.isSealed = true) ∧
      ((∀ a ∈ l, sparseGet 0#32 s.plumb.common (commonKey a) &&& rwsMask a = 0#32)) ∧ ((∀ f ∈ d.fields, f.acc = .rws ∨ f.acc = .ro)) ∧
      ((∀ a ∈ l, 0x200000 ≤ a)) ∧ (l.Nodup)) :=
  ⟨⟨2, 0x010200, 0x3FF, wRun, regDef 0x010200, 0, by decide +kernel⟩,
   ⟨0, 0x000040, 0xFFFF, wRun, regDef 0x000040, 0, by decide +kernel⟩,
   ⟨0, 0x030108, 9, wRun, regDef 0x030108, 0, by decide +kernel⟩,
   ⟨0, wRun, by decide +kernel⟩,
   ⟨0, 0x1B8000, 5, wRun.bankPut 0 Reg.BCAST_QMASK_MASK 0, by decide +kernel⟩,
   ⟨0, 0x1B8004, 5, (wRun.bankPut 0 Reg.BCAST_QMASK_MASK 1).bankPut 0 Reg.BCAST_SCMASK_MASK 3, [0x210004, 0x214004], regDef 0x210004,
     by decide +kernel⟩⟩

theorem wit_HostRequestsAreReceivedHeldAndReleased :
    (∃ (r : HostReq) (_d : WriteData) (s : State), (s.receives r.head true = true) ∧ ((s.head r.head).mediaReady = true) ∧
      (s.decodes r.head r.ld r.addr = true) ∧ (s.ldNotReady r.ld = false) ∧
      (s.heldBefore r.head (lineOf (s.ldBase r.ld + r.addr)) = false) ∧ (s.level ≠ 3) ∧
      ((s.quad (quadOf (patchOf (lineOf (s.ldBase r.ld + r.addr))))).railLost = false) ∧
      (s.waitsFill (lineOf (s.ldBase r.ld + r.addr)) = false) ∧ (s.undoneBefore r.head s.fabric.nextId (s.ldBase r.ld + r.addr) = false)) ∧
    (∃ (r : HostReq) (s : State), (s.receives r.head false = true) ∧ ((s.head r.head).mediaReady = true) ∧
      (s.decodes r.head r.ld r.addr = true) ∧ (s.ldNotReady r.ld = false) ∧
      ((s.quad (quadOf (patchOf (lineOf (s.ldBase r.ld + r.addr))))).railLost = false)) ∧
    (∃ (head : HeadIx) (id mates : Nat) (s : State) (r : HReq),
      (((s.head head).reqs.find? fun x => decide (x.id = id) && decide (x.stage = .probing)) = some r) ∧
      (s.wetGrants (quadOf (patchOf r.dpa)) 4 mates = true) ∧ ((s.patch (patchOf r.dpa)).st.exposed = false) ∧
      (patchOf r.dpa ∉ s.matesWrite mates)) ∧
    (∃ (_head : HeadIx) (s : State), (s.level < 3)) ∧
    (∃ (head : HeadIx) (s : State) (r : HReq), (s.flag (Reg.FAB_LOAD_ESCALATED head) = false) ∧ (r ∈ s.heldWrites head) ∧
      (r.heldAt + ms (max 10 (min 1000 (s.get Reg.FAB_CTRL_HOLD_ESC_MS))) ≤ s.now)) :=
  ⟨⟨⟨0, 0, 0, 64, 7⟩, ⟨0#512, allBytes, false⟩, wRun, by decide +kernel⟩,
   ⟨⟨0, 0, 0, 64, 7⟩, wRun, by decide +kernel⟩,
   ⟨0, 5, 0, { wRun with heads := [(0, { reqs := [{ id := 5, ld := 0, tag := 0, dpa := 0, arrival := 0, deadline := 0, stage := .probing }] })] },
     { id := 5, ld := 0, tag := 0, dpa := 0, arrival := 0, deadline := 0, stage := .probing }, by decide +kernel⟩,
   ⟨0, wRun, by decide +kernel⟩,
   ⟨0, { wRun with heads := [(0, { reqs := [wHeld] })], tick := { clocksOn := true, devTime := 20000000000 } }, wHeld, by decide +kernel⟩⟩

theorem wit_LinksTrainAndGoDown :
    (∃ (head : HeadIx) (w : TrainIn) (s : State), ((s.head head).phyOn = true) ∧ (s.domainGood 3 0 = true) ∧
      (s.flag (Reg.FAB_STATUS_LINK_UP head) = false) ∧ ((w.low || w.high) = true) ∧ (linkAccepted w = true)) ∧
    (∃ (head : HeadIx) (w : TrainIn) (s : State), ((s.head head).phyOn = true) ∧ (s.domainGood 3 0 = true) ∧
      (s.flag (Reg.FAB_STATUS_LINK_UP head) = false) ∧ (linkAccepted w = false)) ∧
    (∃ (head : HeadIx) (_perst : Bool) (s : State), (s.flag (Reg.FAB_STATUS_LINK_UP head) = true)) ∧
    (∃ (head : HeadIx) (s : State), (s.flag (Reg.FAB_STATUS_LINK_UP head) = true) ∧ ((s.head head).discarding = false)) ∧
    (∃ (head : HeadIx) (s : State), (s.flag (Reg.FAB_STATUS_LINK_UP head) = true) ∧ ((s.head head).discarding = false) ∧ ((∀ h : Fin 2,
      ∀ r ∈ (s.head h).reqs, r.done = false)) ∧ ((∀ n : Fin 16, ∀ e ∈ (s.sc n).writeQ, e.done = false))) :=
  ⟨⟨1, ⟨2, true, false, .common, .reversed, 0x11⟩, wRun, by decide +kernel⟩,
   ⟨1, ⟨2, true, true, .separateSpread, .straight, 0⟩, wRun, by decide +kernel⟩,
   ⟨0, true, wRun, by decide +kernel⟩,
   ⟨0, wRun, by decide +kernel⟩,
   ⟨0, wRun, by decide +kernel⟩⟩

theorem wit_SubChannelQueuesServeRequests :
    (∃ (sc : ScIx) (s : State) (pos h : Nat) (r : HReq) (e : QEntry),
    grant (s.ptr sc 6) 6 ((s.portAsks sc).map fun x => (x.1, x.2.2.saveCls, s.urgency sc x.2.2)) = some pos ∧
    (s.portAsks sc).find? (fun x => decide (x.1 = pos)) = some (pos, .head h r, e)) ∧
    (∃ (sc : ScIx) (_i : IssueIn) (s : State), (s.get (Reg.SC_STATUS_STATE sc) < 2)) ∧
    (∃ (sc : ScIx) (b : ReadBack) (s : State) (f : InFlight) (rest : List InFlight) (h : Nat), ((s.sc sc).inFlight = f :: rest) ∧
      (f.entry.head = some h) ∧ (decodeLine (s.erasedDevice sc f.entry.loc.rank) f.poison b = .good)) ∧
    (∃ (sc : ScIx) (bank : Nat) (s : State) (b : Bank), (s.bank sc bank = some b) ∧ (b.hintOpen = false) ∧
      (s.rowHit sc bank b.row = false) ∧
      (s.get (Reg.SC_PAGE_IDLE_DFI_CLOCKS sc) * 1000 ≤ (s.now - b.lastCol) * dfiMhz (s.get (Reg.SC_STATUS_OP sc)))) ∧
    (∃ (sc : ScIx) (rank bank : Nat) (s : State), (rank < 8) ∧ (s.flag (Reg.SC_RANK_PRESENT sc rank) = true) ∧
      (s.inSelfRefresh sc rank = false) ∧ (s.get (Reg.SC_STATUS_STATE sc) < 5) ∧
      (sparseGet 0 (s.sc sc).refAt (64 * rank + (if s.flag (Reg.SC_REF_MODE sc) then bank % 4 else 63)) + s.refInterval sc rank ≤ s.now)) :=
  ⟨⟨⟨scOf 64, by decide +kernel⟩, wAsk, 0, 0, { id := 1, ld := 0, tag := 7, dpa := 64, arrival := 0, deadline := 1000 },
    wAsk.entryOf 0 { id := 1, ld := 0, tag := 7, dpa := 64, arrival := 0, deadline := 1000 }, by decide +kernel, by decide +kernel⟩,
   ⟨0, ⟨0, [], []⟩, wRun, by decide +kernel⟩,
   ⟨0, ⟨[], true⟩, { wRun with scs := [(0, { inFlight := [wFly] })] }, wFly, [], 0, by decide +kernel⟩,
   ⟨0, 3, { wRun with tick := { clocksOn := true, devTime := 1048576 }, scs := [(0, { banks := [(3, some ⟨5, 0, false, false⟩)] })] }, ⟨5,
     0, false, false⟩, by decide +kernel⟩,
   ⟨3, 1, 2, { wRun with tick := { clocksOn := true, devTime := 1048576 * 1024 } }, by decide +kernel⟩⟩

theorem wit_SubChannelMaintenance :
    (∃ (sc : ScIx) (_temps : List Nat) (s : State), (s.get (Reg.SC_STATUS_STATE sc) < 2) ∧ ((s.sc sc).mr4Sf ≠ some s.sf)) ∧
    (∃ (sc : ScIx) (rank : Nat) (s : State), (s.flag (Reg.SC_IDLE_SR_EN sc) = true) ∧ (rank < 8) ∧
      (s.flag (Reg.SC_RANK_PRESENT sc rank) = true) ∧ (s.inSelfRefresh sc rank = false) ∧ (s.get (Reg.SC_STATUS_STATE sc) = 0) ∧
      ((∀ e ∈ (s.sc sc).entries, e.loc.rank ≠ rank)) ∧
      (sparseGet 0 (s.sc sc).lastUse rank + max 1 (s.get (Reg.SC_IDLE_SR_US sc)) * 1000 ≤ s.now)) ∧
    (∃ (sc : ScIx) (rank _fails : Nat) (_res : List LaneTrack) (s : State), (rank < 8) ∧ (s.flag (Reg.SC_RANK_PRESENT sc rank) = true)) ∧
    (∃ (sc : ScIx) (s : State) (r off : Nat), (s.quadRuns (sc.val / 4) = true) ∧ (s.get (Reg.SC_STATUS_STATE sc) < 2) ∧
      (s.scrubAt sc (s.sc sc).scrubPos = some (r, off)) ∧ ((s.sc sc).scrubPos + 1 < s.scLines sc) ∧ (s.scrubDue sc = true)) :=
  ⟨⟨0, [2, 1], wRun, by decide +kernel⟩,
   ⟨2, 1, { (wRun.putB (Reg.SC_IDLE_SR_EN 2) true) with tick := { clocksOn := true, devTime := 1000000 } }, by decide +kernel⟩,
   ⟨0, 1, 6, [], wRun, by decide +kernel⟩,
   ⟨0, wRun, 0, 0, by decide +kernel⟩⟩

theorem wit_EpochsCommitVoteApplyAndReadBack :
    (∃ (p : PathIx) (off : Offset) (s : State), (s.served p = true) ∧ (off.toNat % 4 = 0) ∧ ((decide (p = 2) && s.aonServes) = false) ∧
      ((s.inRecovery && !recoveryOffset off.toNat) = false) ∧ (s.targets p off.toNat = some []) ∧
      ((regAt (firstInstance off.toNat)).isSome = true)) ∧
    (∃ (p : PathIx) (off : Offset) (s : State) (d : RegDef) (u a : Nat) (rest : List Nat), (s.served p = true) ∧ (off.toNat % 4 = 0) ∧
      ((decide (p = 2) && s.aonServes) = false) ∧ ((s.inRecovery && !recoveryOffset off.toNat) = false) ∧
      (s.targets p off.toNat = some (a :: rest)) ∧ (regAt (firstInstance off.toNat) = some (d, u))) ∧
    (∃ (p : PathIx) (v : Word) (s : State) (r : Nat), (s.served p = true) ∧ (s.writeShut p 0x010204 = false) ∧
      (s.commitRefusal (v.toNat % 65536) = some r)) ∧
    (∃ (p : PathIx) (v : Word) (s : State), (s.served p = true) ∧ (s.writeShut p 0x010204 = false) ∧
      (s.commitRefusal (v.toNat % 65536) = none)) ∧
    (∃ (named : List Nat) (s : State) (c : Commit), (s.plumb.commit = some c) ∧ (c.snapshot = none) ∧ (c.abandon = false) ∧
      (c.target ≤ s.frame + 1) ∧ ((∀ k ∈ List.range 12, s.notReadyOf k named = []))) ∧
    (∃ (named : List Nat) (s : State) (c : Commit), (s.plumb.commit = some c) ∧ (c.snapshot = none) ∧ (c.abandon = false) ∧
      (c.target ≤ s.frame + 1) ∧ ((∃ k ∈ List.range 12, s.notReadyOf k named ≠ [])) ∧ (s.get Reg.EPOCH_STATUS_SLIPS < 127)) ∧
    (∃ (s : State) (c : Commit) (m : Sparse Word), (s.plumb.commit = some c) ∧ (c.snapshot = some m) ∧ (c.target ≤ s.frame) ∧
      (s.save.committed = false) ∧ (c.epoch < 65536)) ∧
    (∃ (u : Nat) (s : State), (s.isSealed = true) ∧ (u % 256 < classCount (u / 256))) :=
  ⟨⟨0, 0x1B8000, wRun.bankPut 0 Reg.BCAST_QMASK_MASK 0, by decide +kernel⟩,
   ⟨0, 0x1B8000, (wRun.bankPut 0 Reg.BCAST_QMASK_MASK 1).bankPut 0 Reg.BCAST_SCMASK_MASK 3, regDef 0x210000, 0, 0x210000, [0x214000],
     by decide +kernel⟩,
   ⟨0, 7, wRun, 4, by decide +kernel⟩,
   ⟨0, 1, wRun.put Reg.EPOCH_TARGET_FRAME_LO 9, by decide +kernel⟩,
   ⟨[], { wRun with plumb := { commit := some { epoch := 1, target := 1 } } }, { epoch := 1, target := 1 }, by decide +kernel⟩,
   ⟨[9], { wRun with plumb := { commit := some { epoch := 1, target := 1 }, shadow := [(scBase 9 + 0xC, 1#32)] } },
     { epoch := 1, target := 1 }, by decide +kernel⟩,
   ⟨{ wRun with plumb := { commit := some { epoch := 1, target := 0, snapshot := some [] } } },
     { epoch := 1, target := 0, snapshot := some [] }, [], by decide +kernel⟩,
   ⟨3, wRun, by decide +kernel⟩⟩

theorem wit_SubChannelsChangeOperatingPoint :
    (∃ (n : ScIx) (s : State), (s.flag (Reg.SC_IDLE_EN n) = true) ∧ (s.get (Reg.SC_STATUS_STATE n) = 0) ∧
      (s.get (Reg.SC_STATUS_OP n) = s.runOp n) ∧ (max 1 (s.get (Reg.SC_IDLE_SF n)) ≤ (s.sc n).idleSf) ∧ ((s.sc n).entries = []) ∧
      (s.flag Reg.PERS_STATUS_SAVE_ACTIVE = false) ∧ (s.seq.power = .run) ∧ (s.trackRuns n = false)) ∧
    (∃ (n : ScIx) (s : State), ((s.sc n).entries ≠ []) ∧ (s.flag Reg.PERS_STATUS_SAVE_ACTIVE = false) ∧
      (s.get (Reg.SC_STATUS_STATE n) = 0) ∧ (2 ≤ s.get (Reg.SC_STATUS_OP n)) ∧ (s.trackRuns n = false)) ∧
    (∃ (n : ScIx) (s : State) (op : Nat), (s.wantedOp n = some op) ∧ (op < 4) ∧ (s.get (Reg.SC_STATUS_STATE n) = 0) ∧
      (s.get (Reg.SC_STATUS_OP n) ≠ op) ∧ ((if s.flag Reg.PERS_STATUS_SAVE_ACTIVE then (s.sc n).locked else !s.trackRuns n) = true)) ∧
    (∃ (n : ScIx) (s : State), (s.get (Reg.SC_STATUS_STATE n) = 1)) ∧
    (∃ (n : ScIx) (s : State), (s.get (Reg.SC_STATUS_STATE n) = 2)) ∧
    (∃ (n : ScIx) (s : State), (s.get (Reg.SC_STATUS_STATE n) = 4)) :=
  ⟨⟨0, { (wRun.putB (Reg.SC_IDLE_EN 0) true) with scs := [(0, { ready := true, idleSf := 900 })] }, by decide +kernel⟩,
   ⟨0, { (wRun.put (Reg.SC_STATUS_OP 0) 2) with scs := [(0, { ready := true, readQ := [{ id := 0, origin := 0, dpa := 0, loc := ⟨0, 0, 0, 0, 0, 0⟩, deadline := 0, entered := 0 }] })] },
     by decide +kernel⟩,
   ⟨0, { wRun with scs := [(0, { ready := true, want := some 1 })] }, 1, by decide +kernel⟩,
   ⟨0, wRun.put (Reg.SC_STATUS_STATE 0) 1, by decide +kernel⟩,
   ⟨0, (wRun.put (Reg.SC_STATUS_STATE 0) 2).put (Reg.SC_STATUS_TARGET 0) 1, by decide +kernel⟩,
   ⟨0, wRun.put (Reg.SC_STATUS_STATE 0) 4, by decide +kernel⟩⟩

theorem wit_TrainingTrackingAndMigrationAdvance :
    (∃ (n : ScIx) (_ca : List CaTrain) (_res : List LaneTrain) (s : State), (s.flag Reg.SEQ_STATUS_RAILS_UP = true) ∧
      (s.flag Reg.CFG_STATUS_SEALED = true) ∧ ((s.sc n).ready = false) ∧ (s.domainGood 1 (n.val / 4) = true) ∧
      (s.get Reg.PERS_STATUS_START_STATE ≠ 3)) ∧
    (∃ (n : ScIx) (s : State), ((s.sc n).ready = true) ∧ ((s.sc n).pass = none) ∧ ((s.sc n).passDue ≤ s.sf) ∧
      (s.get (Reg.SC_STATUS_STATE n) = 0) ∧ (s.flag Reg.PERS_STATUS_SAVE_ACTIVE = false)) ∧
    (∃ (n : ScIx) (_res : List LaneTrack) (s : State) (p : Pass) (r : Nat), ((s.sc n).pass = some p) ∧ (p.running = some r)) ∧
    (∃ (n : ScIx) (s : State) (p : Pass), ((s.sc n).pass = some p) ∧ (p.todo = [])) ∧
    (∃ (q : QuadIx) (s : State) (m : Migration), ((s.quad q).migration = some m) ∧ (s.quadRuns q = true) ∧
      (chunkCost ≤ (s.quad q).migPace) ∧ (m.chunk + 1 < s.rankChunks (4 * q + m.j) m.rank) ∧ (m.chunk + 1 < 2 ^ 16)) :=
  ⟨⟨0, [], [], { (wRun.putB Reg.SEQ_STATUS_RAILS_UP true) with scs := [] }, by decide +kernel⟩,
   ⟨0, wRun, by decide +kernel⟩,
   ⟨0, [], { wRun with scs := [(0, { ready := true, pass := some { op := 0, todo := [1, 2], running := some 1 } })] },
     { op := 0, todo := [1, 2], running := some 1 }, 1, by decide +kernel⟩,
   ⟨0, { wRun with scs := [(0, { pass := some { op := 0, todo := [], asked := 0 } })] }, { op := 0, todo := [], asked := 0 },
     by decide +kernel⟩,
   ⟨0, { (wRun.putB Reg.PERS_STATUS_MEDIA_READY true) with quads := [(0, { migPace := chunkCost, migration := some { j := 0, rank := 0 } })] },
     { j := 0, rank := 0 }, by decide +kernel⟩⟩

theorem wit_SkimMovesPatchesToFlash :
    (∃ (q : QuadIx) (mates : Nat) (s : State) (p : Nat) (x : Patch), (sparseFind s.patches p = some x) ∧ (quadOf p = q) ∧ (x.st = .wet) ∧
      (x.sw + s.settledTime ≤ s.sf) ∧ (p ∉ s.matesWrite mates) ∧ (sparseWf (fun k => (s.quad (quadOf k)).dflt) s.patches = true)) ∧
    (∃ (q : QuadIx) (mates : Nat) (s s' : State) (p k n : Nat), (s.quadRuns q = true) ∧ (s.flag Reg.SKIM_CTRL_ENABLE = true) ∧
      (s.wetGrants q 5 mates = true) ∧ (p ∉ s.matesWrite mates) ∧
      (s.begin.nextSet q ((s.quad q).setting.length + 2 * (s.quad q).panelMap.length + 4) = (some p, s')) ∧ (s'.revoked p = false) ∧
      (s'.maySkim q = true) ∧ (s'.keyExhausted p = false) ∧ ((s'.quad q).noStart ≠ some s.frame) ∧ (s'.skimDie q = some (k, n)) ∧
      ((s'.ldOfDpa (p * 65536)).any (fun i => (s'.dataKey i s'.image.gen).isSome) = true)) ∧
    (∃ (d : DieIx) (unit : Nat) (s : State) (v : Version),
      (((s.quad (d.val / 32)).versions.find? fun v => decide (v.die = d.val) && decide (v.unit = some unit) && decide (v.stage = .covered)) = some v) ∧
      (v.abandoned = false) ∧ (v.superseded = false) ∧ ((s.slot (tenantSlot v.ld)).gen = v.keyGen)) ∧
    (∃ (q : QuadIx) (s : State), ((s.quad q).allowSf / 4194304 < s.sf / 4194304)) :=
  ⟨⟨0, 0, { wRun with tick := { clocksOn := true, devTime := 1048576 * 100000 }, patches := [(0, { st := .wet, sw := 1 })] }, 0,
    { st := .wet, sw := 1 }, by decide +kernel⟩,
   ⟨0, 0, wSkim, (wSkim.begin.nextSet 0 4).2, 0, 0, 0, by decide +kernel⟩,
   ⟨0, 9, { wRun with quads := [(0, { versions := [{ patch := 3, ld := 0, keyGen := 0, gen := 1, ctr := 5, die := 0, unit := some 9, stage := .covered, body := .filler 0 }] })] },
     { patch := 3, ld := 0, keyGen := 0, gen := 1, ctr := 5, die := 0, unit := some 9, stage := .covered, body := .filler 0 },
     by decide +kernel⟩,
   ⟨(1 : QuadIx), { wRun with tick := { clocksOn := true, devTime := 1048576 * 4194304 } }, by decide +kernel⟩⟩

theorem wit_TheStartLoadsTheImageAndComesUp :
    (∃ (_bad : List Nat) (s : State), (s.flag Reg.PERS_START_DECIDED = false) ∧ (s.flag Reg.CFG_STATUS_SEALED = true) ∧
      (s.flag Reg.SEQ_STATUS_RAILS_UP = true) ∧ (s.mediaUp = true) ∧ (s.seq.power ≠ .powerDown)) ∧
    (∃ (_lost : List (Nat × Nat)) (s : State), (s.flag Reg.PERS_START_DECIDED = true) ∧ (s.get Reg.PERS_STATUS_START_STATE ≤ 1) ∧
      (s.image.loaded = false)) ∧
    (∃ (ok : List Bool) (s : State), (s.image.loaded = true) ∧ (s.image.runOpen = false) ∧ (s.seq.blocked = false) ∧
      (s.flag Reg.PERS_START_DECIDED = true) ∧ (s.get Reg.PERS_STATUS_START_STATE ≠ 3) ∧ (s.flag Reg.PERS_STATUS_SAVE_ACTIVE = false) ∧
      (s.seq.power ≠ .powerDown) ∧ (s.image.genNext ≤ 0xFFFFFF) ∧
      ((s.begin.tryRunOpen { s.begin.newRecord .runOpen 0 with run := s.image.run + 1, gen := s.image.genNext, firstRunTime := s.image.firstRunTime.getD s.now } ok 4).1 = true)) ∧
    (∃ (ok : List Bool) (s : State), (s.image.loaded = true) ∧ (s.image.runOpen = false) ∧ (s.seq.blocked = false) ∧
      (s.flag Reg.PERS_START_DECIDED = true) ∧ (s.get Reg.PERS_STATUS_START_STATE ≠ 3) ∧ (s.flag Reg.PERS_STATUS_SAVE_ACTIVE = false) ∧
      (s.seq.power ≠ .powerDown) ∧ (s.image.genNext ≤ 0xFFFFFF) ∧
      ((s.begin.tryRunOpen { s.begin.newRecord .runOpen 0 with run := s.image.run + 1, gen := s.image.genNext, firstRunTime := s.image.firstRunTime.getD s.now } ok 4).1 = false)) ∧
    (∃ s : State, (s.mediaMayBeReady = true) ∧ (s.seq.sysRails = []) ∧ (s.seq.offLatch = false)) ∧
    (∃ (q : QuadIx) (_bad : List (Nat × Nat)) (s : State), ((s.quad q).railLost = true) ∧ (s.flag Reg.PERS_STATUS_MEDIA_READY = true) ∧
      (s.flag Reg.PERS_STATUS_SAVE_ACTIVE = false) ∧ ((∀ j : Fin 4, (s.sc (4 * q.val + j.val)).ready = true))) :=
  ⟨⟨[], wRun, by decide +kernel⟩,
   ⟨[], wRun.putB Reg.PERS_START_DECIDED true, by decide +kernel⟩,
   ⟨[true, true, true, true],
     { ((wRun.putB Reg.PERS_START_DECIDED true).put (Reg.DIE_STATUS_STATE 8) 2).put (Reg.DIE_STATUS_STATE 56) 2 with image := { loaded := true } },
     by decide +kernel⟩,
   ⟨[], { wRun.putB Reg.PERS_START_DECIDED true with image := { loaded := true } }, by decide +kernel⟩,
   ⟨{ (wRun.putB Reg.PERS_START_DECIDED true).putB Reg.PERS_STATUS_MEDIA_READY false with image := { loaded := true, runOpen := true } },
     by decide +kernel⟩,
   ⟨2, [], { wRun with quads := [(2, { railLost := true })] }, by decide +kernel⟩⟩

theorem wit_FillsAndHealsBringPatchesBack :
    (∃ (q : QuadIx) (s : State) (i : Nat) (sweep : Bool), (s.quadRuns q = true) ∧ (s.flag Reg.RESTORE_CTRL_BG_EN = true) ∧
      (s.flag Reg.PERS_STATUS_RESTORE_PENDING = true) ∧ (s.nextFill q = some (i, sweep)) ∧ (s.versionAt (patchAt q i) = none)) ∧
    (∃ (d : DieIx) (s : State) (f : Fill) (l : List Fill), (s.placeWaiters d = f :: l) ∧ (s.placesOn d < 4)) ∧
    (∃ (q : QuadIx) (p : Nat) (s : State) (f : Fill), (s.fillOf q p = some f) ∧ (f.cls ≠ .merge) ∧ (quadOf p = q) ∧
      ((s.ledger p = .none ∨ s.ledger p = .revoked)) ∧ (s.fabric.poisonWaits = [])) ∧
    (∃ (q : QuadIx) (p : Nat) (s : State) (f : Fill), (s.fillOf q p = some f) ∧ (f.read = some true) ∧ (f.tag = none) ∧
      (s.decrypted q p = true)) ∧
    (∃ (d : DieIx) (u pc : Nat) (members : List Nat) (s : State), (s.image.rebuild = none) ∧ (s.wantsRebuild d u = true) ∧
      (s.setMembers (posOf d) u = some (pc, members)) ∧ (s.canRebuild d u [] = true)) ∧
    (∃ (_d : DieIx) (_u : Nat) (r : Rebuild) (s : State), (s.image.rebuild = some r) ∧ (s.rebuildStuck r = true)) ∧
    (∃ (q : QuadIx) (p : Nat) (s : State) (h : Heal), (s.healOf q p = some h)) ∧
    (∃ (q : QuadIx) (p : Nat) (_lines : List Nat) (s : State) (h : Heal), (s.healOf q p = some h) ∧ (s.versionAt p = none)) :=
  ⟨⟨0, { (wRun.putB Reg.RESTORE_CTRL_BG_EN true).putB Reg.PERS_STATUS_RESTORE_PENDING true with quads := [(0, { dflt := { unfilled := true } })] },
    ((({ (wRun.putB Reg.RESTORE_CTRL_BG_EN true).putB Reg.PERS_STATUS_RESTORE_PENDING true with quads := [(0, { dflt := { unfilled := true } })] } : State).nextFill 0).getD (0,
      false)).1, true, by decide +kernel⟩,
   ⟨0, { wRun with image := { ledger := [(3, .version 0 9 1 0)] }, dies := [(0, { units := [(9, some { body := .filler 0, good := true })] })], quads := [(0, { fills := [{ patch := 3, cls := .faultIn }] })] },
     { patch := 3, cls := .faultIn }, [], by decide +kernel⟩,
   ⟨3, 3, { wRun with quads := [(3, { fills := [{ patch := 3, cls := .background }] })] }, { patch := 3, cls := .background },
     by decide +kernel⟩,
   ⟨3, 3, { wRun with quads := [(3, { fills := [{ patch := 3, cls := .background, read := some true }] })] },
     { patch := 3, cls := .background, read := some true }, by decide +kernel⟩,
   ⟨0, 9, 1, [0], wReb, by decide +kernel⟩,
   ⟨0, 9, { die := 0, unit := 9, wait := [1] },
     { wReb with image := { wReb.image with rebuild := some { die := 0, unit := 9, wait := [1] } } }, by decide +kernel⟩,
   ⟨0, 3, { wRun with quads := [(0, { heals := [{ patch := 3, lines := [], waiting := [⟨0, 0, 0, 0, 0⟩] }] })] },
     { patch := 3, lines := [], waiting := [⟨0, 0, 0, 0, 0⟩] }, by decide +kernel⟩,
   ⟨0, 3, [], { wRun with quads := [(0, { heals := [{ patch := 3, lines := [192] }] })] }, { patch := 3, lines := [192] },
     by decide +kernel⟩⟩

theorem wit_TheGaugeStepsLearnsAndWrites :
    (∃ (_i : FullStepIn) (s : State), (s.tick.clocksOn = true) ∧ (s.gauge.fetArmed = true) ∧
      ((s.sf % 1024 = 0 ∨ s.gauge.started = false))) ∧
    (∃ (s : State) (x : ImpStep), (s.gauge.imp = some x) ∧ (x.sf + 16 ≤ s.sf) ∧ (x.iNew ≠ x.iOld) ∧
      (4 * (s.cfg.impSeed.getD (4 * ((s.socUsed * 15 + 4999) / 10000) + (if 2 * s.gauge.temp ≤ 15 then 0 else if s.gauge.temp ≤ 20 then 1 else if s.gauge.temp ≤ 35 then 2 else 3)) 0 : Int) < (s.vPack - x.vOld) * 10000 / (x.iNew - x.iOld))) ∧
    (∃ s : State, s.get Reg.LEARN_CFG_DAYS ≠ 0 ∧ (∃ a, s.gauge.learnNext = some a ∧ a ≤ s.now) ∧
      (s.get Reg.LEARN_STATUS_PHASE = 0 ∨ s.get Reg.LEARN_STATUS_PHASE = 3)) ∧
    (∃ (s : State) (a : Nat), (s.gauge.learnDueAt = some a) ∧ (s.get Reg.LEARN_STATUS_PHASE = 1) ∧ (a + sec 86400 ≤ s.now)) ∧
    (∃ s : State, (s.flag Reg.GAUGE_STATUS_WRITE_PENDING = true) ∧ (s.gauge.writing = none) ∧ (s.inputPresent = true) ∧
      (s.flag Reg.PERS_STATUS_SAVE_ACTIVE = false) ∧ (s.spiGrants 2 = true)) ∧
    (∃ (s : State) (w : LearnedWrite), (s.gauge.writing = some w) ∧ (w.covers = 0) ∧ (w.carries = false) ∧ (s.gauge.shipWrite = false)) ∧
    (∃ (s : State) (w : LearnedWrite), (s.gauge.writing = some w) ∧ (w.repeated = false)) :=
  ⟨⟨⟨true⟩, { wRun with gauge := { State.reset.gauge with fetArmed := true } }, by decide +kernel⟩,
   ⟨{ wRun with tick := { clocksOn := true, devTime := 1048576 * 20 }, gauge := { State.reset.gauge with imp := some ⟨0, -100000, 0, 1⟩ } },
     ⟨0, -100000, 0, 1⟩, by decide +kernel⟩,
   ⟨{ wRun.put Reg.LEARN_CFG_DAYS 90 with gauge := { State.reset.gauge with learnNext := some 0 } }, by decide +kernel, ⟨0,
     by decide +kernel⟩, by decide +kernel⟩,
   ⟨{ wRun.put Reg.LEARN_STATUS_PHASE 1 with tick := { clocksOn := true, devTime := sec 90000 }, gauge := { State.reset.gauge with learnDueAt := some 0 } },
     0, by decide +kernel⟩,
   ⟨{ wRun.putB Reg.GAUGE_STATUS_WRITE_PENDING true with pins := { wRun.pins with inputOk := true, pfwN := true } }, by decide +kernel⟩,
   ⟨{ wRun with gauge := { State.reset.gauge with writing := some ⟨false, wRun.learnedNow 1, false, 0, false⟩ } }, ⟨false,
     wRun.learnedNow 1, false, 0, false⟩, by decide +kernel⟩,
   ⟨{ wRun with gauge := { State.reset.gauge with writing := some ⟨false, wRun.learnedNow 1, false, 0, false⟩ } }, ⟨false,
     wRun.learnedNow 1, false, 0, false⟩, by decide +kernel⟩⟩

theorem wit_ThePackIsAuthenticatedAndMayCharge :
    (∃ s : State, (s.authDue = true) ∧ (s.flag Reg.PACK_CFG_AUTH_EN = false) ∧ (s.gauge.faults = [])) ∧
    (∃ s : State, (s.authDue = true) ∧ (s.flag Reg.PACK_CFG_AUTH_EN = true) ∧ ((s.slot 24).st ≠ .valid) ∧ (s.gauge.faults = [])) ∧
    (∃ s : State, (s.authDue = true) ∧ (s.flag Reg.PACK_CFG_AUTH_EN = true) ∧ ((s.slot 24).st = .valid) ∧ (s.rngOk = true)) ∧
    (∃ (s : State), (s.gauge.challenge.isSome = true) ∧ (s.gauge.challengeAt + ms 10 ≤ s.now) ∧
      (s.flag Reg.PERS_STATUS_SAVE_ACTIVE = false) ∧ (s.gauge.faults = [])) ∧
    (∃ (s : State) (a : Nat), (s.gauge.selfGrantAt = some a) ∧ (s.masterless = true) ∧ (a ≤ s.now)) :=
  ⟨⟨{ wRun.putB Reg.PACK_CFG_AUTH_EN false with gauge := { State.reset.gauge with present := true, fetArmed := true } }, by decide +kernel⟩,
   ⟨{ wRun.putB Reg.PACK_CFG_AUTH_EN true with gauge := { State.reset.gauge with present := true, fetArmed := true } }, by decide +kernel⟩,
   ⟨{ ((wRun.putB Reg.PACK_CFG_AUTH_EN true).putB Reg.KEY_STATUS_RNG_OK true) with gauge := { State.reset.gauge with present := true, fetArmed := true }, keys := { State.reset.keys with slots := [(24, { st := .valid })], refused := false } },
     by decide +kernel⟩,
   ⟨{ wRun with tick := { clocksOn := true, devTime := ms 20 }, gauge := { State.reset.gauge with challenge := some 7, challengeAt := 0, present := true } },
     by decide +kernel⟩,
   ⟨{ wRun with gauge := { State.reset.gauge with selfGrantAt := some 0 } }, 0, by decide +kernel⟩⟩

theorem wit_ASaveIsDetectedAndDecided :
    (∃ s : State, (s.flag Reg.SAVE_CTRL_VIN_EN = true) ∧ (s.flag Reg.SEQ_STATUS_ARMED = true) ∧
      (s.flag Reg.PERS_STATUS_SAVE_ACTIVE = false) ∧ (s.save.frame0 = none)) ∧
    (∃ s : State, (s.flag Reg.SAVE_CTRL_PFW_EN = true) ∧ (s.flag Reg.SEQ_STATUS_ARMED = true) ∧
      (s.flag Reg.PERS_STATUS_SAVE_ACTIVE = false) ∧ (s.save.frame0 = none) ∧ (s.pins.pfwN = true)) ∧
    (∃ (s : State) (f : Nat), (s.save.frame0 = some f) ∧ (f + 1 ≤ s.frame) ∧ (s.save.enabled = false)) ∧
    (∃ (s : State) (f : Nat), (s.save.frame0 = some f) ∧ (f + 2 ≤ s.frame) ∧ (s.save.enabled = true) ∧ (s.save.committed = false) ∧
      (s.save.causes = [2]) ∧ (s.inputPresent = true)) ∧
    (∃ (s : State) (f : Nat), (s.save.frame0 = some f) ∧ (f + 2 ≤ s.frame) ∧ (s.save.enabled = true) ∧ (s.save.committed = false) ∧
      (s.inputPresent = false) ∧ (s.seq.power = .run) ∧ (firstCause s.save.causes < 8)) ∧
    (∃ s : State, (s.pins.bkpEn = true) ∧ (s.save.frame0 = none) ∧ (s.flag Reg.PERS_STATUS_SAVE_ACTIVE = false) ∧ (s.seq.power = .run) ∧
      (s.pins.inputOk = true) ∧ (s.pins.inputAt + 32 * 1048576 ≤ s.now)) :=
  ⟨⟨(wRun.putB Reg.SAVE_CTRL_VIN_EN true).putB Reg.SEQ_STATUS_ARMED true, by decide +kernel⟩,
   ⟨(wRun.putB Reg.SAVE_CTRL_PFW_EN true).putB Reg.SEQ_STATUS_ARMED true, by decide +kernel⟩,
   ⟨{ wRun with tick := { clocksOn := true, devTime := 4096 }, save := { frame0 := some 2 } }, 2, by decide +kernel⟩,
   ⟨{ wRun with tick := { clocksOn := true, devTime := 4096 }, save := { frame0 := some 2, enabled := true, causes := [2] }, pins := { wRun.pins with inputOk := true } },
     2, by decide +kernel⟩,
   ⟨{ wRun with tick := { clocksOn := true, devTime := 4096 }, save := { frame0 := some 2, enabled := true, causes := [2] } }, 2,
     by decide +kernel⟩,
   ⟨{ wRun with tick := { clocksOn := true, devTime := 33 * 1048576 }, pins := { wRun.pins with bkpEn := true, inputOk := true } },
     by decide +kernel⟩⟩

theorem wit_ASaveRunsToItsSeal :
    (∃ s : State, (s.save.committed = true) ∧ (s.save.arrived = false) ∧ (s.save.commitAt + 1 ≤ s.frame)) ∧
    (∃ (q : QuadIx) (s : State), (s.save.arrived = true) ∧ (s.writesDrained q = true)) ∧
    (∃ (s : State) (f : Nat), (s.save.frame0 = some f) ∧ (s.save.arrived = true) ∧ (s.save.ppFrame = none) ∧ ((∀ q : QuadIx,
      (s.quad q).saveDrained = true))) ∧
    (∃ (s : State) (f : Nat), (s.save.frame0 = some f) ∧ (s.save.arrived = true) ∧ (f + 20 ≤ s.frame)) ∧
    (∃ (q : QuadIx) (_bad : List Nat) (s : State) (f : Nat), (s.save.frame0 = some f) ∧ (s.save.ppFrame.isSome = true) ∧
      ((s.quad q).saveOn = false) ∧ ((s.atSaveOp q = true ∨ (s.quad q).railLost = true)) ∧ (s.get Reg.SAVE_STATUS_PHASE = 4)) ∧
    (∃ (q : QuadIx) (s : State), (s.flag Reg.PERS_STATUS_SAVE_ACTIVE = true) ∧ ((s.quad q).saveMask = true) ∧ (s.tailDone q = true)) ∧
    (∃ s : State, (s.flag Reg.PERS_STATUS_SAVE_ACTIVE = true) ∧ (s.save.writing = true) ∧ (s.get Reg.SAVE_TOKENS_WRITING = 0) ∧
      (s.image.writing = none) ∧ (s.get Reg.SAVE_STATUS_PHASE ≠ 9) ∧ (s.fabric.switched = false)) ∧
    (∃ (s : State) (w : RecWrite), (s.image.writing = some w) ∧ (w.copy0 = .retry) ∧ (w.copy1 = .retry) ∧
      (s.copyPending w.record 0 = false) ∧ (s.copyPending w.record 1 = false)) ∧
    (∃ (s : State) (w : RecWrite), (s.image.writing = some w) ∧ (w.copy0 = .first) ∧ (w.copy1 = .first) ∧
      (s.copyPending w.record 0 = false) ∧ (s.copyPending w.record 1 = false) ∧ (w.record.incomplete = false) ∧
      (s.copyProgrammed w.record 0 (copyChan w.record.seq 0) = true) ∧ (s.copyProgrammed w.record 1 (copyChan w.record.seq 1) = true) ∧
      (s.inputPresent = false)) :=
  ⟨⟨{ wRun with tick := { clocksOn := true, devTime := 10240 }, save := { frame0 := some 2, enabled := true, causes := [2], committed := true, commitAt := 4 } },
    by decide +kernel⟩,
   ⟨1, { wRun with save := { frame0 := some 2, arrived := true } }, by decide +kernel⟩,
   ⟨{ wRun with save := { frame0 := some 0, arrived := true }, quads := (List.range 4).map fun q => (q, { saveDrained := true }) }, 0,
     by decide +kernel⟩,
   ⟨{ wRun with tick := { clocksOn := true, devTime := 1024 * 30 }, save := { frame0 := some 0, arrived := true } }, 0, by decide +kernel⟩,
   ⟨0, [], { (wRun.putB Reg.PERS_STATUS_SAVE_ACTIVE true).put Reg.SAVE_STATUS_PHASE 4 with save := { frame0 := some 0, arrived := true, ppFrame := some 1 }, quads := [(0, { railLost := true })] },
     0, by decide +kernel⟩,
   ⟨0, { (wRun.putB Reg.PERS_STATUS_SAVE_ACTIVE true).put Reg.SAVE_STATUS_PHASE 5 with save := { frame0 := some 0, arrived := true, ppFrame := some 1, writing := true }, quads := [(0, { saveOn := true, saveMask := true })] },
     by decide +kernel⟩,
   ⟨{ wRun.putB Reg.PERS_STATUS_SAVE_ACTIVE true with save := { frame0 := some 0, arrived := true, writing := true } }, by decide +kernel⟩,
   ⟨{ wRun with image := { writing := some ⟨wRec, .retry, .retry⟩ }, save := { frame0 := some 0, committed := true } }, ⟨wRec, .retry,
     .retry⟩, by decide +kernel⟩,
   ⟨{ wRun with image := { writing := some { record := wRec }, records := [(copyChan 0 0, { active := [⟨wRec, 0, true⟩] }), (copyChan 0 1, { active := [⟨wRec, 1, true⟩] })] }, save := { frame0 := some 0, committed := true } },
     { record := wRec }, by decide +kernel⟩⟩

theorem wit_RailsComeUpFailAndRetry :
    (∃ s : State, (s.tick.aonPowered = true) ∧ (s.seq.power = .off) ∧ (s.pins.inputOk = true) ∧ ((∀ x ∈ s.seq.en0ReleasedAt,
      x + ms 500 ≤ s.now)) ∧ ((s.seq.onLatch = true ∨ s.seq.lastDown = .systemReset ∨ (s.seq.aonAutoOn = true ∧
      (s.seq.lastDown = .inputLoss ∨ s.seq.aonApplied = true))))) ∧
    (∃ s : State, (s.tick.aonPowered = true) ∧ (s.seq.power = .off) ∧ (s.pins.inputOk = true) ∧ ((∀ x ∈ s.seq.en0ReleasedAt,
      x + ms 500 ≤ s.now)) ∧ ((s.seq.onLatch = true ∨ s.seq.lastDown = .systemReset ∨ (s.seq.aonAutoOn = true ∧
      (s.seq.lastDown = .inputLoss ∨ s.seq.aonApplied = true))))) ∧
    (∃ s : State, (s.flag Reg.SEQ_GROUP_STATUS_STANDALONE = true) ∧ (s.flag Reg.CFG_STATUS_SEALED = true) ∧ (s.seq.mainStarted = false) ∧
      (s.seq.offWaiting = false) ∧ (s.seq.power = .boot)) ∧
    (∃ (s : State) (r : RailRun) (i : Nat), (s.seq.runs.zipIdx.find? (fun r => s.runDue r.1) = some (r, i)) ∧ (s.seq.offWaiting = false)) ∧
    (∃ (k : RailIx) (s : State), (s.railPresent k = true) ∧ (s.get (Reg.RAIL_STATUS_STATE k) = 6)) ∧
    (∃ (k : RailIx) (s : State), (s.railPresent k = true) ∧ (s.get (Reg.RAIL_STATUS_STATE k) = 2) ∧
      ((s.rail k).enabledAt + s.ramp k ≤ s.now) ∧ (s.get (Reg.RAIL_CFG0_REACTION k) ≠ 1)) ∧
    (∃ (k : RailIx) (s : State) (d : Nat), ((s.rail k).retryDue = some d) ∧ (d ≤ s.sf) ∧ (s.flag Reg.PERS_STATUS_SAVE_ACTIVE = false) ∧
      (s.seq.power = .run) ∧ ((∀ p ∈ s.parents k, s.railIsGood p = true))) ∧
    (∃ s : State, (s.seq.power = .powerUp) ∧ (s.seq.mainStarted = true) ∧ (s.seq.offWaiting = false) ∧ (s.seq.runs = []) ∧
      ((∀ k ∈ s.mainRails, s.railIsGood k = true ∨ s.get (Reg.RAIL_STATUS_STATE k) = 5)) ∧
      (s.lastEnded + ms (s.get Reg.SEQ_TIMING_UP_SETTLE_MS) ≤ s.now)) :=
  ⟨⟨{ State.reset with tick := { aonPowered := true }, pins := { State.reset.pins with inputOk := true }, seq := { onLatch := true } },
    by decide +kernel⟩,
   ⟨{ State.reset with tick := { aonPowered := true }, pins := { State.reset.pins with inputOk := true }, seq := { aonApplied := true } },
     by decide +kernel⟩,
   ⟨{ (wRun.putB Reg.SEQ_GROUP_STATUS_STANDALONE true) with seq := { power := .boot } }, by decide +kernel⟩,
   ⟨{ wRun with seq := { power := .powerUp, runs := [⟨[9], [], 0⟩] } }, ⟨[9], [], 0⟩, 0, by decide +kernel⟩,
   ⟨9, (wRun.putB (Reg.RAIL_CFG0_PRESENT 9) true).put (Reg.RAIL_STATUS_STATE 9) 6, by decide +kernel⟩,
   ⟨9, { ((wRun.putB (Reg.RAIL_CFG0_PRESENT 9) true).put (Reg.RAIL_STATUS_STATE 9) 2) with tick := { clocksOn := true, devTime := sec 10 } },
     by decide +kernel⟩,
   ⟨9, { wRun with rails := [(9, { retryDue := some 0 })] }, 0, by decide +kernel⟩,
   ⟨{ wRun with seq := { power := .powerUp, mainStarted := true }, tick := { clocksOn := true, devTime := sec 10 } }, by decide +kernel⟩⟩

theorem wit_RailFaultsAreDeclaredAndRecorded :
    (∃ (k : RailIx) (f : RailFaultKind) (s : State), (s.flag Reg.CFG_STATUS_SEALED = true) ∧ (s.railPresent k = true) ∧
      ((s.railIsGood k = true ∨ faultKind f = 1)) ∧ ((faultKind f ≠ 3 ∨ s.flag (Reg.RAIL_CFG0_USE_PG k) = true))) ∧
    (∃ (s : State) (i : Incident), (s.seq.incident = some i) ∧ (i.recorded = false) ∧ (i.frame < s.frame) ∧ (i.rail < 32) ∧ (i.kind < 8) ∧
      (i.sameFrame.length < 64)) ∧
    (∃ s : State, (s.seq.offWaiting = true) ∧ (s.stageInProgress = false) ∧ (s.seq.power = .powerUp)) ∧
    (∃ s : State, (s.seq.power = .powerDown) ∧ (s.seq.downAt + ms (s.get Reg.SEQ_TIMING_OFF_GAP_MS) ≤ s.now) ∧ (s.topStage ≠ 0)) ∧
    (∃ s : State, (s.seq.power = .powerDown) ∧ (s.seq.downAt + ms (s.get Reg.SEQ_TIMING_OFF_GAP_MS) ≤ s.now) ∧ (s.topStage = 0)) :=
  ⟨⟨9, .ov, (wRun.putB (Reg.RAIL_CFG0_PRESENT 9) true).put (Reg.RAIL_STATUS_STATE 9) 3, by decide +kernel⟩,
   ⟨{ wRun with tick := { clocksOn := true, devTime := 4096 }, seq := { power := .run, incident := some ⟨9, 2, 1, 1024, [9], false⟩ } },
     ⟨9, 2, 1, 1024, [9], false⟩, by decide +kernel⟩,
   ⟨{ wRun with seq := { power := .powerUp, offWaiting := true } }, by decide +kernel⟩,
   ⟨{ ((wRun.putB (Reg.RAIL_CFG0_PRESENT 9) true).put (Reg.RAIL_STATUS_STAGE 9) 3) with seq := { power := .powerDown }, rails := [(9, { en := true })], tick := { clocksOn := true, devTime := sec 10 } },
     by decide +kernel⟩,
   ⟨{ wRun with seq := { power := .powerDown }, tick := { clocksOn := true, devTime := sec 10 } }, by decide +kernel⟩⟩

theorem wit_ButtonsAndOffRequestsAct :
    (∃ s : State, (s.tick.aonPowered = true) ∧ (s.seq.pressAt = none)) ∧
    (∃ (s : State) (a : Nat), (s.seq.pressAt = some a) ∧ (s.seq.pressActed = false) ∧ (s.now - a < sec 4)) ∧
    (∃ (s : State) (a : Nat), (s.seq.pressAt = some a) ∧ (s.seq.pressActed = false) ∧ (sec 4 ≤ s.now - a) ∧ (s.now - a < sec 8)) ∧
    (∃ (s : State) (a : Nat), (s.seq.pressAt = some a) ∧ (s.seq.pressActed = false) ∧ (a + sec 8 ≤ s.now) ∧ (s.seq.power = .run) ∧
      (s.flag Reg.SEQ_STATUS_ARMED = true) ∧ (s.flag Reg.PERS_STATUS_SAVE_ACTIVE = false) ∧ (s.save.frame0 = none) ∧ (s.shake = none)) ∧
    (∃ (p : PathIx) (s : State), (s.served p = true) ∧ (s.writeShut p 0x060004 = false) ∧ (s.seq.power = .run) ∧
      (s.flag Reg.SEQ_STATUS_ARMED = true) ∧ (s.shake = none) ∧ ((∃ h : HeadIx, s.flag (Reg.FAB_STATUS_LINK_UP h) = true))) ∧
    (∃ (p : PathIx) (s : State), (s.served p = true) ∧ (s.writeShut p 0x060004 = false) ∧ (s.seq.power = .run) ∧
      (s.flag Reg.SEQ_STATUS_ARMED = true) ∧ (s.shake = none) ∧ ((∀ h : HeadIx, s.flag (Reg.FAB_STATUS_LINK_UP h) = false)) ∧
      (s.ackComes = false)) ∧
    (∃ (p : PathIx) (s : State) (h : Handshake), (s.served p = true) ∧ (s.writeShut p 0x030018 = false) ∧ (s.shake = some h) ∧
      (h.met = none) ∧ (h.shipEnded = false)) ∧
    (∃ (s : State) (h : Handshake), (s.shake = some h) ∧ (h.met = none) ∧ (h.shipEnded = false) ∧ (s.get Reg.PERS_OFF_WAIT_S ≠ 0) ∧
      (h.openAt + sec (s.get Reg.PERS_OFF_WAIT_S) ≤ s.now) ∧ (s.ackComes = false) ∧ (s.linksGo h = false)) :=
  ⟨⟨wRun, by decide +kernel⟩,
   ⟨{ wRun with seq := { power := .run, pressAt := some 0 } }, 0, by decide +kernel⟩,
   ⟨{ wRun with seq := { power := .run, pressAt := some 0 }, tick := { clocksOn := true, devTime := sec 5 } }, 0, by decide +kernel⟩,
   ⟨{ wRun.putB Reg.SEQ_STATUS_ARMED true with seq := { power := .run, pressAt := some 0 }, tick := { clocksOn := true, devTime := sec 9 } },
     0, by decide +kernel⟩,
   ⟨0, wRun.putB Reg.SEQ_STATUS_ARMED true, by decide +kernel⟩,
   ⟨3, ((wRun.putB Reg.SEQ_STATUS_ARMED true).putB (Reg.FAB_STATUS_LINK_UP 0) false).putB (Reg.FAB_STATUS_LINK_UP 1) false,
     by decide +kernel⟩,
   ⟨0, { wRun with shake := some { shipEnded := false } }, { shipEnded := false }, by decide +kernel⟩,
   ⟨{ wRun.put Reg.PERS_OFF_WAIT_S 5 with shake := some { shipEnded := false, linksUp := [0] }, tick := { clocksOn := true, devTime := sec 9 } },
     { shipEnded := false, linksUp := [0] }, by decide +kernel⟩⟩

theorem wit_TheBlockBootsAndSeals :
    (∃ (i : BootIn) (s : State) (k : Nat), (s.pins.porstN = false) ∧ (s.seq.power = .boot) ∧ (i.recoveryLow = false) ∧
      (({ (s.program i.nor) with pins := { s.pins with bootMode := i.bootMode } } : State).chooseFw = some k)) ∧
    (∃ (i : LoadIn) (s : State) (n : Nat) (c : CfgImage), (s.pins.porstN = true) ∧ (s.seq.power = .boot) ∧ (s.cluster.running = true) ∧
      (s.isSealed = false) ∧ (s.seq.recoveryDue = none) ∧ ((s.begin.loadBegins i).copiesTried.1 = some (n, c)) ∧ (n < 2)) ∧
    (∃ (i : LoadIn) (s : State), (s.pins.porstN = true) ∧ (s.seq.power = .boot) ∧ (s.cluster.running = true) ∧ (s.isSealed = false) ∧
      (s.seq.recoveryDue = none) ∧ ((s.begin.loadBegins i).copiesTried.1 = none)) ∧
    (∃ (i : LoadIn) (s : State) (k n : Nat) (c : CfgImage), (s.seq.power = .warmReset) ∧ (s.seq.warmDrain = true) ∧
      (s.save.frame0 = none) ∧ (s.seq.dramHeld = true) ∧ (s.begin.warmBegins.chooseFw = some k) ∧
      (((s.begin.warmBegins.warmStarts i k).tryCopies true false (s.begin.warmBegins.warmStarts i k).sameLayout).1 = some (n, c))) :=
  ⟨⟨⟨false, 0, 2, true, ⟨none, none, none, none, none⟩⟩, { State.reset with seq := { power := .boot }, upd := wUpd }, 0, by decide +kernel⟩,
   ⟨wLoad, wCold, 0, wImg, by decide +kernel⟩,
   ⟨wLoad, { wCold with upd := {} }, by decide +kernel⟩,
   ⟨wLoad, wWarm, 0, 0, wImg, by decide +kernel⟩⟩

theorem wit_TheClusterSignalsFailsAndRecovers :
    (∃ (p : PathIx) (s : State), (s.served p = true) ∧ (s.writeShut p 0x0A0004 = false) ∧ (s.cluster.running = true) ∧
      (s.cluster.bootOk = false) ∧ (s.inRecovery = false)) ∧
    (∃ s : State, (s.cluster.running = true) ∧ (s.cluster.bootOk = false) ∧ (s.inRecovery = false) ∧ (s.mainOff = false) ∧
      (s.cluster.releasedAt + ms 500 ≤ s.now)) ∧
    (∃ s : State, (s.cluster.running = true) ∧ (s.cluster.bootOk = false) ∧ (s.inRecovery = false) ∧ (s.mainOff = false) ∧
      (s.cluster.releasedAt + ms 500 ≤ s.now)) ∧
    (∃ (c : Fin 4) (s : State), (s.mainOff = false) ∧ (s.seq.recoveryDue = some (c.val + 1))) ∧
    (∃ s : State, (s.mainOff = false) ∧ (s.flag Reg.PERS_STATUS_SAVE_ACTIVE = false) ∧ (s.save.frame0 = none) ∧
      (s.flag Reg.SEQ_STATUS_ARMED = true) ∧ (s.seq.power = .run)) ∧
    (∃ s : State, (s.mainOff = false) ∧ ((s.flag Reg.PERS_STATUS_SAVE_ACTIVE = true ∨ s.save.frame0.isSome = true))) ∧
    (∃ s : State, (s.seq.power = .warmReset) ∧ (s.seq.warmDrain = false) ∧ (s.isSealed = true) ∧ (s.image.loaded = false) ∧
      (s.seq.recoveryDue = none)) ∧
    (∃ (_stagger : Nat) (s : State), (s.isMember = true) ∧ (s.group.powerUpAt = none)) :=
  ⟨⟨0, { wRun with cluster := { running := true } }, by decide +kernel⟩,
   ⟨{ wRun with cluster := { running := true }, upd := { wUpd with aonFails := 2 }, tick := { clocksOn := true, devTime := sec 1 } },
     by decide +kernel⟩,
   ⟨{ wRun with cluster := { running := true }, upd := wUpd, tick := { clocksOn := true, devTime := sec 1 } }, by decide +kernel⟩,
   ⟨2, { wRun with seq := { power := .boot, recoveryDue := some 3 } }, by decide +kernel⟩,
   ⟨wRun.putB Reg.SEQ_STATUS_ARMED true, by decide +kernel⟩,
   ⟨wRun.putB Reg.PERS_STATUS_SAVE_ACTIVE true, by decide +kernel⟩,
   ⟨{ wRun with seq := { power := .warmReset } }, by decide +kernel⟩,
   ⟨500, (wRun.put Reg.SEQ_GROUP_SIZE_M1 4).put Reg.SEQ_GROUP_STATUS_POSITION 3, by decide +kernel⟩⟩

theorem wit_FlashDiesWorkTheirQueues :
    (∃ (n : DieIx) (s : State) (o : DieOp), (s.dieUp n = true) ∧ (s.flashOn n = true) ∧ ((s.die n).current = none) ∧
      ((s.die n).suspended = []) ∧ (s.nextOp n = some o) ∧ (o.kind.isProgram = false) ∧ (s.busyOk n = true) ∧ ((s.die n).held = []) ∧
      ((s.quad (n.val / 32)).ledgerWait = []) ∧ ((s.quad (n.val / 32)).relocWait = []) ∧ ((s.quad (n.val / 32)).saveOn = false)) ∧
    (∃ (n : DieIx) (s : State) (o f : DieOp), (s.dieUp n = true) ∧ (s.flashOn n = true) ∧ ((s.die n).current = some o) ∧
      (o.kind.isErase = true) ∧ (f ∈ (s.die n).queue) ∧ (f.order = 2) ∧ ((s.quad (n.val / 32)).ledgerWait = []) ∧
      ((s.quad (n.val / 32)).relocWait = []) ∧ ((s.quad (n.val / 32)).saveOn = false)) ∧
    (∃ (n : DieIx) (_e : EngineCheck) (s : State) (o : DieOp) (rc : RecCopy), (s.dieUp n = true) ∧ (s.flashOn n = true) ∧
      ((∀ x ∈ (s.die n).queue, x.load ≠ 1)) ∧ (s.save.arrived = false) ∧ ((s.loadEnds n).confirmable n = some o) ∧ (o.kind = .record rc) ∧
      ((s.die n).held = []) ∧ ((s.quad (n.val / 32)).ledgerWait = []) ∧ ((s.quad (n.val / 32)).relocWait = []) ∧
      ((s.quad (n.val / 32)).saveOn = false)) ∧
    (∃ (n : DieIx) (_f : Option (Fin 4)) (s : State) (o : DieOp) (rc : RecCopy), ((s.die n).current = some o) ∧ (o.kind = .record rc) ∧
      (s.flag Reg.PERS_STATUS_SAVE_ACTIVE = false)) ∧
    (∃ (n : DieIx) (_f : Option (Fin 4)) (s : State) (o : DieOp) (rc : RecCopy), ((s.die n).current = some o) ∧ (o.kind = .record rc) ∧
      (s.flag Reg.PERS_STATUS_SAVE_ACTIVE = false)) ∧
    (∃ (n : DieIx) (s : State) (o : DieOp) (band : Nat), ((s.die n).current = some o) ∧ (o.kind = .erase band) ∧ (o.spoiled = false)) ∧
    (∃ (n : DieIx) (_p : Fin 4) (s : State) (o : DieOp) (band : Nat), ((s.die n).current = some o) ∧ (o.kind = .erase band) ∧
      (o.spoiled = false)) ∧
    (∃ (n : DieIx) (r : FlashRead) (s : State) (o : DieOp) (u p k : Nat) (f : Fill), ((s.die n).current = some o) ∧
      (o.kind = .read u (.fill p)) ∧ (r.need = some k) ∧ (k ≤ s.passLimit n (.fill p)) ∧ (r.engine = .fine) ∧
      ((s.unitBody n u).isSome = true) ∧ (f ∈ (s.quad (n.val / 32)).fills) ∧ (f.patch = p) ∧ (o.load = 2) ∧ (s.engineGrants n = true) ∧
      ((s.quad (n.val / 32)).saveOn = false)) ∧
    (∃ (n : DieIx) (s : State) (o : DieOp), ((s.die n).current = some o)) :=
  ⟨⟨0, { wRun.put (Reg.DIE_STATUS_STATE 0) 2 with dies := [(0, { queue := [wOp (.erase 3)] })] }, wOp (.erase 3), by decide +kernel⟩,
   ⟨0, { wRun.put (Reg.DIE_STATUS_STATE 0) 2 with dies := [(0, { current := some (wOp (.erase 3)), queue := [{ wOp (.read 9 (.fill 0)) with order := 2 }] })] },
     wOp (.erase 3), { wOp (.read 9 (.fill 0)) with order := 2 }, by decide +kernel⟩,
   ⟨0, .both, { wRun.put (Reg.DIE_STATUS_STATE 0) 2 with dies := [(0, { queue := [{ wOp (.record ⟨wRec, 0, true⟩) with load := 2 }] })] },
     { wOp (.record ⟨wRec, 0, true⟩) with load := 2 }, ⟨wRec, 0, true⟩, by decide +kernel⟩,
   ⟨0, none, { wRun with dies := [(0, { current := some (wOp (.record ⟨wRec, 0, true⟩)) })] }, wOp (.record ⟨wRec, 0, true⟩), ⟨wRec, 0,
     true⟩, by decide +kernel⟩,
   ⟨0, some 1, { wRun with dies := [(0, { current := some (wOp (.record ⟨wRec, 0, true⟩)) })] }, wOp (.record ⟨wRec, 0, true⟩), ⟨wRec, 0,
     true⟩, by decide +kernel⟩,
   ⟨0, { wRun with cfg := { State.reset.cfg with media := { unitsPerBand := 4, bands := 10 } }, dies := [(0, { current := some (wOp (.erase 0)), units := [(1, some { body := .filler 0, good := true })] })] },
     wOp (.erase 0), 0, by decide +kernel⟩,
   ⟨0, 2, { wRun with dies := [(0, { current := some (wOp (.erase 0)), units := [(1, some { body := .filler 0, good := true })] })] },
     wOp (.erase 0), 0, by decide +kernel⟩,
   ⟨0, ⟨some 0, 0, .fine, []⟩,
     { wRun with dies := [(0, { current := some { wOp (.read 9 (.fill 0)) with load := 2 }, units := [(9, some { body := .filler 0, good := true })] })], quads := [(0, { fills := [{ patch := 0, cls := .background }] })] },
     { wOp (.read 9 (.fill 0)) with load := 2 }, 9, 0, 0, { patch := 0, cls := .background }, by decide +kernel⟩,
   ⟨0, { wRun with dies := [(0, { current := some (wOp (.read 9 (.fill 0))), units := [(9, some { body := .filler 0, good := true })] })] },
     wOp (.read 9 (.fill 0)), by decide +kernel⟩⟩

theorem wit_ChannelsStripesAndPairsAreKept :
    (∃ (c : FcIx) (bus : Nat) (_r : List DieInit) (s : State), (s.flag Reg.SEQ_STATUS_RAILS_UP = true) ∧
      (s.flag Reg.CFG_STATUS_SEALED = true) ∧ (s.domainGood 2 (c.val / 4) = true) ∧ (s.get (Reg.FC_STATUS_STATE c) < 2) ∧ (bus < 3)) ∧
    (∃ (c : FcIx) (bus : Nat) (_r : List DieInit) (s : State), (s.flag Reg.SEQ_STATUS_RAILS_UP = true) ∧
      (s.flag Reg.CFG_STATUS_SEALED = true) ∧ (s.domainGood 2 (c.val / 4) = true) ∧ (s.get (Reg.FC_STATUS_STATE c) < 2) ∧ (bus < 3)) ∧
    (∃ (c : FcIx) (s : State), (s.get (Reg.FC_STATUS_STATE c) ≠ 3)) ∧
    (∃ (pos u : Nat) (s : State) (x : StripeSet), (s.stripe pos u = some x) ∧ (s.closeDue x = true) ∧ (s.parityChan pos u ≠ none) ∧
      ((∀ n : DieIx, (s.die n).units = []))) ∧
    (∃ (n : DieIx) (s : State) (u pc : Nat) (members : List Nat), (s.get (Reg.DIE_STATUS_STATE n) = 4) ∧ (s.image.rebuild = none) ∧
      ((s.die n).rebuild.find? (s.live n) = some u) ∧ (s.setMembers (posOf n) u = some (pc, members)) ∧ (s.canRebuild n u [] = true)) ∧
    (∃ (p : PairIx) (_b : Bool) (s : State) (j : CipherJob),
      ((s.quad (p.val / 13)).ciph.find? (fun j => j.running.any fun x => decide (x.1 = p.val % 13)) = some j)) ∧
    (∃ (p : PairIx) (s : State) (j : CipherJob),
      ((s.quad (p.val / 13)).ciph.find? (fun j => j.running.any fun x => decide (x.1 = p.val % 13)) = some j) ∧
      (s.get (Reg.PAIR_STATUS_STATE p) ≠ 3) ∧ (p.val % 13 ≠ 12) ∧ (s.get (Reg.PAIR_STATUS_STATE (13 * (p.val / 13) + 12)) ≠ 3)) :=
  ⟨⟨0, 0, [], wRun.put (Reg.FC_STATUS_STATE 0) 0, by decide +kernel⟩,
   ⟨0, 0, [], wRun.put (Reg.FC_STATUS_STATE 0) 1, by decide +kernel⟩,
   ⟨5, wRun, by decide +kernel⟩,
   ⟨0, 5, { wRun.put (Reg.DIE_STATUS_STATE 0) 2 with image := { sets := [{ pos := 0, unit := 5, asked := true }] } },
     { pos := 0, unit := 5, asked := true }, by decide +kernel⟩,
   ⟨0, { (wReb.put (Reg.DIE_STATUS_STATE 0) 4) with dies := [(0, { units := [(9, some { body := .data 0 0 1 0 (.fixed 0) [] 0#1024, good := true })], rebuild := [9] }), (8, { units := [(9, some { body := .parity 0 [0], good := true })] })] },
     9, 1, [0], by decide +kernel⟩,
   ⟨3, true, { wRun with quads := [(0, { ciph := [{ body := .filler 0, next := 1, running := [(3, 0)] }] })] },
     { body := .filler 0, next := 1, running := [(3, 0)] }, by decide +kernel⟩,
   ⟨3, { wRun with quads := [(0, { ciph := [{ body := .filler 0, next := 1, running := [(3, 0)] }] })] },
     { body := .filler 0, next := 1, running := [(3, 0)] }, by decide +kernel⟩⟩

theorem wit_TheImageIsJournalledCheckpointedAndCollected :
    (∃ (q : QuadIx) (s : State) (k : Key), (s.image.genOpen = true) ∧ (s.flushDue q = true) ∧ (s.ledgerKey s.image.gen = some k)) ∧
    (∃ (q : QuadIx) (s : State) (k : Key), (s.sf % 4096 = 0) ∧ (s.image.runOpen = true) ∧ (s.working = true) ∧ ((s.quad q).ckptStage = 0) ∧
      (s.image.ckptActive = false) ∧ (s.image.ckptNew ≠ s.sf) ∧ (s.ledgerKey s.image.gen = some k)) ∧
    (∃ (_ok : List Bool) (s : State), (s.image.ckptActive = true) ∧ (s.image.ckptWait = []) ∧ (s.working = true) ∧
      (s.genKeysWorn = false)) ∧
    (∃ (pos : Nat) (s : State) (b : Nat), (pos < 8) ∧ (s.gcMay pos = true) ∧ ((s.freeBands pos).length < s.get Reg.GC_CTRL_FREE_LOW) ∧
      (s.image.eraseBands = []) ∧ ((∀ x ∈ s.image.collecting, x.1 ≠ pos)) ∧
      (leastBand (fun b => (s.liveInBand pos b).length) (s.closedBands pos) = some b)) ∧
    (∃ (pos : Nat) (s : State) (b x : Nat), (pos < 8) ∧ (s.gcMay pos = true) ∧ (s.get Reg.GC_CTRL_FREE_LOW ≤ (s.freeBands pos).length) ∧
      (leastBand (s.bandWear pos) (s.closedBands pos) = some b) ∧ (x ∈ s.closedBands pos) ∧
      (s.bandWear pos b + 16 * max 16 (s.get (Reg.FC_WEAR_SPREAD 0)) < s.bandWear pos x) ∧ ((∀ y ∈ s.image.collecting, y.1 ≠ pos))) ∧
    (∃ (d : DieIx) (u mates : Nat) (s : State) (r : Reloc) (p ld g c lo : Nat) (k : Key) (l : List Host.Cell) (b : BitVec 1024),
      ((s.quad (d.val / 32)).relocs.find? (fun r => decide (r.die = d.val) && decide (r.unit = some u) && r.covered) = some r) ∧
      (r.body = .data p ld g c k l b) ∧ (s.ledger p = .version r.fromDie r.fromUnit g lo) ∧ (quadOf p = d.val / 32) ∧
      (s.matesRecord p mates = false)) ∧
    (∃ (q : QuadIx) (s : State) (a n u : Nat), (s.working = true) ∧ (s.flag Reg.PERS_STATUS_MEDIA_READY = true) ∧
      (s.flag Reg.PERS_STATUS_RESTORE_PENDING = false) ∧ (s.image.patrolDone.contains q.val = false) ∧ (s.image.patrolStart = some a) ∧
      (a ≤ s.now) ∧ ((s.patrolLeft q).head? = some (n, u)) ∧ (s.patrolDue q = true) ∧
      ((s.die n).hasPlace { order := 7, kind := .read u .patrol, quad := q, entered := 0 } = true) ∧ ((s.die n).held = [])) :=
  ⟨⟨0, { wRun with tick := { clocksOn := true, devTime := 1048576 * 100000 }, keys := { State.reset.keys with slots := [(2, { st := .valid, key := some (.fixed 2) })] }, image := { genOpen := true }, quads := [(0, { journal := [⟨3, .revoked, 0⟩], journalSf := some 0 })] },
    .kdf (.fixed 2) 2 0, by decide +kernel⟩,
   ⟨0, { wRun with tick := { clocksOn := true, devTime := 1048576 * 4096 }, image := { runOpen := true }, keys := { State.reset.keys with slots := [(2, { st := .valid, key := some (.fixed 2) })] }, quads := [(0, { changed := [7] })] },
     .kdf (.fixed 2) 2 0, by decide +kernel⟩,
   ⟨[true, true, true, true], { wRun.put (Reg.DIE_STATUS_STATE 8) 2 with image := { ckptActive := true, ckptNew := 7 } },
     by decide +kernel⟩,
   ⟨0, { wRun.put Reg.GC_CTRL_FREE_LOW 20 with image := { usedBands := [3] }, cfg := { State.reset.cfg with media := { bands := 10, unitsPerBand := 4 } } },
     3, by decide +kernel⟩,
   ⟨0, { wRun with image := { usedBands := [3, 5 ], erases := [(5, 1000000)] }, cfg := { State.reset.cfg with media := { bands := 60, unitsPerBand := 4 } } },
     3, 5, by decide +kernel⟩,
   ⟨0, 9, 0, { wRun with image := { ledger := [(0, .version 8 2 1 0)] }, quads := [(0, { relocs := [⟨.data 0 0 1 0 (.fixed 0) [] 0#1024, 8, 2, 0, some 9, true, true⟩] })] },
     ⟨.data 0 0 1 0 (.fixed 0) [] 0#1024, 8, 2, 0, some 9, true, true⟩, 0, 0, 1, 0, 0, .fixed 0, [], 0#1024, by decide +kernel⟩,
   ⟨0, { wRun.put (Reg.DIE_STATUS_STATE 0) 2 with image := { ledger := [(0, .version 0 9 1 0)], patrolStart := some 0 }, dies := [(0, { units := [(9, some { body := .data 0 0 1 0 (.fixed 0) [] 0#1024, good := true })] })] },
     0, 0, 9, by decide +kernel⟩⟩

theorem wit_TheCascadeFindsPositionsAndStarts :
    (∃ (k : Nat) (s : State), (s.mainOff = false) ∧ (s.isSealed = true) ∧ (s.isMaster = false) ∧
      (s.flag Reg.SEQ_GROUP_STATUS_STANDALONE = false) ∧ (s.position = 63) ∧ (1 ≤ k) ∧ (k ≤ 31)) ∧
    (∃ s : State, s.isHeadOfGroup = true ∧ s.group.discovering = true ∧ (∀ a, s.group.trainSf = some a → a + 16 ≤ s.sf)) ∧
    (∃ s : State, (s.mainOff = false) ∧ (s.isSealed = true) ∧ (s.position = 63) ∧ (s.flag Reg.SEQ_GROUP_STATUS_STANDALONE = false) ∧
      (s.group.sealedAt + s.discoverTime ≤ s.now)) ∧
    (∃ (p : PosIx) (_a : Nat) (s : State), (s.isHeadOfGroup = true) ∧ (s.group.discovering = true) ∧ (1 ≤ p.val)) ∧
    (∃ s : State, (s.isHeadOfGroup = true) ∧ (s.group.discovering = true) ∧ (s.group.sealedAt + s.discoverTime ≤ s.now)) ∧
    (∃ (s : State) (a : Nat), (s.isMember = true) ∧ (s.group.powerUpAt = some a) ∧ (a ≤ s.now) ∧ (s.flag Reg.CFG_STATUS_SEALED = true) ∧
      (s.seq.mainStarted = false) ∧ (s.seq.offWaiting = false) ∧ (s.seq.power = .boot)) ∧
    (∃ (_stagger : Nat) (s : State), (s.isMember = true) ∧ (s.group.powerUpAt = none)) :=
  ⟨⟨7, wRun, by decide +kernel⟩,
   ⟨{ wMaster with group := { discovering := true } }, by decide +kernel, by decide +kernel, fun _ h => nomatch h⟩,
   ⟨{ wRun with tick := { clocksOn := true, devTime := sec 3600 } }, by decide +kernel⟩,
   ⟨3, 0, { wMaster with group := { discovering := true } }, by decide +kernel⟩,
   ⟨{ wMaster with group := { discovering := true }, tick := { clocksOn := true, devTime := sec 3600 } }, by decide +kernel⟩,
   ⟨{ wMember with seq := { power := .boot }, group := { powerUpAt := some 0 } }, 0, by decide +kernel⟩,
   ⟨40, wMember, by decide +kernel⟩⟩

theorem wit_TheGroupSharesFaultsAndSaves :
    (∃ s : State, (s.mainOff = false) ∧ (s.pins.grpFaultOut = false) ∧ (s.pins.grpDrove = none)) ∧
    (∃ (_period _size : Nat) (s : State), (s.isMember = true) ∧ (s.isHeadOfGroup = false)) ∧
    (∃ (_period _size : Nat) (s : State), (s.isHeadOfGroup = true) ∧ (s.group.discovering = false) ∧ (s.group.period = 0)) ∧
    (∃ (p : PosIx) (_epoch _fp : Nat) (s : State), (s.isHeadOfGroup = true) ∧ (1 ≤ p.val)) ∧
    (∃ (_p : PosIx) (s : State), (s.isHeadOfGroup = true) ∧ (s.flag Reg.SEQ_GROUP_SAVE_RELAY = true)) ∧
    (∃ (_down : Bool) (s : State), (s.inGroup = true) ∧ (s.mainOff = false) ∧ (s.flag Reg.SAVE_CTRL_GROUP_EN = true) ∧
      (s.flag Reg.SEQ_STATUS_ARMED = true) ∧ (s.flag Reg.PERS_STATUS_SAVE_ACTIVE = false) ∧ (s.save.frame0 = none)) ∧
    (∃ s : State, (s.isMember = true) ∧ (s.masterless = true)) :=
  ⟨⟨(wMember.putB Reg.SAVE_CTRL_GRP_FAULT_SAVE true).putB Reg.SEQ_STATUS_ARMED true, by decide +kernel⟩,
   ⟨5, 4, wMember, by decide +kernel⟩,
   ⟨0, 0, wMaster, by decide +kernel⟩,
   ⟨3, 1, 77, wMaster, by decide +kernel⟩,
   ⟨3, wMaster.putB Reg.SEQ_GROUP_SAVE_RELAY true, by decide +kernel⟩,
   ⟨true, (wMember.putB Reg.SAVE_CTRL_GROUP_EN true).putB Reg.SEQ_STATUS_ARMED true, by decide +kernel⟩,
   ⟨{ wMember with tick := { clocksOn := true, devTime := 1048576 * 3000 } }, by decide +kernel⟩⟩

theorem wit_TheMasterGrantsChargeAndLearning :
    (∃ (p : PosIx) (s : State), (s.isHeadOfGroup = true) ∧ (1 ≤ p.val) ∧ ((s.member p).chgGrant = false) ∧ (s.chgRoom = false)) ∧
    (∃ (p : PosIx) (s : State), (s.isHeadOfGroup = true) ∧ (1 ≤ p.val) ∧ (s.group.members = []) ∧ (1 ≤ s.get Reg.SEQ_GROUP_CHG_MAX) ∧
      (s.chgRoom = true)) ∧
    (∃ s : State, (s.isMember = true) ∧ (s.gauge.chgWanted = true)) ∧
    (∃ (p : PosIx) (s : State), (s.isHeadOfGroup = true) ∧ (1 ≤ p.val)) ∧
    (∃ (p : PosIx) (s : State), (s.isHeadOfGroup = true) ∧ (1 ≤ p.val) ∧ (s.group.learner = none) ∧ (s.group.learnPend = [])) ∧
    (∃ s : State, (s.isMember = true) ∧ (s.get Reg.LEARN_STATUS_PHASE = 1)) ∧
    (∃ (p : PosIx) (s : State), (s.isHeadOfGroup = true) ∧ (1 ≤ p.val) ∧ (s.group.learner = some p.val) ∧ (s.group.learnPend = [])) :=
  ⟨⟨3, { wMaster.put Reg.SEQ_GROUP_CHG_MAX 1 with group := { members := [(5, { chgGrant := true })] } }, by decide +kernel⟩,
   ⟨3, wMaster, by decide +kernel⟩,
   ⟨{ wMember with gauge := { State.reset.gauge with chgWanted := true } }, by decide +kernel⟩,
   ⟨3, { wMaster with group := { members := [(3, { chgGrant := true })] } }, by decide +kernel⟩,
   ⟨3, wMaster, by decide +kernel⟩,
   ⟨wMember.put Reg.LEARN_STATUS_PHASE 1, by decide +kernel⟩,
   ⟨3, { wMaster with group := { learner := some 3 } }, by decide +kernel⟩⟩

theorem wit_TheTw0TargetAnswers :
    (∃ (_b : Byte) (s : State), (s.tick.aonPowered = true)) ∧
    (∃ (l : List Byte) (s : State), (s.tick.aonPowered = true) ∧ (l.length < 2)) ∧
    (∃ (_ptr n : Nat) (s : State), (s.tick.aonPowered = true) ∧ (n ≤ 32)) ∧
    (∃ (_ptr _n : Nat) (s : State), (s.tick.aonPowered = true)) ∧
    (∃ (_ptr _n : Nat) (s : State), (s.tick.aonPowered = true)) ∧
    (∃ (p : MctpPacket) (s : State), (s.tick.aonPowered = true) ∧ (s.mctpReady = true) ∧ (s.tw0.mctp = none) ∧ (p.pecOk = true) ∧
      (p.som = true) ∧ (p.eom = true) ∧ (p.data.length ≤ 64) ∧ ((p.data.headD 0xFF#8).toNat % 128 = 0)) ∧
    (∃ (s : State) (r : RetCode × List Nat) (l : List (RetCode × List Nat)), (s.tw0.replies = r :: l) ∧ (s.aonServes = false)) ∧
    (∃ s : State, (s.aonServes = false)) ∧
    (∃ s : State, (s.tick.aonPowered = true) ∧ (s.aonServes = true)) ∧
    (∃ s : State, (s.tw0.aonAwake = true) ∧ (s.aonServes = false ∨ s.tw0.aonMatch + ms 100 ≤ s.now)) :=
  ⟨⟨0x20, wRun, by decide +kernel⟩,
   ⟨[1#8], wRun, by decide +kernel⟩,
   ⟨4, 4, wRun, by decide +kernel⟩,
   ⟨4, 4, wRun, by decide +kernel⟩,
   ⟨4, 40, wRun, by decide +kernel⟩,
   ⟨{ pecOk := true, src := 9, tag := 1, seq := 0, som := true, eom := true, data := [0#8, 1#8] }, wRun.putB Reg.TW0_CFG_MCTP_EN true,
     by decide +kernel⟩,
   ⟨{ wRun with tw0 := { replies := [(.success, [1])] } }, (.success, [1]), [], by decide +kernel⟩,
   ⟨wRun, by decide +kernel⟩,
   ⟨State.reset, by decide +kernel⟩,
   ⟨{ wRun with tw0 := { aonAwake := true }, tick := { clocksOn := true, devTime := ms 200 } }, by decide +kernel⟩⟩

theorem wit_TheTwoWireSegmentsWork :
    (∃ (k : TwIx) (r : TwReq) (s : State), (s.twServes (segNo k) r = true) ∧ (s.twRuns = true) ∧ ((s.tw (segNo k)).current = none) ∧
      (s.flag (Reg.TW_STATUS_HUNG (segNo k)) = false) ∧ ((s.tw (segNo k)).clearFirst = false)) ∧
    (∃ (k : TwIx) (r : TwResult) (_l : List Byte) (s : State) (q : TwReq), ((s.tw (segNo k)).current = some q) ∧ (s.twRuns = true) ∧
      (r ≠ .conflict)) ∧
    (∃ (k : TwIx) (_b : Fin 16) (s : State) (q : TwReq), ((s.tw (segNo k)).current = some q) ∧ (s.twRuns = true) ∧
      ((segNo k = 1 ∨ segNo k = 4)) ∧ ((s.tw (segNo k)).losses < 15)) ∧
    (∃ (k : TwIx) (_b : Bool) (s : State) (q : TwReq), ((s.tw (segNo k)).current = some q) ∧ (s.twRuns = true)) ∧
    (∃ (_k : TwIx) (s : State), (s.twRuns = true)) ∧
    (∃ (_k : TwIx) (_f : Option (Fin 3)) (s : State), (s.twRuns = true)) ∧
    (∃ (_k : TwIx) (_f : Option (Fin 3)) (s : State), (s.twRuns = true)) ∧
    (∃ (k : TwIx) (_f : Option (Fin 3)) (s : State), (s.twRuns = true) ∧ (s.flag (Reg.TW_STATUS_HUNG (segNo k)) = true) ∧
      ((s.tw (segNo k)).hungSf + 1024 ≤ s.sf)) :=
  ⟨⟨1, ⟨1, false, 0x20, [1], 0⟩, { wRun with tws := [(2, { clearFirst := false })] }, by decide +kernel⟩,
   ⟨1, .pecErr, [], { wRun with tws := [(2, { current := some ⟨1, false, 0x20, [1], 0⟩ })] }, ⟨1, false, 0x20, [1], 0⟩, by decide +kernel⟩,
   ⟨0, 3, { wRun with tws := [(1, { current := some ⟨1, false, 0x20, [1], 0⟩ })] }, ⟨1, false, 0x20, [1], 0⟩, by decide +kernel⟩,
   ⟨1, true, { wRun with tws := [(2, { current := some ⟨1, false, 0x20, [1], 0⟩ })] }, ⟨1, false, 0x20, [1], 0⟩, by decide +kernel⟩,
   ⟨1, wRun, by decide +kernel⟩,
   ⟨1, none, wRun, by decide +kernel⟩,
   ⟨1, some 1, wRun, by decide +kernel⟩,
   ⟨1, some 1, { (wRun.putB (Reg.TW_STATUS_HUNG 2) true) with tick := { clocksOn := true, devTime := 1048576 * 3000 } }, by decide +kernel⟩⟩

theorem wit_EventsAreRaisedDeliveredAndCleared :
    (∃ (_m : RaiseIn) (s : State), (s.mainOff = false)) ∧
    (∃ (seg : Fin 5) (mates : Nat) (s : State) (m : FaultMsg), (s.mainOff = false) ∧ (s.events.lost = false) ∧
      ((s.each (s.pending.take mates) State.clearAhead).segWinner seg = some m) ∧
      ((s.each (s.pending.take mates) State.clearAhead).flag Reg.EVT_STATUS_FIRST_VALID = false) ∧
      (s.flag (Reg.EVT_CFG_RECORD m.src) = true) ∧ (s.get Reg.EVT_CTRL_FIRST_MIN ≤ m.sev)) ∧
    (∃ (seg : Fin 5) (mates : Nat) (s : State) (m : FaultMsg), (s.mainOff = false) ∧ (s.events.lost = false) ∧
      ((s.each (s.pending.take mates) State.clearAhead).segWinner seg = some m)) ∧
    (∃ (p : PathIx) (s : State), (s.served p = true) ∧ (s.writeShut p 0x020000 = false)) ∧
    (∃ (p : PathIx) (s : State), (s.served p = true) ∧ (s.writeShut p 0x020004 = false)) ∧
    (∃ s : State, (s.tick.aonPowered = true) ∧ (s.pins.alertN = false) ∧ (s.events.earlyAlert = 0)) ∧
    (∃ (k : Fin 2) (s : State), (s.cluster.running = true) ∧ (s.mainOff = false) ∧ (k.val = s.cluster.activePair) ∧
      (s.cluster.halted = false)) ∧
    (∃ (k : Fin 2) (s : State), (s.cluster.running = true) ∧ (s.mainOff = false) ∧ (k.val = s.cluster.activePair) ∧
      (s.cluster.halted = false)) ∧
    (∃ (p : PathIx) (s : State), (s.served p = true) ∧ (s.writeShut p 0x07000C = false)) :=
  ⟨⟨⟨0x440, 1, 1, 0, 0, 0, 0⟩, wRun, by decide +kernel⟩,
   ⟨(⟨(segOf 0x440).1 % 5, by decide⟩ : Fin 5), 0, wRun.event 0x440 1 1, msgPlain 0x440 1 1, by decide +kernel⟩,
   ⟨(⟨(segOf 0x440).1 % 5, by decide⟩ : Fin 5), 0, wRun.event 0x440 1 1, msgPlain 0x440 1 1, by decide +kernel⟩,
   ⟨0, wRun, by decide +kernel⟩,
   ⟨0, wRun, by decide +kernel⟩,
   ⟨{ wRun with pins := { wRun.pins with alertN := false } }, by decide +kernel⟩,
   ⟨0, wRun, by decide +kernel⟩,
   ⟨0, { wRun with cluster := { running := true, standby := false } }, by decide +kernel⟩,
   ⟨0, wRun, by decide +kernel⟩⟩

theorem wit_UpdatesAreTransferredAndActivated :
    (∃ (fn : FnIx) (slot : Nat) (h : ImageHdr) (s : State), (s.fnServed fn = true) ∧ (s.inRecovery = false) ∧ (s.isMgmtFn fn = true) ∧
      (s.flag Reg.PERS_STATUS_SAVE_ACTIVE = false) ∧ (s.lockHeld = false) ∧ (1 ≤ slot) ∧ (slot ≤ 4) ∧ (s.slotInUse slot = false) ∧
      (s.headerOk slot h = true) ∧ (s.lockLost (.transferFwInitiate fn slot h) = false)) ∧
    (∃ (fn : FnIx) (p : FwPart) (s : State) (x : Staging), (s.fnServed fn = true) ∧ (s.inRecovery = false) ∧ (s.isMgmtFn fn = true) ∧
      (s.flag Reg.PERS_STATUS_SAVE_ACTIVE = false) ∧ (s.upd.staging = some x) ∧ (s.now ≤ x.at_ + s.idleTime) ∧
      (s.partRefused fn p x = none)) ∧
    (∃ (fn : FnIx) (p : FwPart) (s : State) (x : Staging) (h : FwHdr), (s.fnServed fn = true) ∧ (s.inRecovery = false) ∧
      (s.isMgmtFn fn = true) ∧ (s.flag Reg.PERS_STATUS_SAVE_ACTIVE = false) ∧ (s.upd.staging = some x) ∧ (s.now ≤ x.at_ + s.idleTime) ∧
      (s.partRefused fn p x = none) ∧ (s.stagedOk x.hdr (x.next + p.len) = true) ∧ ((x.slot = 1 ∨ x.slot = 2)) ∧ (x.hdr = .fw h)) ∧
    (∃ (fn : FnIx) (s : State), (s.fnServed fn = true) ∧ (s.inRecovery = false) ∧ (s.isMgmtFn fn = true) ∧ (s.upd.staging.isSome = true) ∧
      (s.get Reg.UPD_STATUS_OWNER = s.ownerOf fn)) ∧
    (∃ (s : State) (x : Staging), (s.upd.staging = some x) ∧ (x.at_ + s.idleTime < s.now)) ∧
    (∃ (fn : FnIx) (slot : Nat) (_b : Bool) (s : State), (s.fnServed fn = true) ∧ (s.inRecovery = false) ∧ (s.isMgmtFn fn = true) ∧
      (s.flag Reg.PERS_STATUS_SAVE_ACTIVE = false) ∧ (s.slotHolds slot = true) ∧ ((slot = 1 ∨ slot = 2))) ∧
    (∃ (fn : FnIx) (slot : Nat) (s : State), (s.fnServed fn = true) ∧ (s.inRecovery = false) ∧ (s.isMgmtFn fn = true) ∧
      (s.flag Reg.PERS_STATUS_SAVE_ACTIVE = false) ∧ (s.liveOk slot = true)) :=
  ⟨⟨0, 2, .fw wFw, wRun, by decide +kernel⟩,
   ⟨0, ⟨512, 128, true⟩,
     { ((wRun.putB Reg.UPD_STATUS_LOCK true).put Reg.UPD_STATUS_OWNER 1) with upd := { wUpd with staging := some ⟨2, .fw wFw, 512, 0⟩ } },
     ⟨2, .fw wFw, 512, 0⟩, by decide +kernel⟩,
   ⟨0, ⟨512, imageBytes (.fw wFw) - 512, true⟩,
     { ((wRun.putB Reg.UPD_STATUS_LOCK true).put Reg.UPD_STATUS_OWNER 1) with upd := { wUpd with staging := some ⟨2, .fw wFw, 512, 0⟩ } },
     ⟨2, .fw wFw, 512, 0⟩, wFw, by decide +kernel⟩,
   ⟨0, { ((wRun.putB Reg.UPD_STATUS_LOCK true).put Reg.UPD_STATUS_OWNER 1) with upd := { wUpd with staging := some ⟨2, .fw wFw, 512, 0⟩ } },
     by decide +kernel⟩,
   ⟨{ wRun with upd := { wUpd with staging := some ⟨2, .fw wFw, 512, 0⟩ }, tick := { clocksOn := true, devTime := sec 3600 } }, ⟨2,
     .fw wFw, 512, 0⟩, by decide +kernel⟩,
   ⟨0, 1, true, { wRun with upd := wUpd }, by decide +kernel⟩,
   ⟨0, 1, { wRun with upd := wUpd }, by decide +kernel⟩⟩

theorem wit_MailboxReadsAnswer :
    (∃ (fn : FnIx) (s : State), (s.fnServed fn = true) ∧ (s.inRecovery = false)) ∧
    (∃ (fn : FnIx) (s : State), (s.fnServed fn = true) ∧ (s.inRecovery = false)) ∧
    (∃ (fn : FnIx) (_log _start _len : Nat) (s : State), (s.fnServed fn = true) ∧ (s.inRecovery = false)) ∧
    (∃ (fn : FnIx) (_k _n : Nat) (s : State), (s.fnServed fn = true) ∧ (s.inRecovery = false) ∧ (s.isMgmtFn fn = true)) ∧
    (∃ (fn : FnIx) (s : State), (s.fnServed fn = true) ∧ (s.inRecovery = true)) :=
  ⟨⟨0, wRun, by decide +kernel⟩,
   ⟨0, wRun, by decide +kernel⟩,
   ⟨0, 2, 64, 64, wRun, by decide +kernel⟩,
   ⟨0, 2, 5, wRun, by decide +kernel⟩,
   ⟨17, { wRun with seq := { power := .recovery } }, by decide +kernel⟩⟩

theorem wit_MailboxWritesTakeEffect :
    (∃ (fn : FnIx) (_log : Nat) (_l : List Nat) (s : State), (s.fnServed fn = true) ∧ (s.inRecovery = false)) ∧
    (∃ (k : Fin 16) (fn : FnIx) (v : Nat) (s : State), (s.fnServed fn = true) ∧ (s.inRecovery = false) ∧ (fn.val = k.val) ∧
      (v * unit256 ≤ s.ldSize k) ∧ (v < 65536)) ∧
    (∃ (fn : FnIx) (start len : Nat) (s : State) (a : Nat), (s.fnServed fn = true) ∧ (s.inRecovery = false) ∧
      (s.fnRange fn start len = some a)) ∧
    (∃ (fn : FnIx) (addr : Nat) (_d : Line) (s : State) (dpa : Nat), (s.fnServed fn = true) ∧ (s.inRecovery = false) ∧
      (s.fnAddr fn addr = some dpa) ∧ (s.waitsFill dpa = false)) ∧
    (∃ (fn : FnIx) (_v : Nat) (s : State), (s.fnServed fn = true) ∧ (s.inRecovery = false) ∧ (s.isMgmtFn fn = true)) ∧
    (∃ (fn : FnIx) (op : Nat) (s : State), (s.fnServed fn = true) ∧ (s.inRecovery = false) ∧
      ((opcodes (s.isMgmtFn fn)).contains op = false)) :=
  ⟨⟨0, 2, [1, 2, 3, 4], wRun, by decide +kernel⟩,
   ⟨0, 0, 2, wRun, by decide +kernel⟩,
   ⟨0, 64, 128, wRun, 64, by decide +kernel⟩,
   ⟨0, 128, 5#512, wRun, 128, by decide +kernel⟩,
   ⟨0, 1, wRun, by decide +kernel⟩,
   ⟨0, 0x9999, wRun, by decide +kernel⟩⟩

theorem wit_ErasesRunInTheBackground :
    (∃ (fn : FnIx) (s : State), (s.fnServed fn = true) ∧ (s.inRecovery = false) ∧ (s.flag Reg.PERS_STATUS_SAVE_ACTIVE = false) ∧
      ((s.ld fn).bg = none) ∧ (s.isMgmtFn fn = false) ∧ (s.fabric.eraseLock = none) ∧ (fn.val < 16)) ∧
    (∃ (fn : FnIx) (s : State), (s.fnServed fn = true) ∧ (s.inRecovery = false) ∧ (s.flag Reg.PERS_STATUS_SAVE_ACTIVE = false) ∧
      ((s.ld fn).bg = none) ∧ (s.isMgmtFn fn = true) ∧ (s.lockHeld = false)) ∧
    (∃ (_ok : List Bool) (s : State) (keys : List Key), (s.fabric.eraseLock.isSome = true) ∧ (s.fabric.recordDone = true) ∧
      (s.fabric.rootOpened = false) ∧ (s.fabric.newKeys = some keys)) ∧
    (∃ (fn : FnIx) (_bad : List Nat) (s : State) (b : BgCmd) (start len : Nat), ((s.ld fn).bg = some b) ∧ (b.kind = .scan start len) ∧
      (s.mainOff = false) ∧ (s.cluster.running = true) ∧ (s.flag Reg.PERS_STATUS_SAVE_ACTIVE = false) ∧ (fn.val < 16)) :=
  ⟨⟨1, ((wRun.putB (Reg.LD_CFG_ENABLE 1) true).put (Reg.LD_RANGE_BASE 1) 4).put (Reg.LD_RANGE_SIZE 1) 4, by decide +kernel⟩,
   ⟨0, wRun, by decide +kernel⟩,
   ⟨[], { wRun with fabric := { State.reset.fabric with eraseLock := some 0, recordDone := true, newKeys := some [] } }, [],
     by decide +kernel⟩,
   ⟨0, [], { wRun with lds := [(0, { bg := some { kind := .scan 64 128, ld := 0 } })] }, { kind := .scan 64 128, ld := 0 }, 64, 128,
     by decide +kernel⟩⟩

theorem wit_KeysAreLoadedErasedAndServed :
    (∃ (fn : FnIx) (b : KeyBlob) (s : State), (s.fnServed fn = true) ∧ (s.inRecovery = false) ∧ (s.isMgmtFn fn = true) ∧
      (s.flag Reg.PERS_STATUS_SAVE_ACTIVE = false) ∧ (s.blobOk b = true) ∧ (27 ≤ b.target) ∧ (s.slotChanging b.target = false) ∧
      (b.persist = false) ∧ ((s.slot b.target).persist = false)) ∧
    (∃ (fn : FnIx) (k : Nat) (s : State), (s.fnServed fn = true) ∧ (s.inRecovery = false) ∧ (s.isMgmtFn fn = true) ∧
      (s.flag Reg.PERS_STATUS_SAVE_ACTIVE = false) ∧ (27 ≤ k) ∧ (k ≤ 63) ∧ ((s.slot k).persist = false)) ∧
    (∃ (k : Nat) (s : State), ((s.slot k).st = .retiring) ∧ ((s.slot k).oldBound = 0)) ∧
    (∃ (_q : QuadIx) (ld : Fin 16) (g : Nat) (s : State), ((s.dataKey ld g).isSome = true)) ∧
    (∃ (a : CtrlArrival) (s : State), (s.keys.ctrlActive = none) ∧ (s.keys.ctrlQueue = []) ∧ (s.keys.ctrlSusp = []) ∧
      (s.keys.ctrlPort = []) ∧ ((s.slot a.slot).st = .valid) ∧ ((s.slot a.slot).use / 2 ^ a.use.val % 2 = 1) ∧ (a.gen = none)) ∧
    (∃ (a : CtrlArrival) (s : State), (s.keys.ctrlActive = none) ∧ (s.keys.ctrlQueue = []) ∧ (s.keys.ctrlSusp = []) ∧
      (s.keys.ctrlPort = []) ∧ ((s.slot a.slot).st = .empty)) ∧
    (∃ s : State, ((s.keys.refused = true ∨ 4096 ≤ s.keys.requests)) ∧ (s.fabric.eraseLock = none)) :=
  ⟨⟨0, { target := 30, wrap := 27, intact := true, key := 77, slot := 30, use := 4, persist := false },
    { wRun with keys := { State.reset.keys with slots := [(27, { st := .valid, use := 16 })] } }, by decide +kernel⟩,
   ⟨0, 30, { wRun with keys := { State.reset.keys with slots := [(30, { st := .valid, use := 16, key := some (.fixed 3) })] } },
     by decide +kernel⟩,
   ⟨30, { wRun with keys := { State.reset.keys with slots := [(30, { st := .retiring, old := some (.fixed 3) })] } }, by decide +kernel⟩,
   ⟨0, 0, 0, wSkim, by decide +kernel⟩,
   ⟨⟨2, 1, 30, 4, none, .cmac, false, 0#96⟩,
     { wRun with keys := { State.reset.keys with slots := [(30, { st := .valid, use := 16, key := some (.fixed 3) })] } },
     by decide +kernel⟩,
   ⟨⟨2, 1, 30, 4, none, .cmac, false, 0#96⟩, wRun, by decide +kernel⟩,
   ⟨{ wRun with keys := { State.reset.keys with refused := true } }, by decide +kernel⟩⟩

theorem wit_MctpJtagAndSaturationAnswer :
    (∃ (_eid : Nat) (s : State), (s.mctpReady = true)) ∧
    (∃ (_eid : Nat) (s : State), (s.mctpReady = true)) ∧
    (∃ s : State, (s.fnServed 16 = true)) :=
  ⟨⟨8, wRun.putB Reg.TW0_CFG_MCTP_EN true, by decide +kernel⟩,
   ⟨255, wRun.putB Reg.TW0_CFG_MCTP_EN true, by decide +kernel⟩,
   ⟨wRun.putB Reg.TW0_CFG_MCTP_EN true, by decide +kernel⟩⟩

/-! ## Tests of single commands -/

/-! Tests on the numbers that the spec works out itself (its paragraphs "Example:"), each on one step or one operation. -/

/-- The next state of a command. -/
def nextOf (c : Instr) (s : State) : Option State := match exec c s with | .next t => some t | _ => none

/-- The powers and the pack of the spec's examples: 44 W, 0.23 W and 0.39 GB/s a die, 12 J, 58.7 W; 3.450 V a cell, 46.6 mΩ. -/
def wPack : State := { ((((((wRun.put Reg.SAVE_P_BASE_DECIW 440).put Reg.SAVE_P_DIE_MW 230).put Reg.SAVE_R_DIE_MBPS 390).put
    Reg.SAVE_E_FIXED_J 12).put Reg.EXPO_SAVES_N 2).put Reg.GAUGE_PMAX_DECIW 587) with
  cfg := { wRun.cfg with media := { wRun.cfg.media with d := 128 }, ocv := List.replicate 404 3450 }
  gauge := { wRun.gauge with temp := 25, z := List.replicate 64 466 } }

/-- A quadrant of 32 dies that hold 1,365.25 GiB, PE 30,000. -/
def wWear : State := { (List.range 32).foldl (fun s n => s.put (Reg.DIE_STATUS_STATE n) 2) (wRun.put Reg.IMG_GEOM_UNITS_PER_BAND 128) with
  tick := { clocksOn := true, devTime := 1048576 * 4194304 }
  cfg := { wRun.cfg with media := { bands := 5461, unitsPerBand := 128, pe := 30000 } } }

/-- The Undercoat and Topcoat of channel 14 in the spec's example. -/
def wCal : State := { wRun with
  otp := { undercoat := List.replicate 14 (4194304, 0) ++ [(4186419, 3)] }
  cfg := { wRun.cfg with topcoat := [(14, some (1450, -2))] } }

/-- The three logical devices of Table 11.2. -/
def wLds : State := [(0, 0, 0, 2048, 256), (1, 0, 2048, 1024, 0), (2, 1, 3072, 4064, 0)].foldl
  (fun (s : State) (e : Nat × Nat × Nat × Nat × Nat) => ((((s.putB (Reg.LD_CFG_ENABLE e.1) true).put (Reg.LD_CFG_HEAD e.1) e.2.1).put
    (Reg.LD_RANGE_BASE e.1) e.2.2.1).put (Reg.LD_RANGE_SIZE e.1) e.2.2.2.1).put (Reg.LD_PART_VOL e.1) e.2.2.2.2) wRun

/-- Patch 0x12_3456 last written in superframe 9,031, at the boundary of a superframe. -/
def wWet (sf : Nat) : State := { wRun with
  tick := { clocksOn := true, devTime := 1048576 * sf }, patches := [(0x123456, { st := .wet, sw := 9031 })] }

/-- Spare 0 of Q[2] as the spec's example has it: extents of 16 GiB at 16 GiB of rank 3 on SC[8] and SC[9]. -/
def wSpare : State := [0, 1].foldl (fun (s : State) e => ((((s.putB (Reg.QD_SPARE_EXT_PRESENT 2 0 e) true).put (Reg.QD_SPARE_EXT_J 2 0 e) e).put
  (Reg.QD_SPARE_EXT_R 2 0 e) 3).put (Reg.QD_SPARE_EXT_OFFSET 2 0 e) 32).put (Reg.QD_SPARE_EXT_SIZE 2 0 e) 32) wRun

-- 01_architecture: DPA 0x0012_3456_7A40 is patch 0x12_3456, local 0x4_8D15, in Q[2], on SC[9]
theorem test_placement : patchOf 0x001234567A40 = 0x123456 ∧ localOf 0x123456 = 0x48D15 ∧ quadOf 0x123456 = 2 ∧
    scOf 0x001234567A40 = 9 := by decide

-- 08_dram_scheduling: the same line has A_sc = 0x1_2345_5E40, bank 27, row 18,641, column burst 121
theorem test_dram_location : scAddr (localAddr 0x001234567A40) = 0x123455E40 ∧
    locIn 9 0 0x123455E40 = { sc := 9, rank := 0, bank := 27, row := 18641, col := 121, off := 0x123455E40 } := by decide

-- 02_frame_tick_and_epochs: with p = 3, Q0 beats Q2, Q3 beats both, and the save class beats distance
theorem test_grants : grant 3 4 [(0, false, 0), (2, false, 0)] = some 0 ∧
    grant 3 4 [(0, false, 0), (2, false, 0), (3, false, 0)] = some 3 ∧ grant 3 4 [(0, false, 0), (2, true, 0)] = some 2 := by decide

-- 05_save, Table 5.3: the shares of 63 tokens in frames 2,000,000 to 2,000,003
theorem test_token_shares : ((List.range 4).map fun f => (List.range 4).map fun i => share 63 4 (2000000 + f) i) =
    [[16, 16, 16, 15], [15, 16, 16, 16], [16, 15, 16, 16], [16, 16, 15, 16]] := by decide

-- 07_image_and_ledger: layout position 13 of Q[2] is DIE[75]
theorem test_layout : layoutDie 2 13 = 75 := by decide

-- 12_cipher_and_keys: count 0x1A2B_309A has CTR_LO 0x09A
theorem test_ctr_lo : ctrLo 0x1A2B309A = 0x09A := by decide

-- 09_dram_training_ecc_sparing: midpoints 100, 104, 97, 102 give deskew values 4, 0, 7, 2
theorem test_deskew : deskewOf [(80, 120), (84, 124), (77, 117), (82, 122)] = [4, 0, 7, 2] := by decide

-- 16_faults_and_events: the words of the DRAM Event in the example, and the segments of its three sources
theorem test_event_words : msgWord ⟨0x0D8, 2, 3, 20, 3, 0, 1, 0x001234567A40⟩ 0 = 0x351810D8#32 ∧
    msgWord ⟨0x0D8, 2, 3, 20, 3, 0, 1, 0x001234567A40⟩ 2 = 0x34567A40#32 ∧
    (msgWord ⟨0x0D8, 2, 3, 20, 3, 0, 1, 0x001234567A40⟩ 3).toNat % 2 ^ 24 = 0x300012 := by decide +kernel
theorem test_event_segments : (segOf 0x0D8).1 = 2 ∧ (segOf 0x4CC).1 = 1 ∧ (segOf 0x2C1).1 = 4 ∧ srcSc 9 0 = 0x0D8 := by
  decide +kernel

-- 16_faults_and_events, Table 16.5: of three arrivals in a cycle 0x0D8 becomes FIRST, 0x4CC and 0x2C1 enter NEXT in order
theorem test_three_arrivals :
    (nextOf (.faultMessageDelivery [⟨1, false⟩, ⟨2, false⟩, ⟨4, false⟩] 0)
      (((wRun.event 0x2C1 1 1).event 0x0D8 2 3).event 0x4CC 2 3)).map
      (fun t => (t.events.first.map (·.msg.src), t.events.next.map (·.msg.src))) = some (some 0x0D8, [0x4CC, 0x2C1]) := by
  decide +kernel

-- 20_register_map: SC_PAGE_IDLE of SC[9] lies at 0x29_4004, the all-SC window reaches it at 0x1B_8004, DIE[97]'s block at 0x2F_0100
theorem test_offsets : scBase 9 + 4 = 0x294004 ∧ dieBase 97 = 0x2F0100 ∧
    ((wRun.targets 0 0x1B8004).map fun l => (l.length, l.contains 0x294004)) = some (16, true) := by decide +kernel

-- 03_persistence_contract, Table 3.6, in the powers of its notes: 24.6 GiB at 150 J
theorem test_budget : ((wPack.put Reg.GAUGE_EAVAIL_J 150).expoB * 10 / 16384, (wPack.put Reg.GAUGE_EAVAIL_J 40).expoB * 100 / 16384,
    wPack.savePower) = (246, 312, 63) := by decide +kernel

-- 13_backup_energy: OCV 3.450 V at the reserve, 46.6 mΩ, VMIN 6.00 V, IMAX 30 A and 5 % give GAUGE_PMAX 110.0 W
theorem test_pmax : wPack.pMax = 1100 := by decide +kernel

-- 04_skim_and_exposure: 1,365.25 GiB a quadrant with PE 30,000 over 2,557 days allow 203.8 bytes a frame
theorem test_wear_allowance : ((nextOf (.wearAllowanceRecompute 0) wWear).map fun t => t.get (Reg.WEAR_ALLOW_VALUE 0) * 10 / 256) =
    some 2038 := by decide +kernel

-- 04_skim_and_exposure, Table 4.4: at 59.20 GiB of 59.73 GiB with W_MAX 224 the heads withhold 204/256
theorem test_withheld : withheldOf 224 (5920 * 16384 / 100) (5973 * 16384 / 100) = 204 := by decide

-- 04_skim_and_exposure: 1.402 s for 64 GiB less 2 GiB at 0.39 GB/s on 128 dies keeps the drain bound
theorem test_drain_bound : wPack.drainSumOk = true := by decide +kernel

-- 17_configuration_and_calibration: a raw sample of 3,760 codes on channel 14 is corrected to 3,757 codes, 1,100.7 mV at the pin
theorem test_calibration : (wCal.effective 14).2 = 1 ∧ ((wCal.effective 14).1 * 100000 + 2097152) / 4194304 = 99957 ∧ wCal.corrected 14 1 3760 = 3757 := by decide +kernel

-- 11_fabric_ports: LD1's read at 64 GiB is DPA 0x90_0000_0000, in the persistent partition, on SC[0]
theorem test_ld_address : wLds.decodes 0 1 0x1000000000 = true ∧ wLds.ldBase 1 + 0x1000000000 = 0x9000000000 ∧
    wLds.persistent 0x9000000000 = true ∧ scOf 0x9000000000 = 0 := by decide +kernel

-- 20_register_map: a BLOCK read of TIME_NS at 8,589,934,576 ns returns F0 FF FF FF 01 00 00 00, then the PEC (CRC-8 by hand)
theorem test_block_read :
    (nextOf (.tw0BlockRead 0x18 8) { wRun with
      tick := { clocksOn := true, aonPowered := true, devTime := 8589933568, cycle := 1008 }
      tw0 := { wRun.tw0 with addr := 0x58 } }).map (fun t => t.out) =
      some [.bytes [0xF0, 0xFF, 0xFF, 0xFF, 1, 0, 0, 0, 0xEE]] := by decide +kernel

-- 02_frame_tick_and_epochs, Table 2.6: a vote not ready at frame 7,340,005 moves the target to 7,340,007
theorem test_epoch_slip :
    (nextOf (.epochVote [9]) { wRun with
      tick := { clocksOn := true, devTime := 7340005 * 1024 }, plumb := { wRun.plumb with shadow := [(0x294004, 128#32)], commit := some { epoch := 42, target := 7340006 } } }).map
      (fun t => (t.get Reg.EPOCH_STATUS_SLIPS, t.plumb.commit.map (·.target))) = some (1, some 7340007) := by decide +kernel

-- 03_persistence_contract, Table 3.4: a patch written in superframe 9,031 is WET at boundary 9,094 and SET at 9,095
theorem test_patch_sets :
    ((nextOf (.patchSettingExpiry 2 0) (wWet 9094)).map fun t => (t.patch 0x123456).st) = some .wet ∧
    ((nextOf (.patchSettingExpiry 2 0) (wWet 9095)).map fun t => (t.patch 0x123456).st) = some .set := by decide +kernel

-- 09_dram_training_ecc_sparing: offsets of rank 1 below 16 GiB map to spare extent 0 in rank 3 of SC[8], the rest to SC[9]
theorem test_spare_extents : (wSpare.extLoc 2 0 (2 ^ 30)).sc = 8 ∧ (wSpare.extLoc 2 0 (2 ^ 30)).off = 16 * 2 ^ 30 + 2 ^ 30 ∧
    (wSpare.extLoc 2 0 (20 * 2 ^ 30)).sc = 9 ∧ (wSpare.extLoc 2 0 (20 * 2 ^ 30)).off = 20 * 2 ^ 30 ∧
    (wSpare.extLoc 2 0 (20 * 2 ^ 30)).rank = 3 := by decide +kernel

-- 15_two_wire_buses: the AON copy answers at 0x58 plus the straps; Table 20.2: DEV_ID after reset
theorem test_straps : (nextOf (.aonPowerApply 5) wRun).map (fun t => t.tw0.addr) = some 0x5D := by decide +kernel

/-! Well-formedness: each check refuses a term that breaks it, and takes one that does not. -/

theorem test_wellFormed_clock :
    ([.frameBoundary ⟨[], [5], [], 0, 0, false⟩, .frameBoundary ⟨[], [], [(32, 0)], 0, 0, false⟩,
      .frameBoundary ⟨[], [], [(0, 4096)], 0, 0, false⟩, .frameBoundary ⟨[], [], [], 4096, 0, false⟩,
      .superframeBoundary ⟨0, 0, 4096, 0, 0, 0, List.replicate 24 none, false, [], ⟨false, none, 0, 0, 0, []⟩, true⟩,
      .superframeBoundary ⟨0, 0, 0, 0, 0, 0, [], false, [], ⟨false, none, 0, 0, 0, []⟩, true⟩,
      .superframeBoundary ⟨0, 0, 0, 0, 0, 0, List.replicate 24 none, false, [(12, 0, true)], ⟨false, none, 0, 0, 0, []⟩, true⟩,
      .registerWrite [⟨0, 0, 4, 0, 15, 0⟩, ⟨0, 4, 4, 0, 15, 0⟩], .aonPowerApply 8, .epochVote [3072], .unitPowerReturn 3072] : List Instr).all (fun c => !wellFormed c) = true ∧
    ([.frameBoundary ⟨[], [4], [(31, 4095)], 4095, 0, false⟩, .registerWrite [⟨0, 0, 4, 0, 15, 0⟩, ⟨1, 0, 4, 0, 15, 0⟩], .aonPowerApply 7, .epochVote [3071], .unitPowerReturn 3071] :
      List Instr).all wellFormed = true := by decide +kernel

theorem test_wellFormed_memory :
    ([.hostWrite ⟨0, 1024, 0, 0, 0⟩ ⟨0, 0, false⟩, .hostWrite ⟨0, 0, 65536, 0, 0⟩ ⟨0, 0, false⟩, .hostWrite ⟨0, 0, 0, 2 ^ 52, 0⟩ ⟨0, 0, false⟩,
      .hostRead ⟨0, 1024, 0, 0, 0⟩, .hostRead ⟨0, 0, 65536, 0, 0⟩, .hostRead ⟨0, 0, 0, 2 ^ 52, 0⟩,
      .dramCommandIssue 0 ⟨1024, [], []⟩, .dramCommandIssue 0 ⟨0, [256], []⟩, .dramCommandIssue 0 ⟨0, [], [256]⟩,
      .dramReadData [(0, ⟨[88], true⟩)], .healComplete 0 0 [1024], .pageIdleClose 0 256, .refreshDue 0 8 0, .refreshDue 0 0 64,
      .mr4Poll 0 (List.replicate 9 0), .rankIdleSelfRefresh 0 8, .dramTraining 0 [] [⟨4, 0, 0, false, 0, [], []⟩],
      .dramTraining 0 [] [⟨0, 8, 0, false, 0, [], []⟩], .dramTraining 0 [] [⟨0, 0, 10, false, 0, [], []⟩],
      .trackingStep 0 [⟨10, 0, 0, 0⟩], .dramWriteCrcAlert 0 8 0 [], .dramWriteCrcAlert 0 0 0 [⟨10, 0, 0, 0⟩], .migrationChunk 0 [128]] : List Instr).all
      (fun c => !wellFormed c) = true ∧
    ([.hostRead ⟨1, 1023, 65535, 0, 0⟩, .dramReadData [(0, ⟨[87], true⟩)], .refreshDue 0 7 63, .migrationChunk 0 [127]] :
      List Instr).all wellFormed = true := by decide +kernel

theorem test_wellFormed_media :
    ([.sealReadback [], .configLoad ⟨0, [], [], false⟩, .warmLoad ⟨0, [], [], false⟩, .sealSearch [16], .runOpenWrite [],
      .quadrantRefill 0 [(256, 0)], .flashChannelInit 0 0 [], .flashChannelInit 0 0 (List.replicate 8 ⟨true, true, true, true, true, [0, 1, 2, 3, 4]⟩), .stripeClose 8 0, .checkpointSeal [], .gcStart 8,
      .wearLevelRelocate 8, .controlEngineRequest ⟨none, [⟨0, 0, 0, 0, some 65536, .cmac, false, 0⟩]⟩, .retiringKeyZeroize 64,
      .powerDownStage [32], .deviceEraseKeySwitch []] : List Instr).all (fun c => !wellFormed c) = true := by decide +kernel

theorem test_wellFormed_buses :
    ([.cascadeTrainReceived 0, .tw0RegWrite (List.replicate 260 0), .tw0RegRead 65536 0, .tw0BlockRead 65536 0, .tw0BlockRead 0 256,
      .twTransactionStart 0 [⟨0, false, 128, [], 0⟩], .twTransactionStart 0 [⟨0, false, 0, List.replicate 257 0, 0⟩],
      .twTransactionStart 0 [⟨0, false, 0, [], 257⟩], .twTransactionEnd 0 .ok (List.replicate 257 0),
      .tw0MctpPacket ⟨true, 0, 0, 0, true, true, []⟩, .faultMessageRaise ⟨0, 0, 0, 0, 0, 0, 2 ^ 52⟩] : List Instr).all (fun c => !wellFormed c) = true := by decide +kernel

theorem test_wellFormed_mailbox :
    ([.transferFwInitiate 0 256 (.fw wFw), .activateFwOffline 0 256 true, .activateFwOnline 0 256, .getEventRecords 0 256,
      .clearEventRecords 0 256 false [], .clearEventRecords 0 0 false [65536], .setEventInterruptPolicy 0 [256],
      .setTimestamp 0 (2 ^ 64), .setShutdownState 0 256, .getPoisonList 0 (2 ^ 64) 0, .getPoisonList 0 0 (2 ^ 64),
      .injectPoison 0 (2 ^ 64), .clearPoison 0 (2 ^ 64) 0, .getScanMediaCapabilities 0 (2 ^ 64) 0, .scanMedia 0 0 (2 ^ 64),
      .loadKeyBlob 0 ⟨256, 27, true, 0, 0, 0, false⟩, .loadKeyBlob 0 ⟨0, 256, true, 0, 0, 0, false⟩, .eraseKeySlot 0 256 false false,
      .getKeySlotStatus 0 256, .getVendorLog 0 256 0 0, .getVendorLog 0 0 (2 ^ 64) 0, .getVendorLog 0 0 0 65536,
      .setEndpointId 256, .unsupportedOpcode 0 65536] : List Instr).all (fun c => !wellFormed c) = true := by decide +kernel

end Sys2Proof.Machine
end

/-!
PROOF. Register writes: what a 4-byte write on a register path does (00_scope R4, R32, R35; R564): the
command comes down to its register writes, each register write to its fields, and writes of settings to shadow copies.
-/

namespace Sys2Proof.Machine

/-! ## Words and masks -/

/-- The offsets whose writes bring something about beside the register's fields (WO fields, and ALERT_PEND). -/
abbrev actingOffsets : List Nat := [0x010000, 0x010204, 0x020000, 0x020004, 0x030018, 0x060004, 0x07000C, 0x0A0004]

theorem and_merge_mask (w v m : Word) : (w &&& ~~~ m ||| v &&& m) &&& m = v &&& m := by
  apply BitVec.eq_of_getLsbD_eq
  intro i hi
  simp only [BitVec.getLsbD_and, BitVec.getLsbD_or, BitVec.getLsbD_not]
  cases m.getLsbD i <;> simp

theorem and_not_zero (w : Word) : w &&& ~~~ 0#32 = w := BitVec.and_allOnes

/-- An access type that no field of a register has covers no bit. -/
theorem accMask_eq_zero {d : RegDef} {a : Acc} (h : ∀ f ∈ d.fields, f.acc ≠ a) : accMask d a = 0#32 := by
  unfold accMask
  revert h
  induction d.fields with
  | nil => exact fun _ => rfl
  | cons f fs ih =>
    intro h
    rw [List.foldl_cons, if_neg (h f List.mem_cons_self)]
    exact ih fun g hg => h g (List.mem_cons_of_mem f hg)

theorem rwsMask_of_regAt {a u : Nat} {d : RegDef} (h : regAt a = some (d, u)) : rwsMask a = accMask d .rws := by
  simp only [rwsMask, h]

theorem cfgMask_of_regAt {a u : Nat} {d : RegDef} (h : regAt a = some (d, u)) :
    cfgMask a = accMask d .rws ||| accMask d .rwl := by
  simp only [cfgMask, h]

/-- A register of settings: each field is RWS or RO. -/
def RegDef.isSettings (d : RegDef) : Prop := ∀ f ∈ d.fields, f.acc = .rws ∨ f.acc = .ro

theorem RegDef.isSettings.accMask_eq_zero {d : RegDef} (hd : d.isSettings) {a : Acc} (hs : a ≠ .rws) (ho : a ≠ .ro) :
    accMask d a = 0#32 := by
  refine Machine.accMask_eq_zero fun f hf hfa => ?_
  rcases hd f hf with h | h <;> simp_all

/-- After the seal the live word of a register of settings takes nothing of a write (R4). -/
theorem RegDef.isSettings.after_sealed {d : RegDef} (hd : d.isSettings) (loader : Bool) (old v : Word) :
    d.after true loader old v = old := by
  have hrw : accMask d .rw = 0#32 := hd.accMask_eq_zero (by decide) (by decide)
  have hrw1c : accMask d .rw1c = 0#32 := hd.accMask_eq_zero (by decide) (by decide)
  simp only [RegDef.after, hrw, hrw1c, if_true, Bool.not_true, Bool.and_false, Bool.false_eq_true, if_false, BitVec.or_zero,
    BitVec.and_zero, and_not_zero]

/-! ## What a command's beginning leaves unchanged -/

@[simp] theorem State.begin_isSealed (s : State) : s.begin.isSealed = s.isSealed := rfl
@[simp] theorem State.begin_served (s : State) (p : Nat) : s.begin.served p = s.served p := rfl
@[simp] theorem State.begin_writeShut (s : State) (p off : Nat) : s.begin.writeShut p off = s.writeShut p off := rfl
@[simp] theorem State.begin_targets (s : State) (p off : Nat) : s.begin.targets p off = s.targets p off := rfl
@[simp] theorem State.begin_noRegister (s : State) (p off : Nat) : s.begin.noRegister p off = s.noRegister p off := rfl

theorem State.isSealed_of_rd {s t : State} (h : ∀ x, t.rd x = s.rd x) : t.isSealed = s.isSealed := by
  unfold State.isSealed State.flag State.get
  rw [h]

/-! ## A command of one 4-byte write (R32, R555, R556) -/

/-- An access of one word, with all its byte enables and no bit set by the hardware in the same cycle. -/
abbrev wordAccess (p : PathIx) (off : Offset) (v : Word) : RegAccess := ⟨p, off, 4, v.setWidth 64, 15#8, 0#64⟩

/-- An access that is alone in its cycle is granted once: its path has one turn among the five. -/
theorem State.grantOrder_single (s : State) (a : RegAccess) : s.grantOrder [a] = [a] := by
  have turn : ∀ p q : Fin 5, ((List.range 5).filter fun i => decide (p.val = (q.val + i) % 5)).length = 1 := by decide
  have hq : s.ptr 0 5 < 5 := Nat.mod_lt _ (by decide)
  obtain ⟨i, hi⟩ := List.length_eq_one_iff.mp (turn a.path ⟨s.ptr 0 5, hq⟩)
  have split : ∀ l : List Nat, (l.flatMap fun i => [a].filter fun a => decide (a.path.val = (s.ptr 0 5 + i) % 5)) =
      (l.filter fun i => decide (a.path.val = (s.ptr 0 5 + i) % 5)).map fun _ => a := by
    intro l
    induction l with
    | nil => rfl
    | cons j l ih =>
      rw [List.flatMap_cons, ih]
      by_cases hj : a.path.val = (s.ptr 0 5 + j) % 5 <;> simp [hj]
  unfold State.grantOrder
  rw [split, hi, List.map_singleton]

/-- The registers' part of a word access is one mapped write. -/
theorem State.writePart_wordAccess (s : State) (p : PathIx) (off : Offset) (v : Word) (h : off.toNat % 4 = 0) :
    s.writePart 0 (wordAccess p off v) = s.writeMapped p off.toNat v := by
  have fits : accessFits (wordAccess p off v) = true := by simp [accessFits, h]
  have data : s.writeData p off.toNat v 0#32 = v := by
    unfold State.writeData
    split
    · rw [BitVec.zero_and, and_not_zero]
    · rfl
  have value : (v.setWidth 64).extractLsb' 0 32 = v := by
    apply BitVec.eq_of_getLsbD_eq
    intro i hi
    simp [hi]
    omega
  simp [State.writePart, fits, State.writeWord, State.writeReg, value, data, h]

/-- A word access has no second half. -/
theorem State.writePart_one_wordAccess (s : State) (p : PathIx) (off : Offset) (v : Word) :
    s.writePart 1 (wordAccess p off v) = s := by
  simp [State.writePart]

theorem exec_registerWrite_word (s : State) (p : PathIx) (off : Offset) (v : Word) (h : off.toNat % 4 = 0) :
    exec (.registerWrite [wordAccess p off v]) s = .next (s.begin.writeMapped p off.toNat v) := by
  show execRegisterWrite [wordAccess p off v] s = _
  simp only [execRegisterWrite, State.grantOrder_single, State.each, List.foldl_cons, List.foldl_nil,
    State.writePart_one_wordAccess, State.writePart_wordAccess _ _ _ _ h]

theorem exec_broadcastWrite_word (s : State) (p : PathIx) (off : Offset) (v : Word) {l : List Nat} (h : off.toNat % 4 = 0)
    (hl : s.targets p off.toNat = some l) :
    exec (.broadcastWrite (wordAccess p off v)) s = .next (s.begin.writeMapped p off.toNat v) := by
  show execBroadcastWrite (wordAccess p off v) s = _
  simp only [execBroadcastWrite, occurs, hl, Option.isSome_some, if_true, State.writePart_one_wordAccess,
    State.writePart_wordAccess _ _ _ _ h]

/-! ## Which registers a write reaches (R33, R35, R48, R564) -/

theorem State.reach_of_open {s : State} {p off : Nat} (f : State → State) (hp : s.served p = true)
    (hw : s.writeShut p off = false) : s.reach p off f = f s := by
  simp [State.reach, hp, hw]

theorem State.writeMapped_of_open {s : State} {p off : Nat} (v : Word) (hp : s.served p = true)
    (hw : s.writeShut p off = false) (hn : s.noRegister p off = false) :
    s.writeMapped p off v = s.writeTo p off v (s.targets p off) := by
  unfold State.writeMapped
  rw [hn, if_neg Bool.false_ne_true, State.reach_of_open _ hp hw]

theorem State.noRegister_of_regAt {s : State} {p off : Nat} {d : RegDef} {u : Nat} (ht : s.targets p off = none)
    (hr : (s.inRecovery && !recoveryOffset off) = false) (hd : regAt off = some (d, u)) : s.noRegister p off = false := by
  simp [State.noRegister, State.nameOf, ht, hr, hd]

/-- A write to registers without common configuration values splits no class (R48). -/
theorem State.splits_of_no_common {s : State} {l : List Nat}
    (h : ∀ a ∈ l, sparseGet 0#32 s.plumb.common (commonKey a) &&& cfgMask a = 0#32) : s.splits l = false := by
  cases l with
  | nil => rfl
  | cons a l => simp [State.splits, h a (by simp)]

theorem State.rwlDiffers_of_no_rwl {s : State} {a u : Nat} {d : RegDef} (v : Word) (hd : regAt a = some (d, u))
    (hl : accMask d .rwl = 0#32) : s.rwlDiffers v a = false := by
  simp [State.rwlDiffers, hd, hl]

/-- A write that splits no class and meets no sealed RWL field reaches each register in turn. -/
theorem State.writeAll_of_plain {s : State} {v : Word} {l : List Nat} (p off : Nat) (hs : s.splits l = false)
    (hr : ∀ a ∈ l, s.rwlDiffers v a = false) : s.writeAll p off v l = s.each l fun s a => s.writeAt p a v := by
  have any : (l.any fun a => s.rwlDiffers v a) = false := List.any_eq_false.mpr fun a ha => by simp [hr a ha]
  simp [State.writeAll, hs, any]

/-! ## What one register takes (R4) -/

theorem State.writeActs_of_not_acting {off : Nat} (s : State) (v : Word) (h : off ∉ actingOffsets) :
    s.writeActs off v = s := by
  simp only [List.mem_cons, List.not_mem_nil, or_false, not_or] at h
  simp [State.writeActs, h]

theorem State.writeAt_of_plain {a u : Nat} {d : RegDef} (s : State) (p : Nat) (v : Word) (hd : regAt a = some (d, u))
    (hb : bankedOff a = false) (ha : a ∉ actingOffsets) : s.writeAt p a v = s.fieldsWrite p d a v := by
  simp only [State.writeAt, hd, State.writeOne, hb, Bool.false_eq_true, if_false]
  exact State.writeActs_of_not_acting _ v ha

theorem State.fieldsWrite_of_no_rws {d : RegDef} (s : State) (p off : Nat) (v : Word) (h : accMask d .rws = 0#32) :
    s.fieldsWrite p d off v = s.wr off (d.after s.isSealed (decide (p = 4)) (s.rd off) v) := by
  simp [State.fieldsWrite, h]

theorem State.sparseFind_shadowWrite (s : State) (d : RegDef) (off : Nat) (v : Word) (x : Nat) :
    sparseFind (s.shadowWrite d off v).plumb.shadow x =
      if x = off then some (((sparseFind s.plumb.shadow off).getD (s.rd off) &&& ~~~ accMask d .rws) ||| (v &&& accMask d .rws))
      else sparseFind s.plumb.shadow x := by
  simp only [State.shadowWrite, State.modPlumb_same]
  rw [sparseFind_place _ _ _ _ (sparseErase_gone _ _), sparseFind_erase]
  by_cases hx : x = off <;> simp [hx]

theorem State.rd_wr_rd (s : State) (off x : Nat) : (s.wr off (s.rd off)).rd x = s.rd x := by
  by_cases hx : x = off
  · rw [hx, State.rd_wr_same]
  · rw [State.rd_wr_other _ _ hx]

/-! ## Settings written after the seal go to shadow copies (R4, R35) -/

/-- What a write of `v` to registers of settings at some offsets does after the seal: every live word stays, the shadow copy
at each offset takes the written bits, and the other shadow copies stay. -/
structure State.ShadowsTake (s t : State) (d : RegDef) (v : Word) (l : List Nat) : Prop where
  live   : ∀ x, t.rd x = s.rd x
  taken  : accMask d .rws ≠ 0#32 → ∀ a ∈ l,
    (sparseFind t.plumb.shadow a).map (· &&& accMask d .rws) = some (v &&& accMask d .rws)
  others : ∀ x, x ∉ l → sparseFind t.plumb.shadow x = sparseFind s.plumb.shadow x

theorem State.ShadowsTake.nil (s : State) (d : RegDef) (v : Word) : s.ShadowsTake s d v [] :=
  ⟨fun _ => rfl, fun _ _ h => absurd h List.not_mem_nil, fun _ _ => rfl⟩

theorem State.ShadowsTake.cons {s t r : State} {d : RegDef} {v : Word} {a : Nat} {l : List Nat}
    (first : s.ShadowsTake t d v [a]) (rest : t.ShadowsTake r d v l) : s.ShadowsTake r d v (a :: l) where
  live x := (rest.live x).trans (first.live x)
  taken hm b hb := by
    by_cases hbl : b ∈ l
    · exact rest.taken hm b hbl
    · have hba : b = a := (List.mem_cons.mp hb).resolve_right hbl
      rw [rest.others b hbl]
      exact first.taken hm b (List.mem_singleton.mpr hba)
  others x hx := by
    obtain ⟨hxa, hxl⟩ := not_or.mp (mt List.mem_cons.mpr hx)
    rw [rest.others x hxl, first.others x (mt List.mem_singleton.mp hxa)]

/-- The shadow copy of one register of settings takes a write. -/
theorem State.fieldsWrite_settings {d : RegDef} (s : State) (p off : Nat) (v : Word) (hs : s.isSealed = true)
    (hd : d.isSettings) : s.ShadowsTake (s.fieldsWrite p d off v) d v [off] := by
  have after : d.after s.isSealed (decide (p = 4)) (s.rd off) v = s.rd off := by rw [hs, hd.after_sealed]
  by_cases hm : accMask d .rws = 0#32
  · have write : s.fieldsWrite p d off v = s.wr off (s.rd off) := by rw [s.fieldsWrite_of_no_rws p off v hm, after]
    rw [write]
    exact ⟨s.rd_wr_rd off, fun h => absurd hm h, fun _ _ => rfl⟩
  · have write : s.fieldsWrite p d off v = (s.shadowWrite d off v).wr off ((s.shadowWrite d off v).rd off) := by
      simp only [State.fieldsWrite, after]
      simp [hm, hs, State.shadowWrite]
    rw [write]
    refine ⟨(s.shadowWrite d off v).rd_wr_rd off, fun _ a ha => ?_, fun x hx => ?_⟩
    · rw [List.mem_singleton.mp ha, State.wr_plumb, State.sparseFind_shadowWrite, if_pos rfl, Option.map_some, and_merge_mask]
    · rw [State.wr_plumb, State.sparseFind_shadowWrite, if_neg (mt List.mem_singleton.mpr hx)]

/-- Registers of settings that a write finds: the same definition at each offset, none banked and none whose write acts. -/
structure SettingsAt (d : RegDef) (l : List Nat) : Prop where
  settings : d.isSettings
  reg      : ∀ a ∈ l, (regAt a).map (·.1) = some d
  unbanked : ∀ a ∈ l, bankedOff a = false
  quiet    : ∀ a ∈ l, a ∉ actingOffsets

theorem SettingsAt.regAt_eq {d : RegDef} {l : List Nat} (h : SettingsAt d l) {a : Nat} (ha : a ∈ l) :
    ∃ u, regAt a = some (d, u) := by
  obtain ⟨⟨d', u⟩, hr, rfl⟩ := Option.map_eq_some_iff.mp (h.reg a ha)
  exact ⟨u, hr⟩

theorem SettingsAt.tail {d : RegDef} {a : Nat} {l : List Nat} (h : SettingsAt d (a :: l)) : SettingsAt d l where
  settings := h.settings
  reg b hb := h.reg b (List.mem_cons_of_mem a hb)
  unbanked b hb := h.unbanked b (List.mem_cons_of_mem a hb)
  quiet b hb := h.quiet b (List.mem_cons_of_mem a hb)

theorem SettingsAt.each_writeAt {d : RegDef} {l : List Nat} (h : SettingsAt d l) (s : State) (p : Nat) (v : Word)
    (hs : s.isSealed = true) : s.ShadowsTake (s.each l fun s a => s.writeAt p a v) d v l := by
  induction l generalizing s with
  | nil => exact .nil s d v
  | cons a l ih =>
    obtain ⟨u, hr⟩ := h.regAt_eq List.mem_cons_self
    have first : s.ShadowsTake (s.writeAt p a v) d v [a] := by
      rw [s.writeAt_of_plain p v hr (h.unbanked a List.mem_cons_self) (h.quiet a List.mem_cons_self)]
      exact s.fieldsWrite_settings p a v hs h.settings
    exact first.cons (ih h.tail _ ((State.isSealed_of_rd first.live).trans hs))

/-- A write of settings after the seal, while no common value of theirs is set. -/
theorem SettingsAt.writeAll {d : RegDef} {l : List Nat} (h : SettingsAt d l) (s : State) (p off : Nat) (v : Word)
    (hs : s.isSealed = true) (hc : ∀ a ∈ l, sparseGet 0#32 s.plumb.common (commonKey a) &&& rwsMask a = 0#32) :
    s.ShadowsTake (s.writeAll p off v l) d v l := by
  have hrwl : accMask d .rwl = 0#32 := h.settings.accMask_eq_zero (by decide) (by decide)
  have plain : s.splits l = false := by
    refine State.splits_of_no_common fun a ha => ?_
    obtain ⟨u, hr⟩ := h.regAt_eq ha
    rw [cfgMask_of_regAt hr, hrwl, BitVec.or_zero, ← rwsMask_of_regAt hr, hc a ha]
  have unsealed : ∀ a ∈ l, s.rwlDiffers v a = false := by
    intro a ha
    obtain ⟨u, hr⟩ := h.regAt_eq ha
    exact State.rwlDiffers_of_no_rwl v hr hrwl
  rw [State.writeAll_of_plain p off plain unsealed]
  exact h.each_writeAt s p v hs

/-! ## Banked fields -/

theorem State.bankRd_bankWr_same (s : State) (p off : Nat) (w : Word) : (s.bankWr p off w).bankRd p off = w := by
  simp only [State.bankRd, State.bankWr, State.modPath_same, sparseFind_setWord, if_true]
  by_cases hw : w = resetWord off <;> simp [hw]

theorem State.bankGet_bankPut_same (s : State) (p : Nat) (f : Fld) (v : Nat) (h : f.lo + f.width ≤ 32) :
    (s.bankPut p f v).bankGet p f = v % 2 ^ f.width := by
  rw [State.bankGet, State.bankPut, State.bankRd_bankWr_same, f.of_into_same _ _ h]

/-! ## The commands -/

/-- (a): a register without RWS and RWL fields. -/
theorem registerWrite_takes_access_types {p : PathIx} {off : Offset} {s : State} {d : RegDef} {u : Nat} (v : Word)
    (hp : s.served p = true) (hw : s.writeShut p off.toNat = false) (h4 : off.toNat % 4 = 0)
    (ht : s.targets p off.toNat = none) (hrec : (s.inRecovery && !recoveryOffset off.toNat) = false)
    (hd : regAt off.toNat = some (d, u)) (hb : bankedOff off.toNat = false) (hrws : accMask d .rws = 0#32)
    (hrwl : accMask d .rwl = 0#32) (ha : off.toNat ∉ actingOffsets) :
    exec (.registerWrite [wordAccess p off v]) s =
      .next (s.begin.wr off.toNat (d.after s.isSealed (decide (p.val = 4)) (s.rd off.toNat) v)) := by
  have plain : s.begin.splits [off.toNat] = false := State.splits_of_no_common fun a h => by
    rw [List.mem_singleton.mp h, cfgMask_of_regAt hd, hrws, hrwl, BitVec.or_zero, BitVec.and_zero]
  have unsealed : ∀ a ∈ [off.toNat], s.begin.rwlDiffers v a = false := fun a h => by
    rw [List.mem_singleton.mp h]
    exact State.rwlDiffers_of_no_rwl v hd hrwl
  rw [exec_registerWrite_word s p off v h4,
    State.writeMapped_of_open v (by simpa using hp) (by simpa using hw) (by simpa using State.noRegister_of_regAt ht hrec hd),
    State.begin_targets, ht, State.writeTo, State.writeAll_of_plain _ _ plain unsealed, State.each, List.foldl_cons,
    List.foldl_nil, State.writeAt_of_plain _ _ _ hd hb ha, State.fieldsWrite_of_no_rws _ _ _ _ hrws]
  rfl

/-- (b): a register of settings after the seal. -/
theorem registerWrite_settings {p : PathIx} {off : Offset} {s : State} {d : RegDef} {u : Nat} (v : Word)
    (hp : s.served p = true) (hw : s.writeShut p off.toNat = false) (h4 : off.toNat % 4 = 0)
    (ht : s.targets p off.toNat = none) (hrec : (s.inRecovery && !recoveryOffset off.toNat) = false)
    (hd : regAt off.toNat = some (d, u)) (hb : bankedOff off.toNat = false) (hs : s.isSealed = true)
    (hc : sparseGet 0#32 s.plumb.common (commonKey off.toNat) &&& rwsMask off.toNat = 0#32) (hset : d.isSettings)
    (ha : off.toNat ∉ actingOffsets) :
    ∃ t, exec (.registerWrite [wordAccess p off v]) s = .next t ∧ s.begin.ShadowsTake t d v [off.toNat] := by
  have found : SettingsAt d [off.toNat] :=
    ⟨hset, by simp [hd], by simpa using hb, fun a h => List.mem_singleton.mp h ▸ ha⟩
  refine ⟨s.begin.writeAll p off.toNat v [off.toNat], ?_, found.writeAll _ _ _ v hs (by simpa using hc)⟩
  rw [exec_registerWrite_word s p off v h4,
    State.writeMapped_of_open v (by simpa using hp) (by simpa using hw) (by simpa using State.noRegister_of_regAt ht hrec hd),
    State.begin_targets, ht, State.writeTo]

/-- (c): CLR_OVERRUNS. -/
theorem exec_clrOverruns {p : PathIx} {s : State} (hp : s.served p = true) (hw : s.writeShut p 0x010000 = false) :
    exec (.clrOverruns p) s = .next (s.begin.put Reg.TICK_STATUS_OVERRUNS 0) :=
  congrArg Host.Outcome.next (State.reach_of_open _ (by simpa using hp) (by simpa using hw))

/-- (d): a broadcast whose masks select nothing (R37). -/
theorem broadcastWrite_empty {p : PathIx} {off : Offset} {s : State} (v : Word) (hp : s.served p = true)
    (hw : s.writeShut p off.toNat = false) (h4 : off.toNat % 4 = 0) (ht : s.targets p off.toNat = some [])
    (hn : s.noRegister p off.toNat = false) :
    exec (.broadcastWrite (wordAccess p off v)) s = .next (s.begin.bankPut p Reg.BCAST_STATUS_EMPTY 1) := by
  rw [exec_broadcastWrite_word s p off v h4 ht,
    State.writeMapped_of_open v (by simpa using hp) (by simpa using hw) (by simpa using hn), State.begin_targets, ht,
    State.writeTo]

/-- (e): a broadcast to registers of settings after the seal (R35). -/
theorem broadcastWrite_settings {p : PathIx} {off : Offset} {s : State} {l : List Nat} {d : RegDef} (v : Word)
    (hp : s.served p = true) (hw : s.writeShut p off.toNat = false) (h4 : off.toNat % 4 = 0)
    (ht : s.targets p off.toNat = some l) (hl : l ≠ []) (hn : s.noRegister p off.toNat = false) (hs : s.isSealed = true)
    (hc : ∀ a ∈ l, sparseGet 0#32 s.plumb.common (commonKey a) &&& rwsMask a = 0#32) (found : SettingsAt d l) :
    ∃ t, exec (.broadcastWrite (wordAccess p off v)) s = .next t ∧ s.begin.ShadowsTake t d v l := by
  refine ⟨s.begin.writeAll p off.toNat v l, ?_, found.writeAll _ _ _ v hs hc⟩
  rw [exec_broadcastWrite_word s p off v h4 ht,
    State.writeMapped_of_open v (by simpa using hp) (by simpa using hw) (by simpa using hn), State.begin_targets, ht,
    State.writeTo]
  exact hl

/-- The sub-channel, flash and quadrant blocks hold no register whose write acts. -/
theorem not_acting_of_quadrant {a : Nat} (h : 0x200000 ≤ a) : a ∉ actingOffsets := by
  simp only [List.mem_cons, List.not_mem_nil, or_false, not_or]
  omega

/-- Settles O20: each command comes down to its register writes, and the writes of settings to `State.ShadowsTake`. -/
theorem registerWritesFollowAccessTypes : Obligations.RegisterWritesFollowAccessTypes := by
  unfold Obligations.RegisterWritesFollowAccessTypes
  refine ⟨?_, ?_, ?_, ?_, ?_⟩
  · intro p off v s d u hp hw h4 ht hrec hd hb hrws hrwl ha
    refine ⟨_, registerWrite_takes_access_types v hp hw h4 ht hrec hd hb hrws hrwl ha, ?_, ?_, rfl⟩
    · exact State.rd_wr_same _ _ _
    · exact fun x hx => State.rd_wr_other _ _ hx
  · intro p off v s d u hp hw h4 ht hrec hd hb hs hc hset ha
    obtain ⟨t, step, took⟩ := registerWrite_settings v hp hw h4 ht hrec hd hb hs hc hset ha
    exact ⟨t, step, took.live, fun hm => took.taken hm _ List.mem_cons_self⟩
  · intro p s hp hw
    exact ⟨_, exec_clrOverruns hp hw, State.get_put_same _ _ _ (by decide), fun x hx => State.rd_put_other _ _ _ hx⟩
  · intro p off v s hp hw h4 ht hn
    exact ⟨_, broadcastWrite_empty v hp hw h4 ht hn, State.bankGet_bankPut_same _ _ _ _ (by decide), rfl, rfl⟩
  · intro p off v s l d hp hw h4 ht hl hreg hn hb hs hc hset hq _
    obtain ⟨t, step, took⟩ := broadcastWrite_settings v hp hw h4 ht hl hn hs hc
      ⟨hset, hreg, hb, fun a ha => not_acting_of_quadrant (hq a ha)⟩
    exact ⟨t, step, took.live, took.taken, took.others⟩

end Sys2Proof.Machine

/-!
PROOF. A sub-channel's commands (08_dram_scheduling R224 to R231, R236, R260): what an entry leaves in its queue and its head,
what a DFI clock leaves in DRAM, what a returned read, an idle bank and a due refresh leave behind.
-/

namespace Sys2Proof.Machine

/-! ## Entry (R224, R231) -/

/-- A request that enters stands in one of the sub-channel's queues. -/
theorem State.enqueue_entries (s : State) (n : Nat) (e : QEntry) : ∃ x ∈ ((s.enqueue n e).sc n).entries, x.id = e.id := by
  refine ⟨{ e with seq := s.fabric.nextId }, ?_, rfl⟩
  unfold State.enqueue Sc.entries
  dsimp only
  rw [State.modSc_same]
  by_cases hw : e.isWrite = true
  · simp [hw]
  · rw [if_neg hw]
    split <;> simp

/-- The entry port's grant to a head's request brings that request in. -/
theorem State.queueEntry_of_grant_head {s : State} {n pos h : Nat} {r : HReq} {e : QEntry}
    (granted : grant (s.ptr n 6) 6 ((s.portAsks n).map fun x => (x.1, x.2.2.saveCls, s.urgency n x.2.2)) = some pos)
    (asks : (s.portAsks n).find? (fun x => decide (x.1 = pos)) = some (pos, .head h r, e)) :
    s.queueEntry n = s.enterHead n h r e := by
  simp only [State.queueEntry, granted, asks, State.entryGoes]

theorem State.enterHead_entries (s : State) (n h : Nat) (r : HReq) (e : QEntry) :
    ∃ x ∈ ((s.enterHead n h r e).sc n).entries, x.id = e.id := by
  unfold State.enterHead
  exact State.enqueue_entries _ n _

theorem State.enqueue_heads (s : State) (n : Nat) (e : QEntry) : (s.enqueue n e).heads = s.heads :=
  heads_of_outside (State.enqueue_outside s n e 2147501073 (by decide)) (by decide)

/-- The request that entered has left its head. -/
theorem State.enterHead_leaves_head (s : State) (n h : Nat) (r : HReq) (e : QEntry) :
    ∀ x ∈ ((s.enterHead n h r e).head h).reqs, x.id ≠ r.id := by
  unfold State.enterHead State.head
  dsimp only
  rw [State.enqueue_heads]
  intro x hx
  change x ∈ ((State.modHead _ h _).head h).reqs at hx
  rw [State.modHead_same] at hx
  simpa using (List.mem_filter.mp hx).2

/-! ## One DFI clock (R225 to R231) -/

theorem State.judgeMode_dram (s : State) (n : Nat) : (s.judgeMode n).dram = s.dram :=
  dram_of_outside (State.judgeMode_outside s n 1025 (by decide)) (by decide)

theorem State.rowIssue_dram (s : State) (n : Nat) (c : RowCmd) : (s.rowIssue n c).dram = s.dram :=
  dram_of_outside (State.rowIssue_outside s n c 2147484689 (by decide)) (by decide)

theorem State.lineReplaced_dram (s : State) (dpa : Nat) : (s.lineReplaced dpa).dram = s.dram :=
  dram_of_outside (State.lineReplaced_outside s dpa 512 (by decide)) (by decide)

theorem State.judgeGpf_dram (s : State) : s.judgeGpf.dram = s.dram :=
  dram_of_outside (State.judgeGpf_outside s 2147487744 (by decide)) (by decide)

/-- A write's column command stores its data. -/
theorem State.columnIssue_dram_of_write {s : State} {n : Nat} {e : QEntry} {d : WriteData} (hw : e.isWrite = true)
    (hd : e.write = some d) : (s.columnIssue n e).dram = (s.writeLine e.dpa d).dram := by
  simp only [State.columnIssue, hw, hd, if_true, State.judgeGpf_dram, State.lineReplaced_dram, State.writeLine_dram,
    apply_ite State.dram, State.setBank, State.modSc_dram, State.dramOut, State.emit_dram, ite_self]

/-- A column command that stores nothing leaves DRAM as it was. -/
theorem State.columnIssue_dram_of_no_data {s : State} {n : Nat} {e : QEntry} (h : e.isWrite = true → e.write = none) :
    (s.columnIssue n e).dram = s.dram := by
  by_cases hw : e.isWrite = true
  · simp only [State.columnIssue, hw, h hw, if_true, apply_ite State.dram, State.setBank, State.modSc_dram, State.dramOut,
      State.emit_dram, ite_self]
  · simp only [State.columnIssue, hw, if_false, Bool.false_eq_true, apply_ite State.dram, State.setBank, State.modSc_dram,
      State.dramOut, State.emit_dram, State.bump_dram, ite_self]

/-- A column command changes no byte outside the line that it writes. -/
theorem State.columnIssue_dramByte {s : State} {n a : Nat} {e : QEntry}
    (h : e.isWrite = true → a < e.dpa / 64 * 64 ∨ e.dpa / 64 * 64 + 64 ≤ a) :
    dramByte (s.columnIssue n e).dram a = dramByte s.dram a := by
  by_cases hw : e.isWrite = true
  · cases hd : e.write with
    | none => rw [State.columnIssue_dram_of_no_data fun _ => hd]
    | some d =>
      rw [State.columnIssue_dram_of_write hw hd, State.writeLine_dram]
      split <;> exact dramByte_store_other _ _ _ _ _ (h hw)
  · rw [State.columnIssue_dram_of_no_data fun h => absurd h hw]

/-- What a DFI clock leaves in DRAM is what the column slot's winner leaves there. -/
theorem State.commandIssue_dram {s : State} {n : Nat} {i : IssueIn} (h : s.get (Reg.SC_STATUS_STATE n) < 2) :
    (s.commandIssue n i).dram =
      (((s.judgeMode n).columnWinner n i).map fun e => ((s.judgeMode n).columnIssue n e).dram).getD s.dram := by
  unfold State.commandIssue
  rw [if_neg (by omega)]
  dsimp only
  cases (s.judgeMode n).columnWinner n i <;> cases (s.judgeMode n).rowWinner n i <;>
    simp only [State.rowIssue_dram, State.judgeMode_dram, Option.map_some, Option.map_none, Option.getD_some, Option.getD_none]

/-! ## Reads that come back (R260) -/

theorem State.egressOrder_single (s : State) (x : ScIx × ReadBack) : s.egressOrder [x] = [x] := rfl

/-- The oldest read of a sub-channel, decoded without error, leaves and is answered. -/
theorem State.readBack_of_good {s : State} {n h : Nat} {b : ReadBack} {f : InFlight} {rest : List InFlight}
    (oldest : (s.sc n).inFlight = f :: rest) (host : f.entry.head = some h)
    (good : decodeLine (s.erasedDevice n f.entry.loc.rank) f.poison b = .good) :
    s.readBack n b = (s.modSc n fun x => { x with inFlight := x.inFlight.tail }).sendDrs h f.entry.ld f.entry.tag f.data false := by
  have same : (s.modSc n fun x => { x with inFlight := x.inFlight.tail }).erasedDevice n f.entry.loc.rank =
      s.erasedDevice n f.entry.loc.rank := rfl
  simp only [State.readBack, oldest, State.readData, same, good, State.readDecoded, State.answerRead, host]

/-- Settles O23, by the rules of each command above. -/
theorem subChannelQueuesServeRequests : Obligations.SubChannelQueuesServeRequests := by
  unfold Obligations.SubChannelQueuesServeRequests
  refine ⟨?_, ?_, ?_, ?_, ?_⟩
  · intro sc s pos h r e granted asks
    have step : s.begin.queueEntry sc = s.begin.enterHead sc h r e := State.queueEntry_of_grant_head granted asks
    refine ⟨_, rfl, ?_⟩
    rw [step]
    exact ⟨State.enterHead_entries _ _ _ _ _, State.enterHead_leaves_head _ _ _ _ _⟩
  · intro sc i s run
    have runs : (s.begin.atCycle i.cyc).get (Reg.SC_STATUS_STATE sc) < 2 := run
    have before : ((s.begin.atCycle i.cyc).judgeMode sc).dram = s.dram := State.judgeMode_dram _ _
    refine ⟨_, rfl, fun e d wins hw hd plain => ?_, fun a outside => ?_⟩
    · rw [State.commandIssue_dram runs, wins, Option.map_some, Option.getD_some, State.columnIssue_dram_of_write hw hd,
        State.writeLine_dram, plain, if_neg Bool.false_ne_true, before]
    · rw [State.commandIssue_dram runs]
      cases wins : ((s.begin.atCycle i.cyc).judgeMode sc).columnWinner sc i with
      | none => rfl
      | some e =>
        rw [Option.map_some, Option.getD_some, State.columnIssue_dramByte (outside e wins), before]
  · intro sc b s f rest h oldest host good
    refine ⟨_, rfl, ?_⟩
    rw [State.egressOrder_single, List.foldl_cons, List.foldl_nil, State.readBack_of_good (s := s.begin) oldest host good]
    refine ⟨rfl, ?_, rfl⟩
    rw [State.sendDrs, State.emit_sc, State.modSc_same]
    exact congrArg List.tail oldest
  · intro sc bank s b open_ hint hit idle
    have due : (!b.hintOpen && !s.rowHit sc bank b.row && decide (s.get (Reg.SC_PAGE_IDLE_DFI_CLOCKS sc) * 1000 ≤
        (s.now - b.lastCol) * dfiMhz (s.get (Reg.SC_STATUS_OP sc)))) = true := by simp [hint, hit, idle]
    show ∃ t, execPageIdleClose sc bank s = .next t ∧ _
    simp only [execPageIdleClose, open_]
    refine yields_occurs due ⟨?_, rfl⟩
    simp [State.bank, State.setBank]
  · intro sc rank bank s small present awake state due
    show ∃ t, execRefreshDue sc rank bank s = .next t ∧ _
    unfold execRefreshDue
    refine yields_occurs ?_ ⟨?_, ?_⟩
    · simp [small, present, awake, state, due]
    · rw [State.modSc_same, sparseGet_upd_same]
      rfl
    · rfl

end Sys2Proof.Machine

/-!
PROOF. What shared operations leave as it was, by projection: registers by offset, and the parts that a save, a start and a
power-down read back. Each lemma names the registers that its operation writes.
-/

namespace Sys2Proof.Machine

/-! ## Folds -/

/-- What each step of a fold keeps, the fold keeps. -/
theorem State.each_proj {α β : Type} (g : State → β) {l : List α} {f : State → α → State} (h : ∀ s, ∀ a ∈ l, g (f s a) = g s)
    (s : State) : g (s.each l f) = g s := by
  unfold State.each
  induction l generalizing s with
  | nil => rfl
  | cons a l ih =>
    rw [List.foldl_cons, ih fun s b hb => h s b (List.mem_cons_of_mem a hb), h s a List.mem_cons_self]

/-! ## Registers by offset -/

theorem State.rd_put64_other (s : State) {lo hi x : Nat} (v : Nat) (h1 : x ≠ lo) (h2 : x ≠ hi) : (s.put64 lo hi v).rd x = s.rd x := by
  rw [State.put64, State.rd_wr_other _ _ h2, State.rd_wr_other _ _ h1]

theorem State.rd_putB_other (s : State) (f : Fld) (b : Bool) {x : Nat} (h : x ≠ f.off) : (s.putB f b).rd x = s.rd x :=
  State.rd_put_other s f _ h

theorem State.rd_putSat_other (s : State) (f : Fld) (v : Nat) {x : Nat} (h : x ≠ f.off) : (s.putSat f v).rd x = s.rd x :=
  State.rd_put_other s f _ h

theorem State.get_of_rd {s t : State} {f : Fld} (h : t.rd f.off = s.rd f.off) : t.get f = s.get f := congrArg f.of h

theorem State.flag_of_rd {s t : State} {f : Fld} (h : t.rd f.off = s.rd f.off) : t.flag f = s.flag f := by
  unfold State.flag
  rw [State.get_of_rd h]

theorem State.rd_event (s : State) (src kind sev : Nat) {x : Nat} (h1 : x ≠ 0x023000 + 0x4 * src) (h2 : x ≠ 0x020050) :
    (s.event src kind sev).rd x = s.rd x := State.rd_raise _ _ _ h1 h2

/-- A judged bit of the single-fault status writes EVT_SFG_STATUS. -/
theorem State.rd_sfg (s : State) {f : Fld} (b : Bool) {x : Nat} (hf : f.off = 0x020070) (h : x ≠ 0x020070) :
    (s.sfg f b).rd x = s.rd x := by
  rw [State.sfg, State.judgeSfg, State.rd_putB_other _ _ _ h, State.rd_putB_other _ _ _ (hf ▸ h)]

theorem State.rd_setPower (s : State) (p : Power) {x : Nat} (h : x ≠ 0x060000) : (s.setPower p).rd x = s.rd x := by
  unfold State.setPower
  dsimp only
  split
  · rw [State.rd_put_other _ _ _ h, State.modSeq_rd]
  · rw [State.modSeq_rd]

theorem State.rd_arm (s : State) (b : Bool) {x : Nat} (h1 : x ≠ 0x060000) (h2 : x ≠ 0x020070) : (s.arm b).rd x = s.rd x := by
  rw [State.arm, State.rd_sfg _ _ rfl h2, State.rd_putB_other _ _ _ h1]

theorem State.rd_judgeGf (s : State) {x : Nat} (h : x ≠ 0x060000) : s.judgeGf.rd x = s.rd x := by
  rw [State.judgeGf, State.rd_putB_other _ _ _ h, State.modPins_rd]

/-! ## Registers below the sub-channel, rail and sequencer blocks -/

theorem State.rd_holdRefresh (s : State) (n : Nat) {x : Nat} (h : x < 0x200000) : (s.holdRefresh n).rd x = s.rd x := by
  have other : x ≠ scBase n + 0x0 := by
    unfold scBase qdBase
    omega
  rw [State.holdRefresh, State.modSc_rd, State.rd_put_other _ _ _ other, State.rd_put_other _ _ _ other]

theorem State.rd_holdDram (s : State) {x : Nat} (h : x < 0x200000) : s.holdDram.rd x = s.rd x := by
  refine State.each_proj (State.rd · x) (fun s n _ => ?_) s
  split
  · exact s.rd_holdRefresh n h
  · rfl

theorem State.rd_railOff (s : State) (k : Nat) {x : Nat} (h : x < 0x061000) : (s.railOff k).rd x = s.rd x := by
  have other : x ≠ railBase k + 0x10 := by
    unfold railBase
    omega
  rw [State.railOff, State.rd_put_other _ _ _ other, State.modRail_rd]

/-- A power-down writes sub-channel, rail and sequencer status and the single-fault status (R428). -/
theorem State.rd_beginPowerDown (s : State) (why : LastDown) {x : Nat} (h1 : x < 0x060000) (h2 : x ≠ 0x020070) :
    (s.beginPowerDown why).rd x = s.rd x := by
  have seq : x ≠ 0x060000 := by omega
  unfold State.beginPowerDown
  split
  · rfl
  · rw [State.each_proj (State.rd · x) fun s k _ => s.rd_railOff k (by omega)]
    rw [State.rd_arm _ _ seq h2, State.rd_putB_other _ _ _ seq, State.modSeq_rd,
      State.each_proj (State.rd · x) fun s k _ => State.modRail_rd s k _ x, State.rd_put_other _ _ _ seq,
      State.rd_putB_other _ _ _ seq, State.modSeq_rd, State.modPins_rd, State.rd_setPower _ _ seq, State.modImage_rd,
      State.rd_holdDram _ (by omega)]

/-- A power-down closes an open run and leaves the rest of the image as it was (R428). -/
theorem State.beginPowerDown_image (s : State) (why : LastDown) :
    (s.beginPowerDown why).image = s.image ∨ (s.beginPowerDown why).image = { s.image with runOpen := false } := by
  unfold State.beginPowerDown
  split
  · exact .inl rfl
  · refine .inr ?_
    rw [State.each_proj State.image fun s k _ => image_of_outside (State.railOff_outside s k 131073 (by decide)) (by decide)]
    rw [image_of_outside (State.arm_outside _ false 1 (by decide)) (by decide), State.putB_image, State.modSeq_image,
      State.each_proj State.image fun s k _ => State.modRail_image s k _, State.put_image, State.putB_image, State.modSeq_image,
      State.modPins_image, image_of_outside (State.setPower_outside _ .powerDown 262145 (by decide)) (by decide),
      State.modImage_same, image_of_outside (State.holdDram_outside _ 1025 (by decide)) (by decide)]

theorem State.beginPowerDown_seals (s : State) (why : LastDown) : (s.beginPowerDown why).image.seals = s.image.seals := by
  rcases s.beginPowerDown_image why with h | h <;> rw [h]

theorem State.beginPowerDown_writing (s : State) (why : LastDown) : (s.beginPowerDown why).image.writing = s.image.writing := by
  rcases s.beginPowerDown_image why with h | h <;> rw [h]

theorem State.beginPowerDown_genOpen (s : State) (why : LastDown) : (s.beginPowerDown why).image.genOpen = s.image.genOpen := by
  rcases s.beginPowerDown_image why with h | h <;> rw [h]

theorem State.beginPowerDown_runOpen {s : State} (why : LastDown) (h : s.image.runOpen = false) :
    (s.beginPowerDown why).image.runOpen = false := by
  rcases s.beginPowerDown_image why with hi | hi <;> rw [hi]
  exact h

theorem State.beginPowerDown_events (s : State) (why : LastDown) : (s.beginPowerDown why).events = s.events :=
  events_of_outside (State.beginPowerDown_outside s why 918785 (by decide)) (by decide)

end Sys2Proof.Machine

/-!
PROOF. A save from its commit's arrival to its seal (05_save R120 to R139): the walk that hands patches to dies keeps what the
save's commands show, and the read-back of the seal's copies ends the save.
-/

namespace Sys2Proof.Machine

/-! ## What handing work to dies leaves of a save's marks (R126, R130, R131, R164) -/

/-- A save's phase, whether it writes, and each quadrant's mark of writing with the lines that its reads find uncorrectable. -/
def State.saveMarks (s : State) : Nat × Bool × (Nat → Bool × List Nat) :=
  (s.get Reg.SAVE_STATUS_PHASE, s.save.writing, fun q => ((s.quad q).saveOn, (s.quad q).saveBad))

/-- Outside registers, quadrants and the save's own record nothing touches the marks. -/
theorem State.saveMarks_of_outside {s t : State} {m : Nat} (h : t.outside m = s.outside m) (hr : m.testBit 0 = false)
    (hq : m.testBit 9 = false) (hs : m.testBit 21 = false) : t.saveMarks = s.saveMarks := by
  unfold State.saveMarks State.quad
  rw [State.get_congr (regs_of_outside h hr), save_of_outside h hs, quads_of_outside h hq]

@[simp] theorem State.begin_saveMarks (s : State) : s.begin.saveMarks = s.saveMarks := rfl

@[simp] theorem State.modQuad_saveMarks (s : State) (q : Nat) {f : Quad → Quad} (h1 : ∀ d, (f d).saveOn = d.saveOn)
    (h2 : ∀ d, (f d).saveBad = d.saveBad) : (s.modQuad q f).saveMarks = s.saveMarks := by
  have marks : (fun k => (((s.modQuad q f).quad k).saveOn, ((s.modQuad q f).quad k).saveBad)) =
      fun k => ((s.quad k).saveOn, (s.quad k).saveBad) := by
    funext k
    by_cases hk : k = q
    · rw [hk, State.modQuad_same, h1, h2]
    · rw [State.modQuad_other _ _ _ hk]
  exact congrArg (fun m => (s.get Reg.SAVE_STATUS_PHASE, s.save.writing, m)) marks

/-- A register other than SAVE_STATUS holds no mark. -/
theorem State.put_saveMarks (s : State) {f : Fld} (v : Nat) (h : f.off ≠ 0x030408) : (s.put f v).saveMarks = s.saveMarks := by
  have phase : (s.put f v).get Reg.SAVE_STATUS_PHASE = s.get Reg.SAVE_STATUS_PHASE :=
    State.get_of_rd (State.rd_put_other _ _ _ (Ne.symm h))
  exact congrArg (fun n => (n, s.save.writing, fun q => ((s.quad q).saveOn, (s.quad q).saveBad))) phase

theorem State.eventAt_saveMarks (s : State) {src : Nat} (kind sev req acc space addr : Nat) (h : src < 2048) :
    (s.eventAt src kind sev req acc space addr).saveMarks = s.saveMarks := by
  unfold State.saveMarks
  rw [State.get_eventAt _ _ _ _ _ _ _ _ _ (show 0x030408 ≠ _ by omega) (by decide)]
  simp

theorem State.each_saveMarks {α : Type} (s : State) {l : List α} {f : State → α → State}
    (h : ∀ s a, (f s a).saveMarks = s.saveMarks) : (s.each l f).saveMarks = s.saveMarks :=
  State.each_proj State.saveMarks (fun s a _ => h s a) s

/-! ### Die queues, ledger units and relocations -/

@[simp] theorem State.pushOp_saveMarks (s : State) (n : Nat) (o : DieOp) : (s.pushOp n o).saveMarks = s.saveMarks := rfl

@[simp] theorem State.pushLedgerUnit_saveMarks (s : State) (q : Nat) (b : UnitBody) :
    (s.pushLedgerUnit q b).saveMarks = s.saveMarks := by
  unfold State.pushLedgerUnit
  split
  · simp
  · simp

@[simp] theorem State.ledgerGo_saveMarks (s : State) (q : Nat) : (s.ledgerGo q).saveMarks = s.saveMarks := by
  rw [State.ledgerGo, State.each_saveMarks _ fun s b => s.pushLedgerUnit_saveMarks q b]
  simp

@[simp] theorem State.startReloc_saveMarks (s : State) (die unit : Nat) (same : Bool) (order : Nat) :
    (s.startReloc die unit same order).saveMarks = s.saveMarks := by
  unfold State.startReloc State.holdReloc
  dsimp only
  repeat' split
  all_goals simp

@[simp] theorem State.relocGo_saveMarks (s : State) (q : Nat) : (s.relocGo q).saveMarks = s.saveMarks := by
  rw [State.relocGo, State.each_saveMarks]
  · simp
  · intro s x
    split
    · exact State.startReloc_saveMarks _ _ _ _ _
    · rfl

/-! ### Fills -/

@[simp] theorem State.pushFillRead_saveMarks (s : State) (p order : Nat) (why : ReadWhy) :
    (s.pushFillRead p order why).saveMarks = s.saveMarks := by
  unfold State.pushFillRead
  split
  · split <;> rfl
  · rfl

@[simp] theorem State.raiseRead_saveMarks (s : State) (p : Nat) : (s.raiseRead p).saveMarks = s.saveMarks := by
  unfold State.raiseRead
  split <;> rfl

@[simp] theorem State.modFill_saveMarks (s : State) (q p : Nat) (f : Fill → Fill) : (s.modFill q p f).saveMarks = s.saveMarks :=
  State.modQuad_saveMarks s q (fun _ => rfl) (fun _ => rfl)

@[simp] theorem State.takePlace_saveMarks (s : State) (q p : Nat) : (s.takePlace q p).saveMarks = s.saveMarks := by
  unfold State.takePlace
  split <;> simp

@[simp] theorem State.judgePlaces_saveMarks (s : State) : s.judgePlaces.saveMarks = s.saveMarks := by
  unfold State.judgePlaces State.putB
  rw [State.put_saveMarks _ _ (by decide), State.put_saveMarks _ _ (by decide)]
  exact State.saveMarks_of_outside (State.keepCredits_outside s 4096 (by decide)) (by decide) (by decide) (by decide)

@[simp] theorem State.askPlace_saveMarks (s : State) (q p n : Nat) : (s.askPlace q p n).saveMarks = s.saveMarks := by
  unfold State.askPlace
  split
  · exact State.takePlace_saveMarks _ _ _
  · exact (State.judgePlaces_saveMarks _).trans (State.put_saveMarks _ _ (by decide))

@[simp] theorem State.startFill_saveMarks (s : State) (q p : Nat) (cls : FillCls) : (s.startFill q p cls).saveMarks = s.saveMarks := by
  have listed : ∀ f : Fill, (s.modQuad q fun d => { d with fills := d.fills ++ [f] }).saveMarks = s.saveMarks :=
    fun f => by simp
  unfold State.startFill
  dsimp only
  split <;> simp [listed]

/-! ### The walk -/

@[simp] theorem State.patchSkimming_saveMarks (s : State) (p : Nat) : (s.patchSkimming p).saveMarks = s.saveMarks := rfl

@[simp] theorem State.invoke_saveMarks (s : State) (slot : Nat) : (s.invoke slot).saveMarks = s.saveMarks := rfl

@[simp] theorem State.modSc_saveMarks (s : State) (n : Nat) (f : Sc → Sc) : (s.modSc n f).saveMarks = s.saveMarks := rfl
@[simp] theorem State.modFabric_saveMarks (s : State) (f : Fabric → Fabric) : (s.modFabric f).saveMarks = s.saveMarks := rfl

theorem State.askPort_saveMarks (s : State) (pos : Nat) (e : QEntry) : (s.askPort pos e).saveMarks = s.saveMarks := by
  rw [State.askPort, State.modFabric_saveMarks, State.modSc_saveMarks]

@[simp] theorem State.askRows_saveMarks (s : State) (p origin target : Nat) (wr save : Bool) :
    (s.askRows p origin target wr save).saveMarks = s.saveMarks := by
  rw [State.askRows, State.each_saveMarks]
  exact fun s a => s.askPort_saveMarks _ _

@[simp] theorem State.takeNonce_saveMarks (s : State) (q : Nat) : (s.takeNonce q).2.saveMarks = s.saveMarks := by
  have other : (Reg.CIPH_QCOUNT_COUNT q).off ≠ 0x030408 := by
    simp only [Reg.CIPH_QCOUNT_COUNT, qdBase]
    omega
  rw [State.takeNonce, State.put_saveMarks _ _ other]
  simp

@[simp] theorem State.startVersion_saveMarks (s : State) (q p n order : Nat) (bySave : Bool) (content : List Host.Cell)
    (poison : BitVec 1024) : (s.startVersion q p n order bySave content poison).saveMarks = s.saveMarks := by
  unfold State.startVersion
  split
  · rfl
  · split
    · rfl
    · rcases nonce : s.takeNonce q with ⟨ctr, t⟩
      have taken : t.saveMarks = s.saveMarks := by simpa only [nonce] using s.takeNonce_saveMarks q
      dsimp only
      rw [State.pushOp_saveMarks, State.askRows_saveMarks, State.encrypts]
      simp only [State.modQuad_saveMarks, implies_true, State.patchSkimming_saveMarks, State.invoke_saveMarks]
      exact taken

@[simp] theorem State.saveWrite_saveMarks (s : State) (q p k n : Nat) (content : List Host.Cell) (poison : BitVec 1024) :
    (s.saveWrite q p k n content poison).saveMarks = s.saveMarks := by
  simp [State.saveWrite]

theorem xor_lt_four {a b : Nat} (ha : a < 4) (hb : b < 4) : a ^^^ b < 4 := Nat.xor_lt_two_pow (n := 2) ha hb

theorem quadOf_lt (p : Nat) : quadOf p < 4 :=
  xor_lt_four (xor_lt_four (Nat.mod_lt _ (by decide)) (Nat.mod_lt _ (by decide))) (Nat.mod_lt _ (by decide))

/-- A line lies in one of the 16 sub-channels, in one of its 8 ranks (R10, R216). -/
theorem State.locOf_lt (s : State) (dpa : Nat) : (s.locOf dpa).sc < 16 ∧ (s.locOf dpa).rank < 8 := by
  have hq := quadOf_lt (patchOf dpa)
  have hj : jOfLocal (localAddr (lineOf dpa)) < 4 := xor_lt_four (Nat.mod_lt _ (by decide)) (Nat.mod_lt _ (by decide))
  refine ⟨?_, ?_⟩
  · show 4 * quadOf (patchOf dpa) + jOfLocal (localAddr (lineOf dpa)) < 16
    omega
  · show (s.rankAt _ _).getD 0 < 8
    cases hr : s.rankAt (4 * quadOf (patchOf dpa) + jOfLocal (localAddr (lineOf dpa))) (scAddr (localAddr (lineOf dpa))) with
    | none => decide
    | some r => exact List.mem_range.mp (List.mem_of_find?_eq_some hr)

@[simp] theorem State.ueEvent_saveMarks (s : State) (dpa : Nat) (addrErr : Bool) (sev who acc : Nat) :
    (s.ueEvent dpa addrErr sev who acc).saveMarks = s.saveMarks := by
  obtain ⟨hsc, hrank⟩ := s.locOf_lt dpa
  refine State.eventAt_saveMarks _ _ _ _ _ _ _ ?_
  unfold srcSc
  omega

@[simp] theorem State.badLines_saveMarks (s : State) (p : Nat) (lines : List Nat) (who : Nat) :
    (s.badLines p lines who).saveMarks = s.saveMarks := State.each_saveMarks _ fun _ _ => State.ueEvent_saveMarks _ _ _ _ _ _

@[simp] theorem State.saveOver_saveMarks (s : State) (q p k n : Nat) (mask : BitVec 1024) (content : List Host.Cell)
    (poison : BitVec 1024) : (s.saveOver q p k n mask content poison).saveMarks = s.saveMarks := by
  rw [State.saveOver, State.saveWrite_saveMarks, State.badLines_saveMarks]

theorem State.saveOverLost_saveMarks (s : State) {q : Nat} (p k n : Nat) (mask : BitVec 1024) (hq : q < 4) :
    (s.saveOverLost q p k n mask).saveMarks = s.saveMarks := by
  rw [State.saveOverLost, State.saveOver_saveMarks, State.eventAt_saveMarks]
  unfold srcPers
  omega

theorem State.saveMerge_saveMarks (s : State) {q : Nat} (f : Fill) (k n : Nat) (hq : q < 4) :
    (s.saveMerge q f k n).saveMarks = s.saveMarks := by
  have dropped : (s.modQuad q fun d => { d with fills := d.fills.filter fun x => decide (x.patch ≠ f.patch) }).saveMarks = s.saveMarks :=
    by simp
  unfold State.saveMerge
  dsimp only
  split
  · rw [State.saveOver_saveMarks, dropped]
  · rw [State.saveOverLost_saveMarks _ _ _ _ _ hq, dropped]

theorem State.savePlain_saveMarks (s : State) {q : Nat} (p k n : Nat) (hq : q < 4) :
    (s.savePlain q p k n).saveMarks = s.saveMarks := by
  unfold State.savePlain
  dsimp only
  split
  · rw [State.saveWrite_saveMarks, State.badLines_saveMarks]
  · split
    · exact State.saveOverLost_saveMarks _ _ _ _ _ hq
    · exact State.saveOver_saveMarks _ _ _ _ _ _ _ _

@[simp] theorem State.markRevoked_saveMarks (s : State) (p : Nat) : (s.markRevoked p).saveMarks = s.saveMarks := by
  rw [State.markRevoked, State.ledgerSet, State.modQuad_saveMarks _ _ (by exact fun _ => rfl) (by exact fun _ => rfl)]
  rfl

/-- A patch left unwritten sets INCOMPLETE, which shares its register with PHASE. -/
@[simp] theorem State.leavePatch_saveMarks (s : State) (q p : Nat) : (s.leavePatch q p).saveMarks = s.saveMarks := by
  have phase : (s.putB Reg.SAVE_STATUS_INCOMPLETE true).get Reg.SAVE_STATUS_PHASE = s.get Reg.SAVE_STATUS_PHASE :=
    State.get_putB_other _ _ _ _ (by decide) (by decide)
  simp only [State.leavePatch, State.modQuad_saveMarks, implies_true]
  exact congrArg (fun n => (n, s.save.writing, fun q => ((s.quad q).saveOn, (s.quad q).saveBad))) phase

theorem State.saveOne_saveMarks {s t : State} {q : Nat} (hq : q < 4) (h : s.saveOne q = some t) : t.saveMarks = s.saveMarks := by
  have moved : ∀ n, (s.modQuad q fun d => { d with saveNext := n }).saveMarks = s.saveMarks :=
    fun n => by simp
  have counted : ∀ u : State, (u.modSave fun x => { x with patches := x.patches + 1 }).saveMarks = u.saveMarks := fun _ => rfl
  unfold State.saveOne at h
  dsimp only at h
  split at h
  · cases h
    exact State.saveMerge_saveMarks _ _ _ _ hq
  · split at h
    · cases h
    · repeat' split at h
      all_goals cases h
      · rw [counted, State.markRevoked_saveMarks, moved]
      · rw [State.leavePatch_saveMarks, moved]
      · rw [State.leavePatch_saveMarks, State.eventAt_saveMarks _ _ _ _ _ _ _ (by decide), moved]
      · rw [State.startFill_saveMarks, moved]
      · rw [State.savePlain_saveMarks _ _ _ _ hq, moved]

theorem State.saveFillFor_saveMarks (s : State) {q : Nat} (hq : q < 4) (fuel : Nat) : (s.saveFillFor q fuel).saveMarks = s.saveMarks := by
  induction fuel generalizing s with
  | zero => rfl
  | succ fuel ih =>
    unfold State.saveFillFor
    split
    · rfl
    · next t one => rw [ih, State.saveOne_saveMarks hq one]

theorem State.saveFill_saveMarks (s : State) {q : Nat} (hq : q < 4) : (s.saveFill q).saveMarks = s.saveMarks := by
  unfold State.saveFill
  split
  · exact s.saveFillFor_saveMarks hq _
  · rfl

/-! ### The dispatch of the cipher pairs -/

@[simp] theorem State.cipherGrant_saveMarks (s : State) (q : Nat) : (s.cipherGrant q).saveMarks = s.saveMarks := by
  unfold State.cipherGrant
  dsimp only
  repeat' split
  all_goals simp

@[simp] theorem State.cipherGo_saveMarks (s : State) (q : Nat) : (s.cipherGo q).saveMarks = s.saveMarks := by
  rw [State.cipherGo, State.each_saveMarks _ fun s _ => s.cipherGrant_saveMarks q]
  simp [State.cipherSync]

/-- Whatever a quadrant's engine hands out, the save's marks stay. -/
theorem State.flashGo_saveMarks (s : State) {q : Nat} (hq : q < 4) : (s.flashGo q).saveMarks = s.saveMarks := by
  rw [State.flashGo, State.cipherGo_saveMarks, State.saveFill_saveMarks _ hq, State.relocGo_saveMarks, State.ledgerGo_saveMarks]

/-! ## Read-back of the seal's copies (R138, R139, R195) -/

theorem State.setStage_image (s : State) (k : Nat) (c : CopyStage) :
    (s.setStage k c).image = { s.image with
      writing := s.image.writing.map fun w => if k = 0 then { w with copy0 := c } else { w with copy1 := c } } := rfl

theorem State.copyPending_congr {s t : State} (h : t.dies = s.dies) (r : Record) (k : Nat) : t.copyPending r k = s.copyPending r k := by
  unfold State.copyPending State.die
  rw [h]

theorem State.copyProgrammed_congr {s t : State} (h : t.image.records = s.image.records) (r : Record) (k chan : Nat) :
    t.copyProgrammed r k chan = s.copyProgrammed r k chan := by
  unfold State.copyProgrammed State.recordsOn
  rw [h]

/-- A copy that is programmed and reads back is valid. -/
theorem State.judgeCopy_valid {s : State} {w : RecWrite} {k : Nat} (ended : s.copyPending w.record k = false)
    (first : w.stage k = .first) (programmed : s.copyProgrammed w.record k (copyChan w.record.seq k) = true) :
    s.judgeCopy w k true = s.setStage k .valid := by
  simp [State.judgeCopy, ended, first, programmed]

/-- A copy whose retry does not read back has failed. -/
theorem State.judgeCopy_failed {s : State} {w : RecWrite} {k : Nat} (ended : s.copyPending w.record k = false)
    (retry : w.stage k = .retry) :
    s.judgeCopy w k false = ((s.spoilCopy (retryChan (copyChan w.record.seq k)) w.record k).event
      (srcFc (retryChan (copyChan w.record.seq k)) 2) 2 Sev.corrected).setStage k .failed := by
  simp [State.judgeCopy, ended, retry]

theorem State.judgeCopy_failed_dies {s : State} {w : RecWrite} {k : Nat} (ended : s.copyPending w.record k = false)
    (retry : w.stage k = .retry) : (s.judgeCopy w k false).dies = s.dies := by
  rw [State.judgeCopy_failed ended retry, State.setStage, State.modImage_dies, State.event_dies]
  exact dies_of_outside (State.spoilCopy_outside _ _ _ _ 256 (by decide)) (by decide)

/-- A failed copy changes what stands on flash and the seal's course, not the seals. -/
theorem State.judgeCopy_failed_image {s : State} {w : RecWrite} {k : Nat} (ended : s.copyPending w.record k = false)
    (retry : w.stage k = .retry) :
    (s.judgeCopy w k false).image.seals = s.image.seals ∧ (s.judgeCopy w k false).image.writing =
      s.image.writing.map fun w => if k = 0 then { w with copy0 := .failed } else { w with copy1 := .failed } := by
  rw [State.judgeCopy_failed ended retry, State.setStage_image, State.event_image]
  exact ⟨rfl, rfl⟩

/-- Both copies read back: the save is sealed with both. -/
theorem State.sealReadback_of_valid {s : State} {w : RecWrite} (writing : s.image.writing = some w) (first0 : w.copy0 = .first)
    (first1 : w.copy1 = .first) (ended0 : s.copyPending w.record 0 = false) (ended1 : s.copyPending w.record 1 = false)
    (programmed0 : s.copyProgrammed w.record 0 (copyChan w.record.seq 0) = true)
    (programmed1 : s.copyProgrammed w.record 1 (copyChan w.record.seq 1) = true) :
    s.sealReadback w [true, true] = ((s.setStage 0 .valid).setStage 1 .valid).saveSealed w.record true := by
  have valid0 : s.judgeCopy w 0 true = s.setStage 0 .valid := State.judgeCopy_valid ended0 first0 programmed0
  have valid1 : (s.setStage 0 .valid).judgeCopy w 1 true = (s.setStage 0 .valid).setStage 1 .valid :=
    State.judgeCopy_valid ((State.copyPending_congr rfl _ _).trans ended1) first1
      ((State.copyProgrammed_congr rfl _ _ _).trans programmed1)
  have course : ((s.setStage 0 .valid).setStage 1 .valid).image.writing = some { w with copy0 := .valid, copy1 := .valid } := by
    simp [State.setStage_image, writing]
  unfold State.sealReadback
  simp only [List.getD_cons_zero, List.getD_cons_succ, valid0, valid1, course]

/-- Neither retry reads back: the save ends unsealed. -/
theorem State.sealReadback_of_failed {s : State} {w : RecWrite} (writing : s.image.writing = some w) (retry0 : w.copy0 = .retry)
    (retry1 : w.copy1 = .retry) (ended0 : s.copyPending w.record 0 = false) (ended1 : s.copyPending w.record 1 = false) :
    ∃ u : State, u.image.seals = s.image.seals ∧ s.sealReadback w [false, false] = u.endUnsealed := by
  have ended1' : (s.judgeCopy w 0 false).copyPending w.record 1 = false :=
    (State.copyPending_congr (State.judgeCopy_failed_dies ended0 retry0) _ _).trans ended1
  obtain ⟨seals0, writing0⟩ := State.judgeCopy_failed_image ended0 retry0
  obtain ⟨seals1, writing1⟩ := State.judgeCopy_failed_image ended1' retry1
  have course : ((s.judgeCopy w 0 false).judgeCopy w 1 false).image.writing =
      some { w with copy0 := .failed, copy1 := .failed } := by
    simp [writing1, writing0, writing]
  refine ⟨((s.judgeCopy w 0 false).judgeCopy w 1 false).putRecordSeq w.record.seq, ?_, ?_⟩
  · rw [State.putRecordSeq, State.put64_image, seals1, seals0]
  · unfold State.sealReadback
    simp only [List.getD_cons_zero, List.getD_cons_succ, course]

/-! ## A save that ends (R139) -/

/-- A save that ends unsealed shows PHASE 9, raises its message, drops the record and leaves the seals. -/
theorem State.endUnsealed_shows (s : State) :
    s.endUnsealed.get Reg.SAVE_STATUS_PHASE = 9 ∧ s.endUnsealed.pends (srcPers 0 1) = true ∧
      s.endUnsealed.image.writing = none ∧ s.endUnsealed.image.seals = s.image.seals := by
  unfold State.endUnsealed
  dsimp only
  refine ⟨?_, ?_, ?_⟩
  · rw [State.get_of_rd (State.rd_beginPowerDown _ _ (by decide) (by decide)), State.modSave_get, State.modImage_get,
      State.get_event _ _ _ _ _ (by decide) (by decide), State.get_put_same _ _ _ (by decide)]
    decide
  · rw [State.pends_congr (congrArg Events.pending (State.beginPowerDown_events _ _))]
    exact State.event_pends _ _ _ _
  · rw [State.beginPowerDown_writing, State.beginPowerDown_seals, State.modSave_image, State.modImage_same, State.event_image,
      State.put_image]
    exact ⟨rfl, rfl⟩

/-- What an interrupted erase leaves to the seal: registers outside the LD blocks, pins, and the image's seals and runs. -/
theorem State.rd_eraseStops (s : State) {x : Nat} (h : x < 0x080000) : s.eraseStops.rd x = s.rd x := by
  unfold State.eraseStops
  dsimp only
  rw [State.modImage_rd, State.modFabric_rd]
  rw [State.each_proj (State.rd · x), State.each_proj (State.rd · x) fun s k _ => State.modLd_rd s k _ x]
  intro s k _
  refine State.rd_putB_other _ _ _ ?_
  simp only [Reg.LD_STATUS_MEDIA_BUSY, Machine.ldBase]
  omega

theorem State.eraseStops_image (s : State) : s.eraseStops.image = { s.image with eraseBands := [] } := by
  unfold State.eraseStops
  dsimp only
  rw [State.modImage_same, State.modFabric_image, State.each_proj State.image fun s k _ => State.putB_image s _ _,
    State.each_proj State.image fun s k _ => State.modLd_image s k _]

/-- A seal without input is followed by a power-down, which shows what the seal has left (R140, Table 5.6). -/
theorem State.afterSeal_of_no_input {s : State} (input : s.inputPresent = false) :
    ∃ (u : State) (why : LastDown), s.afterSeal = u.beginPowerDown why ∧ u.image = s.image ∧ u.events = s.events ∧
      ∀ x, x < 0x060000 → u.rd x = s.rd x := by
  have toggle : (s.latchedToggle false).image = s.image ∧ (s.latchedToggle false).events = s.events ∧
      ∀ x, x < 0x060000 → (s.latchedToggle false).rd x = s.rd x := by
    have frame := State.latchedToggle_outside s false 2359297 (by decide)
    refine ⟨image_of_outside frame (by decide), events_of_outside frame (by decide), fun x hx => ?_⟩
    unfold State.latchedToggle
    split
    · rfl
    · exact State.rd_putB_other _ _ _ (show x ≠ 0x060000 by omega)
  obtain ⟨image, events, regs⟩ := toggle
  unfold State.afterSeal
  simp only [input, Bool.false_and, Bool.false_eq_true, if_false, and_false]
  exact ⟨_, _, rfl, image, events, regs⟩

/-- The record of a complete save with both copies becomes the newest seal, and its message is raised. -/
def State.sealEntered (s : State) (r : Record) : State :=
  (((s.putRecordSeq r.seq).modSave fun x => { x with isSealed := true }).modImage fun i => { i with
    writing := none, seals := (r :: i.seals).take 2, genOpen := false, runOpen := false }).event (srcPers 0 1) 1 Sev.note

/-- The registers show the save that has been sealed, and the quadrants drop what only it needed. -/
def State.sealReported (s : State) (r : Record) (single : Bool) : State :=
  let f := (s.save.frame0.getD s.frame) * 1024
  let s := (s.putSat Reg.SAVE_LAST_DURATION_VALUE ((s.now - f) / 1000)).putSat Reg.SAVE_LAST_PATCHES_VALUE s.save.patches
  let s := s.putSat Reg.SAVE_LAST_ENERGY_VALUE (s.save.energy / 1000000000000).toNat
  let s := s.putLastShutdown r.cause true r.incomplete single r.time
  let s := ((s.putB Reg.PERS_STATUS_SAVE_ACTIVE false).put Reg.SAVE_STATUS_PHASE 8).put Reg.SAVE_TOKENS_ALLOT 0
  s.each (List.range 4) fun s q => s.modQuad q fun d => { d with merges := [], saveFails := [] }

theorem State.saveSealed_of_complete (s : State) {r : Record} (complete : r.incomplete = false) :
    s.saveSealed r true = ((s.sealEntered r).sealReported r false).eraseStops.judgeGf.afterSeal := by
  simp only [State.saveSealed, State.sealReported, State.sealEntered, complete, Bool.false_eq_true, if_false, if_true,
    Bool.not_true]

theorem State.sealEntered_image (s : State) (r : Record) : (s.sealEntered r).image = { s.image with
    writing := none, seals := (r :: s.image.seals).take 2, genOpen := false, runOpen := false } := by
  rw [State.sealEntered, State.event_image]
  rfl

theorem State.sealEntered_pins (s : State) (r : Record) : (s.sealEntered r).pins = s.pins := by
  rw [State.sealEntered, State.event_pins]
  rfl

theorem State.sealReported_image (s : State) (r : Record) (single : Bool) : (s.sealReported r single).image = s.image :=
  State.each_proj State.image (fun s q _ => State.modQuad_image s q _) _

theorem State.sealReported_events (s : State) (r : Record) (single : Bool) : (s.sealReported r single).events = s.events :=
  State.each_proj State.events (fun s q _ => State.modQuad_events s q _) _

theorem State.sealReported_pins (s : State) (r : Record) (single : Bool) : (s.sealReported r single).pins = s.pins :=
  State.each_proj State.pins (fun s q _ => State.modQuad_pins s q _) _

theorem State.inputPresent_congr {s t : State} (h : t.pins = s.pins) : t.inputPresent = s.inputPresent := by
  unfold State.inputPresent
  rw [h]

theorem State.judgeGf_inputPresent (s : State) : s.judgeGf.inputPresent = s.inputPresent := rfl

theorem State.sealReported_inactive (s : State) (r : Record) (single : Bool) :
    (s.sealReported r single).flag Reg.PERS_STATUS_SAVE_ACTIVE = false := by
  unfold State.sealReported
  dsimp only
  rw [State.each_proj (State.flag · Reg.PERS_STATUS_SAVE_ACTIVE) fun s q _ => State.modQuad_flag s q _ _,
    State.flag_put_other _ _ _ _ (by decide) (by decide), State.flag_put_other _ _ _ _ (by decide) (by decide),
    State.flag_putB_same _ _ _ (by decide) rfl]

/-- A save sealed with both copies, complete and without input: the record is the newest seal, the run and its generation are
closed, and no save is active (R139). -/
theorem State.saveSealed_shows {s : State} {r : Record} (complete : r.incomplete = false) (input : s.inputPresent = false) :
    (s.saveSealed r true).image.seals.head? = some r ∧ (s.saveSealed r true).image.runOpen = false ∧
      (s.saveSealed r true).image.genOpen = false ∧ (s.saveSealed r true).pends (srcPers 0 1) = true ∧
      (s.saveSealed r true).flag Reg.PERS_STATUS_SAVE_ACTIVE = false := by
  rw [State.saveSealed_of_complete s complete]
  generalize ht : State.judgeGf _ = t
  have image : t.image = { s.image with
      writing := none, seals := (r :: s.image.seals).take 2, genOpen := false, runOpen := false, eraseBands := [] } := by
    rw [← ht, image_of_outside (State.judgeGf_outside _ 524289 (by decide)) (by decide), State.eraseStops_image,
      State.sealReported_image, State.sealEntered_image]
  have events : t.events = (s.sealEntered r).events := by
    rw [← ht, events_of_outside (State.judgeGf_outside _ 524289 (by decide)) (by decide),
      events_of_outside (State.eraseStops_outside _ 24833 (by decide)) (by decide), State.sealReported_events]
  have none : t.inputPresent = false := by
    rw [← ht, State.judgeGf_inputPresent,
      State.inputPresent_congr (pins_of_outside (State.eraseStops_outside _ 24833 (by decide)) (by decide)),
      State.inputPresent_congr (State.sealReported_pins _ _ _), State.inputPresent_congr (State.sealEntered_pins _ _), input]
  have inactive : t.flag Reg.PERS_STATUS_SAVE_ACTIVE = false := by
    rw [← ht, State.flag_of_rd (State.rd_judgeGf _ (by decide)), State.flag_of_rd (State.rd_eraseStops _ (by decide)),
      State.sealReported_inactive]
  obtain ⟨u, why, after, uimage, uevents, uregs⟩ := State.afterSeal_of_no_input none
  rw [after]
  refine ⟨?_, State.beginPowerDown_runOpen _ ?_, ?_, ?_, ?_⟩
  · rw [State.beginPowerDown_seals, uimage, image]
    rfl
  · rw [uimage, image]
  · rw [State.beginPowerDown_genOpen, uimage, image]
  · rw [State.pends_congr (congrArg Events.pending ((State.beginPowerDown_events _ _).trans (uevents.trans events)))]
    exact State.event_pends _ _ _ _
  · rw [State.flag_of_rd (State.rd_beginPowerDown _ _ (by decide) (by decide)), State.flag_of_rd (uregs _ (by decide)), inactive]

/-! ## The commands of a save, to its seal (R120 to R138) -/

/-- One update of some quadrants, each taken once. -/
theorem State.each_modQuad_quad (s : State) (f : Quad → Quad) {l : List Nat} (once : l.Nodup) {k : Nat} (hk : k ∈ l) :
    (s.each l fun s q => s.modQuad q f).quad k = f (s.quad k) := by
  have others : ∀ (l : List Nat) (s : State), k ∉ l → (s.each l fun s q => s.modQuad q f).quad k = s.quad k :=
    fun l s h => State.each_proj (State.quad · k)
      (fun s q hq => State.modQuad_other s q f fun hkq => h (hkq ▸ hq)) s
  induction l generalizing s with
  | nil => exact absurd hk List.not_mem_nil
  | cons q l ih =>
    obtain ⟨hq, once⟩ := List.nodup_cons.mp once
    rw [State.each, List.foldl_cons]
    rcases List.mem_cons.mp hk with rfl | hk
    · exact (others l _ hq).trans (State.modQuad_same _ _ _)
    · refine (ih _ once hk).trans (congrArg f (State.modQuad_other _ _ _ ?_))
      exact fun hkq => hq (hkq ▸ hk)

/-- The frame in which the last quadrant is at the save's operating point is noted once (R125). -/
def State.opFrameNoted (s : State) (f : Nat) : State :=
  let all := (List.range 4).all fun k => s.atSaveOp k || (s.quad k).railLost
  if all ∧ s.save.opFrame.isNone then
    (s.putSat Reg.SAVE_LAST_PP_OP_FRAMES (s.frame - f)).modSave fun x => { x with opFrame := some s.frame }
  else s

theorem State.opFrameNoted_saveMarks (s : State) (f : Nat) : (s.opFrameNoted f).saveMarks = s.saveMarks := by
  unfold State.opFrameNoted
  dsimp only
  split
  · exact State.put_saveMarks _ _ (by decide)
  · rfl

theorem execSaveWriteStart_of_frame {s : State} {f : Nat} (q : QuadIx) (bad : List Nat) (frame : s.save.frame0 = some f) :
    execSaveWriteStart q bad s = occurs (s.save.ppFrame.isSome && !(s.quad q).saveOn && (s.atSaveOp q || (s.quad q).railLost)) s
      fun s =>
        let s := ((s.modQuad q fun d => { d with saveOn := true, saveBad := bad }).modSave fun x =>
          { x with writing := true }).opFrameNoted f
        (if s.get Reg.SAVE_STATUS_PHASE = 4 then s.put Reg.SAVE_STATUS_PHASE 5 else s).flashGo q := by
  simp only [execSaveWriteStart, frame]
  rfl

/-- PHASE set shows in the marks. -/
theorem State.put_phase_saveMarks (s : State) (n : Nat) :
    (s.put Reg.SAVE_STATUS_PHASE n).saveMarks = (n % 16, s.saveMarks.2) :=
  congrArg (·, s.saveMarks.2) (State.get_put_same s _ n (by decide))

/-- A quadrant whose writing starts: its mark and its bad lines stand, the save writes, and PHASE goes from 4 to 5 (R126). -/
theorem State.saveWriteStart_marks {s : State} {q : QuadIx} {f : Nat} (bad : List Nat) (frame : s.save.frame0 = some f)
    (point : s.save.ppFrame.isSome = true) (off : (s.quad q).saveOn = false)
    (op : s.atSaveOp q = true ∨ (s.quad q).railLost = true) (phase : s.get Reg.SAVE_STATUS_PHASE = 4) :
    ∃ t, exec (.saveWriteStart q bad) s = .next t ∧ ∃ marks, t.saveMarks = (5, true, marks) ∧ marks q = (true, bad) := by
  show ∃ t, execSaveWriteStart q bad s = .next t ∧ _
  rw [execSaveWriteStart_of_frame q bad frame]
  refine yields_occurs ?_ ?_
  · rcases op with h | h <;> simp [point, off, h]
  · dsimp only
    generalize hu : State.modSave (State.modQuad s.begin q _) _ = u
    have marks : u.saveMarks = (4, true, fun k => ((u.quad k).saveOn, (u.quad k).saveBad)) := by
      rw [← hu]
      exact congrArg (·, _) phase
    have four : (u.opFrameNoted f).get Reg.SAVE_STATUS_PHASE = 4 := congrArg Prod.fst ((u.opFrameNoted_saveMarks f).trans marks)
    rw [if_pos four, State.flashGo_saveMarks _ q.isLt, State.put_phase_saveMarks, State.opFrameNoted_saveMarks, marks]
    refine ⟨_, rfl, ?_⟩
    rw [← hu, State.modSave_quad, State.modQuad_same]

/-- Both PHYs are off and both links down (R122). -/
theorem State.fabricOff_heads (s : State) (f : Head → Head) (off : ∀ x, (f x).phyOn = false) (h : HeadIx) :
    ((s.each [0, 1] fun s h => (s.modHead h f).putB (Reg.FAB_STATUS_LINK_UP h) false).head h).phyOn = false ∧
      (s.each [0, 1] fun s h => (s.modHead h f).putB (Reg.FAB_STATUS_LINK_UP h) false).flag (Reg.FAB_STATUS_LINK_UP h) = false := by
  simp only [State.each, List.foldl_cons, List.foldl_nil]
  match h with
  | 0 =>
    refine ⟨?_, ?_⟩
    · rw [State.putB_head, State.modHead_other _ _ _ (by decide), State.putB_head]
      exact (congrArg Head.phyOn (State.modHead_same _ _ _)).trans (off _)
    · rw [State.flag_putB_other _ _ _ _ (by decide) (by decide), State.modHead_flag]
      exact State.flag_putB_same _ _ _ (by decide) rfl
  | 1 =>
    refine ⟨?_, State.flag_putB_same _ _ _ (by decide) rfl⟩
    rw [State.putB_head]
    exact (congrArg Head.phyOn (State.modHead_same _ _ _)).trans (off _)

/-- Handing a record's copies to their dies leaves the registers and the image (R138). -/
theorem State.recordHanded_frame (s : State) (r : Record) :
    (((s.pushRecord r 0 (copyChan r.seq 0)).pushRecord r 1 (copyChan r.seq 1)).invoke 0).outside 34816 = s.outside 34816 := by
  rw [State.invoke_outside _ _ _ (by decide), State.pushRecord_outside _ _ _ _ _ (by decide),
    State.pushRecord_outside _ _ _ _ _ (by decide)]

/-- Settles O34: each command by what its update writes; the read-backs by `State.sealReadback_of_valid` and
`State.sealReadback_of_failed`. -/
theorem aSaveRunsToItsSeal : Obligations.ASaveRunsToItsSeal := by
  unfold Obligations.ASaveRunsToItsSeal
  refine ⟨?_, ?_, ?_, ?_, ?_, ?_, ?_, ?_, ?_⟩
  · intro s committed arrived frame
    show ∃ t, execSaveCommitArrive s = .next t ∧ _
    unfold execSaveCommitArrive
    refine yields_occurs (by simp [State.commitDue, committed, arrived, frame]) ?_
    dsimp only
    refine ⟨?_, ?_, rfl, fun q => ?_⟩
    · rw [State.modSave_get, State.get_put_other _ _ _ _ (by decide) (by decide), State.get_put_same _ _ _ (by decide)]
      rfl
    · rw [State.modSave_get, State.get_put_same _ _ _ (by decide)]
      rfl
    · rw [State.modSave_quad, State.put_quad, State.put_quad,
        State.each_modQuad_quad _ _ List.nodup_range (List.mem_range.mpr q.isLt)]
      exact ⟨rfl, rfl, rfl⟩
  · intro q s arrived drained
    show ∃ t, execQuadrantWriteDrained q s = .next t ∧ _
    unfold execQuadrantWriteDrained
    refine yields_occurs (by simp [arrived, drained]) ⟨?_, rfl⟩
    rw [State.modQuad_same]
  · intro s f frame arrived point drained
    show ∃ t, execPersistencePoint s = .next t ∧ _
    simp only [execPersistencePoint, frame]
    have all : ((List.range 4).all fun q => (s.quad q).saveDrained) = true :=
      List.all_eq_true.mpr fun q hq => drained ⟨q, List.mem_range.mp hq⟩
    refine yields_occurs (by rw [arrived, point, all]; rfl) ⟨?_, ?_, ?_⟩
    · rw [← frame]
      rfl
    · rw [State.modSave_get, State.get_put_same _ _ _ (by decide)]
      rfl
    · rw [State.modSave_get, State.get_put_other _ _ _ _ (by decide) (by decide), State.get_putSat_same _ _ _ (by decide), min_comm]
      rfl
  · intro s f frame arrived due
    show ∃ t, execFabricPhyOff s = .next t ∧ _
    simp only [execFabricPhyOff, frame]
    exact yields_occurs (by simp [arrived, due]) (State.fabricOff_heads _ _ fun _ => rfl)
  · intro q bad s f frame point off op phase
    obtain ⟨t, step, marks, all, own⟩ := State.saveWriteStart_marks bad frame point off op phase
    obtain ⟨hphase, hwriting, hmarks⟩ : t.get Reg.SAVE_STATUS_PHASE = 5 ∧ t.save.writing = true ∧
        (fun k => ((t.quad k).saveOn, (t.quad k).saveBad)) = marks := by
      simpa only [State.saveMarks, Prod.mk.injEq] using all
    obtain ⟨hon, hbad⟩ : (t.quad q).saveOn = true ∧ (t.quad q).saveBad = bad := by
      simpa only [← hmarks, Prod.mk.injEq] using own
    exact ⟨t, step, hon, hbad, hwriting, hphase⟩
  · intro q s active mask tail
    show ∃ t, execSaveQuadrantTailDone q s = .next t ∧ _
    unfold execSaveQuadrantTailDone
    refine yields_occurs (by simp [active, mask, tail]) ⟨?_, ?_, fun k hk => ?_⟩
    · exact State.get_put_same _ _ _ (by decide)
    · rw [State.put_quad, State.modQuad_same]
    · rw [State.put_quad, State.modQuad_other _ _ _ fun h => hk (Fin.ext h)]
      rfl
  · intro s active writing tokens free phase switched
    show ∃ t, execSealWrite s = .next t ∧ _
    unfold execSealWrite
    refine yields_occurs (by simp [active, writing, tokens, free, phase, switched]) ?_
    dsimp only
    have frame := State.recordHanded_frame ((s.begin.modImage fun i => { i with
      writing := some { record := s.begin.newRecord .sealSave (s.begin.get Reg.SAVE_STATUS_TRIGGER) } }).put Reg.SAVE_STATUS_PHASE 7)
      (s.begin.newRecord .sealSave (s.begin.get Reg.SAVE_STATUS_TRIGGER))
    refine ⟨?_, { record := s.begin.newRecord .sealSave (s.begin.get Reg.SAVE_STATUS_TRIGGER) }, ?_, rfl, rfl⟩
    · rw [State.get_congr (regs_of_outside frame (by decide)), State.get_put_same _ _ _ (by decide)]
      rfl
    · rw [image_of_outside frame (by decide)]
      rfl
  · intro s w writing retry0 retry1 ended0 ended1
    obtain ⟨u, seals, step⟩ := State.sealReadback_of_failed (s := s.begin) writing retry0 retry1 ended0 ended1
    obtain ⟨phase, message, none, kept⟩ := u.endUnsealed_shows
    refine ⟨u.endUnsealed, ?_, phase, message, none, kept.trans seals⟩
    show execSealReadback _ s = _
    simp only [execSealReadback, writing, step]
  · intro s w writing first0 first1 ended0 ended1 complete programmed0 programmed1 input
    have step := State.sealReadback_of_valid (s := s.begin) writing first0 first1 ended0 ended1 programmed0 programmed1
    refine ⟨_, ?_, State.saveSealed_shows (s := (s.begin.setStage 0 .valid).setStage 1 .valid) complete input⟩
    show execSealReadback _ s = _
    simp only [execSealReadback, writing, step]

end Sys2Proof.Machine

/-!
PROOF. From PORST_N's release to a sealed configuration (17_configuration_and_calibration R501 to R512; 18_firmware_update R520,
R522; 14_power_sequencing R432, R433): what the chosen slot, the seal and a warm reset's resumption show, and what the load's
steps around them leave as it was.
-/

namespace Sys2Proof.Machine

/-! ## PORST_N release (R449, R520, R522, R541) -/

/-- R522 reads the slots, their images against the fuses, and BOOT_MODE. -/
theorem State.chooseFw_congr {s t : State} (hu : t.upd = s.upd) (ho : t.otp = s.otp) (hm : t.pins.bootMode = s.pins.bootMode) :
    t.chooseFw = s.chooseFw := by
  have candidate (k : Nat) : t.fwCandidate k = s.fwCandidate k := by
    unfold State.fwCandidate State.fwSlot
    rw [hu, ho, hm]
  unfold State.chooseFw
  rw [candidate, candidate, hu]

/-- What a start from PORST_N release shows before it chooses a slot: what the AON domain kept, and the spares. -/
def State.coldShown (s : State) : State :=
  let s := (s.modSeq fun x => { x with startAt := some s.now, recoveryDue := none }).put Reg.PERS_START_ORIGIN 0
  let s := (s.putB Reg.TICK_STATUS_AON_RESTART s.seq.aonRestart).modSeq fun x => { x with aonRestart := false }
  let s := (s.putB Reg.SEQ_STATUS_ON_LATCH s.seq.onLatch).sparesReady
  (s.put Reg.SEQ_LOG_NEXT (s.seq.ringSeq % 32768)).put Reg.SEQ_LOG_WRAPS (s.seq.ringSeq / 32768)

/-- The keys of such a start, with the slot chosen (R373, R376). -/
def State.coldKeys (s : State) (rngOk : Bool) (fw : Option Nat) : State :=
  let s := if s.pins.bootMode = 1 then s.emit .uart else s
  let s := ((s.drbgStart rngOk).unwrapKeys fw).loadKeyRecord
  (s.put Reg.UPD_SVN_FUSED s.otp.svn).put Reg.UPD_STATUS_BOOT_FAILS (min 3 s.upd.aonFails)

theorem State.coldShown_outside (s : State) : s.coldShown.outside 262145 = s.outside 262145 := by
  simp [State.coldShown]

theorem State.coldShown_recoveryDue (s : State) : s.coldShown.seq.recoveryDue = none := by
  unfold State.coldShown
  dsimp only
  rw [State.put_seq, State.put_seq, seq_of_outside (State.sparesReady_outside _ 1 (by decide)) (by decide), State.putB_seq,
    State.modSeq_same, State.putB_seq, State.put_seq, State.modSeq_same]

theorem State.coldKeys_seq (s : State) (rngOk : Bool) (fw : Option Nat) : (s.coldKeys rngOk fw).seq = s.seq := by
  have keys (t : State) : ((t.drbgStart rngOk).unwrapKeys fw).loadKeyRecord.seq = t.seq := by
    rw [seq_of_outside (State.loadKeyRecord_outside _ 1073774609 (by decide)) (by decide),
      seq_of_outside (State.unwrapKeys_outside _ fw 32768 (by decide)) (by decide),
      seq_of_outside (State.drbgStart_outside _ rngOk 32785 (by decide)) (by decide)]
  unfold State.coldKeys
  dsimp only
  rw [State.put_seq, State.put_seq, keys]
  split <;> rfl

theorem State.coldBoot_some {s : State} (rngOk : Bool) {k : Nat} (h : s.chooseFw = some k) :
    s.coldBoot false rngOk = (s.coldShown.coldKeys rngOk (some k)).releaseCores k := by
  have shown := s.coldShown_outside
  have chosen : s.coldShown.chooseFw = some k := (State.chooseFw_congr (upd_of_outside shown (by decide))
    (otp_of_outside shown (by decide)) (congrArg Pins.bootMode (pins_of_outside shown (by decide)))).trans h
  have eq : s.coldBoot false rngOk = (match s.coldShown.chooseFw with
    | none => (s.coldShown.coldKeys rngOk s.coldShown.chooseFw).modSeq fun x => { x with recoveryDue := some 2 }
    | some k => (s.coldShown.coldKeys rngOk s.coldShown.chooseFw).releaseCores k) := rfl
  rw [eq, chosen]

theorem State.releaseCores_running (s : State) (k : Nat) : (s.releaseCores k).get Reg.UPD_STATUS_RUNNING = k % 2 := by
  show (s.runFw k).get Reg.UPD_STATUS_RUNNING = k % 2
  unfold State.runFw
  dsimp only
  rw [State.get_put_other _ _ _ _ (by decide) (by decide), State.get_put_other _ _ _ _ (by decide) (by decide),
    State.get_put_other _ _ _ _ (by decide) (by decide), State.get_put_other _ _ _ _ (by decide) (by decide)]
  exact State.get_put_same _ _ _ (by decide)

theorem State.coldBoot_starts {s : State} (rngOk : Bool) {k : Nat} (h : s.chooseFw = some k) :
    (s.coldBoot false rngOk).cluster.running = true ∧ (s.coldBoot false rngOk).get Reg.UPD_STATUS_RUNNING = k % 2 ∧
      (s.coldBoot false rngOk).seq.recoveryDue = none := by
  rw [State.coldBoot_some rngOk h]
  refine ⟨rfl, State.releaseCores_running _ _, ?_⟩
  rw [seq_of_outside (State.releaseCores_outside _ k 67108897 (by decide)) (by decide), State.coldKeys_seq,
    State.coldShown_recoveryDue]

/-- PORST_N's release with a slot that may run: the straps give TW0's address, and the cluster runs from the slot. -/
theorem execPorstNRelease_starts {i : BootIn} {s : State} {k : Nat} (hp : s.pins.porstN = false) (hb : s.seq.power = .boot)
    (hi : i.recoveryLow = false)
    (hf : ({ (s.program i.nor) with pins := { s.pins with bootMode := i.bootMode } } : State).chooseFw = some k) :
    ∃ t, execPorstNRelease i s = .next t ∧ t.pins.porstN = true ∧ t.tw0.addr = 0x58 + i.straps.val ∧
      t.cluster.running = true ∧ t.get Reg.UPD_STATUS_RUNNING = k % 2 ∧ t.seq.recoveryDue = none := by
  unfold execPorstNRelease
  refine yields_occurs (by simp [hp, hb]) ?_
  dsimp only
  rw [hi]
  generalize hx : State.modTw0 _ _ = x
  have chosen : x.chooseFw = some k := by
    rw [← hf, ← hx]
    rfl
  have kept := State.coldBoot_outside x false i.rngOk 3288629297 (by decide)
  obtain ⟨running, slot, due⟩ := State.coldBoot_starts i.rngOk chosen
  refine ⟨?_, ?_, running, slot, due⟩
  · rw [pins_of_outside kept (by decide), ← hx]
    rfl
  · rw [tw0_of_outside kept (by decide), ← hx]
    rfl

/-! ## PORST_N falls, and the loss of V_AON_IN (R6, R23, R433) -/

/-- What an assertion resets, before its message. -/
def State.porstReset (s : State) : State :=
  let s := if s.image.runOpen then s.modSeq fun x => { x with aonCause := 7 } else s
  let s := s.mainReset.modPins fun p => { p with porstN := false, bkpEn := false }
  s.modSeq fun x => { x with power := if x.power = .off then .off else .boot }

theorem execPorstNAssert_eq (s : State) : execPorstNAssert s =
    .next (if s.flag Reg.SEQ_STATUS_RAILS_UP then s.begin.porstReset.event 0x4A4 1 Sev.note else s.begin.porstReset) := rfl

theorem State.porstReset_regs (s : State) : s.porstReset.regs = [] := rfl

/-- A state whose registers are at their reset words is not sealed. -/
theorem State.isSealed_of_reset {s : State} (h : s.regs = []) : s.isSealed = false := by
  have same : s.get Reg.CFG_STATUS_SEALED = State.reset.get Reg.CFG_STATUS_SEALED := State.get_congr h _
  unfold State.isSealed State.flag
  rw [same]
  decide

theorem State.porstReset_power (s : State) : s.porstReset.seq.power = (if s.seq.power = .off then .off else .boot) := by
  unfold State.porstReset
  dsimp only
  rw [State.modSeq_same]
  split <;> rfl

/-- PORST_N's assertion resets everything but the AON domain; with the rails up it leaves a message. -/
theorem execPorstNAssert_resets (s : State) :
    ∃ t, execPorstNAssert s = .next t ∧ t.pins.porstN = false ∧ t.dram = [] ∧ t.poison = [] ∧ t.cluster.running = false ∧
      t.isSealed = false ∧ t.seq.power = (if s.seq.power = .off then .off else .boot) ∧
      (s.flag Reg.SEQ_STATUS_RAILS_UP = false → t.regs = []) ∧ (s.flag Reg.SEQ_STATUS_RAILS_UP = true → t.pends 0x4A4 = true) := by
  have unsealed := State.isSealed_of_reset s.begin.porstReset_regs
  have power := s.begin.porstReset_power
  rw [execPorstNAssert_eq]
  refine ⟨_, rfl, ?_⟩
  cases up : s.flag Reg.SEQ_STATUS_RAILS_UP
  · exact ⟨rfl, rfl, rfl, rfl, unsealed, power, fun _ => rfl, nofun⟩
  · rw [if_pos rfl]
    refine ⟨?_, ?_, ?_, ?_, ?_, ?_, nofun, fun _ => State.event_pends _ _ _ _⟩
    · rw [State.event_pins]; rfl
    · rw [State.event_dram]; rfl
    · rw [State.event_poison]; rfl
    · rw [State.event_cluster]; rfl
    · exact (State.flag_event _ _ _ _ _ (by decide) (by decide)).trans unsealed
    · rw [State.event_seq, power]; rfl

theorem execAonPowerApply_restarts (straps : Nat) (s : State) :
    ∃ t, execAonPowerApply straps s = .next t ∧ t.tick = { aonPowered := true } ∧ t.rails = [] ∧
      t.tw0.addr = 0x58 + straps % 8 ∧ t.seq = { ring := s.seq.ring, ringSeq := s.seq.ringSeq } ∧ t.regs = [] :=
  ⟨_, rfl, rfl, rfl, rfl, rfl, rfl⟩

theorem execAonReset_restarts (s : State) :
    ∃ t, execAonReset s = .next t ∧ t.tick = { aonPowered := false } ∧ t.rails = [] ∧ t.seq.power = .off ∧ t.regs = [] :=
  ⟨_, rfl, rfl, rfl, rfl, rfl⟩

/-! ## The seal (R509) -/

theorem State.rd_sealSfg (s : State) {x : Nat} (h : x ≠ 0x020070) : s.sealSfg.rd x = s.rd x := by
  unfold State.sealSfg State.judgePatrols
  dsimp only
  rw [State.rd_sfg _ _ rfl h, State.rd_sfg _ _ rfl h, State.rd_sfg _ _ rfl h, State.rd_sfg _ _ rfl h, State.rd_sfg _ _ rfl h,
    State.rd_sfg _ _ rfl h]
  rfl

/-- CFG_STATUS and CFG_LAYOUT_CRC as a seal writes them (R509). -/
theorem State.sealStatus_shows (s : State) (ix : Nat) (c : CfgImage) :
    (s.sealStatus ix c).isSealed = true ∧ (s.sealStatus ix c).get Reg.CFG_STATUS_COPY = ix % 2 ∧
      (s.sealStatus ix c).get Reg.CFG_LAYOUT_CRC_CRC = c.layoutCrc % 2 ^ 32 := by
  unfold State.sealStatus State.isSealed
  dsimp only
  refine ⟨?_, ?_, ?_⟩
  · rw [State.flag_of_rd (State.rd_putSat_other _ _ _ (by decide)), State.flag_of_rd (State.rd_putSat_other _ _ _ (by decide)),
      State.flag_of_rd (State.rd_put_other _ _ _ (by decide)), State.flag_of_rd (State.rd_put64_other _ _ (by decide) (by decide)),
      State.flag_put_other _ _ _ _ (by decide) (by decide), State.flag_putB_other _ _ _ _ (by decide) (by decide),
      State.flag_put_other _ _ _ _ (by decide) (by decide), State.flag_putB_same _ _ _ (by decide) (by decide)]
  · rw [State.get_of_rd (State.rd_putSat_other _ _ _ (by decide)), State.get_of_rd (State.rd_putSat_other _ _ _ (by decide)),
      State.get_of_rd (State.rd_put_other _ _ _ (by decide)), State.get_of_rd (State.rd_put64_other _ _ (by decide) (by decide)),
      State.get_put_other _ _ _ _ (by decide) (by decide), State.get_putB_other _ _ _ _ (by decide) (by decide)]
    exact State.get_put_same _ _ _ (by decide)
  · rw [State.get_of_rd (State.rd_putSat_other _ _ _ (by decide)), State.get_of_rd (State.rd_putSat_other _ _ _ (by decide))]
    exact State.get_put_same _ _ _ (by decide)

theorem State.isSealed_of_status {s t : State} (h : t.rd 0x090000 = s.rd 0x090000) : t.isSealed = s.isSealed :=
  State.flag_of_rd (f := Reg.CFG_STATUS_SEALED) h

/-- What a seal decides before it shows itself: what follows from the configuration, and the reference copies (R46). -/
def State.sealStarts (s : State) : State :=
  let s := s.derived
  let s := s.modTick fun t => { t with setting := s.settingTime }
  (s.sfg Reg.EVT_SFG_STATUS_DRAIN_BOUND s.drainOk).sealPlumb

theorem State.seal_eq (s : State) (ix : Nat) (c : CfgImage) :
    s.seal ix c = ((s.sealStarts.sealAon c).sealStatus ix c).sealSfg := rfl

theorem State.sealStarts_seq (s : State) : s.sealStarts.seq = s.seq := by
  unfold State.sealStarts
  dsimp only
  rw [seq_of_outside (State.sealPlumb_outside _ 4 (by decide)) (by decide),
    seq_of_outside (State.sfg_outside _ _ _ 1 (by decide)) (by decide), State.modTick_seq,
    seq_of_outside (State.derived_outside _ 131073 (by decide)) (by decide)]

theorem State.seal_shows (s : State) (ix : Nat) (c : CfgImage) :
    (s.seal ix c).isSealed = true ∧ (s.seal ix c).get Reg.CFG_STATUS_COPY = ix % 2 ∧
      (s.seal ix c).get Reg.CFG_LAYOUT_CRC_CRC = c.layoutCrc % 2 ^ 32 := by
  rw [State.seal_eq, State.isSealed_of_status (State.rd_sealSfg _ (by decide)), State.get_of_rd (State.rd_sealSfg _ (by decide)),
    State.get_of_rd (State.rd_sealSfg _ (by decide))]
  exact State.sealStatus_shows _ ix c

theorem State.sealAon_marks (s : State) (c : CfgImage) :
    (s.sealAon c).seq.recoveryDue = s.seq.recoveryDue ∧ (s.sealAon c).seq.warmDrain = s.seq.warmDrain := by
  unfold State.sealAon
  dsimp only
  rw [State.modSeq_same]
  dsimp only
  rw [seq_of_outside (State.putFingerprint_outside _ 1 (by decide)) (by decide)]
  exact ⟨rfl, rfl⟩

/-- Of the sequencer a seal writes only what the AON domain keeps of the image (R568). -/
theorem State.seal_marks (s : State) (ix : Nat) (c : CfgImage) :
    (s.seal ix c).seq.recoveryDue = s.seq.recoveryDue ∧ (s.seal ix c).seq.warmDrain = s.seq.warmDrain := by
  have marks := s.sealStarts.sealAon_marks c
  rw [State.sealStarts_seq] at marks
  rw [State.seal_eq, seq_of_outside (State.sealSfg_outside _ 17 (by decide)) (by decide),
    seq_of_outside (State.sealStatus_outside _ ix c 1 (by decide)) (by decide)]
  exact marks

/-! ## The load after PORST_N release (R501, R504, R506) -/

theorem State.rd_sealGroup (s : State) (seqInLow : Bool) {x : Nat} (h : x ≠ 0x060104) : (s.sealGroup seqInLow).rd x = s.rd x := by
  unfold State.sealGroup
  dsimp only
  split
  · rfl
  · rw [State.modGroup_rd, State.rd_put_other _ _ _ h, State.rd_putB_other _ _ _ h, State.modPins_rd, State.modGroup_rd]

theorem State.moveTime_recoveryDue (s : State) (d : Nat) : (s.moveTime d).seq.recoveryDue = s.seq.recoveryDue := rfl

/-- Advancing device time leaves whether RECOVERY is due (R23). -/
theorem State.advanceTime_recoveryDue (s : State) : s.advanceTime.seq.recoveryDue = s.seq.recoveryDue := by
  unfold State.advanceTime
  split
  · exact State.moveTime_recoveryDue _ _
  · rfl

theorem State.copyApplied_recoveryDue (s : State) (i : LoadIn) (ix : Nat) (c : CfgImage) :
    (s.copyApplied i ix c).seq.recoveryDue = s.seq.recoveryDue := by
  unfold State.copyApplied
  dsimp only
  rw [seq_of_outside (State.sealGroup_outside _ i.seqInLow 1572865 (by decide)) (by decide)]
  generalize hx : State.each _ (List.range 4) _ = x
  have loaded : x.seq = s.advanceTime.seq := by
    rw [← hx, State.each_proj State.seq fun s q _ => seq_of_outside (State.loadHealth_outside s q 1073742337 (by decide)) (by decide),
      seq_of_outside (State.drawTenants_outside _ 32769 (by decide)) (by decide),
      seq_of_outside (State.loadGauge_outside _ 65553 (by decide)) (by decide),
      seq_of_outside (State.loadPartitions_outside _ 65553 (by decide)) (by decide)]
  obtain ⟨due, -⟩ := x.seal_marks ix c
  rw [due, loaded]
  exact s.advanceTime_recoveryDue

/-- The copy that applies is sealed and shown (R506, R509). -/
theorem State.copyApplied_shows (s : State) (i : LoadIn) (ix : Nat) (c : CfgImage) :
    (s.copyApplied i ix c).isSealed = true ∧ (s.copyApplied i ix c).get Reg.CFG_STATUS_COPY = ix % 2 ∧
      (s.copyApplied i ix c).get Reg.CFG_LAYOUT_CRC_CRC = c.layoutCrc % 2 ^ 32 := by
  unfold State.copyApplied
  dsimp only
  rw [State.isSealed_of_status (State.rd_sealGroup _ _ (by decide)), State.get_of_rd (State.rd_sealGroup _ _ (by decide)),
    State.get_of_rd (State.rd_sealGroup _ _ (by decide))]
  exact State.seal_shows _ ix c

theorem State.loadBegins_seq (s : State) (i : LoadIn) : (s.loadBegins i).seq = s.seq :=
  seq_of_outside (State.loadBegins_outside s i 33554449 (by decide)) (by decide)

theorem State.tryCopies_seq (s : State) (warm again : Bool) (l : List (Nat × CfgImage)) : (s.tryCopies warm again l).2.seq = s.seq :=
  seq_of_outside (State.tryCopies_outside s warm again l 16777245 (by decide)) (by decide)

/-- Before the first copy is tried a load writes only CFG_LOAD, CFG_REJECT and CAL_STATUS, and raises messages. -/
theorem State.loadBegins_isSealed (s : State) (i : LoadIn) : (s.loadBegins i).isSealed = s.isSealed := by
  refine State.isSealed_of_status ?_
  unfold State.loadBegins State.authFailures State.readUndercoat
  dsimp only
  rw [State.each_proj (State.rd · 0x090000), State.rd_putSat_other _ _ _ (by decide), State.each_proj (State.rd · 0x090000),
    State.rd_put_other _ _ _ (by decide)]
  · rfl
  · exact fun s _ _ => State.rd_event _ _ _ _ (by decide) (by decide)
  · intro s k _
    split
    · rfl
    · rw [State.rd_event _ _ _ _ (by decide) (by decide), State.rd_wr_other _ _ (by decide)]

/-- A copy that is rejected is undone: with none that applies, the block stays as sealed as it was (R504). -/
theorem State.tryCopies_isSealed {s : State} {warm again : Bool} {l : List (Nat × CfgImage)}
    (h : (s.tryCopies warm again l).1 = none) : (s.tryCopies warm again l).2.isSealed = s.isSealed := by
  induction l generalizing s again with
  | nil => rfl
  | cons x rest ih =>
    obtain ⟨ix, c⟩ := x
    unfold State.tryCopies at h ⊢
    dsimp only at h ⊢
    split at h
    · cases h
    · next type index offence =>
      rw [ih h]
      refine State.isSealed_of_status ?_
      rw [State.rd_event _ _ _ _ (by decide) (by decide), State.rd_put_other _ _ _ (by decide), State.rd_put_other _ _ _ (by decide)]

theorem State.configLoad_some {s : State} {i : LoadIn} {ix : Nat} {c : CfgImage}
    (h : (s.loadBegins i).copiesTried.1 = some (ix, c)) :
    s.configLoad i = (s.loadBegins i).copiesTried.2.copyApplied i ix c := by
  unfold State.configLoad
  dsimp only
  rw [h]

theorem State.configLoad_none {s : State} {i : LoadIn} (h : (s.loadBegins i).copiesTried.1 = none) :
    s.configLoad i = (s.loadBegins i).copiesTried.2.modSeq fun x => { x with recoveryDue := some 4 } := by
  unfold State.configLoad
  dsimp only
  rw [h]

section
variable {s : State} (i : LoadIn) (hp : s.pins.porstN = true) (hb : s.seq.power = .boot) (hr : s.cluster.running = true)
  (hs : s.isSealed = false) (hd : s.seq.recoveryDue = none)
include hp hb hr hs hd

theorem configLoad_occurs : (s.pins.porstN && decide (s.seq.power = .boot) && s.cluster.running && !s.isSealed &&
    s.seq.recoveryDue.isNone) = true := by
  rw [hp, hr, hs, hd, hb]
  rfl

/-- CONFIG_LOAD with a copy that applies. -/
theorem execConfigLoad_seals {n : Nat} {c : CfgImage} (h : (s.begin.loadBegins i).copiesTried.1 = some (n, c)) (hn : n < 2) :
    ∃ t, execConfigLoad i s = .next t ∧ t.isSealed = true ∧ t.get Reg.CFG_STATUS_COPY = n ∧
      t.get Reg.CFG_LAYOUT_CRC_CRC = c.layoutCrc % 2 ^ 32 ∧ t.seq.recoveryDue = none := by
  refine yields_occurs (configLoad_occurs hp hb hr hs hd) ?_
  rw [State.configLoad_some h]
  obtain ⟨isSealed, copy, crc⟩ := State.copyApplied_shows (s.begin.loadBegins i).copiesTried.2 i n c
  refine ⟨isSealed, copy.trans (Nat.mod_eq_of_lt hn), crc, ?_⟩
  rw [State.copyApplied_recoveryDue, State.copiesTried, State.tryCopies_seq, State.loadBegins_seq]
  exact hd

/-- CONFIG_LOAD with no copy that applies. -/
theorem execConfigLoad_recovers (h : (s.begin.loadBegins i).copiesTried.1 = none) :
    ∃ t, execConfigLoad i s = .next t ∧ t.isSealed = false ∧ t.seq.recoveryDue = some 4 := by
  refine yields_occurs (configLoad_occurs hp hb hr hs hd) ?_
  rw [State.configLoad_none h]
  refine ⟨?_, rfl⟩
  rw [State.isSealed_of_status (State.modSeq_rd _ _ _), State.copiesTried, State.tryCopies_isSealed h, State.loadBegins_isSealed]
  exact hs

end

/-! ## The load of a warm reset (R507, R512) -/

theorem State.rd_leaveRefresh (s : State) {x : Nat} (h : x < 0x200000) : s.leaveRefresh.rd x = s.rd x := by
  refine State.each_proj (State.rd · x) (fun s n _ => ?_) s
  have other : x ≠ scBase n + 0x0 := by
    unfold scBase qdBase
    omega
  rw [State.modSc_rd, State.rd_put_other _ _ _ other, State.rd_put_other _ _ _ other, State.rd_put_other _ _ _ other]

theorem State.rd_decideStart (s : State) (st : Nat) {x : Nat} (h1 : x ≠ 0x030000) (h2 : x ≠ 0x03001C) :
    (s.decideStart st).rd x = s.rd x := by
  rw [State.decideStart, State.rd_putB_other _ _ _ h2, State.rd_put_other _ _ _ h1]

theorem State.decideStart_shows (s : State) (st : Nat) : (s.decideStart st).get Reg.PERS_STATUS_START_STATE = st % 4 := by
  rw [State.decideStart, State.get_of_rd (State.rd_putB_other _ _ _ (by decide))]
  exact State.get_put_same _ _ _ (by decide)

theorem State.rd_putLastShutdown (s : State) (cause : Nat) (isSealed incomplete single : Bool) (time : Nat) {x : Nat}
    (h1 : x ≠ 0x030008) (h2 : x ≠ 0x03000C) (h3 : x ≠ 0x030010) :
    (s.putLastShutdown cause isSealed incomplete single time).rd x = s.rd x := by
  rw [State.putLastShutdown, State.rd_put64_other _ _ h2 h3, State.rd_putB_other _ _ _ h1, State.rd_putB_other _ _ _ h1,
    State.rd_putB_other _ _ _ h1, State.rd_put_other _ _ _ h1]

theorem State.setPower_warmDrain (s : State) (p : Power) : (s.setPower p).seq.warmDrain = s.seq.warmDrain := by
  unfold State.setPower
  dsimp only
  split <;> rfl

/-- What a warm reset's start shows after its decision: the origin, the last shutdown's cause and the power state. -/
def State.warmResumed (s : State) (origin : Nat) : State :=
  let s := s.modGauge fun g => { g with serialSeen := false, chargerSet := false }
  let s := (s.put Reg.PERS_START_ORIGIN origin).putLastShutdown 8 false false false s.runOpenTime
  (s.setPower .warmReset).modSeq fun x => { x with dramHeld := false }

theorem State.warmApplied_eq (s : State) (origin ix : Nat) (c : CfgImage) : s.warmApplied origin ix c =
    (((((s.seal ix c).putB Reg.CFG_STATUS_WARM_LOAD true).leaveRefresh).decideStart 2).warmResumed origin) := rfl

theorem State.rd_warmResumed (s : State) (origin : Nat) {x : Nat} (h1 : x ≠ 0x060000) (h2 : x ≠ 0x03001C) (h3 : x ≠ 0x030008)
    (h4 : x ≠ 0x03000C) (h5 : x ≠ 0x030010) : (s.warmResumed origin).rd x = s.rd x := by
  unfold State.warmResumed
  dsimp only
  rw [State.modSeq_rd, State.rd_setPower _ _ h1, State.rd_putLastShutdown _ _ _ _ _ _ h3 h4 h5, State.rd_put_other _ _ _ h2,
    State.modGauge_rd]

theorem State.warmResumed_warmDrain (s : State) (origin : Nat) :
    (s.warmResumed origin).seq.dramHeld = false ∧ (s.warmResumed origin).seq.warmDrain = s.seq.warmDrain := by
  refine ⟨rfl, ?_⟩
  unfold State.warmResumed
  dsimp only
  rw [State.modSeq_same]
  dsimp only
  rw [State.setPower_warmDrain, seq_of_outside (State.putLastShutdown_outside _ 8 false false false _ 1 (by decide)) (by decide),
    State.put_seq, State.modGauge_seq]

theorem State.warmApplied_shows (s : State) (origin ix : Nat) (c : CfgImage) :
    (s.warmApplied origin ix c).isSealed = true ∧ (s.warmApplied origin ix c).flag Reg.CFG_STATUS_WARM_LOAD = true ∧
      (s.warmApplied origin ix c).get Reg.PERS_STATUS_START_STATE = 2 := by
  have status : (s.warmApplied origin ix c).rd 0x090000 = ((s.seal ix c).putB Reg.CFG_STATUS_WARM_LOAD true).rd 0x090000 := by
    rw [State.warmApplied_eq, State.rd_warmResumed _ _ (by decide) (by decide) (by decide) (by decide) (by decide),
      State.rd_decideStart _ _ (by decide) (by decide), State.rd_leaveRefresh _ (by decide)]
  refine ⟨?_, ?_, ?_⟩
  · obtain ⟨sealed, -, -⟩ := s.seal_shows ix c
    rw [State.isSealed_of_status status]
    exact (State.flag_putB_other _ _ _ _ (by decide) (by decide)).trans sealed
  · rw [State.flag_of_rd status]
    exact State.flag_putB_same _ _ _ (by decide) (by decide)
  · rw [State.warmApplied_eq, State.get_of_rd (State.rd_warmResumed _ _ (by decide) (by decide) (by decide) (by decide) (by decide))]
    exact State.decideStart_shows _ 2

theorem State.warmApplied_warmDrain (s : State) (origin ix : Nat) (c : CfgImage) :
    (s.warmApplied origin ix c).seq.dramHeld = false ∧ (s.warmApplied origin ix c).seq.warmDrain = s.seq.warmDrain := by
  obtain ⟨held, drain⟩ := State.warmResumed_warmDrain
    ((((s.seal ix c).putB Reg.CFG_STATUS_WARM_LOAD true).leaveRefresh).decideStart 2) origin
  obtain ⟨-, sealed⟩ := s.seal_marks ix c
  rw [State.warmApplied_eq]
  refine ⟨held, drain.trans ?_⟩
  rw [seq_of_outside (State.decideStart_outside _ 2 1 (by decide)) (by decide),
    seq_of_outside (State.leaveRefresh_outside _ 1025 (by decide)) (by decide), State.putB_seq, sealed]

theorem State.warmBegins_warmDrain (s : State) : s.warmBegins.seq.warmDrain = false := by
  unfold State.warmBegins
  dsimp only
  rw [State.put_seq, State.putB_seq, State.modSeq_same]

theorem State.warmStarts_seq (s : State) (i : LoadIn) (k : Nat) : (s.warmStarts i k).seq = s.seq :=
  seq_of_outside (State.warmStarts_outside s i k 109109297 (by decide)) (by decide)

/-- The load of a warm reset from a slot that may run, with a copy of the layout in force that applies. -/
theorem State.warmLoad_some {s : State} {i : LoadIn} {k ix : Nat} {c : CfgImage} (hf : s.warmBegins.chooseFw = some k)
    (hc : ((s.warmBegins.warmStarts i k).tryCopies true false (s.warmBegins.warmStarts i k).sameLayout).1 = some (ix, c)) :
    s.warmLoad i = ((s.warmBegins.warmStarts i k).tryCopies true false (s.warmBegins.warmStarts i k).sameLayout).2.warmApplied
      s.warmOrigin ix c := by
  rw [State.warmLoad, hf]
  unfold State.warmFrom State.warmCopies
  dsimp only
  rw [hc]

/-- WARM_LOAD with DRAM held in self-refresh. -/
theorem execWarmLoad_resumes {i : LoadIn} {s : State} {k n : Nat} {c : CfgImage} (hw : s.seq.power = .warmReset)
    (hd : s.seq.warmDrain = true) (hs : s.save.frame0 = none) (hh : s.seq.dramHeld = true)
    (hf : s.begin.warmBegins.chooseFw = some k)
    (hc : ((s.begin.warmBegins.warmStarts i k).tryCopies true false (s.begin.warmBegins.warmStarts i k).sameLayout).1 =
      some (n, c)) :
    ∃ t, execWarmLoad i s = .next t ∧ t.isSealed = true ∧ t.flag Reg.CFG_STATUS_WARM_LOAD = true ∧
      t.get Reg.PERS_STATUS_START_STATE = 2 ∧ t.seq.dramHeld = false ∧ t.seq.warmDrain = false := by
  refine yields_occurs ?_ ?_
  · rw [hw, hd, hs, hh]
    rfl
  · rw [State.warmLoad_some hf hc]
    obtain ⟨isSealed, warm, start⟩ := State.warmApplied_shows
      ((s.begin.warmBegins.warmStarts i k).tryCopies true false (s.begin.warmBegins.warmStarts i k).sameLayout).2 s.begin.warmOrigin n c
    obtain ⟨held, drain⟩ := State.warmApplied_warmDrain
      ((s.begin.warmBegins.warmStarts i k).tryCopies true false (s.begin.warmBegins.warmStarts i k).sameLayout).2 s.begin.warmOrigin n c
    refine ⟨isSealed, warm, start, held, drain.trans ?_⟩
    rw [State.tryCopies_seq, State.warmStarts_seq, State.warmBegins_warmDrain]

/-- Settles O38: each command that occurs gives the state its lemma above describes. -/
theorem theBlockBootsAndSeals : Obligations.TheBlockBootsAndSeals := by
  unfold Obligations.TheBlockBootsAndSeals
  refine ⟨?_, ?_, ?_, ?_, ?_, ?_, ?_⟩
  · exact fun i s k hp hb hi hf => execPorstNRelease_starts hp hb hi hf
  · exact execPorstNAssert_resets
  · exact fun i s n c hp hb hr hs hd h hn => execConfigLoad_seals i hp hb hr hs hd h hn
  · exact fun i s hp hb hr hs hd h => execConfigLoad_recovers i hp hb hr hs hd h
  · exact fun i s k n c hw hd hs hh hf hc => execWarmLoad_resumes hw hd hs hh hf hc
  · exact execAonPowerApply_restarts
  · exact execAonReset_restarts

end Sys2Proof.Machine

/-!
PROOF. Broadcast reads (02_frame_tick_and_epochs R33 to R37): which instances an offset reaches and in which order, what a
broadcast read answers, and the flags that it leaves in the path's copies.
-/

namespace Sys2Proof.Machine

/-! ## Instances in the order of their global indices (R33, R34) -/

theorem maskBits_pairwise (m : Nat) : (maskBits m).Pairwise (· < ·) := List.pairwise_lt_range.filter _

/-- The instances that a broadcast reaches stand in rising order. -/
theorem State.targets_pairwise {s : State} {p off : Nat} {l : List Nat} (h : s.targets p off = some l) :
    l.Pairwise (· < ·) := by
  unfold State.targets at h
  dsimp only at h
  have quadrants : (if decide (0x180000 ≤ off ∧ off < 0x1C0000) = true then maskBits (s.bankGet p Reg.BCAST_QMASK_MASK)
      else [(off - 0x200000) / 0x40000]).Pairwise (· < ·) := by
    split
    · exact maskBits_pairwise _
    · exact List.pairwise_singleton _ _
  split at h
  · exact absurd h (by simp)
  · split at h
    · rw [← Option.some.inj h, List.pairwise_map]
      exact quadrants.imp fun hab => by unfold qdBase; omega
    · rw [← Option.some.inj h, List.pairwise_flatMap]
      refine ⟨fun q _ => ?_, quadrants.imp fun hab => ?_⟩
      · rw [List.pairwise_map]
        have slots : (maskBits (if off % 0x40000 < 0x3C000 then s.bankGet p Reg.BCAST_SCMASK_MASK
          else s.bankGet p Reg.BCAST_FCMASK_MASK)).Pairwise (· < ·) := maskBits_pairwise _
        exact slots.imp fun hij => by omega
      · have slot : ∀ j ∈ maskBits (if off % 0x40000 < 0x3C000 then s.bankGet p Reg.BCAST_SCMASK_MASK
            else s.bankGet p Reg.BCAST_FCMASK_MASK), j < 4 := fun j hj => List.mem_range.mp (List.mem_filter.mp hj).1
        have base : ∀ b, b = (if off % 0x40000 < 0x3C000 then 0x10000 else 0x20000) → b ≤ 0x20000 := fun b hb => by
          rw [hb]; split <;> omega
        intro x hx y hy
        obtain ⟨i, hi, rfl⟩ := List.mem_map.mp hx
        obtain ⟨j, hj, rfl⟩ := List.mem_map.mp hy
        have hi4 := slot i hi
        have hb := base _ rfl
        have hr : off % 0x40000 % 0x4000 < 0x4000 := Nat.mod_lt _ (by decide)
        unfold qdBase
        omega

/-! ## What a register of the aperture reads as (R4, R36) -/

theorem findReg_mem {l : List RegDef} {off : Nat} {d : RegDef} {u : Nat} (h : findReg l off = some (d, u)) : d ∈ l := by
  induction l with
  | nil => exact absurd h (by simp [findReg])
  | cons e l ih =>
    unfold findReg at h
    split at h
    · rw [(Prod.mk.inj (Option.some.inj h)).1]
      exact List.mem_cons_self
    · exact List.mem_cons_of_mem _ (ih h)

/-- No field of a quadrant's registers is both RWS and WO. -/
theorem quadrant_rws_not_wo : ∀ d ∈ regsQuadrant ++ regsSc ++ regsFlash, accMask d .rws &&& accMask d .wo = 0#32 := by decide

theorem firstInstance_ge (off : Nat) : 0x200000 ≤ firstInstance off := by
  unfold firstInstance
  dsimp only
  split
  · omega
  · split <;> omega

theorem regsNear_of_quadrant {off : Nat} (h : 0x200000 ≤ off) : regsNear off = regsQuadrant ++ regsSc ++ regsFlash := by
  unfold regsNear
  repeat rw [if_neg (by omega)]

theorem firstInstance_rws_not_wo {off u : Nat} {d : RegDef} (h : regAt (firstInstance off) = some (d, u)) :
    accMask d .rws &&& accMask d .wo = 0#32 := by
  rw [regAt, regsNear_of_quadrant (firstInstance_ge off)] at h
  exact quadrant_rws_not_wo d (findReg_mem h)

/-- Bits merged in under a mask read back under it where none of them is hidden. -/
theorem and_merge_hidden (w m r o : Word) (apart : r &&& o = 0#32) : (w &&& ~~~ r ||| m &&& r) &&& ~~~ o &&& r = m &&& r := by
  apply BitVec.eq_of_getLsbD_eq
  intro i hi
  have bit := congrArg (·.getLsbD i) apart
  simp only [BitVec.getLsbD_and, BitVec.getLsbD_zero] at bit
  simp only [BitVec.getLsbD_and, BitVec.getLsbD_or, BitVec.getLsbD_not, hi, decide_true, Bool.true_and]
  revert bit
  cases r.getLsbD i <;> cases o.getLsbD i <;> simp

/-- A register that has a shadow copy reads its RWS fields from there. -/
theorem State.regValue_shadow {s : State} {p b : Nat} {d : RegDef} {m : Word} (hm : sparseFind s.plumb.shadow b = some m)
    (apart : accMask d .rws &&& accMask d .wo = 0#32) : s.regValue p d b &&& accMask d .rws = m &&& accMask d .rws := by
  unfold State.regValue State.shadowed
  rw [hm]
  exact and_merge_hidden _ _ _ _ apart

@[simp] theorem State.emit_bankGet (s : State) (o : Out) (p : Nat) (f : Fld) : (s.emit o).bankGet p f = s.bankGet p f := rfl
theorem State.emit_out (s : State) (o : Out) : (s.emit o).out = s.out ++ [o] := rfl
@[simp] theorem State.begin_regValue (s : State) (p : Nat) (d : RegDef) (b : Nat) : s.begin.regValue p d b = s.regValue p d b := rfl
@[simp] theorem State.begin_inRecovery (s : State) : s.begin.inRecovery = s.inRecovery := rfl
@[simp] theorem State.begin_aonServes (s : State) : s.begin.aonServes = s.aonServes := rfl

/-! ## The read of a broadcast (R36, R37) -/

/-- The first of some instances whose value differs from another one's. -/
abbrev State.firstDiffers (s : State) (p : Nat) (d : RegDef) (a : Nat) (l : List Nat) : Option Nat :=
  l.find? fun b => decide (s.regValue p d b ≠ s.regValue p d a)

theorem State.begin_firstDiffers (s : State) (p : Nat) (d : RegDef) (a : Nat) (l : List Nat) :
    s.begin.firstDiffers p d a l = s.firstDiffers p d a l := rfl

theorem State.bcastRead_nil {s : State} {p off : Nat} (h : (regAt (firstInstance off)).isSome = true) :
    s.bcastRead p off [] = (0#32, s.bankPut p Reg.BCAST_STATUS_EMPTY 1) := by
  obtain ⟨x, hx⟩ := Option.isSome_iff_exists.mp h
  simp only [State.bcastRead, hx]

theorem State.bcastRead_same {s : State} {p off a u : Nat} {d : RegDef} {rest : List Nat}
    (hr : regAt (firstInstance off) = some (d, u)) (hf : s.firstDiffers p d a rest = none) :
    s.bcastRead p off (a :: rest) = (s.regValue p d a, s) := by
  simp only [State.bcastRead, hr, hf]

/-- The path's copies after a broadcast read found instances that differ. -/
def State.mismatched (s : State) (p b : Nat) : State :=
  (s.bankPut p Reg.BCAST_STATUS_MISMATCH 1).bankPut p Reg.BCAST_STATUS_DIFF_INDEX (((regAt b).map (·.2)).getD 0)

theorem State.bcastRead_differs {s : State} {p off a u b : Nat} {d : RegDef} {rest : List Nat}
    (hr : regAt (firstInstance off) = some (d, u)) (hf : s.firstDiffers p d a rest = some b) :
    s.bcastRead p off (a :: rest) = (s.regValue p d a, s.mismatched p b) := by
  simp only [State.bcastRead, hr, hf, State.mismatched]
  cases regAt b <;> rfl

theorem State.mismatched_mismatch (s : State) (p b : Nat) : (s.mismatched p b).bankGet p Reg.BCAST_STATUS_MISMATCH = 1 := by
  have keeps : ∀ w v, Reg.BCAST_STATUS_MISMATCH.of (Reg.BCAST_STATUS_DIFF_INDEX.into w v) = Reg.BCAST_STATUS_MISMATCH.of w :=
    fun w v => Fld.of_into_other _ _ w v (by decide) (by decide)
  have sameReg : Reg.BCAST_STATUS_MISMATCH.off = Reg.BCAST_STATUS_DIFF_INDEX.off := rfl
  rw [State.mismatched, State.bankGet, State.bankPut, sameReg, State.bankRd_bankWr_same, keeps]
  exact State.bankGet_bankPut_same _ _ _ _ (by decide)

theorem State.mismatched_diffIndex (s : State) (p b : Nat) :
    (s.mismatched p b).bankGet p Reg.BCAST_STATUS_DIFF_INDEX = ((regAt b).map (·.2)).getD 0 % 256 :=
  State.bankGet_bankPut_same _ _ _ _ (by decide)

/-- A BROADCAST_READ of instances on a path that the main domain serves is the read of those instances. -/
theorem exec_broadcastRead_instances {p : PathIx} {off : Offset} {s : State} {l : List Nat} (hp : s.served p = true)
    (h4 : off.toNat % 4 = 0) (haon : (decide (p = 2) && s.aonServes) = false)
    (hrec : (s.inRecovery && !recoveryOffset off.toNat) = false) (ht : s.targets p off.toNat = some l) :
    exec (.broadcastRead p off) s =
      .next ((s.begin.bcastRead p off.toNat l).2.emit (.word (s.begin.bcastRead p off.toNat l).1)) := by
  have haon' : (decide (p.val = 2) && s.aonServes) = false := by
    have same : decide (p.val = 2) = decide (p = 2) := decide_eq_decide.mpr ⟨fun h => Fin.ext h, fun h => congrArg Fin.val h⟩
    rw [same, haon]
  show execBroadcastRead p off s = _
  simp only [execBroadcastRead, occurs, ht, hp, Option.isSome_some, Bool.and_self, if_true, h4, ne_eq, not_true_eq_false,
    and_false, if_false, State.readPath, State.begin_served, Bool.not_true, Bool.false_eq_true, State.begin_aonServes, haon',
    State.readReg, State.begin_inRecovery, hrec, State.begin_targets]

/-- A broadcast read whose masks select nothing. -/
theorem broadcastRead_empty {p : PathIx} {off : Offset} {s : State} (hp : s.served p = true) (h4 : off.toNat % 4 = 0)
    (haon : (decide (p = 2) && s.aonServes) = false) (hrec : (s.inRecovery && !recoveryOffset off.toNat) = false)
    (ht : s.targets p off.toNat = some []) (hr : (regAt (firstInstance off.toNat)).isSome = true) :
    ∃ t, exec (.broadcastRead p off) s = .next t ∧ t.out = [.word 0#32] ∧ t.bankGet p Reg.BCAST_STATUS_EMPTY = 1 ∧
      t.regs = s.regs := by
  refine ⟨_, exec_broadcastRead_instances hp h4 haon hrec ht, ?_⟩
  rw [State.bcastRead_nil hr, State.emit_out, State.emit_bankGet]
  exact ⟨rfl, State.bankGet_bankPut_same _ _ _ _ (by decide), rfl⟩

/-- A broadcast read whose instances all show the value of the first. -/
theorem broadcastRead_same {p : PathIx} {off : Offset} {s : State} {d : RegDef} {u a : Nat} {rest : List Nat}
    (hp : s.served p = true) (h4 : off.toNat % 4 = 0) (haon : (decide (p = 2) && s.aonServes) = false)
    (hrec : (s.inRecovery && !recoveryOffset off.toNat) = false) (ht : s.targets p off.toNat = some (a :: rest))
    (hr : regAt (firstInstance off.toNat) = some (d, u)) (hf : s.firstDiffers p d a rest = none) :
    exec (.broadcastRead p off) s = .next (s.begin.emit (.word (s.regValue p d a))) := by
  rw [exec_broadcastRead_instances hp h4 haon hrec ht, State.bcastRead_same hr ((s.begin_firstDiffers _ _ _ _).trans hf), State.begin_regValue]

/-- A broadcast read that meets another value. -/
theorem broadcastRead_differs {p : PathIx} {off : Offset} {s : State} {d : RegDef} {u a b : Nat} {rest : List Nat}
    (hp : s.served p = true) (h4 : off.toNat % 4 = 0) (haon : (decide (p = 2) && s.aonServes) = false)
    (hrec : (s.inRecovery && !recoveryOffset off.toNat) = false) (ht : s.targets p off.toNat = some (a :: rest))
    (hr : regAt (firstInstance off.toNat) = some (d, u)) (hf : s.firstDiffers p d a rest = some b) :
    exec (.broadcastRead p off) s = .next ((s.begin.mismatched p b).emit (.word (s.regValue p d a))) := by
  rw [exec_broadcastRead_instances hp h4 haon hrec ht, State.bcastRead_differs hr ((s.begin_firstDiffers _ _ _ _).trans hf), State.begin_regValue]

/-- Settles O9: both broadcasts that select nothing set EMPTY and change no register (R37). -/
theorem broadcastsThatSelectNothingAreEmpty : Obligations.BroadcastsThatSelectNothingAreEmpty := by
  unfold Obligations.BroadcastsThatSelectNothingAreEmpty
  refine ⟨fun p off v s hp hw h4 ht hn => ?_, fun p off s hp h4 haon hrec ht hr => broadcastRead_empty hp h4 haon hrec ht hr⟩
  exact ⟨_, broadcastWrite_empty v hp hw h4 ht hn, State.bankGet_bankPut_same _ _ _ _ (by decide), rfl, rfl⟩

/-- Settles O10: the first one reached stands lowest, its value is the answer, and the first that differs decides what
the path's flags show. -/
theorem broadcastReadsReturnTheFirstInstance : Obligations.BroadcastReadsReturnTheFirstInstance := by
  unfold Obligations.BroadcastReadsReturnTheFirstInstance
  intro p off s d u a rest hp h4 haon hrec ht hr
  refine ⟨(List.pairwise_cons.mp (State.targets_pairwise ht)).1,
    fun b m _ hm => State.regValue_shadow hm (firstInstance_rws_not_wo hr), ?_⟩
  cases hf : s.firstDiffers p d a rest with
  | none =>
    refine ⟨_, broadcastRead_same hp h4 haon hrec ht hr hf, rfl, rfl, fun b hb => ?_, fun _ => rfl⟩
    exact absurd (hf.symm.trans hb) (by simp)
  | some b =>
    refine ⟨_, broadcastRead_differs hp h4 haon hrec ht hr hf, rfl, rfl, fun c hc => ?_, fun hn => ?_⟩
    · obtain rfl : b = c := Option.some.inj (hf.symm.trans hc)
      rw [State.emit_bankGet, State.emit_bankGet]
      exact ⟨State.mismatched_mismatch _ _ _, State.mismatched_diffIndex _ _ _⟩
    · exact absurd (hf.symm.trans hn) (by simp)

end Sys2Proof.Machine

/-!
PROOF. Device time at frame and superframe boundaries (02_frame_tick_and_epochs R20 to R22, R25): of all that a boundary brings,
only the boundary itself sets device time and the superframe worked last.
-/

namespace Sys2Proof.Machine

/-! ## What leaves device time and the superframe worked last as they were -/

/-- Device time and the latest superframe whose boundary has been worked. -/
def State.clockMarks (s : State) : Nat × Nat := (s.tick.devTime, s.tick.superAt)

theorem State.clockMarks_of_tick {s t : State} (h : t.tick = s.tick) : t.clockMarks = s.clockMarks := by
  rw [State.clockMarks, State.clockMarks, h]

theorem State.clockMarks_of_outside {s t : State} {m : Nat} (h : t.outside m = s.outside m) (hm : m.testBit 1 = false) :
    t.clockMarks = s.clockMarks := State.clockMarks_of_tick (tick_of_outside h hm)

theorem State.modTick_clockMarks (s : State) {f : Tick → Tick} (hd : ∀ t, (f t).devTime = t.devTime)
    (hs : ∀ t, (f t).superAt = t.superAt) : (s.modTick f).clockMarks = s.clockMarks := by
  simp only [State.clockMarks, State.modTick_same, hd, hs]

theorem State.each_clockMarks {α : Type} (s : State) {l : List α} {f : State → α → State}
    (h : ∀ s, ∀ a ∈ l, (f s a).clockMarks = s.clockMarks) : (s.each l f).clockMarks = s.clockMarks :=
  State.each_proj State.clockMarks h s

@[simp] theorem State.sfg_tick (s : State) (f : Fld) (b : Bool) : (s.sfg f b).tick = s.tick := rfl
@[simp] theorem State.judgeAlert_tick (s : State) : s.judgeAlert.tick = s.tick := rfl
@[simp] theorem State.setPack_clockMarks (s : State) (n : Nat) : (s.setPack n).clockMarks = s.clockMarks := rfl
@[simp] theorem State.put_clockMarks (s : State) (f : Fld) (v : Nat) : (s.put f v).clockMarks = s.clockMarks := rfl
@[simp] theorem State.putSat_clockMarks (s : State) (f : Fld) (v : Nat) : (s.putSat f v).clockMarks = s.clockMarks := rfl
@[simp] theorem State.putB_clockMarks (s : State) (f : Fld) (b : Bool) : (s.putB f b).clockMarks = s.clockMarks := rfl
@[simp] theorem State.emit_clockMarks (s : State) (o : Out) : (s.emit o).clockMarks = s.clockMarks := rfl
@[simp] theorem State.modPins_clockMarks (s : State) (f : Pins → Pins) : (s.modPins f).clockMarks = s.clockMarks := rfl
@[simp] theorem State.modGauge_clockMarks (s : State) (f : Gauge → Gauge) : (s.modGauge f).clockMarks = s.clockMarks := rfl

@[simp] theorem State.event_clockMarks (s : State) (src kind sev : Nat) : (s.event src kind sev).clockMarks = s.clockMarks :=
  State.clockMarks_of_tick (s.event_tick _ _ _)

/-! ### The end of a frame -/

theorem State.missedDone_clockMarks (s : State) (u : Nat) : (s.missedDone u).clockMarks = s.clockMarks := by
  unfold State.missedDone
  dsimp only
  split
  · simp [State.clockMarks]
  · split <;> simp [State.clockMarks]

theorem State.heartbeat_clockMarks (s : State) (missing : List Nat) : (s.heartbeat missing).clockMarks = s.clockMarks :=
  (State.each_clockMarks _ fun s u _ => s.missedDone_clockMarks u).trans (s.modTick_clockMarks (fun _ => rfl) fun _ => rfl)

theorem State.ringToken_tick (s : State) (silent : List Nat) (g : Nat) : (s.ringToken silent g).tick = s.tick := by
  simp [State.ringToken, apply_ite State.tick]

theorem State.resetTaken_tick (s : State) : s.resetTaken.tick = s.tick := by
  unfold State.resetTaken
  dsimp only
  split
  · rfl
  · split
    · rfl
    · split
      · exact tick_of_outside (State.startWarmReset_outside _ 2282004305 (by decide)) (by decide)
      · simp

theorem State.railSample_tick (s : State) (k raw : Nat) : (s.railSample k raw).tick = s.tick := by
  simp only [State.railSample, apply_ite State.tick, State.event_tick, State.sfg_tick, State.putB_tick, State.modRail_tick,
    State.putSat_tick, State.put_tick, ite_self]

theorem State.railSamples_tick (s : State) (l : List (Nat × Nat)) : (s.railSamples l).tick = s.tick := by
  refine State.each_proj State.tick (fun s k _ => ?_) s
  split
  · exact s.railSample_tick _ _
  · rfl

theorem State.frameEnds_clockMarks (s : State) (i : FrameIn) : (s.frameEnds i).clockMarks = s.clockMarks :=
  calc (s.frameEnds i).clockMarks
      = (((s.railSamples i.vmon).heartbeat i.notDone).each (List.range 5) fun s g => s.ringToken i.silent g).clockMarks :=
        State.clockMarks_of_tick (State.resetTaken_tick _)
    _ = ((s.railSamples i.vmon).heartbeat i.notDone).clockMarks :=
        State.each_clockMarks _ fun s g _ => State.clockMarks_of_tick (s.ringToken_tick _ g)
    _ = (s.railSamples i.vmon).clockMarks := State.heartbeat_clockMarks _ _
    _ = s.clockMarks := State.clockMarks_of_tick (State.railSamples_tick _ _)

/-! ### The boundary's own work -/

theorem State.treesDelivered_clockMarks (s : State) : s.treesDelivered.clockMarks = s.clockMarks := rfl

theorem State.judgeObservers_tick (s : State) (silent : List Nat) : (s.judgeObservers silent).tick = s.tick := by
  unfold State.judgeObservers
  split <;> rfl

theorem State.publish_clockMarks (s : State) (missing : List Nat) : (s.publish missing).clockMarks = s.clockMarks := by
  unfold State.publish
  dsimp only
  rw [State.each_clockMarks _ fun s q _ => State.clockMarks_of_tick (s.put_tick (Reg.EXPO_Q_PATCHES q) _)]
  refine (State.modTick_clockMarks _ ?_ ?_).trans ?_
  · exact fun _ => rfl
  · exact fun _ => rfl
  · split <;> rfl

theorem State.epochAbandon_tick (s : State) : s.epochAbandon.tick = s.tick :=
  tick_of_outside (State.epochAbandon_outside s 21 (by decide)) (by decide)

theorem State.sampleGf_tick (s : State) (outside : Bool) : (s.sampleGf outside).tick = s.tick := rfl

theorem State.rideThroughEnds_tick (s : State) : s.rideThroughEnds.tick = s.tick :=
  tick_of_outside (State.rideThroughEnds_outside s 2621441 (by decide)) (by decide)

theorem State.judgeLevel_tick (s : State) : s.judgeLevel.tick = s.tick := by
  unfold State.judgeLevel
  split
  · rfl
  · dsimp only
    rw [State.each_proj State.tick fun s h _ => s.put_tick _ _]
    simp [apply_ite State.tick]

theorem State.paces_tick (s : State) : s.paces.tick = s.tick :=
  State.each_proj State.tick (fun s q _ => s.modQuad_tick q _) s

theorem State.unitsFrame_tick (s : State) (i : FrameIn) : (s.unitsFrame i).tick = s.tick := by
  unfold State.unitsFrame
  dsimp only
  rw [tick_of_outside (State.deferredRetire_outside _ 262673 (by decide)) (by decide),
    tick_of_outside (State.keyUsageSum_outside _ 32785 (by decide)) (by decide),
    tick_of_outside (State.gaugeFrame_outside _ _ 2162705 (by decide)) (by decide),
    tick_of_outside (State.tokenAllot_outside _ _ _ 2097153 (by decide)) (by decide),
    tick_of_outside (State.learnRegulate_outside _ 589824 (by decide)) (by decide),
    State.each_proj State.tick fun s n _ => tick_of_outside (State.trackGo_outside s n 1024 (by decide)) (by decide),
    State.paces_tick, tick_of_outside (State.wearFrame_outside _ 529 (by decide)) (by decide),
    tick_of_outside (State.poisonGoes_outside _ 2957006417 (by decide)) (by decide), State.judgeLevel_tick,
    tick_of_outside (State.keepCredits_outside _ 4096 (by decide)) (by decide),
    tick_of_outside (State.headFrame_outside _ 12289 (by decide)) (by decide)]

/-- What follows the boundary itself leaves device time and the superframe worked last as they were. -/
theorem State.boundaryWork_clockMarks (s : State) (i : FrameIn) :
    (((((s.treesDelivered.judgeObservers i.silent).publish i.notDone).epochAbandon).sampleGf i.groupFault).rideThroughEnds).clockMarks =
      s.clockMarks :=
  calc _ = ((s.treesDelivered.judgeObservers i.silent).publish i.notDone).clockMarks := State.clockMarks_of_tick
          ((State.rideThroughEnds_tick _).trans ((State.sampleGf_tick _ _).trans (State.epochAbandon_tick _)))
    _ = (s.treesDelivered.judgeObservers i.silent).clockMarks := State.publish_clockMarks _ _
    _ = s.treesDelivered.clockMarks := State.clockMarks_of_tick (State.judgeObservers_tick _ _)
    _ = s.clockMarks := s.treesDelivered_clockMarks

/-- Of a FRAME_BOUNDARY's work nothing but the boundary itself moves device time (R20). -/
theorem State.frameBoundary_devTime (s : State) (i : FrameIn) :
    (s.frameBoundary i).tick.devTime = (s.tick.devTime / 1024 + 1) * 1024 := by
  have ends : (s.frameEnds i).tick.devTime = s.tick.devTime := congrArg Prod.fst (s.frameEnds_clockMarks i)
  unfold State.frameBoundary
  dsimp only
  rw [apply_ite State.tick, State.unitsFrame_tick, ite_self, ← ends]
  refine (congrArg Prod.fst (State.boundaryWork_clockMarks _ i)).trans ?_
  split <;> rfl

/-! ## The clock commands -/

theorem exec_frameBoundary {s : State} (i : FrameIn) (clocks : s.tick.clocksOn = true) (on : s.mainOff = false) :
    exec (.frameBoundary i) s = .next (s.begin.frameBoundary i) := by
  show execFrameBoundary i s = _
  simp [execFrameBoundary, occurs, clocks, on]

theorem exec_frameBoundary_devTime {s : State} (i : FrameIn) (clocks : s.tick.clocksOn = true) (on : s.mainOff = false) :
    ∃ t, exec (.frameBoundary i) s = .next t ∧ t.tick.devTime = (s.tick.devTime / 1024 + 1) * 1024 :=
  ⟨_, exec_frameBoundary i clocks on, s.begin.frameBoundary_devTime i⟩

/-- Settles O8: the boundary lies at the next multiple of 1,024 ns, of which frame and superframe number are the quotients. -/
theorem frameBoundariesAreMultiplesOf1024 : Obligations.FrameBoundariesAreMultiplesOf1024 := by
  unfold Obligations.FrameBoundariesAreMultiplesOf1024
  intro i s clocks on
  obtain ⟨t, step, time⟩ := exec_frameBoundary_devTime i clocks on
  refine ⟨t, step, by omega, by omega, by omega, ?_, ?_⟩
  · exact (Nat.shiftRight_eq_div_pow _ 10).symm
  · exact (Nat.shiftRight_eq_div_pow _ 20).symm

/-! ### What a superframe boundary brings -/

theorem State.clockCheck_tick (s : State) (xtal aon : Nat) : (s.clockCheck xtal aon).tick = s.tick := by
  simp [State.clockCheck, apply_ite State.tick]

theorem State.dieTemps_tick (s : State) (l : List (Option Int)) : (s.dieTemps l).tick = s.tick := by
  unfold State.dieTemps
  dsimp only
  rw [State.modSeq_tick, apply_ite State.tick, State.event_tick, ite_self]
  exact State.each_proj State.tick (fun s _ _ => s.event_tick _ _ _) s

theorem State.plumbMismatch_tick (s : State) (f : Nat × Nat × Bool) : (s.plumbMismatch f).tick = s.tick := by
  obtain ⟨cls, unit, own⟩ := f
  simp only [State.plumbMismatch, State.eventAt_tick, State.putB_tick, State.modPlumb_tick, State.takeFree_tick,
    apply_ite State.tick, State.put_tick, ite_self]

theorem State.plumbCheck_tick (s : State) (folds : List (Nat × Nat × Bool)) : (s.plumbCheck folds).tick = s.tick :=
  State.each_proj State.tick (fun s f _ => s.plumbMismatch_tick f) _

theorem State.judgeLimits_tick (s : State) : s.judgeLimits.tick = s.tick := State.sfg_tick _ _ _

theorem State.scSuperframe_tick (s : State) (n : Nat) : (s.scSuperframe n).tick = s.tick := by
  simp only [State.scSuperframe, State.modSc_tick, apply_ite State.tick, State.event_tick, ite_self]

theorem State.skimRate_tick (s : State) : s.skimRate.tick = s.tick :=
  State.each_proj State.tick (fun s q _ => s.modQuad_tick q _) _

theorem State.railRetries_tick (s : State) : s.railRetries.tick = s.tick := by
  refine State.each_proj State.tick (fun s k _ => ?_) s
  split <;> rfl

theorem State.learnGrantEnds_tick (s : State) (p : Nat) : (s.learnGrantEnds p).tick = s.tick :=
  tick_of_outside (State.learnGrantEnds_outside s p 2148597761 (by decide)) (by decide)

theorem State.learnEnd_clockMarks (s : State) (result : Nat) (ns : Bool) : (s.learnEnd result ns).clockMarks = s.clockMarks := by
  have given : ∀ (s : State) (p : Nat), (s.learnGrantEnds p).clockMarks = s.clockMarks := fun s p =>
    State.clockMarks_of_tick (s.learnGrantEnds_tick p)
  simp only [State.learnEnd, apply_ite State.clockMarks, given, State.emit_clockMarks, State.putB_clockMarks,
    State.put_clockMarks, State.modGauge_clockMarks, State.event_clockMarks, State.setPack_clockMarks,
    State.modPins_clockMarks, ite_self]

theorem State.learnVoid_clockMarks (s : State) (result : Nat) : (s.learnVoid result).clockMarks = s.clockMarks := by
  unfold State.learnVoid
  split
  · exact s.learnEnd_clockMarks _ _
  · rfl

theorem State.judgePack_clockMarks (s : State) : s.judgePack.clockMarks = s.clockMarks := by
  have fet : ∀ s : State, s.judgeFet.clockMarks = s.clockMarks := fun s =>
    State.clockMarks_of_outside (State.judgeFet_outside s 524305 (by decide)) (by decide)
  have charger : ∀ (s : State) (b : Bool), (s.driveChg b).clockMarks = s.clockMarks := fun s b =>
    State.clockMarks_of_outside (State.driveChg_outside s b 524289 (by decide)) (by decide)
  simp only [State.judgePack, fet, State.setPack_clockMarks, apply_ite State.clockMarks, charger, State.learnVoid_clockMarks,
    State.put_clockMarks, ite_self]

theorem State.packFault_clockMarks (s : State) (code src kind : Nat) : (s.packFault code src kind).clockMarks = s.clockMarks := by
  unfold State.packFault
  split
  · rfl
  · exact (State.judgePack_clockMarks _).trans (State.clockMarks_of_tick (State.event_tick _ _ _ _))

theorem State.packClear_clockMarks (s : State) (code : Nat) : (s.packClear code).clockMarks = s.clockMarks :=
  State.judgePack_clockMarks _

/-- A step that is taken on a condition. -/
theorem State.ite_clockMarks {c : Prop} [Decidable c] {s t u : State} (ht : t.clockMarks = u.clockMarks)
    (hs : s.clockMarks = u.clockMarks) : (if c then t else s).clockMarks = u.clockMarks := by
  split
  · exact ht
  · exact hs

theorem State.superFaults_clockMarks (s : State) : s.superFaults.clockMarks = s.clockMarks := by
  unfold State.superFaults
  extract_lets v0 v1 t valid s1 s2 src s3 s4 s5 s6 s7 apart s8 high
  have alert : s1.clockMarks = s.clockMarks := State.ite_clockMarks (State.packFault_clockMarks _ _ _ _) rfl
  have cells : s2.clockMarks = s1.clockMarks := State.ite_clockMarks (State.packFault_clockMarks _ _ _ _)
    (State.ite_clockMarks (State.packFault_clockMarks _ _ _ _) rfl)
  have hot : s3.clockMarks = s2.clockMarks := State.ite_clockMarks (State.packFault_clockMarks _ _ _ _) rfl
  have cool : s5.clockMarks = s4.clockMarks := State.ite_clockMarks (State.packClear_clockMarks _ _) rfl
  have lost : s6.clockMarks = s5.clockMarks := State.ite_clockMarks rfl (State.packFault_clockMarks _ _ _ _)
  have back : s7.clockMarks = s6.clockMarks := State.ite_clockMarks (State.packClear_clockMarks _ _) rfl
  have uneven : s8.clockMarks = s7.clockMarks := State.ite_clockMarks (State.event_clockMarks _ _ _ _) rfl
  exact uneven.trans (back.trans (lost.trans (cool.trans (hot.trans (cells.trans alert)))))

theorem State.budget_clockMarks (s : State) : s.budget.clockMarks = s.clockMarks := by
  simp only [State.budget, State.clockMarks, apply_ite State.tick, apply_ite Tick.devTime, apply_ite Tick.superAt,
    State.modTick_same, State.modGauge_tick, State.event_tick, ite_self]

theorem State.gaugeSuperframe_clockMarks (s : State) (i : SuperIn) : (s.gaugeSuperframe i).clockMarks = s.clockMarks := by
  have charged : ∀ s : State, (s.startCharger i).clockMarks = s.clockMarks := fun s =>
    State.clockMarks_of_outside (State.startCharger_outside s i 2147549201 (by decide)) (by decide)
  have read : ∀ s : State, (s.readSerial i).clockMarks = s.clockMarks := fun s =>
    State.clockMarks_of_outside (State.readSerial_outside s i 2147549201 (by decide)) (by decide)
  have present : ∀ s : State, (s.presence i).clockMarks = s.clockMarks := fun s =>
    State.clockMarks_of_outside (State.presence_outside s i 2147549201 (by decide)) (by decide)
  have measured : (s.measure i).clockMarks = s.clockMarks :=
    State.clockMarks_of_outside (State.measure_outside s i 65553 (by decide)) (by decide)
  simp only [State.gaugeSuperframe, State.budget_clockMarks, State.putSat_clockMarks, State.put_clockMarks,
    State.judgePack_clockMarks, State.superFaults_clockMarks, charged, read, present, measured]

/-- SUPERFRAME_BOUNDARY marks its superframe as worked and leaves device time. -/
theorem State.superframeBoundary_clockMarks (s : State) (i : SuperIn) :
    (s.superframeBoundary i).clockMarks = (s.tick.devTime, s.sf) := by
  have checked : ∀ s : State, ((s.clockCheck i.xtal i.aon).dieTemps i.dieTemps).clockMarks = s.clockMarks := fun s =>
    State.clockMarks_of_tick ((State.dieTemps_tick _ _).trans (State.clockCheck_tick _ _ _))
  unfold State.superframeBoundary
  dsimp only
  split
  · exact checked _
  · rw [State.gaugeSuperframe_clockMarks, State.clockMarks_of_tick (State.railRetries_tick _),
      State.clockMarks_of_tick (State.skimRate_tick _),
      State.each_clockMarks _ fun s n _ => State.clockMarks_of_tick (s.scSuperframe_tick n)]
    exact (State.clockMarks_of_tick ((State.judgeLimits_tick _).trans (State.plumbCheck_tick _ _))).trans (checked _)

theorem exec_superframeBoundary_marks {s : State} (i : SuperIn) (clocks : s.tick.clocksOn = true) (on : s.mainOff = false)
    (multiple : s.tick.devTime % 1048576 = 0) (fresh : s.tick.superAt < s.sf) :
    ∃ t, exec (.superframeBoundary i) s = .next t ∧ t.tick.superAt = s.sf ∧ t.tick.devTime = s.tick.devTime := by
  show ∃ t, execSuperframeBoundary i s = .next t ∧ _
  have marks := s.begin.superframeBoundary_clockMarks i
  exact yields_occurs (by simp [clocks, on, multiple, fresh]) ⟨congrArg Prod.snd marks, congrArg Prod.fst marks⟩

/-! ### A late tree (R25, R496) -/

/-- A one-bit field among the low eight that is clear keeps the low byte from being all ones. -/
theorem Fld.low_byte_of_clear {f : Fld} {w : Word} (h : f.of w = 0) (hw : f.width = 1) (hlo : f.lo < 8) : w.toNat % 256 ≠ 255 := by
  intro full
  have ones : (w.toNat % 2 ^ 8).testBit f.lo = (2 ^ 8 - 1).testBit f.lo := congrArg (·.testBit f.lo) full
  have bit : (f.of w).testBit 0 = (0 : Nat).testBit 0 := congrArg (·.testBit 0) h
  rw [Nat.testBit_mod_two_pow, Nat.testBit_two_pow_sub_one] at ones
  rw [f.of_testBit, hw] at bit
  simp [hlo, BitVec.testBit_toNat] at ones bit
  simp [ones] at bit

/-- A condition of the single-fault status judged as failed reads 0, and HOLDS with it (R496). -/
theorem State.sfg_false {s : State} {f : Fld} (hoff : f.off = 0x020070) (hw : f.width = 1) (hlo : f.lo < 8) :
    (s.sfg f false).flag f = false ∧ (s.sfg f false).flag Reg.EVT_SFG_STATUS_HOLDS = false := by
  have clear : (s.putB f false).get f = 0 := State.get_putB_same _ _ _ (by omega) hw
  have low : decide (((s.putB f false).rd 0x020070).toNat % 256 = 255) = false :=
    decide_eq_false (Fld.low_byte_of_clear (hoff ▸ clear) hw hlo)
  have apart : f.apart Reg.EVT_SFG_STATUS_HOLDS = true := by
    simp only [Fld.apart, Bool.or_eq_true, decide_eq_true_eq]
    exact .inl (.inr (by rw [hw]; exact hlo))
  unfold State.sfg State.judgeSfg
  rw [low]
  refine ⟨?_, State.flag_putB_same _ _ _ (by decide) rfl⟩
  rw [State.flag_putB_other _ _ _ _ (by decide) apart]
  exact State.flag_putB_same _ _ _ (by omega) hw

theorem exec_tickSkew {s : State} (treeB : Bool) (clocks : s.tick.clocksOn = true) (on : s.mainOff = false) :
    ∃ t, exec (.tickSkew treeB) s = .next t ∧
      t.flag (if treeB then Reg.TICK_STATUS_TICK_B_OK else Reg.TICK_STATUS_TICK_A_OK) = false ∧
      t.pends (if treeB then 0x4E3 else 0x4E2) = true ∧
      t.flag Reg.EVT_SFG_STATUS_OBSERVERS = false ∧ t.flag Reg.EVT_SFG_STATUS_HOLDS = false := by
  show ∃ t, execTickSkew treeB s = .next t ∧ _
  have observers : ∀ s : State, (s.sfg Reg.EVT_SFG_STATUS_OBSERVERS false).flag Reg.EVT_SFG_STATUS_OBSERVERS = false ∧
      (s.sfg Reg.EVT_SFG_STATUS_OBSERVERS false).flag Reg.EVT_SFG_STATUS_HOLDS = false := fun s =>
    State.sfg_false rfl rfl (by decide)
  cases treeB <;>
  · refine yields_occurs (by simp [clocks, on]) ⟨?_, State.event_pends _ _ _ _, observers _⟩
    refine (State.flag_of_rd (State.rd_sfg _ _ rfl (by decide))).trans ?_
    refine (State.flag_event _ _ _ _ _ (by decide) (by decide)).trans ?_
    exact State.flag_putB_same _ _ _ (by decide) rfl

/-! ### The clocks before the main domain runs (R21, R22) -/

theorem exec_aonTick_before_main {s : State} (powered : s.tick.aonPowered = true) (stopped : s.tick.clocksOn = false) :
    ∃ t, exec .aonTick s = .next t ∧
      t.tick.devTime = max (s.tick.aonCount + (if 64 ≤ s.tick.aonFrac + 37 then 30518 else 30517)) s.tick.devTime ∧
      t.tick.aonCount = t.tick.devTime ∧ t.tick.clocksOn = s.tick.starting ∧ t.regs = s.regs := by
  show ∃ t, execAonTick s = .next t ∧ _
  refine yields_occurs powered ?_
  have off : s.begin.tick.clocksOn = false := stopped
  simp only [State.aonTick, off, Bool.false_eq_true, if_false]
  exact ⟨rfl, trivial, rfl, rfl⟩

theorem exec_mainClockStart {s : State} (powered : s.tick.aonPowered = true) (stopped : s.tick.clocksOn = false)
    (on : s.seq.power ≠ .off) : exec .mainClockStart s = .next { s with out := [], tick := { s.tick with starting := true } } := by
  show execMainClockStart s = _
  simp [execMainClockStart, occurs, powered, stopped, on, State.begin]

/-- Settles O19: each clock command by what it moves, a late tree by the judgment that it brings. -/
theorem clockCommandsMoveTime : Obligations.ClockCommandsMoveTime := by
  unfold Obligations.ClockCommandsMoveTime
  refine ⟨?_, ?_, ?_, ?_, ?_⟩
  · exact fun s i clocks on => exec_frameBoundary_devTime i clocks on
  · exact fun s i clocks on multiple fresh => exec_superframeBoundary_marks i clocks on multiple fresh
  · exact fun s b clocks on => exec_tickSkew b clocks on
  · exact fun s powered stopped => exec_aonTick_before_main powered stopped
  · exact fun s powered stopped on => exec_mainClockStart powered stopped on

end Sys2Proof.Machine

/-! PROOF. The state right after reset (R23, R572). -/

namespace Sys2Proof.Machine

/-- Settles O2: nothing is listed at reset, so every register shows its reset word and every queue is empty. -/
theorem resetLeavesTheBlockOff : Obligations.ResetLeavesTheBlockOff := by
  unfold Obligations.ResetLeavesTheBlockOff
  have none_listed : State.reset.regs = [] := rfl
  have unsealed : State.reset.isSealed = false := State.isSealed_of_reset none_listed
  exact ⟨none_listed, fun _ => rfl, rfl, rfl, rfl, unsealed, rfl, rfl, fun _ => rfl, rfl, fun _ => ⟨rfl, rfl⟩, rfl⟩

end Sys2Proof.Machine

/-!
PROOF. Two writes of one cycle (02_frame_tick_and_epochs R29, R32): the order in which paths are granted, and DEV_SCRATCH as the
one granted last leaves it.
-/

namespace Sys2Proof.Machine

/-! ## The order of two grants -/

/-- A path's turn among the five positions, counted from the pointer of FRAME_NUM with SEED 0. -/
def State.turn (s : State) (p : Nat) : Nat := (p + 5 - s.ptr 0 5) % 5

theorem State.turn_eq_iff (s : State) (p : PathIx) {i : Nat} (hi : i < 5) : p.val = (s.ptr 0 5 + i) % 5 ↔ i = s.turn p := by
  have pointer : s.ptr 0 5 < 5 := Nat.mod_lt _ (by decide)
  have position := p.isLt
  unfold State.turn
  omega

/-- Of two accesses, a walk over the five turns takes the one with the earlier turn first. -/
theorem two_turns {α : Type} {a b : α} {i j : Nat} (hij : i < j) (hj : j < 5) :
    ((List.range 5).flatMap fun k => (if k = i then [a] else []) ++ (if k = j then [b] else [])) = [a, b] ∧
    ((List.range 5).flatMap fun k => (if k = j then [b] else []) ++ (if k = i then [a] else [])) = [a, b] := by
  interval_cases j <;> interval_cases i <;> exact ⟨rfl, rfl⟩

theorem State.grantOrder_pair_eq (s : State) (a b : RegAccess) : s.grantOrder [a, b] = (List.range 5).flatMap fun k =>
    (if k = s.turn a.path then [a] else []) ++ (if k = s.turn b.path then [b] else []) := by
  refine List.flatMap_congr fun k hk => ?_
  have turn : ∀ x : RegAccess, decide (x.path.val = (s.ptr 0 5 + k) % 5) = decide (k = s.turn x.path) := fun x =>
    decide_eq_decide.mpr (s.turn_eq_iff x.path (List.mem_range.mp hk))
  simp only [turn, List.filter_cons, List.filter_nil, decide_eq_true_eq]
  split <;> split <;> rfl

/-- The access with the earlier turn is granted first, in whichever order the two are named (R32). -/
theorem State.grantOrder_pair {s : State} {a b : RegAccess} (h : s.turn a.path < s.turn b.path) :
    s.grantOrder [a, b] = [a, b] ∧ s.grantOrder [b, a] = [a, b] := by
  have last : s.turn b.path < 5 := Nat.mod_lt _ (by decide)
  rw [State.grantOrder_pair_eq, State.grantOrder_pair_eq]
  exact two_turns h last

/-! ## A write to DEV_SCRATCH -/

/-- A register below the persistence block decides nothing about which paths are served. -/
theorem State.served_wr {s : State} {off : Nat} (w : Word) (p : Nat) (h : off < 0x030000) : (s.wr off w).served p = s.served p := by
  have flags : ∀ f : Fld, 0x030000 ≤ f.off → (s.wr off w).flag f = s.flag f := fun f hf =>
    State.flag_of_rd (s.rd_wr_other w (by omega))
  have heads : ∀ k, (s.wr off w).ldHead k = s.ldHead k := fun k =>
    State.get_of_rd (s.rd_wr_other w (by show 0x081000 + 0x20 * k + 0 ≠ off; omega))
  have lds : ∀ k, 0x030000 ≤ Machine.ldBase k + 0 := fun k => by unfold Machine.ldBase; omega
  have isSealed : (s.wr off w).isSealed = s.isSealed := flags _ (by decide)
  have mgmt : ∀ h, (s.wr off w).headMgmt h = s.headMgmt h := fun h => by
    simp only [State.headMgmt, State.ldOn, heads, flags (Reg.LD_CFG_ENABLE _) (lds _), flags (Reg.LD_CFG_MGMT _) (lds _)]
  have off' : (s.wr off w).mainOff = s.mainOff := rfl
  have recovery : (s.wr off w).inRecovery = s.inRecovery := rfl
  simp only [State.served, isSealed, mgmt, off', recovery, flags (Reg.FAB_STATUS_LINK_UP 0) (by decide),
    flags (Reg.FAB_STATUS_LINK_UP 1) (by decide), State.wr_cluster]

/-- Such a register opens and shuts no window of Table 20.6. -/
theorem State.writeShut_wr {s : State} {off : Nat} (w : Word) (p x : Nat) (h : off < 0x030000) :
    (s.wr off w).writeShut p x = s.writeShut p x := by
  have flags : ∀ f : Fld, 0x030000 ≤ f.off → (s.wr off w).flag f = s.flag f := fun f hf =>
    State.flag_of_rd (s.rd_wr_other w (by omega))
  have isSealed : (s.wr off w).isSealed = s.isSealed := flags _ (by decide)
  have off' : (s.wr off w).mainOff = s.mainOff := rfl
  have aon : (s.wr off w).aonServes = s.aonServes := rfl
  have recovery : (s.wr off w).inRecovery = s.inRecovery := rfl
  simp only [State.writeShut, isSealed, off', aon, recovery, flags Reg.PERS_STATUS_SAVE_ACTIVE (by decide)]

/-- DEV_SCRATCH takes the written word whole (Table 20.9). -/
theorem State.writeMapped_scratch {s : State} {p : PathIx} (v : Word) (hp : s.served p = true) (hw : s.writeShut p 0x40 = false) :
    s.writeMapped p 0x40 v = s.wr 0x40 v := by
  obtain ⟨d, hd, hrw, hrwl, hrws, hrw1c⟩ : ∃ d, regAt 0x40 = some (d, 0) ∧ accMask d .rw = BitVec.allOnes 32 ∧
      accMask d .rwl = 0#32 ∧ accMask d .rws = 0#32 ∧ accMask d .rw1c = 0#32 := ⟨_, rfl, by decide, by decide, by decide, by decide⟩
  have unicast : s.targets p 0x40 = none := rfl
  have plain : s.splits [0x40] = false := State.splits_of_no_common fun a h => by
    rw [List.mem_singleton.mp h, cfgMask_of_regAt hd, hrws, hrwl, BitVec.or_zero, BitVec.and_zero]
  have unsealed : ∀ a ∈ [0x40], s.rwlDiffers v a = false := fun a h => by
    rw [List.mem_singleton.mp h]
    exact State.rwlDiffers_of_no_rwl v hd hrwl
  have whole : d.after s.isSealed (decide (p.val = 4)) (s.rd 0x40) v = v := by
    simp only [RegDef.after, hrw, hrwl, hrws, hrw1c, ite_self, BitVec.or_zero, BitVec.and_zero, BitVec.not_allOnes,
      BitVec.zero_or, BitVec.and_allOnes, and_not_zero]
  rw [State.writeMapped_of_open v hp hw (State.noRegister_of_regAt unicast (Bool.and_false _) hd), unicast, State.writeTo,
    State.writeAll_of_plain _ _ plain unsealed, State.each, List.foldl_cons, List.foldl_nil,
    State.writeAt_of_plain _ _ _ hd rfl (by decide), State.fieldsWrite_of_no_rws _ _ _ _ hrws, whole]

/-! ## Two writes of one cycle -/

/-- Two word accesses of one cycle are two mapped writes, in the order of their grants. -/
theorem exec_registerWrite_pair {s : State} {l : List RegAccess} {p q : PathIx} {off : Offset} {v w : Word}
    (order : s.grantOrder l = [wordAccess p off v, wordAccess q off w]) (h : off.toNat % 4 = 0) :
    exec (.registerWrite l) s = .next ((s.begin.writeMapped p off.toNat v).writeMapped q off.toNat w) := by
  show execRegisterWrite l s = _
  simp only [execRegisterWrite, order, State.each, List.foldl_cons, List.foldl_nil, State.writePart_one_wordAccess,
    State.writePart_wordAccess _ _ _ _ h]

/-- The value of the path granted last stands in DEV_SCRATCH, and no other register changes. -/
theorem registerWrite_scratch_pair {s : State} {l : List RegAccess} {p q : PathIx} {v w : Word}
    (order : s.grantOrder l = [wordAccess p 0x40 v, wordAccess q 0x40 w]) (hp : s.served p = true) (hq : s.served q = true)
    (hpw : s.writeShut p 0x40 = false) (hqw : s.writeShut q 0x40 = false) :
    ∃ t, exec (.registerWrite l) s = .next t ∧ (t.rd 0x40 = w ∧ ∀ x, x ≠ 0x40 → t.rd x = s.rd x) := by
  have first : s.begin.writeMapped p 0x40 v = s.begin.wr 0x40 v := State.writeMapped_scratch v hp hpw
  have second : (s.begin.wr 0x40 v).writeMapped q 0x40 w = (s.begin.wr 0x40 v).wr 0x40 w :=
    State.writeMapped_scratch w ((State.served_wr v q (by decide)).trans hq) ((State.writeShut_wr v q _ (by decide)).trans hqw)
  refine ⟨_, exec_registerWrite_pair order rfl, ?_⟩
  show ((s.begin.writeMapped p 0x40 v).writeMapped q 0x40 w).rd 0x40 = w ∧
    ∀ x, x ≠ 0x40 → ((s.begin.writeMapped p 0x40 v).writeMapped q 0x40 w).rd x = s.rd x
  rw [first, second]
  exact ⟨State.rd_wr_same _ _ _, fun x hx => (State.rd_wr_other _ _ hx).trans (State.rd_wr_other _ _ hx)⟩

/-- Settles O18: the path nearer to the pointer is granted first in either order, so the other one's write is the last. -/
theorem theWriteGrantedLastStands : Obligations.TheWriteGrantedLastStands := by
  unfold Obligations.TheWriteGrantedLastStands
  intro p q v w s hp hq hpw hqw nearer
  obtain ⟨named, swapped⟩ := State.grantOrder_pair (a := wordAccess p 0x40 v) (b := wordAccess q 0x40 w) nearer
  exact ⟨registerWrite_scratch_pair named hp hq hpw hqw, registerWrite_scratch_pair swapped hp hq hpw hqw⟩

end Sys2Proof.Machine

/-!
PROOF. The group's shared faults and saves (14_power_sequencing R442 to R446; 02_frame_tick_and_epochs R50; 05_save R112, R113):
what a save trigger that a group message brings leaves behind, and what the group commands keep of their members.
-/

namespace Sys2Proof.Machine

/-! ## A save trigger of CAUSE 4 (R112, R113) -/

/-- A save trigger writes no register but SAVE_STATUS. -/
theorem State.rd_saveTrigger (s : State) (cause : Nat) {x : Nat} (h : x ≠ 0x030408) : (s.saveTrigger cause).rd x = s.rd x := by
  unfold State.saveTrigger
  split
  · exact State.rd_put_other _ _ _ h
  · split
    · split <;> rfl
    · exact (State.rd_put_other _ _ _ h).trans rfl

/-- A trigger without a save on its way opens one: its detection frame, its cause, and whether a group save was asked for. -/
theorem State.saveTrigger_detects {s : State} (cause : Nat) (inactive : s.flag Reg.PERS_STATUS_SAVE_ACTIVE = false)
    (none_ : s.save.frame0 = none) : (s.saveTrigger cause).save.frame0 = some s.frame ∧ (s.saveTrigger cause).save.causes = [cause] ∧
      (s.saveTrigger cause).save.groupOff = s.save.groupOff := by
  simp only [State.saveTrigger, inactive, none_, Bool.false_eq_true, if_false]
  exact ⟨rfl, rfl, rfl⟩

/-- A group's trigger is a save trigger while triggers are armed or a save is on its way, and nothing otherwise (R608). -/
theorem State.trigger_group (s : State) : s.trigger 4 =
    if s.flag Reg.SEQ_STATUS_ARMED || s.flag Reg.PERS_STATUS_SAVE_ACTIVE || s.save.frame0.isSome then s.saveTrigger 4 else s := rfl

theorem State.trigger_group_armed {s : State} (armed : s.flag Reg.SEQ_STATUS_ARMED = true) : s.trigger 4 = s.saveTrigger 4 := by
  rw [State.trigger_group, armed, Bool.true_or, Bool.true_or, if_pos rfl]

/-- A group's trigger while triggers are armed and no save is on its way. -/
theorem State.groupTrigger_detects {s : State} (down : Bool) (armed : s.flag Reg.SEQ_STATUS_ARMED = true)
    (inactive : s.flag Reg.PERS_STATUS_SAVE_ACTIVE = false) (none_ : s.save.frame0 = none) :
    ((s.modSave fun x => { x with groupOff := down }).trigger 4).save.frame0 = some s.frame ∧
    ((s.modSave fun x => { x with groupOff := down }).trigger 4).save.causes = [4] ∧
    ((s.modSave fun x => { x with groupOff := down }).trigger 4).save.groupOff = down := by
  have armed' : (s.modSave fun x => { x with groupOff := down }).flag Reg.SEQ_STATUS_ARMED = true := armed
  rw [State.trigger_group_armed armed']
  exact State.saveTrigger_detects 4 inactive none_

theorem State.trigger_group_pins (s : State) : (s.trigger 4).pins = s.pins :=
  pins_of_outside (State.trigger_outside s 4 2359313 (by decide)) (by decide)

theorem State.trigger_group_events (s : State) : (s.trigger 4).events = s.events := by
  rw [State.trigger_group]
  split
  · exact events_of_outside (State.saveTrigger_outside s 4 2097153 (by decide)) (by decide)
  · rfl

theorem State.rd_trigger_group (s : State) {x : Nat} (h : x ≠ 0x030408) : (s.trigger 4).rd x = s.rd x := by
  rw [State.trigger_group]
  split
  · exact s.rd_saveTrigger 4 h
  · rfl

/-! ## The group fault line (R442) -/

/-- GRP_FAULT_N as it is seen asserted: the pin's sample, GF_IN and the message. -/
def State.groupFaultSeen (s : State) : State :=
  ((s.modPins fun p => { p with grpFaultIn := true }).putB Reg.SEQ_STATUS_GF_IN true).event 0x4A6 1 Sev.note

theorem State.groupFaultSeen_shows (s : State) : s.groupFaultSeen.pins.grpFaultIn = true ∧
    s.groupFaultSeen.flag Reg.SEQ_STATUS_GF_IN = true ∧ s.groupFaultSeen.pends 0x4A6 = true := by
  refine ⟨?_, ?_, State.event_pends _ _ _ _⟩
  · rw [State.groupFaultSeen, State.event_pins]
    rfl
  · exact (State.flag_event _ _ _ _ _ (by decide) (by decide)).trans (State.flag_putB_same _ _ _ (by decide) rfl)

theorem State.flag_groupFaultSeen (s : State) {f : Fld} (apart : f.apart Reg.SEQ_STATUS_GF_IN = true)
    (h1 : f.off ≠ 0x023000 + 0x4 * 0x4A6) (h2 : f.off ≠ 0x020050) : s.groupFaultSeen.flag f = s.flag f :=
  (State.flag_event _ _ _ _ _ h1 h2).trans (State.flag_putB_other _ _ _ _ (by decide) apart)

theorem State.groupFaultSeen_save (s : State) : s.groupFaultSeen.save = s.save := State.event_save _ _ _ _
theorem State.groupFaultSeen_frame (s : State) : s.groupFaultSeen.frame = s.frame := State.event_frame _ _ _ _

/-- The trigger that a group fault brings where SAVE_CTRL.GRP_FAULT_SAVE asks for one. -/
def State.groupFaultTriggers (s : State) : State :=
  (if s.save.frame0.isNone ∧ ¬ s.flag Reg.PERS_STATUS_SAVE_ACTIVE then s.modSave fun x => { x with groupOff := false } else s).trigger 4

/-- The trigger leaves what the line showed. -/
theorem State.groupFaultTriggers_keeps (s : State) : s.groupFaultTriggers.pins = s.pins ∧
    s.groupFaultTriggers.flag Reg.SEQ_STATUS_GF_IN = s.flag Reg.SEQ_STATUS_GF_IN ∧
    s.groupFaultTriggers.pends 0x4A6 = s.pends 0x4A6 := by
  unfold State.groupFaultTriggers
  refine ⟨(State.trigger_group_pins _).trans ?_, (State.flag_of_rd (State.rd_trigger_group _ (by decide))).trans ?_,
    (State.pends_congr (congrArg Events.pending (State.trigger_group_events _)) _).trans ?_⟩ <;>
  · split <;> rfl

theorem State.groupFaultTriggers_detects {s : State} (armed : s.flag Reg.SEQ_STATUS_ARMED = true)
    (inactive : s.flag Reg.PERS_STATUS_SAVE_ACTIVE = false) (none_ : s.save.frame0 = none) :
    s.groupFaultTriggers.save.frame0 = some s.frame ∧ s.groupFaultTriggers.save.causes = [4] := by
  have asked : s.save.frame0.isNone = true ∧ ¬ s.flag Reg.PERS_STATUS_SAVE_ACTIVE = true := by simp [inactive, none_]
  unfold State.groupFaultTriggers
  rw [if_pos asked]
  obtain ⟨frame, causes, _⟩ := State.groupTrigger_detects false armed inactive none_
  exact ⟨frame, causes⟩

theorem exec_grpFaultAssert {s : State} (on : s.mainOff = false) (out : s.pins.grpFaultOut = false)
    (drove : s.pins.grpDrove = none) : exec .grpFaultAssert s = .next
      (if s.begin.groupFaultSeen.flag Reg.SAVE_CTRL_GRP_FAULT_SAVE then s.begin.groupFaultSeen.groupFaultTriggers
       else s.begin.groupFaultSeen) := by
  show execGrpFaultAssert s = _
  simp only [execGrpFaultAssert, occurs, on, out, drove, Bool.not_false, Bool.and_self, if_true]
  rfl

theorem grpFaultAssert_shows {s : State} (on : s.mainOff = false) (out : s.pins.grpFaultOut = false)
    (drove : s.pins.grpDrove = none) : ∃ t, exec .grpFaultAssert s = .next t ∧ t.pins.grpFaultIn = true ∧
      t.flag Reg.SEQ_STATUS_GF_IN = true ∧ t.pends 0x4A6 = true ∧
      (s.flag Reg.SAVE_CTRL_GRP_FAULT_SAVE = true → s.flag Reg.SEQ_STATUS_ARMED = true →
        s.flag Reg.PERS_STATUS_SAVE_ACTIVE = false → s.save.frame0 = none →
        t.save.frame0 = some s.frame ∧ t.save.causes = [4]) := by
  refine ⟨_, exec_grpFaultAssert on out drove, ?_⟩
  obtain ⟨pin, bit, waits⟩ := s.begin.groupFaultSeen_shows
  have asks : s.begin.groupFaultSeen.flag Reg.SAVE_CTRL_GRP_FAULT_SAVE = s.flag Reg.SAVE_CTRL_GRP_FAULT_SAVE :=
    State.flag_groupFaultSeen _ (by decide) (by decide) (by decide)
  rw [asks]
  by_cases ask : s.flag Reg.SAVE_CTRL_GRP_FAULT_SAVE = true
  · rw [if_pos ask]
    obtain ⟨pins, gfIn, pends⟩ := s.begin.groupFaultSeen.groupFaultTriggers_keeps
    refine ⟨by rw [pins, pin], gfIn.trans bit, pends.trans waits, fun _ armed inactive none_ => ?_⟩
    rw [← s.begin_frame, ← s.begin.groupFaultSeen_frame]
    exact State.groupFaultTriggers_detects ((State.flag_groupFaultSeen _ (by decide) (by decide) (by decide)).trans armed)
      ((State.flag_groupFaultSeen _ (by decide) (by decide) (by decide)).trans inactive)
      ((congrArg SaveSt.frame0 s.begin.groupFaultSeen_save).trans none_)
  · rw [if_neg ask]
    exact ⟨pin, bit, waits, fun h => absurd h ask⟩

/-! ## Group saves (R445) -/

theorem exec_groupSave_detects {s : State} (down : Bool) (member : s.inGroup = true) (on : s.mainOff = false)
    (enabled : s.flag Reg.SAVE_CTRL_GROUP_EN = true) (armed : s.flag Reg.SEQ_STATUS_ARMED = true)
    (inactive : s.flag Reg.PERS_STATUS_SAVE_ACTIVE = false) (none_ : s.save.frame0 = none) :
    ∃ t, exec (.groupSave down) s = .next t ∧ t.save.frame0 = some s.frame ∧ t.save.causes = [4] ∧ t.save.groupOff = down := by
  show ∃ t, execGroupSave down s = .next t ∧ _
  refine yields_occurs (by rw [member, on, enabled]; rfl) ?_
  have unasked : ¬ (s.begin.flag Reg.PERS_STATUS_SAVE_ACTIVE = true ∨
      (s.begin.save.frame0.any fun f => decide (f ≠ s.begin.frame)) = true) := by
    have inactive' : s.begin.flag Reg.PERS_STATUS_SAVE_ACTIVE = false := inactive
    simp [inactive', none_]
  rw [if_neg unasked]
  exact State.groupTrigger_detects down armed inactive none_

theorem exec_saveNote_relays {s : State} (p : PosIx) (head : s.isHeadOfGroup = true)
    (relay : s.flag Reg.SEQ_GROUP_SAVE_RELAY = true) :
    exec (.saveNote p 2) s = .next { s with out := [.burnor 0x0B none [s.get Reg.SEQ_GROUP_RELAY_OFF]] } := by
  show execSaveNote p 2 s = _
  simp only [execSaveNote, occurs, head, relay, decide_true, Bool.and_self, if_true]
  rfl

/-! ## Periods and reports (R50, R443, R446) -/

theorem State.modMember_member (s : State) (p : Nat) (f : Member → Member) : (s.modMember p f).member p = f (s.member p) :=
  sparseGet_upd_same _ _ _ _

theorem State.eventAt_member (s : State) (src kind sev req acc space addr p : Nat) :
    (s.eventAt src kind sev req acc space addr).member p = s.member p := by
  unfold State.member
  rw [State.eventAt_group]

/-- Judging a member's drift keeps what it reported. -/
theorem State.judgeDrift_member (s : State) (p : Nat) :
    ∃ b, (s.judgeDrift p).member p = { s.member p with driftRaised := b } := by
  unfold State.judgeDrift
  dsimp only
  rw [State.modMember_member, apply_ite (fun t => State.member t p), State.eventAt_member, ite_self]
  exact ⟨_, rfl⟩

theorem exec_sync_member {s : State} (period size : Nat) (member : s.isMember = true) (notHead : s.isHeadOfGroup = false) :
    ∃ t, exec (.sync period size) s = .next t ∧ t.group.period = period % 65536 ∧ t.group.syncHeard = some s.sf ∧
      t.group.fpSent = false ∧ t.flag Reg.SEQ_GROUP_STATUS_MASTER_SEEN = true := by
  show ∃ t, execSync period size s = .next t ∧ _
  unfold execSync
  rw [notHead, if_neg Bool.false_ne_true]
  refine yields_occurs member ?_
  unfold State.hearSync
  refine ⟨rfl, ?_, rfl, State.flag_putB_same _ _ _ (by decide) rfl⟩
  dsimp only
  split <;> rfl

theorem exec_sync_head {s : State} (period size : Nat) (head : s.isHeadOfGroup = true) (found : s.group.discovering = false)
    (first : s.group.period = 0) : ∃ t, exec (.sync period size) s = .next t ∧ t.group.period = 1 ∧ t.group.syncSf = s.sf ∧
      .burnor 0x01 none [1, s.get Reg.SEQ_GROUP_SIZE_M1] ∈ t.out := by
  show ∃ t, execSync period size s = .next t ∧ _
  unfold execSync
  rw [head, if_pos rfl]
  refine yields_occurs (by simp [found, first]) ?_
  have first' : s.begin.group.period = 0 := first
  simp only [State.sendSync, first', if_true]
  exact ⟨rfl, rfl, List.mem_singleton.mpr rfl⟩

/-- A member's record after its report of a period, with whether its fingerprint is the master's (R50). -/
def Member.reported (m : Member) (same : Bool) (epoch fp : Nat) : Member :=
  { m with fp := some (epoch % 65536, fp % 2 ^ 64), missed := 0, offNow := !same, differs := if same then 0 else m.differs }

theorem exec_fpReport_head {s : State} (p : PosIx) (epoch fp : Nat) (head : s.isHeadOfGroup = true) (hp : 1 ≤ p.val) :
    ∃ t, exec (.fpReport p epoch fp) s = .next t ∧ (t.member p).fp = some (epoch % 65536, fp % 2 ^ 64) ∧
      (t.member p).missed = 0 ∧ (t.member p).offNow = !decide (fp % 2 ^ 64 = s.get64 0x010308 0x01030C) ∧
      (t.member p).differs = (if fp % 2 ^ 64 = s.get64 0x010308 0x01030C then 0 else (s.member p).differs) := by
  show ∃ t, execFpReport p epoch fp s = .next t ∧ _
  unfold execFpReport
  rw [head, if_pos rfl]
  refine yields_occurs (decide_eq_true hp) ?_
  obtain ⟨b, judged⟩ := State.judgeDrift_member
    (s.begin.modMember p fun m => m.reported (decide (fp % 2 ^ 64 = s.get64 0x010308 0x01030C)) epoch fp) p
  rw [State.modMember_member] at judged
  refine ⟨congrArg Member.fp judged, congrArg Member.missed judged, congrArg Member.offNow judged,
    (congrArg Member.differs judged).trans ?_⟩
  simp [Member.reported, State.member]

theorem exec_masterLost {s : State} (member : s.isMember = true) (lost : s.masterless = true) :
    ∃ t, exec .masterLost s = .next t ∧ t.flag Reg.SEQ_GROUP_STATUS_MASTER_SEEN = false ∧
      t.gauge = { s.gauge with chgWanted := false } := by
  show ∃ t, execMasterLost s = .next t ∧ _
  exact yields_occurs (by rw [member, lost]; rfl) ⟨State.flag_putB_same _ _ _ (by decide) rfl, rfl⟩

/-- Settles O44, each command by the state that its lemma above describes. -/
theorem theGroupSharesFaultsAndSaves : Obligations.TheGroupSharesFaultsAndSaves := by
  unfold Obligations.TheGroupSharesFaultsAndSaves
  refine ⟨?_, ?_, ?_, ?_, ?_, ?_, ?_⟩
  · exact fun s on out drove => grpFaultAssert_shows on out drove
  · exact fun period size s member notHead => exec_sync_member period size member notHead
  · exact fun period size s head found first => exec_sync_head period size head found first
  · exact fun p epoch fp s head hp => exec_fpReport_head p epoch fp head hp
  · exact fun p s head relay => exec_saveNote_relays p head relay
  · exact fun down s member on enabled armed inactive none_ =>
      exec_groupSave_detects down member on enabled armed inactive none_
  · exact fun s member lost => exec_masterLost member lost

end Sys2Proof.Machine

/-!
PROOF. Epoch commits (02_frame_tick_and_epochs R36 to R44): the refusal and the acceptance of a commit, the vote, the boundary
that applies a snapshot, and the return of a unit held powered down.
-/

namespace Sys2Proof.Machine

/-! ## The commit (R38) -/

theorem State.commitRefusal_cases {s : State} {epoch r : Nat} (h : s.commitRefusal epoch = some r) : r = 4 ∨ r = 5 ∨ r = 6 := by
  simp only [State.commitRefusal] at h
  split at h
  · exact .inl (Option.some.inj h).symm
  · split at h
    · exact .inr (.inl (Option.some.inj h).symm)
    · split at h
      · exact .inr (.inr (Option.some.inj h).symm)
      · split at h
        · exact .inr (.inr (Option.some.inj h).symm)
        · exact absurd h (by simp)

theorem exec_epochCommit_of_open {p : PathIx} {s : State} (v : Word) (hp : s.served p = true)
    (hw : s.writeShut p 0x010204 = false) : exec (.epochCommit p v) s = .next (s.begin.epochCommit (v.toNat % 65536)) :=
  congrArg Host.Outcome.next (State.reach_of_open _ (by simpa using hp) (by simpa using hw))

theorem State.epochCommit_refused {s : State} {epoch r : Nat} (h : s.commitRefusal epoch = some r) :
    s.epochCommit epoch = s.put Reg.EPOCH_STATUS_RESULT r := by
  rw [State.epochCommit, h]

/-- A commit as it waits for its vote, with the distance to its target (R38). -/
def State.commitWaiting (s : State) (epoch : Nat) : Commit :=
  { epoch := epoch, target := s.frame + (s.get Reg.EPOCH_TARGET_FRAME_LO + 2 ^ 32 - s.frame % 2 ^ 32) % 2 ^ 32 }

theorem State.epochCommit_accepted {s : State} {epoch : Nat} (h : s.commitRefusal epoch = none) :
    s.epochCommit epoch = (((s.modPlumb fun p => { p with commit := some (s.commitWaiting epoch) }).putB
      Reg.EPOCH_STATUS_PENDING true).put Reg.EPOCH_STATUS_SLIPS 0).put Reg.EPOCH_STATUS_RESULT 0 := by
  rw [State.epochCommit, h]
  rfl

theorem epochCommit_refused {p : PathIx} {v : Word} {s : State} {r : Nat} (hp : s.served p = true)
    (hw : s.writeShut p 0x010204 = false) (h : s.commitRefusal (v.toNat % 65536) = some r) :
    ∃ t, exec (.epochCommit p v) s = .next t ∧ t.get Reg.EPOCH_STATUS_RESULT = r ∧ t.plumb = s.plumb := by
  refine ⟨_, exec_epochCommit_of_open v hp hw, ?_⟩
  rw [State.epochCommit_refused (s := s.begin) h]
  refine ⟨(State.get_put_same _ _ _ (by decide)).trans ?_, rfl⟩
  obtain rfl | rfl | rfl := State.commitRefusal_cases h <;> rfl

theorem epochCommit_accepted {p : PathIx} {v : Word} {s : State} (hp : s.served p = true)
    (hw : s.writeShut p 0x010204 = false) (h : s.commitRefusal (v.toNat % 65536) = none) :
    ∃ t, exec (.epochCommit p v) s = .next t ∧ t.flag Reg.EPOCH_STATUS_PENDING = true ∧ t.get Reg.EPOCH_STATUS_SLIPS = 0 ∧
      t.get Reg.EPOCH_STATUS_RESULT = 0 ∧
      ∃ c, t.plumb = { s.plumb with commit := some c } ∧ c.epoch = v.toNat % 65536 ∧ c.snapshot = none ∧ c.abandon = false := by
  refine ⟨_, exec_epochCommit_of_open v hp hw, ?_⟩
  rw [State.epochCommit_accepted (s := s.begin) h]
  refine ⟨?_, ?_, State.get_put_same _ _ _ (by decide), _, rfl, rfl, rfl, rfl⟩
  · rw [State.flag_put_other _ _ _ _ (by decide) (by decide), State.flag_put_other _ _ _ _ (by decide) (by decide)]
    exact State.flag_putB_same _ _ _ (by decide) rfl
  · rw [State.get_put_other _ _ _ _ (by decide) (by decide)]
    exact State.get_put_same _ _ _ (by decide)

/-! ## The vote (R39 to R42) -/

/-- The twelve classes' votes as EPOCH_CLASS shows them. -/
def State.votes (s : State) (named : List Nat) : State := s.each (List.range 12) fun s cls => s.voteClass named cls

theorem State.votes_plumb (s : State) (named : List Nat) : (s.votes named).plumb = s.plumb :=
  State.each_proj State.plumb (f := fun s cls => s.voteClass named cls) (fun _ _ _ => rfl) s

theorem State.votes_slips (s : State) (named : List Nat) :
    (s.votes named).get Reg.EPOCH_STATUS_SLIPS = s.get Reg.EPOCH_STATUS_SLIPS := by
  refine State.each_proj (State.get · Reg.EPOCH_STATUS_SLIPS) (fun s cls _ => ?_) s
  have apart : Reg.EPOCH_STATUS_SLIPS.off ≠ 0x010240 + 0x4 * cls := by
    show 0x010208 ≠ _
    omega
  exact State.get_of_rd ((State.rd_put_other _ _ _ apart).trans (State.rd_putB_other _ _ _ apart))

/-- Every class of Table 2.5 votes ready. -/
def State.allReady (s : State) (named : List Nat) : Bool := (List.range 12).all fun cls => (s.notReadyOf cls named).isEmpty

theorem State.epochVote_eq (s : State) (c : Commit) (named : List Nat) : s.epochVote c named =
    if s.allReady named then (s.votes named).modPlumb fun p => { p with commit := some { c with snapshot := some p.shadow } }
    else ((s.votes named).put Reg.EPOCH_STATUS_SLIPS ((s.votes named).get Reg.EPOCH_STATUS_SLIPS + 1)).modPlumb fun p => { p with
      commit := some { c with target := c.target + 1, abandon := decide (64 ≤ (s.votes named).get Reg.EPOCH_STATUS_SLIPS + 1) } } :=
  rfl

theorem State.allReady_iff {s : State} {named : List Nat} :
    s.allReady named = true ↔ ∀ k ∈ List.range 12, s.notReadyOf k named = [] := by
  simp [State.allReady]

/-- The state in which a vote is taken: at the vote's cycle of the frame. -/
def State.atVote (s : State) : State := { s.begin with tick := { s.tick with cycle := max s.tick.cycle 1000 } }

theorem State.atVote_allReady (s : State) (named : List Nat) : s.atVote.allReady named = s.allReady named := rfl

theorem exec_epochVote_of_waiting {named : List Nat} {s : State} {c : Commit} (waits : s.plumb.commit = some c)
    (fresh : c.snapshot = none) (stands : c.abandon = false) (near : c.target ≤ s.frame + 1) :
    exec (.epochVote named) s = .next (s.atVote.epochVote c named) := by
  show execEpochVote named s = _
  simp only [execEpochVote, waits, occurs, fresh, stands, near, Option.isNone_none, Bool.not_false, decide_true, Bool.and_self,
    if_true]
  rfl

theorem epochVote_ready {named : List Nat} {s : State} {c : Commit} (waits : s.plumb.commit = some c)
    (fresh : c.snapshot = none) (stands : c.abandon = false) (near : c.target ≤ s.frame + 1)
    (ready : ∀ k ∈ List.range 12, s.notReadyOf k named = []) :
    ∃ t, exec (.epochVote named) s = .next t ∧ ∃ m, t.plumb = { s.plumb with commit := some { c with snapshot := some m } } := by
  refine ⟨_, exec_epochVote_of_waiting waits fresh stands near, s.plumb.shadow, ?_⟩
  rw [State.epochVote_eq, State.atVote_allReady, if_pos (State.allReady_iff.mpr ready), State.modPlumb_same, State.votes_plumb]
  rfl

theorem epochVote_slips {named : List Nat} {s : State} {c : Commit} (waits : s.plumb.commit = some c)
    (fresh : c.snapshot = none) (stands : c.abandon = false) (near : c.target ≤ s.frame + 1)
    (unready : ∃ k ∈ List.range 12, s.notReadyOf k named ≠ []) (few : s.get Reg.EPOCH_STATUS_SLIPS < 127) :
    ∃ t, exec (.epochVote named) s = .next t ∧ t.get Reg.EPOCH_STATUS_SLIPS = s.get Reg.EPOCH_STATUS_SLIPS + 1 ∧
      t.plumb = { s.plumb with commit := some { c with
        target := c.target + 1, abandon := decide (64 ≤ s.get Reg.EPOCH_STATUS_SLIPS + 1) } } := by
  have slips : (s.atVote.votes named).get Reg.EPOCH_STATUS_SLIPS = s.get Reg.EPOCH_STATUS_SLIPS := State.votes_slips _ _
  have notAll : ¬ s.allReady named = true := fun h => by
    obtain ⟨k, hk, hne⟩ := unready
    exact hne (State.allReady_iff.mp h k hk)
  refine ⟨_, exec_epochVote_of_waiting waits fresh stands near, ?_⟩
  rw [State.epochVote_eq, State.atVote_allReady, if_neg notAll, slips, State.modPlumb_get, State.modPlumb_same, State.put_plumb,
    State.votes_plumb, State.get_put_same _ _ _ (by decide)]
  exact ⟨Nat.mod_eq_of_lt (by show _ < 2 ^ 7; omega), rfl⟩

/-! ## The boundary that applies a snapshot (R41) -/

/-- One state shows the same epoch registers as another, and has the same shadow copies, references and commit. -/
structure State.EpochKept (s t : State) : Prop where
  plumb : t.plumb = s.plumb
  live  : ∀ x < 0x020000, t.rd x = s.rd x

theorem State.EpochKept.refl (s : State) : s.EpochKept s := ⟨rfl, fun _ _ => rfl⟩

theorem State.EpochKept.trans {s t r : State} (h : s.EpochKept t) (g : t.EpochKept r) : s.EpochKept r :=
  ⟨g.plumb.trans h.plumb, fun x hx => (g.live x hx).trans (h.live x hx)⟩

/-- A step that is taken on a condition. -/
theorem State.EpochKept.ite {c : Prop} [Decidable c] {s t u : State} (ht : s.EpochKept t) (hu : s.EpochKept u) :
    s.EpochKept (if c then t else u) := by
  split
  · exact ht
  · exact hu

theorem State.EpochKept.each {α : Type} {l : List α} {f : State → α → State} (h : ∀ (s : State) (a : α), s.EpochKept (f s a))
    (s : State) :
    s.EpochKept (s.each l f) :=
  ⟨State.each_proj State.plumb (fun s a _ => (h s a).plumb) s,
    fun x hx => State.each_proj (State.rd · x) (fun s a _ => (h s a).live x hx) s⟩

theorem State.EpochKept.get {s t : State} (h : s.EpochKept t) {f : Fld} (hf : f.off < 0x020000) : t.get f = s.get f :=
  State.get_of_rd (h.live _ hf)

theorem State.epochKept_event (s : State) (src kind sev : Nat) : s.EpochKept (s.event src kind sev) :=
  ⟨s.event_plumb _ _ _, fun _ hx => s.rd_event _ _ _ (by omega) (by omega)⟩

theorem State.epochKept_sfg (s : State) {f : Fld} (b : Bool) (hf : f.off = 0x020070) : s.EpochKept (s.sfg f b) :=
  ⟨rfl, fun _ hx => s.rd_sfg b hf (by omega)⟩

theorem State.epochKept_putSat (s : State) {f : Fld} (v : Nat) (hf : 0x020000 ≤ f.off) : s.EpochKept (s.putSat f v) :=
  ⟨rfl, fun _ hx => s.rd_putSat_other f v (by omega)⟩

theorem State.epochKept_putB (s : State) {f : Fld} (b : Bool) (hf : 0x020000 ≤ f.off) : s.EpochKept (s.putB f b) :=
  ⟨rfl, fun _ hx => s.rd_putB_other f b (by omega)⟩

theorem State.epochKept_modQuad (s : State) (q : Nat) (f : Quad → Quad) : s.EpochKept (s.modQuad q f) := ⟨rfl, fun _ _ => rfl⟩

theorem State.epochKept_modSc (s : State) (n : Nat) (f : Sc → Sc) : s.EpochKept (s.modSc n f) := ⟨rfl, fun _ _ => rfl⟩

theorem State.epochKept_wearAllowance (s : State) (q : Nat) : s.EpochKept (s.wearAllowance q) := by
  have value : 0x020000 ≤ (Reg.WEAR_ALLOW_VALUE q).off := by
    show 0x020000 ≤ 0x030340 + 0x4 * q
    omega
  unfold State.wearAllowance
  extract_lets days tEnd left remaining life a worn past was s1 s2 s3 s4
  have shown : s.EpochKept s1 := (s.epochKept_putSat a value).trans (State.epochKept_modQuad _ q _)
  have exhausted : s1.EpochKept s2 := s1.epochKept_putB _ (by decide)
  have exceeded : s2.EpochKept s3 := s2.epochKept_putB _ (by decide)
  have wornOut : s3.EpochKept s4 := .ite (s3.epochKept_event _ _ _) (.refl _)
  exact (shown.trans exhausted).trans ((exceeded.trans wornOut).trans (.ite (s4.epochKept_event _ _ _) (.refl _)))

/-- What the hardware does for values that changed touches neither the epoch registers nor the commit. -/
theorem State.epochKept_afterApply (s old : State) : s.EpochKept (s.afterApply old) := by
  unfold State.afterApply
  extract_lets changed t s1 s2 s3 s4
  have bound : s.EpochKept s1 := by
    have judged : s.EpochKept t := s.epochKept_sfg _ rfl
    exact .ite (.ite judged (judged.trans (t.epochKept_event _ _ _))) (.refl _)
  have disabled : s1.EpochKept s2 := .ite (s1.epochKept_event _ _ _) (.refl _)
  have patrols : s2.EpochKept s3 := s2.epochKept_sfg _ rfl
  have wear : s3.EpochKept s4 := .ite (.each State.epochKept_wearAllowance _) (.refl _)
  refine (bound.trans disabled).trans ((patrols.trans wear).trans (.each (fun s n => ?_) _))
  extract_lets r
  have wanted : s.EpochKept r := .ite (s.epochKept_modSc n _) (.refl _)
  exact .ite (wanted.trans (State.epochKept_modSc _ n _)) wanted

/-- Fields at their own offsets, each set to a value: every one of them reads as it. -/
theorem State.each_put_get {l : List Nat} {F : Nat → Fld} {k v : Nat} (hk : k ∈ l) (fits : ∀ j, (F j).lo + (F j).width ≤ 32)
    (own : ∀ i j, i ≠ j → (F i).off ≠ (F j).off) (s : State) :
    (s.each l fun s j => s.put (F j) v).get (F k) = v % 2 ^ (F k).width := by
  have cons : ∀ (a : Nat) (l : List Nat) (s : State), (s.each (a :: l) fun s j => s.put (F j) v) =
      (s.put (F a) v).each l fun s j => s.put (F j) v := fun _ _ _ => rfl
  induction l generalizing s with
  | nil => exact absurd hk List.not_mem_nil
  | cons a l ih =>
    rw [cons]
    by_cases hkl : k ∈ l
    · exact ih hkl _
    · obtain rfl : k = a := (List.mem_cons.mp hk).resolve_right hkl
      refine (State.each_proj (State.get · (F k)) (fun s j hj => ?_) _).trans (State.get_put_same _ _ _ (fits k))
      exact State.get_of_rd (State.rd_put_other _ _ _ (own k j fun h => hkl (h ▸ hj)))

/-- The registers that show an applied epoch, before the fingerprint and the checks that follow. -/
def State.epochShown (s : State) (epoch : Nat) : State :=
  ((s.put Reg.EPOCH_STATUS_APPLIED epoch).each (List.range 12) fun s k => s.put (Reg.EPOCH_CLASS_APPLIED k) epoch).endCommit 1

theorem State.epochApply_eq (s : State) (c : Commit) (snap : Sparse Word) :
    ∃ r : State, s.epochApply c snap = ((r.epochShown c.epoch).putFingerprint).afterApply s := ⟨_, rfl⟩

theorem State.epochShown_class (s : State) {epoch k : Nat} (h : epoch < 65536) (hk : k < 12) :
    (s.epochShown epoch).get (Reg.EPOCH_CLASS_APPLIED k) = epoch := by
  have other : (Reg.EPOCH_CLASS_APPLIED k).off ≠ 0x010208 := by
    show 0x010240 + 0x4 * k ≠ 0x010208
    omega
  have ended : ∀ t : State, (t.endCommit 1).get (Reg.EPOCH_CLASS_APPLIED k) = t.get (Reg.EPOCH_CLASS_APPLIED k) := fun t =>
    State.get_of_rd ((State.rd_put_other _ _ _ other).trans (State.rd_putB_other _ _ _ other))
  rw [State.epochShown, ended, State.each_put_get (F := Reg.EPOCH_CLASS_APPLIED) (List.mem_range.mpr hk)
    (fun _ => (by decide : 0 + 16 ≤ 32)) (fun i j hij => ?_)]
  · exact Nat.mod_eq_of_lt h
  · show 0x010240 + 0x4 * i ≠ 0x010240 + 0x4 * j
    omega

theorem State.epochShown_status (s : State) {epoch : Nat} (h : epoch < 65536) :
    (s.epochShown epoch).get Reg.EPOCH_STATUS_APPLIED = epoch ∧ (s.epochShown epoch).get Reg.EPOCH_STATUS_RESULT = 1 ∧
    (s.epochShown epoch).flag Reg.EPOCH_STATUS_PENDING = false ∧ (s.epochShown epoch).plumb.commit = none := by
  have classes : ∀ t : State, ((t.each (List.range 12) fun s k => s.put (Reg.EPOCH_CLASS_APPLIED k) epoch)).get
      Reg.EPOCH_STATUS_APPLIED = t.get Reg.EPOCH_STATUS_APPLIED := fun t =>
    State.each_proj (State.get · Reg.EPOCH_STATUS_APPLIED) (fun s k _ => State.get_of_rd (State.rd_put_other _ _ _ (by
      show 0x010208 ≠ 0x010240 + 0x4 * k
      omega))) t
  refine ⟨?_, State.get_put_same _ _ _ (by decide), ?_, rfl⟩
  · rw [State.epochShown, State.endCommit, State.get_put_other _ _ _ _ (by decide) (by decide),
      State.get_putB_other _ _ _ _ (by decide) (by decide), State.modPlumb_get, classes, State.get_put_same _ _ _ (by decide)]
    exact Nat.mod_eq_of_lt h
  · rw [State.epochShown, State.endCommit, State.flag_put_other _ _ _ _ (by decide) (by decide)]
    exact State.flag_putB_same _ _ _ (by decide) rfl

theorem State.putFingerprint_get (s : State) {f : Fld} (h1 : f.off ≠ 0x010308) (h2 : f.off ≠ 0x01030C) :
    s.putFingerprint.get f = s.get f := State.get_of_rd (s.rd_put64_other _ h1 h2)

theorem epochApply_applies {s : State} {c : Commit} {m : Sparse Word} (waits : s.plumb.commit = some c)
    (voted : c.snapshot = some m) (due : c.target ≤ s.frame) (free : s.save.committed = false) (h : c.epoch < 65536) :
    ∃ t, exec .epochApply s = .next t ∧ t.get Reg.EPOCH_STATUS_APPLIED = c.epoch ∧
      (∀ k < 12, t.get (Reg.EPOCH_CLASS_APPLIED k) = c.epoch) ∧ t.plumb.commit = none ∧
      t.get Reg.EPOCH_STATUS_RESULT = 1 ∧ t.flag Reg.EPOCH_STATUS_PENDING = false := by
  have step : exec .epochApply s = .next (s.begin.epochApply c m) := by
    show execEpochApply s = _
    simp [execEpochApply, waits, voted, occurs, due, State.commitDue, free]
  obtain ⟨r, applied⟩ := s.begin.epochApply_eq c m
  have kept := (r.epochShown c.epoch).putFingerprint.epochKept_afterApply s.begin
  obtain ⟨epoch, result, pending, commit⟩ := r.epochShown_status h
  refine ⟨_, step, ?_⟩
  rw [applied]
  have shown : ∀ f : Fld, f.off < 0x020000 → f.off ≠ 0x010308 → f.off ≠ 0x01030C →
      (((r.epochShown c.epoch).putFingerprint).afterApply s.begin).get f = (r.epochShown c.epoch).get f := fun f hf h1 h2 =>
    (kept.get hf).trans (State.putFingerprint_get _ h1 h2)
  refine ⟨(shown _ (by decide) (by decide) (by decide)).trans epoch, fun k hk => ?_, ?_,
    (shown _ (by decide) (by decide) (by decide)).trans result, ?_⟩
  · have off : (Reg.EPOCH_CLASS_APPLIED k).off = 0x010240 + 0x4 * k := rfl
    exact (shown _ (by omega) (by omega) (by omega)).trans (r.epochShown_class h hk)
  · rw [kept.plumb]
    exact commit
  · rw [State.flag, shown _ (by decide) (by decide) (by decide)]
    exact pending

/-! ## Units held powered down (R44) -/

theorem unitPowerReturn_returns {u : Nat} {s : State} (isSealed : s.isSealed = true) (exists_ : u % 256 < classCount (u / 256)) :
    ∃ t, exec (.unitPowerReturn u) s = .next t ∧ t.plumb.heldDown = s.plumb.heldDown.filter (fun x => decide (x ≠ u)) ∧
      t.plumb.commit = s.plumb.commit ∧ t.plumb.shadow = s.plumb.shadow := by
  have same : 256 * (u / 256) + u % 256 = u := Nat.div_add_mod u 256
  have plumb : (s.begin.unitReturns (u / 256) (u % 256)).plumb =
      { s.plumb with heldDown := s.plumb.heldDown.filter fun x => decide (x ≠ u) } := by
    unfold State.unitReturns
    dsimp only
    refine (State.each_proj State.plumb (fun s a _ => State.wr_plumb s a _) _).trans ?_
    rw [same]
    rfl
  show ∃ t, execUnitPowerReturn u s = .next t ∧ _
  refine yields_occurs (by rw [isSealed, decide_eq_true exists_]; rfl) ?_
  rw [plumb]
  exact ⟨rfl, rfl, rfl⟩

/-! ## The broadcast reads (R36, R37) -/

theorem broadcastRead_mismatch {p : PathIx} {off : Offset} {s : State} {d : RegDef} {u a : Nat} {rest : List Nat}
    (hp : s.served p = true) (h4 : off.toNat % 4 = 0) (haon : (decide (p = 2) && s.aonServes) = false)
    (hrec : (s.inRecovery && !recoveryOffset off.toNat) = false) (ht : s.targets p off.toNat = some (a :: rest))
    (hr : regAt (firstInstance off.toNat) = some (d, u)) :
    ∃ t, exec (.broadcastRead p off) s = .next t ∧ t.out = [.word (s.regValue p d a)] ∧ t.regs = s.regs ∧
      (t.bankGet p Reg.BCAST_STATUS_MISMATCH = 1 ↔
        s.bankGet p Reg.BCAST_STATUS_MISMATCH = 1 ∨ (∃ b ∈ rest, s.regValue p d b ≠ s.regValue p d a)) := by
  cases hf : s.firstDiffers p d a rest with
  | none =>
    have agree : ¬ ∃ b ∈ rest, s.regValue p d b ≠ s.regValue p d a := fun ⟨b, hb, hne⟩ =>
      List.find?_eq_none.mp hf b hb (decide_eq_true hne)
    refine ⟨_, broadcastRead_same hp h4 haon hrec ht hr hf, rfl, rfl, ?_⟩
    rw [State.emit_bankGet, or_iff_left agree]
    exact Iff.rfl
  | some b =>
    have differs : ∃ b ∈ rest, s.regValue p d b ≠ s.regValue p d a :=
      ⟨b, List.mem_of_find?_eq_some hf, of_decide_eq_true
        (List.find?_some (p := fun b => decide (s.regValue p d b ≠ s.regValue p d a)) hf)⟩
    refine ⟨_, broadcastRead_differs hp h4 haon hrec ht hr hf, rfl, rfl, ?_⟩
    rw [State.emit_bankGet]
    exact iff_of_true (State.mismatched_mismatch _ _ _) (.inr differs)

/-- Settles O25, each command by the state that its lemma above describes. -/
theorem epochsCommitVoteApplyAndReadBack : Obligations.EpochsCommitVoteApplyAndReadBack := by
  unfold Obligations.EpochsCommitVoteApplyAndReadBack
  refine ⟨?_, ?_, ?_, ?_, ?_, ?_, ?_, ?_⟩
  · exact fun p off s hp h4 haon hrec ht hr => broadcastRead_empty hp h4 haon hrec ht hr
  · exact fun p off s d u a rest hp h4 haon hrec ht hr => broadcastRead_mismatch hp h4 haon hrec ht hr
  · exact fun p v s r hp hw h => epochCommit_refused hp hw h
  · exact fun p v s hp hw h => epochCommit_accepted hp hw h
  · exact fun named s c waits fresh stands near ready => epochVote_ready waits fresh stands near ready
  · exact fun named s c waits fresh stands near unready few => epochVote_slips waits fresh stands near unready few
  · exact fun s c m waits voted due free h => epochApply_applies waits voted due free h
  · exact fun u s isSealed exists_ => unitPowerReturn_returns isSealed exists_

end Sys2Proof.Machine

/-!
PROOF. Mailbox commands that only read (11_fabric_ports R334 to R342): what a command replies where its function is served, and
that a reply of Success changes no register.
-/

namespace Sys2Proof.Machine

/-! ## Replies -/

/-- A reply goes out whatever its return code. -/
theorem State.reply_mem (s : State) (fn : FnIx) (code : RetCode) (l : List Nat) : .mailbox fn code l ∈ (s.reply fn code l).out := by
  have sent : .mailbox fn code l ∈ (s.emit (.mailbox fn code l)).out := List.mem_append_right _ (List.mem_singleton.mpr rfl)
  unfold State.reply
  dsimp only
  split
  · exact sent
  · split
    · rw [State.event_out]
      split
      · exact List.mem_append_left _ sent
      · exact sent
    · split
      · exact List.mem_append_left _ sent
      · exact sent

/-- A reply of Success raises no message, so it changes no register. -/
theorem State.reply_success_regs (s : State) (fn : FnIx) (l : List Nat) : (s.reply fn .success l).regs = s.regs := by
  unfold State.reply
  dsimp only
  split
  · rfl
  · rw [if_neg (by decide)]
    split <;> rfl

/-! ## Served commands (R334, R534) -/

section

variable {fn : FnIx} {s : State}

/-- A command that its function serves in the present state does its work. -/
theorem State.command_of_served {mgmt inRec : Bool} (f : State → State) (served : s.fnServed fn = true)
    (here : (s.inRecovery && !inRec) = false) (own : (mgmt && !s.isMgmtFn fn && decide (fn.val ≠ 17)) = false) :
    s.command fn mgmt inRec f = .next (f s.begin) := by
  have here' : (s.begin.inRecovery && !inRec) = false := here
  have own' : (mgmt && !s.begin.isMgmtFn fn && decide (fn.val ≠ 17)) = false := own
  simp only [State.command, occurs, served, here', own', if_true, Bool.false_eq_true, if_false]

/-- A command that RECOVERY does not serve. -/
theorem State.command_in_recovery {mgmt : Bool} (f : State → State) (served : s.fnServed fn = true)
    (recovery : s.inRecovery = true) : s.command fn mgmt false f = .next (s.begin.reply fn .unsupported []) := by
  have recovery' : s.begin.inRecovery = true := recovery
  simp only [State.command, occurs, served, recovery', if_true, Bool.not_false, Bool.and_self]

/-- What a command is on whose function it is served outside RECOVERY: a device-wide one, by a management function. -/
theorem exec_of_command {c : Instr} {mgmt inRec : Bool} {f : State → State} (h : exec c s = s.command fn mgmt inRec f)
    (served : s.fnServed fn = true) (run : s.inRecovery = false) (own : mgmt = true → s.isMgmtFn fn = true) :
    exec c s = .next (f s.begin) := by
  refine h.trans (State.command_of_served f served (by rw [run, Bool.false_and]) ?_)
  cases mgmt with
  | false => rfl
  | true => rw [own rfl, Bool.not_true, Bool.and_false, Bool.false_and]

/-- A command that does no more than reply Success shows that reply and leaves the registers. -/
theorem answers_success {c : Instr} {l : List Nat} (h : exec c s = .next (s.begin.reply fn .success l)) :
    ∃ t, exec c s = .next t ∧ .mailbox fn .success l ∈ t.out ∧ t.regs = s.regs :=
  ⟨_, h, State.reply_mem _ _ _ _, State.reply_success_regs _ _ _⟩

/-- A command of any function whose work outside RECOVERY is a reply of Success. -/
theorem command_answers {c : Instr} {inRec : Bool} {f : State → State} {l : List Nat} (h : exec c s = s.command fn false inRec f)
    (replies : f s.begin = s.begin.reply fn .success l) (served : s.fnServed fn = true) (run : s.inRecovery = false) :
    ∃ t, exec c s = .next t ∧ .mailbox fn .success l ∈ t.out ∧ t.regs = s.regs :=
  answers_success (replies ▸ exec_of_command h served run fun no => absurd no Bool.false_ne_true)

/-- A command of a management function whose work outside RECOVERY is a reply of Success. -/
theorem command_answers_mgmt {c : Instr} {inRec : Bool} {f : State → State} {l : List Nat}
    (h : exec c s = s.command fn true inRec f) (replies : f s.begin = s.begin.reply fn .success l)
    (served : s.fnServed fn = true) (run : s.inRecovery = false) (mgmt : s.isMgmtFn fn = true) :
    ∃ t, exec c s = .next t ∧ .mailbox fn .success l ∈ t.out ∧ t.regs = s.regs :=
  answers_success (replies ▸ exec_of_command h served run fun _ => mgmt)

/-- A command that RECOVERY does not serve is refused there. -/
theorem command_refused {c : Instr} {mgmt : Bool} {f : State → State} (h : exec c s = s.command fn mgmt false f)
    (served : s.fnServed fn = true) (recovery : s.inRecovery = true) :
    ∃ t, exec c s = .next t ∧ .mailbox fn .unsupported [] ∈ t.out :=
  ⟨_, h.trans (State.command_in_recovery f served recovery), State.reply_mem _ _ _ _⟩

/-! ## The commands -/

theorem getFwInfo_answers (served : s.fnServed fn = true) (run : s.inRecovery = false) :
    ∃ t, exec (.getFwInfo fn) s = .next t ∧ .mailbox fn .success ([4, 1 + s.get Reg.UPD_STATUS_RUNNING] ++ fwInfo s.upd.fwA ++
      fwInfo s.upd.fwB ++ cfgInfo s.upd.cfgA ++ cfgInfo s.upd.cfgB) ∈ t.out ∧ t.regs = s.regs := by
  have run' : s.begin.inRecovery = false := run
  refine command_answers (execGetFwInfo.eq_def fn s) ?_ served run
  rw [run', if_neg Bool.false_ne_true]
  rfl

theorem getEventRecords_answers {log : Nat} (served : s.fnServed fn = true) (run : s.inRecovery = false) (h : log ≤ 3) :
    ∃ t, exec (.getEventRecords fn log) s = .next t ∧ .mailbox fn .success ([(s.evLog fn log).recs.length,
      (s.evLog fn log).overflow.isSome.toNat, ((s.evLog fn log).overflow.map s.hostTime).getD 0, (s.evLog fn log).lost] ++
      (s.evLog fn log).recs.flatMap s.recordNums) ∈ t.out ∧ t.regs = s.regs := by
  refine command_answers (execGetEventRecords.eq_def fn log s) ?_ served run
  rw [if_neg (by omega)]
  rfl

theorem getScanMediaCapabilities_answers {start len : Nat} (served : s.fnServed fn = true) (run : s.inRecovery = false)
    (range : (s.fnRange fn start len).isSome = true) : ∃ t, exec (.getScanMediaCapabilities fn start len) s = .next t ∧
      .mailbox fn .success [(len + 3999999) / 4000000] ∈ t.out ∧ t.regs = s.regs := by
  obtain ⟨a, found⟩ := Option.isSome_iff_exists.mp range
  have found' : s.begin.fnRange fn start len = some a := found
  refine command_answers (execGetScanMediaCapabilities.eq_def fn start len s) ?_ served run
  rw [found']

theorem getKeySlotStatus_answers {k : Nat} (served : s.fnServed fn = true) (run : s.inRecovery = false)
    (mgmt : s.isMgmtFn fn = true) (idle : s.flag Reg.PERS_STATUS_SAVE_ACTIVE = false) (hk : k ≤ 63) :
    ∃ t, exec (.getKeySlotStatus fn k) s = .next t ∧ .mailbox fn .success
      [(s.slot k).st.code, (s.slot k).source, (s.slot k).persist.toNat, (s.slot k).use, (s.slot k).gen] ∈ t.out ∧
      t.regs = s.regs := by
  have idle' : s.begin.flag Reg.PERS_STATUS_SAVE_ACTIVE = false := idle
  refine command_answers_mgmt (execGetKeySlotStatus.eq_def fn k s) ?_ served run mgmt
  rw [idle', if_neg Bool.false_ne_true, if_neg (by omega)]
  rfl

/-- The log's records of a type from the oldest on: their count leads the reply (R570). -/
theorem State.vendorLog_replies (s : State) (fn : FnIx) {k n : Nat} (hk : 1 ≤ k) (hk4 : k ≤ 4) (hn : 1 ≤ n) (hn60 : n ≤ 60) :
    ∃ l, s.vendorLog fn k 0 n = s.reply fn .success l ∧
      l.head? = some (min n ((s.seq.ring.filter fun r => decide (r.body.type = k)).length)) := by
  have all : (s.seq.ring.filter fun r => decide (r.body.type = k) && decide (0 ≤ r.seq)) =
      s.seq.ring.filter fun r => decide (r.body.type = k) := by simp
  unfold State.vendorLog
  rw [if_neg (by omega), all]
  exact ⟨_, rfl, congrArg some List.length_take⟩

theorem getVendorLog_answers {k n : Nat} (served : s.fnServed fn = true) (run : s.inRecovery = false)
    (mgmt : s.isMgmtFn fn = true) (hk : 1 ≤ k) (hk4 : k ≤ 4) (hn : 1 ≤ n) (hn60 : n ≤ 60) :
    ∃ t, exec (.getVendorLog fn k 0 n) s = .next t ∧ t.regs = s.regs ∧ ∃ l, .mailbox fn .success l ∈ t.out ∧
      l.head? = some (min n ((s.seq.ring.filter fun r => decide (r.body.type = k)).length)) := by
  obtain ⟨l, replies, count⟩ := s.begin.vendorLog_replies fn hk hk4 hn hn60
  obtain ⟨t, step, reply, regs⟩ := command_answers_mgmt (c := .getVendorLog fn k 0 n)
    (execGetVendorLog.eq_def fn k 0 n s) replies served run mgmt
  exact ⟨t, step, regs, l, reply, count⟩

theorem getHealthInfo_answers (served : s.fnServed fn = true) (run : s.inRecovery = false) :
    ∃ t, exec (.getHealthInfo fn) s = .next t ∧ ∃ life temp vol pers, .mailbox fn .success
      [s.healthStatus, s.mediaStatus fn, life, temp, s.get Reg.PERS_DSC_COUNT, vol, pers] ∈ t.out :=
  ⟨_, exec_of_command (execGetHealthInfo.eq_def fn s) served run fun no => absurd no Bool.false_ne_true, _, _, _, _, State.reply_mem _ _ _ _⟩

/-- IDENTIFY is served in RECOVERY too (R534). -/
theorem identify_answers_in_recovery (served : s.fnServed fn = true) : ∃ t, exec (.identify fn) s = .next t ∧
      .mailbox fn .success [(s.rd 0x000000).toNat, (s.rd 0x000004).toNat, s.get64 0x00000C 0x000010] ∈ t.out :=
  ⟨_, (execIdentify.eq_def fn s).trans (State.command_of_served _ served (by rw [Bool.not_true, Bool.and_false]) rfl),
    State.reply_mem _ _ _ _⟩

end

/-- Settles O50: where a command's function is served, it replies from the state and changes no register; in RECOVERY the
commands that it does not serve are refused. -/
theorem mailboxReadsAnswer : Obligations.MailboxReadsAnswer := by
  unfold Obligations.MailboxReadsAnswer
  refine ⟨fun fn s served run => ⟨?_, ?_, ?_, ?_, ?_, ?_⟩, fun fn s served run => ⟨?_, ?_, ?_, ?_, ?_, ?_⟩,
    fun fn log start len s served run => ⟨fun h => ?_, fun h => ?_⟩,
    fun fn k n s served run mgmt => ⟨?_, fun idle hk => ?_, fun hk hk4 hn hn60 => ?_⟩, fun fn s served recovery => ⟨?_, ?_, ?_⟩⟩
  · exact command_answers (execIdentify.eq_def fn s) rfl served run
  · exact command_answers (execGetEventInterruptPolicy.eq_def fn s) rfl served run
  · exact getFwInfo_answers served run
  · exact command_answers (execGetTimestamp.eq_def fn s) rfl served run
  · exact command_answers (execGetSupportedLogs.eq_def fn s) rfl served run
  · exact command_answers (execGetLog.eq_def fn s) rfl served run
  · exact command_answers (execIdentifyMemoryDevice.eq_def fn s) rfl served run
  · exact command_answers (execGetPartitionInfo.eq_def fn s) rfl served run
  · exact command_answers (execGetAlertConfiguration.eq_def fn s) rfl served run
  · exact command_answers (execGetShutdownState.eq_def fn s) rfl served run
  · exact command_answers (execGetScanMediaResults.eq_def fn s) rfl served run
  · exact getHealthInfo_answers served run
  · exact getEventRecords_answers served run h
  · exact getScanMediaCapabilities_answers served run h
  · exact command_answers_mgmt (execGetLearnStatus.eq_def fn s) rfl served run mgmt
  · exact getKeySlotStatus_answers served run mgmt idle hk
  · exact getVendorLog_answers served run mgmt hk hk4 hn hn60
  · exact command_refused (execGetTimestamp.eq_def fn s) served recovery
  · exact command_refused (execGetSupportedLogs.eq_def fn s) served recovery
  · exact identify_answers_in_recovery served

end Sys2Proof.Machine

/-!
PROOF. The commands that concern one register (the table ownRegs): each writes nothing but the registers that the table names
with it and what raising its source's message counts.
-/

namespace Sys2Proof.Machine

/-! ## Writing only some registers -/

/-- From one state to another no register changes but those at some offsets, a source's event counters and EVT_DROPPED. -/
def State.writesOnly (s : State) (l : List Nat) (src : Nat) (t : State) : Prop :=
  ∀ x, x ∉ l → x ≠ (Reg.EVT_COUNT_RAISED src).off → x ≠ Reg.EVT_DROPPED_COUNT.off → t.rd x = s.rd x

/-- A meaning whose next state writes only some registers. -/
def State.answersWithin (s : State) (l : List Nat) (src : Nat) (r : Result) : Prop := ∀ t, r = .next t → s.writesOnly l src t

section

variable {s t r : State} {l : List Nat} {src : Nat}

theorem State.writesOnly_of_regs (h : t.regs = s.regs) : s.writesOnly l src t := fun x _ _ _ => State.rd_congr h x

theorem State.writesOnly.trans (h : s.writesOnly l src t) (g : t.writesOnly l src r) : s.writesOnly l src r :=
  fun x hl h1 h2 => (g x hl h1 h2).trans (h x hl h1 h2)

/-- A step that touches no register. -/
theorem State.writesOnly.same_regs (h : s.writesOnly l src t) (g : r.regs = t.regs) : s.writesOnly l src r :=
  h.trans (State.writesOnly_of_regs g)

theorem State.writesOnly.put (h : s.writesOnly l src t) {f : Fld} (v : Nat) (hf : f.off ∈ l) : s.writesOnly l src (t.put f v) :=
  h.trans fun _ hl _ _ => State.rd_put_other _ _ _ fun hx => hl (hx ▸ hf)

theorem State.writesOnly.putB (h : s.writesOnly l src t) {f : Fld} (b : Bool) (hf : f.off ∈ l) :
    s.writesOnly l src (t.putB f b) := h.put _ hf

theorem State.writesOnly.event (h : s.writesOnly l src t) (kind sev : Nat) : s.writesOnly l src (t.event src kind sev) :=
  h.trans fun _ _ h1 h2 => State.rd_event _ _ _ _ h1 h2

theorem State.writesOnly.sfg (h : s.writesOnly l src t) {f : Fld} (b : Bool) (hf : f.off = 0x020070) (hl : f.off ∈ l) :
    s.writesOnly l src (t.sfg f b) :=
  h.trans fun _ hx _ _ => State.rd_sfg _ _ hf fun h => hx (h ▸ hf ▸ hl)

theorem State.writesOnly.ite (h : s.writesOnly l src t) (g : s.writesOnly l src r) {c : Prop} [Decidable c] :
    s.writesOnly l src (if c then t else r) := by
  split
  · exact h
  · exact g

theorem State.writesOnly.each {α : Type} {m : List α} {f : State → α → State} (h : s.writesOnly l src t)
    (g : ∀ (s : State) (a : α), s.writesOnly l src (f s a)) : s.writesOnly l src (t.each m f) :=
  h.trans fun x hl h1 h2 => State.each_proj (State.rd · x) (fun s a _ => g s a x hl h1 h2) t

theorem State.writesOnly.putSat (h : s.writesOnly l src t) {f : Fld} (v : Nat) (hf : f.off ∈ l) :
    s.writesOnly l src (t.putSat f v) := h.put _ hf

theorem State.writesOnly.bump (h : s.writesOnly l src t) {f : Fld} (n : Nat) (hf : f.off ∈ l) :
    s.writesOnly l src (t.bump f n) := h.put _ hf

theorem State.writesOnly.putSr (h : s.writesOnly l src t) (k rank : Nat) (b : Bool) (hf : (Reg.SC_STATUS_SR_RANKS k).off ∈ l) :
    s.writesOnly l src (t.putSr k rank b) := h.put _ hf

/-! The steps on the parts of the state that are no register. -/

theorem State.writesOnly.emit (h : s.writesOnly l src t) (o : Out) : s.writesOnly l src (t.emit o) := h.same_regs rfl

theorem State.writesOnly.dramOut (h : s.writesOnly l src t) (k cmd rank bank addr : Nat) :
    s.writesOnly l src (t.dramOut k cmd rank bank addr) := h.emit _

theorem State.writesOnly.modTick (h : s.writesOnly l src t) (f : Tick → Tick) : s.writesOnly l src (t.modTick f) := h.same_regs rfl

theorem State.writesOnly.modSc (h : s.writesOnly l src t) (k : Nat) (f : Sc → Sc) : s.writesOnly l src (t.modSc k f) := h.same_regs rfl

theorem State.writesOnly.modGauge (h : s.writesOnly l src t) (f : Gauge → Gauge) : s.writesOnly l src (t.modGauge f) := h.same_regs rfl

theorem State.writesOnly.modSeq (h : s.writesOnly l src t) (f : Seq → Seq) : s.writesOnly l src (t.modSeq f) := h.same_regs rfl

theorem State.writesOnly.modPins (h : s.writesOnly l src t) (f : Pins → Pins) : s.writesOnly l src (t.modPins f) := h.same_regs rfl

theorem State.writesOnly.modSave (h : s.writesOnly l src t) (f : SaveSt → SaveSt) : s.writesOnly l src (t.modSave f) := h.same_regs rfl

theorem State.writesOnly.modKeys (h : s.writesOnly l src t) (f : Keys → Keys) : s.writesOnly l src (t.modKeys f) := h.same_regs rfl

theorem State.writesOnly.modUpd (h : s.writesOnly l src t) (f : Update → Update) : s.writesOnly l src (t.modUpd f) := h.same_regs rfl

theorem State.writesOnly.modTw0 (h : s.writesOnly l src t) (f : Tw0 → Tw0) : s.writesOnly l src (t.modTw0 f) := h.same_regs rfl

/-- A command's beginning touches no register. -/
theorem State.writesOnly_begin (s : State) : s.writesOnly l src s.begin := State.writesOnly_of_regs rfl

theorem State.answersWithin_next (h : s.writesOnly l src t) : s.answersWithin l src (.next t) := fun _ e =>
  Host.Outcome.next.inj e ▸ h

theorem State.answersWithin_occurs {c : Bool} {f : State → State} (h : s.writesOnly l src (f s.begin)) :
    s.answersWithin l src (occurs c s f) := State.answersWithin_next (h.ite s.writesOnly_begin)

end

/-- From what an entry of the table names to the names given to it. -/
theorem State.answersWithin.of_entry {s : State} {l m : List Nat} {src n : Nat} {r : Result} (own : some (m, n) = some (l, src))
    (h : s.answersWithin m n r) : s.answersWithin l src r := by
  cases own
  exact h

/-! ## The commands -/

section

variable (s : State)

theorem execTickSkew_writesOnly (b : Bool) : s.answersWithin [Reg.TICK_STATUS_TICK_A_OK.off, Reg.EVT_SFG_STATUS_OBSERVERS.off]
    (if b then 0x4E3 else 0x4E2) (execTickSkew b s) := by
  unfold execTickSkew
  refine State.answersWithin_occurs ?_
  cases b
  · exact .sfg (.event (.putB (.modTick s.writesOnly_begin _) _ (by decide)) _ _) _ rfl (by decide)
  · exact .sfg (.event (.putB (.modTick s.writesOnly_begin _) _ (by decide)) _ _) _ rfl (by decide)

theorem execCrcErrorWithReplay_writesOnly (h : HeadIx) : s.answersWithin [] (srcHead h 2) (execCrcErrorWithReplay h s) :=
  State.answersWithin_next (.event s.writesOnly_begin _ _)

theorem execCaParityAlert_writesOnly (k : ScIx) : s.answersWithin [] (srcSc k 19) (execCaParityAlert k s) :=
  State.answersWithin_next (.event s.writesOnly_begin _ _)

theorem execRankIdleSelfRefresh_writesOnly (k : ScIx) (rank : Nat) :
    s.answersWithin [(Reg.SC_STATUS_SR_RANKS k).off] 0 (execRankIdleSelfRefresh k rank s) := by
  unfold execRankIdleSelfRefresh
  refine State.answersWithin_occurs ?_
  exact .dramOut (.putSr (.modSc s.writesOnly_begin _ _) _ _ _ (List.mem_singleton.mpr rfl)) _ _ _ _ _

/-- Beginning the entry to self refresh writes STATUS of the subchannel. -/
theorem State.beginEntry_writesOnly (k src : Nat) : s.writesOnly [(Reg.SC_STATUS_SR_RANKS k).off] src (s.beginEntry k) := by
  have own : (Reg.SC_STATUS_SR_RANKS k).off ∈ [(Reg.SC_STATUS_SR_RANKS k).off] := List.mem_singleton.mpr rfl
  unfold State.beginEntry
  refine .put (.each (.modSc (State.writesOnly_of_regs rfl) _ _) fun s r => ?_) _ own
  exact .dramOut (.putSr (State.writesOnly_of_regs rfl) _ _ _ own) _ _ _ _ _

theorem execStandbyGeneratorLocked_writesOnly (k : ScIx) :
    s.answersWithin [(Reg.SC_STATUS_SR_RANKS k).off] 0 (execStandbyGeneratorLocked k s) := by
  unfold execStandbyGeneratorLocked
  have locked : s.writesOnly [(Reg.SC_STATUS_SR_RANKS k).off] 0 (s.begin.modSc k fun x => { x with locked := true }) :=
    .modSc s.writesOnly_begin _ _
  exact State.answersWithin_next (.ite (locked.trans (State.beginEntry_writesOnly _ k 0)) locked)

theorem execOpChangeSwitch_writesOnly (k : ScIx) : s.answersWithin [(Reg.SC_STATUS_STATE k).off] 0 (execOpChangeSwitch k s) := by
  have op : (Reg.SC_STATUS_OP k).off ∈ [(Reg.SC_STATUS_STATE k).off] := List.mem_singleton.mpr rfl
  have state : (Reg.SC_STATUS_STATE k).off ∈ [(Reg.SC_STATUS_STATE k).off] := List.mem_singleton.mpr rfl
  unfold execOpChangeSwitch
  refine State.answersWithin_occurs ?_
  dsimp only
  refine .each ?_ fun s r => ?_
  · exact .modSc (.put (.put s.writesOnly_begin _ op) _ state) _ _
  · exact .dramOut (.dramOut (State.writesOnly_of_regs rfl) _ _ _ _ _) _ _ _ _ _

theorem execOpChangeDone_writesOnly (k : ScIx) : s.answersWithin [(Reg.SC_STATUS_STATE k).off] 0 (execOpChangeDone k s) := by
  have state : (Reg.SC_STATUS_STATE k).off ∈ [(Reg.SC_STATUS_STATE k).off] := List.mem_singleton.mpr rfl
  have ranks : (Reg.SC_STATUS_SR_RANKS k).off ∈ [(Reg.SC_STATUS_STATE k).off] := List.mem_singleton.mpr rfl
  unfold execOpChangeDone
  refine State.answersWithin_occurs ?_
  dsimp only
  exact .modSc (.put (.put s.writesOnly_begin _ state) _ ranks) _ _

theorem execChgSelfGrant_writesOnly : s.answersWithin [Reg.SEQ_GROUP_STATUS_POSITION.off] 0 (execChgSelfGrant s) := by
  unfold execChgSelfGrant
  split
  · exact State.answersWithin_next s.writesOnly_begin
  · refine State.answersWithin_occurs ?_
    exact .putB (.modGauge s.writesOnly_begin _) _ (by decide)

theorem execChgGrant_writesOnly : s.answersWithin [Reg.SEQ_GROUP_STATUS_POSITION.off] 0 (execChgGrant s) := by
  unfold execChgGrant
  refine State.answersWithin_occurs ?_
  exact .ite (.putB (.modGauge s.writesOnly_begin _) _ (by decide)) (.emit s.writesOnly_begin _)

theorem execMasterLost_writesOnly : s.answersWithin [Reg.SEQ_GROUP_STATUS_POSITION.off] 0 (execMasterLost s) := by
  unfold execMasterLost
  refine State.answersWithin_occurs ?_
  exact .putB (.modGauge s.writesOnly_begin _) _ (by decide)

theorem execLearnGrant_writesOnly :
    s.answersWithin [Reg.LEARN_STATUS_PHASE.off, Reg.SEQ_GROUP_STATUS_POSITION.off] 0 (execLearnGrant s) := by
  unfold execLearnGrant
  refine State.answersWithin_occurs (.ite ?_ (.emit s.writesOnly_begin _))
  exact .putB (.putB (.modGauge s.writesOnly_begin _) _ (by decide)) _ (by decide)

theorem execLearnedWriteStart_writesOnly : s.answersWithin [Reg.GAUGE_STATUS_WRITING.off] 0 (execLearnedWriteStart s) := by
  unfold execLearnedWriteStart
  refine State.answersWithin_occurs ?_
  exact .emit (.putB (.putB (.modGauge s.writesOnly_begin _) _ (by decide)) _ (by decide)) _

theorem execConvSat_writesOnly : s.answersWithin [Reg.GAUGE_STATUS_WRITING.off] 0x470 (execConvSat s) := by
  unfold execConvSat
  exact State.answersWithin_next (.event (.putB s.writesOnly_begin _ (by decide)) _ _)

theorem execInputReturn_writesOnly (mv : Nat) : s.answersWithin [Reg.SEQ_STATUS_ON_LATCH.off] 0 (execInputReturn mv s) := by
  unfold execInputReturn
  refine State.answersWithin_next (.modPins (.ite ?_ s.writesOnly_begin) _)
  exact .putB (.modSeq s.writesOnly_begin _) _ (by decide)

theorem execPersistencePoint_writesOnly :
    s.answersWithin [Reg.SAVE_LAST_PP_PP_FRAMES.off, Reg.SAVE_STATUS_PHASE.off] 0 (execPersistencePoint s) := by
  unfold execPersistencePoint
  split
  · exact State.answersWithin_next s.writesOnly_begin
  · refine State.answersWithin_occurs ?_
    exact .modSave (.put (.putSat s.writesOnly_begin _ (by decide)) _ (by decide)) _

theorem execEntropyTestFail_writesOnly : s.answersWithin [Reg.KEY_STATUS_RNG_OK.off] 0x3ED (execEntropyTestFail s) := by
  unfold execEntropyTestFail
  exact State.answersWithin_next
    (.event (.modKeys (.bump (.putB s.writesOnly_begin _ (by decide)) _ (by decide)) _) _ _)

theorem State.aonMatched_regs : s.aonMatched.regs = s.regs := by
  unfold State.aonMatched
  split <;> rfl

theorem execTw0PageWrite_writesOnly (page : Byte) : s.answersWithin [Reg.TW0_PAGE_PAGE.off] 0 (execTw0PageWrite page s) := by
  unfold execTw0PageWrite State.onTw0
  refine State.answersWithin_occurs ?_
  exact .put (.same_regs s.writesOnly_begin (State.aonMatched_regs _)) _ (by decide)

theorem execTw0Timeout_writesOnly : s.answersWithin [Reg.TW0_STATUS_TIMEOUT.off] 0x441 (execTw0Timeout s) := by
  unfold execTw0Timeout
  refine State.answersWithin_occurs ?_
  exact .event (.putB s.writesOnly_begin _ (by decide)) _ _

theorem execTwSdaTimeout_writesOnly (k : TwIx) :
    s.answersWithin [(Reg.TW_STATUS_SDA_TIMEOUT (segNo k)).off] (srcTw (segNo k) 1) (execTwSdaTimeout k s) := by
  unfold execTwSdaTimeout
  refine State.answersWithin_occurs ?_
  exact .event (.putB s.writesOnly_begin _ (List.mem_singleton.mpr rfl)) _ _

theorem execUpdateLockIdleTimeout_writesOnly :
    s.answersWithin [Reg.UPD_STATUS_LOCK.off, Reg.UPD_STAGED_BYTES.off] 0 (execUpdateLockIdleTimeout s) := by
  unfold execUpdateLockIdleTimeout State.updRelease
  split
  · exact State.answersWithin_next s.writesOnly_begin
  · refine State.answersWithin_occurs ?_
    have unlocked := State.writesOnly.putB (s.writesOnly_begin.modUpd fun u => { u with staging := none }) false
      (f := Reg.UPD_STATUS_LOCK) (l := [Reg.UPD_STATUS_LOCK.off, Reg.UPD_STAGED_BYTES.off]) (src := 0) (by decide)
    exact .put (.put (.put unlocked _ (by decide)) _ (by decide)) _ (by decide)

end

/-- What the table names for a command is what the command writes. -/
theorem exec_answersWithin_ownRegs {c : Instr} {l : List Nat} {src : Nat} (s : State) (own : ownRegs c = some (l, src)) :
    s.answersWithin l src (exec c s) := by
  unfold ownRegs at own
  split at own
  case _ b => exact .of_entry own (execTickSkew_writesOnly s b)
  case _ h => exact .of_entry own (execCrcErrorWithReplay_writesOnly s h)
  case _ k => exact .of_entry own (execCaParityAlert_writesOnly s k)
  case _ k rank => exact .of_entry own (execRankIdleSelfRefresh_writesOnly s k rank)
  case _ k => exact .of_entry own (execStandbyGeneratorLocked_writesOnly s k)
  case _ k => exact .of_entry own (execOpChangeSwitch_writesOnly s k)
  case _ k => exact .of_entry own (execOpChangeDone_writesOnly s k)
  case _ => exact .of_entry own (execChgSelfGrant_writesOnly s)
  case _ => exact .of_entry own (execChgGrant_writesOnly s)
  case _ => exact .of_entry own (execMasterLost_writesOnly s)
  case _ => exact .of_entry own (execLearnGrant_writesOnly s)
  case _ => exact .of_entry own (execLearnedWriteStart_writesOnly s)
  case _ => exact .of_entry own (execConvSat_writesOnly s)
  case _ mv => exact .of_entry own (execInputReturn_writesOnly s mv)
  case _ => exact .of_entry own (execPersistencePoint_writesOnly s)
  case _ => exact .of_entry own (execEntropyTestFail_writesOnly s)
  case _ page => exact .of_entry own (execTw0PageWrite_writesOnly s page)
  case _ => exact .of_entry own (execTw0Timeout_writesOnly s)
  case _ k => exact .of_entry own (execTwSdaTimeout_writesOnly s k)
  case _ => exact .of_entry own (execUpdateLockIdleTimeout_writesOnly s)
  case _ => cases own

/-- Settles O17: the table's commands, one by one. -/
theorem smallCommandsKeepTheOtherRegisters : Obligations.SmallCommandsKeepTheOtherRegisters := by
  unfold Obligations.SmallCommandsKeepTheOtherRegisters
  exact fun c l src s t own step => exec_answersWithin_ownRegs s own t step

end Sys2Proof.Machine

/-!
PROOF. Three statements that fail (04_skim_and_exposure R88, R93; 03_persistence_contract R58, R60, R62; 07_image_and_ledger
R189): a full setting list, a write beyond the sixteen sub-channels, and a load that releases a version, each as a state that the
model evaluates to the refuting outcome.
-/

namespace Sys2Proof.Machine

/-- A command whose condition holds does its work. -/
theorem next_of_occurs {c : Bool} {s t : State} {f : State → State} (h : c = true) (step : occurs c s f = .next t) : t = f s.begin := by
  rw [occurs, if_pos h] at step
  exact (Host.Outcome.next.inj step).symm

/-! ## A full setting list (R88, R93) -/

/-- A panel that finds no place in the setting list overflows it. -/
theorem State.listPanel_of_full {s : State} {q panel : Nat} (due : Nat) (absent : ∀ e ∈ (s.quad q).setting, e.1 ≠ panel)
    (full : 8192 ≤ (s.quad q).setting.length) : s.listPanel q panel due = s.listOverflow q := by
  have notListed : ((s.quad q).setting.any fun e => decide (e.1 = panel)) = false := by simpa using absent
  unfold State.listPanel
  dsimp only
  rw [notListed, if_neg Bool.false_ne_true, if_neg (by omega)]

theorem State.listOverflow_flag (s : State) (q : Nat) : (s.listOverflow q).flag (Reg.SKIM_Q_OVERFLOW q) = true := by
  unfold State.listOverflow
  dsimp only
  rw [State.flag_event _ _ _ _ _ (by unfold srcPers; simp only [Reg.SKIM_Q_OVERFLOW]; omega)
      (by simp only [Reg.SKIM_Q_OVERFLOW]; omega), State.modQuad_flag,
    State.flag_putB_other _ _ _ _ (by decide : 15 + 1 ≤ 32) (by simp [Fld.apart, Reg.SKIM_Q_OVERFLOW, Reg.SKIM_Q_SWEEP])]
  exact State.flag_putB_same _ _ _ (by decide : 14 + 1 ≤ 32) rfl

/-- The setting list of panels 1 to n, all due. -/
def settingUpTo (n : Nat) : List (Nat × Nat) := (List.range n).map fun i => (i + 1, 0)

theorem settingUpTo_length (n : Nat) : (settingUpTo n).length = n := by simp [settingUpTo]

theorem settingUpTo_panel_ne_zero {n : Nat} : ∀ e ∈ settingUpTo n, e.1 ≠ 0 := by simp [settingUpTo]

/-- A patch that stands in the wet cache, WET since superframe 1. -/
def wetSinceOne : Patch := { st := .wet, sw := 1, cached := true }

/-- A running device in superframe 100,000 whose quadrant 0 has a setting list `l` and the WET patch 0. -/
def listedState (l : List (Nat × Nat)) : State := { wRun with
  tick := { clocksOn := true, devTime := 1048576 * 100000 }
  patches := [(0, wetSinceOne)]
  quads := [(0, { setting := l })] }

/-- A quadrant settles its one listed patch, which stands in the wet cache: SET, its panel goes to the setting list (R85, R86). -/
theorem State.settleQuad_of_single {s : State} {q p : Nat} {x : Patch} {written : List Nat} (listed : s.patches = [(p, x)])
    (here : quadOf p = q) (wet : x.st = .wet) (cached : x.cached = true) (late : x.sw + s.settledTime ≤ s.sf) (free : p ∉ written) :
    s.settleQuad q written =
      (s.modPatch p fun x => { x with st := .set, cached := false }).listPanel q (panelOf p) s.sf := by
  have due : (s.patches.filter fun e => decide (quadOf e.1 = q) && decide (e.2.st = .wet) &&
      decide (e.2.sw + s.settledTime ≤ s.sf) && !written.contains e.1) = [(p, x)] := by
    simp [listed, here, wet, late, free]
  unfold State.settleQuad
  rw [due, State.each, List.foldl_cons, List.foldl_nil]
  exact if_pos cached

@[simp] theorem State.begin_settledTime (s : State) : s.begin.settledTime = s.settledTime := rfl

theorem listedState_setting (l : List (Nat × Nat)) (f : Patch → Patch) :
    (((listedState l).begin.modPatch 0 f).quad 0).setting = l := rfl

theorem listedState_late (l : List (Nat × Nat)) : wetSinceOne.sw + (listedState l).settledTime ≤ (listedState l).sf := by
  have time : (listedState l).settledTime = wRun.settledTime := by
    unfold State.settledTime State.settingTime
    rw [State.get_congr (s := listedState l) (t := wRun) rfl]
    rfl
  have long : wRun.settledTime + 1 ≤ 100000 := by decide +kernel
  have sf : (listedState l).sf = 100000 := Nat.mul_div_cancel_left 100000 (by decide)
  have first : wetSinceOne.sw = 1 := rfl
  omega

/-- Refutes O28: a patch that turns SET while its quadrant's setting list is full sets SKIM_Q.OVERFLOW (R88, R93), so
PATCH_SETTING_EXPIRY does not leave every register as it was. -/
theorem not_skimMovesPatchesToFlash : ¬ Obligations.SkimMovesPatchesToFlash := by
  unfold Obligations.SkimMovesPatchesToFlash
  rintro ⟨expiry, -⟩
  obtain ⟨l, absent, full⟩ : ∃ l : List (Nat × Nat), (∀ e ∈ l, e.1 ≠ panelOf 0) ∧ 8192 ≤ l.length :=
    ⟨settingUpTo 8192, settingUpTo_panel_ne_zero, (settingUpTo_length 8192).ge⟩
  obtain ⟨t, step, -, -, regs⟩ := expiry 0 0 (listedState l) 0 wetSinceOne rfl rfl rfl (listedState_late l) List.not_mem_nil rfl
  have settled : t = ((listedState l).begin.modPatch 0 fun x => { x with st := .set, cached := false }).listOverflow 0 := by
    rw [← Host.Outcome.next.inj step]
    have settles := State.settleQuad_of_single (s := (listedState l).begin) (q := 0) (p := 0) (x := wetSinceOne)
      (written := (listedState l).begin.matesWrite 0) rfl rfl rfl rfl (listedState_late l) List.not_mem_nil
    rw [← listedState_setting l fun x => { x with st := .set, cached := false }] at absent full
    exact settles.trans (State.listPanel_of_full _ absent full)
  have overflows : t.flag (Reg.SKIM_Q_OVERFLOW 0) = true := settled ▸ State.listOverflow_flag _ 0
  have unset : wRun.flag (Reg.SKIM_Q_OVERFLOW 0) = false := by decide +kernel
  have same : t.flag (Reg.SKIM_Q_OVERFLOW 0) = wRun.flag (Reg.SKIM_Q_OVERFLOW 0) := State.flag_of_rd (State.rd_congr regs _)
  exact absurd (overflows.symm.trans (same.trans unset)) (by decide)

/-! ## A sub-channel beyond the sixteen (R60, R62) -/

theorem gpfPhase2_next {h : HeadIx} {s t : State} (linked : (s.flag (Reg.FAB_STATUS_LINK_UP h) && !(s.head h).discarding) = true)
    (step : exec (.gpfPhase2 h) s = .next t) : t = (s.begin.modHead h fun x => { x with gpf := some s.unflushed }).judgeGpf :=
  next_of_occurs (f := fun a => (a.modHead h fun x => { x with gpf := some s.unflushed }).judgeGpf) linked step

/-- A host write whose completion has been returned and that still waits for DRAM. -/
def unflushedWrite : QEntry :=
  { id := 1, origin := 0, dpa := 0, loc := wRun.locOf 0, isWrite := true, deadline := 0, entered := 0, head := some 0, done := true }

/-- The running device, the write standing in the queue of a sub-channel 16, beyond the 16 that the statement looks at. -/
def strayQueueState : State := { wRun with scs := [(16, { writeQ := [unflushedWrite] })] }

/-- Refutes O22: State.unflushed goes over every sub-channel that the state lists, and the statement's last clause asks only those
numbered 0 to 15 to hold no completed write. In a state that lists another one, GPF_PHASE2 waits for its write. -/
theorem not_linksTrainAndGoDown : ¬ Obligations.LinksTrainAndGoDown := by
  unfold Obligations.LinksTrainAndGoDown
  rintro ⟨-, -, -, -, -, phase2⟩
  obtain ⟨t, step, -, answered⟩ := phase2 0 strayQueueState (by decide +kernel) (by decide +kernel) (by decide +kernel)
    (by decide +kernel)
  have waits : ((strayQueueState.begin.modHead 0 fun x =>
      { x with gpf := some strayQueueState.unflushed }).judgeGpf.head (0 : HeadIx)).gpf = some [1] := by decide +kernel
  rw [gpfPhase2_next (by decide +kernel) step] at answered
  exact absurd (answered.symm.trans waits) (by decide)

/-! ## A load that releases a version (R58, R189) -/

theorem ledgerLoad_next {lost : List (Nat × Nat)} {s t : State}
    (due : (s.flag Reg.PERS_START_DECIDED && decide (s.get Reg.PERS_STATUS_START_STATE ≤ 1) && !s.image.loaded) = true)
    (step : exec (.ledgerLoad lost) s = .next t) : t = s.begin.ledgerLoad lost :=
  next_of_occurs (f := fun a => a.ledgerLoad lost) due step

/-- A journal unit of quadrant 0 that says where the newest version of patch 0 is. -/
def journalOfPatchZero : UnitBody := .journal 0 0 0 0 (.fixed 0) [{ patch := 0, entry := .version 0 1 0 0, sf := 0 }]

/-- A start decided for a seal that names that journal unit in die 0. The setting list puts patch 0 in LD 0's volatile
partition. -/
def volatileLedgerState : State :=
  { ((wRun.putB Reg.PERS_START_DECIDED true).put Reg.PERS_STATUS_START_STATE 1).put (Reg.DIE_STATUS_STATE 0) 2 with
    image := { seals := [{ wRec with journalTail := [some (0, 0, 0), none, none, none] }] }
    dies := [(0, { units := [(0, some { body := journalOfPatchZero, good := true })] })] }

/-- Refutes O29: LEDGER_LOAD releases the loaded versions of patches that lie in no persistent partition, and each release is
journaled (R58, R189); so the journal of such a patch's quadrant is not empty after the load. -/
theorem not_theStartLoadsTheImageAndComesUp : ¬ Obligations.TheStartLoadsTheImageAndComesUp := by
  unfold Obligations.TheStartLoadsTheImageAndComesUp
  rintro ⟨-, load, -⟩
  obtain ⟨t, step, -, -, empty⟩ := load [] volatileLedgerState (by decide +kernel) (by decide +kernel) rfl
  have released : ((volatileLedgerState.begin.ledgerLoad []).quad 0).journal = [{ patch := 0, entry := .none, sf := 0 }] := by
    decide +kernel
  obtain ⟨-, journal, -⟩ := empty 0
  rw [ledgerLoad_next (by decide +kernel) step] at journal
  exact absurd (journal.symm.trans released) (by decide)

end Sys2Proof.Machine

/-!
PROOF. Host requests at a head (03_persistence_contract R51, R65; 04_skim_and_exposure R82, R85, R104 to R106; 11_fabric_ports R319,
R324, R328): what reading a patch finds, the setting time, what reception leaves as it was, and a write from its reception to its
completion.
-/

namespace Sys2Proof.Machine

/-! ## Reading a patch -/

theorem State.patch_congr {s t : State} {p : Nat} (patches : t.patches = s.patches)
    (dflt : (t.quad (quadOf p)).dflt = (s.quad (quadOf p)).dflt) : t.patch p = s.patch p := by
  unfold State.patch
  rw [patches, dflt]

theorem State.modPatch_patch (s : State) (p j : Nat) (f : Patch → Patch) :
    (s.modPatch p f).patch j = if j = p then f (s.patch p) else s.patch j := by
  have find : sparseFind (s.modPatch p f).patches j = _ := sparseFind_set _ s.patches p j _
  have quad : (s.modPatch p f).quad (quadOf j) = s.quad (quadOf j) := rfl
  rw [State.patch, find, quad]
  by_cases same : j = p
  · by_cases plain : f (s.patch p) = (s.quad (quadOf p)).dflt <;> simp [same, plain]
  · rw [if_neg same, if_neg same]
    rfl

theorem State.modQuad_patch (s : State) (q p : Nat) {f : Quad → Quad} (keeps : ∀ d, (f d).dflt = d.dflt) :
    (s.modQuad q f).patch p = s.patch p := by
  refine State.patch_congr rfl ?_
  by_cases here : quadOf p = q
  · rw [here, State.modQuad_same, keeps]
  · rw [State.modQuad_other _ _ _ here]

theorem State.listOverflow_patch (s : State) (q p : Nat) : (s.listOverflow q).patch p = s.patch p := by
  unfold State.listOverflow
  dsimp only
  have event : ∀ t : State, (t.event (srcPers q 0) 1 Sev.note).patch p = t.patch p := fun t => by
    exact State.patch_congr (by simp) (by simp [State.quad])
  rw [event, State.modQuad_patch]
  · rfl
  · exact fun _ => rfl

@[simp] theorem State.listPanel_patch (s : State) (q panel due p : Nat) : (s.listPanel q panel due).patch p = s.patch p := by
  unfold State.listPanel
  dsimp only
  split
  · exact State.modQuad_patch _ _ _ fun _ => rfl
  · split
    · exact State.modQuad_patch _ _ _ fun _ => rfl
    · exact State.listOverflow_patch s q p

/-! ## Lists in canonical form -/

theorem sparseFind_eq_of_mem {α : Type} {m : Sparse α} {lo k : Nat} {v : α} (rising : sparseRising lo m = true) (mem : (k, v) ∈ m) :
    sparseFind m k = some v := by
  induction m generalizing lo with
  | nil => cases mem
  | cons e m ih =>
    obtain ⟨a, b⟩ := e
    simp only [sparseRising, Bool.and_eq_true, decide_eq_true_eq] at rising
    rw [sparseFind_cons]
    rcases List.mem_cons.mp mem with head | tail
    · obtain ⟨rfl, rfl⟩ := Prod.mk.injEq .. ▸ head
      exact if_pos rfl
    · have found := ih rising.2 tail
      rw [if_neg fun same => ?_, found]
      subst same
      rw [sparseFind_below m rising.2 (Nat.lt_succ_self _)] at found
      cases found

theorem mem_of_sparseFind {α : Type} {m : Sparse α} {k : Nat} {v : α} (found : sparseFind m k = some v) : (k, v) ∈ m := by
  induction m with
  | nil => cases found
  | cons e m ih =>
    obtain ⟨a, b⟩ := e
    rw [sparseFind_cons] at found
    split at found
    next same => subst same; cases found; exact List.mem_cons_self
    next => exact List.mem_cons_of_mem _ (ih found)

/-! ## The setting time (R65, R85) -/

/-- One patch settles: it is SET, and its panel goes to the setting list when it stood in the wet cache. -/
def State.settlePatch (q : Nat) (s : State) (e : Nat × Patch) : State :=
  let t := s.modPatch e.1 fun x => { x with st := .set, cached := false }
  if e.2.cached then t.listPanel q (panelOf e.1) t.sf else t

theorem State.settlePatch_patch (s : State) (q p : Nat) (e : Nat × Patch) :
    ((s.settlePatch q e).patch p).st = if p = e.1 then .set else (s.patch p).st := by
  have settled : (s.settlePatch q e).patch p = (s.modPatch e.1 fun x => { x with st := .set, cached := false }).patch p := by
    unfold State.settlePatch
    dsimp only
    split
    · exact State.listPanel_patch _ _ _ _ p
    · rfl
  rw [settled, State.modPatch_patch]
  split <;> rfl

theorem State.settleEach_patch (s : State) (q p : Nat) (due : List (Nat × Patch)) :
    ((s.each due (State.settlePatch q)).patch p).st = if p ∈ due.map Prod.fst then .set else (s.patch p).st := by
  induction due generalizing s with
  | nil => rfl
  | cons e due ih =>
    have rest : s.each (e :: due) (State.settlePatch q) = (s.settlePatch q e).each due (State.settlePatch q) := rfl
    rw [rest, ih, State.settlePatch_patch]
    by_cases later : p ∈ due.map Prod.fst <;> by_cases here : p = e.1 <;> simp [later, here]

/-- The patches of a quadrant whose setting time is over, those that a write of the same cycle reaches left out. -/
def State.settles (s : State) (q : Nat) (written : List Nat) : List (Nat × Patch) :=
  s.patches.filter fun e => decide (quadOf e.1 = q) && decide (e.2.st = .wet) &&
    decide (e.2.sw + s.settledTime ≤ s.sf) && !written.contains e.1

theorem State.settleQuad_eq (s : State) (q : Nat) (written : List Nat) :
    s.settleQuad q written = s.each (s.settles q written) (State.settlePatch q) := rfl

theorem State.mem_settles {s : State} {q p : Nat} {x : Patch} {written : List Nat} (rising : sparseRising 0 s.patches = true)
    (listed : sparseFind s.patches p = some x) (here : quadOf p = q) (wet : x.st = .wet) (free : p ∉ written) :
    p ∈ (s.settles q written).map Prod.fst ↔ x.sw + s.settledTime ≤ s.sf := by
  constructor
  · intro mem
    obtain ⟨⟨p', y⟩, settles, rfl⟩ := List.mem_map.mp mem
    obtain ⟨mem, due⟩ := List.mem_filter.mp settles
    cases listed.symm.trans (sparseFind_eq_of_mem rising mem)
    simp only [Bool.and_eq_true, decide_eq_true_eq] at due
    exact due.1.2
  · intro late
    exact List.mem_map.mpr ⟨(p, x), List.mem_filter.mpr ⟨mem_of_sparseFind listed, by simp [here, wet, late, free]⟩, rfl⟩

theorem settingExpiry_setsPatch {q : QuadIx} {mates : Nat} {s : State} {p : Nat} {x : Patch} (listed : sparseFind s.patches p = some x)
    (here : quadOf p = q) (wet : x.st = .wet) (free : p ∉ s.matesWrite mates)
    (wf : sparseWf (fun k => (s.quad (quadOf k)).dflt) s.patches = true) :
    ∃ t, exec (.patchSettingExpiry q mates) s = .next t ∧ (t.patch p).st = (if x.sw + s.settledTime ≤ s.sf then .set else .wet) := by
  refine ⟨_, rfl, ?_⟩
  have rising : sparseRising 0 s.begin.patches = true := (Bool.and_eq_true_iff.mp wf).1
  have before : (s.begin.patch p).st = .wet := by
    rw [State.patch, show s.begin.patches = s.patches from rfl, listed]
    exact wet
  rw [State.settleQuad_eq, State.settleEach_patch, before]
  exact if_congr (State.mem_settles (s := s.begin) rising listed here wet free) rfl rfl


/-- Which DPAs are persistent rests on the LDs' configuration registers. -/
theorem State.persistent_of_rd {s t : State} (rd : ∀ k : Nat, ∀ o ≤ 8, t.rd (Machine.ldBase k + o) = s.rd (Machine.ldBase k + o))
    (dpa : Nat) : t.persistent dpa = s.persistent dpa := by
  have on : ∀ k, t.ldOn k = s.ldOn k := fun k => State.flag_of_rd (rd k 0 (by decide))
  have base : ∀ k, t.ldBase k = s.ldBase k := fun k => congrArg (· * unit256) (State.get_of_rd (rd k 4 (by decide)))
  have size : ∀ k, t.ldSize k = s.ldSize k := fun k => congrArg (· * unit256) (State.get_of_rd (rd k 4 (by decide)))
  have vol : ∀ k, t.ldVol k = s.ldVol k := fun k => congrArg (· * unit256) (State.get_of_rd (rd k 8 (by decide)))
  have place : t.ldOfDpa dpa = s.ldOfDpa dpa := by simp only [State.ldOfDpa, on, base, size]
  simp only [State.persistent, place, base, vol]

theorem State.persistent_of_outside {s t : State} {m : Nat} (h : t.outside m = s.outside m) (hm : m.testBit 0 = false) (dpa : Nat) :
    t.persistent dpa = s.persistent dpa := State.persistent_of_rd (fun _ _ _ => State.rd_congr (regs_of_outside h hm) _) dpa

/-! ## What reception leaves as it was (R324, R327, R330) -/

/-- Two states agree in what the reception of a request at a head reads. Credits, metering and messages keep it; metering counts
in LD_STATUS, a message in its source's event registers. -/
structure State.ReceivesAlike (s : State) (h : Nat) (t : State) : Prop where
  sf : t.sf = s.sf
  patches : t.patches = s.patches
  quads : t.quads = s.quads
  scs : t.scs = s.scs
  keys : t.keys = s.keys
  fabric : t.fabric = s.fabric
  reqs : (t.head h).reqs = (s.head h).reqs
  mediaReady : (t.head h).mediaReady = (s.head h).mediaReady
  notReady : ∀ k, (t.ld k).notReady = (s.ld k).notReady
  prevReqs : ∀ k, (t.ld k).prevReqs = (s.ld k).prevReqs
  prevOver : ∀ k, (t.ld k).prevOver = (s.ld k).prevOver
  rd : ∀ x, x < 0x020000 ∨ 0x030000 ≤ x → (∀ k, x ≠ (Reg.LD_STATUS_OVER k).off) → t.rd x = s.rd x

namespace State.ReceivesAlike

theorem trans {s t u : State} {h : Nat} (a : s.ReceivesAlike h t) (b : t.ReceivesAlike h u) : s.ReceivesAlike h u where
  sf := b.sf.trans a.sf
  patches := b.patches.trans a.patches
  quads := b.quads.trans a.quads
  scs := b.scs.trans a.scs
  keys := b.keys.trans a.keys
  fabric := b.fabric.trans a.fabric
  reqs := b.reqs.trans a.reqs
  mediaReady := b.mediaReady.trans a.mediaReady
  notReady := fun k => (b.notReady k).trans (a.notReady k)
  prevReqs := fun k => (b.prevReqs k).trans (a.prevReqs k)
  prevOver := fun k => (b.prevOver k).trans (a.prevOver k)
  rd := fun x outside other => (b.rd x outside other).trans (a.rd x outside other)

theorem of_useCredit (s : State) (h c : Nat) (wr : Bool) : s.ReceivesAlike h ((s.begin.atCycle c).useCredit h wr) := by
  have head : ((s.begin.atCycle c).useCredit h wr).head h = _ := State.modHead_same (s.begin.atCycle c) h _
  constructor
  case reqs => rw [head]; split <;> rfl
  case mediaReady => rw [head]; split <;> rfl
  all_goals intros; rfl

theorem of_meter (s : State) (h k : Nat) : s.ReceivesAlike h (s.meter k).2 := by
  have ld : ∀ f : Ld → Ld, (∀ l, (f l).notReady = l.notReady ∧ (f l).prevReqs = l.prevReqs ∧ (f l).prevOver = l.prevOver) →
      s.ReceivesAlike h (s.modLd k f) := by
    intro f keeps
    have same : ∀ j, ((s.modLd k f).ld j).notReady = (s.ld j).notReady ∧ ((s.modLd k f).ld j).prevReqs = (s.ld j).prevReqs ∧
        ((s.modLd k f).ld j).prevOver = (s.ld j).prevOver := by
      intro j
      by_cases here : j = k
      · rw [here, State.modLd_same]
        exact keeps _
      · rw [State.modLd_other _ _ _ here]
        exact ⟨rfl, rfl, rfl⟩
    constructor
    case notReady => exact fun j => (same j).1
    case prevReqs => exact fun j => (same j).2.1
    case prevOver => exact fun j => (same j).2.2
    all_goals intros; rfl
  unfold State.meter
  split
  · exact ld _ fun _ => ⟨rfl, rfl, rfl⟩
  · refine (ld (fun l => { l with reqs := l.reqs + 1, overs := l.overs + 1 }) fun _ => ⟨rfl, rfl, rfl⟩).trans ?_
    constructor
    case rd => exact fun x _ other => State.rd_bump_other _ _ _ (other k)
    all_goals intros; rfl

theorem of_eventAt (s : State) (h src kind sev req acc space addr : Nat) (named : src < 0x2000) :
    s.ReceivesAlike h (s.eventAt src kind sev req acc space addr) := by
  constructor
  case rd => exact fun x outside _ => State.rd_raise _ _ _ (by dsimp only; omega) (by omega)
  all_goals simp

variable {s t : State} {h : Nat}

theorem quad (a : s.ReceivesAlike h t) (q : Nat) : t.quad q = s.quad q := by rw [State.quad, a.quads]; rfl

theorem patch (a : s.ReceivesAlike h t) (p : Nat) : t.patch p = s.patch p := State.patch_congr a.patches (by rw [a.quad])

/-- The registers that hold an LD's configuration. -/
theorem rd_ld (a : s.ReceivesAlike h t) (k : Nat) {o : Nat} (ho : o ≤ 8) : t.rd (Machine.ldBase k + o) = s.rd (Machine.ldBase k + o) := by
  refine a.rd _ (by unfold Machine.ldBase; omega) fun j => ?_
  simp only [Reg.LD_STATUS_OVER, Machine.ldBase]
  omega

theorem ldOn (a : s.ReceivesAlike h t) (k : Nat) : t.ldOn k = s.ldOn k := State.flag_of_rd (a.rd_ld k (by decide : 0 ≤ 8))

theorem ldHead (a : s.ReceivesAlike h t) (k : Nat) : t.ldHead k = s.ldHead k := State.get_of_rd (a.rd_ld k (by decide : 0 ≤ 8))

theorem ldBase (a : s.ReceivesAlike h t) (k : Nat) : t.ldBase k = s.ldBase k :=
  congrArg (· * unit256) (State.get_of_rd (a.rd_ld k (by decide : 4 ≤ 8)))

theorem ldSize (a : s.ReceivesAlike h t) (k : Nat) : t.ldSize k = s.ldSize k :=
  congrArg (· * unit256) (State.get_of_rd (a.rd_ld k (by decide : 4 ≤ 8)))

theorem decodes (a : s.ReceivesAlike h t) (head k addr : Nat) : t.decodes head k addr = s.decodes head k addr := by
  unfold State.decodes
  rw [a.ldOn, a.ldHead, a.ldSize]

theorem persistent (a : s.ReceivesAlike h t) (dpa : Nat) : t.persistent dpa = s.persistent dpa :=
  State.persistent_of_rd (fun k _ ho => a.rd_ld k ho) dpa

theorem ldNotReady (a : s.ReceivesAlike h t) (k : Nat) : t.ldNotReady k = s.ldNotReady k := by
  unfold State.ldNotReady State.slot
  rw [a.notReady, a.keys]

theorem heldBefore (a : s.ReceivesAlike h t) (dpa : Nat) : t.heldBefore h dpa = s.heldBefore h dpa := by
  unfold State.heldBefore
  rw [a.reqs]

theorem undoneBefore (a : s.ReceivesAlike h t) (id dpa : Nat) : t.undoneBefore h id dpa = s.undoneBefore h id dpa := by
  unfold State.undoneBefore
  rw [a.reqs, a.scs]

theorem waitsFill (a : s.ReceivesAlike h t) (dpa : Nat) : t.waitsFill dpa = s.waitsFill dpa := by
  unfold State.waitsFill
  rw [a.patch, a.persistent]

theorem level (a : s.ReceivesAlike h t) : t.level = s.level := by
  have enable : t.flag Reg.SKIM_CTRL_ENABLE = s.flag Reg.SKIM_CTRL_ENABLE :=
    State.flag_of_rd (a.rd _ (by decide) fun k => by simp only [Reg.SKIM_CTRL_ENABLE, Reg.LD_STATUS_OVER, Machine.ldBase]; omega)
  have level : t.get Reg.EXPO_LEVEL_LEVEL = s.get Reg.EXPO_LEVEL_LEVEL :=
    State.get_of_rd (a.rd _ (by decide) fun k => by simp only [Reg.EXPO_LEVEL_LEVEL, Reg.LD_STATUS_OVER, Machine.ldBase]; omega)
  unfold State.level
  rw [enable, level]

theorem devLoad (a : s.ReceivesAlike h t) {head : Nat} (low : head < 16) (k : Nat) : t.devLoad head k = s.devLoad head k := by
  have load : t.rd (headBase head + 4) = s.rd (headBase head + 4) :=
    a.rd _ (by unfold headBase; omega) fun k => by simp only [Reg.LD_STATUS_OVER, Machine.ldBase, headBase]; omega
  have held : t.flag (Reg.FAB_LOAD_REQ_HELD head) = s.flag (Reg.FAB_LOAD_REQ_HELD head) := State.flag_of_rd load
  have queue : t.get (Reg.FAB_LOAD_DEVLOAD_Q head) = s.get (Reg.FAB_LOAD_DEVLOAD_Q head) := State.get_of_rd load
  have shown : t.get Reg.EXPO_LEVEL_DEVLOAD = s.get Reg.EXPO_LEVEL_DEVLOAD :=
    State.get_of_rd (a.rd _ (by decide) fun k => by simp only [Reg.EXPO_LEVEL_DEVLOAD, Reg.LD_STATUS_OVER, Machine.ldBase]; omega)
  unfold State.devLoad
  rw [held, queue, shown, a.prevReqs, a.prevOver]

end State.ReceivesAlike


theorem State.sf_of_outside {s t : State} {m : Nat} (h : t.outside m = s.outside m) (hm : m.testBit 1 = false) : t.sf = s.sf := by
  unfold State.sf
  rw [tick_of_outside h hm]

/-! ## Completing a write (R51, R82, R330) -/

/-- A write to a patch makes it WET in the present superframe (R82). -/
theorem State.patchWritten_patch (s : State) (p : Nat) :
    ((s.patchWritten p).patch p).st = .wet ∧ ((s.patchWritten p).patch p).sw = s.sf := by
  unfold State.patchWritten
  dsimp only
  rw [State.modQuad_patch, State.modPatch_patch, if_pos rfl]
  · refine ⟨rfl, State.sf_of_outside (m := 18001) ?_ (by decide)⟩
    split <;> split <;> simp
  · intro d
    split <;> rfl

theorem State.writeApplied_frame (s : State) (dpa : Nat) (w : Option WriteData) :
    (s.writeApplied dpa w).outside 18001 = s.outside 18001 := State.writeApplied_outside s dpa w 18001 (by decide)

theorem State.completeWrite_out (s : State) (h : Nat) {r : HReq} (linked : r.orphan = false) :
    .writeDone h r.ld r.tag (s.devLoad h r.ld) ∈ (s.completeWrite h r).out := by
  unfold State.completeWrite
  dsimp only
  rw [if_neg (by simp [linked]), out_of_outside (State.writeApplied_frame _ _ _) (by decide)]
  exact List.mem_append_right _ (List.mem_singleton.mpr rfl)

theorem State.completeWrite_reqs (s : State) (h : Nat) (r : HReq) : ((s.completeWrite h r).head h).reqs =
    (s.head h).reqs.map fun x => if x.id = r.id then { x with done := true, stage := .ready } else x := by
  unfold State.completeWrite State.head
  dsimp only
  rw [heads_of_outside (State.writeApplied_frame _ _ _) (by decide)]
  have marked : ((s.modReq h r.id fun x => { x with done := true, stage := .ready }).head h).reqs = _ :=
    congrArg Head.reqs (State.modHead_same s h _)
  split <;> exact marked

theorem State.writeApplied_patch (s : State) (dpa : Nat) (w : Option WriteData) (persistent : s.persistent dpa = true) :
    ((s.writeApplied dpa w).patch (patchOf dpa)).st = .wet ∧ ((s.writeApplied dpa w).patch (patchOf dpa)).sw = s.sf := by
  have listed : (if (w.map WriteData.poison).getD false then s.addPoison (lineOf dpa) .external else s : State).outside 16384 =
      s.outside 16384 := by split <;> simp
  unfold State.writeApplied
  dsimp only
  rw [if_pos ((State.persistent_of_outside listed (by decide) dpa).trans persistent), ← State.sf_of_outside listed (by decide)]
  exact State.patchWritten_patch _ _

theorem State.completeWrite_patch (s : State) (h : Nat) (r : HReq) (persistent : s.persistent r.dpa = true) :
    ((s.completeWrite h r).patch (patchOf r.dpa)).st = .wet ∧ ((s.completeWrite h r).patch (patchOf r.dpa)).sw = s.sf := by
  unfold State.completeWrite
  dsimp only
  generalize sent : (if r.orphan = true then _ else _ : State) = t
  have answered : t.outside 2147487744 = s.outside 2147487744 := by
    rw [← sent]
    split <;> simp
  rw [← State.sf_of_outside answered (by decide)]
  exact t.writeApplied_patch _ _ ((State.persistent_of_outside answered (by decide) _).trans persistent)

/-! ## Receiving a write (R82, R319, R324) -/

/-- The state in which a received write enters its head's pool: metered, and reported when its data is poisoned. -/
def State.writeNoted (s : State) (r : HostReq) (d : WriteData) : State :=
  if d.poison then (s.meter r.ld).2.eventAt (srcHead r.head 6) 1 Sev.note r.ld Access.write 1 (lineOf (s.ldBase r.ld + r.addr))
  else (s.meter r.ld).2

/-- The request that a received write becomes. -/
def State.writeReq (s : State) (r : HostReq) (d : WriteData) : HReq :=
  { id := (s.writeNoted r d).fabric.nextId, ld := r.ld, tag := r.tag, dpa := lineOf (s.ldBase r.ld + r.addr), write := some d
    arrival := (s.writeNoted r d).now, deadline := (s.writeNoted r d).deadline r.ld true (s.meter r.ld).1 }

theorem State.writeNoted_alike (s : State) (r : HostReq) (d : WriteData) : s.ReceivesAlike r.head (s.writeNoted r d) := by
  unfold State.writeNoted
  split
  · exact (ReceivesAlike.of_meter s r.head r.ld).trans (.of_eventAt _ _ _ _ _ _ _ _ _ (by unfold srcHead; omega))
  · exact .of_meter s r.head r.ld

theorem State.pool_reqs (s : State) (h : Nat) (r : HReq) : ((s.pool h r).head h).reqs = (s.head h).reqs ++ [r] := by
  unfold State.pool
  rw [State.modFabric_head, State.modHead_same]

theorem State.admitWrite_of_free {s : State} {h : Nat} {r : HReq} (rail : (s.quad (quadOf (patchOf r.dpa))).railLost = false)
    (filled : s.waitsFill r.dpa = false) (first : s.undoneBefore h r.id r.dpa = false) : s.admitWrite h r = s.completeWrite h r := by
  simp [State.admitWrite, rail, filled, first]

/-- No later request is an earlier write. -/
theorem State.undoneBefore_pool {s : State} {h id dpa : Nat} {r : HReq} (later : id ≤ r.id) :
    (s.pool h r).undoneBefore h id dpa = s.undoneBefore h id dpa := by
  unfold State.undoneBefore
  dsimp only
  rw [State.pool_reqs, List.any_append]
  have notBefore : decide (r.id < id) = false := by simpa using later
  simp [notBefore, show (s.pool h r).scs = s.scs from rfl]

/-- What the two statements about a received write ask of it: its head takes it, its LD is ready, nothing holds it. -/
structure State.writeCompletes (s : State) (r : HostReq) : Prop where
  mediaReady : (s.head r.head).mediaReady = true
  decodes : s.decodes r.head r.ld r.addr = true
  ready : s.ldNotReady r.ld = false
  free : s.heldBefore r.head (lineOf (s.ldBase r.ld + r.addr)) = false
  level : s.level ≠ 3
  rail : (s.quad (quadOf (patchOf (lineOf (s.ldBase r.ld + r.addr))))).railLost = false
  filled : s.waitsFill (lineOf (s.ldBase r.ld + r.addr)) = false
  first : s.undoneBefore r.head s.fabric.nextId (s.ldBase r.ld + r.addr) = false

theorem State.writeCompletes.congr {s t : State} {r : HostReq} (w : s.writeCompletes r) (a : s.ReceivesAlike r.head t) :
    t.writeCompletes r where
  mediaReady := a.mediaReady.trans w.mediaReady
  decodes := (a.decodes _ _ _).trans w.decodes
  ready := (a.ldNotReady _).trans w.ready
  free := by rw [a.heldBefore, a.ldBase, w.free]
  level := by rw [a.level]; exact w.level
  rail := by rw [a.quad, a.ldBase, w.rail]
  filled := by rw [a.waitsFill, a.ldBase, w.filled]
  first := by rw [a.undoneBefore, a.fabric, a.ldBase, w.first]

theorem lineOf_lineOf (a : Nat) : lineOf (lineOf a) = lineOf a := by
  unfold lineOf
  omega

theorem State.hostWrite_of_completes {s : State} {r : HostReq} (d : WriteData) (w : s.writeCompletes r) : s.hostWrite r d =
    ((s.writeNoted r d).pool r.head (s.writeReq r d)).completeWrite r.head (s.writeReq r d) := by
  have a := s.writeNoted_alike r d
  have admitted : s.hostWrite r d = ((s.writeNoted r d).pool r.head (s.writeReq r d)).admitWrite r.head (s.writeReq r d) := by
    have free := (a.heldBefore _).trans w.free
    have level : (s.writeNoted r d).level ≠ 3 := by rw [a.level]; exact w.level
    unfold State.hostWrite
    dsimp only
    rw [if_neg (by simp [w.mediaReady]), if_neg (by simp [w.decodes]), if_neg (by simp [w.ready])]
    refine (if_neg ?_).trans (if_neg ?_)
    · exact Bool.eq_false_iff.mp free
    · simp only [Bool.and_eq_true, decide_eq_true_eq]
      exact fun held => level held.1.1
  rw [admitted]
  refine State.admitWrite_of_free ?_ ?_ ?_
  · exact (congrArg Quad.railLost (a.quad _)).trans w.rail
  · exact (a.waitsFill _).trans w.filled
  · rw [State.undoneBefore_pool (Nat.le_refl _), a.undoneBefore]
    have id : (s.writeReq r d).id = s.fabric.nextId := congrArg Fabric.nextId a.fabric
    rw [id]
    have line : s.undoneBefore r.head s.fabric.nextId (lineOf (s.ldBase r.ld + r.addr)) =
        s.undoneBefore r.head s.fabric.nextId (s.ldBase r.ld + r.addr) := by
      simp only [State.undoneBefore, lineOf_lineOf]
    exact line.trans w.first

/-- HOST_WRITE of a write that nothing holds. -/
theorem execHostWrite_completes {s : State} {r : HostReq} (d : WriteData) (received : s.receives r.head true = true)
    (w : s.writeCompletes r) : ∃ (t : State) (x : HReq), exec (.hostWrite r d) s = .next ((t.pool r.head x).completeWrite r.head x) ∧
      s.ReceivesAlike r.head t ∧ x.id = s.fabric.nextId ∧ x.ld = r.ld ∧ x.tag = r.tag ∧ x.dpa = lineOf (s.ldBase r.ld + r.addr) ∧
      x.write = some d ∧ x.orphan = false := by
  have taken : s.ReceivesAlike r.head ((s.begin.atCycle r.cyc).useCredit r.head true) := .of_useCredit ..
  have noted := taken.trans (State.writeNoted_alike _ r d)
  refine ⟨_, ((s.begin.atCycle r.cyc).useCredit r.head true).writeReq r d, ?_, noted, congrArg Fabric.nextId noted.fabric, rfl, rfl,
    congrArg (fun b => lineOf (b + r.addr)) (taken.ldBase r.ld), rfl, rfl⟩
  rw [← State.hostWrite_of_completes d (w.congr taken)]
  exact congrArg Host.Outcome.next (if_pos received)

/-- Settles O13: a write of a persistent partition completes when it is received, and a quadrant's patches settle one by one. -/
theorem wetPatchesSetAfterTheSettingTime : Obligations.WetPatchesSetAfterTheSettingTime := by
  unfold Obligations.WetPatchesSetAfterTheSettingTime
  refine ⟨?_, fun q mates s p x listed here wet free wf => settingExpiry_setsPatch listed here wet free wf⟩
  intro r d s received mediaReady decodes ready free level rail first filled persistent
  obtain ⟨t, x, step, alike, -, -, -, dpa, -⟩ :=
    execHostWrite_completes d received ⟨mediaReady, decodes, ready, free, level, rail, filled, first⟩
  have written := (t.pool r.head x).completeWrite_patch r.head x (by rw [dpa]; exact (alike.persistent _).trans persistent)
  rw [dpa] at written
  exact ⟨_, step, written.1, written.2.trans alike.sf⟩

/-! ## Receiving a read (R158, R319) -/

theorem State.keepCredits_reqs (s : State) (j : Nat) : (s.keepCredits.head j).reqs = (s.head j).reqs := by
  refine State.each_proj (fun t : State => (t.head j).reqs) (fun t h _ => ?_) s
  by_cases here : j = h
  · rw [here, State.modHead_same]
  · rw [State.modHead_other _ _ _ here]

theorem State.judgePlaces_reqs (s : State) (j : Nat) : (s.judgePlaces.head j).reqs = (s.head j).reqs := s.keepCredits_reqs j

theorem State.reqs_of_outside {s t : State} {m : Nat} (h : t.outside m = s.outside m) (hm : m.testBit 12 = false) (j : Nat) :
    (t.head j).reqs = (s.head j).reqs := by
  unfold State.head
  rw [heads_of_outside h hm]

theorem State.askPlace_reqs (s : State) (q p n j : Nat) : ((s.askPlace q p n).head j).reqs = (s.head j).reqs := by
  unfold State.askPlace
  split
  · exact State.reqs_of_outside (s.takePlace_outside q p 2560 (by decide)) (by decide) j
  · exact State.judgePlaces_reqs _ j

theorem State.startFill_reqs (s : State) (q p j : Nat) (cls : FillCls) : ((s.startFill q p cls).head j).reqs = (s.head j).reqs := by
  unfold State.startFill
  dsimp only
  split
  · rfl
  · exact State.reqs_of_outside (State.pushFillRead_outside _ _ _ _ 2048 (by decide)) (by decide) j
  · exact State.reqs_of_outside (State.pushFillRead_outside _ _ _ _ 2048 (by decide)) (by decide) j
  · exact State.askPlace_reqs _ q p _ j

/-- A fault-in withholds credits at most; no request moves. -/
theorem State.faultIn_reqs (s : State) (p j : Nat) : ((s.faultIn p).head j).reqs = (s.head j).reqs := by
  unfold State.faultIn
  dsimp only
  split
  · rfl
  · split
    · exact s.startFill_reqs _ p j _
    · split
      · rfl
      · split
        · rfl
        · split
          · rfl
          · exact State.askPlace_reqs _ _ p _ j

/-- The request that a received read becomes, in the state after its metering. -/
def State.readReq (s : State) (r : HostReq) : HReq :=
  { id := (s.meter r.ld).2.fabric.nextId, ld := r.ld, tag := r.tag, dpa := lineOf (s.ldBase r.ld + r.addr)
    arrival := (s.meter r.ld).2.now, deadline := (s.meter r.ld).2.deadline r.ld false (s.meter r.ld).1
    fillWait := (s.meter r.ld).2.waitsFill (lineOf (s.ldBase r.ld + r.addr)) }

/-- A received read stands in its head's pool, whether it waits for a fill or not. -/
theorem State.hostRead_pooled {s : State} {r : HostReq} (mediaReady : (s.head r.head).mediaReady = true)
    (decodes : s.decodes r.head r.ld r.addr = true) (ready : s.ldNotReady r.ld = false)
    (rail : (s.quad (quadOf (patchOf (lineOf (s.ldBase r.ld + r.addr))))).railLost = false) :
    s.readReq r ∈ ((s.hostRead r).head r.head).reqs ∧ (s.hostRead r).fabric.nextId = s.fabric.nextId + 1 := by
  have a := ReceivesAlike.of_meter s r.head r.ld
  have read : s.hostRead r = if (s.readReq r).fillWait then
      ((s.meter r.ld).2.pool r.head (s.readReq r)).faultIn (patchOf (lineOf (s.ldBase r.ld + r.addr)))
      else (s.meter r.ld).2.pool r.head (s.readReq r) := by
    unfold State.hostRead
    dsimp only
    rw [if_neg (by simp [mediaReady]), if_neg (by simp [decodes]), if_neg (by simp [ready])]
    exact if_neg (Bool.eq_false_iff.mp ((congrArg Quad.railLost (a.quad _)).trans rail))
  have pooled : s.readReq r ∈ (((s.meter r.ld).2.pool r.head (s.readReq r)).head r.head).reqs := by
    rw [State.pool_reqs]
    exact List.mem_append_right _ (List.mem_singleton.mpr rfl)
  have counted : ((s.meter r.ld).2.pool r.head (s.readReq r)).fabric.nextId = s.fabric.nextId + 1 :=
    congrArg (fun f : Fabric => f.nextId + 1) a.fabric
  rw [read]
  split
  · rw [State.faultIn_reqs, fabric_of_outside (State.faultIn_outside _ _ 6657 (by decide)) (by decide)]
    exact ⟨pooled, counted⟩
  · exact ⟨pooled, counted⟩

theorem execHostRead_pools {s : State} {r : HostReq} (received : s.receives r.head false = true)
    (mediaReady : (s.head r.head).mediaReady = true) (decodes : s.decodes r.head r.ld r.addr = true)
    (ready : s.ldNotReady r.ld = false)
    (rail : (s.quad (quadOf (patchOf (lineOf (s.ldBase r.ld + r.addr))))).railLost = false) :
    ∃ t, exec (.hostRead r) s = .next t ∧
      (∃ x ∈ (t.head r.head).reqs, x.id = s.fabric.nextId ∧ x.ld = r.ld ∧ x.tag = r.tag ∧
        x.dpa = lineOf (s.ldBase r.ld + r.addr) ∧ x.write = none) ∧ t.fabric.nextId = s.fabric.nextId + 1 := by
  have a : s.ReceivesAlike r.head ((s.begin.atCycle r.cyc).useCredit r.head false) := .of_useCredit ..
  have metered := State.ReceivesAlike.of_meter ((s.begin.atCycle r.cyc).useCredit r.head false) r.head r.ld
  obtain ⟨pooled, counted⟩ := State.hostRead_pooled (a.mediaReady.trans mediaReady) ((a.decodes _ _ _).trans decodes)
    ((a.ldNotReady _).trans ready) (by rw [a.quad, a.ldBase, rail])
  refine ⟨_, congrArg Host.Outcome.next (if_pos received), ⟨_, pooled, congrArg Fabric.nextId (metered.fabric.trans a.fabric), rfl, rfl,
    congrArg (fun b => lineOf (b + r.addr)) (a.ldBase r.ld), rfl⟩, counted.trans ?_⟩
  rw [a.fabric]

/-! ## Held writes (R104 to R106, R328) -/

theorem State.modReq_reqs (s : State) (h id : Nat) (f : HReq → HReq) :
    ((s.modReq h id f).head h).reqs = (s.head h).reqs.map fun r => if r.id = id then f r else r := by
  unfold State.modReq
  rw [State.modHead_same]

/-- The answer to a probe of a patch that is not exposed. -/
theorem State.probeAnswer_of_hidden {s : State} {head id : Nat} {r : HReq} {written : List Nat}
    (hidden : (s.patch (patchOf r.dpa)).st.exposed = false) (free : patchOf r.dpa ∉ written) : s.probeAnswer head id r written =
      (s.modReq head id fun x => { x with stage := .held, heldAt := s.now }).bump (Reg.FAB_COUNT_HELD_COUNT head) 1 := by
  simp [State.probeAnswer, hidden, free]

theorem execStateProbeAnswer_holds {head : HeadIx} {id mates : Nat} {s : State} {r : HReq}
    (probed : ((s.head head).reqs.find? fun x => decide (x.id = id) && decide (x.stage = .probing)) = some r)
    (grants : s.wetGrants (quadOf (patchOf r.dpa)) 4 mates = true) (hidden : (s.patch (patchOf r.dpa)).st.exposed = false)
    (free : patchOf r.dpa ∉ s.matesWrite mates) :
    ∃ t, exec (.stateProbeAnswer head id mates) s = .next t ∧
      (∃ x ∈ (t.head head).reqs, x.id = id ∧ x.stage = .held ∧ x.heldAt = s.now) ∧ t.out = [] ∧
      (t.head head).reqs.length = (s.head head).reqs.length := by
  have answer : exec (.stateProbeAnswer head id mates) s =
      occurs (s.wetGrants (quadOf (patchOf r.dpa)) 4 mates) s fun s => s.probeAnswer head id r (s.matesWrite mates) := by
    show execStateProbeAnswer head id mates s = _
    unfold execStateProbeAnswer
    rw [probed]
  have held : s.begin.probeAnswer head id r (s.begin.matesWrite mates) = _ := State.probeAnswer_of_hidden hidden free
  have reqs : ((s.begin.probeAnswer head id r (s.begin.matesWrite mates)).head head).reqs = _ :=
    (congrArg (fun t : State => (t.head head).reqs) held).trans (State.modReq_reqs s.begin head id _)
  have named : r.id = id := by
    have := List.find?_some probed
    simp only [Bool.and_eq_true, decide_eq_true_eq] at this
    exact this.1
  rw [answer]
  refine yields_occurs grants ⟨?_, congrArg State.out held, ?_⟩
  · rw [reqs]
    exact ⟨_, List.mem_map_of_mem (List.mem_of_find?_eq_some probed), by simp [named]⟩
  · rw [reqs, List.length_map]
    rfl

/-- Requests marked by number so that none of that number is held: the held ones stood there and bear another. -/
theorem held_of_mem_marked {l : List HReq} {id : Nat} {f : HReq → HReq} (ready : ∀ y, (f y).stage ≠ .held) {x : HReq}
    (mem : x ∈ l.map fun y => if y.id = id then f y else y) (held : x.stage = .held) : x ∈ l ∧ x.id ≠ id := by
  obtain ⟨y, stood, marked⟩ := List.mem_map.mp mem
  split at marked
  next => exact absurd (marked ▸ held) (ready y)
  next other => exact marked ▸ ⟨stood, other⟩

theorem State.lostWrite_reqs (s : State) (h : Nat) (r : HReq) :
    ((s.lostWrite h r).head h).reqs = (s.head h).reqs.filter fun y => decide (y.id ≠ r.id) := by
  unfold State.lostWrite
  dsimp only
  rw [State.reqs_of_outside (State.addPoison_outside _ _ _ 16384 (by decide)) (by decide)]
  have dropped : ((s.modHead h fun x => { x with reqs := x.reqs.filter fun y => decide (y.id ≠ r.id) }).head h).reqs = _ :=
    congrArg Head.reqs (State.modHead_same s h _)
  split <;> exact dropped

/-- A write that is admitted is not held any more, and none becomes held. -/
theorem State.admitWrite_held {s : State} {h : Nat} {r x : HReq} (mem : x ∈ ((s.admitWrite h r).head h).reqs)
    (held : x.stage = .held) : x ∈ (s.head h).reqs ∧ x.id ≠ r.id := by
  unfold State.admitWrite at mem
  dsimp only at mem
  split at mem
  · rw [State.lostWrite_reqs, List.mem_filter, decide_eq_true_eq] at mem
    exact mem
  · split at mem
    · rw [State.faultIn_reqs] at mem
      have marked : x ∈ ((s.modReq h r.id fun x => { x with stage := .ready, fillWait := true }).head h).reqs := by
        split at mem <;> exact mem
      rw [State.modReq_reqs] at marked
      exact held_of_mem_marked (fun _ => by simp) marked held
    · split at mem
      · rw [State.modReq_reqs] at mem
        exact held_of_mem_marked (fun _ => by simp) mem held
      · rw [State.completeWrite_reqs] at mem
        exact held_of_mem_marked (fun _ => by simp) mem held

theorem State.admitEach_held {s : State} {h : Nat} {l : List HReq} {x : HReq}
    (mem : x ∈ ((s.each l fun s r => s.admitWrite h r).head h).reqs) (held : x.stage = .held) :
    x ∈ (s.head h).reqs ∧ ∀ r ∈ l, x.id ≠ r.id := by
  induction l generalizing s with
  | nil => exact ⟨mem, fun _ none => absurd none List.not_mem_nil⟩
  | cons r l ih =>
    obtain ⟨stood, others⟩ := ih (s := s.admitWrite h r) mem
    obtain ⟨before, other⟩ := State.admitWrite_held stood held
    exact ⟨before, List.forall_mem_cons.mpr ⟨other, others⟩⟩

/-- The held writes of a head leave: none of them is held after it. -/
theorem State.release_heldWrites (s : State) (h : Nat) :
    (((s.each (List.range 16) State.releaseQueued).each (s.heldWrites h) fun s r => s.admitWrite h r).heldWrites h) = [] := by
  refine List.filter_eq_nil_iff.mpr fun x mem write => ?_
  simp only [Bool.and_eq_true, decide_eq_true_eq] at write
  obtain ⟨stood, others⟩ := State.admitEach_held mem write.2
  have queued : ((s.each (List.range 16) State.releaseQueued).head h).reqs = (s.head h).reqs :=
    State.each_proj (fun t : State => (t.head h).reqs)
      (fun t n _ => State.reqs_of_outside (t.releaseQueued_outside n 2147501649 (by decide)) (by decide) h) s
  rw [queued] at stood
  exact others x (List.mem_filter.mpr ⟨stood, by simp [write]⟩) rfl

theorem State.escalationEnds_heads (s : State) (h : Nat) : (s.escalationEnds h).heads = s.heads := by
  unfold State.escalationEnds
  split <;> rfl

theorem State.escalationEnds_flag {s : State} {h : Nat} (released : s.heldWrites h = []) :
    (s.escalationEnds h).flag (Reg.FAB_LOAD_ESCALATED h) = false := by
  unfold State.escalationEnds
  rw [released]
  split
  · rw [State.flag_put_other _ _ _ _ (by simp [Reg.FAB_LOAD_RWD_WITHHELD])
      (by simp [Fld.apart, Reg.FAB_LOAD_ESCALATED, Reg.FAB_LOAD_RWD_WITHHELD])]
    exact State.flag_putB_same _ _ _ (by simp [Reg.FAB_LOAD_ESCALATED]) rfl
  next not => simpa using not

theorem execHeldWriteRelease_releases {head : HeadIx} {s : State} (low : s.level < 3) :
    ∃ t, exec (.heldWriteRelease head) s = .next t ∧
      (∀ x ∈ (t.head head).reqs, x.write.isSome = true → x.stage ≠ .held) ∧ t.flag (Reg.FAB_LOAD_ESCALATED head) = false := by
  have released := State.release_heldWrites s.begin head
  refine ⟨_, congrArg Host.Outcome.next (if_pos (decide_eq_true low)), fun x mem write held => ?_, State.escalationEnds_flag released⟩
  unfold State.head at mem
  rw [State.escalationEnds_heads] at mem
  exact List.filter_eq_nil_iff.mp released x mem (by simp [write, held])

theorem execHoldEscalate_escalates {head : HeadIx} {s : State} {r : HReq} (calm : s.flag (Reg.FAB_LOAD_ESCALATED head) = false)
    (held : r ∈ s.heldWrites head) (late : r.heldAt + ms (max 10 (min 1000 (s.get Reg.FAB_CTRL_HOLD_ESC_MS))) ≤ s.now) :
    ∃ t, exec (.holdEscalate head) s = .next t ∧
      t.flag (Reg.FAB_LOAD_ESCALATED head) = true ∧ t.get (Reg.FAB_LOAD_RWD_WITHHELD head) = 192 ∧
      t.pends (srcHead head 7) = true ∧ ∀ h : HeadIx, (t.head h).reqs = (s.head h).reqs := by
  have due : (!s.flag (Reg.FAB_LOAD_ESCALATED head) && (s.heldWrites head).any fun r =>
      decide (r.heldAt + ms (max 10 (min 1000 (s.get Reg.FAB_CTRL_HOLD_ESC_MS))) ≤ s.now)) = true := by
    rw [calm, Bool.not_false, Bool.true_and, List.any_eq_true]
    exact ⟨r, held, decide_eq_true late⟩
  have apart : headBase head + 4 ≠ 0x023000 + 0x4 * srcHead head 7 ∧ headBase head + 4 ≠ 0x020050 := by
    unfold headBase srcHead
    omega
  refine ⟨_, congrArg Host.Outcome.next (if_pos due), ?_, ?_, State.event_pends _ _ _ _, fun h => ?_⟩
  · rw [State.flag_event _ _ _ _ (Reg.FAB_LOAD_ESCALATED head) apart.1 apart.2,
      State.flag_put_other _ _ _ _ (by simp [Reg.FAB_LOAD_RWD_WITHHELD])
      (by simp [Fld.apart, Reg.FAB_LOAD_ESCALATED, Reg.FAB_LOAD_RWD_WITHHELD])]
    exact State.flag_putB_same _ _ _ (by simp [Reg.FAB_LOAD_ESCALATED]) rfl
  · dsimp only
    rw [State.get_event _ _ _ _ (Reg.FAB_LOAD_RWD_WITHHELD head) apart.1 apart.2,
      State.get_put_same _ _ _ (by simp [Reg.FAB_LOAD_RWD_WITHHELD])]
    rfl
  · rw [State.event_head]
    exact s.begin.keepCredits_reqs h

/-- Settles O21, command by command. -/
theorem hostRequestsAreReceivedHeldAndReleased : Obligations.HostRequestsAreReceivedHeldAndReleased := by
  unfold Obligations.HostRequestsAreReceivedHeldAndReleased
  refine ⟨?_, fun r s received mediaReady decodes ready rail => execHostRead_pools received mediaReady decodes ready rail,
    fun head id mates s r probed grants hidden free => execStateProbeAnswer_holds probed grants hidden free,
    fun head s low => execHeldWriteRelease_releases low,
    fun head s r calm held late => execHoldEscalate_escalates calm held late⟩
  intro r d s received mediaReady decodes ready free level rail filled first
  obtain ⟨t, x, step, alike, id, ld, tag, dpa, write, linked⟩ :=
    execHostWrite_completes d received ⟨mediaReady, decodes, ready, free, level, rail, filled, first⟩
  refine ⟨_, step, ?_, ?_, fun persistent => ?_⟩
  · have answered := (t.pool r.head x).completeWrite_out r.head linked
    have shown : (t.pool r.head x).devLoad r.head x.ld = s.devLoad r.head x.ld := alike.devLoad (by omega) x.ld
    rw [shown, ld, tag] at answered
    exact answered
  · rw [State.completeWrite_reqs, State.pool_reqs]
    refine ⟨_, List.mem_map_of_mem (List.mem_append_right _ (List.mem_singleton.mpr rfl)), ?_⟩
    simp [ld, tag, dpa, write]
  · rw [← dpa]
    exact ((t.pool r.head x).completeWrite_patch r.head x (by rw [dpa]; exact (alike.persistent _).trans persistent)).1

end Sys2Proof.Machine

/-!
PROOF. A save from its detection to its commit (05_save R112 to R117, R141, R142): what a trigger of lost input opens, what the
frames after it enable and decide, and what the commit shows whatever it ends besides.
-/

namespace Sys2Proof.Machine

/-! ## Detection (R112, R113) -/

/-- While triggers are armed every cause is a save trigger. -/
theorem State.trigger_of_armed {s : State} (cause : Nat) (armed : s.flag Reg.SEQ_STATUS_ARMED = true) :
    s.trigger cause = s.saveTrigger cause := by
  unfold State.trigger
  rw [armed, Bool.true_or, Bool.true_or, if_pos rfl]

/-- A trigger while triggers are armed and no save is on its way opens one: PHASE is 1, and the pins and the messages stay. -/
theorem State.trigger_detects {s : State} (cause : Nat) (armed : s.flag Reg.SEQ_STATUS_ARMED = true)
    (inactive : s.flag Reg.PERS_STATUS_SAVE_ACTIVE = false) (none_ : s.save.frame0 = none) :
    (s.trigger cause).save.frame0 = some s.frame ∧ (s.trigger cause).save.causes = [cause] ∧
      (s.trigger cause).get Reg.SAVE_STATUS_PHASE = 1 ∧ (s.trigger cause).pins = s.pins ∧
      (s.trigger cause).events = s.events := by
  rw [State.trigger_of_armed cause armed]
  obtain ⟨frame, causes, -⟩ := State.saveTrigger_detects cause inactive none_
  have outside := State.saveTrigger_outside s cause 2097153 (by decide)
  refine ⟨frame, causes, ?_, pins_of_outside outside (by decide), events_of_outside outside (by decide)⟩
  simp only [State.saveTrigger, inactive, none_, Bool.false_eq_true, if_false]
  exact State.get_put_same _ _ _ (by decide)

theorem execVinSenseLow_detects {s : State} (enabled : s.flag Reg.SAVE_CTRL_VIN_EN = true)
    (armed : s.flag Reg.SEQ_STATUS_ARMED = true) (inactive : s.flag Reg.PERS_STATUS_SAVE_ACTIVE = false)
    (none_ : s.save.frame0 = none) : ∃ t, exec .vinSenseLow s = .next t ∧ t.pins.inputOk = false ∧
      t.save.frame0 = some s.frame ∧ t.save.causes = [2] ∧ t.get Reg.SAVE_STATUS_PHASE = 1 := by
  refine ⟨_, congrArg Host.Outcome.next (if_pos enabled), ?_⟩
  obtain ⟨frame, causes, phase, pins, -⟩ :=
    State.trigger_detects (s := s.begin.takeFree.2.modPins _) 2 armed inactive none_
  exact ⟨congrArg Pins.inputOk pins, frame, causes, phase⟩

/-- PFW_N sampled asserted after it was high: the pin and the early warning's message (R112). -/
def State.warned (s : State) : State := (s.modPins fun p => { p with pfwN := false }).event 0x4A1 1 Sev.note

/-- The warning counts on its own source's registers and leaves the flags of the others. -/
theorem State.flag_warned (s : State) {f : Fld} (h1 : f.off ≠ 0x023000 + 0x4 * 0x4A1) (h2 : f.off ≠ 0x020050) :
    s.warned.flag f = s.flag f := State.flag_event _ _ _ _ _ h1 h2

theorem exec_pfwNAssert_of_high {s : State} (high : s.pins.pfwN = true) : exec .pfwNAssert s =
    .next (if s.begin.warned.flag Reg.SAVE_CTRL_PFW_EN then s.begin.warned.trigger 2 else s.begin.warned) := by
  have high' : s.begin.pins.pfwN = true := high
  show execPfwNAssert s = _
  unfold execPfwNAssert
  dsimp only
  rw [if_pos high']
  rfl

theorem execPfwNAssert_detects {s : State} (enabled : s.flag Reg.SAVE_CTRL_PFW_EN = true)
    (armed : s.flag Reg.SEQ_STATUS_ARMED = true) (inactive : s.flag Reg.PERS_STATUS_SAVE_ACTIVE = false)
    (none_ : s.save.frame0 = none) (high : s.pins.pfwN = true) : ∃ t, exec .pfwNAssert s = .next t ∧ t.pins.pfwN = false ∧
      t.pends 0x4A1 = true ∧ t.save.frame0 = some s.frame ∧ t.save.causes = [2] ∧ t.get Reg.SAVE_STATUS_PHASE = 1 := by
  have save : s.begin.warned.save = s.save := State.event_save _ _ _ _
  have now : s.begin.warned.frame = s.frame := State.event_frame _ _ _ _
  have low : s.begin.warned.pins.pfwN = false := congrArg Pins.pfwN (State.event_pins _ _ _ _)
  obtain ⟨frame, causes, phase, pins, events⟩ := State.trigger_detects (s := s.begin.warned) 2
    ((State.flag_warned _ (by decide) (by decide)).trans armed)
    ((State.flag_warned _ (by decide) (by decide)).trans inactive) ((congrArg SaveSt.frame0 save).trans none_)
  have asks : s.begin.warned.flag Reg.SAVE_CTRL_PFW_EN = true := (State.flag_warned _ (by decide) (by decide)).trans enabled
  rw [exec_pfwNAssert_of_high high, if_pos asks]
  refine ⟨_, rfl, by rw [pins, low], ?_, by rw [frame, now], causes, phase⟩
  rw [State.pends_congr (congrArg Events.pending events)]
  exact State.event_pends _ _ _ _

/-! ## Input returns (R141) -/

/-- The on request of input that returns within a power-down. -/
def State.returnLatched (s : State) (back : Bool) : State :=
  if back && decide (s.seq.power = .powerDown) && !s.inputPresent
  then (s.modSeq fun x => { x with onLatch := true }).putB Reg.SEQ_STATUS_ON_LATCH true else s

/-- The on request changes no pin, no save and no power state. -/
theorem State.returnLatched_keeps (s : State) (back : Bool) : (s.returnLatched back).save = s.save ∧
    (s.returnLatched back).seq.power = s.seq.power := by
  unfold State.returnLatched
  split <;> exact ⟨rfl, rfl⟩

theorem execInputReturn_shows (mv : Nat) (s : State) : ∃ t, exec (.inputReturn mv) s = .next t ∧ t.pins.pfwN = true ∧
    t.pins.vinMv = mv ∧ t.pins.inputOk = decide (s.vinBack ≤ mv) ∧ t.save = s.save ∧ t.seq.power = s.seq.power := by
  obtain ⟨save, power⟩ := s.begin.returnLatched_keeps (decide (s.vinBack ≤ mv))
  exact ⟨_, rfl, rfl, rfl, rfl, save, power⟩

/-! ## The backup output (R115, R142) -/

/-- The backup output takes the load: BKP_EN is on, and a learn's load and the charger are off. -/
def State.backupEnabled (s : State) : State :=
  ((s.modPins fun p => { p with bkpEn := true, learnLoad := 0 }).driveChg false).modSave fun x => { x with enabled := true }

theorem exec_saveBackupEnable_of_due {s : State} {f : Nat} (frame : s.save.frame0 = some f) (due : f + 1 ≤ s.frame)
    (off : s.save.enabled = false) : exec .saveBackupEnable s = .next s.begin.backupEnabled := by
  have enables : f + 1 ≤ s.begin.frame ∧ ¬ s.begin.save.enabled = true := ⟨due, by simp [off]⟩
  show execSaveBackupEnable s = _
  simp only [execSaveBackupEnable, State.begin_save, frame]
  exact congrArg Host.Outcome.next (if_pos enables)

theorem execBkpEnRelease_releases {s : State} (on : s.pins.bkpEn = true) (none_ : s.save.frame0 = none)
    (inactive : s.flag Reg.PERS_STATUS_SAVE_ACTIVE = false) (run : s.seq.power = .run) (input : s.pins.inputOk = true)
    (since : s.pins.inputAt + 32 * 1048576 ≤ s.now) :
    ∃ t, exec .bkpEnRelease s = .next t ∧ t = { s with out := [], pins := { s.pins with bkpEn := false } } := by
  show ∃ t, execBkpEnRelease s = .next t ∧ _
  exact yields_occurs (by simp [on, none_, inactive, run, input, since]) rfl

/-! ## The decision (R116, R117) -/

/-- An enabled save without a commit is decided from its frame +2 on, by its causes, the input and the power state. -/
theorem exec_saveDecide_of_due {s : State} {f : Nat} (frame : s.save.frame0 = some f) (due : f + 2 ≤ s.frame)
    (enabled : s.save.enabled = true) (open_ : s.save.committed = false) : exec .saveDecide s =
      .next (if s.begin.save.causes.all (· = 2) ∧ s.begin.inputPresent then s.begin.rideThrough
        else if decide (s.seq.power ≠ .warmReset) || s.seq.warmDrain || s.image.loaded then s.begin.saveCommit else s.begin) := by
  have decides : f + 2 ≤ s.begin.frame ∧ s.begin.save.enabled = true ∧ ¬ s.begin.save.committed = true :=
    ⟨due, enabled, by simp [open_]⟩
  show execSaveDecide s = _
  simp only [execSaveDecide, frame]
  exact congrArg Host.Outcome.next (if_pos decides)

/-- A ride-through drops the save, shows itself and the phase from before, and leaves the sequencer (R117). -/
theorem State.rideThrough_shows (s : State) : s.rideThrough.flag Reg.SAVE_STATUS_RIDE_THROUGH = true ∧
    s.rideThrough.save.frame0 = none ∧ s.rideThrough.pends 0x4A0 = true ∧
    s.rideThrough.get Reg.SAVE_STATUS_PHASE = s.save.phaseBefore % 16 ∧ s.rideThrough.seq = s.seq := by
  unfold State.rideThrough
  refine ⟨?_, ?_, State.event_pends _ _ _ _, ?_, ?_⟩
  · rw [State.flag_event _ _ _ _ _ (by decide) (by decide), State.modSave_flag,
      State.flag_put_other _ _ _ _ (by decide) (by decide)]
    exact State.flag_putB_same _ _ _ (by decide) rfl
  · rw [State.event_save]
    rfl
  · rw [State.get_event _ _ _ _ _ (by decide) (by decide), State.modSave_get]
    exact State.get_put_same _ _ _ (by decide)
  · rw [State.event_seq]
    rfl

/-! ## The commit (R116, R118) -/

/-- What a commit shows of itself: the words of PERS_STATUS and SAVE_STATUS, that the save is committed, and the power state. -/
def State.commitMarks (s : State) : Word × Word × Bool × Power × Bool :=
  (s.rd 0x030000, s.rd 0x030408, s.save.committed, s.seq.power, s.seq.saveOpen)

/-- A save as its commit enters it: its cause and late triggers, SAVE_ACTIVE, PHASE 2 and the power state (R116, R118). -/
def State.commitEntered (s : State) (cause late : Nat) : State :=
  let s := (s.put Reg.SAVE_STATUS_TRIGGER cause).put Reg.SAVE_STATUS_LATE_TRIGGERS late
  let s := ((s.putB Reg.SAVE_STATUS_INCOMPLETE false).putB Reg.SAVE_STATUS_ON_HOLDUP false).putB Reg.SAVE_STATUS_VBUS_LOW false
  let s := (s.putB Reg.PERS_STATUS_SAVE_ACTIVE true).put Reg.SAVE_STATUS_PHASE 2
  let s := (s.modSeq fun x => { x with aonCause := cause, saveOpen := true, warmDrain := false }).setPower .save
  s.modSave fun x => { x with
    committed := true, commitAt := s.frame, ppFrame := none, opFrame := none, history := [], writing := false }

/-- An open off handshake is abandoned by a save of another cause (R551, R609). -/
def State.commitEndsHandshake (s : State) (cause : Nat) : State :=
  if s.shake.isSome ∧ cause ≠ 1 then s.abandonHandshake (decide (cause ≠ 3)) ([2, 4, 6].contains cause) else s

/-- The group hears of the save (R445). -/
def State.commitTold (s : State) (cause : Nat) : State :=
  if !s.inGroup then s
  else if s.isMaster then (if s.flag Reg.SEQ_GROUP_SAVE_RELAY ∧ cause = 2
    then s.emit (.burnor 0x0B none [s.get Reg.SEQ_GROUP_RELAY_OFF]) else s)
  else s.emit (.burnor 0x0A none [s.get Reg.SEQ_GROUP_STATUS_POSITION, cause])

theorem State.saveCommit_eq (s : State) : ∃ late, s.saveCommit = ((((s.commitEntered (firstCause s.save.causes) late
    ).commitEndsHandshake (firstCause s.save.causes)).learnVoid 3).commitTold (firstCause s.save.causes)).judgeGf := ⟨_, rfl⟩

theorem State.commitEntered_shows {s : State} {cause : Nat} (late : Nat) (small : cause < 8) :
    (s.commitEntered cause late).flag Reg.PERS_STATUS_SAVE_ACTIVE = true ∧
    (s.commitEntered cause late).get Reg.SAVE_STATUS_PHASE = 2 ∧
    (s.commitEntered cause late).get Reg.SAVE_STATUS_TRIGGER = cause ∧
    (s.commitEntered cause late).save.committed = true ∧ (s.commitEntered cause late).seq.power = .save ∧
    (s.commitEntered cause late).seq.saveOpen = true := by
  refine ⟨?_, State.get_put_same _ _ _ (by decide), ?_, rfl, rfl, rfl⟩
  · exact (State.flag_put_other _ _ _ _ (by decide) (by decide)).trans (State.flag_putB_same _ _ _ (by decide) rfl)
  · calc (s.commitEntered cause late).get Reg.SAVE_STATUS_TRIGGER
      _ = (s.put Reg.SAVE_STATUS_TRIGGER cause).get Reg.SAVE_STATUS_TRIGGER := by
        refine (State.get_put_other _ _ _ _ (by decide) (by decide)).trans ?_
        simp only [State.putB]
        iterate 5 rw [State.get_put_other _ _ _ _ (by decide) (by decide)]
      _ = cause := (State.get_put_same _ _ _ (by decide)).trans (Nat.mod_eq_of_lt (by simp [Reg.SAVE_STATUS_TRIGGER]; omega))

/-- What leaves the save and the sequencer's marks, and writes other registers, leaves the marks. -/
theorem State.commitMarks_of_writesOnly {s t : State} {l : List Nat} {src : Nat} (regs : s.writesOnly l src t)
    (own : 0x030000 ∉ l ∧ 0x030408 ∉ l)
    (source : 0x030000 ≠ (Reg.EVT_COUNT_RAISED src).off ∧ 0x030408 ≠ (Reg.EVT_COUNT_RAISED src).off)
    (save : t.save = s.save) (power : t.seq.power = s.seq.power) (open_ : t.seq.saveOpen = s.seq.saveOpen) :
    t.commitMarks = s.commitMarks := by
  unfold State.commitMarks
  rw [regs _ own.1 source.1 (by decide), regs _ own.2 source.2 (by decide), save, power, open_]

/-! ### Which registers the rest of a commit writes -/

theorem State.abandonHandshake_writesOnly (s : State) (latch raise : Bool) :
    s.writesOnly [0x030018, 0x060000] 0x4AA (s.abandonHandshake latch raise) := by
  unfold State.abandonHandshake
  split
  · exact State.writesOnly_of_regs rfl
  next =>
    have ended : s.writesOnly [0x030018, 0x060000] 0x4AA
        ((({ s with shake := none } : State).putB Reg.PERS_OFF_PENDING false).put Reg.PERS_OFF_ENDED_BY 4) :=
      .put (.putB (State.writesOnly_of_regs rfl) _ (by decide)) _ (by decide)
    exact .putB (.modSeq (.ite (.event ended _ _) ended) _) _ (by decide)

theorem State.learnGrantNext_writesOnly (s : State) (src : Nat) :
    s.writesOnly [0x050204, 0x060104] src s.learnGrantNext := by
  unfold State.learnGrantNext
  split
  next _ p _ _ =>
    have given : s.writesOnly [0x050204, 0x060104] src ((s.modGroup fun g => { g with
        learner := some p, learnPend := setErase g.learnPend p }).put Reg.SEQ_GROUP_STATUS_LEARNER p) :=
      .put (State.writesOnly_of_regs rfl) _ (by decide)
    exact .ite (.putB (.putB (given.modGauge _) _ (by decide)) _ (by decide)) (given.emit _)
  · exact State.writesOnly_of_regs rfl

theorem State.learnGrantEnds_writesOnly (s : State) (p src : Nat) :
    s.writesOnly [0x050204, 0x060104] src (s.learnGrantEnds p) := by
  have freed : s.writesOnly [0x050204, 0x060104] src (s.modGroup fun g => { g with
      learnPend := setErase g.learnPend p, learner := if g.learner = some p then none else g.learner }) :=
    State.writesOnly_of_regs rfl
  exact (State.writesOnly.ite (freed.put _ (by decide)) freed).trans (State.learnGrantNext_writesOnly _ _)

theorem State.learnEnd_writesOnly (s : State) (result : Nat) (ns : Bool) :
    s.writesOnly [0x050204, 0x060104] 0x479 (s.learnEnd result ns) := by
  have told : ∀ {t}, s.writesOnly [0x050204, 0x060104] 0x479 t → s.writesOnly [0x050204, 0x060104] 0x479
      (if ns then t else t.event 0x479 (if result = 1 then 1 else 2) Sev.note) := fun h => .ite h (h.event _ _)
  have packed : ∀ {t}, s.writesOnly [0x050204, 0x060104] 0x479 t → s.writesOnly [0x050204, 0x060104] 0x479
      (if t.packNow = 5 then t.setPack 4 else t) := fun h => .ite (h.modTick _) h
  have returned : ∀ {t}, s.writesOnly [0x050204, 0x060104] 0x479 t → s.writesOnly [0x050204, 0x060104] 0x479
      (if !t.inGroup then t else if t.isMaster then t.learnGrantEnds 0
       else t.emit (.burnor 0x09 none [t.get Reg.SEQ_GROUP_STATUS_POSITION, result])) :=
    fun h => .ite h (.ite (h.trans (State.learnGrantEnds_writesOnly _ _ _)) (h.emit _))
  unfold State.learnEnd
  refine returned (.putB (.putB (.modGauge (packed (told ?_)) _) _ (by decide)) _ (by decide))
  exact .put (.putB (.put (State.writesOnly_of_regs rfl) _ (by decide)) _ (by decide)) _ (by decide)

theorem State.learnVoid_writesOnly (s : State) (result : Nat) :
    s.writesOnly [0x050204, 0x060104] 0x479 (s.learnVoid result) :=
  .ite (State.learnEnd_writesOnly s result false) (State.writesOnly_of_regs rfl)

/-! ### What the rest of a commit leaves of its marks -/

/-- An abandoned handshake latches or drops the off request and leaves the power state. -/
theorem State.abandonHandshake_seq (s : State) (latch raise : Bool) :
    (s.abandonHandshake latch raise).seq.power = s.seq.power ∧
      (s.abandonHandshake latch raise).seq.saveOpen = s.seq.saveOpen := by
  unfold State.abandonHandshake
  split
  · exact ⟨rfl, rfl⟩
  · dsimp only
    rw [State.putB_seq, State.modSeq_same, apply_ite State.seq, State.event_seq, ite_self]
    exact ⟨rfl, rfl⟩

theorem State.commitEndsHandshake_commitMarks (s : State) (cause : Nat) :
    (s.commitEndsHandshake cause).commitMarks = s.commitMarks := by
  unfold State.commitEndsHandshake
  split
  · obtain ⟨power, open_⟩ := s.abandonHandshake_seq (decide (cause ≠ 3)) ([2, 4, 6].contains cause)
    exact State.commitMarks_of_writesOnly (State.abandonHandshake_writesOnly _ _ _) (by decide) (by decide)
      (save_of_outside (State.abandonHandshake_outside _ _ _ 134479889 (by decide)) (by decide)) power open_
  · rfl

theorem State.learnVoid_commitMarks (s : State) (result : Nat) : (s.learnVoid result).commitMarks = s.commitMarks := by
  have frame := State.learnVoid_outside s result 2149122067 (by decide)
  have seq : (s.learnVoid result).seq = s.seq := seq_of_outside frame (by decide)
  exact State.commitMarks_of_writesOnly (s.learnVoid_writesOnly result) (by decide) (by decide)
    (save_of_outside frame (by decide)) (congrArg Seq.power seq) (congrArg Seq.saveOpen seq)

theorem State.commitTold_commitMarks (s : State) (cause : Nat) : (s.commitTold cause).commitMarks = s.commitMarks := by
  unfold State.commitTold
  repeat' split
  all_goals rfl

theorem State.judgeGf_commitMarks (s : State) : s.judgeGf.commitMarks = s.commitMarks := by
  unfold State.commitMarks
  rw [State.rd_judgeGf _ (by decide), State.rd_judgeGf _ (by decide)]
  rfl

/-- After its entry nothing of a commit touches its marks. -/
theorem State.saveCommit_commitMarks (s : State) :
    ∃ late, s.saveCommit.commitMarks = (s.commitEntered (firstCause s.save.causes) late).commitMarks := by
  obtain ⟨late, parts⟩ := s.saveCommit_eq
  refine ⟨late, ?_⟩
  rw [parts, State.judgeGf_commitMarks, State.commitTold_commitMarks, State.learnVoid_commitMarks,
    State.commitEndsHandshake_commitMarks]

/-- A commit is active in PHASE 2 with its cause as the trigger, and the device is in save. -/
theorem State.saveCommit_shows {s : State} (small : firstCause s.save.causes < 8) :
    s.saveCommit.flag Reg.PERS_STATUS_SAVE_ACTIVE = true ∧ s.saveCommit.get Reg.SAVE_STATUS_PHASE = 2 ∧
      s.saveCommit.get Reg.SAVE_STATUS_TRIGGER = firstCause s.save.causes ∧ s.saveCommit.save.committed = true ∧
      s.saveCommit.seq.power = .save ∧ s.saveCommit.seq.saveOpen = true := by
  obtain ⟨late, marks⟩ := s.saveCommit_commitMarks
  obtain ⟨pers, status, committed, power, open_⟩ :
      s.saveCommit.rd 0x030000 = _ ∧ s.saveCommit.rd 0x030408 = _ ∧ s.saveCommit.save.committed = _ ∧
        s.saveCommit.seq.power = _ ∧ s.saveCommit.seq.saveOpen = _ := by
    simpa only [State.commitMarks, Prod.mk.injEq] using marks
  obtain ⟨active, phase, trigger, rest⟩ := State.commitEntered_shows (s := s) late small
  rw [committed, power, open_]
  exact ⟨(State.flag_of_rd pers).trans active, (State.get_of_rd status).trans phase,
    (State.get_of_rd status).trans trigger, rest⟩

/-- Settles O33: the triggers by `State.trigger_detects`, the decision by `State.rideThrough_shows` and
`State.saveCommit_shows`. -/
theorem aSaveIsDetectedAndDecided : Obligations.ASaveIsDetectedAndDecided := by
  unfold Obligations.ASaveIsDetectedAndDecided
  refine ⟨?_, ?_, ?_, ?_, ?_, ?_, ?_⟩
  · exact fun s enabled armed inactive none_ => execVinSenseLow_detects enabled armed inactive none_
  · exact fun s enabled armed inactive none_ high => execPfwNAssert_detects enabled armed inactive none_ high
  · exact fun mv s => execInputReturn_shows mv s
  · intro s f frame due off
    exact ⟨_, exec_saveBackupEnable_of_due frame due off, rfl, rfl, rfl, rfl⟩
  · intro s f frame due enabled open_ causes input
    have rides : (s.begin.save.causes.all (· = 2)) = true ∧ s.begin.inputPresent = true := ⟨by simp [causes], input⟩
    rw [exec_saveDecide_of_due frame due enabled open_, if_pos rides]
    exact ⟨_, rfl, s.begin.rideThrough_shows⟩
  · intro s f frame due enabled open_ input run small
    have lost : ¬ ((s.begin.save.causes.all (· = 2)) = true ∧ s.begin.inputPresent = true) := fun h =>
      Bool.false_ne_true (input.symm.trans h.2)
    have may : (decide (s.seq.power ≠ .warmReset) || s.seq.warmDrain || s.image.loaded) = true := by simp [run]
    rw [exec_saveDecide_of_due frame due enabled open_, if_neg lost, if_pos may]
    exact ⟨_, rfl, State.saveCommit_shows small⟩
  · exact fun s on none_ inactive run input since => execBkpEnRelease_releases on none_ inactive run input since

end Sys2Proof.Machine

/-!
PROOF. Where DRAM's bytes may change (06_restore_and_heal R164, R166; 11_fabric_ports R333): what a load leaves beside its range,
the lines of a heal, the line of Inject and Clear Poison, and that the parts a command names cover all that it changes.
-/

namespace Sys2Proof.Machine

theorem dramByte_of_kept {s t : State} {a : Nat} (h : t.kept = s.kept) : dramByte t.dram a = dramByte s.dram a :=
  congrArg (dramByte ·.1 a) h

/-! ## Loads (R164) -/

theorem sparseFind_filter {α : Type} {m : Sparse α} {p : Nat × α → Bool} {k : Nat} (keeps : ∀ v, p (k, v) = true) :
    sparseFind (m.filter p) k = sparseFind m k := by
  induction m with
  | nil => rfl
  | cons e m ih =>
    rw [sparseFind_cons]
    by_cases hp : p e = true
    · rw [List.filter_cons_of_pos hp, sparseFind_cons, ih]
    · have other : e.1 ≠ k := by rintro rfl; exact hp (keeps e.2)
      rw [List.filter_cons_of_neg hp, if_neg other, ih]

/-- A byte outside the range of a load is as before. -/
theorem dramByte_load_other (m : List Host.Cell) {a n x : Nat} (content : List Host.Cell) (outside : x < a ∨ a + n ≤ x) :
    dramByte (dramLoad m a n content) x = dramByte m x := by
  have cleared : dramByte (m.filter fun c => decide (c.1 < a ∨ a + n ≤ c.1)) x = dramByte m x :=
    congrArg (·.getD 0#8) (sparseFind_filter fun _ => decide_eq_true outside)
  unfold dramLoad
  rw [← cleared]
  generalize m.filter (fun c => decide (c.1 < a ∨ a + n ≤ c.1)) = rest
  induction content generalizing rest with
  | nil => rfl
  | cons c l ih =>
    rw [List.foldl_cons, ih]
    split
    · exact sparseGet_set_other _ _ _ (by omega)
    · rfl

/-! ## HEAL_COMPLETE (R164, R166) -/

theorem State.healLine_dramByte (s : State) {p ix a : Nat} (content : List Host.Cell) (poison : BitVec 1024) (line : ix < 1024)
    (outside : a < p * 65536 ∨ p * 65536 + 65536 ≤ a) :
    dramByte (s.healLine p ix content poison).dram a = dramByte s.dram a := by
  have beside : a < p * 65536 + 64 * ix ∨ p * 65536 + 64 * ix + 64 ≤ a := outside.imp (Nat.lt_add_right _) (by omega)
  unfold State.healLine
  rw [dramByte_of_kept (State.askPort_kept _ _ _)]
  dsimp only
  rw [dramByte_load_other _ _ beside]

theorem State.healGood_dramByte (s : State) {h : Heal} {a : Nat} (lines : List Nat) (content : List Host.Cell) (poison : BitVec 1024)
    (outside : a < h.patch * 65536 ∨ h.patch * 65536 + 65536 ≤ a) :
    dramByte (s.healGood h lines content poison).dram a = dramByte s.dram a := by
  have inPatch : ∀ ix ∈ (h.lines.map lineIx ++ lines.filter fun i => decide (i < 1024)).eraseDups, ix < 1024 := by
    intro ix mem
    rw [List.mem_eraseDups, List.mem_append, List.mem_map, List.mem_filter, decide_eq_true_iff] at mem
    obtain ⟨d, -, rfl⟩ | ⟨-, low⟩ := mem
    · exact Nat.mod_lt _ (by decide)
    · exact low
  rw [← State.each_proj (fun s => dramByte s.dram a) (fun x ix mem => x.healLine_dramByte content poison (inPatch ix mem) outside) s]
  refine dramByte_of_kept ?_
  unfold State.healGood
  split <;> simp

theorem State.endHeal_dramByte (s : State) {h : Heal} {a : Nat} (q : Nat) (lines : List Nat)
    (good : Option (List Host.Cell × BitVec 1024)) (outside : a < h.patch * 65536 ∨ h.patch * 65536 + 65536 ≤ a) :
    dramByte (s.endHeal q h lines good).dram a = dramByte s.dram a := by
  unfold State.endHeal
  cases good with
  | none => exact dramByte_of_kept (by simp)
  | some v => exact (State.healGood_dramByte _ lines v.1 v.2 outside).trans (dramByte_of_kept (by simp))

theorem State.healOf_patch {s : State} {q p : Nat} {h : Heal} (found : s.healOf q p = some h) : h.patch = p := by
  simpa using List.find?_some found

theorem State.healOf_getD_patch {s : State} {q p : Nat} {h : Heal} (patch : h.patch = p) : ((s.healOf q p).getD h).patch = p := by
  cases found : s.healOf q p with
  | none => exact patch
  | some x => exact State.healOf_patch found

theorem healComplete_dramByte {q : QuadIx} {p a : Nat} {lines : List Nat} {s t : State}
    (step : exec (.healComplete q p lines) s = .next t) (outside : a < p * 65536 ∨ p * 65536 + 65536 ≤ a) :
    dramByte t.dram a = dramByte s.dram a := by
  change execHealComplete q p lines s = .next t at step
  unfold execHealComplete at step
  split at step
  case _ => cases step; rfl
  case _ h found =>
    cases step
    have patch := State.healOf_getD_patch (s := s.begin.healExpiry q h) (q := q) (State.healOf_patch found)
    rw [← patch] at outside
    rw [← dramByte_of_kept (s := s) (t := s.begin.healExpiry q h) (by simp)]
    split
    · exact State.endHeal_dramByte _ q lines none outside
    · split
      · exact State.endHeal_dramByte _ q lines _ outside
      · rfl

/-! ## Inject and Clear Poison (R333) -/

theorem State.writeLine_dramByte (s : State) {dpa a : Nat} (d : WriteData) (outside : a < lineOf dpa ∨ lineOf dpa + 64 ≤ a) :
    dramByte (s.writeLine dpa d).dram a = dramByte s.dram a := by
  rw [State.writeLine_dram]
  split <;> exact dramByte_store_other _ _ _ _ _ outside

theorem State.writeOver_dramByte (s : State) {dpa a : Nat} (d : WriteData) (outside : a < lineOf dpa ∨ lineOf dpa + 64 ≤ a) :
    dramByte (s.writeOver dpa d).dram a = dramByte s.dram a :=
  (State.writeLine_dramByte _ d outside).trans (dramByte_of_kept (by simp))

theorem State.poisonWrite_dramByte (s : State) {w : PoisonWait} {a : Nat} (outside : a < lineOf w.dpa ∨ lineOf w.dpa + 64 ≤ a) :
    dramByte (s.poisonWrite w).dram a = dramByte s.dram a := by
  rw [← State.writeOver_dramByte s { line := w.data.getD zeroLine, be := allBytes, poison := w.data.isNone } outside]
  refine dramByte_of_kept ?_
  unfold State.poisonWrite
  split <;> simp

theorem State.poisonCommand_dramByte {s : State} {fn : FnIx} {addr a : Nat} (data : Option Line)
    (outside : ∀ d, s.fnAddr fn addr = some d → a < lineOf d ∨ lineOf d + 64 ≤ a) :
    dramByte (s.poisonCommand fn addr data).dram a = dramByte s.dram a := by
  unfold State.poisonCommand
  split
  case _ => exact dramByte_of_kept (by simp)
  case _ d found =>
    split
    · exact dramByte_of_kept (by simp)
    · refine s.poisonWrite_dramByte ?_
      rw [lineOf_lineOf]
      exact outside d found

theorem State.command_dramByte {s t : State} {fn : FnIx} {mgmt inRec : Bool} {f : State → State} {a : Nat}
    (step : s.command fn mgmt inRec f = .next t) (same : dramByte (f s.begin).dram a = dramByte s.dram a) :
    dramByte t.dram a = dramByte s.dram a := by
  have replied (code : RetCode) : dramByte (s.begin.reply fn code []).dram a = dramByte s.dram a :=
    dramByte_of_kept (by simp)
  unfold State.command occurs at step
  split at step
  · cases step
    dsimp only
    split
    · exact replied _
    · split
      · exact replied _
      · exact same
  · cases step
    rfl

/-- Both commands that run poisonCommand. -/
theorem poisonCommand_step_dramByte {fn : FnIx} {addr a : Nat} {data : Option Line} {s t : State}
    (step : s.command fn false false (·.poisonCommand fn addr data) = .next t)
    (outside : ∀ d, s.fnAddr fn addr = some d → a < lineOf d ∨ lineOf d + 64 ≤ a) : dramByte t.dram a = dramByte s.dram a :=
  State.command_dramByte step (State.poisonCommand_dramByte data outside)


/-! ## The frame of every command -/

/-- The mask of State.outside that names the parts listed, and the outputs: the parts stand in the order of the fields. -/
def partsMask (l : List Part) : Nat := l.foldr (fun p m => 2 ^ p.ctorIdx ||| m) (2 ^ 31)

theorem partsMask_testBit_of_not_mem {p : Part} {l : List Part} (absent : p ∉ l) (part : p ≠ .pending) :
    (partsMask l).testBit p.ctorIdx = false := by
  induction l with
  | nil => revert part; cases p <;> decide
  | cons q l ih =>
    obtain ⟨other, absent⟩ := List.ne_and_not_mem_of_not_mem_cons absent
    have apart : q.ctorIdx ≠ p.ctorIdx := fun same => other (by rw [← Part.ofNat_ctorIdx p, ← same, Part.ofNat_ctorIdx])
    simpa [partsMask, Nat.testBit_lor, Nat.testBit_two_pow, apart] using ih absent

theorem execTickSkew_outside (treeB : Bool) (s : State) (fm : Nat) (hfm : 2147483667 &&& fm = 2147483667) :
    s.framedBy fm (execTickSkew treeB s) := by
  refine State.framedBy_mono hfm (occurs_outside s _ _ _ rfl fun x => ?_)
  cases treeB <;> simp

/-- The parts that touches names cover the mask of every command's law under Laws/Frame*. The two boundaries have no such law. -/
theorem exec_framedBy_touches {c : Instr} (s : State) (noFrame : ∀ i, c ≠ .frameBoundary i)
    (noSuper : ∀ i, c ≠ .superframeBoundary i) : s.framedBy (partsMask (touches c)) (exec c s) := by
  cases c
  case frameBoundary i => exact absurd rfl (noFrame i)
  case superframeBoundary i => exact absurd rfl (noSuper i)
  all_goals
    dsimp only [touches, exec]
    simp (disch := decide) only [
      execTickSkew_outside, execAonTick_outside, execMainClockStart_outside, execAonPowerApply_outside, execAonReset_outside,
      execRegisterWrite_outside, execClrOverruns_outside, execBroadcastWrite_outside, execBroadcastRead_outside,
      execEpochCommit_outside, execEpochVote_outside, execEpochApply_outside, execUnitPowerReturn_outside,
      execHostWrite_outside, execHostRead_outside, execStateProbeAnswer_outside, execHeldWriteRelease_outside,
      execHoldEscalate_outside, execScQueueEntry_outside, execDramCommandIssue_outside, execDramReadData_outside,
      execHealWaitExpiry_outside, execHealComplete_outside, execPageIdleClose_outside, execRefreshDue_outside,
      execMr4Poll_outside, execRankIdleSelfRefresh_outside, execIdleOpEnter_outside, execIdleOpExit_outside,
      execOpChangeStart_outside, execStandbyGeneratorLocked_outside, execOpChangeSwitch_outside, execOpChangeDone_outside,
      execDramTraining_outside, execTrackingPassStart_outside, execTrackingStep_outside, execTrackingPassApply_outside,
      execDramWriteCrcAlert_outside, execPatrolScrubRead_outside, execMigrationChunk_outside, execPatchSettingExpiry_outside,
      execSkimStart_outside, execVersionRecorded_outside, execWearAllowanceRecompute_outside, execGaugeFullStep_outside,
      execImpedanceStepQualify_outside, execPackAuthStart_outside, execPackAuthResponse_outside, execChgSelfGrant_outside,
      execLearnDue_outside, execLearnNotStarted_outside, execLearnedWriteStart_outside, execLearnedWriteReadback_outside,
      execVinSenseLow_outside, execPfwNAssert_outside, execInputReturn_outside, execSaveBackupEnable_outside,
      execSaveDecide_outside, execSaveCommitArrive_outside, execQuadrantWriteDrained_outside, execPersistencePoint_outside,
      execFabricPhyOff_outside, execSaveWriteStart_outside, execSaveQuadrantTailDone_outside, execSealWrite_outside,
      execSealReadback_outside, execBkpEnRelease_outside, execPorstNRelease_outside, execPorstNAssert_outside,
      execConfigLoad_outside, execWarmLoad_outside, execSealSearch_outside, execLedgerLoad_outside, execRunOpenWrite_outside,
      execMediaReady_outside, execBackgroundFillStart_outside, execFaultInPlaceTaken_outside, execFillComplete_outside,
      execStripeRebuild_outside, execQuadrantRefill_outside, execFlashProgramConfirm_outside, execFlashProgramStatus_outside,
      execFlashEraseStatus_outside, execFlashReadData_outside, execFlashStatusTimeout_outside, execDieOpStart_outside,
      execDieRebuildRelocate_outside, execFcFailed_outside, execFlashChannelInit_outside, execStripeClose_outside,
      execJournalFlush_outside, execCheckpointStart_outside, execCheckpointSeal_outside, execGcStart_outside,
      execWearLevelRelocate_outside, execRelocationUpdate_outside, execImagePatrolStart_outside, execCipherCodewordDone_outside,
      execTagCompare_outside, execDataKeyDerivation_outside, execControlEngineRequest_outside, execRetiringKeyZeroize_outside,
      execDrbgReseed_outside, execEntropyTestFail_outside, execPowerUpStart_outside, execMainRailPowerUp_outside,
      execRailStageStart_outside, execRailGood_outside, execRailUpFail_outside, execRailRetry_outside, execRailsUp_outside,
      execRailFault_outside, execFirstFailureRecord_outside, execPowerDownStart_outside, execPowerDownStage_outside,
      execPwrbtnPress_outside, execPwrbtnRelease_outside, execForcedOff_outside, execOffRequest_outside,
      execShipOffRequest_outside, execOffAck_outside, execOffHandshakeTimeout_outside, execMrNWarmReset_outside,
      execWarmResetRebuild_outside, execCascadeTrainReceived_outside, execCascadeMasterTrain_outside,
      execCascadeTimeout_outside, execDiscoveryEnd_outside, execGroupPowerUpStart_outside, execGrpFaultAssert_outside,
      execSync_outside, execPowerUp_outside, execFpReport_outside, execChgReq_outside, execChgGrant_outside, execChgEnd_outside,
      execLearnReq_outside, execLearnGrant_outside, execLearnEndMsg_outside, execSaveNote_outside, execGroupSave_outside,
      execStatusPoll_outside, execMasterLost_outside, execTw0PageWrite_outside, execTw0PageRead_outside,
      execTw0RegWrite_outside, execTw0RegRead_outside, execTw0StatusRead_outside, execTw0BlockRead_outside,
      execTw0MctpPacket_outside, execTw0MctpResponse_outside, execTw0Timeout_outside, execTw0AonWake_outside,
      execTw0AonSleep_outside, execOnReq_outside, execAlertResponse_outside, execTwTransactionStart_outside,
      execTwTransactionEnd_outside, execTwArbRetry_outside, execTwSclTimeout_outside, execTwSdaTimeout_outside,
      execBusClear_outside, execTwHungRetry_outside, execFaultMessageRaise_outside, execFaultMessageDelivery_outside,
      execFirstClr_outside, execNextPop_outside, execGfRelease_outside, execAlertPendClear_outside,
      execLockstepMismatch_outside, execUpdBootOk_outside, execBootTimeout_outside, execUpdateLockIdleTimeout_outside,
      execTransferFwInitiate_outside, execTransferFwContinue_outside, execTransferFwEnd_outside, execTransferFwAbort_outside,
      execActivateFwOffline_outside, execActivateFwOnline_outside, execRecoveryEntered_outside, execIdentify_outside,
      execGetEventRecords_outside, execClearEventRecords_outside, execGetEventInterruptPolicy_outside,
      execSetEventInterruptPolicy_outside, execGetFwInfo_outside, execGetTimestamp_outside, execSetTimestamp_outside,
      execGetSupportedLogs_outside, execGetLog_outside, execIdentifyMemoryDevice_outside, execGetPartitionInfo_outside,
      execSetPartitionInfo_outside, execGetHealthInfo_outside, execGetAlertConfiguration_outside,
      execSetAlertConfiguration_outside, execGetShutdownState_outside, execSetShutdownState_outside, execGetPoisonList_outside,
      execInjectPoison_outside, execClearPoison_outside, execGetScanMediaCapabilities_outside, execScanMedia_outside,
      execGetScanMediaResults_outside, execSecureErase_outside, execSanitize_outside, execDeviceEraseKeySwitch_outside,
      execBackgroundCommandDone_outside, execLoadKeyBlob_outside, execEraseKeySlot_outside, execGetKeySlotStatus_outside,
      execRequestLearnCycle_outside, execGetLearnStatus_outside, execGetVendorLog_outside, execSetLdAllocations_outside,
      execSetEndpointId_outside, execGetEndpointId_outside, execGetMctpVersionSupport_outside,
      execGetMessageTypeSupport_outside, execGpfPhase1_outside, execGpfPhase2_outside, execLinkTrain_outside,
      execLinkDown_outside, execConvSat_outside, execUnsupportedOpcode_outside, execTw0OtherCommandByte_outside,
      execCrcErrorWithReplay_outside, execCaParityAlert_outside, execJtagInstruction_outside]

/-- A command that does not name DRAM among its parts leaves every byte. -/
theorem exec_dram_of_untouched {c : Instr} {s t : State} (step : exec c s = .next t) (untouched : Part.dram ∉ touches c) :
    t.dram = s.dram := by
  by_cases super : ∃ i, c = .superframeBoundary i
  · obtain ⟨i, rfl⟩ := super
    have kept : s.keptBy (.next t) := step ▸ execSuperframeBoundary_kept i s
    exact congrArg (·.1) kept
  · have noFrame (i : FrameIn) : c ≠ .frameBoundary i := by rintro rfl; exact untouched (by simp [touches])
    have framed : s.framedBy (partsMask (touches c)) (.next t) :=
      step ▸ exec_framedBy_touches s noFrame fun i same => super ⟨i, same⟩
    exact dram_of_outside framed (partsMask_testBit_of_not_mem untouched (by decide))

/-- Settles O7: a command that does not touch DRAM by its frame; a heal by the lines that it rewrites; Inject and Clear Poison by
the line that they write. -/
theorem bytesOfDramChangeOnlyWhereStored : Obligations.BytesOfDramChangeOnlyWhereStored := by
  unfold Obligations.BytesOfDramChangeOnlyWhereStored
  refine ⟨?_, ?_, ?_⟩
  · exact fun c s t a step untouched => congrArg (dramByte · a) (exec_dram_of_untouched step untouched)
  · exact fun q p l s t a step outside => healComplete_dramByte step outside
  · rintro fn addr data s t a (inject | clear) outside
    · exact poisonCommand_step_dramByte inject outside
    · exact poisonCommand_step_dramByte clear outside

end Sys2Proof.Machine

/-!
PROOF. Boots that are signalled or fail, RECOVERY, and the beginning and the rebuild of a warm reset (06_restore_and_heal R175;
14_power_sequencing R432, R441; 18_firmware_update R522, R524, R533, R534; R605): the counts of failed boots, what the rail table of an
image may set, the messages that go on waiting, and what a rebuild leaves of each quadrant.
-/

namespace Sys2Proof.Machine

/-! ## What counts of failed boots (R524) -/

/-- UPD_STATUS.BOOT_FAILS and what the AON domain keeps of failed boots. -/
def State.bootMarks (s : State) : Nat × Nat × Option Nat := (s.get Reg.UPD_STATUS_BOOT_FAILS, s.upd.aonFails, s.upd.aonSlot)

theorem State.bootMarks_of {s t : State} (status : t.get Reg.UPD_STATUS_BOOT_FAILS = s.get Reg.UPD_STATUS_BOOT_FAILS)
    (upd : t.upd = s.upd) : t.bootMarks = s.bootMarks := by
  unfold State.bootMarks
  rw [status, upd]

theorem State.put_bootMarks (s : State) {f : Fld} (v : Nat) (fits : f.lo + f.width ≤ 32)
    (apart : Reg.UPD_STATUS_BOOT_FAILS.apart f = true) : (s.put f v).bootMarks = s.bootMarks :=
  State.bootMarks_of (State.get_put_other _ _ _ _ fits apart) rfl

theorem State.event_bootMarks (s : State) {src : Nat} (kind sev : Nat) (named : src < 2048) :
    (s.event src kind sev).bootMarks = s.bootMarks :=
  State.bootMarks_of (State.get_event _ _ _ _ _ (by show 0x0A0000 ≠ _; omega) (by decide)) (State.event_upd _ _ _ _)

theorem State.ldHead_lt_two (s : State) (k : Nat) : s.ldHead k < 2 := Nat.mod_lt _ (Nat.two_pow_pos 1)

theorem State.reply_bootMarks (s : State) (fn : FnIx) (code : RetCode) (payload : List Nat) :
    (s.reply fn code payload).bootMarks = s.bootMarks := by
  unfold State.reply
  dsimp only
  split
  · rfl
  · generalize sent : (if fn.val < 16 then (s.emit (.mailbox fn code payload)).emit (.msix fn 0)
      else s.emit (.mailbox fn code payload)) = x
    have same : x.bootMarks = s.bootMarks := by
      rw [← sent]
      split <;> rfl
    split
    · have head := x.ldHead_lt_two fn
      exact (State.event_bootMarks _ _ _ (by unfold srcHead; split <;> omega)).trans same
    · exact same

/-! ## UPD_BOOT_OK (R524, R525, R530) -/

theorem State.commitSvn_bootMarks (s : State) : s.commitSvn.bootMarks = s.bootMarks := by
  unfold State.commitSvn
  split
  · split
    · exact (State.event_bootMarks _ _ _ (by decide)).trans (State.put_bootMarks _ _ (by decide) (by decide))
    · rfl
  · rfl

theorem State.modFw_bootMarks (s : State) (k : Nat) (f : FwSlot → FwSlot) : (s.modFw k f).bootMarks = s.bootMarks := by
  unfold State.modFw State.bootMarks
  split <;> rfl

theorem State.onlineEnds_bootMarks (s : State) : s.onlineEnds.bootMarks = s.bootMarks := by
  unfold State.onlineEnds
  split
  · rfl
  next fn before _ =>
    have ended : ((s.modUpd fun u => { u with online := none }).put Reg.UPD_STATUS_PHASE 0).bootMarks = s.bootMarks :=
      State.put_bootMarks _ _ (by decide) (by decide)
    dsimp only
    split
    · rw [State.reply_bootMarks, State.event_bootMarks _ _ _ (by decide), State.modFw_bootMarks, ended]
    · rw [State.reply_bootMarks, State.event_bootMarks _ _ _ (by decide), ended]

/-- The first good signal of a running cluster (R524). -/
theorem State.bootSignal_shows {s : State} (running : s.cluster.running = true) (fresh : s.cluster.bootOk = false)
    (normal : s.inRecovery = false) : s.bootSignal.cluster.bootOk = true ∧ s.bootSignal.bootMarks = (0, 0, none) := by
  unfold State.bootSignal
  simp only [running, fresh, normal, Bool.not_true, Bool.or_false, Bool.false_eq_true, if_false]
  constructor
  · rw [cluster_of_outside (State.onlineEnds_outside _ 2218786833 (by decide)) (by decide),
      cluster_of_outside (State.commitSvn_outside _ 33554449 (by decide)) (by decide)]
    rfl
  · rw [State.onlineEnds_bootMarks, State.commitSvn_bootMarks]
    unfold State.bootMarks
    rw [State.get_put_same _ _ _ (by decide)]
    rfl

theorem execUpdBootOk_signals {p : PathIx} {s : State} (served : s.served p = true) (open_ : s.writeShut p 0x0A0004 = false)
    (running : s.cluster.running = true) (fresh : s.cluster.bootOk = false) (normal : s.inRecovery = false) :
    ∃ t, execUpdBootOk p s = .next t ∧ t.cluster.bootOk = true ∧ t.get Reg.UPD_STATUS_BOOT_FAILS = 0 ∧ t.upd.aonFails = 0 ∧
      t.upd.aonSlot = none := by
  obtain ⟨good, marks⟩ := State.bootSignal_shows (s := s.begin) running fresh normal
  refine ⟨s.begin.bootSignal, ?_, good, ?_⟩
  · exact congrArg Host.Outcome.next (State.reach_of_open State.bootSignal (s := s.begin) served open_)
  · simpa only [State.bootMarks, Prod.mk.injEq] using marks

/-! ## BOOT_TIMEOUT (R522, R524, R533) -/

theorem State.updRelease_bootMarks (s : State) : s.updRelease.bootMarks = s.bootMarks := by
  unfold State.updRelease
  dsimp only
  rw [State.put_bootMarks _ _ (by decide) (by decide), State.put_bootMarks _ _ (by decide) (by decide),
    State.put_bootMarks _ _ (by decide) (by decide), State.putB, State.put_bootMarks _ _ (by decide) (by decide)]
  rfl

theorem State.modUpd_bootMarks (s : State) {f : Update → Update}
    (keeps : (f s.upd).aonFails = s.upd.aonFails ∧ (f s.upd).aonSlot = s.upd.aonSlot) : (s.modUpd f).bootMarks = s.bootMarks := by
  unfold State.bootMarks
  rw [State.modUpd_get, State.modUpd_same, keeps.1, keeps.2]

theorem State.modFabric_bootMarks (s : State) (f : Fabric → Fabric) : (s.modFabric f).bootMarks = s.bootMarks := rfl

theorem State.modLd_bootMarks (s : State) (k : Nat) (f : Ld → Ld) : (s.modLd k f).bootMarks = s.bootMarks := rfl

theorem State.clusterRestart_bootMarks (s : State) : s.clusterRestart.bootMarks = s.bootMarks := by
  have released : s.updRelease.twReenabled.bootMarks = s.bootMarks :=
    (State.bootMarks_of rfl rfl).trans s.updRelease_bootMarks
  rw [← released]
  unfold State.clusterRestart
  generalize s.updRelease.twReenabled = u
  dsimp only
  split
  · rfl
  · rw [State.modUpd_bootMarks _ ⟨rfl, rfl⟩, State.modFabric_bootMarks]
    exact State.each_proj State.bootMarks (fun s k _ => s.modLd_bootMarks k _) _

/-- The slot that a start runs shows the failures that the AON domain has counted. -/
theorem State.runFw_bootMarks (s : State) (k : Nat) (few : s.upd.aonFails ≤ 3) :
    (s.runFw k).bootMarks = (s.upd.aonFails, s.upd.aonFails, s.upd.aonSlot) := by
  have shown : (s.runFw k).get Reg.UPD_STATUS_BOOT_FAILS = s.upd.aonFails := by
    refine (State.get_put_same _ _ _ (by decide)).trans ?_
    show min 3 s.upd.aonFails % 4 = s.upd.aonFails
    omega
  unfold State.bootMarks
  rw [shown, upd_of_outside (State.runFw_outside s k 1 (by decide)) (by decide)]

/-- A failed boot counted, with its slot and its message. -/
def State.bootCounted (s : State) : State :=
  ((s.modUpd fun u => { u with aonFails := min 3 (s.upd.aonFails + 1), aonSlot := some (s.get Reg.UPD_STATUS_RUNNING) }).put
    Reg.UPD_STATUS_BOOT_FAILS (min 3 (s.upd.aonFails + 1))).event 0x4EA 6 Sev.degraded

/-- The cluster stopped for RECOVERY. -/
def State.bootStops (s : State) (cause : Nat) : State :=
  ({ s with cluster := { s.cluster with running := false } } : State).modSeq fun x => { x with recoveryDue := some cause }

/-- The cluster restarted from a slot. -/
def State.bootAgain (s : State) (k : Nat) : State :=
  if s.upd.online.isSome then (s.runFw k).clusterRestart.put Reg.UPD_STATUS_PHASE 5 else (s.runFw k).clusterRestart

theorem State.bootFailed_eq (s : State) : s.bootFailed =
    if 3 ≤ min 3 (s.upd.aonFails + 1) then s.bootCounted.bootStops 3
    else match s.bootCounted.chooseFw with
      | none => s.bootCounted.bootStops 2
      | some k => s.bootCounted.bootAgain k := rfl

theorem State.bootCounted_shows (s : State) : s.bootCounted.bootMarks =
      (min 3 (s.upd.aonFails + 1), min 3 (s.upd.aonFails + 1), some (s.get Reg.UPD_STATUS_RUNNING)) ∧
    s.bootCounted.pends 0x4EA = true := by
  refine ⟨?_, State.event_pends _ _ _ _⟩
  unfold State.bootCounted
  rw [State.event_bootMarks _ _ _ (by decide)]
  unfold State.bootMarks
  rw [State.get_put_same _ _ _ (by decide), Nat.mod_eq_of_lt (by show min 3 _ < 4; omega)]
  rfl

theorem State.bootAgain_shows {s : State} (k : Nat) (few : s.upd.aonFails ≤ 3) :
    (s.bootAgain k).bootMarks = (s.upd.aonFails, s.upd.aonFails, s.upd.aonSlot) ∧
      ∀ src, (s.bootAgain k).pends src = s.pends src := by
  have marks : (s.runFw k).clusterRestart.bootMarks = (s.upd.aonFails, s.upd.aonFails, s.upd.aonSlot) :=
    (State.clusterRestart_bootMarks _).trans (State.runFw_bootMarks s k few)
  have events : (s.runFw k).clusterRestart.events = s.events :=
    (events_of_outside (State.clusterRestart_outside _ 75522081 (by decide)) (by decide)).trans
      (events_of_outside (State.runFw_outside s k 1 (by decide)) (by decide))
  have waits (src : Nat) : (s.runFw k).clusterRestart.pends src = s.pends src :=
    State.pends_congr (congrArg Events.pending events) src
  unfold State.bootAgain
  split
  · exact ⟨(State.put_bootMarks _ _ (by decide) (by decide)).trans marks, waits⟩
  · exact ⟨marks, waits⟩

theorem State.bootFailed_shows (s : State) : s.bootFailed.bootMarks =
      (min 3 (s.upd.aonFails + 1), min 3 (s.upd.aonFails + 1), some (s.get Reg.UPD_STATUS_RUNNING)) ∧
    s.bootFailed.pends 0x4EA = true ∧
    (2 ≤ s.upd.aonFails → s.bootFailed.seq.recoveryDue = some 3 ∧ s.bootFailed.cluster.running = false) := by
  obtain ⟨marks, waits⟩ := s.bootCounted_shows
  rw [State.bootFailed_eq]
  split
  · exact ⟨marks, waits, fun _ => ⟨rfl, rfl⟩⟩
  next early =>
    split
    · exact ⟨marks, waits, fun third => absurd (by omega) early⟩
    next k _ =>
      have fails : s.bootCounted.upd.aonFails = min 3 (s.upd.aonFails + 1) := congrArg (·.2.1) marks
      have slot : s.bootCounted.upd.aonSlot = some (s.get Reg.UPD_STATUS_RUNNING) := congrArg (·.2.2) marks
      obtain ⟨again, kept⟩ := s.bootCounted.bootAgain_shows k (by omega)
      refine ⟨again.trans ?_, (kept _).trans waits, fun third => absurd (by omega) early⟩
      rw [fails, slot]

theorem execBootTimeout_counts {s : State} (running : s.cluster.running = true) (fresh : s.cluster.bootOk = false)
    (normal : s.inRecovery = false) (main : s.mainOff = false) (late : s.cluster.releasedAt + ms 500 ≤ s.now) :
    ∃ t, execBootTimeout s = .next t ∧ t.get Reg.UPD_STATUS_BOOT_FAILS = min 3 (s.upd.aonFails + 1) ∧
      t.upd.aonFails = min 3 (s.upd.aonFails + 1) ∧ t.upd.aonSlot = some (s.get Reg.UPD_STATUS_RUNNING) ∧ t.pends 0x4EA = true ∧
      (2 ≤ s.upd.aonFails → t.seq.recoveryDue = some 3 ∧ t.cluster.running = false) := by
  refine yields_occurs (by simp [running, fresh, normal, main, late]) ?_
  obtain ⟨marks, waits, third⟩ := s.begin.bootFailed_shows
  simp only [State.bootMarks, Prod.mk.injEq] at marks
  obtain ⟨shown, counted, slot⟩ := marks
  exact ⟨shown, counted, slot, waits, third⟩

/-! ## The rail table of an image (R502, R534) -/

/-- An offset in the block of the rails' registers. -/
def inRails (a : Nat) : Prop := 0x061000 ≤ a ∧ a < 0x061400

theorem findReg_unitAt {l : List RegDef} {off : Nat} {d : RegDef} {u : Nat} (h : findReg l off = some (d, u)) :
    d.unitAt off = some u := by
  induction l with
  | nil => cases h
  | cons e l ih =>
    unfold findReg at h
    split at h
    next found =>
      obtain ⟨rfl, rfl⟩ := Prod.mk.inj (Option.some.inj h)
      exact found
    · exact ih h

theorem inRails_of_regAt {off : Nat} {d : RegDef} {u : Nat} (h : regAt off = some (d, u)) (rail : d.kind = .rail) : inRails off := by
  have located := findReg_unitAt h
  unfold RegDef.unitAt at located
  rw [rail] at located
  unfold UnitKind.locate at located
  dsimp only at located
  split at located
  next placed =>
    split at placed
    next block => exact block
    · cases placed
  · cases located

theorem inRails_of_everyUnit {off a : Nat} {d : RegDef} {u : Nat} (h : regAt off = some (d, u)) (rail : d.kind = .rail)
    (mem : a ∈ everyUnit off) : inRails a := by
  have block := inRails_of_regAt h rail
  have located : UnitKind.rail.locate off = some ((off - 0x061000) / 0x20, (off - 0x061000) % 0x20) := by
    unfold UnitKind.locate
    exact if_pos block
  unfold everyUnit at mem
  simp only [h, rail, located] at mem
  obtain ⟨k, low, rfl⟩ := List.mem_map.mp mem
  have k32 : k < 32 := List.mem_range.mp low
  show _ ≤ railBase k + _ ∧ railBase k + _ < _
  unfold railBase
  omega

/-- A rail table sets registers of rails alone. -/
theorem rail_of_sectionSets {off : Nat} (sets : sectionSets 0x30 off = true) : ∃ d u, regAt off = some (d, u) ∧ d.kind = .rail := by
  unfold sectionSets at sets
  split at sets
  · cases sets
  next d u found =>
    simp only [Bool.and_eq_true, decide_eq_true_eq] at sets
    exact ⟨d, u, found, sets.1⟩

theorem State.rd_loadWord (s : State) {a x : Nat} (mask value : Word) (h : x ≠ a) : (s.loadWord a mask value).rd x = s.rd x := by
  unfold State.loadWord
  split
  · rfl
  · dsimp only
    split
    · rfl
    · exact State.rd_wr_other _ _ h

theorem State.rd_applySet_rails (s : State) (inst : Nat) (r : RegSet) {x : Nat} (h : ¬ inRails x) :
    (s.applySet false 0x30 inst r).rd x = s.rd x := by
  unfold State.applySet
  split
  · rfl
  next unset =>
    obtain ⟨d, u, found, rail⟩ := rail_of_sectionSets (off := r.off) (by simpa using unset)
    have block : ∀ a ∈ (if inst = 65535 then everyUnit r.off else [r.off]), inRails a := by
      intro a mem
      split at mem
      · exact inRails_of_everyUnit found rail mem
      · rw [List.mem_singleton.mp mem]
        exact inRails_of_regAt found rail
    refine State.each_proj (State.rd · x) (fun t a mem => ?_) s
    have other : x ≠ a := fun same => h (same ▸ block a mem)
    have plain : isLdPart a = false := by
      have := block a mem
      unfold inRails at this
      unfold isLdPart
      simp
      omega
    simp only [plain, Bool.false_and, Bool.false_eq_true, if_false]
    exact State.rd_loadWord _ _ _ other

/-- The sections of a rail table that R502 lets pass. -/
theorem railTable_sets {c : CfgImage} (passes : imageOffence (railTable c) = none) :
    ∀ x ∈ orderedSections (railTable c), x.type = 0x30 ∧ ∃ l, x.body = .sets l := by
  intro x mem
  have listed : x ∈ (railTable c).sections := by
    unfold orderedSections at mem
    obtain ⟨t, -, mem⟩ := List.mem_flatMap.mp mem
    exact (List.mem_filter.mp mem).1
  have type : x.type = 0x30 := of_decide_eq_true (List.mem_filter.mp listed).2
  refine ⟨type, ?_⟩
  obtain ⟨i, at_⟩ := List.mem_iff_getElem?.mp listed
  have fits : sectionOffence x i = none :=
    List.findSome?_eq_none_iff.mp passes (x, i) (List.mem_zipIdx_iff_getElem?.mpr at_)
  unfold sectionOffence at fits
  split at fits
  · cases fits
  next ok =>
    rw [type] at ok
    cases body : x.body with
    | sets l => exact ⟨l, rfl⟩
    | _ => simp [body, bodyFits] at ok

theorem State.rd_applyImage_railTable (s : State) {c : CfgImage} (passes : imageOffence (railTable c) = none) {x : Nat}
    (h : ¬ inRails x) : (s.applyImage (railTable c) false).rd x = s.rd x := by
  refine State.each_proj (State.rd · x) (fun t y mem => ?_) s
  obtain ⟨type, l, body⟩ := railTable_sets passes y mem
  unfold State.applySection
  simp only [body, type]
  exact State.each_proj (State.rd · x) (fun u r _ => u.rd_applySet_rails y.inst r h) t

/-- What follows from a configuration: rails, the population and each head's LDs. -/
theorem State.rd_derived (s : State) {x : Nat} (rails : ¬ inRails x) (pop : x ≠ 0x000014) (heads : x ≠ 0x080000 ∧ x ≠ 0x080100) :
    s.derived.rd x = s.rd x := by
  unfold State.derived
  dsimp only
  have status {k : Nat} (low : k < 32) : x ≠ railBase k + 0x10 := fun same => rails (by unfold inRails railBase at *; omega)
  rw [State.each_proj (State.rd · x), State.rd_put_other _ _ _ pop, State.rd_put_other _ _ _ pop, State.each_proj (State.rd · x),
    State.each_proj (State.rd · x)]
  · intro s k mem
    exact State.rd_put_other _ _ _ (status (List.mem_range.mp mem))
  · intro s k mem
    exact State.rd_put_other _ _ _ (status (by have := List.mem_range.mp (List.mem_of_mem_filter mem); omega))
  · intro s h mem
    refine State.rd_put_other _ _ _ ?_
    simp only [List.mem_cons, List.not_mem_nil, or_false] at mem
    obtain rfl | rfl := mem
    · exact heads.1
    · exact heads.2

/-! ## RECOVERY_ENTERED (R533, R534) -/

theorem State.mainRails_lt {s : State} {p : Nat → Bool} : ∀ k ∈ s.mainRails.filter p, k < 32 := fun _ mem =>
  List.mem_range.mp (List.mem_of_mem_filter (List.mem_of_mem_filter mem))

theorem State.fabricRails_lt (s : State) : ∀ k ∈ s.fabricRails, k < 32 := by
  unfold State.fabricRails
  refine List.foldlRecOn (motive := fun l : List Nat => ∀ k ∈ l, k < 32) _ _ State.mainRails_lt ?_
  exact fun _ _ _ _ => State.mainRails_lt

theorem State.rd_recoveryRails (s : State) {x : Nat} (rails : ¬ inRails x) (pop : x ≠ 0x000014)
    (heads : x ≠ 0x080000 ∧ x ≠ 0x080100) : s.recoveryRails.rd x = s.rd x := by
  unfold State.recoveryRails
  split
  · rfl
  · split
    · rfl
    next ix c found =>
      have passes : imageOffence (railTable c) = none := by
        have ok := List.find?_some found
        simp only [Bool.and_eq_true, Option.isNone_iff_eq_none] at ok
        exact ok.1
      dsimp only
      rw [State.modHead_rd, State.modSeq_rd, State.each_proj (State.rd · x), State.rd_derived _ rails pop heads,
        State.rd_applyImage_railTable _ passes rails]
      intro s k mem
      have := State.fabricRails_lt _ k mem
      have status : x ≠ railBase k + 0x10 := fun same => rails (by unfold inRails railBase at *; omega)
      rw [State.rd_put_other _ _ _ status, State.rd_put_other _ _ _ status]

theorem State.setPower_power (s : State) (p : Power) : (s.setPower p).seq.power = p := by
  unfold State.setPower
  dsimp only
  split <;> rfl

theorem State.setPower_recoveryDue (s : State) (p : Power) : (s.setPower p).seq.recoveryDue = s.seq.recoveryDue := by
  unfold State.setPower
  dsimp only
  split <;> rfl

/-- The power state of an entry to RECOVERY: disarmed, and the entry no longer due. -/
def State.recoveryPower (s : State) : State := ((s.modSeq fun x => { x with recoveryDue := none }).setPower .recovery).arm false

/-- What an entry to RECOVERY shows of its cause and of the start. -/
def State.recoveryShown (s : State) (cause : Nat) : State :=
  ((((s.putB Reg.UPD_STATUS_RECOVERY true).put Reg.UPD_STATUS_RECOVERY_CAUSE cause).event 0x4EA 8 Sev.uncorrected).decideStart 3).putB
    Reg.PERS_STATUS_MEDIA_READY false

/-- The heads without media and the cluster on its boot ROM. -/
def State.recoveryServes (s : State) : State :=
  let s := s.each [0, 1] fun s h => s.modHead h fun x => { x with mediaReady := false, earlyRaised := false }
  { s with cluster := { s.cluster with running := true, bootOk := true } }

theorem State.enterRecovery_eq (s : State) (cause : Nat) :
    s.enterRecovery cause = (s.recoveryPower.recoveryShown cause).recoveryServes.recoveryRails := rfl

theorem State.recoveryPower_seq (s : State) : s.recoveryPower.seq.power = .recovery ∧ s.recoveryPower.seq.recoveryDue = none := by
  unfold State.recoveryPower
  rw [seq_of_outside (State.arm_outside _ _ 1 (by decide)) (by decide), State.setPower_power, State.setPower_recoveryDue]
  exact ⟨rfl, rfl⟩

theorem State.recoveryShown_seq (s : State) (cause : Nat) : (s.recoveryShown cause).seq = s.seq := by
  unfold State.recoveryShown
  rw [State.putB_seq, seq_of_outside (State.decideStart_outside _ _ 1 (by decide)) (by decide), State.event_seq, State.put_seq,
    State.putB_seq]

theorem State.recoveryShown_pends (s : State) (cause : Nat) : (s.recoveryShown cause).pends 0x4EA = true := by
  unfold State.recoveryShown
  rw [State.putB_pends, State.pends_congr (congrArg Events.pending
    (events_of_outside (State.decideStart_outside _ 3 1 (by decide)) (by decide))), State.event_pends]

theorem State.recoveryShown_shows (s : State) {cause : Nat} (small : cause < 8) :
    (s.recoveryShown cause).flag Reg.UPD_STATUS_RECOVERY = true ∧ (s.recoveryShown cause).get Reg.UPD_STATUS_RECOVERY_CAUSE = cause ∧
      (s.recoveryShown cause).get Reg.PERS_STATUS_START_STATE = 3 ∧
      (s.recoveryShown cause).flag Reg.PERS_STATUS_MEDIA_READY = false := by
  have status : (s.recoveryShown cause).rd 0x0A0000 =
      ((s.putB Reg.UPD_STATUS_RECOVERY true).put Reg.UPD_STATUS_RECOVERY_CAUSE cause).rd 0x0A0000 := by
    unfold State.recoveryShown
    rw [State.rd_putB_other _ _ _ (by decide), State.rd_decideStart _ _ (by decide) (by decide),
      State.rd_event _ _ _ _ (by decide) (by decide)]
  refine ⟨?_, ?_, ?_, State.flag_putB_same _ _ _ (by decide) (by decide)⟩
  · rw [State.flag_of_rd status, State.flag_put_other _ _ _ _ (by decide) (by decide)]
    exact State.flag_putB_same _ _ _ (by decide) (by decide)
  · rw [State.get_of_rd status, State.get_put_same _ _ _ (by decide)]
    exact Nat.mod_eq_of_lt small
  · exact (State.get_putB_other _ _ _ _ (by decide) (by decide)).trans (State.decideStart_shows _ 3)

theorem State.recoveryRails_seq (s : State) :
    s.recoveryRails.seq.power = s.seq.power ∧ s.recoveryRails.seq.recoveryDue = s.seq.recoveryDue := by
  unfold State.recoveryRails
  split
  · exact ⟨rfl, rfl⟩
  · split
    · exact ⟨rfl, rfl⟩
    next ix c _ =>
      dsimp only
      rw [State.modHead_seq, State.modSeq_same]
      dsimp only
      rw [State.each_proj State.seq, seq_of_outside (State.derived_outside _ 131073 (by decide)) (by decide),
        seq_of_outside (State.applyImage_outside _ _ _ 16777229 (by decide)) (by decide)]
      · exact ⟨rfl, rfl⟩
      · exact fun s k _ => rfl

theorem execRecoveryEntered_shows {c : Fin 4} {s : State} (main : s.mainOff = false)
    (due : s.seq.recoveryDue = some (c.val + 1)) :
    ∃ t, execRecoveryEntered c s = .next t ∧ t.seq.power = .recovery ∧ t.flag Reg.UPD_STATUS_RECOVERY = true ∧
      t.get Reg.UPD_STATUS_RECOVERY_CAUSE = c.val + 1 ∧ t.get Reg.PERS_STATUS_START_STATE = 3 ∧
      t.flag Reg.PERS_STATUS_MEDIA_READY = false ∧ t.pends 0x4EA = true ∧ t.seq.recoveryDue = none := by
  refine yields_occurs (by simp [main, due]) ?_
  rw [State.enterRecovery_eq]
  generalize entered : s.begin.recoveryPower = x
  obtain ⟨power, none_⟩ := s.begin.recoveryPower_seq
  rw [entered, ← State.recoveryShown_seq x (c.val + 1)] at power none_
  obtain ⟨recovery, cause, start, ready⟩ := x.recoveryShown_shows (cause := c.val + 1) (by omega)
  have waits := x.recoveryShown_pends (c.val + 1)
  generalize x.recoveryShown (c.val + 1) = y at *
  have rd {a : Nat} (rails : ¬ inRails a) (pop : a ≠ 0x000014) (heads : a ≠ 0x080000 ∧ a ≠ 0x080100) :
      y.recoveryServes.recoveryRails.rd a = y.rd a := State.rd_recoveryRails _ rails pop heads
  have upd := rd (a := 0x0A0000) (by unfold inRails; omega) (by decide) (by decide)
  have pers := rd (a := 0x030000) (by unfold inRails; omega) (by decide) (by decide)
  obtain ⟨samePower, sameDue⟩ := y.recoveryServes.recoveryRails_seq
  have events : y.recoveryServes.recoveryRails.events = y.recoveryServes.events :=
    events_of_outside (State.recoveryRails_outside _ 17174541 (by decide)) (by decide)
  exact ⟨samePower.trans power, (State.flag_of_rd upd).trans recovery, (State.get_of_rd upd).trans cause,
    (State.get_of_rd pers).trans start, (State.flag_of_rd pers).trans ready,
    (State.pends_congr (congrArg Events.pending events) _).trans waits, sameDue.trans none_⟩

/-! ## Messages that go on waiting -/

/-- What each step of a fold keeps true, the fold keeps true. -/
theorem State.each_preserves {α : Type} {P : State → Prop} {l : List α} {f : State → α → State} {s : State} (start : P s)
    (step : ∀ s, ∀ a ∈ l, P s → P (f s a)) : P (s.each l f) :=
  List.foldlRecOn (motive := P) l f start fun s h a mem => step s a mem h

theorem State.pends_of_outside {s t : State} {m : Nat} (h : t.outside m = s.outside m) (silent : m.testBit 4 = false) (x : Nat) :
    t.pends x = s.pends x := State.pends_congr (congrArg Events.pending (events_of_outside h silent)) x

theorem State.listOverflow_pends (s : State) (q : Nat) {x : Nat} (waits : s.pends x = true) : (s.listOverflow q).pends x = true :=
  State.event_pends_other _ _ _ _ _ waits

theorem State.relist_pends (s : State) (p : Nat) {x : Nat} (waits : s.pends x = true) : (s.relist p).pends x = true := by
  unfold State.relist
  dsimp only
  split
  · exact waits
  · split
    · exact waits
    · exact s.listOverflow_pends _ waits

theorem State.skimAbandon_pends (s : State) (q : Nat) {x : Nat} (waits : s.pends x = true) : (s.skimAbandon q).pends x = true := by
  unfold State.skimAbandon
  refine State.each_preserves (P := fun s => s.pends x = true) waits fun t v _ waits => ?_
  have set : (if (t.patch v.patch).st = .skimming ∧ ¬ v.superseded then t.patchSet v.patch else t).pends x = true := by
    split
    · exact State.relist_pends _ _ waits
    · exact waits
  dsimp only
  split <;> exact set

/-! ## MR_N (R432) -/

theorem State.stopFlash_pends (s : State) (q : Nat) {x : Nat} (waits : s.pends x = true) : (s.stopFlash q).pends x = true := by
  unfold State.stopFlash
  dsimp only
  rw [State.pends_of_outside (State.judgePlaces_outside _ 4097 (by decide)) (by decide), State.modImage_pends,
    State.pends_of_outside (State.cipherSync_outside _ _ 512 (by decide)) (by decide), State.modQuad_pends,
    State.each_proj (State.pends · x), State.each_proj (State.pends · x)]
  · exact s.skimAbandon_pends q waits
  · exact fun _ _ _ => rfl
  · exact fun _ _ _ => rfl

/-- A warm reset begins: its message, its power state, and an end to a handshake. -/
def State.warmResetEntered (s : State) : State :=
  (((s.event 0x4A3 1 Sev.note).setPower .warmReset).modSeq fun x => { x with
    warmDrain := true, mrLatched := false, startAt := some s.now }).abandonHandshake true false

/-- A warm reset drains: the heads, the write queues and the quadrants' flash work. -/
def State.warmResetDrains (s : State) : State :=
  let s := s.quiesceHeads
  let s := s.each [0, 1] fun s h => s.modHead h fun x => { x with reqs := x.reqs.filter HReq.done }
  let s := s.each (List.range 16) fun s n => s.modSc n fun x => { x with writeQ := x.writeQ.filter fun e => !e.undone }
  s.each (List.range 4) fun s q =>
    let s := s.stopFlash q
    if (s.quad q).journal.isEmpty then s else s.flushJournal q

theorem State.startWarmReset_eq (s : State) : s.startWarmReset = s.warmResetEntered.warmResetDrains := rfl

/-- Draining touches neither the sequencer nor a handshake. -/
theorem State.warmResetDrains_outside (s : State) : s.warmResetDrains.outside 2147524433 = s.outside 2147524433 := by
  unfold State.warmResetDrains
  simp

theorem State.warmResetDrains_pends (s : State) {x : Nat} (waits : s.pends x = true) : s.warmResetDrains.pends x = true := by
  unfold State.warmResetDrains
  refine State.each_preserves (P := fun s => s.pends x = true) ?_ fun t q _ waits => ?_
  · rw [State.each_proj (State.pends · x), State.each_proj (State.pends · x),
      State.pends_of_outside (State.quiesceHeads_outside _ 2147488769 (by decide)) (by decide)]
    · exact waits
    · exact fun _ _ _ => rfl
    · exact fun _ _ _ => rfl
  · have stopped := t.stopFlash_pends q waits
    dsimp only
    split
    · exact stopped
    · exact (State.pends_of_outside (State.flushJournal_outside _ q 35329 (by decide)) (by decide) x).trans stopped

/-- What an abandoned handshake leaves of a warm reset's beginning. -/
theorem State.abandonHandshake_shows (s : State) (latch : Bool) :
    (s.abandonHandshake latch false).shake = none ∧ (s.abandonHandshake latch false).seq.warmDrain = s.seq.warmDrain ∧
      (s.abandonHandshake latch false).events = s.events := by
  unfold State.abandonHandshake
  split
  next open_ => exact ⟨open_, rfl, rfl⟩
  · exact ⟨rfl, rfl, rfl⟩

theorem State.warmResetEntered_shows (s : State) : s.warmResetEntered.seq.power = .warmReset ∧
    s.warmResetEntered.seq.warmDrain = true ∧ s.warmResetEntered.pends 0x4A3 = true ∧ s.warmResetEntered.shake = none := by
  unfold State.warmResetEntered
  generalize entered : ((s.event 0x4A3 1 Sev.note).setPower .warmReset).modSeq _ = x
  obtain ⟨none_, drain, events⟩ := x.abandonHandshake_shows true
  obtain ⟨power, -⟩ := x.abandonHandshake_seq true false
  rw [power, drain, State.pends_congr (congrArg Events.pending events), ← entered, State.modSeq_pends,
    State.pends_of_outside (State.setPower_outside _ _ 262145 (by decide)) (by decide), State.event_pends]
  exact ⟨(State.modSeq_same _ _).symm ▸ State.setPower_power _ _, rfl, rfl, entered ▸ none_⟩

theorem State.startWarmReset_shows (s : State) : s.startWarmReset.seq.power = .warmReset ∧
    s.startWarmReset.seq.warmDrain = true ∧ s.startWarmReset.pends 0x4A3 = true ∧ s.startWarmReset.shake = none := by
  obtain ⟨power, drain, waits, none_⟩ := s.warmResetEntered_shows
  have frame := s.warmResetEntered.warmResetDrains_outside
  rw [State.startWarmReset_eq, seq_of_outside frame (by decide), shake_of_outside frame (by decide)]
  exact ⟨power, drain, State.warmResetDrains_pends _ waits, none_⟩

theorem execMrNWarmReset_starts {s : State} (main : s.mainOff = false) (inactive : s.flag Reg.PERS_STATUS_SAVE_ACTIVE = false)
    (none_ : s.save.frame0 = none) (armed : s.flag Reg.SEQ_STATUS_ARMED = true) (run : s.seq.power = .run) :
    ∃ t, execMrNWarmReset s = .next t ∧ t.seq.power = .warmReset ∧ t.seq.warmDrain = true ∧ t.pends 0x4A3 = true ∧
      t.shake = none := by
  refine yields_occurs (by simp [main]) ?_
  have recognised : s.begin.mrRecognised = s.begin.startWarmReset := by
    simp [State.mrRecognised, inactive, none_, armed, run]
  rw [recognised]
  exact s.begin.startWarmReset_shows

theorem execMrNWarmReset_latches {s : State} (main : s.mainOff = false)
    (save : s.flag Reg.PERS_STATUS_SAVE_ACTIVE = true ∨ s.save.frame0.isSome = true) :
    execMrNWarmReset s = .next { s with out := [], seq := { s.seq with mrLatched := true } } := by
  have recognised : s.begin.mrRecognised = s.begin.modSeq fun x => { x with mrLatched := true } :=
    if_pos (Bool.or_eq_true_iff.mpr save)
  rw [execMrNWarmReset, occurs, main, Bool.not_false, if_pos rfl, recognised]
  rfl

/-! ## WARM_RESET_REBUILD (R175, R605) -/

theorem State.quad_of_outside {s t : State} {m : Nat} (h : t.outside m = s.outside m) (hm : m.testBit 9 = false) (k : Nat) :
    t.quad k = s.quad k := by
  unfold State.quad
  rw [quads_of_outside h hm]

theorem State.rd_judgeFilled (s : State) (q : Nat) {x : Nat} (h1 : x ≠ 0x030000) (h2 : x ≠ 0x030504) (h3 : x ≠ 0x024308)
    (h4 : x ≠ 0x020050) : (s.judgeFilled q).rd x = s.rd x := by
  unfold State.judgeFilled
  extract_lets bit old t u
  have filled : u.rd x = s.rd x := by
    show State.rd (if _ then _ else _) x = _
    split
    · exact (State.rd_put_other _ _ _ h2).trans (State.rd_put_other _ _ _ h2)
    · exact State.rd_put_other _ _ _ h2
  split
  · rw [State.rd_event _ _ _ _ h3 h4, State.rd_put_other _ _ _ h2, State.rd_putB_other _ _ _ h1, filled]
  · exact filled

/-- A quadrant's setting list, its sweep and the wear state that waits in its house region. -/
def State.rebuildMarks (s : State) (k : Nat) : List (Nat × Nat) × Nat × Option (Int × Nat × Nat) × Bool :=
  ((s.quad k).setting, (s.quad k).sweepPtr, (s.quad k).houseWear, s.flag (Reg.SKIM_Q_SWEEP k))

theorem State.rebuildMarks_of {s t : State} {k : Nat} (quad : t.quad k = s.quad k)
    (sweep : t.rd (0x030240 + 0x4 * k) = s.rd (0x030240 + 0x4 * k)) : t.rebuildMarks k = s.rebuildMarks k := by
  unfold State.rebuildMarks
  rw [quad, State.flag_of_rd (f := Reg.SKIM_Q_SWEEP k) sweep]

theorem State.modQuad_rebuildMarks_other (s : State) {q k : Nat} (f : Quad → Quad) (apart : k ≠ q) :
    (s.modQuad q f).rebuildMarks k = s.rebuildMarks k := State.rebuildMarks_of (State.modQuad_other _ _ _ apart) rfl

theorem State.modQuad_rebuildMarks (s : State) (q k : Nat) {f : Quad → Quad}
    (keeps : ∀ d, ((f d).setting, (f d).sweepPtr, (f d).houseWear) = (d.setting, d.sweepPtr, d.houseWear)) :
    (s.modQuad q f).rebuildMarks k = s.rebuildMarks k := by
  by_cases same : k = q
  · obtain ⟨setting, ptr, wear⟩ : (f (s.quad q)).setting = (s.quad q).setting ∧ (f (s.quad q)).sweepPtr = (s.quad q).sweepPtr ∧
        (f (s.quad q)).houseWear = (s.quad q).houseWear := by simpa only [Prod.mk.injEq] using keeps (s.quad q)
    unfold State.rebuildMarks
    rw [same, State.modQuad_same, setting, ptr, wear, State.modQuad_flag]
  · exact s.modQuad_rebuildMarks_other f same

theorem State.put_rebuildMarks (s : State) {f : Fld} (v : Nat) {k : Nat} (other : 0x030240 + 0x4 * k ≠ f.off) :
    (s.put f v).rebuildMarks k = s.rebuildMarks k := State.rebuildMarks_of rfl (State.rd_put_other _ _ _ other)

theorem State.event_rebuildMarks (s : State) {q k : Nat} (kind sev : Nat) (hq : q < 4) (hk : k < 4) :
    (s.event (srcPers q 0) kind sev).rebuildMarks k = s.rebuildMarks k :=
  State.rebuildMarks_of (State.event_quad _ _ _ _ _) (State.rd_event _ _ _ _ (by unfold srcPers; omega) (by omega))

theorem State.wearAllowance_rebuildMarks (s : State) {q k : Nat} (hq : q < 4) (hk : k < 4) :
    (s.wearAllowance q).rebuildMarks k = s.rebuildMarks k := by
  unfold State.wearAllowance
  extract_lets days tEnd left remaining life a worn past was t u v w
  have noted : t.rebuildMarks k = s.rebuildMarks k := by
    have put : (s.putSat (Reg.WEAR_ALLOW_VALUE q) a).rebuildMarks k = s.rebuildMarks k :=
      State.put_rebuildMarks _ _ (by show _ ≠ 0x030340 + 0x4 * q; omega)
    refine (State.modQuad_rebuildMarks _ q k fun _ => ?_).trans put
    rfl
  have shown : v.rebuildMarks k = s.rebuildMarks k :=
    ((State.put_rebuildMarks _ _ (by show _ ≠ 0x03030C; omega)).trans
      (State.put_rebuildMarks _ _ (by show _ ≠ 0x03030C; omega))).trans noted
  have worn : w.rebuildMarks k = s.rebuildMarks k := by
    show State.rebuildMarks (if _ then _ else _) k = _
    split
    · rw [State.event_rebuildMarks _ _ _ hq hk, shown]
    · exact shown
  split
  · rw [State.event_rebuildMarks _ _ _ hq hk, worn]
  · exact worn

/-- The registers that the house region's wear state goes to are no quadrant's sweep. -/
theorem State.wearShown_rebuildMarks (s : State) {q k : Nat} (p a : Nat) (hq : q < 4) (hk : k < 4) :
    (((s.put64 (0x030360 + 8 * q) (0x030364 + 8 * q) p).putSat (Reg.WEAR_ALLOW_VALUE q) a).showAccount q).rebuildMarks k =
      s.rebuildMarks k := by
  unfold State.showAccount State.putSat
  rw [State.put_rebuildMarks _ _ (by show _ ≠ 0x030350 + 0x4 * q; omega),
    State.put_rebuildMarks _ _ (by show _ ≠ 0x030340 + 0x4 * q; omega)]
  exact State.rebuildMarks_of rfl (State.rd_put64_other _ _ (by omega) (by omega))

theorem State.reloadWear_rebuildMarks_same (s : State) {q : Nat} (hq : q < 4) :
    (s.reloadWear q).rebuildMarks q = ((s.quad q).setting, (s.quad q).sweepPtr, none, s.flag (Reg.SKIM_Q_SWEEP q)) := by
  unfold State.reloadWear
  split
  next empty =>
    unfold State.rebuildMarks
    rw [empty]
  · dsimp only
    rw [State.wearShown_rebuildMarks _ _ _ hq hq]
    unfold State.rebuildMarks
    rw [State.modQuad_same, State.modQuad_flag]

theorem State.reloadWear_rebuildMarks_other (s : State) {q k : Nat} (hq : q < 4) (hk : k < 4) (apart : k ≠ q) :
    (s.reloadWear q).rebuildMarks k = s.rebuildMarks k := by
  unfold State.reloadWear
  split
  · rfl
  · dsimp only
    rw [State.wearShown_rebuildMarks _ _ _ hq hk, State.modQuad_rebuildMarks_other _ _ apart]

theorem State.judgeFilled_rebuildMarks (s : State) (q : Nat) {k : Nat} (hk : k < 4) :
    (s.judgeFilled q).rebuildMarks k = s.rebuildMarks k :=
  State.rebuildMarks_of (State.quad_of_outside (State.judgeFilled_outside s q 17 (by decide)) (by decide) k)
    (State.rd_judgeFilled _ _ (by omega) (by omega) (by omega) (by omega))

theorem State.rebuildMaps_rebuildMarks_same (s : State) {q : Nat} (hq : q < 4) :
    ∃ w, (s.rebuildMaps q).rebuildMarks q = ([], 0, w, true) := by
  unfold State.rebuildMaps
  dsimp only
  rw [State.judgeFilled_rebuildMarks _ _ hq]
  unfold State.rebuildMarks
  rw [State.flag_putB_same _ _ _ (by show 15 + 1 ≤ 32; omega) rfl, State.putB_quad, State.modQuad_same]
  exact ⟨_, rfl⟩

theorem State.rebuildMaps_rebuildMarks_other (s : State) {q k : Nat} (hk : k < 4) (apart : k ≠ q) :
    (s.rebuildMaps q).rebuildMarks k = s.rebuildMarks k := by
  unfold State.rebuildMaps
  dsimp only
  rw [State.judgeFilled_rebuildMarks _ _ hk, State.putB, State.put_rebuildMarks _ _ (by show _ ≠ 0x030240 + 0x4 * q; omega),
    State.modQuad_rebuildMarks_other _ _ apart]
  refine State.each_proj (State.rebuildMarks · k) (fun _ _ _ => ?_) s
  rfl

/-- A quadrant's rebuild empties its lists and takes its wear state back. -/
theorem State.rebuildQuad_rebuildMarks_same (s : State) {q : Nat} (hq : q < 4) :
    (s.rebuildQuad q).rebuildMarks q = ([], 0, none, true) := by
  obtain ⟨w, maps⟩ := s.rebuildMaps_rebuildMarks_same hq
  simp only [State.rebuildMarks, Prod.mk.injEq] at maps
  obtain ⟨setting, ptr, -, sweep⟩ := maps
  unfold State.rebuildQuad
  rw [State.wearAllowance_rebuildMarks _ hq hq, State.reloadWear_rebuildMarks_same _ hq, setting, ptr, sweep]

theorem State.rebuildQuad_rebuildMarks_other (s : State) {q k : Nat} (hq : q < 4) (hk : k < 4) (apart : k ≠ q) :
    (s.rebuildQuad q).rebuildMarks k = s.rebuildMarks k := by
  unfold State.rebuildQuad
  rw [State.wearAllowance_rebuildMarks _ hq hk, State.reloadWear_rebuildMarks_other _ hq hk apart,
    State.rebuildMaps_rebuildMarks_other _ hk apart]

theorem State.rebuildAll_rebuildMarks (s : State) {k : Nat} (hk : k < 4) :
    (s.each (List.range 4) fun s q => s.rebuildQuad q).rebuildMarks k = ([], 0, none, true) := by
  obtain ⟨before, after, split⟩ := List.append_of_mem (List.mem_range.mpr hk)
  have once : (before ++ k :: after).Nodup := split ▸ List.nodup_range
  have late : k ∉ after := (List.nodup_cons.mp once.of_append_right).1
  have small : ∀ q ∈ after, q < 4 := fun q mem => List.mem_range.mp (by rw [split]; simp [mem])
  rw [split, State.each, List.foldl_append, List.foldl_cons]
  refine (State.each_proj (State.rebuildMarks · k) (fun t q mem => ?_) _).trans (State.rebuildQuad_rebuildMarks_same _ hk)
  exact State.rebuildQuad_rebuildMarks_other _ (small q mem) hk fun same => late (same ▸ mem)

theorem execWarmResetRebuild_rebuilds {s : State} (reset : s.seq.power = .warmReset) (drained : s.seq.warmDrain = false)
    (isSealed : s.isSealed = true) (unloaded : s.image.loaded = false) (none_ : s.seq.recoveryDue = none) :
    ∃ t, execWarmResetRebuild s = .next t ∧ t.image.loaded = true ∧ ∀ q : QuadIx, (t.quad q).setting = [] ∧
      (t.quad q).sweepPtr = 0 ∧ (t.quad q).houseWear = none ∧ t.flag (Reg.SKIM_Q_SWEEP q) = true := by
  refine yields_occurs (by simp [reset, drained, isSealed, unloaded, none_]) ⟨rfl, fun q => ?_⟩
  have rebuilt := s.begin.rebuildAll_rebuildMarks q.isLt
  simp only [State.rebuildMarks, Prod.mk.injEq] at rebuilt
  rw [State.modImage_quad, State.modImage_flag]
  exact rebuilt

/-! ## POWER_UP (R441) -/

theorem execPowerUp_schedules {stagger : Nat} {s : State} (member : s.isMember = true) (none_ : s.group.powerUpAt = none) :
    execPowerUp stagger s = .next { s with out := [], group := { s.group with
      powerUpAt := some (s.now + ms (s.position * (stagger % 65536))) } } := by
  rw [execPowerUp, occurs, member, none_]
  rfl

/-- Settles O39, each command by the state that its lemma above describes. -/
theorem theClusterSignalsFailsAndRecovers : Obligations.TheClusterSignalsFailsAndRecovers := by
  unfold Obligations.TheClusterSignalsFailsAndRecovers
  refine ⟨?_, ?_, ?_, ?_, ?_, ?_, ?_⟩
  · exact fun p s served open_ running fresh normal => execUpdBootOk_signals served open_ running fresh normal
  · exact fun s running fresh normal main late => execBootTimeout_counts running fresh normal main late
  · exact fun c s main due => execRecoveryEntered_shows main due
  · exact fun s main inactive none_ armed run => execMrNWarmReset_starts main inactive none_ armed run
  · exact fun s main save => execMrNWarmReset_latches main save
  · exact fun s reset drained isSealed unloaded none_ => execWarmResetRebuild_rebuilds reset drained isSealed unloaded none_
  · exact fun stagger s member none_ => execPowerUp_schedules member none_

end Sys2Proof.Machine

/-!
PROOF. One statement that fails (10_flash_media R287, R288, R306): the confirm of a program whose encoding shows a fault of the
quadrant's last LDPC engine retires the die, and the retirement empties its queue.
-/

namespace Sys2Proof.Machine

theorem flashProgramConfirm_next {n : DieIx} {e : EngineCheck} {s t : State}
    (loaded : (s.dieUp n && s.flashOn n && (s.die n).queue.any fun o => decide (o.load ≠ 0)) = true)
    (step : exec (.flashProgramConfirm n e) s = .next t) : t = (s.begin.confirm n e).flashGo (n.val / 32) :=
  next_of_occurs (f := fun a => (a.confirm n e).flashGo (n.val / 32)) loaded step

/-- A record copy whose data is loaded. -/
def loadedCopy : DieOp := { wOp (.record ⟨wRec, 0, true⟩) with load := 2 }

/-- The running device with quadrant 0 left with one LDPC engine, that of channel 0: the other three and the spare are retired.
An erase stands behind the loaded copy in the queue of die 0. -/
def lastEngineState : State :=
  { [1, 2, 3, 4].foldl (fun s g => s.put (Reg.LDPC_STATUS_STATE g) 3) (wRun.put (Reg.DIE_STATUS_STATE 0) 2) with
    dies := [(0, { queue := [loadedCopy, wOp (.erase 3)] })] }

theorem lastEngineState_confirmable : (lastEngineState.loadEnds 0).confirmable 0 = some loadedCopy := by decide +kernel

/-- The fault retires channel 0's engine, no other engine can take the channel, and so its dies are retired (R288): die 0 drops its
erase, which goes back to its issuer (R306). -/
theorem lastEngineState_fault_empties_queue :
    (((lastEngineState.begin.confirm 0 .fault).flashGo 0).die 0).queue = [] := by decide +kernel

theorem lastEngineState_queue_behind_copy :
    ((lastEngineState.loadEnds 0).die 0).queue.erase loadedCopy = [wOp (.erase 3)] := by decide +kernel

/-- Refutes O40: FLASH_PROGRAM_CONFIRM does not always leave the rest of the die's queue. A fault of the last engine that can serve
the channel retires its dies (R287, R288), and a retired die fails every queued request (R306). -/
theorem not_flashDiesWorkTheirQueues : ¬ Obligations.FlashDiesWorkTheirQueues := by
  unfold Obligations.FlashDiesWorkTheirQueues
  rintro ⟨-, -, confirm, -⟩
  obtain ⟨t, step, -, rest⟩ := confirm 0 .fault lastEngineState loadedCopy ⟨wRec, 0, true⟩ (by decide +kernel) (by decide +kernel)
    (by decide +kernel) rfl lastEngineState_confirmable rfl rfl rfl rfl rfl
  rw [flashProgramConfirm_next (by decide +kernel) step] at rest
  have left : [] = [wOp (.erase 3)] :=
    lastEngineState_fault_empties_queue.symm.trans (rest.trans lastEngineState_queue_behind_copy)
  exact List.cons_ne_nil _ _ left.symm

end Sys2Proof.Machine

/-!
PROOF. A sub-channel's operating point (08_dram_scheduling R215, R241 to R244): what the start of a change leaves, and what its lock,
its switch and its end leave.
-/

namespace Sys2Proof.Machine

/-! ## Fields of SC_STATUS -/

theorem SC_STATUS_OP_apart (n : Nat) :
    (Reg.SC_STATUS_OP n).apart (Reg.SC_STATUS_STATE n) = true ∧ (Reg.SC_STATUS_OP n).apart (Reg.SC_STATUS_SR_RANKS n) = true := by
  simp [Fld.apart, Reg.SC_STATUS_OP, Reg.SC_STATUS_STATE, Reg.SC_STATUS_SR_RANKS]

theorem SC_STATUS_STATE_apart (n : Nat) : (Reg.SC_STATUS_STATE n).apart (Reg.SC_STATUS_SR_RANKS n) = true := by
  simp [Fld.apart, Reg.SC_STATUS_STATE, Reg.SC_STATUS_SR_RANKS]

theorem SC_STATUS_TARGET_apart (n : Nat) : (Reg.SC_STATUS_TARGET n).apart (Reg.SC_STATUS_STATE n) = true ∧
    (Reg.SC_STATUS_TARGET n).apart (Reg.SC_STATUS_SR_RANKS n) = true := by
  simp [Fld.apart, Reg.SC_STATUS_TARGET, Reg.SC_STATUS_STATE, Reg.SC_STATUS_SR_RANKS]

/-- A small value written to STATE reads back. -/
theorem State.get_put_state (s : State) (n : Nat) {v : Nat} (h : v < 8) :
    (s.put (Reg.SC_STATUS_STATE n) v).get (Reg.SC_STATUS_STATE n) = v :=
  (State.get_put_same s _ v (by simp [Reg.SC_STATUS_STATE])).trans (Nat.mod_eq_of_lt h)

/-! ## A change starts (R241 to R243, R256) -/

/-- A discarded tracking pass is gone; nothing else of the sub-channel changes but when the next pass is due. -/
theorem State.discardPass_sc (s : State) (n : Nat) :
    ∃ due, (s.discardPass n).sc n = { s.sc n with pass := none, passDue := due } := by
  unfold State.discardPass
  split
  next gone =>
    refine ⟨(s.sc n).passDue, ?_⟩
    rw [← Option.isNone_iff_eq_none.mp gone]
  · exact ⟨s.sf, (State.bump_sc _ _ _ _).trans (State.modSc_same _ _ _)⟩

/-- The banks close, and the entry into self-refresh shows STATE 2. -/
theorem State.beginEntry_sc (s : State) (n : Nat) : (s.beginEntry n).sc n = { s.sc n with banks := [] } := by
  unfold State.beginEntry
  rw [State.put_sc, State.each_proj (State.sc · n)]
  · exact State.modSc_same _ _ _
  · exact fun _ _ _ => rfl

theorem State.beginEntry_state (s : State) (n : Nat) : (s.beginEntry n).get (Reg.SC_STATUS_STATE n) = 2 := by
  unfold State.beginEntry
  exact State.get_put_state _ n (by decide)

theorem State.beginEntry_target (s : State) (n : Nat) :
    (s.beginEntry n).get (Reg.SC_STATUS_TARGET n) = s.get (Reg.SC_STATUS_TARGET n) := by
  obtain ⟨state, ranks⟩ := SC_STATUS_TARGET_apart n
  unfold State.beginEntry
  rw [State.get_put_other _ _ _ _ (by simp [Reg.SC_STATUS_STATE]) state, State.each_proj (State.get · (Reg.SC_STATUS_TARGET n))]
  · rfl
  · exact fun s r _ => State.get_put_other _ _ _ _ (by simp [Reg.SC_STATUS_SR_RANKS]) ranks

/-- What the start of a change to an operating point leaves of a sub-channel: STATE 2 where the standby generator already is locked
at it, else STATE 1; the target shown; no tracking pass; and the parts that no change touches. -/
structure Sc.ChangeStarted (x : Sc) (n target : Nat) (t : State) : Prop where
  state : t.get (Reg.SC_STATUS_STATE n) = if x.standbyOp = target ∧ x.locked = true then 2 else 1
  target : t.get (Reg.SC_STATUS_TARGET n) = target
  pass : (t.sc n).pass = none
  ready : (t.sc n).ready = x.ready
  want : (t.sc n).want = x.want
  entries : (t.sc n).entries = x.entries

theorem State.relock_starts (s : State) {n target : Nat} (h : target < 4) :
    (s.sc n).ChangeStarted n target ((s.discardPass n).relock n target) := by
  obtain ⟨due, discarded⟩ := s.discardPass_sc n
  unfold State.relock
  dsimp only
  generalize aim : (s.discardPass n).put (Reg.SC_STATUS_TARGET n) target = a
  have aimed : a.get (Reg.SC_STATUS_TARGET n) = target := by
    rw [← aim, State.get_put_same _ _ _ (by simp [Reg.SC_STATUS_TARGET])]
    exact Nat.mod_eq_of_lt h
  have parts : a.sc n = { s.sc n with pass := none, passDue := due } := by rw [← aim, State.put_sc, discarded]
  rw [parts]
  by_cases there : (s.sc n).standbyOp = target ∧ (s.sc n).locked = true
  · have entered := a.beginEntry_sc n
    rw [parts] at entered
    rw [if_pos there]
    exact {
      state := (State.beginEntry_state _ n).trans (if_pos there).symm
      target := (State.beginEntry_target _ n).trans aimed
      pass := by rw [entered]
      ready := by rw [entered]
      want := by rw [entered]
      entries := by rw [entered]; rfl }
  · have locking := State.modSc_same (a.put (Reg.SC_STATUS_STATE n) 1) n fun x => { x with standbyOp := target, locked := false }
    rw [State.put_sc, parts] at locking
    rw [if_neg there]
    exact {
      state := by rw [State.modSc_get, State.get_put_state _ _ (by decide), if_neg there]
      target := by
        rw [State.modSc_get, State.get_put_other _ _ _ _ (by simp [Reg.SC_STATUS_STATE]) (SC_STATUS_TARGET_apart n).1, aimed]
      pass := by rw [locking]
      ready := by rw [locking]
      want := by rw [locking]
      entries := by rw [locking]; rfl }

section

variable {n : ScIx} {s : State}

theorem execIdleOpEnter_starts (enabled : s.flag (Reg.SC_IDLE_EN n) = true) (state : s.get (Reg.SC_STATUS_STATE n) = 0)
    (op : s.get (Reg.SC_STATUS_OP n) = s.runOp n) (low : max 1 (s.get (Reg.SC_IDLE_SF n)) ≤ (s.sc n).idleSf)
    (empty : (s.sc n).entries = []) (save : s.flag Reg.PERS_STATUS_SAVE_ACTIVE = false) (run : s.seq.power = .run)
    (track : s.trackRuns n = false) :
    ∃ t, execIdleOpEnter n s = .next t ∧ (s.sc n).ChangeStarted n (2 + s.get (Reg.SC_IDLE_OP n)) t := by
  have small : s.get (Reg.SC_IDLE_OP n) < 2 := Nat.mod_lt _ (Nat.two_pow_pos 1)
  unfold execIdleOpEnter
  refine yields_occurs ?_ ?_
  · simp [enabled, state, op, Nat.max_le.mp low, empty, save, run, track]
  · exact State.relock_starts s.begin (Nat.add_lt_add_left small 2)

theorem execIdleOpExit_starts (asked : (s.sc n).entries ≠ []) (save : s.flag Reg.PERS_STATUS_SAVE_ACTIVE = false)
    (state : s.get (Reg.SC_STATUS_STATE n) = 0) (op : 2 ≤ s.get (Reg.SC_STATUS_OP n)) (track : s.trackRuns n = false) :
    ∃ t, execIdleOpExit n s = .next t ∧ (s.sc n).ChangeStarted n (s.runOp n) t := by
  have small : s.runOp n ≤ 1 := Nat.min_le_left _ _
  unfold execIdleOpExit
  refine yields_occurs (by simp [asked, save, track]) ?_
  dsimp only
  rw [State.begin_get, state, if_neg (by omega), if_pos ⟨rfl, op⟩]
  exact State.relock_starts s.begin (lt_of_le_of_lt small (by decide))

/-- OP_CHANGE_START takes the sub-channel's wish and starts the change. -/
theorem execOpChangeStart_starts {op : Nat} (want : s.wantedOp n = some op) (small : op < 4)
    (state : s.get (Reg.SC_STATUS_STATE n) = 0) (other : s.get (Reg.SC_STATUS_OP n) ≠ op)
    (free : (if s.flag Reg.PERS_STATUS_SAVE_ACTIVE then (s.sc n).locked else !s.trackRuns n) = true) :
    ∃ t, execOpChangeStart n s = .next t ∧ ({ s.sc n with want := none } : Sc).ChangeStarted n op t := by
  unfold execOpChangeStart
  rw [want]
  refine yields_occurs (by simp [state, free]) ?_
  dsimp only
  rw [State.modSc_get, State.begin_get, if_neg other]
  have started := State.relock_starts (n := n) (s.begin.modSc n fun x => { x with want := none }) small
  rwa [State.modSc_same] at started

/-! ## The lock, the switch and the end (R215, R241, R242) -/

theorem execStandbyGeneratorLocked_enters (state : s.get (Reg.SC_STATUS_STATE n) = 1) :
    ∃ t, execStandbyGeneratorLocked n s = .next t ∧ t.get (Reg.SC_STATUS_STATE n) = 2 ∧ (t.sc n).locked = true ∧
      (t.sc n).banks = [] := by
  refine ⟨_, congrArg Host.Outcome.next (if_pos state), State.beginEntry_state _ n, ?_⟩
  rw [State.beginEntry_sc, State.modSc_same]
  exact ⟨rfl, rfl⟩

theorem execOpChangeSwitch_switches (state : s.get (Reg.SC_STATUS_STATE n) = 2) :
    ∃ t, execOpChangeSwitch n s = .next t ∧ t.get (Reg.SC_STATUS_STATE n) = 4 ∧
      t.get (Reg.SC_STATUS_OP n) = s.get (Reg.SC_STATUS_TARGET n) ∧ (t.sc n).standbyOp = s.get (Reg.SC_STATUS_OP n) := by
  have small : s.get (Reg.SC_STATUS_TARGET n) < 4 := Nat.mod_lt _ (Nat.two_pow_pos 2)
  unfold execOpChangeSwitch
  refine yields_occurs (by simp [state]) ?_
  dsimp only
  refine ⟨?_, ?_, ?_⟩
  · rw [State.each_proj (State.get · (Reg.SC_STATUS_STATE n)), State.modSc_get]
    · exact State.get_put_state _ n (by decide)
    · exact fun _ _ _ => rfl
  · rw [State.each_proj (State.get · (Reg.SC_STATUS_OP n)), State.modSc_get,
      State.get_put_other _ _ _ _ (by simp [Reg.SC_STATUS_STATE]) (SC_STATUS_OP_apart n).1]
    · exact (State.get_put_same _ _ _ (by simp [Reg.SC_STATUS_OP])).trans (Nat.mod_eq_of_lt small)
    · exact fun _ _ _ => rfl
  · rw [State.each_proj (State.sc · n), State.modSc_same]
    · rfl
    · exact fun _ _ _ => rfl

/-- The relock of a released generator touches only the wish and the standby generator. -/
theorem Sc.standbyAt2_keeps (op : Nat) (x : Sc) : (x.standbyAt2 op).refDebt = x.refDebt ∧ (x.standbyAt2 op).passDue = x.passDue ∧
    (x.standbyAt2 op).idleSf = x.idleSf := by
  unfold Sc.standbyAt2
  split <;> exact ⟨rfl, rfl, rfl⟩

theorem execOpChangeDone_runs (state : s.get (Reg.SC_STATUS_STATE n) = 4) :
    ∃ t, execOpChangeDone n s = .next t ∧ t.get (Reg.SC_STATUS_STATE n) = 0 ∧ t.get (Reg.SC_STATUS_SR_RANKS n) = 0 ∧
      (t.sc n).refDebt = [] ∧ (t.sc n).passDue = s.sf ∧ (t.sc n).idleSf = 0 := by
  unfold execOpChangeDone
  refine yields_occurs (by simp [state]) ?_
  dsimp only
  refine ⟨?_, ?_, ?_⟩
  · rw [State.modSc_get, State.get_put_other _ _ _ _ (by simp [Reg.SC_STATUS_SR_RANKS]) (SC_STATUS_STATE_apart n)]
    exact State.get_put_state _ n (by decide)
  · rw [State.modSc_get]
    exact State.get_put_same _ _ _ (by simp [Reg.SC_STATUS_SR_RANKS])
  · rw [State.modSc_same]
    exact Sc.standbyAt2_keeps _ _

end

/-- Settles O26, each command by its lemma above. -/
theorem subChannelsChangeOperatingPoint : Obligations.SubChannelsChangeOperatingPoint := by
  unfold Obligations.SubChannelsChangeOperatingPoint
  refine ⟨?_, ?_, ?_, ?_, ?_, ?_⟩
  · intro n s enabled state op low empty save run track
    obtain ⟨t, step, started⟩ := execIdleOpEnter_starts enabled state op low empty save run track
    exact ⟨t, step, started.state, started.target, started.pass, started.ready⟩
  · intro n s asked save state op track
    obtain ⟨t, step, started⟩ := execIdleOpExit_starts asked save state op track
    exact ⟨t, step, started.state, started.target, started.entries⟩
  · intro n s op want small state other free
    obtain ⟨t, step, started⟩ := execOpChangeStart_starts want small state other free
    exact ⟨t, step, started.state, started.target, started.want, started.pass⟩
  · exact fun n s state => execStandbyGeneratorLocked_enters state
  · exact fun n s state => execOpChangeSwitch_switches state
  · exact fun n s state => execOpChangeDone_runs state

end Sys2Proof.Machine

/-!
PROOF. A sub-channel's upkeep (08_dram_scheduling R214, R237, R238, R246; 09_dram_training_ecc_sparing R263, R264; R575): what a
temperature poll, an idle rank, a write CRC alert, a scrub read and a parity alert leave.
-/

namespace Sys2Proof.Machine

/-! ## Bits of a rank mask -/

/-- A mask with one bit given a value, as the model sets the bits of SR_RANKS, HOT and OVERTEMP. -/
def bitSet (v r : Nat) (b : Bool) : Nat := if b then v ||| 2 ^ r else v - (v &&& 2 ^ r)

/-- Taking a bit of a number away clears that bit and no other. -/
theorem testBit_sub_and_two_pow (v r j : Nat) : (v - (v &&& 2 ^ r)).testBit j = if j = r then false else v.testBit j := by
  have below : v % 2 ^ r < 2 ^ r := Nat.mod_lt _ (Nat.two_pow_pos r)
  have whole : v = 2 ^ r * (v / 2 ^ r) + v % 2 ^ r := (Nat.div_add_mod _ _).symm
  have cleared : v - (v &&& 2 ^ r) = 2 ^ r * (2 * (v / 2 ^ r / 2)) + v % 2 ^ r := by
    have halves : 2 ^ r * (v / 2 ^ r) = 2 ^ r * (2 * (v / 2 ^ r / 2)) + v / 2 ^ r % 2 * 2 ^ r := by
      rw [Nat.mul_comm (v / 2 ^ r % 2), ← Nat.mul_add, Nat.div_add_mod]
    rw [Nat.and_two_pow, Nat.toNat_testBit]
    omega
  rw [cleared]
  conv_rhs => rw [whole]
  rw [Nat.testBit_two_pow_mul_add _ below, Nat.testBit_two_pow_mul_add _ below]
  rcases lt_trichotomy j r with lt | rfl | gt
  · simp [lt, lt.ne]
  · simp
  · obtain ⟨k, rfl⟩ : ∃ k, j = r + k + 1 := ⟨j - r - 1, by omega⟩
    have away : r + k + 1 - r = k + 1 := by omega
    rw [if_neg (by omega), if_neg (by omega), if_neg (by omega), away, Nat.testBit_succ, Nat.testBit_succ,
      Nat.mul_div_cancel_left _ (by decide)]

theorem testBit_bitSet (v r j : Nat) (b : Bool) : (bitSet v r b).testBit j = if j = r then b else v.testBit j := by
  unfold bitSet
  cases b
  · exact testBit_sub_and_two_pow v r j
  · rw [if_pos rfl, Nat.testBit_or, Nat.testBit_two_pow]
    by_cases h : j = r
    · simp [h]
    · simp [h, Ne.symm h]

/-- What each member of a list sets for itself, and no other member disturbs, holds of it after the whole list. -/
theorem State.each_sets {α : Type} [DecidableEq α] {l : List α} {f : State → α → State} {P : α → State → Prop}
    (sets : ∀ s, ∀ a ∈ l, P a (f s a)) (keeps : ∀ s, ∀ a ∈ l, ∀ b, b ≠ a → P b s → P b (f s a)) (s : State) {a : α} (ha : a ∈ l) :
    P a (s.each l f) := by
  induction l generalizing s with
  | nil => exact absurd ha List.not_mem_nil
  | cons b l ih =>
    show P a ((f s b).each l f)
    by_cases later : a ∈ l
    · exact ih (fun s c hc => sets s c (List.mem_cons_of_mem b hc)) (fun s c hc => keeps s c (List.mem_cons_of_mem b hc)) _ later
    · obtain rfl : a = b := (List.mem_cons.mp ha).resolve_right later
      exact State.each_preserves (P := P a) (sets s a ha) fun t c hc held =>
        keeps t c (List.mem_cons_of_mem a hc) a (fun e => later (e ▸ hc)) held

/-! ## Registers of a sub-channel and the event counters -/

theorem scBase_ge (n : Nat) : 0x210000 ≤ scBase n := by
  unfold scBase qdBase
  omega

/-- A message changes no register of the quadrants: EVT_COUNT of every source lies below them. -/
theorem State.rd_event_high (s : State) {src : Nat} (kind sev : Nat) {x : Nat} (low : src < 0x500) (high : 0x200000 ≤ x) :
    (s.event src kind sev).rd x = s.rd x := State.rd_event _ _ _ _ (by omega) (by omega)

theorem srcSc_lt {n off : Nat} (hn : n < 16) (hoff : off < 24) : srcSc n off < 0x500 := by
  unfold srcSc
  omega

/-! ## MR4_POLL (R237, R238) -/

/-- What the poll does for one rank: HOT and OVERTEMP take its bit, and a rank newly above its rating raises a message. -/
def State.rankPolled (n : Nat) (temps : List Nat) (s : State) (r : Nat) : State :=
  let t := temps.getD r 0
  let was := (BitVec.ofNat 8 (s.get (Reg.SC_REF_STATUS_OVERTEMP n))).getLsbD r
  let s := s.put (Reg.SC_REF_STATUS_HOT n) (bitSet (s.get (Reg.SC_REF_STATUS_HOT n)) r (decide (1 ≤ t)))
  let s := s.put (Reg.SC_REF_STATUS_OVERTEMP n) (bitSet (s.get (Reg.SC_REF_STATUS_OVERTEMP n)) r (decide (2 ≤ t)))
  if 2 ≤ t ∧ ¬ was then s.event (srcSc n (8 + r)) 8 Sev.degraded else s

theorem execMr4Poll_eq (n : ScIx) (temps : List Nat) (s : State) : execMr4Poll n temps s =
    occurs (decide (s.get (Reg.SC_STATUS_STATE n) < 2) && decide ((s.sc n).mr4Sf ≠ some s.sf)) s fun s =>
      (s.modSc n fun x => { x with mr4Sf := some s.sf }).each (s.presentRanks n) (State.rankPolled n temps) := rfl

/-- HOT and OVERTEMP after one rank's poll: its own bits are set, the others stay. -/
theorem State.rankPolled_bits (s : State) {n r : Nat} (temps : List Nat) (hn : n < 16) (hr : r < 8) (j : Nat) (hj : j < 8) :
    ((s.rankPolled n temps r).get (Reg.SC_REF_STATUS_HOT n)).testBit j =
      (if j = r then decide (1 ≤ temps.getD r 0) else (s.get (Reg.SC_REF_STATUS_HOT n)).testBit j) ∧
    ((s.rankPolled n temps r).get (Reg.SC_REF_STATUS_OVERTEMP n)).testBit j =
      (if j = r then decide (2 ≤ temps.getD r 0) else (s.get (Reg.SC_REF_STATUS_OVERTEMP n)).testBit j) := by
  have hot_apart : (Reg.SC_REF_STATUS_HOT n).apart (Reg.SC_REF_STATUS_OVERTEMP n) = true := by
    simp [Fld.apart, Reg.SC_REF_STATUS_HOT, Reg.SC_REF_STATUS_OVERTEMP]
  have over_apart : (Reg.SC_REF_STATUS_OVERTEMP n).apart (Reg.SC_REF_STATUS_HOT n) = true := by
    simp [Fld.apart, Reg.SC_REF_STATUS_HOT, Reg.SC_REF_STATUS_OVERTEMP]
  have quiet : ∀ (c : Prop) [Decidable c] (t : State) (f : Fld), 0x200000 ≤ f.off →
      (if c then t.event (srcSc n (8 + r)) 8 Sev.degraded else t).get f = t.get f := fun c _ t f high => by
    split
    · exact State.get_of_rd (State.rd_event_high _ _ _ (srcSc_lt hn (by omega)) high)
    · rfl
  have high : 0x200000 ≤ scBase n + 0x18 := by have := scBase_ge n; omega
  unfold State.rankPolled
  dsimp only
  rw [quiet _ _ _ high, quiet _ _ _ high, State.get_put_other _ _ _ _ (by simp [Reg.SC_REF_STATUS_OVERTEMP]) hot_apart,
    State.get_put_same _ _ _ (by simp [Reg.SC_REF_STATUS_HOT]), State.get_put_same _ _ _ (by simp [Reg.SC_REF_STATUS_OVERTEMP]),
    State.get_put_other _ _ _ _ (by simp [Reg.SC_REF_STATUS_HOT]) over_apart, Nat.testBit_mod_two_pow, Nat.testBit_mod_two_pow,
    testBit_bitSet, testBit_bitSet]
  simp [Reg.SC_REF_STATUS_HOT, Reg.SC_REF_STATUS_OVERTEMP, hj]

/-- The poll's bits of a rank. -/
def State.PollShown (n : Nat) (temps : List Nat) (r : Nat) (t : State) : Prop :=
  r < 8 → (t.get (Reg.SC_REF_STATUS_HOT n)).testBit r = decide (1 ≤ temps.getD r 0) ∧
    (t.get (Reg.SC_REF_STATUS_OVERTEMP n)).testBit r = decide (2 ≤ temps.getD r 0)

theorem mr4Poll_shows {n : ScIx} {s : State} (temps : List Nat) (run : s.get (Reg.SC_STATUS_STATE n) < 2)
    (first : (s.sc n).mr4Sf ≠ some s.sf) : ∃ t, execMr4Poll n temps s = .next t ∧
      ∀ r : Fin 8, s.flag (Reg.SC_RANK_PRESENT n r) = true → State.PollShown n temps r t := by
  rw [execMr4Poll_eq]
  refine yields_occurs (by simp [run, first]) fun r present => ?_
  have small : ∀ a ∈ s.begin.presentRanks n, a < 8 := fun a ha => List.mem_range.mp (List.mem_filter.mp ha).1
  refine State.each_sets ?_ ?_ _ (List.mem_filter.mpr ⟨List.mem_range.mpr r.isLt, present⟩)
  · intro t a ha ha8
    simpa using t.rankPolled_bits temps n.isLt ha8 a ha8
  · intro t a ha b hb shown hb8
    have bits := t.rankPolled_bits temps n.isLt (small a ha) b hb8
    rw [if_neg hb, if_neg hb] at bits
    exact ⟨bits.1.trans (shown hb8).1, bits.2.trans (shown hb8).2⟩

/-! ## RANK_IDLE_SELF_REFRESH (R214, R246) -/

theorem State.inSelfRefresh_putSr (s : State) (n : Nat) {r : Nat} (b : Bool) (hr : r < 8) :
    (s.putSr n r b).inSelfRefresh n r = b := by
  have set : s.putSr n r b = s.put (Reg.SC_STATUS_SR_RANKS n) (bitSet (s.get (Reg.SC_STATUS_SR_RANKS n)) r b) := rfl
  rw [State.inSelfRefresh, set, State.get_put_same _ _ _ (by simp [Reg.SC_STATUS_SR_RANKS]), BitVec.getLsbD_ofNat,
    Nat.testBit_mod_two_pow, testBit_bitSet]
  simp [Reg.SC_STATUS_SR_RANKS, hr]

theorem rankIdleSelfRefresh_enters {n : ScIx} {rank : Nat} {s : State} (enabled : s.flag (Reg.SC_IDLE_SR_EN n) = true)
    (small : rank < 8) (present : s.flag (Reg.SC_RANK_PRESENT n rank) = true) (awake : s.inSelfRefresh n rank = false)
    (state : s.get (Reg.SC_STATUS_STATE n) = 0) (free : ∀ e ∈ (s.sc n).entries, e.loc.rank ≠ rank)
    (idle : sparseGet 0 (s.sc n).lastUse rank + max 1 (s.get (Reg.SC_IDLE_SR_US n)) * 1000 ≤ s.now) :
    ∃ t, execRankIdleSelfRefresh n rank s = .next t ∧ t.inSelfRefresh n rank = true ∧ (∀ e ∈ (t.sc n).banks, e.1 / 32 ≠ rank) ∧
      t.out = [.dram n 7 (rank / max 1 s.cfg.height) (rank % max 1 s.cfg.height) 0 0] := by
  have unasked : ((s.sc n).entries.all fun e => decide (e.loc.rank ≠ rank)) = true :=
    List.all_eq_true.mpr fun e he => decide_eq_true (free e he)
  unfold execRankIdleSelfRefresh
  refine yields_occurs ?_ ⟨State.inSelfRefresh_putSr (s.begin.closeRank n rank) n true small, fun e he => ?_, rfl⟩
  · rw [enabled, present, awake, unasked, decide_eq_true small, decide_eq_true state, decide_eq_true idle]
    rfl
  · have closed : ((s.begin.closeRank n rank).sc n).banks = (s.sc n).banks.filter fun e => decide (e.1 / 32 ≠ rank) :=
      congrArg Sc.banks (State.modSc_same _ _ _)
    change e ∈ ((s.begin.closeRank n rank).sc n).banks at he
    rw [closed] at he
    exact of_decide_eq_true (List.mem_filter.mp he).2

/-! ## CA_PARITY_ALERT (R575) -/

theorem caParityAlert_waits (n : ScIx) (s : State) :
    ∃ t, execCaParityAlert n s = .next t ∧ t.pends (srcSc n 19) = true ∧ t.scs = s.scs :=
  ⟨_, rfl, State.event_pends _ _ _ _, State.event_scs _ _ _ _⟩

/-! ## Registers that a rank's ageing writes (R252 to R257, R268 to R277) -/

/-- What a lane's or a rank's failure may write besides the events of its own source: the migration's registers, the rank's health,
SEQ_LOG, and what the end of a restore shows. -/
def rankRegs (n r : Nat) : List Nat :=
  [(Reg.QD_MIG_STATUS_J (n / 4)).off, (Reg.QD_MIG_WM_CHUNK (n / 4)).off, (Reg.SC_RANK_HEALTH_OUT n r).off, Reg.SEQ_LOG_NEXT.off,
    Reg.PERS_STATUS_RESTORE_PENDING.off, Reg.RESTORE_STATUS_PHASE.off, (Reg.EVT_COUNT_RAISED (srcPers 0 2)).off]

theorem mem_rankRegs_health (n r : Nat) : (Reg.SC_RANK_HEALTH_OUT n r).off ∈ rankRegs n r := by simp [rankRegs]

theorem mem_rankRegs_migration (n r : Nat) : (Reg.QD_MIG_STATUS_J (n / 4)).off ∈ rankRegs n r := by simp [rankRegs]

theorem mem_rankRegs_watermark (n r : Nat) : (Reg.QD_MIG_WM_CHUNK (n / 4)).off ∈ rankRegs n r := by simp [rankRegs]

theorem mem_rankRegs_log (n r : Nat) : Reg.SEQ_LOG_NEXT.off ∈ rankRegs n r := by simp [rankRegs]

section

variable {s t : State} {l : List Nat} {src : Nat}

theorem State.writesOnly.putLog (h : s.writesOnly l src t) (time : Nat) (b : LogBody) (hl : Reg.SEQ_LOG_NEXT.off ∈ l) :
    s.writesOnly l src (t.putLog time b) := .putSat (.put (h.modSeq _) _ hl) _ hl

theorem State.writesOnly.logRecord (h : s.writesOnly l src t) (b : LogBody) (hl : Reg.SEQ_LOG_NEXT.off ∈ l) :
    s.writesOnly l src (t.logRecord b) := by
  have logged : s.writesOnly l src (t.putLog t.now b) := h.putLog _ _ hl
  unfold State.logRecord State.logRecordAt
  dsimp only
  refine .ite logged (.modSeq ?_ _)
  split
  · exact .ite (logged.putLog _ _ hl) logged
  · exact logged

theorem State.writesOnly.logHealth (h : s.writesOnly l src t) (q : Nat) (hl : Reg.SEQ_LOG_NEXT.off ∈ l) :
    s.writesOnly l src (t.logHealth q) := h.logRecord _ hl

theorem State.writesOnly.modQuad (h : s.writesOnly l src t) (q : Nat) (f : Quad → Quad) : s.writesOnly l src (t.modQuad q f) :=
  h.same_regs rfl

/-- A step whose mask leaves out the registers. -/
theorem State.writesOnly_of_outside {m : Nat} (h : t.outside m = s.outside m) (hm : m.testBit 0 = false) : s.writesOnly l src t :=
  State.writesOnly_of_regs (regs_of_outside h hm)

end

section

variable {s t : State} {n r : Nat}

theorem State.exhaust_writesOnly (h : s.writesOnly (rankRegs n r) (srcSc n (8 + r)) t) :
    s.writesOnly (rankRegs n r) (srcSc n (8 + r)) (t.exhaust (n / 4) (n % 4) r) := by
  unfold State.exhaust
  dsimp only
  rw [Nat.div_add_mod]
  have shown : s.writesOnly (rankRegs n r) (srcSc n (8 + r)) (t.putB (Reg.QD_MIG_STATUS_EXHAUSTED (n / 4)) true) :=
    h.putB _ (mem_rankRegs_migration n r)
  exact .ite shown (.event (shown.modQuad _ _) _ _)

theorem State.startMigration_writesOnly (h : s.writesOnly (rankRegs n r) (srcSc n (8 + r)) t) :
    s.writesOnly (rankRegs n r) (srcSc n (8 + r)) (t.startMigration (n / 4) (n % 4) r) := by
  unfold State.startMigration
  cases t.freeSpare (n / 4) (n % 4) r with
  | none =>
    unfold State.migrateTo
    exact State.exhaust_writesOnly h
  | some k =>
    have mig := mem_rankRegs_migration n r
    have health := mem_rankRegs_health n r
    unfold State.migrateTo
    dsimp only
    rw [Nat.div_add_mod]
    refine .logHealth ?_ _ (mem_rankRegs_log n r)
    refine .putB ?_ _ health
    refine .put ?_ _ (mem_rankRegs_watermark n r)
    refine .putB ?_ _ mig
    refine .put ?_ _ mig
    refine .put ?_ _ mig
    refine .put ?_ _ mig
    exact h.modQuad _ _

theorem State.outAtStart_writesOnly (h : s.writesOnly (rankRegs n r) (srcSc n (8 + r)) t) (k : Option Nat) :
    s.writesOnly (rankRegs n r) (srcSc n (8 + r)) (t.outAtStart (n / 4) (n % 4) r k) := by
  cases k with
  | none =>
    unfold State.outAtStart
    exact State.exhaust_writesOnly h
  | some k =>
    have health := mem_rankRegs_health n r
    unfold State.outAtStart State.setOut
    dsimp only
    rw [Nat.div_add_mod]
    refine .logHealth ?_ _ (mem_rankRegs_log n r)
    refine .putB ?_ _ health
    refine .putB ?_ _ health
    refine .putB ?_ _ health
    exact h.modQuad _ _

theorem State.rankOut_writesOnly (h : s.writesOnly (rankRegs n r) (srcSc n (8 + r)) t) (atStart : Bool) :
    s.writesOnly (rankRegs n r) (srcSc n (8 + r)) (t.rankOut n r atStart) := by
  have told : s.writesOnly (rankRegs n r) (srcSc n (8 + r)) (t.event (srcSc n (8 + r)) 5 Sev.degraded) := h.event _ _
  unfold State.rankOut
  dsimp only
  refine .ite h (.ite (State.outAtStart_writesOnly told _) (.ite ?_ (State.startMigration_writesOnly told)))
  refine .ite ?_ (State.exhaust_writesOnly told)
  refine .put ?_ _ (mem_rankRegs_migration n r)
  exact told.modQuad _ _

theorem State.markErasure_writesOnly (h : s.writesOnly (rankRegs n r) (srcSc n (8 + r)) t) (m source : Nat) (atStart : Bool) :
    s.writesOnly (rankRegs n r) (srcSc n (8 + r)) (t.markErasure n r m source atStart) := by
  have health := mem_rankRegs_health n r
  unfold State.markErasure
  dsimp only
  refine .ite h (.ite (.ite h (State.rankOut_writesOnly h _)) ?_)
  refine .logHealth (.event ?_ _ _) _ (mem_rankRegs_log n r)
  refine .put ?_ _ health
  refine .putB ?_ _ health
  exact h.put _ health

theorem State.laneFails_writesOnly (h : s.writesOnly (rankRegs n r) (srcSc n (8 + r)) t) (lane : Nat) :
    s.writesOnly (rankRegs n r) (srcSc n (8 + r)) (t.laneFails n r lane) := by
  have told : s.writesOnly (rankRegs n r) (srcSc n (8 + r)) (t.event (srcSc n (8 + r)) 1 Sev.degraded) := h.event _ _
  unfold State.laneFails
  dsimp only
  refine .ite told (.ite (State.rankOut_writesOnly (told.modSc _ _) _) ?_)
  exact State.markErasure_writesOnly (told.modSc _ _) _ _ _

theorem State.resumeOut_writesOnly (h : s.writesOnly (rankRegs n r) (srcSc n (8 + r)) t) :
    s.writesOnly (rankRegs n r) (srcSc n (8 + r)) (t.resumeOut n r) := by
  have lost : s.writesOnly (rankRegs n r) (srcSc n (8 + r)) (t.each (t.rankPatches n r) fun s p => s.losePatch n p) :=
    h.each fun u p => State.writesOnly_of_outside (State.losePatch_outside u n p 805322816 (by decide)) (by decide)
  refine lost.trans fun x own _ dropped => State.rd_judgeFilled _ _ ?_ ?_ ?_ dropped
  all_goals
    rintro rfl
    exact own (by simp [rankRegs, Reg.PERS_STATUS_RESTORE_PENDING, Reg.RESTORE_STATUS_PHASE, Reg.EVT_COUNT_RAISED, srcPers])

theorem State.narrowLane_writesOnly (h : s.writesOnly (rankRegs n r) (srcSc n (8 + r)) t) (lane : Nat) :
    s.writesOnly (rankRegs n r) (srcSc n (8 + r)) (t.narrowLane n r lane) := by
  have failed := State.laneFails_writesOnly h lane
  have told : s.writesOnly (rankRegs n r) (srcSc n (8 + r)) (t.event (srcSc n (8 + r)) 2 Sev.note) := h.event _ _
  unfold State.narrowLane State.narrowResume State.narrowRun
  dsimp only
  refine .ite (.ite (State.resumeOut_writesOnly failed) failed) (.ite ?_ (told.modSc _ _))
  exact State.markErasure_writesOnly (told.modSc _ _) _ _ _

theorem State.lanesMeasured_writesOnly (s : State) (n op r : Nat) (res : List LaneTrack) :
    s.writesOnly (rankRegs n r) (srcSc n (8 + r)) (s.lanesMeasured n op r res) := by
  unfold State.lanesMeasured
  refine .each (State.writesOnly_of_regs rfl) fun u lane => ?_
  have kept : u.writesOnly (rankRegs n r) (srcSc n (8 + r)) u := State.writesOnly_of_regs rfl
  unfold State.laneMeasured
  dsimp only
  exact .ite (State.narrowLane_writesOnly (kept.modSc _ _) _) (.modSc (kept.modSc _ _) _ _)

end

/-! ## DRAM_WRITE_CRC_ALERT (R263) -/

/-- The retry counter is none of the registers that a rank's ageing writes. -/
theorem State.get_retryCount {s t : State} {n r : Nat} (hn : n < 16) (hr : r < 8)
    (h : s.writesOnly (rankRegs n r) (srcSc n (8 + r)) t) :
    t.get (Reg.SC_WCRC_RETRY_COUNT n) = s.get (Reg.SC_WCRC_RETRY_COUNT n) := by
  have low := srcSc_lt hn (show 8 + r < 24 by omega)
  refine State.get_of_rd (h _ ?_ ?_ ?_)
  · simp only [rankRegs, Reg.SC_WCRC_RETRY_COUNT, Reg.QD_MIG_STATUS_J, Reg.QD_MIG_WM_CHUNK, Reg.SC_RANK_HEALTH_OUT,
      Reg.SEQ_LOG_NEXT, Reg.PERS_STATUS_RESTORE_PENDING, Reg.RESTORE_STATUS_PHASE, Reg.EVT_COUNT_RAISED, srcPers, scBase, qdBase,
      List.mem_cons, List.not_mem_nil, or_false, not_or]
    omega
  · have := scBase_ge n
    simp only [Reg.SC_WCRC_RETRY_COUNT, Reg.EVT_COUNT_RAISED]
    omega
  · have := scBase_ge n
    simp only [Reg.SC_WCRC_RETRY_COUNT, Reg.EVT_DROPPED_COUNT]
    omega

section

variable {s : State} {x : Nat}

theorem State.logHealth_pends (q : Nat) : (s.logHealth q).pends x = s.pends x :=
  State.pends_of_outside (State.logHealth_outside s q 262145 (by decide)) (by decide) x

theorem State.exhaust_pends (q j r : Nat) (waits : s.pends x = true) : (s.exhaust q j r).pends x = true := by
  have shown : (s.putB (Reg.QD_MIG_STATUS_EXHAUSTED q) true).pends x = true := (State.putB_pends _ _ _ _).trans waits
  unfold State.exhaust
  dsimp only
  split
  · exact shown
  · exact State.event_pends_other _ _ _ _ _ ((State.modQuad_pends _ _ _ _).trans shown)

theorem State.startMigration_pends (q j r : Nat) (waits : s.pends x = true) : (s.startMigration q j r).pends x = true := by
  unfold State.startMigration
  cases s.freeSpare q j r with
  | none =>
    unfold State.migrateTo
    exact State.exhaust_pends q j r waits
  | some k =>
    unfold State.migrateTo
    exact (State.logHealth_pends q).trans waits

theorem State.outAtStart_pends (q j r : Nat) (k : Option Nat) (waits : s.pends x = true) :
    (s.outAtStart q j r k).pends x = true := by
  cases k with
  | none =>
    unfold State.outAtStart
    exact State.exhaust_pends q j r waits
  | some k =>
    unfold State.outAtStart
    exact (State.logHealth_pends q).trans waits

/-- A rank that goes out leaves every waiting message waiting. -/
theorem State.rankOut_pends (n r : Nat) (atStart : Bool) (waits : s.pends x = true) : (s.rankOut n r atStart).pends x = true := by
  have told : (s.event (srcSc n (8 + r)) 5 Sev.degraded).pends x = true := State.event_pends_other _ _ _ _ _ waits
  unfold State.rankOut
  dsimp only
  split
  · exact waits
  · split
    · exact State.outAtStart_pends _ _ _ _ told
    · split
      · split
        · exact (State.put_pends _ _ _ _).trans ((State.modQuad_pends _ _ _ _).trans told)
        · exact State.exhaust_pends _ _ _ told
      · exact State.startMigration_pends _ _ _ told

end

/-- The replays counted, and the tracking step after three that fail. -/
def State.crcReplayed (s : State) (n rank fails : Nat) (res : List LaneTrack) : State :=
  let s := s.bump (Reg.SC_WCRC_RETRY_COUNT n) (min 6 (fails + 1))
  if fails < 3 then s else s.lanesMeasured n (s.get (Reg.SC_STATUS_OP n)) rank res

/-- Six failed replays: the message, and the rank's count of them. -/
def State.crcGivenUp (s : State) (n rank : Nat) : State :=
  let s := (s.event (srcSc n (8 + rank)) 4 Sev.degraded).modSc n fun x => { x with wcrcCount := sparseUpd 0 x.wcrcCount rank (· + 1) }
  if 2 ≤ sparseGet 0 (s.sc n).wcrcCount rank then s.rankOut n rank false else s

theorem execDramWriteCrcAlert_eq (n : ScIx) (rank fails : Nat) (res : List LaneTrack) (s : State) :
    execDramWriteCrcAlert n rank fails res s = occurs (decide (rank < 8) && s.flag (Reg.SC_RANK_PRESENT n rank)) s fun s =>
      if fails < 6 then s.crcReplayed n rank fails res else (s.crcReplayed n rank fails res).crcGivenUp n rank := rfl

theorem State.crcReplayed_count (s : State) {n rank : Nat} (hn : n < 16) (hr : rank < 8) (fails : Nat) (res : List LaneTrack) :
    (s.crcReplayed n rank fails res).get (Reg.SC_WCRC_RETRY_COUNT n) =
      min (s.get (Reg.SC_WCRC_RETRY_COUNT n) + min 6 (fails + 1)) 4294967295 := by
  have counted := s.get_bump_same (Reg.SC_WCRC_RETRY_COUNT n) (min 6 (fails + 1)) (by simp [Reg.SC_WCRC_RETRY_COUNT])
  unfold State.crcReplayed
  dsimp only
  split
  · exact counted
  · exact (State.get_retryCount hn hr (State.lanesMeasured_writesOnly _ _ _ _ _)).trans counted

theorem State.crcGivenUp_count (s : State) {n rank : Nat} (hn : n < 16) (hr : rank < 8) :
    (s.crcGivenUp n rank).get (Reg.SC_WCRC_RETRY_COUNT n) = s.get (Reg.SC_WCRC_RETRY_COUNT n) := by
  have kept : s.writesOnly (rankRegs n rank) (srcSc n (8 + rank)) s := State.writesOnly_of_regs rfl
  have told := State.writesOnly.modSc (kept.event 4 Sev.degraded) n fun x => { x with wcrcCount := sparseUpd 0 x.wcrcCount rank (· + 1) }
  exact State.get_retryCount hn hr (.ite (State.rankOut_writesOnly told false) told)

theorem State.crcGivenUp_pends (s : State) (n rank : Nat) : (s.crcGivenUp n rank).pends (srcSc n (8 + rank)) = true := by
  have told : ((s.event (srcSc n (8 + rank)) 4 Sev.degraded).modSc n fun x => { x with
      wcrcCount := sparseUpd 0 x.wcrcCount rank (· + 1) }).pends (srcSc n (8 + rank)) = true := State.event_pends _ _ _ _
  unfold State.crcGivenUp
  dsimp only
  split
  · exact State.rankOut_pends _ _ _ told
  · exact told

theorem dramWriteCrcAlert_counts {n : ScIx} {rank : Nat} (fails : Nat) (res : List LaneTrack) {s : State} (small : rank < 8)
    (present : s.flag (Reg.SC_RANK_PRESENT n rank) = true) : ∃ t, execDramWriteCrcAlert n rank fails res s = .next t ∧
      t.get (Reg.SC_WCRC_RETRY_COUNT n) = min (s.get (Reg.SC_WCRC_RETRY_COUNT n) + min 6 (fails + 1)) 4294967295 ∧
      (6 ≤ fails → t.pends (srcSc n (8 + rank)) = true) := by
  have counted := s.begin.crcReplayed_count n.isLt small fails res
  rw [execDramWriteCrcAlert_eq]
  refine yields_occurs (by simp [small, present]) ?_
  by_cases few : fails < 6
  · rw [if_pos few]
    exact ⟨counted, fun many => absurd few (not_lt.mpr many)⟩
  · rw [if_neg few]
    exact ⟨(State.crcGivenUp_count _ n.isLt small).trans counted, fun _ => State.crcGivenUp_pends _ _ _⟩

/-! ## What a request's entry leaves (R224, R240, R243) -/

section

variable {s t : State} {l : List Nat} {src : Nat}

theorem State.writesOnly.exitSr (h : s.writesOnly l src t) (m r : Nat) (own : (Reg.SC_STATUS_SR_RANKS m).off ∈ l) :
    s.writesOnly l src (t.exitSr m r) := by
  unfold State.exitSr
  exact .ite h (.dramOut (.modSc (h.putSr _ _ _ own) _ _) _ _ _ _ _)

theorem State.writesOnly.dropChange (h : s.writesOnly l src t) (m : Nat) (own : (Reg.SC_STATUS_SR_RANKS m).off ∈ l) :
    s.writesOnly l src (t.dropChange m) := by
  unfold State.dropChange
  refine .modSc ?_ _ _
  refine .put ?_ _ own
  refine h.each fun u r => ?_
  exact .exitSr (State.writesOnly_of_regs rfl) _ _ own

theorem State.enqueue_writesOnly (s : State) (m : Nat) (e : QEntry) :
    s.writesOnly [(Reg.SC_STATUS_SR_RANKS m).off] (srcSc m 18) (s.enqueue m e) := by
  have own : (Reg.SC_STATUS_SR_RANKS m).off ∈ [(Reg.SC_STATUS_SR_RANKS m).off] := List.mem_singleton.mpr rfl
  have numbered : s.writesOnly [(Reg.SC_STATUS_SR_RANKS m).off] (srcSc m 18)
      (s.modFabric fun f => { f with nextId := f.nextId + 1 }) := State.writesOnly_of_regs rfl
  unfold State.enqueue
  dsimp only
  refine .modSc (.exitSr ?_ _ _ own) _ _
  unfold State.abandonChange
  exact .ite (.event (numbered.dropChange _ own) _ _) numbered

/-- A change of a sub-channel that leaves its scrub position leaves every sub-channel's. -/
theorem State.modSc_scrubPos (s : State) (m n : Nat) {f : Sc → Sc} (h : ∀ x, (f x).scrubPos = x.scrubPos) :
    ((s.modSc m f).sc n).scrubPos = (s.sc n).scrubPos := by
  by_cases same : n = m
  · rw [same, State.modSc_same, h]
  · rw [State.modSc_other _ _ _ same]

theorem State.exitSr_scrubPos (s : State) (m r n : Nat) : ((s.exitSr m r).sc n).scrubPos = (s.sc n).scrubPos := by
  unfold State.exitSr
  split
  · rfl
  · rw [State.dramOut, State.emit_sc, State.modSc_scrubPos]
    · rfl
    · exact fun _ => rfl

theorem Sc.standbyAt2_scrubPos (op : Nat) (x : Sc) : (x.standbyAt2 op).scrubPos = x.scrubPos := by
  unfold Sc.standbyAt2
  split <;> rfl

theorem State.abandonChange_scrubPos (s : State) (m n : Nat) : ((s.abandonChange m).sc n).scrubPos = (s.sc n).scrubPos := by
  unfold State.abandonChange State.dropChange
  dsimp only
  split
  · rw [State.event_sc, State.modSc_scrubPos _ _ _ (Sc.standbyAt2_scrubPos _), State.put_sc,
      State.each_proj (fun s => (s.sc n).scrubPos) fun s r _ => s.exitSr_scrubPos m r n]
  · rfl

theorem State.enqueue_scrubPos (s : State) (m n : Nat) (e : QEntry) : ((s.enqueue m e).sc n).scrubPos = (s.sc n).scrubPos := by
  unfold State.enqueue
  dsimp only
  rw [State.modSc_scrubPos, State.exitSr_scrubPos, State.abandonChange_scrubPos, State.modFabric_sc]
  intro x
  split
  · rfl
  · split <;> rfl

end

/-! ## PATROL_SCRUB_READ (R264) -/

/-- What a scrub read leaves of the sub-channel that it scrubs: the position, and every register of it but SC_STATUS. -/
structure State.ScrubKept (s : State) (n : Nat) (t : State) : Prop where
  pos : (t.sc n).scrubPos = (s.sc n).scrubPos
  rd : ∀ o, 0 < o → o < 0x4000 → t.rd (scBase n + o) = s.rd (scBase n + o)

/-- Blocks of registers of two sub-channels do not overlap. -/
theorem scBase_add_ne {n o : Nat} (m : Nat) (pos : 0 < o) (small : o < 0x4000) : scBase n + o ≠ scBase m := by
  unfold scBase qdBase
  omega

/-- A line's place, with its spare taken into account, lies in one of the 16 sub-channels. -/
theorem State.route_sc_lt (s : State) {l : Loc} (h : l.sc < 16) : (s.route l).sc < 16 := by
  have ext : ∀ k off, (s.extLoc (l.sc / 4) k off).sc < 16 := fun k off => by
    have j : ∀ e, s.get (Reg.QD_SPARE_EXT_J (l.sc / 4) k e) < 4 := fun e => Nat.mod_lt _ (Nat.two_pow_pos 2)
    have j0 := j 0
    have j1 := j 1
    unfold State.extLoc locIn
    dsimp only
    split <;> dsimp only <;> omega
  unfold State.route
  dsimp only
  split
  · split
    · exact ext _ _
    · exact h
  · exact h

theorem State.enqueue_scrubKept (s : State) (n : Nat) {m : Nat} (h : m < 16) (e : QEntry) : s.ScrubKept n (s.enqueue m e) := by
  have base := scBase_ge n
  refine ⟨State.enqueue_scrubPos _ _ _ _, fun o pos small => State.enqueue_writesOnly _ _ _ _ ?_ ?_ ?_⟩
  · exact fun mem => scBase_add_ne m pos small (List.mem_singleton.mp mem)
  · have low := srcSc_lt h (show 18 < 24 by decide)
    simp only [Reg.EVT_COUNT_RAISED]
    omega
  · simp only [Reg.EVT_DROPPED_COUNT]
    omega

theorem State.scrubRead_scrubKept (s : State) (n : Nat) (l : LineAt) {loc : Loc} (h : loc.sc < 16) :
    s.ScrubKept n (s.scrubRead l loc) := by
  unfold State.scrubRead
  dsimp only
  refine iteInduction (motive := s.ScrubKept n) (fun _ => ?_) fun _ => ⟨rfl, fun _ _ _ => rfl⟩
  obtain ⟨pos, rd⟩ := State.enqueue_scrubKept (s.modFabric fun f => { f with nextId := f.nextId + 1 }) n (s.route_sc_lt h) _
  exact ⟨pos, rd⟩

/-- The number of a sub-channel's lines rests on its SC_RANK registers. -/
theorem State.scLines_of_rd {s t : State} {n : Nat} (h : ∀ r < 8, t.rd (scBase n + 0x40 + 0x4 * r) = s.rd (scBase n + 0x40 + 0x4 * r)) :
    t.scLines n = s.scLines n := by
  have ranks : t.presentRanks n = s.presentRanks n :=
    List.filter_congr fun r hr => State.flag_of_rd (f := Reg.SC_RANK_PRESENT n r) (h r (List.mem_range.mp hr))
  unfold State.scLines
  rw [ranks]
  refine List.foldl_ext _ _ _ fun m r hr => ?_
  have size : t.get (Reg.SC_RANK_SIZE n r) = s.get (Reg.SC_RANK_SIZE n r) :=
    State.get_of_rd (h r (List.mem_range.mp (List.mem_filter.mp hr).1))
  unfold State.rankLines
  rw [size]

/-- The pass moves on by one line and shows its share. -/
def State.scrubPassed (s : State) (n : Nat) : State :=
  let pos := (s.sc n).scrubPos
  let s := s.modSc n fun x => { x with scrubPos := pos + 1 }
  s.put (Reg.SC_SCRUB_PASS_PCT n) ((pos + 1) * 100 / s.scLines n)

/-- The scrub read of a line, or none where its patch is unfilled, and the pass's end after the last line. -/
theorem State.patrolRead_of_at {s : State} {n r off : Nat} (here : s.scrubAt n (s.sc n).scrubPos = some (r, off)) :
    ∃ t, (t = s.scrubPassed n ∨ t = (s.scrubPassed n).scrubRead (s.lineAt n r off) (locIn n r off)) ∧
      s.patrolRead n = if t.scLines n ≤ (s.sc n).scrubPos + 1 then t.scrubPassEnds n else t := by
  unfold State.patrolRead State.scrubPassed
  dsimp only
  rw [here]
  exact ⟨_, ite_eq_or_eq _ _ _, rfl⟩

theorem patrolScrubRead_moves {n : ScIx} {s : State} {r off : Nat} (runs : s.quadRuns (n.val / 4) = true)
    (state : s.get (Reg.SC_STATUS_STATE n) < 2) (here : s.scrubAt n (s.sc n).scrubPos = some (r, off))
    (inside : (s.sc n).scrubPos + 1 < s.scLines n) (due : s.scrubDue n = true) :
    ∃ t, execPatrolScrubRead n s = .next t ∧ (t.sc n).scrubPos = (s.sc n).scrubPos + 1 ∧
      t.get (Reg.SC_SCRUB_PASS_PCT n) = ((s.sc n).scrubPos + 1) * 100 / s.scLines n := by
  obtain ⟨t, read, moved⟩ := State.patrolRead_of_at (s := s.begin) here
  have kept : (s.begin.scrubPassed n).ScrubKept n t := by
    rcases read with rfl | rfl
    · exact ⟨rfl, fun _ _ _ => rfl⟩
    · exact State.scrubRead_scrubKept _ _ _ n.isLt
  have lines : t.scLines n = s.scLines n := State.scLines_of_rd fun r hr => by
    have unshown : scBase n + 0x40 + 0x4 * r ≠ (Reg.SC_SCRUB_PASS_PCT n).off := by
      simp only [Reg.SC_SCRUB_PASS_PCT]
      omega
    rw [Nat.add_assoc, kept.rd _ (by omega) (by omega), ← Nat.add_assoc]
    exact State.rd_put_other _ _ _ unshown
  have share : ((s.sc n).scrubPos + 1) * 100 / s.scLines n ≤ 100 :=
    Nat.div_le_of_le_mul (Nat.mul_le_mul_right 100 inside.le)
  have stays : s.begin.patrolRead n = t := by
    rw [moved, lines]
    exact if_neg (not_le.mpr inside)
  refine yields_occurs (by simp [runs, state, due]) ?_
  rw [stays]
  constructor
  · rw [kept.pos, State.scrubPassed, State.put_sc, State.modSc_same]
    rfl
  · have shown : t.get (Reg.SC_SCRUB_PASS_PCT n) = (s.begin.scrubPassed n).get (Reg.SC_SCRUB_PASS_PCT n) :=
      State.get_of_rd (kept.rd 0x380 (by decide) (by decide))
    rw [shown, State.scrubPassed, State.get_put_same _ _ _ (by simp [Reg.SC_SCRUB_PASS_PCT])]
    exact Nat.mod_eq_of_lt (lt_of_le_of_lt share (by simp [Reg.SC_SCRUB_PASS_PCT]))

/-- Settles O24, each command by its lemma above. -/
theorem subChannelMaintenance : Obligations.SubChannelMaintenance := by
  unfold Obligations.SubChannelMaintenance
  refine ⟨?_, ?_, ?_, ?_, ?_⟩
  · intro n temps s run first
    obtain ⟨t, step, shown⟩ := mr4Poll_shows temps run first
    exact ⟨t, step, fun r present => shown r present r.isLt⟩
  · exact fun n rank s enabled small present awake state free idle =>
      rankIdleSelfRefresh_enters enabled small present awake state free idle
  · exact fun n rank fails res s small present => dramWriteCrcAlert_counts fails res small present
  · exact fun n s r off runs state here inside due => patrolScrubRead_moves runs state here inside due
  · exact fun n s => caParityAlert_waits n s

end Sys2Proof.Machine

/-!
PROOF. Training, tracking and migration (09_dram_training_ecc_sparing R247 to R257, R272 to R276): what a training, each step of a
tracking pass and a chunk of a migration leave.
-/

namespace Sys2Proof.Machine

/-! ## What the results of lanes leave of a sub-channel (R248 to R255) -/

/-- A sub-channel without what it keeps of its lanes: trained results, narrow windows and failed lanes. -/
def Sc.withoutLanes (x : Sc) : Sc := { x with trained := [], narrow := [], trainFails := [] }

theorem Sc.ca_of_withoutLanes {x y : Sc} (h : x.withoutLanes = y.withoutLanes) : x.ca = y.ca :=
  show x.withoutLanes.ca = y.withoutLanes.ca from congrArg Sc.ca h

theorem Sc.pass_of_withoutLanes {x y : Sc} (h : x.withoutLanes = y.withoutLanes) : x.pass = y.pass :=
  show x.withoutLanes.pass = y.withoutLanes.pass from congrArg Sc.pass h

theorem State.sc_of_outside {s t : State} {m : Nat} (h : t.outside m = s.outside m) (hm : m.testBit 10 = false) (k : Nat) :
    t.sc k = s.sc k := by
  unfold State.sc
  rw [scs_of_outside h hm]

section

variable (s : State) (n : Nat)

theorem State.modSc_withoutLanes {f : Sc → Sc} (h : ∀ x, (f x).withoutLanes = x.withoutLanes) :
    ((s.modSc n f).sc n).withoutLanes = (s.sc n).withoutLanes := by
  rw [State.modSc_same, h]

theorem State.each_withoutLanes {α : Type} {l : List α} {f : State → α → State}
    (h : ∀ s a, ((f s a).sc n).withoutLanes = (s.sc n).withoutLanes) :
    ((s.each l f).sc n).withoutLanes = (s.sc n).withoutLanes :=
  State.each_proj (fun s => (s.sc n).withoutLanes) (fun s a _ => h s a) s

/-- A lane that fails is noted among the failed lanes; its device's erasure and its rank's end touch no sub-channel. -/
theorem State.laneFails_withoutLanes (rank lane : Nat) :
    ((s.laneFails n rank lane).sc n).withoutLanes = (s.sc n).withoutLanes := by
  have told : (s.event (srcSc n (8 + rank)) 1 Sev.degraded).sc n = s.sc n := State.event_sc _ _ _ _ _
  unfold State.laneFails
  dsimp only
  split
  · rw [told]
  · rw [← told]
    split
    · rw [State.sc_of_outside (State.rankOut_outside _ _ _ _ 262673 (by decide)) (by decide)]
      exact State.modSc_withoutLanes _ _ fun _ => rfl
    · rw [State.sc_of_outside (State.markErasure_outside _ _ _ _ _ _ 262673 (by decide)) (by decide)]
      exact State.modSc_withoutLanes _ _ fun _ => rfl

theorem State.opTrained_withoutLanes (res : List LaneTrain) (op : Nat) :
    ((s.opTrained n res op).sc n).withoutLanes = (s.sc n).withoutLanes := by
  refine State.each_withoutLanes s n fun s rank => State.each_withoutLanes s n fun s lane => ?_
  unfold State.laneTrained
  dsimp only
  split
  · exact State.modSc_withoutLanes _ _ fun _ => rfl
  · exact (State.laneFails_withoutLanes _ _ _ _).trans (State.modSc_withoutLanes _ _ fun _ => rfl)

theorem State.narrowLane_withoutLanes (rank lane : Nat) :
    ((s.narrowLane n rank lane).sc n).withoutLanes = (s.sc n).withoutLanes := by
  have failed := s.laneFails_withoutLanes n rank lane
  have counted := State.modSc_withoutLanes (s.event (srcSc n (8 + rank)) 2 Sev.note) n
    (f := fun x => { x with narrow := sparseUpd 0 x.narrow (10 * rank + lane) (· + 1) }) fun _ => rfl
  rw [State.event_sc] at counted
  unfold State.narrowLane State.narrowResume State.narrowRun
  dsimp only
  split
  · split
    · rwa [State.sc_of_outside (State.resumeOut_outside _ _ _ 805322833 (by decide)) (by decide)]
    · exact failed
  · split
    · rwa [State.sc_of_outside (State.markErasure_outside _ _ _ _ _ _ 262673 (by decide)) (by decide)]
    · exact counted

theorem State.lanesMeasured_withoutLanes (op rank : Nat) (res : List LaneTrack) :
    ((s.lanesMeasured n op rank res).sc n).withoutLanes = (s.sc n).withoutLanes := by
  refine State.each_withoutLanes s n fun s lane => ?_
  unfold State.laneMeasured
  dsimp only
  split
  · exact (State.narrowLane_withoutLanes _ _ _ _).trans (State.modSc_withoutLanes _ _ fun _ => rfl)
  · rw [State.modSc_same, State.modSc_same]
    rfl

end

/-! ## DRAM_TRAINING (R147, R247) -/

/-- A training once the lanes of all four operating points are trained, in the order of R247. -/
def State.pointsTrained (s : State) (n : Nat) (ca : List CaTrain) (res : List LaneTrain) : State :=
  ((if s.isHeldDown 0 n then s.unitReturns 0 n else s).modSc n fun x =>
    { x with trainFails := [], narrow := [], trained := [], ca := ca }).each [3, 2, 1, 0] fun s op => s.opTrained n res op

/-- A trained sub-channel runs at its run operating point, its standby generator at point 2. -/
def State.runsTrained (u : State) (n : Nat) : State :=
  (((u.put (Reg.SC_STATUS_OP n) (u.runOp n)).put (Reg.SC_STATUS_STATE n) 0).put (Reg.SC_STATUS_SR_RANKS n) 0).modSc n fun x =>
    { x with ready := true, standbyOp := 2, locked := true, passDue := u.sf, banks := [], refDebt := [] }

theorem State.training_eq (s : State) (n : Nat) (ca : List CaTrain) (res : List LaneTrain) :
    s.training n ca res = (s.pointsTrained n ca res).runsTrained n := by
  unfold State.training State.pointsTrained State.runsTrained
  simp only [State.put_sf]

theorem State.pointsTrained_ca (s : State) (n : Nat) (ca : List CaTrain) (res : List LaneTrain) :
    ((s.pointsTrained n ca res).sc n).ca = ca := by
  unfold State.pointsTrained
  refine (Sc.ca_of_withoutLanes (State.each_withoutLanes _ n fun s op => State.opTrained_withoutLanes s n res op)).trans ?_
  rw [State.modSc_same]

/-- What a training leaves: the sub-channel is ready in STATE 0 at its run operating point, with its banks closed, the standby
generator locked at point 2, and a tracking pass due in the present superframe. -/
structure State.TrainedUp (n : Nat) (ca : List CaTrain) (t : State) : Prop where
  ready : (t.sc n).ready = true
  state : t.get (Reg.SC_STATUS_STATE n) = 0
  op : t.get (Reg.SC_STATUS_OP n) = t.runOp n
  ca : (t.sc n).ca = ca
  standby : (t.sc n).standbyOp = 2
  locked : (t.sc n).locked = true
  banks : (t.sc n).banks = []
  passDue : (t.sc n).passDue = t.sf

theorem State.runOp_lt (s : State) (n : Nat) : s.runOp n < 4 := lt_of_le_of_lt (Nat.min_le_left _ _) (by decide)

theorem State.runsTrained_runOp (u : State) (n : Nat) : (u.runsTrained n).runOp n = u.runOp n := by
  have other : (Reg.SC_OP_RUN_OP n).off ≠ scBase n + 0x0 := by simp [Reg.SC_OP_RUN_OP]
  have kept : (u.runsTrained n).rd (Reg.SC_OP_RUN_OP n).off = u.rd (Reg.SC_OP_RUN_OP n).off := by
    rw [State.runsTrained, State.modSc_rd, State.rd_put_other _ _ _ other, State.rd_put_other _ _ _ other,
      State.rd_put_other _ _ _ other]
  rw [State.runOp, State.get_of_rd kept, State.runOp]

theorem State.runsTrained_sc (u : State) (n : Nat) : (u.runsTrained n).sc n =
    { u.sc n with ready := true, standbyOp := 2, locked := true, passDue := u.sf, banks := [], refDebt := [] } :=
  State.modSc_same _ _ _

theorem State.runsTrained_trainedUp (u : State) (n : Nat) : State.TrainedUp n (u.sc n).ca (u.runsTrained n) where
  ready := by rw [State.runsTrained_sc]
  state := by
    rw [State.runsTrained, State.modSc_get, State.get_put_other _ _ _ _ (by simp [Reg.SC_STATUS_SR_RANKS]) (SC_STATUS_STATE_apart n),
      State.get_put_state _ _ (by decide)]
  op := by
    obtain ⟨state, ranks⟩ := SC_STATUS_OP_apart n
    rw [State.runsTrained_runOp, State.runsTrained, State.modSc_get,
      State.get_put_other _ _ _ _ (by simp [Reg.SC_STATUS_SR_RANKS]) ranks,
      State.get_put_other _ _ _ _ (by simp [Reg.SC_STATUS_STATE]) state, State.get_put_same _ _ _ (by simp [Reg.SC_STATUS_OP])]
    exact Nat.mod_eq_of_lt (u.runOp_lt n)
  ca := by rw [State.runsTrained_sc]
  standby := by rw [State.runsTrained_sc]
  locked := by rw [State.runsTrained_sc]
  banks := by rw [State.runsTrained_sc]
  passDue := by
    rw [State.runsTrained_sc, State.runsTrained]
    simp only [State.modSc_sf, State.put_sf]

theorem State.training_trainedUp (s : State) (n : Nat) (ca : List CaTrain) (res : List LaneTrain) :
    State.TrainedUp n ca (s.training n ca res) := by
  have up := (s.pointsTrained n ca res).runsTrained_trainedUp n
  rwa [State.pointsTrained_ca, ← State.training_eq] at up

/-- The end of a start's phase notes its time in the image, and leaves what a training showed. -/
theorem State.TrainedUp.phaseEnds {n : Nat} {ca : List CaTrain} {t : State} (h : State.TrainedUp n ca t) :
    State.TrainedUp n ca t.phaseEnds := by
  unfold State.phaseEnds
  split
  · exact ⟨h.ready, h.state, h.op, h.ca, h.standby, h.locked, h.banks, h.passDue⟩
  · exact h

theorem dramTraining_trainedUp {n : ScIx} {s : State} (ca : List CaTrain) (res : List LaneTrain)
    (rails : s.flag Reg.SEQ_STATUS_RAILS_UP = true) (sealed_ : s.flag Reg.CFG_STATUS_SEALED = true)
    (unready : (s.sc n).ready = false) (good : s.domainGood 1 (n.val / 4) = true) (start : s.get Reg.PERS_STATUS_START_STATE ≠ 3) :
    ∃ t, execDramTraining n ca res s = .next t ∧ State.TrainedUp n ca t := by
  unfold execDramTraining
  exact yields_occurs (by simp [rails, sealed_, unready, good, start]) (State.training_trainedUp _ _ _ _).phaseEnds

/-! ## The tracking pass (R252 to R254) -/

theorem trackingPassStart_starts {n : ScIx} {s : State} (ready : (s.sc n).ready = true) (idle : (s.sc n).pass = none)
    (due : (s.sc n).passDue ≤ s.sf) (state : s.get (Reg.SC_STATUS_STATE n) = 0)
    (save : s.flag Reg.PERS_STATUS_SAVE_ACTIVE = false) :
    ∃ t, execTrackingPassStart n s = .next t ∧
      (t.sc n).pass = some { op := s.get (Reg.SC_STATUS_OP n), todo := s.presentRanks n, asked := s.sf } ∧
      (t.sc n).passDue = s.sf + s.trackSf n ∧ t.regs = s.regs := by
  unfold execTrackingPassStart
  refine yields_occurs (by simp [ready, idle, due, state, save]) ?_
  rw [State.modSc_same]
  exact ⟨rfl, rfl, rfl⟩

/-- A step's measurements go into the pass, with its rank off the list; what the lanes' windows bring about leaves the pass. -/
theorem State.trackStep_pass (s : State) (n : Nat) (p : Pass) (rank : Nat) (res : List LaneTrack) :
    ((s.trackStep n p rank res).sc n).pass = some { p with
      running := none, asked := s.sf, todo := p.todo.filter (fun r => decide (r ≠ rank))
      measured := p.measured ++ (res.filter fun t => decide (t.lane < 10)).map fun t => (rank, t.lane, t.read, t.write, t.width) } := by
  unfold State.trackStep
  dsimp only
  refine (Sc.pass_of_withoutLanes (State.lanesMeasured_withoutLanes _ n _ _ _)).trans ?_
  rw [State.modSc_same]

theorem execTrackingStep_of_running {n : ScIx} {s : State} {p : Pass} {rank : Nat} (res : List LaneTrack)
    (pass : (s.sc n).pass = some p) (running : p.running = some rank) :
    execTrackingStep n res s = .next (s.begin.trackStep n p rank res) := by
  simp only [execTrackingStep, pass, running]

/-- The centres that a pass shifts are trained results, nothing else of the state. -/
theorem State.shiftCentres_regs (s : State) (n op rank lane : Nat) (write : Bool) (shift : Int) :
    (s.shiftCentres n op rank lane write shift).regs = s.regs :=
  regs_of_outside (State.shiftCentres_outside _ _ _ _ _ _ _ 1024 (by decide)) (by decide)

theorem trackingPassApply_ends {n : ScIx} {s : State} {p : Pass} (pass : (s.sc n).pass = some p) (measured : p.todo = []) :
    ∃ t, execTrackingPassApply n s = .next t ∧ (t.sc n).pass = none ∧ (t.sc n).ready = true ∧ t.regs = s.regs := by
  unfold execTrackingPassApply
  rw [pass]
  refine yields_occurs (by simp [measured]) ?_
  dsimp only
  rw [State.modSc_same, State.modSc_regs]
  refine ⟨rfl, rfl, State.each_proj State.regs (fun u m _ => ?_) s.begin⟩
  rw [State.shiftCentres_regs, State.shiftCentres_regs]

/-! ## MIGRATION_CHUNK (R272, R273, R276) -/

theorem State.chunkBad_nil (s : State) (n : Nat) (m : Migration) : s.chunkBad n m [] = s := rfl

/-- The registers of a quadrant's migration lie below those of its sub-channels. -/
theorem WM_CHUNK_below_ranks (q j r : Nat) : (Reg.SC_RANK_SIZE (4 * q + j) r).off ≠ (Reg.QD_MIG_WM_CHUNK q).off := by
  simp only [Reg.SC_RANK_SIZE, Reg.QD_MIG_WM_CHUNK, scBase, qdBase]
  omega

/-- A chunk with no bad line, before its rank's last, pays its cost, advances W and shows it. -/
theorem State.chunkCopied_of_inside {s : State} {q : Nat} {m : Migration} (inside : m.chunk + 1 < s.rankChunks (4 * q + m.j) m.rank) :
    s.chunkCopied q m [] = (((s.modQuad q fun d => { d with
      migPace := d.migPace - chunkCost, migration := d.migration.map fun x => { x with chunk := x.chunk + 1 } }).chunkAsked q m).put
        (Reg.QD_MIG_WM_CHUNK q) (m.chunk + 1)) := by
  unfold State.chunkCopied
  rw [State.chunkBad_nil]
  dsimp only
  generalize paid : s.modQuad q _ = u
  have size : ((u.chunkAsked q m).put (Reg.QD_MIG_WM_CHUNK q) (m.chunk + 1)).rankChunks (4 * q + m.j) m.rank =
      s.rankChunks (4 * q + m.j) m.rank := by
    unfold State.rankChunks
    rw [State.get_of_rd (State.rd_put_other _ _ _ (WM_CHUNK_below_ranks q m.j m.rank)),
      State.get_congr (regs_of_outside (State.chunkAsked_outside u q m 17408 (by decide)) (by decide)), ← paid, State.modQuad_get]
  rw [size, if_neg (not_le.mpr inside)]

theorem migrationChunk_copies {q : QuadIx} {s : State} {m : Migration} (migrates : (s.quad q).migration = some m)
    (runs : s.quadRuns q = true) (paced : chunkCost ≤ (s.quad q).migPace)
    (inside : m.chunk + 1 < s.rankChunks (4 * q + m.j) m.rank) (small : m.chunk + 1 < 2 ^ 16) :
    ∃ t, execMigrationChunk q [] s = .next t ∧ (t.quad q).migration = some { m with chunk := m.chunk + 1 } ∧
      (t.quad q).migPace = (s.quad q).migPace - chunkCost ∧ t.get (Reg.QD_MIG_WM_CHUNK q) = m.chunk + 1 ∧ t.dram = s.dram := by
  have asked : ∀ u : State, (u.chunkAsked q m).outside 17408 = u.outside 17408 := fun u =>
    State.chunkAsked_outside u q m 17408 (by decide)
  unfold execMigrationChunk
  rw [migrates]
  refine yields_occurs (by simp [runs, paced]) ?_
  rw [State.chunkCopied_of_inside (s := s.begin) inside, State.put_quad, State.quad_of_outside (asked _) (by decide),
    State.modQuad_same, State.begin_quad, migrates]
  refine ⟨rfl, rfl, ?_, ?_⟩
  · rw [State.get_put_same _ _ _ (by simp [Reg.QD_MIG_WM_CHUNK])]
    exact Nat.mod_eq_of_lt (small.trans (by simp [Reg.QD_MIG_WM_CHUNK]))
  · rw [State.put_dram, dram_of_outside (asked _) (by decide)]
    rfl

/-- Settles O27, each command by its lemma above; `State.TrainedUp.passDue` adds the tracking pass that R247 makes due. -/
theorem trainingTrackingAndMigrationAdvance : Obligations.TrainingTrackingAndMigrationAdvance := by
  unfold Obligations.TrainingTrackingAndMigrationAdvance
  refine ⟨?_, ?_, ?_, ?_, ?_⟩
  · intro n ca res s rails sealed_ unready good start
    obtain ⟨t, step, up⟩ := dramTraining_trainedUp ca res rails sealed_ unready good start
    exact ⟨t, step, up.ready, up.state, up.op, up.ca, up.standby, up.locked, up.banks⟩
  · exact fun n s ready idle due state save => trackingPassStart_starts ready idle due state save
  · exact fun n res s p r pass running =>
      ⟨_, execTrackingStep_of_running res pass running, _, State.trackStep_pass _ _ _ _ _, rfl, rfl, rfl, rfl⟩
  · exact fun n s p pass measured => trackingPassApply_ends pass measured
  · exact fun q s m migrates runs paced inside small => migrationChunk_copies migrates runs paced inside small

end Sys2Proof.Machine

/-!
PROOF. What a tenant function refuses, and what its settings leave to the other logical devices (11_fabric_ports R334, R335,
R341, R342).
-/

namespace Sys2Proof.Machine

/-! ## Refusals -/

section

variable {fn : FnIx} {s : State}

/-- A refusal on the function of an LD: the reply, its interrupt, and a message on source 8 of the LD's head (R342). -/
theorem State.reply_refuses (s : State) (own : fn.val < 16) {code : RetCode} (fails : codeFails code = true) (l : List Nat) :
    s.reply fn code l =
      ((s.emit (.mailbox fn code l)).emit (.msix fn 0)).event (srcHead (s.ldHead fn) 8) 1 Sev.note := by
  simp only [State.reply, if_neg (Nat.ne_of_lt own), if_pos own, if_pos fails]
  rfl

/-- A device-wide command on a tenant function is refused, whatever its work (R334). -/
theorem exec_of_tenant {c : Instr} {inRec : Bool} {f : State → State} (h : exec c s = s.command fn true inRec f)
    (served : s.fnServed fn = true) (run : s.inRecovery = false) (tenant : s.isMgmtFn fn = false) (own : fn.val < 16) :
    exec c s = .next (s.begin.reply fn .unsupported []) := by
  have run' : s.begin.inRecovery = false := run
  have tenant' : s.begin.isMgmtFn fn = false := tenant
  have ld : fn.val ≠ 17 := by omega
  rw [h]
  simp [State.command, occurs, served, run', tenant', ld]

/-- What a device-wide command leaves behind on a tenant function. -/
theorem tenant_refuses {c : Instr} {inRec : Bool} {f : State → State} (h : exec c s = s.command fn true inRec f)
    (served : s.fnServed fn = true) (run : s.inRecovery = false) (tenant : s.isMgmtFn fn = false) (own : fn.val < 16) :
    ∃ t, exec c s = .next t ∧ (.mailbox fn .unsupported [] ∈ t.out ∧ t.keys = s.keys ∧ t.upd = s.upd ∧ t.fabric = s.fabric ∧
      t.gauge = s.gauge ∧ t.pends (srcHead (s.ldHead fn) 8) = true ∧
      ∀ x, x ≠ (Reg.EVT_COUNT_RAISED (srcHead (s.ldHead fn) 8)).off → x ≠ Reg.EVT_DROPPED_COUNT.off → t.rd x = s.rd x) := by
  refine ⟨_, exec_of_tenant h served run tenant own, State.reply_mem _ _ _ _, ?_⟩
  rw [State.reply_refuses _ own rfl]
  refine ⟨by simp, by simp, by simp, by simp, State.event_pends _ _ _ _, fun x count dropped => ?_⟩
  exact State.rd_event _ _ _ _ count dropped

end

/-- Settles O15: each device-wide command asks for a management function. -/
theorem deviceWideCommandsAreUnsupportedOnTenants : Obligations.DeviceWideCommandsAreUnsupportedOnTenants := by
  unfold Obligations.DeviceWideCommandsAreUnsupportedOnTenants
  intro fn n b h f k s served run tenant own c mem
  simp only [List.mem_cons, List.not_mem_nil, or_false] at mem
  rcases mem with rfl | rfl | rfl | rfl | rfl | rfl | rfl | rfl | rfl | rfl | rfl | rfl | rfl | rfl
  · exact tenant_refuses (execSetTimestamp.eq_def fn n s) served run tenant own
  · exact tenant_refuses (execSetShutdownState.eq_def fn n s) served run tenant own
  · exact tenant_refuses (execTransferFwInitiate.eq_def fn n h s) served run tenant own
  · exact tenant_refuses (execTransferFwContinue.eq_def fn f s) served run tenant own
  · exact tenant_refuses (execTransferFwEnd.eq_def fn f b s) served run tenant own
  · exact tenant_refuses (execTransferFwAbort.eq_def fn s) served run tenant own
  · exact tenant_refuses (execActivateFwOffline.eq_def fn n b s) served run tenant own
  · exact tenant_refuses (execActivateFwOnline.eq_def fn n s) served run tenant own
  · exact tenant_refuses (execLoadKeyBlob.eq_def fn k s) served run tenant own
  · exact tenant_refuses (execEraseKeySlot.eq_def fn n b b s) served run tenant own
  · exact tenant_refuses (execGetKeySlotStatus.eq_def fn n s) served run tenant own
  · exact tenant_refuses (execRequestLearnCycle.eq_def fn s) served run tenant own
  · exact tenant_refuses (execGetLearnStatus.eq_def fn s) served run tenant own
  · exact tenant_refuses (execGetVendorLog.eq_def fn n n n s) served run tenant own

/-! ## Settings of one function -/

theorem State.ld_of_outside {s t : State} {m : Nat} (h : t.outside m = s.outside m) (hm : m.testBit 13 = false) (k : Nat) :
    t.ld k = s.ld k := by
  unfold State.ld
  rw [lds_of_outside h hm]

/-- From one state to another nothing changes in what is kept for the other functions, nor in keys, patches, DRAM and the
hosts' requests. -/
def State.sparesOthers (s : State) (fn : FnIx) (t : State) : Prop :=
  (∀ k : Nat, k ≠ fn.val → t.ld k = s.ld k) ∧ t.keys = s.keys ∧ t.patches = s.patches ∧ t.dram = s.dram ∧ t.heads = s.heads

section

variable {fn : FnIx} {s t r : State}

/-- A command's beginning empties the outputs alone. -/
theorem State.sparesOthers_begin (s : State) (fn : FnIx) : s.sparesOthers fn s.begin := ⟨fun _ _ => rfl, rfl, rfl, rfl, rfl⟩

/-- What is kept for the function itself may change. -/
theorem State.sparesOthers.modLd (h : s.sparesOthers fn t) (f : Ld → Ld) : s.sparesOthers fn (t.modLd fn f) := by
  obtain ⟨lds, rest⟩ := h
  exact ⟨fun k other => (State.modLd_other _ _ _ other).trans (lds k other), rest⟩

/-- A reply touches registers, messages and outputs, and the answers on TW0. -/
theorem State.sparesOthers.reply (h : s.sparesOthers fn t) (code : RetCode) (l : List Nat) :
    s.sparesOthers fn (t.reply fn code l) := by
  have frame := State.reply_outside t fn code l 2151677969 (by decide)
  obtain ⟨lds, keys, patches, dram, heads⟩ := h
  refine ⟨fun k other => ?_, (keys_of_outside frame (by decide)).trans keys,
    (patches_of_outside frame (by decide)).trans patches, (dram_of_outside frame (by decide)).trans dram,
    (heads_of_outside frame (by decide)).trans heads⟩
  exact (State.ld_of_outside frame (by decide) k).trans (lds k other)

theorem State.sparesOthers.ite (h : s.sparesOthers fn t) (g : s.sparesOthers fn r) {c : Prop} [Decidable c] :
    s.sparesOthers fn (if c then t else r) := by
  split
  · exact h
  · exact g

/-- A command spares the other functions when its work does: its refusals are replies. -/
theorem command_sparesOthers {mgmt inRec : Bool} {f : State → State} (work : s.sparesOthers fn (f s.begin))
    (step : s.command fn mgmt inRec f = .next t) : s.sparesOthers fn t := by
  have begun := s.sparesOthers_begin fn
  rw [← Host.Outcome.next.inj step]
  exact .ite (.ite (begun.reply _ _) (.ite (begun.reply _ _) work)) begun

end

/-- Settles O16: each of the four commands replies, or changes what is kept for its own function and replies. -/
theorem mailboxSettingsStayWithTheirFunction : Obligations.MailboxSettingsStayWithTheirFunction := by
  unfold Obligations.MailboxSettingsStayWithTheirFunction
  intro fn n m b l s t c mem step
  have begun := s.sparesOthers_begin fn
  simp only [List.mem_cons, List.not_mem_nil, or_false] at mem
  rcases mem with rfl | rfl | rfl | rfl
  · rw [show exec (.setEventInterruptPolicy fn l) s = _ from execSetEventInterruptPolicy.eq_def fn l s] at step
    exact command_sparesOthers (.ite (begun.reply _ _) (.reply (begun.modLd _) _ _)) step
  · rw [show exec (.setAlertConfiguration fn l) s = _ from execSetAlertConfiguration.eq_def fn l s] at step
    exact command_sparesOthers (.reply (begun.modLd _) _ _) step
  · rw [show exec (.clearEventRecords fn n b l) s = _ from execClearEventRecords.eq_def fn n b l s] at step
    refine command_sparesOthers (.ite (begun.reply _ _) (.ite (begun.reply _ _) (.reply ?_ _ _))) step
    exact begun.modLd _
  · rw [show exec (.scanMedia fn n m) s = _ from execScanMedia.eq_def fn n m s] at step
    refine command_sparesOthers ?_ step
    split
    · exact begun.reply _ _
    · exact .ite (begun.reply _ _) (.reply (begun.modLd _) _ _)

end Sys2Proof.Machine

/-!
PROOF. The MCTP control commands, the JTAG port and a saturated converter (15_two_wire_buses R459; 11_fabric_ports R317;
21_balls_and_package R580; 13_backup_energy R379).
-/

namespace Sys2Proof.Machine

section

variable {s : State}

/-- An MCTP control command does its work where MCTP is served. -/
theorem State.mctpControl_of_ready {P : State → Prop} (f : State → State) (ready : s.mctpReady = true) (work : P (f s.begin)) :
    ∃ t, s.mctpControl f = .next t ∧ P t := yields_occurs ready work

theorem exec_setEndpointId_takes {eid : Nat} (ready : s.mctpReady = true) (low : 8 ≤ eid) (high : eid ≤ 254) :
    ∃ t, exec (.setEndpointId eid) s = .next t ∧ t.get Reg.TW0_STATUS_EID = eid ∧
      t.tw0 = { s.tw0 with replies := s.tw0.replies ++ [(.success, [eid])] } := by
  show ∃ t, execSetEndpointId eid s = .next t ∧ _
  refine State.mctpControl_of_ready _ ready ?_
  rw [if_neg (by omega)]
  refine ⟨?_, rfl⟩
  exact (State.get_put_same _ _ _ (by decide)).trans (Nat.mod_eq_of_lt (high.trans_lt (by decide)))

theorem exec_setEndpointId_refuses {eid : Nat} (ready : s.mctpReady = true) (out : eid < 8 ∨ 254 < eid) :
    ∃ t, exec (.setEndpointId eid) s = .next t ∧ t.regs = s.regs ∧
      t.tw0 = { s.tw0 with replies := s.tw0.replies ++ [(.invalidInput, [])] } := by
  show ∃ t, execSetEndpointId eid s = .next t ∧ _
  refine State.mctpControl_of_ready _ ready ?_
  rw [if_pos out]
  exact ⟨rfl, rfl⟩

theorem exec_getEndpointId_answers (ready : s.mctpReady = true) : ∃ t, exec .getEndpointId s = .next t ∧ t.regs = s.regs ∧
    t.tw0 = { s.tw0 with replies := s.tw0.replies ++ [(.success, [s.get Reg.TW0_STATUS_EID])] } := by
  show ∃ t, execGetEndpointId s = .next t ∧ _
  exact State.mctpControl_of_ready _ ready ⟨rfl, rfl⟩

theorem exec_getMessageTypeSupport_answers (ready : s.mctpReady = true) :
    ∃ t, exec .getMessageTypeSupport s = .next t ∧ t.regs = s.regs ∧ t.tw0 = { s.tw0 with
      replies := s.tw0.replies ++ [(.success, if s.inRecovery then [0x00, 0x08] else [0x00, 0x07, 0x08])] } := by
  show ∃ t, execGetMessageTypeSupport s = .next t ∧ _
  exact State.mctpControl_of_ready _ ready ⟨rfl, rfl⟩

theorem exec_getMctpVersionSupport_answers (ready : s.mctpReady = true) :
    ∃ t, exec .getMctpVersionSupport s = .next t ∧ t.regs = s.regs ∧
      ∃ v, t.tw0 = { s.tw0 with replies := s.tw0.replies ++ [(.success, [v])] } := by
  show ∃ t, execGetMctpVersionSupport s = .next t ∧ _
  exact State.mctpControl_of_ready _ ready ⟨rfl, _, rfl⟩

theorem exec_setLdAllocations_refuses (served : s.fnServed 16 = true) :
    ∃ t, exec .setLdAllocations s = .next t ∧ .mailbox 16 .unsupported [] ∈ t.out ∧ t.regs = s.regs := by
  show ∃ t, execSetLdAllocations s = .next t ∧ _
  exact yields_occurs served ⟨State.reply_mem _ _ _ _, rfl⟩

/-- EXTEST and HIGHZ act as BYPASS while PORST_N is high, every other instruction as itself. -/
theorem State.jtagActs_eq (s : State) (op : JtagOp) :
    s.jtagActs op = if s.pins.porstN ∧ (op = .extest ∨ op = .highz) then .bypass else op := by
  cases op <;> simp [State.jtagActs]

theorem exec_jtagInstruction_loads (op : JtagOp) (s : State) :
    ∃ t, exec (.jtagInstruction op) s = .next t ∧ t.pins = { s.pins with jtag := op } ∧ t.regs = s.regs ∧
      t.out = (if op = .idcode then [.jtag .idcode, .word 0x14860A5F#32] else
        [.jtag (if s.pins.porstN ∧ (op = .extest ∨ op = .highz) then .bypass else op)]) := by
  refine ⟨_, execJtagInstruction.eq_def op s, ?_⟩
  rw [← State.jtagActs_eq]
  by_cases idcode : op = .idcode
  · subst idcode
    rw [if_pos rfl, if_pos rfl]
    exact ⟨by simp, by simp, rfl⟩
  · rw [if_neg idcode, if_neg idcode]
    exact ⟨by simp, by simp, rfl⟩

theorem exec_convSat_shows (s : State) :
    ∃ t, exec .convSat s = .next t ∧ t.flag Reg.GAUGE_STATUS_CONV_SAT = true ∧ t.pends 0x470 = true := by
  refine ⟨_, execConvSat.eq_def s, ?_, State.event_pends _ _ _ _⟩
  exact (State.flag_event _ _ _ _ _ (by decide) (by decide)).trans (State.flag_putB_same _ _ _ (by decide) rfl)

end

/-- Settles O54, each command by its lemma above; the bounds of an endpoint ID are log entry 53's. -/
theorem mctpJtagAndSaturationAnswer : Obligations.MctpJtagAndSaturationAnswer := by
  unfold Obligations.MctpJtagAndSaturationAnswer
  refine ⟨fun eid s ready => ⟨?_, ?_, ?_, ?_, ?_⟩, fun s served => exec_setLdAllocations_refuses served,
    exec_jtagInstruction_loads, exec_convSat_shows⟩
  · exact fun low high => exec_setEndpointId_takes ready low high
  · exact fun out => exec_setEndpointId_refuses ready out
  · exact exec_getEndpointId_answers ready
  · exact exec_getMessageTypeSupport_answers ready
  · exact exec_getMctpVersionSupport_answers ready

end Sys2Proof.Machine

/-!
PROOF. Secure Erase and Sanitize of one LD and of the whole device, the switch of keys, and the end of a scan (11_fabric_ports
R336 to R342).
-/

namespace Sys2Proof.Machine

/-! ## Parts of the state that the steps leave -/

/-- A reply that reports no failure raises no message, so it changes no register. -/
theorem State.reply_regs_of_not_fails (s : State) (fn : FnIx) {code : RetCode} (works : codeFails code = false) (l : List Nat) :
    (s.reply fn code l).regs = s.regs := by
  unfold State.reply
  dsimp only
  rw [if_neg (ne_true_of_eq_false works)]
  split
  · rfl
  · split <;> rfl

theorem State.reply_ld (s : State) (fn : FnIx) (code : RetCode) (l : List Nat) (k : Nat) : (s.reply fn code l).ld k = s.ld k :=
  State.ld_of_outside (State.reply_outside s fn code l 2151677969 (by decide)) (by decide) k

/-- What one step of a fold brings about and the others keep holds after the fold. -/
theorem State.each_reaches {α : Type} {P : State → Prop} {l : List α} {f : State → α → State} {a : α} (mem : a ∈ l)
    (does : ∀ s, P (f s a)) (keeps : ∀ s b, P s → P (f s b)) (s : State) : P (s.each l f) := by
  obtain ⟨before, after, rfl⟩ := List.append_of_mem mem
  rw [State.each, List.foldl_append, List.foldl_cons]
  exact State.each_preserves (does _) fun t b _ => keeps t b

/-! ## The erase of one LD (R337) -/

theorem ldBase_ge (k : Nat) : 0x081000 ≤ ldBase k := Nat.le_add_right _ _

/-- Revoking an LD's patches writes registers of the restore block and those of the message that ends a restore. -/
theorem State.rd_revokeLd (s : State) (k : Nat) {x : Nat} (h : 0x031000 ≤ x) : (s.revokeLd k).rd x = s.rd x := by
  unfold State.revokeLd
  dsimp only
  rw [State.each_proj (State.rd · x) fun t q _ => t.rd_judgeFilled q (by omega) (by omega) (by omega) (by omega)]
  refine (State.each_proj (State.rd · x) (fun t p _ => ?_) _).trans (State.each_proj (State.rd · x) (fun t q _ => ?_) s)
  · rfl
  · refine State.rd_congr ?_ x
    exact (regs_of_outside (State.abortReads_outside _ q k 2147484160 (by decide)) (by decide)).trans
      (regs_of_outside (State.abortVersions_outside t q k 2560 (by decide)) (by decide))

/-- Asking for the refill of a tenant slot writes the gauge's status alone: a learned write is wanted. -/
theorem State.rd_refillTenant (s : State) (fn : FnIx) (k : Nat) {x : Nat} (h : x ≠ 0x050000) :
    (s.refillTenant fn k).rd x = s.rd x := by
  unfold State.refillTenant
  split
  · rfl
  · exact (State.rd_putB_other _ _ _ h).trans rfl

theorem BgCmd.kind_of_draws (b : Option BgCmd) (d : Bool) :
    (b.map fun b => { b with draws := d }).map BgCmd.kind = b.map BgCmd.kind := by
  cases b <;> rfl

/-- Whether the draw waits or not, the background command and the LD's not being ready stand. -/
theorem State.refillTenant_ld (s : State) (fn : FnIx) (k : Nat) :
    ((s.refillTenant fn k).ld fn).notReady = (s.ld fn).notReady ∧
      ((s.refillTenant fn k).ld fn).bg.map BgCmd.kind = (s.ld fn).bg.map BgCmd.kind := by
  unfold State.refillTenant
  split
  · rw [State.modLd_same]
    exact ⟨rfl, BgCmd.kind_of_draws _ _⟩
  · dsimp only
    rw [State.wantLearned, State.putB_ld, State.modLd_same]
    exact ⟨rfl, BgCmd.kind_of_draws _ _⟩

/-- An erase of an LD has begun on its function: the reply is out, the erase is the background command, the LD is not ready
and shows itself busy. -/
def State.eraseBegun (t : State) (fn : FnIx) (kind : BgKind) : Prop :=
  .mailbox fn .backgroundStarted [] ∈ t.out ∧ (t.ld fn).notReady = true ∧ (t.ld fn).bg.map BgCmd.kind = some kind ∧
    t.flag (Reg.LD_STATUS_MEDIA_BUSY fn) = true

theorem State.eraseLd_begins {s : State} {fn : FnIx} (kind : BgKind) (busy : s.flag (Reg.LD_STATUS_MEDIA_BUSY fn) = true) :
    (s.eraseLd fn fn kind true).eraseBegun fn kind := by
  unfold State.eraseLd
  simp only [if_true]
  generalize begun : State.modLd (State.modLd s fn _) fn _ = u
  obtain ⟨held, erasing⟩ : (u.ld fn).notReady = true ∧ (u.ld fn).bg.map BgCmd.kind = some kind := by
    rw [← begun, State.modLd_same, State.modLd_same]
    exact ⟨rfl, rfl⟩
  have erased := State.urgentErase_outside u (tenantSlot fn) 2147516928 (by decide)
  have lds : ((u.urgentErase (tenantSlot fn)).revokeLd fn).ld fn = u.ld fn :=
    (State.ld_of_outside (State.revokeLd_outside _ fn 2147486545 (by decide)) (by decide) _).trans
      (State.ld_of_outside erased (by decide) _)
  have status : (((u.urgentErase (tenantSlot fn)).revokeLd fn).refillTenant fn fn).rd (Reg.LD_STATUS_MEDIA_BUSY fn).off =
      s.rd (Reg.LD_STATUS_MEDIA_BUSY fn).off := by
    rw [State.rd_refillTenant _ _ _ (by have := ldBase_ge fn; simp only [Reg.LD_STATUS_MEDIA_BUSY]; omega),
      State.rd_revokeLd _ _ (by have := ldBase_ge fn; simp only [Reg.LD_STATUS_MEDIA_BUSY]; omega),
      State.rd_congr (regs_of_outside erased (by decide)), ← begun]
    rfl
  obtain ⟨notReady, bg⟩ := State.refillTenant_ld ((u.urgentErase (tenantSlot fn)).revokeLd fn) fn fn
  refine ⟨State.reply_mem _ _ _ _, ?_, ?_, ?_⟩
  · rw [State.reply_ld, notReady, lds, held]
  · rw [State.reply_ld, bg, lds, erasing]
  · exact (State.flag_of_rd ((State.rd_congr (State.reply_regs_of_not_fails _ _ rfl _) _).trans status)).trans busy

/-! ## The erase of the device (R336, R340) -/

/-- The draw of the device's new keys writes no lock. -/
theorem State.drawDeviceKeys_eraseLock (s : State) : s.drawDeviceKeys.fabric.eraseLock = s.fabric.eraseLock := by
  unfold State.drawDeviceKeys
  split
  · rfl
  · dsimp only
    generalize drawn : List.foldl _ _ _ = r
    have kept : r.2.fabric = s.fabric := by
      rw [← drawn]
      refine List.foldlRecOn (motive := fun b : List Key × State => b.2.fabric = s.fabric) _ _ rfl fun b kept _ _ => ?_
      exact kept
    show r.2.fabric.eraseLock = s.fabric.eraseLock
    rw [kept]

/-- An erase of the device has begun on a management function: the reply is out, the device is locked for it, and every LD is
not ready. -/
def State.deviceEraseBegun (t : State) (fn : FnIx) : Prop :=
  .mailbox fn .backgroundStarted [] ∈ t.out ∧ t.fabric.eraseLock = some fn.val ∧ ∀ k : Fin 16, (t.ld k).notReady = true

theorem State.eraseDevice_begins (s : State) (fn : FnIx) (sanitize : Bool) : (s.eraseDevice fn sanitize).deviceEraseBegun fn := by
  unfold State.eraseDevice
  dsimp only
  refine ⟨State.reply_mem _ _ _ _, ?_, fun k => ?_⟩
  · rw [fabric_of_outside (State.reply_outside _ _ _ _ 2151677969 (by decide)) (by decide), State.drawDeviceKeys_eraseLock]
    rfl
  · rw [State.reply_ld, State.ld_of_outside (State.drawDeviceKeys_outside _ 49153 (by decide)) (by decide),
      State.modFabric_ld]
    refine State.each_reaches (P := fun t => (t.ld k).notReady = true) (List.mem_range.mpr k.isLt) (fun t => ?_)
      (fun t j ready => ?_) _
    · rw [State.putB_ld, State.modLd_same]
    · rw [State.putB_ld]
      by_cases same : k.val = j
      · rw [same, State.modLd_same]
      · rw [State.modLd_other _ _ _ same, ready]

/-! ## SECURE_ERASE and SANITIZE (R336, R337) -/

section

variable {fn : FnIx} {s : State}

theorem State.eraseCommand_of_tenant (sanitize : Bool) (idle : s.flag Reg.PERS_STATUS_SAVE_ACTIVE = false)
    (free : (s.ld fn).bg = none) (tenant : s.isMgmtFn fn = false) (unlocked : s.fabric.eraseLock = none) :
    (s.eraseCommand fn sanitize).eraseBegun fn (.erase sanitize) := by
  simp only [State.eraseCommand, idle, free, tenant, unlocked, Option.isSome_none, Bool.or_self, Bool.false_eq_true, if_false]
  exact State.eraseLd_begins _ (State.flag_putB_same _ _ _ (show 0 + 1 ≤ 32 by decide) rfl)

theorem State.eraseCommand_of_mgmt (sanitize : Bool) (idle : s.flag Reg.PERS_STATUS_SAVE_ACTIVE = false)
    (free : (s.ld fn).bg = none) (mgmt : s.isMgmtFn fn = true) (unlocked : s.lockHeld = false) :
    (s.eraseCommand fn sanitize).deviceEraseBegun fn := by
  simp only [State.eraseCommand, idle, free, mgmt, unlocked, Option.isSome_none, Bool.or_self, Bool.false_eq_true, if_false,
    if_true]
  exact State.eraseDevice_begins _ _ _

/-- SECURE_ERASE where its function is served, no other command of the frame taking the lock before it. -/
theorem exec_secureErase (served : s.fnServed fn = true) (run : s.inRecovery = false)
    (kept : s.lockLost (.secureErase fn) = false) : exec (.secureErase fn) s = .next (s.begin.eraseCommand fn false) := by
  have kept' : s.begin.lockLost (.secureErase fn) = false := kept
  have work := exec_of_command (c := .secureErase fn) (execSecureErase.eq_def fn s) served run
    fun no => absurd no Bool.false_ne_true
  rw [work, kept', if_neg Bool.false_ne_true]

/-- SANITIZE likewise. -/
theorem exec_sanitize (served : s.fnServed fn = true) (run : s.inRecovery = false) (kept : s.lockLost (.sanitize fn) = false) :
    exec (.sanitize fn) s = .next (s.begin.eraseCommand fn true) := by
  have kept' : s.begin.lockLost (.sanitize fn) = false := kept
  have work := exec_of_command (c := .sanitize fn) (execSanitize.eq_def fn s) served run
    fun no => absurd no Bool.false_ne_true
  rw [work, kept', if_neg Bool.false_ne_true]

/-- A command that takes no lock loses it to no other. -/
theorem State.lockLost_of_takesLock {c : Instr} (takes : s.takesLock c = none) : s.lockLost c = false := by
  unfold State.lockLost
  rw [takes]

theorem takesLock_of_tenant (tenant : s.isMgmtFn fn = false) :
    s.takesLock (.secureErase fn) = none ∧ s.takesLock (.sanitize fn) = none := by
  simp [State.takesLock, tenant]

end

/-! ## The switch of keys (R340) -/

theorem State.programCopy_ledger (s : State) (r : Record) (chan k : Nat) (ok : Bool) :
    (s.programCopy r chan k ok).2.image.ledger = s.image.ledger := by
  unfold State.programCopy
  split
  · rfl
  · next n _ =>
    have charged : (s.chargeWear (n / 32)).image.ledger = s.image.ledger :=
      congrArg Image.ledger (image_of_outside (State.chargeWear_outside s _ 513 (by decide)) (by decide))
    have recorded : ∀ t : State, (t.addCopy chan { record := r, copy := k, good := ok }).image.ledger = t.image.ledger :=
      fun _ => rfl
    dsimp only
    split
    · rw [recorded, charged]
    · rw [State.event_image, recorded, charged]

theorem State.writeCopy_ledger (s : State) (r : Record) (k : Nat) (ok retryOk : Bool) :
    (s.writeCopy r k ok retryOk).2.image.ledger = s.image.ledger := by
  have first := s.programCopy_ledger r (copyChan r.seq k) k ok
  unfold State.writeCopy
  split
  next t step => rw [step] at first; exact first
  next t step =>
    rw [step] at first
    exact (State.programCopy_ledger t _ _ _ _).trans first

theorem State.writeRecord_ledger (s : State) (r : Record) (ok : List Bool) :
    (s.writeRecord r ok).2.2.image.ledger = s.image.ledger := by
  unfold State.writeRecord
  dsimp only
  have numbered : ∀ t : State, ((t.putRecordSeq r.seq).invoke 0).image = t.image := fun _ => rfl
  split
  · rw [State.modImage_same]
    dsimp only
    rw [numbered, State.writeCopy_ledger, State.writeCopy_ledger]
  · rw [numbered, State.writeCopy_ledger, State.writeCopy_ledger]

theorem State.tryRunOpen_ledger (r : Record) (ok : List Bool) (n : Nat) (s : State) :
    (s.tryRunOpen r ok n).2.image.ledger = s.image.ledger := by
  induction n generalizing s ok with
  | zero => rfl
  | succ n ih =>
    have written := s.writeRecord_ledger { r with seq := s.get64 0x030808 0x03080C + 1 } ok
    unfold State.tryRunOpen
    dsimp only
    split
    · exact written
    · exact (ih _ _).trans written

theorem State.rewriteSlot_image (s : State) (slot source use : Nat) (persist : Bool) (k : Key) :
    (s.rewriteSlot slot source use persist k).image = s.image := rfl

theorem State.openGeneration_ledger (s : State) (g : Nat) : (s.openGeneration g).image.ledger = s.image.ledger := by
  unfold State.openGeneration
  dsimp only
  have counts : ∀ t : State, (t.each (List.range 4) fun s q => (s.modQuad q fun d => { d with encCount := 0 }).put
      (Reg.CIPH_QCOUNT_COUNT q) 0).image = t.image :=
    State.each_proj State.image fun u q _ => by rw [State.put_image, State.modQuad_image]
  split
  · rw [State.rewriteSlot_image, counts, State.put_image, State.modImage_same]
  · rw [counts, State.put_image, State.modImage_same]

/-- The end of the keys' switch: the keys are switched, none waits, and no ledger entry is left. -/
def State.keysSwitched (t : State) : Prop := t.fabric.switched = true ∧ t.fabric.newKeys = none ∧ t.image.ledger = []

/-- Whether a copy of the RUN_OPEN reads back or none does, the keys stay switched (R340). -/
theorem State.keysSwitched.openRoot {s : State} (h : s.keysSwitched) (ok : List Bool) : (s.openRoot ok).keysSwitched := by
  have ledger := State.tryRunOpen_ledger { s.newRecord .runOpen 0 with gen := 0 } ok 4 s
  have fabric : (s.tryRunOpen { s.newRecord .runOpen 0 with gen := 0 } ok 4).2.fabric = s.fabric :=
    fabric_of_outside (State.tryRunOpen_outside s _ ok 4 33553 (by decide)) (by decide)
  obtain ⟨switched, none_, empty⟩ := h
  rw [← ledger] at empty
  rw [← fabric] at switched none_
  unfold State.openRoot
  split
  next t step =>
    rw [step] at switched none_ empty
    have opened : (t.openGeneration 0).fabric = t.fabric :=
      fabric_of_outside (State.openGeneration_outside t 0 33537 (by decide)) (by decide)
    refine ⟨?_, ?_, (State.openGeneration_ledger t 0).trans empty⟩
    · exact (congrArg Fabric.switched opened).trans switched
    · exact (congrArg Fabric.newKeys opened).trans none_
  next t step =>
    rw [step] at switched none_ empty
    exact ⟨switched, none_, empty⟩

theorem State.dropImage_ledger (s : State) : s.dropImage.image.ledger = [] := by
  unfold State.dropImage
  dsimp only
  rw [State.each_proj State.image fun t q _ => image_of_outside (State.judgeFilled_outside t q 17 (by decide)) (by decide)]
  rfl

theorem State.keySwitch_switches {s : State} {keys : List Key} (ok : List Bool) (drawn : s.fabric.newKeys = some keys) :
    (s.keySwitch ok).keysSwitched := by
  unfold State.keySwitch
  rw [drawn]
  refine State.keysSwitched.openRoot ?_ ok
  unfold State.keysSwitched
  rw [fabric_of_outside (State.dropImage_outside _ 8017 (by decide)) (by decide)]
  exact ⟨rfl, rfl, State.dropImage_ledger _⟩

theorem exec_deviceEraseKeySwitch_switches {s : State} {keys : List Key} (ok : List Bool)
    (locked : s.fabric.eraseLock.isSome = true) (recorded : s.fabric.recordDone = true) (unopened : s.fabric.rootOpened = false)
    (drawn : s.fabric.newKeys = some keys) : ∃ t, exec (.deviceEraseKeySwitch ok) s = .next t ∧ t.keysSwitched := by
  show ∃ t, execDeviceEraseKeySwitch ok s = .next t ∧ _
  exact yields_occurs (by rw [locked, recorded, unopened]; rfl) (State.keySwitch_switches (s := s.begin) ok drawn)

/-! ## The end of a scan (R341, R342) -/

/-- What a line that a scan finds uncorrectable is treated with leaves the registers of the LDs. -/
theorem State.rd_engineUe_host (s : State) (n dpa : Nat) (addrErr : Bool) (who acc : Nat) {x : Nat} (h : 0x031000 ≤ x) :
    (s.engineUe n (.host dpa) addrErr who acc).rd x = s.rd x := by
  have event : ∀ t : State, (t.ueEvent dpa addrErr Sev.uncorrected who acc).rd x = t.rd x := fun t => by
    obtain ⟨sc, rank⟩ := t.locOf_lt dpa
    refine State.rd_raise _ _ _ ?_ (by omega)
    show x ≠ 0x023000 + 0x4 * (24 * (t.locOf dpa).sc + (t.locOf dpa).rank)
    omega
  have listed : ∀ t : State, (t.addPoison (lineOf dpa) .internal).rd x = t.rd x := fun t =>
    State.rd_congr (regs_of_outside (State.addPoison_outside t _ _ 16384 (by decide)) (by decide)) x
  unfold State.engineUe
  dsimp only
  split
  · rw [State.poisonLine, event, listed]
    exact State.rd_congr (regs_of_outside (State.writeLine_outside s _ _ 805306368 (by decide)) (by decide)) x
  · split
    · rfl
    · split
      · exact State.rd_congr (regs_of_outside (State.startHeal_outside s _ _ _ _ _ 2560 (by decide)) (by decide)) x
      · rw [State.healRefused, State.rd_bump_other _ _ _ (by simp only [Reg.HEAL_COUNT_POISON_VALUE]; omega), event, listed]

theorem State.scanDone_bg (s : State) (fn : FnIx) (start len : Nat) (bad : List Nat) :
    ((s.scanDone fn start len bad).ld fn).bg = (s.ld fn).bg := by
  unfold State.scanDone
  dsimp only
  rw [State.modLd_same]
  dsimp only
  rw [State.each_proj (State.ld · fn) fun t a _ =>
    State.ld_of_outside (State.engineUe_outside t _ _ _ _ _ 2957008465 (by decide)) (by decide) _]

theorem State.scanDone_ldHead (s : State) (fn : FnIx) (start len : Nat) (bad : List Nat) (k : Nat) :
    (s.scanDone fn start len bad).ldHead k = s.ldHead k := by
  unfold State.scanDone State.ldHead
  dsimp only
  rw [State.modLd_get]
  have head := ldBase_ge k
  refine State.get_of_rd (State.each_proj (State.rd · _) (fun t a _ => ?_) s)
  exact State.rd_engineUe_host _ _ _ _ _ _ (by simp only [Reg.LD_CFG_HEAD]; omega)

theorem exec_backgroundCommandDone_ends {fn : FnIx} {s : State} {b : BgCmd} {start len : Nat} (bad : List Nat)
    (running : (s.ld fn).bg = some b) (scan : b.kind = .scan start len) (on : s.mainOff = false)
    (cluster : s.cluster.running = true) (idle : s.flag Reg.PERS_STATUS_SAVE_ACTIVE = false) (own : fn.val < 16) :
    ∃ t, exec (.backgroundCommandDone fn bad) s = .next t ∧ (t.ld fn).bg = none ∧ .msix fn 0 ∈ t.out ∧
      t.pends (srcHead (s.ldHead fn) 8) = true := by
  have ready : s.bgReady fn b = true := by
    unfold State.bgReady
    rw [scan]
  show ∃ t, execBackgroundCommandDone fn bad s = .next t ∧ _
  unfold execBackgroundCommandDone
  rw [running]
  refine yields_occurs (by rw [on, cluster, idle, ready]; rfl) ?_
  unfold State.bgDone
  rw [scan]
  dsimp only [State.bgWork]
  rw [if_pos own]
  refine ⟨?_, ?_, ?_⟩
  · rw [State.event_ld, State.emit_ld, State.scanDone_bg, State.modLd_same]
  · rw [State.event_out]
    exact List.mem_append_right _ (List.mem_singleton.mpr rfl)
  · rw [State.scanDone_ldHead]
    exact State.event_pends _ _ _ _

/-- Settles O52, each command by its lemma above: a tenant's command takes no lock, so none of the frame takes it before; the
ledger is empty whatever the RUN_OPEN's copies show (log entry 62). -/
theorem erasesRunInTheBackground : Obligations.ErasesRunInTheBackground := by
  unfold Obligations.ErasesRunInTheBackground
  refine ⟨?_, ?_, ?_, ?_⟩
  · intro fn s served run idle free tenant unlocked _
    obtain ⟨erase, sanitize⟩ := takesLock_of_tenant (fn := fn) tenant
    exact ⟨⟨_, exec_secureErase served run (State.lockLost_of_takesLock erase),
        State.eraseCommand_of_tenant false idle free tenant unlocked⟩,
      ⟨_, exec_sanitize served run (State.lockLost_of_takesLock sanitize),
        State.eraseCommand_of_tenant true idle free tenant unlocked⟩⟩
  · exact fun fn s served run idle free mgmt unlocked =>
      ⟨fun kept => ⟨_, exec_secureErase served run kept, State.eraseCommand_of_mgmt false idle free mgmt unlocked⟩,
        fun kept => ⟨_, exec_sanitize served run kept, State.eraseCommand_of_mgmt true idle free mgmt unlocked⟩⟩
  · exact fun ok s keys locked recorded unopened drawn =>
      exec_deviceEraseKeySwitch_switches ok locked recorded unopened drawn
  · exact fun fn bad s b start len running scan on cluster idle own =>
      exec_backgroundCommandDone_ends bad running scan on cluster idle own

end Sys2Proof.Machine

/-!
PROOF. One statement that fails (12_cipher_and_keys R348, R352): a blob loaded over a key that control engine requests are bound to
leaves the slot RETIRING, its old key kept for them.
-/

namespace Sys2Proof.Machine

theorem State.reply_slot (s : State) (fn : FnIx) (code : RetCode) (l : List Nat) (k : Nat) : (s.reply fn code l).slot k = s.slot k := by
  unfold State.slot
  rw [keys_of_outside (State.reply_outside s fn code l 2151677969 (by decide)) (by decide)]

/-- R352: the requests bound to a slot's key keep it through an ordinary change. -/
theorem State.changeSlot_of_bound {s : State} {k : Nat} (v : Slot) (keyed : (s.slot k).key.isSome = true) (bound : s.boundTo k ≠ 0) :
    (s.changeSlot k v).slot k = { v with old := (s.slot k).key, oldBound := s.boundTo k, st := .retiring } := by
  have kept : ¬ ((s.slot k).key.isNone = true ∨ s.boundTo k = 0) := by
    rw [← Option.not_isSome, keyed]
    simpa using bound
  unfold State.changeSlot
  rw [State.modSlot_same, if_neg kept]

/-- What R348 makes of an acceptable blob for a general slot whose present key, if any, was not loaded with PERSIST either: the
slot's change, at once. -/
theorem State.loadBlob_general {s : State} {b : KeyBlob} (fn : FnIx) (idle : s.flag Reg.PERS_STATUS_SAVE_ACTIVE = false)
    (ok : s.blobOk b = true) (general : 27 ≤ b.target) (still : s.slotChanging b.target = false) (volatile : b.persist = false)
    (was : (s.slot b.target).persist = false) :
    s.loadBlob fn b = (s.changeSlot b.target { (s.slot b.target).fill b.target 1 b.use b.persist (.given b.key) with
      gen := ((s.slot b.target).gen + 1) % 65536, old := none, oldBound := 0 }).reply fn .success [] := by
  have noTenant : slotTenant b.target = false := by
    unfold slotTenant
    simp only [Bool.and_eq_false_imp, decide_eq_true_eq, decide_eq_false_iff_not]
    omega
  have notFixed : fixedPersist b.target = false := by
    unfold fixedPersist
    simp only [Bool.or_eq_false_iff, decide_eq_false_iff_not]
    omega
  simp [State.loadBlob, State.slotCommand, Slot.fill, idle, ok, still, noTenant, notFixed, volatile, was]

/-- LOAD_KEY_BLOB of an acceptable blob over a key that requests are bound to: the slot is RETIRING (R352). -/
theorem loadKeyBlob_retires {fn : FnIx} {b : KeyBlob} {s t : State} (served : s.fnServed fn = true) (run : s.inRecovery = false)
    (mgmt : s.isMgmtFn fn = true) (idle : s.flag Reg.PERS_STATUS_SAVE_ACTIVE = false) (ok : s.blobOk b = true)
    (general : 27 ≤ b.target) (still : s.slotChanging b.target = false) (volatile : b.persist = false)
    (was : (s.slot b.target).persist = false) (keyed : (s.slot b.target).key.isSome = true) (bound : s.boundTo b.target ≠ 0)
    (step : exec (.loadKeyBlob fn b) s = .next t) : (t.slot b.target).st = .retiring := by
  have works : exec (.loadKeyBlob fn b) s = .next (s.begin.loadBlob fn b) :=
    exec_of_command (c := .loadKeyBlob fn b) (execLoadKeyBlob.eq_def fn b s) served run fun _ => mgmt
  rw [← Host.Outcome.next.inj (works.symm.trans step),
    State.loadBlob_general (s := s.begin) fn idle ok general still volatile was, State.reply_slot,
    State.changeSlot_of_bound (s := s.begin) _ keyed bound]

/-- A key for slot 30, wrapped under slot 27. -/
def newKeyBlob : KeyBlob := { target := 30, wrap := 27, intact := true, key := 77, slot := 30, use := 4, persist := false }

/-- The running device with an unwrapping key in slot 27 and a key in slot 30, a CMAC request bound to the latter in progress. -/
def boundKeyState : State := { wRun with keys := { State.reset.keys with
  slots := [(27, { st := .valid, use := 16, key := some (.fixed 2) }), (30, { st := .valid, use := 8, key := some (.fixed 3) })]
  ctrlActive := some { id := 0, who := 2, cls := 1, slot := 30, slotGen := 0, mode := .cmac } } }

/-- Refutes O53: an ordinary change of a slot moves a key that requests are bound to to RETIRING (R352), and the first clause does not
ask that no request is bound to the target's key. -/
theorem not_keysAreLoadedErasedAndServed : ¬ Obligations.KeysAreLoadedErasedAndServed := by
  unfold Obligations.KeysAreLoadedErasedAndServed
  rintro ⟨load, -⟩
  have served : boundKeyState.fnServed 0 = true := by decide +kernel
  have mgmt : boundKeyState.isMgmtFn (0 : FnIx) = true := by decide +kernel
  have idle : boundKeyState.flag Reg.PERS_STATUS_SAVE_ACTIVE = false := by decide +kernel
  have ok : boundKeyState.blobOk newKeyBlob = true := by decide +kernel
  obtain ⟨t, step, -, valid, -⟩ := load 0 newKeyBlob boundKeyState served rfl mgmt idle ok (by decide) rfl rfl rfl
  have retires : (t.slot newKeyBlob.target).st = .retiring :=
    loadKeyBlob_retires served rfl mgmt idle ok (by decide) rfl rfl rfl rfl (by decide) step
  exact absurd (valid.symm.trans retires) (by decide)

end Sys2Proof.Machine

/-!
PROOF. What every command leaves as it was, and what it keeps (95_what_each_step_holds; 18_firmware_update R519, R525): the frames of
the two boundaries, which the laws of Laws/Frame* leave out, and from the table touches the invariant and the fuses.
-/

namespace Sys2Proof.Machine

/-! ## FRAME_BOUNDARY's parts (R15, R16, R25 to R28, R425, R442, R482, R496) -/

@[simp] theorem State.missedDone_outside (s : State) (u fm : Nat) (hfm : 524307 &&& fm = 524307) :
    (s.missedDone u).outside fm = s.outside fm :=
  outside_mono hfm (by simp [State.missedDone])

@[simp] theorem State.heartbeat_outside (s : State) (missing : List Nat) (fm : Nat) (hfm : 524307 &&& fm = 524307) :
    (s.heartbeat missing).outside fm = s.outside fm :=
  outside_mono hfm (by simp [State.heartbeat])

@[simp] theorem State.ringToken_outside (s : State) (silent : List Nat) (g fm : Nat) (hfm : 17 &&& fm = 17) :
    (s.ringToken silent g).outside fm = s.outside fm :=
  outside_mono hfm (by simp [State.ringToken])

@[simp] theorem State.treesDelivered_outside (s : State) (fm : Nat) (hfm : 3 &&& fm = 3) :
    s.treesDelivered.outside fm = s.outside fm :=
  outside_mono hfm (by simp [State.treesDelivered])

@[simp] theorem State.judgeObservers_outside (s : State) (silent : List Nat) (fm : Nat) (hfm : 17 &&& fm = 17) :
    (s.judgeObservers silent).outside fm = s.outside fm :=
  outside_mono hfm (by simp [State.judgeObservers])

@[simp] theorem State.resetTaken_outside (s : State) (fm : Nat) (hfm : 2282004305 &&& fm = 2282004305) :
    s.resetTaken.outside fm = s.outside fm := by
  refine outside_mono hfm ?_
  unfold State.resetTaken
  simp only [apply_ite (State.outside 2282004305)]
  simp

@[simp] theorem State.publish_outside (s : State) (missing : List Nat) (fm : Nat) (hfm : 3 &&& fm = 3) :
    (s.publish missing).outside fm = s.outside fm :=
  outside_mono hfm (by simp [State.publish])

@[simp] theorem State.railSample_outside (s : State) (k raw fm : Nat) (hfm : 131089 &&& fm = 131089) :
    (s.railSample k raw).outside fm = s.outside fm := by
  refine outside_mono hfm ?_
  unfold State.railSample
  extract_lets c published out counted warn warned
  have publishedFrame : published.outside 131089 = s.outside 131089 := by simp [published]
  clear_value published
  have countedFrame : counted.outside 131089 = s.outside 131089 := by simp [counted, publishedFrame]
  clear_value counted
  have warnedFrame : warned.outside 131089 = s.outside 131089 := by simp [warned, countedFrame]
  clear_value warned
  simp only [apply_ite (State.outside 131089)]
  simp [*]

@[simp] theorem State.railSamples_outside (s : State) (l : List (Nat × Nat)) (fm : Nat) (hfm : 131089 &&& fm = 131089) :
    (s.railSamples l).outside fm = s.outside fm := by
  refine outside_mono hfm (State.each_outside _ _ _ _ fun s k => ?_)
  split
  · exact State.railSample_outside _ _ _ _ rfl
  · rfl

@[simp] theorem State.sampleGf_outside (s : State) (outside : Bool) (fm : Nat) (hfm : 524289 &&& fm = 524289) :
    (s.sampleGf outside).outside fm = s.outside fm :=
  outside_mono hfm (by simp [State.sampleGf])

@[simp] theorem State.paces_outside (s : State) (fm : Nat) (hfm : 512 &&& fm = 512) : s.paces.outside fm = s.outside fm :=
  outside_mono hfm (by simp [State.paces])

@[simp] theorem State.unitsFrame_outside (s : State) (i : FrameIn) (fm : Nat) (hfm : 2959996499 &&& fm = 2959996499) :
    (s.unitsFrame i).outside fm = s.outside fm :=
  outside_mono hfm (by simp [State.unitsFrame])

@[simp] theorem State.frameEnds_outside (s : State) (i : FrameIn) (fm : Nat) (hfm : 2282659667 &&& fm = 2282659667) :
    (s.frameEnds i).outside fm = s.outside fm :=
  outside_mono hfm (by simp [State.frameEnds])

@[simp] theorem State.frameBoundary_outside (s : State) (i : FrameIn) (fm : Nat) (hfm : 3094347607 &&& fm = 3094347607) :
    (s.frameBoundary i).outside fm = s.outside fm :=
  outside_mono hfm (by simp [State.frameBoundary])

theorem execFrameBoundary_outside (i : FrameIn) (s : State) (fm : Nat) (hfm : 3094347607 &&& fm = 3094347607) :
    s.framedBy fm (execFrameBoundary i s) :=
  State.framedBy_mono hfm (occurs_outside s _ _ _ rfl fun x => x.frameBoundary_outside i _ rfl)

/-! ## SUPERFRAME_BOUNDARY's parts (R26, R45 to R47, R242, R496) -/

@[simp] theorem State.clockCheck_outside (s : State) (xtal aon fm : Nat) (hfm : 17 &&& fm = 17) :
    (s.clockCheck xtal aon).outside fm = s.outside fm :=
  outside_mono hfm (by simp [State.clockCheck])

@[simp] theorem State.plumbMismatch_outside (s : State) (f : Nat × Nat × Bool) (fm : Nat) (hfm : 1073741845 &&& fm = 1073741845) :
    (s.plumbMismatch f).outside fm = s.outside fm :=
  outside_mono hfm (by simp [State.plumbMismatch])

@[simp] theorem State.plumbCheck_outside (s : State) (folds : List (Nat × Nat × Bool)) (fm : Nat)
    (hfm : 1073741845 &&& fm = 1073741845) : (s.plumbCheck folds).outside fm = s.outside fm :=
  outside_mono hfm (by simp [State.plumbCheck])

@[simp] theorem State.dieTemps_outside (s : State) (l : List (Option Int)) (fm : Nat) (hfm : 262161 &&& fm = 262161) :
    (s.dieTemps l).outside fm = s.outside fm :=
  outside_mono hfm (by simp [State.dieTemps])

@[simp] theorem State.judgeLimits_outside (s : State) (fm : Nat) (hfm : 1 &&& fm = 1) : s.judgeLimits.outside fm = s.outside fm :=
  outside_mono hfm (by simp [State.judgeLimits])

@[simp] theorem State.scSuperframe_outside (s : State) (n fm : Nat) (hfm : 1041 &&& fm = 1041) :
    (s.scSuperframe n).outside fm = s.outside fm :=
  outside_mono hfm (by simp [State.scSuperframe])

@[simp] theorem State.skimRate_outside (s : State) (fm : Nat) (hfm : 513 &&& fm = 513) : s.skimRate.outside fm = s.outside fm :=
  outside_mono hfm (by simp [State.skimRate])

@[simp] theorem State.railRetries_outside (s : State) (fm : Nat) (hfm : 1 &&& fm = 1) : s.railRetries.outside fm = s.outside fm :=
  outside_mono hfm (by simp [State.railRetries])

@[simp] theorem State.superframeBoundary_outside (s : State) (i : SuperIn) (fm : Nat) (hfm : 3223127575 &&& fm = 3223127575) :
    (s.superframeBoundary i).outside fm = s.outside fm :=
  outside_mono hfm (by simp [State.superframeBoundary])

theorem execSuperframeBoundary_outside (i : SuperIn) (s : State) (fm : Nat) (hfm : 3223127575 &&& fm = 3223127575) :
    s.framedBy fm (execSuperframeBoundary i s) :=
  State.framedBy_mono hfm (occurs_outside s _ _ _ rfl fun x => x.superframeBoundary_outside i _ rfl)

/-! ## The frame of every command -/

/-- The parts that touches names cover all that a command changes, the boundaries' parts among them. -/
theorem exec_framedBy_parts (c : Instr) (s : State) : s.framedBy (partsMask (touches c)) (exec c s) := by
  by_cases frame : ∃ i, c = .frameBoundary i
  · obtain ⟨i, rfl⟩ := frame
    exact execFrameBoundary_outside i s _ (by dsimp only [touches]; decide)
  · by_cases super : ∃ i, c = .superframeBoundary i
    · obtain ⟨i, rfl⟩ := super
      exact execSuperframeBoundary_outside i s _ (by dsimp only [touches]; decide)
    · exact exec_framedBy_touches s (fun i same => frame ⟨i, same⟩) fun i same => super ⟨i, same⟩

/-- Two states that agree outside the parts of a list agree in each part beside them. -/
theorem Part.same_of_outside {p : Part} {l : List Part} {s t : State} (framed : t.outside (partsMask l) = s.outside (partsMask l))
    (absent : p ∉ l) : p.same s t := by
  by_cases queue : p = .pending
  · subst queue
    exact pending_of_outside framed
  · have clear := partsMask_testBit_of_not_mem absent queue
    cases p with
    | regs => exact regs_of_outside framed clear
    | tick => exact tick_of_outside framed clear
    | plumb => exact plumb_of_outside framed clear
    | paths => exact paths_of_outside framed clear
    | events => exact events_of_outside framed clear
    | cluster => exact cluster_of_outside framed clear
    | patches => exact patches_of_outside framed clear
    | retired => exact retired_of_outside framed clear
    | image => exact image_of_outside framed clear
    | quads => exact quads_of_outside framed clear
    | scs => exact scs_of_outside framed clear
    | dies => exact dies_of_outside framed clear
    | heads => exact heads_of_outside framed clear
    | lds => exact lds_of_outside framed clear
    | fabric => exact fabric_of_outside framed clear
    | keys => exact keys_of_outside framed clear
    | gauge => exact gauge_of_outside framed clear
    | rails => exact rails_of_outside framed clear
    | seq => exact seq_of_outside framed clear
    | pins => exact pins_of_outside framed clear
    | group => exact group_of_outside framed clear
    | save => exact save_of_outside framed clear
    | tw0 => exact tw0_of_outside framed clear
    | tws => exact tws_of_outside framed clear
    | cfg => exact cfg_of_outside framed clear
    | otp => exact otp_of_outside framed clear
    | upd => exact upd_of_outside framed clear
    | shake => exact shake_of_outside framed clear
    | dram => exact dram_of_outside framed clear
    | poison => exact poison_of_outside framed clear
    | fresh => exact fresh_of_outside framed clear
    | pending => exact absurd rfl queue

/-- A command's next state agrees with the state before outside the parts that touches names. -/
theorem exec_outside {c : Instr} {s t : State} (step : exec c s = .next t) :
    t.outside (partsMask (touches c)) = s.outside (partsMask (touches c)) :=
  show s.framedBy _ (.next t) from step ▸ exec_framedBy_parts c s

/-- A part that touches does not name for a command is the same after it. -/
theorem Part.same_of_exec {c : Instr} {s t : State} {p : Part} (step : exec c s = .next t) (absent : p ∉ touches c) : p.same s t :=
  Part.same_of_outside (exec_outside step) absent

/-- Settles O5, by the frame of every command. -/
theorem commandsTouchOnlyTheirParts : Obligations.CommandsTouchOnlyTheirParts := by
  unfold Obligations.CommandsTouchOnlyTheirParts
  exact fun c s t p step absent => Part.same_of_exec step absent

/-! ## The invariant (R519, R525) -/

theorem Keeps.of_parts {c : Instr} {s t : State} (step : exec c s = .next t) (dram : Part.dram ∉ touches c)
    (otp : Part.otp ∉ touches c) : Keeps s t := by
  have bytes : t.dram = s.dram := Part.same_of_exec step dram
  have fuses : t.otp = s.otp := Part.same_of_exec step otp
  have queue : t.pending = s.pending := pending_of_outside (exec_outside step)
  exact Keeps.of_kept (by simp only [State.kept, bytes, fuses, queue])

/-- Every command keeps the invariant, the fuses and the queue: one that names neither DRAM nor the fuses by its frame, every
other one by its law. -/
theorem exec_keeps {c : Instr} {s t : State} (step : exec c s = .next t) : Keeps s t := by
  by_cases apart : Part.dram ∉ touches c ∧ Part.otp ∉ touches c
  · exact Keeps.of_parts step apart.1 apart.2
  · suffices h : s.keepsBy (exec c s) from show s.keepsBy (.next t) from step ▸ h
    cases c
    case frameBoundary i => exact execFrameBoundary_keeps i s
    case aonPowerApply straps => exact execAonPowerApply_keeps straps s
    case aonReset => exact execAonReset_keeps s
    case registerWrite l => exact execRegisterWrite_keeps l s
    case broadcastWrite a => exact execBroadcastWrite_keeps a s
    case dramCommandIssue sc i => exact execDramCommandIssue_keeps sc i s
    case dramReadData l => exact execDramReadData_keeps l s
    case healComplete q patch lines => exact execHealComplete_keeps q patch lines s
    case trackingStep sc res => exact execTrackingStep_keeps sc res s
    case dramWriteCrcAlert sc rank fails res => exact execDramWriteCrcAlert_keeps sc rank fails res s
    case migrationChunk q bad => exact execMigrationChunk_keeps q bad s
    case porstNAssert => exact execPorstNAssert_keeps s
    case configLoad i => exact execConfigLoad_keeps i s
    case warmLoad i => exact execWarmLoad_keeps i s
    case fillComplete q patch => exact execFillComplete_keeps q patch s
    case quadrantRefill q lost => exact execQuadrantRefill_keeps q lost s
    case powerDownStage slow => exact execPowerDownStage_keeps slow s
    case tw0RegWrite l => exact execTw0RegWrite_keeps l s
    case updBootOk p => exact execUpdBootOk_keeps p s
    case activateFwOffline fn slot high => exact execActivateFwOffline_keeps fn slot high s
    case injectPoison fn addr => exact execInjectPoison_keeps fn addr s
    case clearPoison fn addr data => exact execClearPoison_keeps fn addr data s
    case backgroundCommandDone fn bad => exact execBackgroundCommandDone_keeps fn bad s
    all_goals exact absurd ⟨by simp [touches], by simp [touches]⟩ apart

theorem Keeps.inv {s t : State} (h : Keeps s t) (inv : s.inv) : t.inv := ⟨h.dram inv.1, h.fuseMax inv.2⟩

/-- Settles O3: at reset no byte of DRAM is listed and no fuse is blown. -/
theorem theInvariantHoldsAtReset : Obligations.TheInvariantHoldsAtReset := by
  unfold Obligations.TheInvariantHoldsAtReset
  exact ⟨rfl, Nat.zero_le 64⟩

/-- A step with nothing waiting changes nothing. -/
theorem step_of_idle {s : State} (idle : s.pending = []) : step s = .next s := by
  simp only [step, idle]

/-- A step with commands waiting is the oldest one's, on the rest of the queue. -/
theorem step_of_waiting {s : State} {c : Instr} {rest : List Instr} (waiting : s.pending = c :: rest) :
    step s = exec c (s.withPending rest) := by
  simp only [step, waiting]

/-- Settles O1: a step is the front command's, or nothing. -/
theorem aStepRunsTheFrontCommand : Obligations.AStepRunsTheFrontCommand := by
  unfold Obligations.AStepRunsTheFrontCommand
  exact ⟨fun c s l => step_of_waiting rfl, fun s idle => step_of_idle idle⟩

/-- Settles O4: an idle step changes nothing, and the front command keeps both halves of the invariant. -/
theorem everyStepKeepsTheInvariant : Obligations.EveryStepKeepsTheInvariant := by
  unfold Obligations.EveryStepKeepsTheInvariant
  intro s t inv taken
  cases queue : s.pending with
  | nil =>
    rw [step_of_idle queue] at taken
    cases taken
    exact inv
  | cons c rest =>
    rw [step_of_waiting queue] at taken
    exact (exec_keeps taken).inv inv

/-! ## The fuses (R513, R525) -/

theorem svn_of_kept {s t : State} (h : t.kept = s.kept) : t.otp.svn = s.otp.svn := congrArg (·.2.1.svn) h

/-- A load reads the Undercoat and blows no security version fuse. -/
theorem State.loadBegins_svn (s : State) (i : LoadIn) : (s.loadBegins i).otp.svn = s.otp.svn := by
  have read : (s.loadBegins i).kept = State.kept { s with otp := { s.otp with
      undercoat := i.undercoat, undercoatOk := (List.range 4).map fun b => i.undercoatOk.getD b false } } := by
    simp [State.loadBegins, State.readUndercoat]
  exact (svn_of_kept read).trans rfl

theorem State.configLoad_svn (s : State) (i : LoadIn) : (s.configLoad i).otp.svn = s.otp.svn := by
  have tried : (s.loadBegins i).copiesTried.2.otp.svn = s.otp.svn :=
    (svn_of_kept (State.copiesTried_kept _)).trans (s.loadBegins_svn i)
  unfold State.configLoad
  dsimp only
  split
  · exact tried
  · exact (svn_of_kept (State.copyApplied_kept _ _ _ _)).trans tried

theorem State.warmStarts_svn (s : State) (i : LoadIn) (k : Nat) : (s.warmStarts i k).otp.svn = s.otp.svn := by
  refine (State.loadBegins_svn _ i).trans (svn_of_kept ?_)
  simp

theorem State.warmCopies_svn (s : State) (i : LoadIn) (origin k : Nat) : (s.warmCopies i origin k).otp.svn = s.otp.svn := by
  have tried : ((s.warmStarts i k).tryCopies true false (s.warmStarts i k).sameLayout).2.otp.svn = s.otp.svn :=
    (svn_of_kept (State.tryCopies_kept _ _ _ _)).trans (s.warmStarts_svn i k)
  unfold State.warmCopies
  dsimp only
  split
  · exact tried
  · exact (svn_of_kept (State.warmApplied_kept _ _ _ _)).trans tried

theorem State.warmLoad_svn (s : State) (i : LoadIn) : (s.warmLoad i).otp.svn = s.otp.svn := by
  have begun : s.warmBegins.otp.svn = s.otp.svn := svn_of_kept s.warmBegins_kept
  unfold State.warmLoad
  cases s.warmBegins.chooseFw with
  | none => exact begun
  | some k => exact (State.warmCopies_svn _ _ _ _).trans begun

theorem occurs_svn {s t : State} {c : Bool} {f : State → State} (h : ∀ x, (f x).otp.svn = x.otp.svn)
    (step : occurs c s f = .next t) : t.otp.svn = s.otp.svn := by
  unfold occurs at step
  split at step <;> cases step
  · exact h s.begin
  · rfl

/-- A command that is no register write leaves the number of blown fuses. -/
theorem exec_svn_of_no_write {c : Instr} {s t : State} (step : exec c s = .next t) (boot : ∀ p, c ≠ .updBootOk p)
    (write : ∀ l, c ≠ .registerWrite l) (broadcast : ∀ a, c ≠ .broadcastWrite a) (tw0 : ∀ l, c ≠ .tw0RegWrite l) :
    t.otp.svn = s.otp.svn := by
  by_cases apart : Part.otp ∉ touches c
  · exact congrArg Otp.svn (Part.same_of_exec (p := .otp) step apart)
  · cases c
    case updBootOk p => exact absurd rfl (boot p)
    case registerWrite l => exact absurd rfl (write l)
    case broadcastWrite a => exact absurd rfl (broadcast a)
    case tw0RegWrite l => exact absurd rfl (tw0 l)
    case configLoad i => exact occurs_svn (fun x => x.configLoad_svn i) step
    case warmLoad i => exact occurs_svn (fun x => x.warmLoad_svn i) step
    all_goals exact absurd (by simp [touches]) apart

/-- Settles O6: what every command keeps, and that a command that is no write of UPD_BOOT leaves the fuses. -/
theorem fusesAreOnlyBlownByAGoodBoot : Obligations.FusesAreOnlyBlownByAGoodBoot := by
  unfold Obligations.FusesAreOnlyBlownByAGoodBoot
  intro c s t step
  have keeps := exec_keeps step
  refine ⟨keeps.fuses, keeps.pending, fun blown => ?_⟩
  by_contra none_
  simp only [not_or, not_exists] at none_
  obtain ⟨boot, write, broadcast, tw0⟩ := none_
  exact blown (exec_svn_of_no_write step boot write broadcast tw0)

end Sys2Proof.Machine

/-!
PROOF. The controller segments TW1 to TW4 (15_two_wire_buses R463 to R472): what a transaction that starts, ends, loses arbitration
or times out leaves of its segment and TW_STATUS, and what a bus clear leaves.
-/

namespace Sys2Proof.Machine

/-! ## Registers above the event counters -/

/-- A message changes no register from 0x030000 on: EVT_COUNT of every source lies below. -/
theorem State.rd_event_above (s : State) {src : Nat} (kind sev : Nat) {x : Nat} (low : src < 0x500) (high : 0x030000 ≤ x) :
    (s.event src kind sev).rd x = s.rd x := State.rd_event _ _ _ _ (by omega) (by omega)

theorem State.get_event_above (s : State) {src : Nat} (kind sev : Nat) {f : Fld} (low : src < 0x500) (high : 0x030000 ≤ f.off) :
    (s.event src kind sev).get f = s.get f := State.get_of_rd (s.rd_event_above kind sev low high)

theorem State.flag_event_above (s : State) {src : Nat} (kind sev : Nat) {f : Fld} (low : src < 0x500) (high : 0x030000 ≤ f.off) :
    (s.event src kind sev).flag f = s.flag f := State.flag_of_rd (s.rd_event_above kind sev low high)

/-! ## A segment's registers -/

theorem twBase_ge (n : Nat) : 0x070000 ≤ twBase n := Nat.le_add_right _ _

theorem srcTw_lt (k : TwIx) {off : Nat} (small : off < 8) : srcTw (segNo k) off < 0x500 := by
  have := k.isLt
  unfold srcTw segNo
  omega

/-- TW_STATUS lies above the event counters. -/
theorem TW_STATUS_ge (n : Nat) : 0x030000 ≤ twBase n + 0x4 :=
  (by decide : 0x030000 ≤ 0x070000).trans ((twBase_ge n).trans (Nat.le_add_right _ _))

theorem TW_STATUS_LAST_apart (n : Nat) : (Reg.TW_STATUS_LAST n).apart (Reg.TW_STATUS_CONFLICT n) = true ∧
    (Reg.TW_STATUS_LAST n).apart (Reg.TW_STATUS_SCL_TIMEOUT n) = true := by
  simp [Fld.apart, Reg.TW_STATUS_LAST, Reg.TW_STATUS_CONFLICT, Reg.TW_STATUS_SCL_TIMEOUT]

/-- A flag of TW_STATUS that is set reads back. -/
theorem State.flag_putB_tw (s : State) (n : Nat) (b : Bool) :
    (s.putB (Reg.TW_STATUS_BUSY n) b).flag (Reg.TW_STATUS_BUSY n) = b ∧
    (s.putB (Reg.TW_STATUS_CONFLICT n) b).flag (Reg.TW_STATUS_CONFLICT n) = b ∧
    (s.putB (Reg.TW_STATUS_SCL_TIMEOUT n) b).flag (Reg.TW_STATUS_SCL_TIMEOUT n) = b ∧
    (s.putB (Reg.TW_STATUS_SDA_TIMEOUT n) b).flag (Reg.TW_STATUS_SDA_TIMEOUT n) = b ∧
    (s.putB (Reg.TW_STATUS_HUNG n) b).flag (Reg.TW_STATUS_HUNG n) = b :=
  have bit (f : Fld) (h : f.lo + f.width ≤ 32) (w : f.width = 1) : (s.putB f b).flag f = b := State.flag_putB_same s f b h w
  ⟨bit _ (by simp [Reg.TW_STATUS_BUSY]) rfl, bit _ (by simp [Reg.TW_STATUS_CONFLICT]) rfl,
    bit _ (by simp [Reg.TW_STATUS_SCL_TIMEOUT]) rfl, bit _ (by simp [Reg.TW_STATUS_SDA_TIMEOUT]) rfl,
    bit _ (by simp [Reg.TW_STATUS_HUNG]) rfl⟩

theorem State.modTw_tw_same (s : State) (n : Nat) (f : Tw → Tw) : (s.modTw n f).tw n = f (s.tw n) := sparseGet_upd_same _ _ _ _

/-! ## The end of a transaction (R443, R465) -/


theorem State.burnorSend_out (s : State) (n : Nat) (r : TwReq) (code : Nat) : (s.burnorSend n r code).out = s.out :=
  out_of_outside (State.burnorSend_outside s n r code 8388625 rfl) (by decide)

/-- The segment and its TW_STATUS once a transaction has ended: what follows counts and answers. -/
def State.twCleared (s : State) (n : Nat) (r : TwReq) (code : Nat) : State :=
  (((s.burnorSend n r code).modTw n fun t => { t with current := none, losses := 0 }).putB (Reg.TW_STATUS_BUSY n) false).put
    (Reg.TW_STATUS_LAST n) code

/-- The count of failed transactions after an end. -/
def State.twFailCounted (s : State) (n code : Nat) : State :=
  if code = 0 then s else s.bump (Reg.TW_COUNT_FAIL_COUNT n) 1

theorem State.twEnds_eq (s : State) (n : Nat) (r : TwReq) (code : Nat) (data : List Byte) : s.twEnds n r code data =
    if ((s.twCleared n r code).twFailCounted n code).twServes n r
    then ((s.twCleared n r code).twFailCounted n code).emit (.twEnd n r.who code data)
    else (s.twCleared n r code).twFailCounted n code := rfl

theorem State.rd_twFailCounted (s : State) (n code : Nat) : (s.twFailCounted n code).rd (twBase n + 0x4) = s.rd (twBase n + 0x4) := by
  unfold State.twFailCounted
  split
  · rfl
  · exact State.rd_bump_other _ _ _ (by simp [Reg.TW_COUNT_FAIL_COUNT])

theorem State.twFailCounted_tws (s : State) (n code : Nat) : (s.twFailCounted n code).tws = s.tws := by
  unfold State.twFailCounted
  split <;> rfl

theorem State.twFailCounted_out (s : State) (n code : Nat) : (s.twFailCounted n code).out = s.out := by
  unfold State.twFailCounted
  split <;> rfl

/-- A transaction that ends leaves its segment free, BUSY clear and its code in LAST. -/
theorem State.twEnds_shows (s : State) (n : Nat) (r : TwReq) {code : Nat} (data : List Byte) (small : code < 8) :
    ((s.twEnds n r code data).tw n).current = none ∧ (s.twEnds n r code data).flag (Reg.TW_STATUS_BUSY n) = false ∧
      (s.twEnds n r code data).get (Reg.TW_STATUS_LAST n) = code := by
  have word : (s.twEnds n r code data).rd (twBase n + 0x4) = (s.twCleared n r code).rd (twBase n + 0x4) := by
    rw [State.twEnds_eq]
    split <;> exact State.rd_twFailCounted _ n code
  have segment : (s.twEnds n r code data).tw n = (s.twCleared n r code).tw n := by
    rw [State.twEnds_eq]
    split <;> exact congrArg (sparseGet {} · n) (State.twFailCounted_tws _ n code)
  refine ⟨?_, (State.flag_of_rd word).trans ?_, (State.get_of_rd word).trans ?_⟩
  · rw [segment, State.twCleared, State.put_tw, State.putB_tw, State.modTw_tw_same]
  · have apart : (Reg.TW_STATUS_BUSY n).apart (Reg.TW_STATUS_LAST n) = true := by
      simp [Fld.apart, Reg.TW_STATUS_BUSY, Reg.TW_STATUS_LAST]
    exact (State.flag_put_other _ _ _ _ (by simp [Reg.TW_STATUS_LAST]) apart).trans (State.flag_putB_tw _ n false).1
  · exact (State.get_put_same _ _ _ (by simp [Reg.TW_STATUS_LAST])).trans (Nat.mod_eq_of_lt small)

/-- All that an end shows outside is the answer to its requester. -/
theorem State.twEnds_out (s : State) (n : Nat) (r : TwReq) (code : Nat) (data : List Byte) {o : Out}
    (shown : o ∈ (s.twEnds n r code data).out) : o ∈ s.out ∨ o = .twEnd n r.who code data := by
  have before : ((s.twCleared n r code).twFailCounted n code).out = s.out :=
    (State.twFailCounted_out _ n code).trans (s.burnorSend_out n r code)
  rw [State.twEnds_eq] at shown
  split at shown
  · rw [State.emit_out, before] at shown
    simpa using shown
  · exact .inl (before ▸ shown)

/-- What a result reports beside the end itself (R472, R475). -/
def State.twReports (s : State) (n : Nat) : TwResult → State
  | .pecErr => s.event (srcTw n 5) 1 Sev.note
  | .conflict => (s.putB (Reg.TW_STATUS_CONFLICT n) true).event (srcTw n 4) 1 Sev.degraded
  | _ => s

theorem exec_twTransactionEnd {k : TwIx} {r : TwResult} {data : List Byte} {s : State} {q : TwReq}
    (current : (s.tw (segNo k)).current = some q) (runs : s.twRuns = true)
    (allowed : r = .conflict → segNo k ≠ 1 ∧ segNo k ≠ 4) :
    exec (.twTransactionEnd k r data) s =
      .next ((s.begin.twEnds (segNo k) q (twCode r) data).twReports (segNo k) r) := by
  show execTwTransactionEnd k r data s = _
  have goes : (s.twRuns && !(decide (r = .conflict) && (decide (segNo k = 1) || decide (segNo k = 4)))) = true := by
    by_cases conflict : r = .conflict
    · obtain ⟨not1, not4⟩ := allowed conflict
      simp [runs, not1, not4]
    · simp [runs, conflict]
  simp only [execTwTransactionEnd, current]
  rw [occurs, if_pos goes]
  cases r <;> rfl

theorem twCode_lt (r : TwResult) : twCode r < 8 := by cases r <;> decide

/-- What a report leaves of the segment: every result but CONFLICT leaves TW_STATUS. -/
theorem State.twReports_tws (s : State) (n : Nat) (r : TwResult) : (s.twReports n r).tws = s.tws := by
  cases r <;> simp [State.twReports]

theorem State.rd_twReports (s : State) (k : TwIx) {r : TwResult} (quiet : r ≠ .conflict) :
    (s.twReports (segNo k) r).rd (twBase (segNo k) + 0x4) = s.rd (twBase (segNo k) + 0x4) := by
  cases r with
  | conflict => exact absurd rfl quiet
  | pecErr => exact State.rd_event_above _ _ _ (srcTw_lt k (by decide)) (TW_STATUS_ge _)
  | ok => rfl
  | nackAddr => rfl
  | nackData => rfl

theorem twTransactionEnd_ends {k : TwIx} {r : TwResult} (data : List Byte) {s : State} {q : TwReq}
    (current : (s.tw (segNo k)).current = some q) (runs : s.twRuns = true) (quiet : r ≠ .conflict) :
    ∃ t, exec (.twTransactionEnd k r data) s = .next t ∧ (t.tw (segNo k)).current = none ∧
      t.flag (Reg.TW_STATUS_BUSY (segNo k)) = false ∧ t.get (Reg.TW_STATUS_LAST (segNo k)) = twCode r ∧
      (r = .pecErr → t.pends (srcTw (segNo k) 5) = true) := by
  refine ⟨_, exec_twTransactionEnd current runs fun conflict => absurd conflict quiet, ?_⟩
  obtain ⟨free, busy, last⟩ := s.begin.twEnds_shows (segNo k) q data (twCode_lt r)
  have word := (s.begin.twEnds (segNo k) q (twCode r) data).rd_twReports k quiet
  refine ⟨?_, (State.flag_of_rd word).trans busy, (State.get_of_rd word).trans last, ?_⟩
  · rw [State.tw, State.twReports_tws]
    exact free
  · rintro rfl
    exact State.event_pends _ _ _ _

theorem twTransactionEnd_conflict {k : TwIx} (data : List Byte) {s : State} {q : TwReq}
    (current : (s.tw (segNo k)).current = some q) (runs : s.twRuns = true) (bus : segNo k = 2 ∨ segNo k = 3) :
    ∃ t, exec (.twTransactionEnd k .conflict data) s = .next t ∧ (t.tw (segNo k)).current = none ∧
      t.get (Reg.TW_STATUS_LAST (segNo k)) = 7 ∧ t.flag (Reg.TW_STATUS_CONFLICT (segNo k)) = true ∧
      t.pends (srcTw (segNo k) 4) = true ∧ (∀ o ∈ t.out, ∀ a b r, o ≠ .twTx (segNo k) a b r) := by
  refine ⟨_, exec_twTransactionEnd current runs fun _ => by omega, ?_⟩
  obtain ⟨free, -, last⟩ := s.begin.twEnds_shows (segNo k) q data (twCode_lt .conflict)
  have low : srcTw (segNo k) 4 < 0x500 := srcTw_lt k (by decide)
  refine ⟨?_, ?_, ?_, State.event_pends _ _ _ _, ?_⟩
  · rw [State.tw, State.twReports_tws]
    exact free
  · refine (State.get_event_above _ _ _ low (TW_STATUS_ge _)).trans ?_
    exact (State.get_putB_other _ _ _ _ (by simp [Reg.TW_STATUS_CONFLICT]) (TW_STATUS_LAST_apart _).1).trans last
  · exact (State.flag_event_above _ _ _ low (TW_STATUS_ge _)).trans (State.flag_putB_tw _ _ true).2.1
  · intro o shown a b r
    rw [State.twReports, State.event_out] at shown
    rcases State.twEnds_out _ _ _ _ _ shown with none_ | answer
    · exact absurd none_ (List.not_mem_nil)
    · rw [answer]
      exact Out.noConfusion

/-- Settles O12, by the end of a transaction with CONFLICT. -/
theorem conflictsEndTransactionsOnTw2AndTw3 : Obligations.ConflictsEndTransactionsOnTw2AndTw3 := by
  unfold Obligations.ConflictsEndTransactionsOnTw2AndTw3
  exact fun k l s q current runs bus => twTransactionEnd_conflict l current runs bus

/-! ## The start of a transaction (R29, R463) -/

/-- A requester that asks alone at a port is granted (R29). -/
theorem grant_single (p n : Nat) (x : Nat × Bool × Nat) : grant p n [x] = some x.1 := rfl

theorem twTransactionStart_begins {k : TwIx} {r : TwReq} {s : State} (serves : s.twServes (segNo k) r = true)
    (runs : s.twRuns = true) (free : (s.tw (segNo k)).current = none) (whole : s.flag (Reg.TW_STATUS_HUNG (segNo k)) = false)
    (cleared : (s.tw (segNo k)).clearFirst = false) : ∃ t, exec (.twTransactionStart k [r]) s = .next t ∧
      (t.tw (segNo k)).current = some r ∧ t.flag (Reg.TW_STATUS_BUSY (segNo k)) = true ∧
      t.out = [.twTx (segNo k) r.addr r.bytes r.reads] := by
  show ∃ t, execTwTransactionStart k [r] s = .next t ∧ _
  have alone : [r].filter (fun r => s.twServes (segNo k) r) = [r] := by simp [serves]
  unfold execTwTransactionStart
  simp only [alone, List.map_cons, List.map_nil, grant_single, List.find?_cons, decide_true]
  refine yields_occurs (by simp [runs, free, cleared]) ?_
  have whole' : s.begin.flag (Reg.TW_STATUS_HUNG (segNo k)) = false := whole
  rw [whole', if_neg Bool.false_ne_true]
  refine ⟨?_, (State.flag_putB_tw _ _ true).1, rfl⟩
  rw [State.twBegins, State.emit_tw, State.putB_tw, State.modTw_tw_same]

/-! ## Arbitration (R470, R471) -/

theorem twArbRetry_retries {k : TwIx} (b : Fin 16) {s : State} {q : TwReq} (current : (s.tw (segNo k)).current = some q)
    (runs : s.twRuns = true) (bus : segNo k = 1 ∨ segNo k = 4) (few : (s.tw (segNo k)).losses < 15) :
    ∃ t, exec (.twArbRetry k b) s = .next t ∧ (t.tw (segNo k)).current = some q ∧
      (t.tw (segNo k)).losses = (s.tw (segNo k)).losses + 1 ∧ t.out = [.twTx (segNo k) q.addr q.bytes q.reads] := by
  show ∃ t, execTwArbRetry k b s = .next t ∧ _
  simp only [execTwArbRetry, current]
  refine yields_occurs (by simpa [runs] using bus) ?_
  rw [if_neg (show ¬ 16 ≤ (s.begin.tw (segNo k)).losses + 1 from Nat.not_le.mpr (Nat.succ_lt_succ few))]
  refine ⟨?_, ?_, rfl⟩
  · rw [State.emit_tw, State.modTw_tw_same]
    exact current
  · rw [State.emit_tw, State.modTw_tw_same]
    rfl

/-! ## Time-outs (R466, R467) -/

theorem State.rd_twPulse (s : State) (k : TwIx) {x : Nat} (high : 0x030000 ≤ x) : (s.twPulse (segNo k)).rd x = s.rd x :=
  State.rd_event_above _ _ _ (srcTw_lt k (by decide)) high

theorem State.twPulse_tw (s : State) (n m : Nat) : (s.twPulse n).tw m = s.tw m := State.event_tw _ _ _ _ _

theorem State.twPulse_pends_other (s : State) (n : Nat) {x : Nat} (waits : s.pends x = true) : (s.twPulse n).pends x = true :=
  State.event_pends_other _ _ _ _ _ waits

/-- The end of a transaction whose SCL stays low, with its message. -/
def State.sclTimedOut (s : State) (n : Nat) (q : TwReq) : State :=
  ((s.twEnds n q 5 []).putB (Reg.TW_STATUS_SCL_TIMEOUT n) true).event (srcTw n 0) 1 Sev.degraded

theorem State.sclTimedOut_shows (s : State) (k : TwIx) (q : TwReq) : ((s.sclTimedOut (segNo k) q).tw (segNo k)).current = none ∧
    (s.sclTimedOut (segNo k) q).get (Reg.TW_STATUS_LAST (segNo k)) = 5 ∧
    (s.sclTimedOut (segNo k) q).flag (Reg.TW_STATUS_SCL_TIMEOUT (segNo k)) = true ∧
    (s.sclTimedOut (segNo k) q).pends (srcTw (segNo k) 0) = true := by
  obtain ⟨free, -, last⟩ := s.twEnds_shows (segNo k) q [] (code := 5) (by decide)
  have low : srcTw (segNo k) 0 < 0x500 := srcTw_lt k (by decide)
  refine ⟨?_, ?_, ?_, State.event_pends _ _ _ _⟩
  · rw [State.sclTimedOut, State.event_tw]
    exact free
  · refine (State.get_event_above _ _ _ low (TW_STATUS_ge _)).trans ?_
    exact (State.get_putB_other _ _ _ _ (by simp [Reg.TW_STATUS_SCL_TIMEOUT]) (TW_STATUS_LAST_apart _).2).trans last
  · exact (State.flag_event_above _ _ _ low (TW_STATUS_ge _)).trans (State.flag_putB_tw _ _ true).2.2.1

theorem twSclTimeout_ends {k : TwIx} (still : Bool) {s : State} {q : TwReq} (current : (s.tw (segNo k)).current = some q)
    (runs : s.twRuns = true) : ∃ t, exec (.twSclTimeout k still) s = .next t ∧ (t.tw (segNo k)).current = none ∧
      t.get (Reg.TW_STATUS_LAST (segNo k)) = 5 ∧ t.flag (Reg.TW_STATUS_SCL_TIMEOUT (segNo k)) = true ∧
      t.pends (srcTw (segNo k) 0) = true := by
  show ∃ t, execTwSclTimeout k still s = .next t ∧ _
  simp only [execTwSclTimeout, current]
  refine yields_occurs runs ?_
  obtain ⟨free, last, flag, waits⟩ := s.begin.sclTimedOut_shows k q
  cases still with
  | false => exact ⟨free, last, flag, waits⟩
  | true =>
    have word := (s.begin.sclTimedOut (segNo k) q).rd_twPulse k (TW_STATUS_ge (segNo k))
    exact ⟨(congrArg Tw.current (State.twPulse_tw _ _ _)).trans free, (State.get_of_rd word).trans last,
      (State.flag_of_rd word).trans flag, State.twPulse_pends_other _ _ waits⟩

theorem twSdaTimeout_shows (k : TwIx) {s : State} (runs : s.twRuns = true) : ∃ t, exec (.twSdaTimeout k) s = .next t ∧
    t.flag (Reg.TW_STATUS_SDA_TIMEOUT (segNo k)) = true ∧ t.pends (srcTw (segNo k) 1) = true := by
  show ∃ t, execTwSdaTimeout k s = .next t ∧ _
  refine yields_occurs runs ⟨?_, State.event_pends _ _ _ _⟩
  exact (State.flag_event_above _ _ _ (srcTw_lt k (by decide)) (TW_STATUS_ge _)).trans (State.flag_putB_tw _ _ true).2.2.2.1

/-! ## Bus clears (R467, R468) -/

/-- A bus clear counted, with its superframe noted and TW_RST_N pulsed where step 1 did not free the bus. -/
def State.clearTried (s : State) (n : Nat) (freedAt : Option (Fin 3)) : State :=
  let s := (s.bump (Reg.TW_COUNT_CLEAR_COUNT n) 1).modTw n fun t => { t with hungSf := s.sf, clearFirst := false }
  if freedAt = some 0 then s else s.twPulse n

theorem State.busClear_eq (s : State) (n : Nat) (freedAt : Option (Fin 3)) : s.busClear n freedAt =
    if freedAt.isSome then (s.clearTried n freedAt).putB (Reg.TW_STATUS_HUNG n) false
    else if (s.clearTried n freedAt).flag (Reg.TW_STATUS_HUNG n) then s.clearTried n freedAt
    else ((s.clearTried n freedAt).putB (Reg.TW_STATUS_HUNG n) true).event (srcTw n 2) 1 Sev.degraded := rfl

theorem State.clearTried_hung (s : State) (k : TwIx) (freedAt : Option (Fin 3)) :
    (s.clearTried (segNo k) freedAt).flag (Reg.TW_STATUS_HUNG (segNo k)) = s.flag (Reg.TW_STATUS_HUNG (segNo k)) := by
  have counted : (s.bump (Reg.TW_COUNT_CLEAR_COUNT (segNo k)) 1).flag (Reg.TW_STATUS_HUNG (segNo k)) =
      s.flag (Reg.TW_STATUS_HUNG (segNo k)) :=
    State.flag_of_rd (State.rd_bump_other _ _ _ (by simp [Reg.TW_COUNT_CLEAR_COUNT, Reg.TW_STATUS_HUNG]))
  unfold State.clearTried
  split
  · exact counted
  · exact (State.flag_of_rd (State.rd_twPulse _ k (TW_STATUS_ge _))).trans counted

theorem State.clearTried_hungSf (s : State) (n : Nat) (freedAt : Option (Fin 3)) :
    ((s.clearTried n freedAt).tw n).hungSf = s.sf := by
  unfold State.clearTried
  split
  · rw [State.modTw_tw_same]
  · rw [State.twPulse_tw, State.modTw_tw_same]

theorem State.busClear_shows (s : State) (k : TwIx) (freedAt : Option (Fin 3)) :
    (s.busClear (segNo k) freedAt).flag (Reg.TW_STATUS_HUNG (segNo k)) = freedAt.isNone ∧
    ((s.busClear (segNo k) freedAt).tw (segNo k)).hungSf = s.sf ∧
    (freedAt = none → s.flag (Reg.TW_STATUS_HUNG (segNo k)) = false →
      (s.busClear (segNo k) freedAt).pends (srcTw (segNo k) 2) = true) := by
  have noted := s.clearTried_hungSf (segNo k) freedAt
  have before := s.clearTried_hung k freedAt
  rw [State.busClear_eq]
  cases freedAt with
  | some step =>
    rw [if_pos (Option.isSome_some)]
    exact ⟨(State.flag_putB_tw _ _ false).2.2.2.2, noted, fun none_ => absurd none_ (Option.some_ne_none _)⟩
  | none =>
    rw [if_neg (by simp), before]
    cases hung : s.flag (Reg.TW_STATUS_HUNG (segNo k)) with
    | true =>
      rw [if_pos rfl]
      exact ⟨before.trans hung, noted, fun _ free => absurd free (by simp)⟩
    | false =>
      rw [if_neg Bool.false_ne_true, State.event_tw]
      refine ⟨?_, noted, fun _ _ => State.event_pends _ _ _ _⟩
      exact (State.flag_event_above _ _ _ (srcTw_lt k (by decide)) (TW_STATUS_ge _)).trans (State.flag_putB_tw _ _ true).2.2.2.2

theorem busClear_clears (k : TwIx) (freedAt : Option (Fin 3)) {s : State} (runs : s.twRuns = true) :
    ∃ t, exec (.busClear k freedAt) s = .next t ∧ t.flag (Reg.TW_STATUS_HUNG (segNo k)) = freedAt.isNone ∧
      (t.tw (segNo k)).hungSf = s.sf ∧
      (freedAt = none → s.flag (Reg.TW_STATUS_HUNG (segNo k)) = false → t.pends (srcTw (segNo k) 2) = true) := by
  show ∃ t, execBusClear k freedAt s = .next t ∧ _
  exact yields_occurs runs (s.begin.busClear_shows k freedAt)

theorem twHungRetry_clears (k : TwIx) (freedAt : Option (Fin 3)) {s : State} (runs : s.twRuns = true)
    (hung : s.flag (Reg.TW_STATUS_HUNG (segNo k)) = true) (waited : (s.tw (segNo k)).hungSf + 1024 ≤ s.sf) :
    ∃ t, exec (.twHungRetry k freedAt) s = .next t ∧ t.flag (Reg.TW_STATUS_HUNG (segNo k)) = freedAt.isNone ∧
      (t.tw (segNo k)).hungSf = s.sf := by
  show ∃ t, execTwHungRetry k freedAt s = .next t ∧ _
  unfold execTwHungRetry
  obtain ⟨flag, noted, -⟩ := s.begin.busClear_shows k freedAt
  refine yields_occurs (by simp [runs, hung, waited]) ?_
  exact ⟨flag, noted⟩

/-- Settles O47, each command by its lemma above. -/
theorem theTwoWireSegmentsWork : Obligations.TheTwoWireSegmentsWork := by
  unfold Obligations.TheTwoWireSegmentsWork
  refine ⟨?_, ?_, ?_, ?_, ?_, ?_, ?_⟩
  · exact fun k r s serves runs free whole cleared => twTransactionStart_begins serves runs free whole cleared
  · exact fun k r l s q current runs quiet => twTransactionEnd_ends l current runs quiet
  · exact fun k b s q current runs bus few => twArbRetry_retries b current runs bus few
  · exact fun k still s q current runs => twSclTimeout_ends still current runs
  · exact fun k s runs => twSdaTimeout_shows k runs
  · exact fun k f s runs => busClear_clears k f runs
  · exact fun k f s runs hung waited => twHungRetry_clears k f runs hung waited

end Sys2Proof.Machine

/-!
PROOF. The TW0 target (15_two_wire_buses R449 to R461): its page, register and status bytes, MCTP packets and responses, its time-out
and the AON copy's waking and sleeping.
-/

namespace Sys2Proof.Machine

/-! ## A transaction with TW0 (R456) -/

/-- A TW0 transaction does its work where V_AON_IN is present. -/
theorem State.onTw0_of_powered {s : State} {P : State → Prop} (f : State → State) (powered : s.tick.aonPowered = true)
    (work : P (f s.begin.aonMatched)) : ∃ t, s.onTw0 f = .next t ∧ P t := yields_occurs powered work

theorem State.aonMatched_out (s : State) : s.aonMatched.out = s.out :=
  out_of_outside (State.aonMatched_outside s 4194304 rfl) (by decide)

/-- An address match wakes the AON copy and keeps what the target holds beside. -/
theorem State.aonMatched_eq (s : State) : s.aonMatched = s ∨
    s.aonMatched = { s with tw0 := { s.tw0 with aonAwake := true, aonMatch := s.now } } := by
  unfold State.aonMatched
  split
  · exact .inr rfl
  · exact .inl rfl

theorem State.aonMatched_mctpReady (s : State) : s.aonMatched.mctpReady = s.mctpReady := by
  rcases s.aonMatched_eq with same | woken
  · rw [same]
  · rw [woken]
    rfl

theorem State.aonMatched_mctp (s : State) : s.aonMatched.tw0.mctp = s.tw0.mctp := by
  rcases s.aonMatched_eq with same | woken
  · rw [same]
  · rw [woken]

theorem State.aonMatched_tw0StatusByte (s : State) : s.aonMatched.tw0StatusByte = s.tw0StatusByte := by
  rcases s.aonMatched_eq with same | woken
  · rw [same]
  · rw [woken]
    rfl

/-! ## Page and status (R450) -/

theorem exec_tw0PageWrite_sets (b : Byte) {s : State} (powered : s.tick.aonPowered = true) :
    ∃ t, exec (.tw0PageWrite b) s = .next t ∧ t.get Reg.TW0_PAGE_PAGE = b.toNat := by
  show ∃ t, execTw0PageWrite b s = .next t ∧ _
  refine State.onTw0_of_powered _ powered ?_
  exact (State.get_put_same _ _ _ (by decide)).trans (Nat.mod_eq_of_lt b.isLt)

theorem exec_tw0PageRead_answers {s : State} (powered : s.tick.aonPowered = true) :
    ∃ t, exec .tw0PageRead s = .next t ∧ t.out = [.bytes [BitVec.ofNat 8 s.tw0Page]] ∧ t.regs = s.regs := by
  show ∃ t, execTw0PageRead s = .next t ∧ _
  refine State.onTw0_of_powered _ powered ⟨?_, State.aonMatched_regs _⟩
  have page : s.begin.aonMatched.tw0Page = s.tw0Page := State.get_congr (State.aonMatched_regs s.begin) _
  rw [State.emit_out, State.aonMatched_out, page]
  rfl

theorem exec_tw0StatusRead_answers {s : State} (powered : s.tick.aonPowered = true) :
    ∃ t, exec .tw0StatusRead s = .next t ∧ t.out = [.bytes [s.tw0StatusByte]] ∧ t.regs = s.regs := by
  show ∃ t, execTw0StatusRead s = .next t ∧ _
  refine State.onTw0_of_powered _ powered ⟨?_, State.aonMatched_regs _⟩
  rw [State.emit_out, State.aonMatched_out, State.aonMatched_tw0StatusByte]
  rfl

theorem exec_tw0OtherCommandByte_refuses {b : Byte} {s : State} (powered : s.tick.aonPowered = true)
    (other : b.toNat < 0x0F ∨ 0x13 < b.toNat) :
    ∃ t, exec (.tw0OtherCommandByte b) s = .next t ∧ t.out = [.nack] ∧ t.regs = s.regs := by
  show ∃ t, execTw0OtherCommandByte b s = .next t ∧ _
  unfold execTw0OtherCommandByte
  rw [if_neg (by omega)]
  refine State.onTw0_of_powered _ powered ⟨?_, State.aonMatched_regs _⟩
  rw [State.emit_out, State.aonMatched_out]
  rfl

/-! ## Register bytes (R451, R453) -/

/-- A write without its two pointer bytes is malformed. -/
theorem State.tw0Write_of_short {l : List Byte} (s : State) (short : l.length < 2) : s.tw0Write l = s.tw0Malformed := by
  match l, short with
  | [], _ => rfl
  | [_], _ => rfl

theorem exec_tw0RegWrite_malformed {l : List Byte} {s : State} (powered : s.tick.aonPowered = true) (short : l.length < 2) :
    ∃ t, exec (.tw0RegWrite l) s = .next t ∧ t.flag Reg.TW0_STATUS_MALFORMED = true ∧ t.pends 0x442 = true := by
  show ∃ t, execTw0RegWrite l s = .next t ∧ _
  refine State.onTw0_of_powered _ powered ?_
  rw [State.tw0Write_of_short _ short]
  exact ⟨(State.flag_event_above _ _ _ (by decide) (by decide)).trans (State.flag_putB_same _ _ _ (by decide) rfl),
    State.event_pends _ _ _ _⟩

theorem State.tw0Bytes_length (s : State) (first : Bool) (a : Nat) (w : Word) (n : Nat) : (s.tw0Bytes first a w n).1.length = n := by
  induction n generalizing s first a w with
  | zero => rfl
  | succ n ih => exact congrArg (· + 1) (ih _ _ _ _)

theorem State.tw0Read_length (s : State) (ptr n : Nat) : (s.tw0Read ptr n).1.length = n := State.tw0Bytes_length _ _ _ _ _

theorem State.tw0Read_out (s : State) (ptr n : Nat) : (s.tw0Read ptr n).2.out = s.out :=
  out_of_outside (State.tw0Read_outside s ptr n 25 rfl) (by decide)

theorem exec_tw0RegRead_answers (ptr n : Nat) {s : State} (powered : s.tick.aonPowered = true) :
    ∃ t, exec (.tw0RegRead ptr n) s = .next t ∧ ∃ l, t.out = [.bytes l] ∧ l.length = n := by
  show ∃ t, execTw0RegRead ptr n s = .next t ∧ _
  refine State.onTw0_of_powered _ powered ⟨(s.begin.aonMatched.tw0Read ptr n).1, ?_, State.tw0Read_length _ ptr n⟩
  show ((s.begin.aonMatched.tw0Read ptr n).2.emit _).out = _
  rw [State.emit_out, State.tw0Read_out, State.aonMatched_out]
  rfl

theorem exec_tw0BlockRead_answers (ptr : Nat) {n : Nat} {s : State} (powered : s.tick.aonPowered = true) (low : 1 ≤ n)
    (high : n ≤ 32) : ∃ t, exec (.tw0BlockRead ptr n) s = .next t ∧ ∃ l, t.out = [.bytes l] ∧ l.length = n + 1 := by
  show ∃ t, execTw0BlockRead ptr n s = .next t ∧ _
  refine State.onTw0_of_powered _ powered ?_
  rw [if_neg (by omega)]
  obtain ⟨l, after, read⟩ : ∃ l after, s.begin.aonMatched.tw0Read ptr n = (l, after) := ⟨_, _, rfl⟩
  have length : l.length = n := by rw [← State.tw0Read_length s.begin.aonMatched ptr n, read]
  have silent : after.out = s.begin.out := by
    rw [← State.aonMatched_out s.begin, ← State.tw0Read_out s.begin.aonMatched ptr n, read]
  rw [read]
  exact ⟨_, (State.emit_out _ _).trans (congrArg (· ++ _) silent), by rw [List.length_append, length]; rfl⟩

theorem exec_tw0BlockRead_refuses (ptr : Nat) {n : Nat} {s : State} (powered : s.tick.aonPowered = true)
    (out : n = 0 ∨ 32 < n) : ∃ t, exec (.tw0BlockRead ptr n) s = .next t ∧ t.out = [.nack] ∧ t.regs = s.regs := by
  show ∃ t, execTw0BlockRead ptr n s = .next t ∧ _
  refine State.onTw0_of_powered _ powered ?_
  rw [if_pos (by omega)]
  refine ⟨?_, State.aonMatched_regs _⟩
  rw [State.emit_out, State.aonMatched_out]
  rfl

/-! ## MCTP (R459 to R461) -/

/-- A whole control message in one packet goes to the management cluster. -/
theorem State.mctpPacket_of_whole {s : State} {p : MctpPacket} (none_ : s.tw0.mctp = none) (pec : p.pecOk = true)
    (starts : p.som = true) (ends : p.eom = true) (short : p.data.length ≤ 64)
    (control : (p.data.headD 0xFF#8).toNat % 128 = 0) :
    s.mctpPacket p = (s.modTw0 fun t => { t with mctp := none }).emit (.mctpMessage p.src p.tag p.data) := by
  have fits : ¬ 4224 < p.data.length := by omega
  have whole : ¬ 64 < p.data.length := by omega
  rw [List.headD_eq_head?_getD] at control
  simp [State.mctpPacket, State.mctpJoin, none_, pec, starts, ends, fits, whole, control]

theorem exec_tw0MctpPacket_delivers {p : MctpPacket} {s : State} (powered : s.tick.aonPowered = true) (ready : s.mctpReady = true)
    (none_ : s.tw0.mctp = none) (pec : p.pecOk = true) (starts : p.som = true) (ends : p.eom = true)
    (short : p.data.length ≤ 64) (control : (p.data.headD 0xFF#8).toNat % 128 = 0) :
    ∃ t, exec (.tw0MctpPacket p) s = .next t ∧ t.out = [.mctpMessage p.src p.tag p.data] ∧ t.tw0.mctp = none ∧
      t.regs = s.regs := by
  show ∃ t, execTw0MctpPacket p s = .next t ∧ _
  refine State.onTw0_of_powered _ powered ?_
  have idle : s.begin.aonMatched.tw0.mctp = none := (State.aonMatched_mctp _).trans none_
  have served : s.begin.aonMatched.mctpReady = true := (State.aonMatched_mctpReady _).trans ready
  simp only [idle, served, Option.any_none, Bool.not_true, Bool.or_self, Bool.false_eq_true, if_false]
  rw [State.mctpPacket_of_whole idle pec starts ends short control]
  refine ⟨?_, rfl, State.aonMatched_regs _⟩
  rw [State.emit_out, State.modTw0_out, State.aonMatched_out]
  rfl

theorem exec_tw0MctpResponse_sends {s : State} {r : RetCode × List Nat} {l : List (RetCode × List Nat)}
    (oldest : s.tw0.replies = r :: l) (serves : s.aonServes = false) : exec (.tw0MctpResponse true) s =
      .next { s with out := [.mctp r.1 r.2], tw0 := { s.tw0 with replies := l, retries := 0 } } := by
  show execTw0MctpResponse true s = _
  simp only [execTw0MctpResponse, oldest, occurs, serves, Bool.not_false, if_true]
  rfl

/-! ## Time-out and the AON copy (R455, R456, R458) -/

theorem exec_tw0Timeout_shows {s : State} (serves : s.aonServes = false) :
    ∃ t, exec .tw0Timeout s = .next t ∧ t.flag Reg.TW0_STATUS_TIMEOUT = true ∧ t.pends 0x441 = true := by
  show ∃ t, execTw0Timeout s = .next t ∧ _
  refine yields_occurs (by rw [serves]; rfl) ⟨?_, State.event_pends _ _ _ _⟩
  exact (State.flag_event_above _ _ _ (by decide) (by decide)).trans (State.flag_putB_same _ _ _ (by decide) rfl)

theorem exec_tw0AonWake_wakes {s : State} (powered : s.tick.aonPowered = true) (serves : s.aonServes = true) :
    exec .tw0AonWake s = .next { s with out := [], tw0 := { s.tw0 with aonAwake := true, aonMatch := s.now } } := by
  have serves' : s.begin.aonServes = true := serves
  show execTw0AonWake s = _
  rw [execTw0AonWake, occurs, if_pos powered, State.aonMatched, if_pos serves']
  rfl

theorem exec_tw0AonSleep_sleeps {s : State} (awake : s.tw0.aonAwake = true)
    (late : s.aonServes = false ∨ s.tw0.aonMatch + ms 100 ≤ s.now) :
    exec .tw0AonSleep s = .next { s with out := [], tw0 := { s.tw0 with aonAwake := false } } := by
  show execTw0AonSleep s = _
  have due : (s.tw0.aonAwake && (!s.aonServes || decide (s.tw0.aonMatch + ms 100 ≤ s.now))) = true := by
    simpa [awake] using late
  rw [execTw0AonSleep, occurs, if_pos due]
  rfl

/-- Settles O46, each command by its lemma above; that a short write is malformed and a count outside 1 to 32 not acknowledged is
log entry 52. -/
theorem theTw0TargetAnswers : Obligations.TheTw0TargetAnswers := by
  unfold Obligations.TheTw0TargetAnswers
  refine ⟨?_, ?_, ?_, ?_, ?_, ?_, ?_, ?_, ?_⟩
  · exact fun b s powered => ⟨exec_tw0PageWrite_sets b powered, exec_tw0PageRead_answers powered,
      exec_tw0StatusRead_answers powered, exec_tw0OtherCommandByte_refuses powered⟩
  · exact fun l s powered short => exec_tw0RegWrite_malformed powered short
  · exact fun ptr n s powered _ => exec_tw0RegRead_answers ptr n powered
  · exact fun ptr n s powered => ⟨exec_tw0BlockRead_answers ptr powered, exec_tw0BlockRead_refuses ptr powered⟩
  · exact fun p s powered ready none_ pec starts ends short control =>
      exec_tw0MctpPacket_delivers powered ready none_ pec starts ends short control
  · exact fun s r l oldest serves => exec_tw0MctpResponse_sends oldest serves
  · exact fun s serves => exec_tw0Timeout_shows serves
  · exact fun s powered serves => exec_tw0AonWake_wakes powered serves
  · exact fun s awake late => exec_tw0AonSleep_sleeps awake late

end Sys2Proof.Machine

/-!
PROOF. Commands on a register path that is not served (20_register_map R553, R565): none of the writes and requests of a path gets
past the path's door.
-/

namespace Sys2Proof.Machine

/-! ## A path that is not served -/

section

variable {s : State} {p : Nat}

theorem State.reach_of_unserved (off : Nat) (f : State → State) (shut : s.served p = false) : s.reach p off f = s := by
  simp [State.reach, shut]

theorem State.writeMapped_of_unserved (off : Nat) (v : Word) (shut : s.served p = false) : s.writeMapped p off v = s := by
  unfold State.writeMapped
  split
  · rw [shut, Bool.false_and, if_neg Bool.false_ne_true, State.reach_of_unserved _ _ shut]
  · exact State.reach_of_unserved _ _ shut

theorem State.writeWord_of_unserved (off : Nat) (v : Word) (be : BitVec 4) (shut : s.served p = false) :
    s.writeWord p off v be = s := by
  simp [State.writeWord, State.writeReg, shut, State.writeMapped_of_unserved off v shut]

/-- Neither half of an access changes anything. -/
theorem State.writePart_of_unserved {a : RegAccess} (k : Nat) (shut : s.served a.path = false) : s.writePart k a = s := by
  simp [State.writePart, shut, State.writeWord_of_unserved _ _ _ shut]

/-- Accesses of such paths leave the state. -/
theorem State.each_writePart_of_unserved {l : List RegAccess} (k : Nat) (shut : ∀ a ∈ l, s.served a.path = false) :
    s.each l (fun s a => s.writePart k a) = s := by
  induction l with
  | nil => rfl
  | cons a l ih =>
    show (s.writePart k a).each l _ = s
    rw [State.writePart_of_unserved k (shut a List.mem_cons_self)]
    exact ih fun b hb => shut b (List.mem_cons_of_mem _ hb)

theorem State.mem_of_grantOrder {l : List RegAccess} {a : RegAccess} (granted : a ∈ s.grantOrder l) : a ∈ l := by
  obtain ⟨_, -, asked⟩ := List.mem_flatMap.mp granted
  exact List.mem_of_mem_filter asked

end

/-! ## The commands -/

theorem execRegisterWrite_of_unserved {s : State} {l : List RegAccess} (shut : ∀ a ∈ l, s.served a.path = false) :
    execRegisterWrite l s = .next s.begin := by
  have granted : ∀ a ∈ s.grantOrder l, s.begin.served a.path = false := fun a ha => shut a (State.mem_of_grantOrder ha)
  simp only [execRegisterWrite, State.each_writePart_of_unserved _ granted]

theorem execBroadcastWrite_of_unserved {s : State} {a : RegAccess} (shut : s.served a.path = false) :
    execBroadcastWrite a s = .next s.begin := by
  have shut' : s.begin.served a.path = false := shut
  simp only [execBroadcastWrite, occurs, State.writePart_of_unserved _ shut', ite_self]

/-- Settles O14: each command's access, or what it asks at its offset, is stopped at the path. -/
theorem pathsThatAreNotServedChangeNothing : Obligations.PathsThatAreNotServedChangeNothing := by
  unfold Obligations.PathsThatAreNotServedChangeNothing
  intro p l a v s shut paths path c command
  have stopped (off : Nat) (f : State → State) : Host.Outcome.next (s.begin.reach p off f) = (.next s.begin : Result) :=
    congrArg _ (State.reach_of_unserved (s := s.begin) off f shut)
  simp only [List.mem_cons, List.not_mem_nil, or_false] at command
  rcases command with rfl | rfl | rfl | rfl | rfl | rfl | rfl | rfl | rfl | rfl | rfl | rfl | rfl
  · exact execRegisterWrite_of_unserved fun x hx => by rw [paths x hx, shut]
  · exact stopped _ _
  · exact execBroadcastWrite_of_unserved (by rw [path, shut])
  all_goals exact stopped _ _

end Sys2Proof.Machine

/-!
PROOF. A source's pending message and its counters (16_faults_and_events R478): what a raise leaves on its own source, on the others
and in EVT_DROPPED and EVT_COUNT.
-/

namespace Sys2Proof.Machine

/-! ## The two cases of a raise -/

/-- A raise as its source counts it. -/
def State.counted (s : State) (m : FaultMsg) : State :=
  (s.bump (Reg.EVT_COUNT_RAISED m.src) 1).put (Reg.EVT_COUNT_MAX_SEV m.src)
    (max ((s.bump (Reg.EVT_COUNT_RAISED m.src) 1).get (Reg.EVT_COUNT_MAX_SEV m.src)) m.sev)

/-- A message put on its source in place of what waited there. -/
def State.holdMsg (s : State) (m : FaultMsg) : State :=
  s.modEvents fun e => { e with pending := sparsePlace (sparseErase e.pending m.src) m.src m }

section

variable {s : State} {m : FaultMsg}

theorem State.raise_of_free (free : sparseFind s.events.pending m.src = none) :
    s.raise m = (s.counted m).holdMsg { m with time := s.now } := by
  unfold State.raise
  dsimp only
  rw [State.put_events, State.bump_events, free]
  rfl

theorem State.raise_of_pending {old : FaultMsg} (held : sparseFind s.events.pending m.src = some old) :
    s.raise m = (if old.sev < m.sev then (s.counted m).holdMsg { m with time := s.now } else s.counted m).bump
      Reg.EVT_DROPPED_COUNT 1 := by
  unfold State.raise
  dsimp only
  rw [State.put_events, State.bump_events, held]
  rfl

/-! ## The pending message -/

theorem State.counted_events : (s.counted m).events = s.events := rfl

theorem State.holdMsg_find (x : Nat) :
    sparseFind (s.holdMsg m).events.pending x = if x = m.src then some m else sparseFind s.events.pending x := by
  show sparseFind (sparsePlace (sparseErase s.events.pending m.src) m.src m) x = _
  rw [sparseFind_place _ _ _ _ (sparseErase_gone _ _), sparseFind_erase]
  by_cases own : x = m.src <;> simp [own]

/-- On a free source the raised message waits, with the time of its raise. -/
theorem State.raise_find_of_free (free : sparseFind s.events.pending m.src = none) :
    sparseFind (s.raise m).events.pending m.src = some { m with time := s.now } := by
  rw [State.raise_of_free free, State.holdMsg_find, if_pos rfl]

/-- On a source that holds a message the more severe one waits, the older on a tie. -/
theorem State.raise_find_of_pending {old : FaultMsg} (held : sparseFind s.events.pending m.src = some old) :
    sparseFind (s.raise m).events.pending m.src = if old.sev < m.sev then some { m with time := s.now } else some old := by
  rw [State.raise_of_pending held, State.bump_events]
  split
  · rw [State.holdMsg_find, if_pos rfl]
  · rw [State.counted_events, held]

/-- A raise leaves the other sources' messages. -/
theorem State.raise_find_other {x : Nat} (other : x ≠ m.src) :
    sparseFind (s.raise m).events.pending x = sparseFind s.events.pending x := by
  cases waiting : sparseFind s.events.pending m.src with
  | none => rw [State.raise_of_free waiting, State.holdMsg_find, if_neg other, State.counted_events]
  | some old =>
    rw [State.raise_of_pending waiting, State.bump_events]
    split
    · rw [State.holdMsg_find, if_neg other, State.counted_events]
    · rw [State.counted_events]

/-! ## The counters -/

theorem State.get_holdMsg (f : Fld) : (s.holdMsg m).get f = s.get f := State.get_congr rfl f

theorem State.get_counted_raised : (s.counted m).get (Reg.EVT_COUNT_RAISED m.src) =
    min (s.get (Reg.EVT_COUNT_RAISED m.src) + 1) 65535 := by
  refine (State.get_put_other _ _ _ _ (by simp [Reg.EVT_COUNT_MAX_SEV])
    (by simp [Fld.apart, Reg.EVT_COUNT_RAISED, Reg.EVT_COUNT_MAX_SEV])).trans ?_
  exact State.get_bump_same _ _ _ (by simp [Reg.EVT_COUNT_RAISED])

/-- EVT_DROPPED is no source's EVT_COUNT. -/
theorem State.get_counted_dropped : (s.counted m).get Reg.EVT_DROPPED_COUNT = s.get Reg.EVT_DROPPED_COUNT := by
  have elsewhere : (0x020050 : Nat) ≠ 0x023000 + 0x4 * m.src := by omega
  exact State.get_of_rd ((State.rd_put_other _ _ _ elsewhere).trans (State.rd_bump_other _ _ _ elsewhere))

theorem State.get_bump_dropped_raised (t : State) (src : Nat) :
    (t.bump Reg.EVT_DROPPED_COUNT 1).get (Reg.EVT_COUNT_RAISED src) = t.get (Reg.EVT_COUNT_RAISED src) :=
  State.get_of_rd (State.rd_bump_other _ _ _ (by simp only [Reg.EVT_COUNT_RAISED, Reg.EVT_DROPPED_COUNT]; omega))

/-- Every raise counts at its source, up to the counter's highest value. -/
theorem State.get_raise_raised : (s.raise m).get (Reg.EVT_COUNT_RAISED m.src) =
    min (s.get (Reg.EVT_COUNT_RAISED m.src) + 1) 65535 := by
  cases waiting : sparseFind s.events.pending m.src with
  | none =>
    rw [State.raise_of_free waiting, State.get_holdMsg, State.get_counted_raised]
  | some old =>
    rw [State.raise_of_pending waiting, State.get_bump_dropped_raised]
    split
    · rw [State.get_holdMsg, State.get_counted_raised]
    · rw [State.get_counted_raised]

theorem State.get_raise_dropped_of_free (free : sparseFind s.events.pending m.src = none) :
    (s.raise m).get Reg.EVT_DROPPED_COUNT = s.get Reg.EVT_DROPPED_COUNT := by
  rw [State.raise_of_free free, State.get_holdMsg, State.get_counted_dropped]

/-- One of two messages on a source is lost, and counts. -/
theorem State.get_raise_dropped_of_pending {old : FaultMsg} (held : sparseFind s.events.pending m.src = some old) :
    (s.raise m).get Reg.EVT_DROPPED_COUNT = min (s.get Reg.EVT_DROPPED_COUNT + 1) (2 ^ 32 - 1) := by
  rw [State.raise_of_pending held, State.get_bump_same _ _ _ (by decide)]
  split
  · rw [State.get_holdMsg, State.get_counted_dropped]
    rfl
  · rw [State.get_counted_dropped]
    rfl

end

/-! ## FAULT_MESSAGE_RAISE -/

/-- The message that a unit reports. -/
def raisedMsg (m : RaiseIn) : FaultMsg :=
  { src := m.src, kind := m.kind, sev := m.sev, req := m.req, acc := m.acc, time := 0, space := m.space, addr := m.addr }

/-- The command raises its message; beside that it can only leave the preserved area's CRC wrong. -/
theorem exec_faultMessageRaise (m : RaiseIn) {s : State} (on : s.mainOff = false) :
    ∃ t, exec (.faultMessageRaise m) s = .next t ∧ t.events = (s.begin.raise (raisedMsg m)).events ∧
      t.regs = (s.begin.raise (raisedMsg m)).regs := by
  show ∃ t, execFaultMessageRaise m s = .next t ∧ _
  refine yields_occurs (by simp [on]) ?_
  dsimp only
  split <;> exact ⟨rfl, rfl⟩

/-- Settles O11, by the two cases of a raise. -/
theorem aSourceHoldsOneMessage : Obligations.ASourceHoldsOneMessage := by
  unfold Obligations.ASourceHoldsOneMessage
  refine ⟨fun m s on free => ?_, fun m s old on held => ?_⟩ <;>
    obtain ⟨t, next, events, regs⟩ := exec_faultMessageRaise m on <;>
    refine ⟨t, next, ?_⟩ <;>
    rw [events, State.get_congr regs, State.get_congr regs]
  · have free' : sparseFind s.begin.events.pending (raisedMsg m).src = none := free
    refine ⟨⟨_, State.raise_find_of_free free', rfl, rfl, rfl, rfl⟩, State.get_raise_dropped_of_free free', ?_⟩
    exact State.get_raise_raised.trans (Nat.min_comm _ _)
  · have held' : sparseFind s.begin.events.pending (raisedMsg m).src = some old := held
    refine ⟨?_, (State.get_raise_dropped_of_pending held').trans (Nat.min_comm _ _),
      State.get_raise_raised.trans (Nat.min_comm _ _), fun x other => State.raise_find_other (m := raisedMsg m) other⟩
    have found := State.raise_find_of_pending held'
    split
    case isTrue higher => exact ⟨_, found.trans (if_pos higher), rfl, rfl⟩
    case isFalse lower => exact found.trans (if_neg lower)

end Sys2Proof.Machine

/-!
PROOF. The first entry of the event collector through the reactions to a message (16_faults_and_events R484, R488 to R490): whatever a
delivered message retires, records, holds or resets, EVT_FIRST and FIRST_VALID stay as its arrival left them.
-/

namespace Sys2Proof.Machine

/-! ## The first entry and FIRST_VALID -/

/-- What the collector holds and shows of its first entry. -/
def State.firstMarks (s : State) : Option EvEntry × Bool := (s.events.first, s.flag Reg.EVT_STATUS_FIRST_VALID)

theorem State.firstMarks_of {s t : State} (first : t.events.first = s.events.first)
    (word : t.rd 0x020004 = s.rd 0x020004) : t.firstMarks = s.firstMarks := by
  unfold State.firstMarks
  rw [first, State.flag_of_rd (f := Reg.EVT_STATUS_FIRST_VALID) word]

theorem State.firstMarks_of_outside {m : Nat} {s t : State} (same : t.outside m = s.outside m) (regs : m.testBit 0 = false)
    (events : m.testBit 4 = false) : t.firstMarks = s.firstMarks :=
  State.firstMarks_of (by rw [events_of_outside same events]) (State.rd_congr (regs_of_outside same regs) _)

section

variable (s : State)

/-! Other parts of the state are not the collector's. -/

theorem State.modSeq_firstMarks (f : Seq → Seq) : (s.modSeq f).firstMarks = s.firstMarks := rfl
theorem State.modQuad_firstMarks (q : Nat) (f : Quad → Quad) : (s.modQuad q f).firstMarks = s.firstMarks := rfl
theorem State.modDie_firstMarks (n : Nat) (f : Die → Die) : (s.modDie n f).firstMarks = s.firstMarks := rfl
theorem State.modImage_firstMarks (f : Image → Image) : (s.modImage f).firstMarks = s.firstMarks := rfl
theorem State.modFabric_firstMarks (f : Fabric → Fabric) : (s.modFabric f).firstMarks = s.firstMarks := rfl
theorem State.modLd_firstMarks (k : Nat) (f : Ld → Ld) : (s.modLd k f).firstMarks = s.firstMarks := rfl
theorem State.modUpd_firstMarks (f : Update → Update) : (s.modUpd f).firstMarks = s.firstMarks := rfl
theorem State.modEvents_firstMarks {f : Events → Events} (keeps : (f s.events).first = s.events.first) :
    (s.modEvents f).firstMarks = s.firstMarks := State.firstMarks_of keeps rfl

/-- A field of another register leaves them. -/
theorem State.put_firstMarks {f : Fld} (v : Nat) (elsewhere : 0x020004 < f.off) : (s.put f v).firstMarks = s.firstMarks :=
  State.firstMarks_of rfl (State.rd_put_other _ _ _ (Nat.ne_of_lt elsewhere))

theorem State.putB_firstMarks {f : Fld} (b : Bool) (elsewhere : 0x020004 < f.off) : (s.putB f b).firstMarks = s.firstMarks :=
  s.put_firstMarks _ elsewhere

/-- So does another field of EVT_STATUS. -/
theorem State.putB_status_firstMarks {f : Fld} (b : Bool) (fits : f.lo + f.width ≤ 32)
    (apart : Reg.EVT_STATUS_FIRST_VALID.apart f = true) : (s.putB f b).firstMarks = s.firstMarks :=
  congrArg (s.events.first, ·) (State.flag_putB_other _ _ _ _ fits apart)

theorem State.raise_first (m : FaultMsg) : (s.raise m).events.first = s.events.first := by
  cases waiting : sparseFind s.events.pending m.src with
  | none => rw [State.raise_of_free waiting]; rfl
  | some old =>
    rw [State.raise_of_pending waiting, State.bump_events]
    split <;> rfl

/-- A message that is raised waits: the collector shows nothing of it. -/
theorem State.raise_firstMarks (m : FaultMsg) : (s.raise m).firstMarks = s.firstMarks :=
  State.firstMarks_of (s.raise_first m) (State.rd_raise _ _ _ (by omega) (by decide))

theorem State.event_firstMarks (src kind sev : Nat) : (s.event src kind sev).firstMarks = s.firstMarks := s.raise_firstMarks _

theorem State.eventAt_firstMarks (src kind sev req acc space addr : Nat) :
    (s.eventAt src kind sev req acc space addr).firstMarks = s.firstMarks := s.raise_firstMarks _

theorem State.sfg_firstMarks {f : Fld} (b : Bool) (own : f.off = 0x020070) : (s.sfg f b).firstMarks = s.firstMarks :=
  State.firstMarks_of rfl (s.rd_sfg b own (by decide))

/-- A log record is written to the sequencer's ring and registers. -/
theorem State.putLog_firstMarks (t : Nat) (b : LogBody) : (s.putLog t b).firstMarks = s.firstMarks := by
  refine State.firstMarks_of rfl ?_
  rw [State.putLog, State.rd_putSat_other _ _ _ (by decide), State.rd_put_other _ _ _ (by decide), State.modSeq_rd]

theorem State.logRecord_firstMarks (b : LogBody) : (s.logRecord b).firstMarks = s.firstMarks := by
  unfold State.logRecord State.logRecordAt
  dsimp only
  split
  · exact s.putLog_firstMarks _ _
  · rw [State.modSeq_firstMarks]
    split
    · split
      · exact (State.putLog_firstMarks _ _ _).trans (s.putLog_firstMarks _ _)
      · exact s.putLog_firstMarks _ _
    · exact s.putLog_firstMarks _ _

/-! ## A rank goes out of service (R270, R271) -/

theorem State.exhaust_firstMarks (q j r : Nat) : (s.exhaust q j r).firstMarks = s.firstMarks := by
  have shown : (s.putB (Reg.QD_MIG_STATUS_EXHAUSTED q) true).firstMarks = s.firstMarks :=
    s.putB_firstMarks _ (by simp only [Reg.QD_MIG_STATUS_EXHAUSTED, qdBase]; omega)
  unfold State.exhaust
  dsimp only
  split
  · exact shown
  · rw [State.event_firstMarks, State.modQuad_firstMarks, shown]

theorem State.migrateTo_firstMarks (q j r : Nat) (k : Option Nat) : (s.migrateTo q j r k).firstMarks = s.firstMarks := by
  cases k with
  | none => exact s.exhaust_firstMarks q j r
  | some k =>
    have low (d : Nat) : 0x020004 < qdBase q + d := by unfold qdBase; omega
    refine (State.logRecord_firstMarks _ _).trans ?_
    rw [State.putB_firstMarks _ _ (by simp only [Reg.SC_RANK_HEALTH_MIGRATING, scBase, qdBase]; omega),
      State.put_firstMarks _ _ (by exact low _), State.putB_firstMarks _ _ (by exact low _), State.put_firstMarks _ _ (by exact low _),
      State.put_firstMarks _ _ (by exact low _), State.put_firstMarks _ _ (by exact low _), State.modQuad_firstMarks]

theorem State.rankOut_firstMarks (n r : Nat) : (s.rankOut n r false).firstMarks = s.firstMarks := by
  unfold State.rankOut
  dsimp only
  split
  · rfl
  · rw [if_neg Bool.false_ne_true]
    split
    · split
      · rw [State.put_firstMarks _ _ (by simp only [Reg.QD_MIG_STATUS_WAITING, qdBase]; omega),
          State.modQuad_firstMarks, State.event_firstMarks]
      · rw [State.exhaust_firstMarks, State.event_firstMarks]
    · rw [State.startMigration, State.migrateTo_firstMarks, State.event_firstMarks]

/-! ## A die, a pair or an engine is retired (R184, R287, R288, R305, R367) -/

theorem State.listOverflow_firstMarks (q : Nat) : (s.listOverflow q).firstMarks = s.firstMarks := by
  unfold State.listOverflow
  rw [State.event_firstMarks, State.modQuad_firstMarks,
    State.putB_firstMarks _ _ (by simp only [Reg.SKIM_Q_SWEEP]; omega),
    State.putB_firstMarks _ _ (by simp only [Reg.SKIM_Q_OVERFLOW]; omega)]

theorem State.patchSet_firstMarks (p : Nat) : (s.patchSet p).firstMarks = s.firstMarks := by
  unfold State.patchSet State.relist
  dsimp only
  split
  · rfl
  · split
    · rfl
    · exact (State.listOverflow_firstMarks _ _).trans rfl

theorem State.versionFailed_firstMarks (v : Version) : (s.versionFailed v).firstMarks = s.firstMarks := by
  unfold State.versionFailed
  extract_lets q dropped listed fails counted
  have shown : listed.firstMarks = s.firstMarks := by
    show (if _ then _ else _ : State).firstMarks = dropped.firstMarks
    split
    · exact State.patchSet_firstMarks _ _
    · rfl
  have same : counted.firstMarks = s.firstMarks := (State.modQuad_firstMarks _ _ _).trans shown
  split
  · rfl
  · split
    · split
      · rw [State.putB_firstMarks _ _ (by decide), same]
      · exact same
    · exact shown

theorem State.sealLedgerUnit_firstMarks (q : Nat) (b : UnitBody) : (s.sealLedgerUnit q b).firstMarks = s.firstMarks := by
  unfold State.sealLedgerUnit State.takeNonce
  dsimp only
  rw [State.firstMarks_of_outside (State.pushLedgerUnit_outside _ _ _ 2560 rfl) (by decide) (by decide),
    State.firstMarks_of_outside (State.encrypts_outside _ _ _ 512 rfl) (by decide) (by decide),
    State.firstMarks_of_outside (State.invoke_outside _ _ 32768 rfl) (by decide) (by decide),
    State.put_firstMarks _ _ (by simp only [Reg.CIPH_QCOUNT_COUNT, qdBase]; omega), State.modQuad_firstMarks]

theorem State.programBack_firstMarks (b : UnitBody) : (s.programBack b).firstMarks = s.firstMarks := by
  unfold State.programBack
  dsimp only
  split
  · exact State.firstMarks_of_outside (State.dropReloc_outside _ _ _ 2560 rfl) (by decide) (by decide)
  · exact s.versionFailed_firstMarks _
  · split
    · rfl
    · rfl
    · rfl
    · exact s.sealLedgerUnit_firstMarks _ _

theorem State.parityFailed_firstMarks (pos u : Nat) : (s.parityFailed pos u).firstMarks = s.firstMarks := by
  unfold State.parityFailed
  split
  · rfl
  · refine (State.each_proj State.firstMarks (fun s c _ => ?_) _).trans (s.modImage_firstMarks _)
    unfold State.memberLost
    split
    · rw [State.programBack_firstMarks, State.modDie_firstMarks]
    · rfl

theorem State.opBack_firstMarks (n : Nat) (o : DieOp) : (s.opBack n o).firstMarks = s.firstMarks := by
  unfold State.opBack
  split
  · exact s.parityFailed_firstMarks _ _
  · rw [State.programBack_firstMarks, State.stripeVoid, State.modStripe, State.modImage_firstMarks]
  · exact s.programBack_firstMarks _
  · rfl

theorem State.wearAllowance_firstMarks (q : Nat) : (s.wearAllowance q).firstMarks = s.firstMarks := by
  unfold State.wearAllowance
  extract_lets days tEnd left remaining life a worn past was s1 s2 s3 s4
  have shown : s3.firstMarks = s.firstMarks := by
    rw [State.putB_firstMarks _ _ (by decide), State.putB_firstMarks _ _ (by decide), State.modQuad_firstMarks]
    exact State.put_firstMarks _ _ (by simp only [Reg.WEAR_ALLOW_VALUE]; omega)
  have worn : s4.firstMarks = s.firstMarks := by
    refine Eq.trans ?_ shown
    show (if _ then _ else _ : State).firstMarks = _
    split
    · exact State.event_firstMarks _ _ _ _
    · rfl
  split
  · rw [State.event_firstMarks, worn]
  · exact worn

theorem State.retireDie_firstMarks (n cond : Nat) : (s.retireDie n cond).firstMarks = s.firstMarks := by
  have low (k d : Nat) : 0x020004 < fcBase k + d := by unfold fcBase qdBase; omega
  unfold State.retireDie
  extract_lets q live failed down listed emptied shown recorded logged told back
  have gone : shown.firstMarks = s.firstMarks := calc
    shown.firstMarks = emptied.firstMarks := State.put_firstMarks _ _ (by exact low _ _)
    _ = down.firstMarks := rfl
    _ = s.firstMarks := State.put_firstMarks _ _ (by simp only [Reg.DIE_STATUS_STATE, dieBase, qdBase]; omega)
  have moved : recorded.firstMarks = s.firstMarks := by
    show (match shown.recordDie (n / 8) with | some r => _ | none => shown : State).firstMarks = _
    split
    · split
      · rw [State.event_firstMarks, State.modImage_firstMarks, State.put_firstMarks _ _ (by exact low _ _), gone]
      · exact gone
    · exact gone
  split
  · rfl
  · calc (back.wearAllowance q).firstMarks = back.firstMarks := State.wearAllowance_firstMarks _ _
      _ = told.firstMarks := State.each_proj State.firstMarks (fun s o _ => s.opBack_firstMarks n o) _
      _ = logged.firstMarks := State.eventAt_firstMarks _ _ _ _ _ _ _ _
      _ = recorded.firstMarks := State.logRecord_firstMarks _ _
      _ = s.firstMarks := moved

theorem State.retirePair_firstMarks (n : Nat) : (s.retirePair n).firstMarks = s.firstMarks := by
  have low (k d : Nat) : 0x020004 < pairBase k + d := by unfold pairBase qdBase; omega
  unfold State.retirePair
  extract_lets q sp free s1 s2 s3
  split
  · rfl
  · have spared : s2.firstMarks = s.firstMarks := by
      have out : s1.firstMarks = s.firstMarks := s.put_firstMarks _ (by exact low _ _)
      refine Eq.trans ?_ out
      show (if _ then _ else _ : State).firstMarks = _
      split
      · rw [State.put_firstMarks _ _ (by exact low _ _), State.put_firstMarks _ _ (by exact low _ _)]
      · rfl
    have told : s3.firstMarks = s.firstMarks := (State.event_firstMarks _ _ _ _).trans spared
    split
    · rw [State.event_firstMarks, told]
    · exact told

theorem State.shareEngine_firstMarks (fc : Nat) : (s.shareEngine fc).firstMarks = s.firstMarks := by
  unfold State.shareEngine
  dsimp only
  split
  · rw [State.event_firstMarks, State.putB_firstMarks _ _ (by simp only [Reg.FC_STATUS_LDPC_SHARED, fcBase, qdBase]; omega),
      State.putB_firstMarks _ _ (by simp only [Reg.LDPC_STATUS_SECOND, ldpcBase, qdBase]; omega), State.serveBy,
      State.modQuad_firstMarks]
  · exact State.each_proj State.firstMarks (fun s n _ => s.retireDie_firstMarks n 6) _

theorem State.retireEngine_firstMarks (g : Nat) : (s.retireEngine g).firstMarks = s.firstMarks := by
  have low (k d : Nat) : 0x020004 < ldpcBase k + d := by unfold ldpcBase qdBase; omega
  unfold State.retireEngine
  split
  · rfl
  · dsimp only
    split
    · rw [State.serveBy, State.modQuad_firstMarks, State.put_firstMarks _ _ (by exact low _ _),
        State.put_firstMarks _ _ (by exact low _ _), State.event_firstMarks, State.put_firstMarks _ _ (by exact low _ _)]
    · rw [State.each_proj State.firstMarks fun s fc _ => s.shareEngine_firstMarks fc, State.event_firstMarks,
        State.put_firstMarks _ _ (by exact low _ _)]

/-! ## The management cluster (R492, R531) -/

theorem State.updRelease_firstMarks : s.updRelease.firstMarks = s.firstMarks := by
  unfold State.updRelease
  dsimp only
  rw [State.put_firstMarks _ _ (by decide), State.put_firstMarks _ _ (by decide), State.put_firstMarks _ _ (by decide),
    State.putB_firstMarks _ _ (by decide), State.modUpd_firstMarks]

theorem State.clusterRestart_firstMarks : s.clusterRestart.firstMarks = s.firstMarks := by
  have released : s.updRelease.twReenabled.firstMarks = s.firstMarks :=
    (State.firstMarks_of rfl rfl).trans s.updRelease_firstMarks
  rw [← released]
  unfold State.clusterRestart
  generalize s.updRelease.twReenabled = u
  dsimp only
  split
  · rfl
  · rw [State.modUpd_firstMarks, State.modFabric_firstMarks]
    exact State.each_proj State.firstMarks (fun s k _ => s.modLd_firstMarks k _) _

theorem State.takeover_firstMarks : s.takeover.firstMarks = s.firstMarks := by
  unfold State.takeover
  dsimp only
  split
  · rfl
  · split
    · exact (State.clusterRestart_firstMarks _).trans (State.event_firstMarks _ _ _ _)
    · exact (State.sfg_firstMarks _ _ rfl).trans (State.event_firstMarks _ _ _ _)

/-! ## Reactions (R488 to R490) -/

theorem State.judgeAlert_firstMarks : s.judgeAlert.firstMarks = s.firstMarks := rfl

theorem State.judgeGf_firstMarks : s.judgeGf.firstMarks = s.firstMarks :=
  State.putB_firstMarks _ _ (by decide)

theorem State.retireBySource_firstMarks (src : Nat) : (s.retireBySource src).firstMarks = s.firstMarks := by
  unfold State.retireBySource
  split
  · split
    · split
      · exact s.modEvents_firstMarks rfl
      · exact s.rankOut_firstMarks _ _
    · rfl
  · split
    · exact State.retireDie_firstMarks _ _ _
    · split
      · split
        · exact s.retirePair_firstMarks _
        · rfl
      · split
        · split
          · exact s.retireEngine_firstMarks _
          · rfl
        · split
          · exact s.takeover_firstMarks
          · rfl

theorem State.saveTrigger_firstMarks (cause : Nat) : (s.saveTrigger cause).firstMarks = s.firstMarks :=
  State.firstMarks_of (by rw [events_of_outside (State.saveTrigger_outside s cause 2097153 rfl) (by decide)])
    (s.rd_saveTrigger cause (by decide))

theorem State.trigger_firstMarks (cause : Nat) : (s.trigger cause).firstMarks = s.firstMarks := by
  unfold State.trigger
  split
  · exact s.saveTrigger_firstMarks cause
  · split
    · split
      · rfl
      · exact State.event_firstMarks _ _ _ _
    · split
      · exact State.event_firstMarks _ _ _ _
      · rfl

theorem State.resetReaction_firstMarks : s.resetReaction.firstMarks = s.firstMarks := by
  unfold State.resetReaction
  extract_lets recent
  split
  · exact State.event_firstMarks _ _ _ _
  · exact s.modEvents_firstMarks rfl

/-- The reactions to a message leave the first entry: they never clear it nor set one. -/
theorem State.react_firstMarks (m : FaultMsg) : (s.react m).firstMarks = s.firstMarks := by
  unfold State.react
  extract_lets logged alerted retired held saved
  have h1 : logged.firstMarks = s.firstMarks := State.each_proj State.firstMarks (fun s k _ =>
    State.firstMarks_of_outside (State.logEvent_outside s m k 3221233664 rfl) (by decide) (by decide)) s
  have h2 : alerted.firstMarks = logged.firstMarks := by
    show (if _ then _ else _ : State).firstMarks = _
    split
    · rw [State.judgeAlert_firstMarks, State.putB_status_firstMarks _ _ (by decide) (by decide), State.modEvents_firstMarks _ rfl]
    · rfl
  have h3 : retired.firstMarks = alerted.firstMarks := by
    show (if _ then _ else _ : State).firstMarks = _
    split
    · exact State.retireBySource_firstMarks _ _
    · rfl
  have h4 : held.firstMarks = retired.firstMarks := by
    show (if _ then _ else _ : State).firstMarks = _
    split
    · rw [State.judgeGf_firstMarks, State.putB_status_firstMarks _ _ (by decide) (by decide), State.modEvents_firstMarks _ rfl]
    · rfl
  have h5 : saved.firstMarks = held.firstMarks := by
    show (if _ then _ else _ : State).firstMarks = _
    split
    · rw [State.trigger_firstMarks, State.modEvents_firstMarks _ rfl]
    · rfl
  split
  · exact h1
  · split
    · rw [State.resetReaction_firstMarks, h5, h4, h3, h2, h1]
    · rw [h5, h4, h3, h2, h1]

end
end Sys2Proof.Machine

/-!
PROOF. The event collector's commands (15_two_wire_buses R457, R462; 16_faults_and_events R476 to R493): raising and delivering
messages, clearing what the collector holds, the cluster's lockstep and the on request.
-/

namespace Sys2Proof.Machine

/-! ## Raising (R478) -/

theorem exec_faultMessageRaise_pends (m : RaiseIn) {s : State} (on : s.mainOff = false) :
    ∃ t, exec (.faultMessageRaise m) s = .next t ∧ t.pends m.src = true ∧
      t.get (Reg.EVT_COUNT_RAISED m.src) =
        min (2 ^ (Reg.EVT_COUNT_RAISED m.src).width - 1) (s.get (Reg.EVT_COUNT_RAISED m.src) + 1) := by
  obtain ⟨t, next, events, regs⟩ := exec_faultMessageRaise m on
  refine ⟨t, next, ?_, ?_⟩
  · rw [State.pends_congr (congrArg Events.pending events)]
    exact s.begin.raise_pends (raisedMsg m)
  · rw [State.get_congr regs]
    exact State.get_raise_raised.trans (Nat.min_comm _ _)

/-! ## What goes ahead of a delivery in its cycle (R485, R486) -/

theorem State.clearAhead_begin (s : State) (c : Instr) : s.begin.clearAhead c = (s.clearAhead c).begin := by
  unfold State.clearAhead
  split
  · rw [apply_ite State.begin]
    rfl
  · rw [apply_ite State.begin]
    rfl
  · rw [apply_ite State.begin]
    rfl
  · rfl

theorem State.each_clearAhead_begin (s : State) (l : List Instr) :
    s.begin.each l State.clearAhead = (s.each l State.clearAhead).begin := by
  induction l generalizing s with
  | nil => rfl
  | cons c l ih =>
    show (s.begin.clearAhead c).each l State.clearAhead = _
    rw [State.clearAhead_begin, ih]
    rfl

theorem State.rd_firstClr (s : State) {x : Nat} (other : x ≠ 0x020004) : s.firstClr.rd x = s.rd x := by
  rw [State.firstClr, State.rd_put_other _ _ _ other, State.rd_putB_other _ _ _ other, State.rd_modEvents]

theorem State.rd_nextPop (s : State) {x : Nat} (other : x ≠ 0x020004) : s.nextPop.rd x = s.rd x := by
  rw [State.nextPop, State.rd_put_other _ _ _ other, State.rd_modEvents]

theorem State.rd_alertClear (s : State) {x : Nat} (other : x ≠ 0x020004) : s.alertClear.rd x = s.rd x := by
  rw [State.alertClear, State.judgeAlert, State.modPins_rd, State.rd_putB_other _ _ _ other, State.rd_modEvents]

/-- The clears of a delivery's cycle write EVT_STATUS and no other register. -/
theorem State.rd_clearAhead (s : State) (c : Instr) {x : Nat} (other : x ≠ 0x020004) : (s.clearAhead c).rd x = s.rd x := by
  unfold State.clearAhead
  split
  · split
    · exact s.rd_firstClr other
    · rfl
  · split
    · exact s.rd_nextPop other
    · rfl
  · split
    · exact s.rd_alertClear other
    · rfl
  · rfl

theorem State.rd_each_clearAhead (s : State) (l : List Instr) {x : Nat} (other : x ≠ 0x020004) :
    (s.each l State.clearAhead).rd x = s.rd x :=
  State.each_proj (State.rd · x) (fun s c _ => s.rd_clearAhead c other) s

/-! ## Delivery (R479, R480, R484) -/

/-- The message that a segment delivers leaves its source. -/
def State.departs (s : State) (m : FaultMsg) : State := s.modEvents fun e => { e with pending := sparseErase e.pending m.src }

theorem State.deliverAll_sound {s : State} {seg : Fin 5} {m : FaultMsg} (winner : s.segWinner seg = some m) :
    s.deliverAll [⟨seg, false⟩] = (s.departs m).arrive [(seg.val, m)] := by
  have one : s.deliver ⟨seg, false⟩ = (some (seg.val, m), s.departs m) := by
    unfold State.deliver
    rw [winner]
    rfl
  unfold State.deliverAll
  simp only [List.foldl_cons, List.foldl_nil, one]
  rfl

/-- A message whose check fails. -/
theorem State.deliverAll_corrupt {s : State} {seg : Fin 5} {m : FaultMsg} (winner : s.segWinner seg = some m) :
    s.deliverAll [⟨seg, true⟩] = ((s.departs m).putB Reg.EVT_STATUS_RING_ERR true).eventAt 0x4ED 1 Sev.degraded Who.nobody
      Access.none 5 (unitAddr 10 seg) := by
  have one : s.deliver ⟨seg, true⟩ = (none, ((s.departs m).putB Reg.EVT_STATUS_RING_ERR true).eventAt 0x4ED 1 Sev.degraded
      Who.nobody Access.none 5 (unitAddr 10 seg)) := by
    unfold State.deliver
    rw [winner]
    rfl
  unfold State.deliverAll
  simp only [List.foldl_cons, List.foldl_nil, one]
  rfl

/-- A single arrival as FIRST keeps it. -/
def State.soleEntry (s : State) (seg : Nat) (m : FaultMsg) : EvEntry :=
  { msg := m, timeHi := originHi s.now m.time, seg := seg, same := false, sameCount := 0 }

/-- A recorded arrival of FIRST_MIN or more becomes the first entry where none is held. -/
theorem State.arrive_firstMarks {s : State} {seg : Nat} {m : FaultMsg} (empty : s.flag Reg.EVT_STATUS_FIRST_VALID = false)
    (records : s.flag (Reg.EVT_CFG_RECORD m.src) = true) (severe : s.get Reg.EVT_CTRL_FIRST_MIN ≤ m.sev) :
    (s.arrive [(seg, m)]).firstMarks = (some (s.soleEntry seg m), true) := by
  have worst (n : Nat) : (s.put Reg.EVT_STATUS_WORST n).flag (Reg.EVT_CFG_RECORD m.src) = true ∧
      (s.put Reg.EVT_STATUS_WORST n).flag Reg.EVT_STATUS_FIRST_VALID = false ∧
      (s.put Reg.EVT_STATUS_WORST n).get Reg.EVT_CTRL_FIRST_MIN ≤ m.sev := by
    refine ⟨?_, ?_, ?_⟩
    · rwa [State.flag_of_rd (State.rd_put_other _ _ _ (by simp only [Reg.EVT_CFG_RECORD, Reg.EVT_STATUS_WORST]; omega))]
    · rwa [State.flag_put_other _ _ _ _ (by decide) (by decide)]
    · rwa [State.get_put_other _ _ _ _ (by decide) (by decide)]
  unfold State.arrive
  simp only [List.foldl_cons, List.foldl_nil, insertMsg]
  obtain ⟨hrec, hvalid, hmin⟩ := worst (max (s.get Reg.EVT_STATUS_WORST) m.sev)
  simp only [List.filter_cons, List.filter_nil, hrec, hvalid, hmin, if_true, Bool.false_eq_true, if_false, List.find?_cons,
    decide_true]
  refine (State.each_proj State.firstMarks (fun s x _ => s.react_firstMarks x.2) _).trans ?_
  rw [if_neg (by simp)]
  exact Prod.ext rfl (State.flag_putB_same _ _ _ (by decide) rfl)

theorem exec_faultMessageDelivery_keeps {seg : Fin 5} {mates : Nat} {s : State} {m : FaultMsg} (on : s.mainOff = false)
    (heard : s.events.lost = false) (winner : (s.each (s.pending.take mates) State.clearAhead).segWinner seg = some m)
    (empty : (s.each (s.pending.take mates) State.clearAhead).flag Reg.EVT_STATUS_FIRST_VALID = false)
    (records : s.flag (Reg.EVT_CFG_RECORD m.src) = true) (severe : s.get Reg.EVT_CTRL_FIRST_MIN ≤ m.sev) :
    ∃ t, exec (.faultMessageDelivery [⟨seg, false⟩] mates) s = .next t ∧ t.flag Reg.EVT_STATUS_FIRST_VALID = true ∧
      ∃ e, t.events.first = some e ∧ e.msg = m ∧ e.seg = seg.val := by
  show ∃ t, execFaultMessageDelivery [⟨seg, false⟩] mates s = .next t ∧ _
  refine yields_occurs (by simp [on, heard]) ?_
  have ahead : s.begin.each (s.begin.pending.take mates) State.clearAhead = (s.each (s.pending.take mates) State.clearAhead).begin :=
    s.each_clearAhead_begin _
  rw [ahead]
  have word {x : Nat} (other : x ≠ 0x020004) := s.rd_each_clearAhead (s.pending.take mates) other
  have own : Reg.EVT_CFG_RECORD m.src = ⟨0x021000 + 0x4 * m.src, 0, 1⟩ := rfl
  revert winner empty word
  generalize s.each (s.pending.take mates) State.clearAhead = u
  intro winner empty word
  have winner' : u.begin.segWinner seg = some m := winner
  have records' : u.flag (Reg.EVT_CFG_RECORD m.src) = true := by
    rwa [State.flag_of_rd (word (by simp only [own]; omega))]
  have severe' : u.get Reg.EVT_CTRL_FIRST_MIN ≤ m.sev := by
    rwa [State.get_of_rd (word (by decide))]
  rw [State.deliverAll_sound winner']
  have marks := State.arrive_firstMarks (s := u.begin.departs m) (seg := seg) empty records' severe'
  have first := congrArg Prod.fst marks
  have valid := congrArg Prod.snd marks
  exact ⟨valid, _, first, rfl, rfl⟩

theorem exec_faultMessageDelivery_discards {seg : Fin 5} {mates : Nat} {s : State} {m : FaultMsg} (on : s.mainOff = false)
    (heard : s.events.lost = false) (winner : (s.each (s.pending.take mates) State.clearAhead).segWinner seg = some m) :
    ∃ t, exec (.faultMessageDelivery [⟨seg, true⟩] mates) s = .next t ∧ t.flag Reg.EVT_STATUS_RING_ERR = true ∧
      t.pends 0x4ED = true ∧ t.events.first = (s.each (s.pending.take mates) State.clearAhead).events.first := by
  show ∃ t, execFaultMessageDelivery [⟨seg, true⟩] mates s = .next t ∧ _
  refine yields_occurs (by simp [on, heard]) ?_
  have ahead : s.begin.each (s.begin.pending.take mates) State.clearAhead = (s.each (s.pending.take mates) State.clearAhead).begin :=
    s.each_clearAhead_begin _
  rw [ahead]
  revert winner
  generalize s.each (s.pending.take mates) State.clearAhead = u
  intro winner
  have winner' : u.begin.segWinner seg = some m := winner
  rw [State.deliverAll_corrupt winner']
  refine ⟨?_, State.eventAt_pends _ _ _ _ _ _ _ _, State.raise_first _ _⟩
  rw [State.flag_eventAt _ _ _ _ _ _ _ _ _ (by decide) (by decide)]
  exact State.flag_putB_same _ _ _ (by decide) rfl

/-! ## Clearing (R485, R486, R488, R462) -/

section

variable {p : PathIx} {s : State} (served : s.served p = true)
include served

theorem exec_firstClr_clears (open_ : s.writeShut p 0x020000 = false) (late : s.events.earlyClr = 0) :
    ∃ t, exec (.firstClr p) s = .next t ∧ t.events = { s.events with first := none } ∧
      t.flag Reg.EVT_STATUS_FIRST_VALID = false ∧ t.get Reg.EVT_STATUS_WORST = 0 := by
  have once : s.begin.firstClrOnce = s.begin.firstClr := if_neg (by simp [late])
  refine ⟨s.begin.firstClr, ?_, rfl, ?_, ?_⟩
  · rw [← once]
    exact congrArg Host.Outcome.next (State.reach_of_open State.firstClrOnce (s := s.begin) served open_)
  · exact (State.flag_put_other _ _ _ _ (by decide) (by decide)).trans (State.flag_putB_same _ _ _ (by decide) rfl)
  · exact State.get_put_same _ _ _ (by decide)

theorem exec_nextPop_pops (open_ : s.writeShut p 0x020000 = false) (late : s.events.earlyPop = 0)
    (bounded : s.events.next.length ≤ 256) :
    ∃ t, exec (.nextPop p) s = .next t ∧ t.events = { s.events with next := s.events.next.tail } ∧
      t.get Reg.EVT_STATUS_NEXT_FILL = s.events.next.length - 1 := by
  have once : s.begin.nextPopOnce = s.begin.nextPop := if_neg (by simp [late])
  refine ⟨s.begin.nextPop, ?_, rfl, ?_⟩
  · rw [← once]
    exact congrArg Host.Outcome.next (State.reach_of_open State.nextPopOnce (s := s.begin) served open_)
  · refine (State.get_put_same _ _ _ (by decide)).trans (Nat.mod_eq_of_lt ?_)
    show s.events.next.length - 1 < 512
    omega

/-- Only holds of the frame before and of this one stay. -/
theorem exec_gfRelease_releases (open_ : s.writeShut p 0x020000 = false) :
    ∃ t, exec (.gfRelease p) s = .next t ∧ ∀ f ∈ t.events.gfHolds, s.frame < f + 2 := by
  refine ⟨s.begin.gfRelease, congrArg Host.Outcome.next (State.reach_of_open State.gfRelease (s := s.begin) served open_), ?_⟩
  intro f held
  have held' : f ∈ s.events.gfHolds.filter fun f => decide (s.frame < f + 2) := held
  exact of_decide_eq_true (List.mem_filter.mp held').2

theorem exec_alertPendClear_clears (open_ : s.writeShut p 0x020004 = false) :
    ∃ t, exec (.alertPendClear p) s = .next t ∧ t.events = { s.events with alerts := [] } ∧
      t.flag Reg.EVT_STATUS_ALERT_PEND = false :=
  ⟨s.begin.alertClear, congrArg Host.Outcome.next (State.reach_of_open State.alertClear (s := s.begin) served open_), rfl,
    State.flag_putB_same (s.begin.modEvents fun e => { e with alerts := [] }) _ _ (by decide) rfl⟩

/-- The on request latches the power-on and tells so (R457). -/
theorem exec_onReq_latches (open_ : s.writeShut p 0x07000C = false) :
    ∃ t, exec (.onReq p) s = .next t ∧ t.seq.onLatch = true ∧ t.flag Reg.SEQ_STATUS_ON_LATCH = true ∧ t.pends 0x446 = true := by
  refine ⟨s.begin.onRequest, congrArg Host.Outcome.next (State.reach_of_open State.onRequest (s := s.begin) served open_), ?_, ?_,
    State.event_pends _ _ _ _⟩
  · rw [State.onRequest, State.event_seq]
    rfl
  · rw [State.onRequest, State.flag_event _ _ _ _ _ (by decide) (by decide)]
    exact State.flag_putB_same _ _ _ (by decide) rfl

end

theorem exec_alertResponse_answers {s : State} (powered : s.tick.aonPowered = true) (asserted : s.pins.alertN = false)
    (late : s.events.earlyAlert = 0) :
    ∃ t, exec (.alertResponse true) s = .next t ∧ t.out = [.bytes [BitVec.ofNat 8 (2 * s.tw0.addr + 1)]] ∧ t.events.alerts = [] := by
  have matched := State.aonMatched_outside s.begin 4194304 rfl
  have addr : s.begin.aonMatched.tw0.addr = s.tw0.addr := by
    rcases s.begin.aonMatched_eq with same | woken
    · rw [same]
      rfl
    · rw [woken]
      rfl
  have once (o : Out) : (s.begin.aonMatched.emit o).alertClearOnce = (s.begin.aonMatched.emit o).alertClear := by
    refine if_neg ?_
    rw [State.emit_events, events_of_outside matched (by decide)]
    show ¬ 0 < s.events.earlyAlert
    omega
  show ∃ t, execAlertResponse true s = .next t ∧ _
  unfold execAlertResponse
  rw [if_neg (by simp [asserted])]
  refine State.onTw0_of_powered _ powered ?_
  dsimp only
  rw [if_pos rfl, once, addr]
  refine ⟨?_, rfl⟩
  show (s.begin.aonMatched.emit _).out = _
  rw [State.emit_out, State.aonMatched_out]
  rfl

/-! ## Lockstep (R492) -/

/-- A restart sets the cluster running; the pairs stay as they are. -/
theorem State.clusterRestart_cluster (s : State) : s.clusterRestart.cluster =
    { s.cluster with running := true, bootOk := false, lockstep := true, releasedAt := s.now } := by
  have released : s.updRelease.twReenabled.cluster = s.cluster ∧ s.updRelease.twReenabled.now = s.now := ⟨rfl, rfl⟩
  rw [← released.1, ← released.2]
  unfold State.clusterRestart
  generalize s.updRelease.twReenabled = u
  dsimp only
  split
  · rfl
  · rw [State.modUpd_cluster, State.modFabric_cluster, State.each_proj State.cluster fun s k _ => State.modLd_cluster s k _]

theorem State.takeover_of_standby {s : State} (alive : s.cluster.halted = false) (spare : s.cluster.standby = true) :
    s.takeover.cluster.activePair = 1 - s.cluster.activePair ∧ s.takeover.cluster.standby = false ∧
      s.takeover.cluster.running = true ∧ s.takeover.pends (srcMgmt s.cluster.activePair) = true := by
  unfold State.takeover
  simp only [alive, spare, Bool.false_eq_true, if_false, if_true, State.clusterRestart_cluster, State.event_cluster]
  refine ⟨trivial, trivial, trivial, ?_⟩
  rw [State.pends_congr (congrArg Events.pending (events_of_outside (State.clusterRestart_outside _ 75522081 (by decide))
    (by decide)))]
  exact State.event_pends _ _ _ _

theorem State.takeover_of_alone {s : State} (alive : s.cluster.halted = false) (alone : s.cluster.standby = false) :
    s.takeover.cluster.halted = true ∧ s.takeover.cluster.running = false ∧
      s.takeover.pends (srcMgmt s.cluster.activePair) = true := by
  unfold State.takeover
  simp only [alive, alone, Bool.false_eq_true, if_false]
  refine ⟨?_, ?_, ?_⟩
  · exact congrArg Cluster.halted (State.event_cluster _ _ _ _)
  · exact congrArg Cluster.running (State.event_cluster _ _ _ _)
  · exact State.event_pends _ _ _ _

theorem exec_lockstepMismatch_yields {k : Fin 2} {s : State} (running : s.cluster.running = true) (on : s.mainOff = false)
    (active : k.val = s.cluster.activePair) (alive : s.cluster.halted = false) :
    ∃ t, exec (.lockstepMismatch k) s = .next t ∧ t.pends (srcMgmt k) = true ∧
      (if s.cluster.standby then t.cluster.activePair = 1 - s.cluster.activePair ∧ t.cluster.standby = false ∧
        t.cluster.running = true
       else t.cluster.halted = true ∧ t.cluster.running = false) := by
  show ∃ t, execLockstepMismatch k s = .next t ∧ _
  refine yields_occurs (by simp [running, on, active]) ?_
  rw [if_pos (show k.val = s.begin.cluster.activePair from active), active]
  cases spare : s.cluster.standby with
  | true =>
    obtain ⟨pair, left, runs, waits⟩ := State.takeover_of_standby (s := s.begin) alive spare
    exact ⟨waits, pair, left, runs⟩
  | false =>
    obtain ⟨halted, stopped, waits⟩ := State.takeover_of_alone (s := s.begin) alive spare
    exact ⟨waits, halted, stopped⟩

/-- Settles O48, clause by clause: each command's effect is a lemma of its own above. -/
theorem eventsAreRaisedDeliveredAndCleared : Obligations.EventsAreRaisedDeliveredAndCleared := by
  unfold Obligations.EventsAreRaisedDeliveredAndCleared
  refine ⟨fun m s on => exec_faultMessageRaise_pends m on,
    fun seg mates s m on heard winner empty records severe =>
      exec_faultMessageDelivery_keeps on heard winner empty records severe,
    fun seg mates s m on heard winner => exec_faultMessageDelivery_discards on heard winner,
    fun p s served open_ => ⟨exec_firstClr_clears served open_, exec_nextPop_pops served open_, exec_gfRelease_releases served open_⟩,
    fun p s served open_ => exec_alertPendClear_clears served open_,
    fun s powered asserted late => exec_alertResponse_answers powered asserted late,
    fun k s running on active alive => exec_lockstepMismatch_yields running on active alive,
    fun p s served open_ => exec_onReq_latches served open_⟩

end Sys2Proof.Machine

/-!
PROOF. The master's charge grants (14_power_sequencing R443, R444): a member list that names a position twice.
-/

namespace Sys2Proof.Machine

/-! ## A request for which room appears -/

/-- A master that may give one charge grant, with position 3 listed twice: the entry that is read holds no grant, the one behind it
holds the only one. -/
def doubledMaster : State :=
  { wMaster.put Reg.SEQ_GROUP_CHG_MAX 1 with group := { members := [(3, {}), (3, { chgGrant := true })] } }

/-- The request replaces both entries by one: the grant behind is gone, there is room, and the request does not stay pending. -/
theorem exec_chgReq_doubledMaster {t : State} (next : exec (.chgReq 3) doubledMaster = .next t) :
    (t.member 3).chgPend = false := by
  have result : (match exec (.chgReq 3) doubledMaster with
    | .next u => (u.member 3).chgPend
    | _ => true) = false := by decide +kernel
  rwa [next] at result

/-- Refutes O45: its first clause takes every state, also one whose member list is not in canonical form. Where position 3 is listed
twice, CHG_REQ without room drops the entry that holds the only grant, finds room and grants at once. -/
theorem not_theMasterGrantsChargeAndLearning : ¬ Obligations.TheMasterGrantsChargeAndLearning := by
  unfold Obligations.TheMasterGrantsChargeAndLearning
  rintro ⟨pending, -⟩
  obtain ⟨t, next, waits, -⟩ := pending 3 doubledMaster (by decide +kernel) (by decide) (by decide +kernel) (by decide +kernel)
  exact absurd ((exec_chgReq_doubledMaster next).symm.trans waits) Bool.false_ne_true

end Sys2Proof.Machine

/-!
PROOF. The cascade, discovery and the group's power-up (14_power_sequencing R439 to R441).
-/

namespace Sys2Proof.Machine

/-! ## The start of the main rails (R420) -/

section

variable (s : State)

/-- What follows a change of a rail's state writes SEQ_STATUS and, with a message, the event counters. -/
theorem State.rd_railsJudged {x : Nat} (high : 0x030000 ≤ x) (other : x ≠ 0x060000) : s.railsJudged.rd x = s.rd x := by
  have incident : s.judgeIncident.rd x = s.rd x := by
    unfold State.judgeIncident
    dsimp only
    split
    · exact State.rd_putB_other _ _ _ other
    · rfl
  have blocked (t : State) : t.judgeBlocked.rd x = t.rd x := by
    unfold State.judgeBlocked
    dsimp only
    split
    · exact State.rd_event_above (src := 0x4A9) _ _ _ (by decide) high
    · rfl
  rw [State.railsJudged, State.rd_judgeGf _ other, blocked, incident]

theorem State.railsJudged_pends {src : Nat} (waits : s.pends src = true) : s.railsJudged.pends src = true := by
  have incident : s.judgeIncident.pends src = true := by
    unfold State.judgeIncident
    dsimp only
    split <;> exact waits
  show s.judgeIncident.judgeBlocked.pends src = true
  unfold State.judgeBlocked
  dsimp only
  split
  · exact State.event_pends_other _ _ _ _ _ incident
  · exact incident

/-- The power state, and whether the main rails have been started. -/
def State.startMarks (s : State) : Power × Bool := (s.seq.power, s.seq.mainStarted)

theorem State.railsJudged_startMarks : s.railsJudged.startMarks = s.startMarks := by
  have incident : s.judgeIncident.seq = s.seq := seq_of_outside (State.judgeIncident_outside s 1 rfl) (by decide)
  have blocked (t : State) : t.judgeBlocked.startMarks = t.startMarks := by
    unfold State.judgeBlocked State.startMarks
    dsimp only
    split
    · rw [State.event_seq]
      rfl
    · rfl
  show s.judgeIncident.judgeBlocked.startMarks = s.startMarks
  rw [blocked]
  unfold State.startMarks
  rw [incident]

theorem railBase_ge (k : Nat) : 0x061000 ≤ railBase k := Nat.le_add_right _ _

/-- A rail's own registers lie above SEQ_STATUS and the group's. -/
theorem State.rd_put_rail {f : Fld} (v : Nat) {x : Nat} (low : x < 0x061000) (own : 0x061000 ≤ f.off) :
    (s.put f v).rd x = s.rd x := State.rd_put_other _ _ _ (Nat.ne_of_lt (Nat.lt_of_lt_of_le low own))

theorem RAIL_STATUS_ge (k : Nat) : 0x061000 ≤ railBase k + 0x10 := Nat.le_add_right_of_le (railBase_ge k)

/-- Each rail of a stage is enabled or held off. -/
def State.railStarts (s : State) (k : Nat) : State :=
  if (s.parents k).all fun p => s.railIsGood p then s.enableRail k (s.get (Reg.RAIL_CFG2_ON_DELAY k) * 100000) else s.railEnds k 5

theorem State.rd_railStarts (k : Nat) {x : Nat} (low : x < 0x061000) : (s.railStarts k).rd x = s.rd x := by
  unfold State.railStarts
  split <;> exact State.rd_put_rail _ _ low (RAIL_STATUS_ge k)

theorem State.rd_startStage (ix : Nat) (r : RailRun) {x : Nat} (high : 0x030000 ≤ x) (low : x < 0x061000) (other : x ≠ 0x060000) :
    (s.startStage ix r).rd x = s.rd x := by
  unfold State.startStage
  dsimp only
  rw [State.rd_railsJudged _ high other]
  refine (State.each_proj (State.rd · x) (fun s k _ => s.rd_railStarts k low) _).trans ?_
  rw [State.rd_put_other _ _ _ other, State.modSeq_rd]

theorem State.startStage_pends (ix : Nat) (r : RailRun) {src : Nat} (waits : s.pends src = true) :
    (s.startStage ix r).pends src = true := by
  unfold State.startStage
  refine State.railsJudged_pends _ ?_
  refine (State.each_proj (State.pends · src) (fun s k _ => ?_) _).trans waits
  split <;> rfl

theorem State.startStage_startMarks (ix : Nat) (r : RailRun) : (s.startStage ix r).startMarks = s.startMarks := by
  unfold State.startStage
  rw [State.railsJudged_startMarks]
  refine (State.each_proj State.startMarks (fun s k _ => ?_) _).trans rfl
  split <;> rfl

/-- The state in which the first stage starts: every main rail waits, its retries loaded. -/
def State.mainReady (s : State) : State :=
  let l := s.mainRails
  let s := (s.setPower .powerUp).modSeq fun x => { x with mainStarted := true, runs := [{ todo := l, due := s.now }] }
  let s := s.each ((List.range 32).filter s.railPresent) fun s k => s.put (Reg.RAIL_STATUS_RETRIES_LEFT k) (s.get (Reg.RAIL_CFG0_RETRIES k))
  s.each l fun s k => s.put (Reg.RAIL_STATUS_STATE k) 1

/-- The main rails have been started, or may not be now. -/
def State.mainBarred (s : State) : Bool :=
  !s.flag Reg.CFG_STATUS_SEALED || s.seq.mainStarted || s.seq.offWaiting ||
    !(decide (s.seq.power = .boot) || decide (s.seq.power = .powerUp))

theorem State.startMainRails_eq : s.startMainRails = if s.mainBarred then s else
    if s.mainRails.isEmpty then s.mainReady.modSeq fun x => { x with runs := [] }
    else s.mainReady.startStage 0 { todo := s.mainRails, due := s.mainReady.now } := rfl

theorem State.rd_mainReady {x : Nat} (low : x < 0x061000) (other : x ≠ 0x060000) : s.mainReady.rd x = s.rd x := by
  unfold State.mainReady
  dsimp only
  refine (State.each_proj (State.rd · x) (fun s k _ => s.rd_put_rail 1 low (RAIL_STATUS_ge k)) _).trans ?_
  refine (State.each_proj (State.rd · x) (fun s k _ => s.rd_put_rail _ low (RAIL_STATUS_ge k)) _).trans ?_
  rw [State.modSeq_rd, State.rd_setPower _ _ other]

theorem State.mainReady_events : s.mainReady.events = s.events := by
  unfold State.mainReady
  dsimp only
  refine (State.each_proj State.events (fun _ _ _ => ?_) _).trans ?_
  · rfl
  · refine (State.each_proj State.events (fun _ _ _ => ?_) _).trans ?_ <;> rfl

theorem State.mainReady_startMarks : s.mainReady.startMarks = (.powerUp, true) := by
  unfold State.mainReady
  dsimp only
  refine (State.each_proj State.startMarks (fun _ _ _ => ?_) _).trans ?_
  · rfl
  · refine (State.each_proj State.startMarks (fun _ _ _ => ?_) _).trans ?_ <;> rfl

theorem State.mainReady_pends (src : Nat) : s.mainReady.pends src = s.pends src :=
  State.pends_congr (congrArg Events.pending s.mainReady_events) src

/-- The start of the main rails leaves the group's registers. -/
theorem State.rd_startMainRails {x : Nat} (high : 0x030000 ≤ x) (low : x < 0x061000) (other : x ≠ 0x060000) :
    s.startMainRails.rd x = s.rd x := by
  rw [State.startMainRails_eq]
  split
  · rfl
  · split
    · rw [State.modSeq_rd, State.rd_mainReady _ low other]
    · rw [State.rd_startStage _ _ _ high low other, State.rd_mainReady _ low other]

theorem State.startMainRails_pends {src : Nat} (waits : s.pends src = true) : s.startMainRails.pends src = true := by
  rw [State.startMainRails_eq]
  split
  · exact waits
  · split
    · exact (s.mainReady_pends src).trans waits
    · exact State.startStage_pends _ _ _ ((s.mainReady_pends src).trans waits)

theorem State.startMainRails_startMarks (free : s.mainBarred = false) : s.startMainRails.startMarks = (.powerUp, true) := by
  rw [State.startMainRails_eq, free, if_neg Bool.false_ne_true]
  split
  · exact s.mainReady_startMarks
  · rw [State.startStage_startMarks, State.mainReady_startMarks]

end

/-! ## The cascade (R439, R440) -/

theorem exec_cascadeTrainReceived_places {k : Nat} {s : State} (on : s.mainOff = false) (isSealed : s.isSealed = true)
    (member : s.isMaster = false) (joined : s.flag Reg.SEQ_GROUP_STATUS_STANDALONE = false) (unplaced : s.position = 63)
    (pos : 1 ≤ k) (small : k ≤ 31) :
    ∃ t, exec (.cascadeTrainReceived k) s = .next t ∧ t.position = k ∧ t.out = [.train (k + 1)] ∧ t.group.positionAt = s.now := by
  show ∃ t, execCascadeTrainReceived k s = .next t ∧ _
  refine yields_occurs (by simp [on, isSealed, member, joined, pos]) ?_
  have unplaced' : s.begin.position = 63 := unplaced
  rw [State.trainReceived, if_neg (by simp [unplaced']), if_neg (by omega)]
  refine ⟨?_, rfl, rfl⟩
  exact (State.get_put_same s.begin _ _ (by decide)).trans (Nat.mod_eq_of_lt (by show k < 64; omega))

theorem exec_cascadeMasterTrain_sends {s : State} (head : s.isHeadOfGroup = true) (searching : s.group.discovering = true)
    (due : ∀ a, s.group.trainSf = some a → a + 16 ≤ s.sf) :
    exec .cascadeMasterTrain s = .next { s with out := [.train 1], group := { s.group with trainSf := some s.sf } } := by
  show execCascadeMasterTrain s = _
  refine congrArg Host.Outcome.next (Eq.trans (if_pos ?_) rfl)
  rw [head, searching, Bool.true_and]
  cases sent : s.group.trainSf with
  | none => rfl
  | some a => exact decide_eq_true (due a sent)

/-- A device alone: its position is none, and its main rails start. -/
theorem State.goStandalone_shows (s : State) : s.goStandalone.flag Reg.SEQ_GROUP_STATUS_STANDALONE = true ∧
    s.goStandalone.position = 63 ∧ ∀ src, s.pends src = true → s.goStandalone.pends src = true := by
  have word := ((s.putB Reg.SEQ_GROUP_STATUS_STANDALONE true).put Reg.SEQ_GROUP_STATUS_POSITION 63).rd_startMainRails (x := 0x060104)
    (by decide) (by decide) (by decide)
  refine ⟨?_, ?_, fun src waits => State.startMainRails_pends _ waits⟩
  · refine (State.flag_of_rd (f := Reg.SEQ_GROUP_STATUS_STANDALONE) word).trans ?_
    rw [State.flag_put_other _ _ _ _ (by decide) (by decide), State.flag_putB_same _ _ _ (by decide) rfl]
  · exact (State.get_of_rd (f := Reg.SEQ_GROUP_STATUS_POSITION) word).trans (State.get_put_same _ _ _ (by decide))

theorem exec_cascadeTimeout_parts {s : State} (on : s.mainOff = false) (isSealed : s.isSealed = true) (unplaced : s.position = 63)
    (joined : s.flag Reg.SEQ_GROUP_STATUS_STANDALONE = false) (late : s.group.sealedAt + s.discoverTime ≤ s.now) :
    ∃ t, exec .cascadeTimeout s = .next t ∧ t.flag Reg.SEQ_GROUP_STATUS_STANDALONE = true ∧ t.position = 63 ∧
      t.pends 0x4A5 = true := by
  show ∃ t, execCascadeTimeout s = .next t ∧ _
  refine yields_occurs (by simp [on, isSealed, unplaced, joined, late]) ?_
  obtain ⟨alone, place, kept⟩ := (s.begin.event 0x4A5 1 Sev.degraded).goStandalone_shows
  exact ⟨alone, place, kept _ (State.event_pends _ _ _ _)⟩

/-! ## Discovery (R441) -/

theorem two_pow_posIx_lt (p : PosIx) : 2 ^ p.val < 2 ^ 32 := Nat.pow_lt_pow_right (by decide) p.isLt

theorem exec_statusPoll_counts {p : PosIx} (a : Nat) {s : State} (head : s.isHeadOfGroup = true)
    (searching : s.group.discovering = true) (member : 1 ≤ p.val) :
    ∃ t, exec (.statusPoll p (some a)) s = .next t ∧ (t.member p).answered = true ∧
      t.get Reg.SEQ_MEMBERS_MAP = s.get Reg.SEQ_MEMBERS_MAP ||| 2 ^ p.val := by
  show ∃ t, execStatusPoll p (some a) s = .next t ∧ _
  refine yields_occurs (by simp [head, searching, member]) ⟨?_, ?_⟩
  · exact congrArg Member.answered (s.begin.modMember_member p fun m => { m with answered := true })
  · refine (State.get_put_other _ _ _ _ (by decide) (by decide)).trans ((State.get_put_same _ _ _ (by decide)).trans ?_)
    refine Nat.mod_eq_of_lt (Nat.or_lt_two_pow ?_ (two_pow_posIx_lt p))
    exact Nat.mod_lt _ (by decide)

/-- The members that did not answer are reported. -/
def State.reportSilent (s : State) (l : List Nat) : State :=
  s.each l fun s p => s.eventAt 0x4A7 2 Sev.degraded Who.nobody Access.none 5 (unitAddr 8 p)

theorem State.get_reportSilent_stagger (s : State) (l : List Nat) :
    (s.reportSilent l).get Reg.SEQ_GROUP_STAGGER_MS = s.get Reg.SEQ_GROUP_STAGGER_MS :=
  State.each_proj (State.get · Reg.SEQ_GROUP_STAGGER_MS)
    (fun s _ _ => State.get_eventAt s _ _ _ _ _ _ _ _ (by decide) (by decide)) s

theorem exec_discoveryEnd_ends {s : State} (head : s.isHeadOfGroup = true) (searching : s.group.discovering = true)
    (late : s.group.sealedAt + s.discoverTime ≤ s.now) :
    ∃ t, exec .discoveryEnd s = .next t ∧ t.group.discovering = false ∧
      .burnor 0x02 none [s.get Reg.SEQ_GROUP_STAGGER_MS] ∈ t.out := by
  show ∃ t, execDiscoveryEnd s = .next t ∧ _
  unfold execDiscoveryEnd
  refine yields_occurs (by simp [head, searching, late]) ?_
  have kept (u : State) := State.startMainRails_outside u 917521 rfl
  have stagger := s.begin.get_reportSilent_stagger (s.memberPositions.filter fun p => !(s.member p).answered)
  refine ⟨?_, ?_⟩
  · rw [group_of_outside (kept _) (by decide)]
    rfl
  · rw [out_of_outside (kept _) (by decide), State.emit_out]
    exact List.mem_append_right _ (List.mem_singleton.mpr (congrArg (fun n => Out.burnor 0x02 none [n]) stagger.symm))

/-! ## The group's power-up (R441) -/

theorem exec_groupPowerUpStart_starts {s : State} {a : Nat} (member : s.isMember = true) (told : s.group.powerUpAt = some a)
    (due : a ≤ s.now) (isSealed : s.flag Reg.CFG_STATUS_SEALED = true) (unstarted : s.seq.mainStarted = false)
    (awake : s.seq.offWaiting = false) (boot : s.seq.power = .boot) :
    ∃ t, exec .groupPowerUpStart s = .next t ∧ t.seq.power = .powerUp ∧ t.seq.mainStarted = true := by
  show ∃ t, execGroupPowerUpStart s = .next t ∧ _
  refine yields_occurs (by simp [member, told, due]) ?_
  have free : s.begin.mainBarred = false := by
    have isSealed' : s.begin.flag Reg.CFG_STATUS_SEALED = true := isSealed
    simp [State.mainBarred, isSealed', unstarted, awake, boot]
  have marks := s.begin.startMainRails_startMarks free
  exact ⟨congrArg Prod.fst marks, congrArg Prod.snd marks⟩

/-- Settles O43, each command by what its lemma says. -/
theorem theCascadeFindsPositionsAndStarts : Obligations.TheCascadeFindsPositionsAndStarts := by
  unfold Obligations.TheCascadeFindsPositionsAndStarts
  refine ⟨fun k s on isSealed member joined unplaced pos small =>
      exec_cascadeTrainReceived_places on isSealed member joined unplaced pos small,
    fun s head searching due => exec_cascadeMasterTrain_sends head searching due,
    fun s on isSealed unplaced joined late => exec_cascadeTimeout_parts on isSealed unplaced joined late,
    fun p a s head searching member => exec_statusPoll_counts a head searching member,
    fun s head searching late => exec_discoveryEnd_ends head searching late,
    fun s a member told due isSealed unstarted awake boot =>
      exec_groupPowerUpStart_starts member told due isSealed unstarted awake boot,
    fun stagger s member none_ => ⟨_, execPowerUp_schedules member none_, rfl, rfl, rfl⟩⟩

end Sys2Proof.Machine

/-!
PROOF. The pack's authentication and the charge permission without a master (13_backup_energy R392, R393, R396).
-/

namespace Sys2Proof.Machine

/-! ## What a judgement of the pack keeps of its authentication -/

/-- AUTH_OK, whether the pack has passed, when the latest attempt ended, and the open challenge. -/
def State.authMarks (s : State) : Bool × Bool × Option Nat × Option Nat :=
  (s.flag Reg.PACK_STATE_AUTH_OK, s.gauge.auth, s.gauge.authLast, s.gauge.challenge)

section

variable (s : State)

theorem State.put_authMarks {f : Fld} (v : Nat) (fits : f.lo + f.width ≤ 32) (apart : Reg.PACK_STATE_AUTH_OK.apart f = true) :
    (s.put f v).authMarks = s.authMarks := by
  unfold State.authMarks
  rw [State.flag_put_other _ _ _ _ fits apart]
  rfl

theorem State.putB_authMarks {f : Fld} (b : Bool) (fits : f.lo + f.width ≤ 32) (apart : Reg.PACK_STATE_AUTH_OK.apart f = true) :
    (s.putB f b).authMarks = s.authMarks := s.put_authMarks _ fits apart

theorem State.event_authMarks {src : Nat} (kind sev : Nat) (low : src < 0x500) : (s.event src kind sev).authMarks = s.authMarks := by
  unfold State.authMarks
  rw [State.flag_event_above _ _ _ low (by decide), State.event_gauge]

theorem State.modGauge_authMarks {f : Gauge → Gauge} (auth : (f s.gauge).auth = s.gauge.auth)
    (last : (f s.gauge).authLast = s.gauge.authLast) (challenge : (f s.gauge).challenge = s.gauge.challenge) :
    (s.modGauge f).authMarks = s.authMarks := by
  unfold State.authMarks
  rw [State.modGauge_flag, State.modGauge_same, auth, last, challenge]

theorem State.modPins_authMarks (f : Pins → Pins) : (s.modPins f).authMarks = s.authMarks := rfl
theorem State.setPack_authMarks (n : Nat) : (s.setPack n).authMarks = s.authMarks := rfl
theorem State.modGroup_authMarks (f : Group → Group) : (s.modGroup f).authMarks = s.authMarks := rfl
theorem State.emit_authMarks (o : Out) : (s.emit o).authMarks = s.authMarks := rfl

theorem State.learnGrantNext_authMarks : s.learnGrantNext.authMarks = s.authMarks := by
  unfold State.learnGrantNext
  split
  · dsimp only
    split
    · rw [State.putB_authMarks _ _ (by decide) (by decide), State.putB_authMarks _ _ (by decide) (by decide),
        State.modGauge_authMarks _ rfl rfl rfl, State.put_authMarks _ _ (by decide) (by decide), State.modGroup_authMarks]
    · rw [State.emit_authMarks, State.put_authMarks _ _ (by decide) (by decide), State.modGroup_authMarks]
  · rfl

theorem State.learnGrantEnds_authMarks (p : Nat) : (s.learnGrantEnds p).authMarks = s.authMarks := by
  unfold State.learnGrantEnds
  rw [State.learnGrantNext_authMarks]
  split
  · rw [State.put_authMarks _ _ (by decide) (by decide), State.modGroup_authMarks]
  · rfl

theorem State.learnEnd_authMarks (result : Nat) (ns : Bool) : (s.learnEnd result ns).authMarks = s.authMarks := by
  unfold State.learnEnd
  extract_lets unloaded ran shown told settled again freed permitless
  have h1 : shown.authMarks = s.authMarks := by
    rw [State.put_authMarks _ _ (by decide) (by decide), State.putB_authMarks _ _ (by decide) (by decide),
      State.put_authMarks _ _ (by decide) (by decide), State.modPins_authMarks]
  have h2 : told.authMarks = shown.authMarks := by
    dsimp only [told]
    split
    · rfl
    · exact State.event_authMarks _ _ _ (by decide)
  have h3 : settled.authMarks = told.authMarks := by
    dsimp only [settled]
    split <;> rfl
  have h4 : permitless.authMarks = settled.authMarks := by
    rw [State.putB_authMarks _ _ (by decide) (by decide), State.putB_authMarks _ _ (by decide) (by decide),
      State.modGauge_authMarks _ rfl rfl rfl]
  rw [← h1, ← h2, ← h3, ← h4]
  split
  · rfl
  · split
    · exact State.learnGrantEnds_authMarks _ _
    · rfl

theorem State.learnVoid_authMarks (result : Nat) : (s.learnVoid result).authMarks = s.authMarks := by
  unfold State.learnVoid
  split
  · exact s.learnEnd_authMarks _ _
  · rfl

theorem State.judgeFet_authMarks : s.judgeFet.authMarks = s.authMarks := by
  unfold State.judgeFet
  dsimp only
  rw [State.putB_authMarks _ _ (by decide) (by decide), State.modPins_authMarks]
  split
  · exact State.event_authMarks _ _ _ (by decide)
  · rfl

theorem State.judgePack_authMarks : s.judgePack.authMarks = s.authMarks := by
  unfold State.judgePack
  extract_lets g shown st settled
  have h1 : shown.authMarks = s.authMarks := State.put_authMarks _ _ (by decide) (by decide)
  have h2 : settled.authMarks = shown.authMarks := by
    dsimp only [settled]
    split
    · rw [State.driveChg, State.putB_authMarks _ _ (by decide) (by decide), State.modPins_authMarks, State.learnVoid_authMarks]
    · rfl
  rw [State.judgeFet_authMarks, State.setPack_authMarks, h2, h1]

/-! ## Messages that wait through a judgement -/

theorem State.learnEnd_pends (result : Nat) (ns : Bool) {src : Nat} (waits : s.pends src = true) :
    (s.learnEnd result ns).pends src = true := by
  unfold State.learnEnd
  extract_lets unloaded ran shown told settled again freed permitless
  have h2 : told.pends src = true := by
    show (if _ then _ else _ : State).pends src = _
    split
    · exact waits
    · exact State.event_pends_other _ _ _ _ _ waits
  have h3 : permitless.pends src = true := by
    show settled.pends src = true
    show (if _ then _ else _ : State).pends src = _
    split <;> exact h2
  split
  · exact h3
  · split
    · exact (State.pends_congr (congrArg Events.pending
        (events_of_outside (State.learnGrantEnds_outside permitless 0 2148597761 (by decide)) (by decide))) src).trans h3
    · exact h3

theorem State.judgePack_pends {src : Nat} (waits : s.pends src = true) : s.judgePack.pends src = true := by
  have fet (t : State) (h : t.pends src = true) : t.judgeFet.pends src = true := by
    unfold State.judgeFet
    dsimp only
    show (if _ then _ else _ : State).pends src = true
    split
    · exact State.event_pends_other _ _ _ _ _ h
    · exact h
  unfold State.judgePack
  extract_lets g shown st settled
  refine fet _ ?_
  show (if _ then _ else _ : State).pends src = true
  split
  · show (shown.learnVoid 4).pends src = true
    unfold State.learnVoid
    split
    · exact State.learnEnd_pends _ _ _ waits
    · exact waits
  · exact waits

/-! ## The end of an attempt (R392, R393) -/

/-- The gauge and AUTH_OK as an attempt ends, before the pack is judged. -/
def State.attemptOver (pass : Bool) : State :=
  (s.modGauge fun g => { g with authTried := 0, authLast := some s.now, challenge := none }).putB Reg.PACK_STATE_AUTH_OK pass

theorem State.attemptOver_authMarks (pass : Bool) : (s.attemptOver pass).authMarks = (pass, s.gauge.auth, some s.now, none) := by
  unfold State.authMarks
  rw [State.attemptOver, State.flag_putB_same _ _ _ (by decide) rfl]
  rfl

theorem State.packClear_authMarks (code : Nat) : (s.packClear code).authMarks = s.authMarks := by
  rw [State.packClear, State.judgePack_authMarks, State.modGauge_authMarks _ rfl rfl rfl]

/-- The pack as it is judged after a pass. -/
def State.passJudged : State := ((s.attemptOver true).modGauge fun g => { g with auth := true }).judgePack

theorem State.authEnds_pass_eq : s.authEnds true =
    if s.passJudged.gauge.faults.contains 2 ∧ ¬ s.passJudged.gauge.alertLow then s.passJudged.packClear 2 else s.passJudged := rfl

theorem State.authEnds_pass : (s.authEnds true).authMarks = (true, true, some s.now, none) := by
  have ok : (s.attemptOver true).flag Reg.PACK_STATE_AUTH_OK = true := congrArg Prod.fst (s.attemptOver_authMarks true)
  have passed : s.passJudged.authMarks = (true, true, some s.now, none) := by
    rw [State.passJudged, State.judgePack_authMarks]
    exact congrArg (·, true, some s.now, none) ok
  rw [State.authEnds_pass_eq]
  split
  · rw [State.packClear_authMarks, passed]
  · exact passed

theorem State.authEnds_fail_eq : s.authEnds false = (s.attemptOver false).packFault 1 0x476 3 := rfl

/-- A failed attempt without a fault held: AUTH_OK falls and the fault is raised. -/
theorem State.authEnds_fail {s : State} (sound : s.gauge.faults = []) :
    (s.authEnds false).authMarks = (false, s.gauge.auth, some s.now, none) ∧ (s.authEnds false).pends 0x476 = true := by
  have held : (s.attemptOver false).gauge.faults.contains 1 = false := by
    show s.gauge.faults.contains 1 = false
    rw [sound]
    rfl
  rw [State.authEnds_fail_eq, State.packFault, held, if_neg Bool.false_ne_true]
  refine ⟨?_, State.judgePack_pends _ (State.event_pends _ _ _ _)⟩
  rw [State.judgePack_authMarks, State.event_authMarks _ _ _ (by decide), State.modGauge_authMarks _ rfl rfl rfl,
    State.attemptOver_authMarks]

end

/-! ## PACK_AUTH_START -/

section

variable {s : State} (due : s.authDue = true)
include due

theorem exec_packAuthStart_passes (off : s.flag Reg.PACK_CFG_AUTH_EN = false) :
    ∃ t, exec .packAuthStart s = .next t ∧ t.flag Reg.PACK_STATE_AUTH_OK = true ∧ t.gauge.auth = true ∧
      t.gauge.authLast = some s.now := by
  show ∃ t, execPackAuthStart s = .next t ∧ _
  have off' : s.begin.flag Reg.PACK_CFG_AUTH_EN = false := off
  refine yields_occurs due ?_
  rw [off', Bool.not_false, if_pos rfl]
  have marks := s.begin.authEnds_pass
  simp only [State.authMarks, Prod.mk.injEq] at marks
  obtain ⟨ok, auth, last, -⟩ := marks
  exact ⟨ok, auth, last⟩

theorem exec_packAuthStart_keyless (on : s.flag Reg.PACK_CFG_AUTH_EN = true) (keyless : (s.slot 24).st ≠ .valid)
    (sound : s.gauge.faults = []) :
    ∃ t, exec .packAuthStart s = .next t ∧ t.flag Reg.PACK_STATE_AUTH_OK = false ∧ t.pends 0x476 = true ∧
      t.gauge.authLast = some s.now ∧ t.gauge.auth = s.gauge.auth := by
  show ∃ t, execPackAuthStart s = .next t ∧ _
  have on' : s.begin.flag Reg.PACK_CFG_AUTH_EN = true := on
  have keyless' : (s.begin.slot 24).st ≠ .valid := keyless
  refine yields_occurs due ?_
  rw [on', Bool.not_true, if_neg Bool.false_ne_true, if_pos keyless']
  obtain ⟨marks, waits⟩ := State.authEnds_fail (s := s.begin) sound
  simp only [State.authMarks, Prod.mk.injEq] at marks
  obtain ⟨ok, auth, last, -⟩ := marks
  exact ⟨ok, waits, last, auth⟩

theorem exec_packAuthStart_challenges (on : s.flag Reg.PACK_CFG_AUTH_EN = true) (keyed : (s.slot 24).st = .valid)
    (random : s.rngOk = true) :
    ∃ t, exec .packAuthStart s = .next t ∧ t.gauge.challenge.isSome = true ∧ t.gauge.challengeAt = s.now ∧
      (∃ b, .twTx 3 (s.get Reg.PACK_CFG_AUTH_ADDR) b 0 ∈ t.out ∧ b.length = 16) := by
  show ∃ t, execPackAuthStart s = .next t ∧ _
  have on' : s.begin.flag Reg.PACK_CFG_AUTH_EN = true := on
  have keyed' : ¬ (s.begin.slot 24).st ≠ .valid := fun h => h keyed
  have random' : s.begin.rngOk = true := random
  refine yields_occurs due ?_
  rw [on', Bool.not_true, if_neg Bool.false_ne_true, if_neg keyed', random', Bool.not_true, if_neg Bool.false_ne_true]
  refine ⟨rfl, rfl, _, List.mem_append_right _ (List.mem_singleton.mpr rfl), ?_⟩
  rw [List.length_map, List.length_range]

end

/-! ## PACK_AUTH_RESPONSE -/

theorem exec_packAuthResponse_judges {s : State} (open_ : s.gauge.challenge.isSome = true) (late : s.gauge.challengeAt + ms 10 ≤ s.now)
    (idle : s.flag Reg.PERS_STATUS_SAVE_ACTIVE = false) (sound : s.gauge.faults = []) :
    (∃ t, exec (.packAuthResponse .good) s = .next t ∧ t.flag Reg.PACK_STATE_AUTH_OK = true ∧ t.gauge.challenge = none) ∧
    (∃ t, exec (.packAuthResponse .bad) s = .next t ∧ t.flag Reg.PACK_STATE_AUTH_OK = false ∧ t.pends 0x476 = true) ∧
    (s.gauge.authTried < 2 → ∃ t, exec (.packAuthResponse .none) s = .next t ∧ t.gauge =
      { s.gauge with authTried := s.gauge.authTried + 1, challenge := none }) := by
  have due : (s.gauge.challenge.isSome && decide (s.gauge.challengeAt + ms 10 ≤ s.now) &&
      !s.flag Reg.PERS_STATUS_SAVE_ACTIVE) = true := by simp [open_, late, idle]
  refine ⟨?_, ?_, fun few => ?_⟩
  · show ∃ t, execPackAuthResponse .good s = .next t ∧ _
    refine yields_occurs due ?_
    have marks := ((s.begin.bump Reg.CIPH_CTRL_COUNT_COUNT 1).invoke 24).authEnds_pass
    simp only [State.authMarks, Prod.mk.injEq] at marks
    obtain ⟨ok, -, -, closed⟩ := marks
    exact ⟨ok, closed⟩
  · show ∃ t, execPackAuthResponse .bad s = .next t ∧ _
    refine yields_occurs due ?_
    obtain ⟨marks, waits⟩ := State.authEnds_fail (s := (s.begin.bump Reg.CIPH_CTRL_COUNT_COUNT 1).invoke 24) sound
    exact ⟨congrArg Prod.fst marks, waits⟩
  · show ∃ t, execPackAuthResponse .none s = .next t ∧ _
    refine yields_occurs due ?_
    have few' : (s.begin.bump Reg.CIPH_CTRL_COUNT_COUNT 0).gauge.authTried + 1 < 3 := Nat.succ_lt_succ few
    dsimp only
    rw [if_pos few']
    rfl

/-! ## CHG_SELF_GRANT (R396) -/

theorem exec_chgSelfGrant_permits {s : State} {a : Nat} (waiting : s.gauge.selfGrantAt = some a) (alone : s.masterless = true)
    (due : a ≤ s.now) :
    ∃ t, exec .chgSelfGrant s = .next t ∧ t.gauge = { s.gauge with chgGrant := true, selfGrantAt := none } ∧
      t.flag Reg.SEQ_GROUP_STATUS_CHG_PERMIT = true := by
  show ∃ t, execChgSelfGrant s = .next t ∧ _
  unfold execChgSelfGrant
  rw [waiting]
  refine yields_occurs (by simp [alone, due]) ⟨rfl, ?_⟩
  exact State.flag_putB_same _ _ _ (by decide) rfl

/-- Settles O32: what judges the pack keeps the attempt's outcome. -/
theorem thePackIsAuthenticatedAndMayCharge : Obligations.ThePackIsAuthenticatedAndMayCharge := by
  unfold Obligations.ThePackIsAuthenticatedAndMayCharge
  exact ⟨fun s due off _ => exec_packAuthStart_passes due off,
    fun s due on keyless sound => exec_packAuthStart_keyless due on keyless sound,
    fun s due on keyed random => exec_packAuthStart_challenges due on keyed random,
    fun s open_ late idle sound => exec_packAuthResponse_judges open_ late idle sound,
    fun s a waiting alone due => exec_chgSelfGrant_permits waiting alone due⟩

end Sys2Proof.Machine

/-!
PROOF. The power button and the off requests (14_power_sequencing R429 to R431; 19_life_cycle R547 to R551).
-/

namespace Sys2Proof.Machine

/-! ## The button's counters and pin through a power-down and a handshake -/

/-- SEQ_BTN, the button's pin as it was sampled, and the press in progress. -/
def State.buttonMarks (s : State) : Word × Bool × Option Nat := (s.rd 0x06000C, s.pins.pwrbtnN, s.seq.pressAt)

section

variable (s : State)

theorem State.put_buttonMarks {f : Fld} (v : Nat) (elsewhere : (0x06000C : Nat) ≠ f.off) :
    (s.put f v).buttonMarks = s.buttonMarks := congrArg (·, s.pins.pwrbtnN, s.seq.pressAt) (State.rd_put_other s f v elsewhere)

theorem State.putB_buttonMarks {f : Fld} (b : Bool) (elsewhere : (0x06000C : Nat) ≠ f.off) :
    (s.putB f b).buttonMarks = s.buttonMarks := s.put_buttonMarks _ elsewhere

theorem State.event_buttonMarks {src : Nat} (kind sev : Nat) (low : src < 0x500) :
    (s.event src kind sev).buttonMarks = s.buttonMarks := by
  unfold State.buttonMarks
  rw [State.rd_event_above _ _ _ low (by decide), State.event_pins, State.event_seq]

theorem State.modSeq_buttonMarks {f : Seq → Seq} (keeps : ∀ x, (f x).pressAt = x.pressAt) :
    (s.modSeq f).buttonMarks = s.buttonMarks := congrArg (s.rd 0x06000C, s.pins.pwrbtnN, ·) (keeps s.seq)

theorem State.modPins_buttonMarks {f : Pins → Pins} (keeps : ∀ x, (f x).pwrbtnN = x.pwrbtnN) :
    (s.modPins f).buttonMarks = s.buttonMarks := congrArg (s.rd 0x06000C, ·, s.seq.pressAt) (keeps s.pins)

theorem State.modImage_buttonMarks (f : Image → Image) : (s.modImage f).buttonMarks = s.buttonMarks := rfl

theorem State.modRail_buttonMarks (k : Nat) (f : Rail → Rail) : (s.modRail k f).buttonMarks = s.buttonMarks := rfl

theorem State.buttonMarks_of_outside {m : Nat} {s t : State} (same : t.outside m = s.outside m) (pins : m.testBit 19 = false)
    (seq : m.testBit 18 = false) (word : t.rd 0x06000C = s.rd 0x06000C) : t.buttonMarks = s.buttonMarks := by
  unfold State.buttonMarks
  rw [pins_of_outside same pins, seq_of_outside same seq, word]

theorem State.setPower_buttonMarks (p : Power) : (s.setPower p).buttonMarks = s.buttonMarks := by
  unfold State.setPower
  dsimp only
  split
  · rw [State.put_buttonMarks _ _ (by decide), State.modSeq_buttonMarks _ (by exact fun _ => rfl)]
  · exact s.modSeq_buttonMarks fun _ => rfl

theorem State.beginPowerDown_buttonMarks (why : LastDown) : (s.beginPowerDown why).buttonMarks = s.buttonMarks := by
  have rail (t : State) (k : Nat) : (t.railOff k).buttonMarks = t.buttonMarks :=
    State.buttonMarks_of_outside (State.railOff_outside t k 131073 rfl) (by decide) (by decide) (t.rd_railOff k (by decide))
  have arm (t : State) : (t.arm false).buttonMarks = t.buttonMarks :=
    State.buttonMarks_of_outside (State.arm_outside t false 1 rfl) (by decide) (by decide) (t.rd_arm false (by decide) (by decide))
  have held : s.holdDram.buttonMarks = s.buttonMarks :=
    State.buttonMarks_of_outside (State.holdDram_outside s 1025 rfl) (by decide) (by decide) (s.rd_holdDram (by decide))
  unfold State.beginPowerDown
  split
  · rfl
  · rw [State.each_proj State.buttonMarks fun s k _ => rail s k, arm, State.putB_buttonMarks _ _ (by decide),
      State.modSeq_buttonMarks _ (by exact fun _ => rfl),
      State.each_proj State.buttonMarks fun s k _ => s.modRail_buttonMarks k _, State.put_buttonMarks _ _ (by decide),
      State.putB_buttonMarks _ _ (by decide), State.modSeq_buttonMarks _ (by exact fun _ => rfl),
      State.modPins_buttonMarks _ (by exact fun _ => rfl), State.setPower_buttonMarks, State.modImage_buttonMarks, held]

theorem State.trigger_buttonMarks (cause : Nat) : (s.trigger cause).buttonMarks = s.buttonMarks := by
  unfold State.trigger
  split
  · exact State.buttonMarks_of_outside (State.saveTrigger_outside s cause 2097153 rfl) (by decide) (by decide)
      (s.rd_saveTrigger cause (by decide))
  · split
    · split
      · rfl
      · rw [State.event_buttonMarks _ _ _ (by decide), State.modSeq_buttonMarks _ (by exact fun _ => rfl)]
    · split
      · exact State.event_buttonMarks _ _ _ (by decide)
      · rfl

theorem State.shakeEnds_buttonMarks : s.shakeEnds.buttonMarks = s.buttonMarks := by
  unfold State.shakeEnds
  split
  · rfl
  · split
    · rw [State.trigger_buttonMarks, State.put_buttonMarks _ _ (by decide), State.putB_buttonMarks _ _ (by decide)]
      rfl
    · rfl

theorem State.shakeMet_buttonMarks (c : Nat) : (s.shakeMet c).buttonMarks = s.buttonMarks := by
  unfold State.shakeMet
  split
  · rfl
  · split
    · exact s.shakeEnds_buttonMarks
    · split
      · rfl
      · dsimp only
        rw [State.shakeEnds_buttonMarks]
        split
        · rw [State.event_buttonMarks _ _ _ (by decide), State.putB_buttonMarks _ _ (by decide)]
          rfl
        · rfl

end

/-! ## The off handshake opens (R547, R550) -/

/-- The heads whose links are up. -/
def State.linksUp (s : State) : List Nat := [0, 1].filter fun h => s.flag (Reg.FAB_STATUS_LINK_UP h)

/-- The handshake as it opens, before what a ship request adds and before a condition is looked for. -/
def State.handshakeOpened (s : State) (ship : Bool) : State :=
  let s := { s with shake := some { openAt := s.now, linksUp := s.linksUp, shipEnded := !ship } }
  let s := ((s.putB Reg.PERS_OFF_PENDING true).putB Reg.PERS_OFF_SHIP ship).event 0x4AA 1 Sev.note
  (s.modSeq fun x => { x with offLatch := false }).putB Reg.SEQ_STATUS_OFF_LATCH false

section

variable (s : State)

theorem State.openHandshake_eq (ship : Bool) : s.openHandshake ship =
    if s.linksUp = [] then (if ship then (s.handshakeOpened ship).shipPrepare else s.handshakeOpened ship).shakeMet 2
    else if ship then (s.handshakeOpened ship).shipPrepare else s.handshakeOpened ship := rfl

theorem State.handshakeOpened_shake (ship : Bool) : (s.handshakeOpened ship).shake =
    some { openAt := s.now, linksUp := s.linksUp, shipEnded := !ship } := State.event_shake _ _ _ _

theorem State.handshakeOpened_shows (ship : Bool) : (s.handshakeOpened ship).flag Reg.PERS_OFF_PENDING = true ∧
    (s.handshakeOpened ship).flag Reg.PERS_OFF_SHIP = ship ∧ (s.handshakeOpened ship).pends 0x4AA = true := by
  unfold State.handshakeOpened
  dsimp only
  refine ⟨?_, ?_, State.event_pends _ _ _ _⟩
  · rw [State.flag_putB_other _ _ _ _ (by decide) (by decide), State.modSeq_flag, State.flag_event _ _ _ _ _ (by decide) (by decide),
      State.flag_putB_other _ _ _ _ (by decide) (by decide), State.flag_putB_same _ _ _ (by decide) rfl]
  · rw [State.flag_putB_other _ _ _ _ (by decide) (by decide), State.modSeq_flag, State.flag_event _ _ _ _ _ (by decide) (by decide),
      State.flag_putB_same _ _ _ (by decide) rfl]

theorem State.handshakeOpened_writesOnly (ship : Bool) :
    s.writesOnly [0x030018, 0x060000] 0x4AA (s.handshakeOpened ship) := by
  unfold State.handshakeOpened
  refine .putB (.modSeq (.event (.putB (.putB ?_ _ (by decide)) _ (by decide)) _ _) _) _ (by decide)
  exact State.writesOnly_of_regs rfl

theorem State.handshakeOpened_buttonMarks (ship : Bool) : (s.handshakeOpened ship).buttonMarks = s.buttonMarks := by
  unfold State.handshakeOpened
  rw [State.putB_buttonMarks _ _ (by decide), State.modSeq_buttonMarks _ (by exact fun _ => rfl), State.event_buttonMarks _ _ _ (by decide),
    State.putB_buttonMarks _ _ (by decide), State.putB_buttonMarks _ _ (by decide)]
  rfl

theorem State.openHandshake_buttonMarks : (s.openHandshake false).buttonMarks = s.buttonMarks := by
  rw [State.openHandshake_eq, if_neg Bool.false_ne_true]
  split
  · rw [State.shakeMet_buttonMarks, State.handshakeOpened_buttonMarks]
  · exact s.handshakeOpened_buttonMarks false

end

/-! ## The button (R429, R430) -/

theorem State.latchOff_buttonMarks (s : State) : (s.latchOff false).buttonMarks = s.buttonMarks := by
  unfold State.latchOff
  dsimp only
  rw [if_neg Bool.false_ne_true, State.putB_buttonMarks _ _ (by decide), State.modSeq_buttonMarks _ (by exact fun _ => rfl)]

theorem State.offRequested_buttonMarks (s : State) : (s.offRequested false).buttonMarks = s.buttonMarks := by
  unfold State.offRequested
  split
  · rfl
  · rfl
  · exact s.latchOff_buttonMarks
  · exact s.latchOff_buttonMarks
  · dsimp only
    split
    · exact s.modSeq_buttonMarks (by exact fun _ => rfl)
    · rw [State.beginPowerDown_buttonMarks, State.modSeq_buttonMarks _ (by exact fun _ => rfl)]
  · exact s.beginPowerDown_buttonMarks _
  · exact s.beginPowerDown_buttonMarks _
  · split
    · exact s.beginPowerDown_buttonMarks _
    · split
      · exact s.openHandshake_buttonMarks
      · rw [Bool.false_and, if_neg Bool.false_ne_true]

theorem State.toggle_buttonMarks (s : State) : s.toggle.buttonMarks = s.buttonMarks := by
  have latch (b : Bool) : (s.latchOn b).buttonMarks = s.buttonMarks := by
    rw [State.latchOn, State.putB_buttonMarks _ _ (by decide), State.modSeq_buttonMarks _ (by exact fun _ => rfl)]
  unfold State.toggle
  split
  · exact latch _
  · exact latch _
  · rfl
  · exact s.offRequested_buttonMarks

/-- The press is over: the pin is high again and its length is shown. -/
def State.pressOver (s : State) (t : Nat) : State :=
  ((s.modSeq fun x => { x with pressAt := none, pressActed := false }).modPins fun p => { p with pwrbtnN := true }).putSat
    Reg.SEQ_BTN_LAST_HOLD_MS ((s.now - t) / 1000000)

theorem State.buttonReleased_eq {s : State} {t : Nat} (idle : s.seq.pressActed = false) : s.buttonReleased t =
    if s.now - t < sec 4 then ((s.pressOver t).bump Reg.SEQ_BTN_SHORT 1).toggle
    else if s.now - t < sec 8 then ((s.pressOver t).bump Reg.SEQ_BTN_IGNORED 1).event 0x4A2 1 Sev.note
    else ((s.pressOver t).forcedOff).modSeq fun x => { x with pressActed := false } := by
  unfold State.buttonReleased
  rw [idle]
  rfl

/-- A count of SEQ_BTN beside the press length goes up by one. -/
theorem State.get_bump_pressOver (s : State) (t : Nat) {f : Fld} (fits : f.lo + f.width ≤ 32)
    (apart : f.apart Reg.SEQ_BTN_LAST_HOLD_MS = true) :
    ((s.pressOver t).bump f 1).get f = min (2 ^ f.width - 1) (s.get f + 1) := by
  rw [State.get_bump_same _ _ _ fits, Nat.min_comm]
  have same : (s.pressOver t).get f = s.get f := State.get_put_other _ _ _ _ (by decide) apart
  rw [same]

theorem exec_pwrbtnPress_begins {s : State} (powered : s.tick.aonPowered = true) (idle : s.seq.pressAt = none) :
    ∃ t, exec .pwrbtnPress s = .next t ∧ t.seq = { s.seq with pressAt := some s.now, pressActed := false } ∧
      t.pins = { s.pins with pwrbtnN := false } ∧ t.regs = s.regs := by
  show ∃ t, execPwrbtnPress s = .next t ∧ _
  exact yields_occurs (by simp [powered, idle]) ⟨rfl, rfl, rfl⟩

section

variable {s : State} {a : Nat} (pressed : s.seq.pressAt = some a) (idle : s.seq.pressActed = false)
include pressed

theorem execPwrbtnRelease_of_pressed : exec .pwrbtnRelease s = .next (s.begin.buttonReleased a) := by
  show execPwrbtnRelease s = _
  unfold execPwrbtnRelease
  rw [pressed]

include idle

/-- A short press toggles (R430), and nothing of the toggle reaches the button. -/
theorem exec_pwrbtnRelease_short (short : s.now - a < sec 4) :
    ∃ t, exec .pwrbtnRelease s = .next t ∧
      t.get Reg.SEQ_BTN_SHORT = min (2 ^ Reg.SEQ_BTN_SHORT.width - 1) (s.get Reg.SEQ_BTN_SHORT + 1) ∧
      t.pins.pwrbtnN = true ∧ t.seq.pressAt = none := by
  refine ⟨_, execPwrbtnRelease_of_pressed pressed, ?_⟩
  have short' : s.begin.now - a < sec 4 := short
  rw [State.buttonReleased_eq (s := s.begin) idle, if_pos short']
  have marks := ((s.begin.pressOver a).bump Reg.SEQ_BTN_SHORT 1).toggle_buttonMarks
  simp only [State.buttonMarks, Prod.mk.injEq] at marks
  obtain ⟨word, pin, over_⟩ := marks
  refine ⟨?_, pin.trans rfl, over_.trans rfl⟩
  exact (State.get_of_rd (f := Reg.SEQ_BTN_SHORT) word).trans (s.begin.get_bump_pressOver a (by decide) (by decide))

theorem exec_pwrbtnRelease_ignored (long : sec 4 ≤ s.now - a) (early : s.now - a < sec 8) :
    ∃ t, exec .pwrbtnRelease s = .next t ∧
      t.get Reg.SEQ_BTN_IGNORED = min (2 ^ Reg.SEQ_BTN_IGNORED.width - 1) (s.get Reg.SEQ_BTN_IGNORED + 1) ∧
      t.pends 0x4A2 = true ∧ t.seq.pressAt = none := by
  refine ⟨_, execPwrbtnRelease_of_pressed pressed, ?_⟩
  have long' : ¬ s.begin.now - a < sec 4 := Nat.not_lt.mpr long
  have early' : s.begin.now - a < sec 8 := early
  rw [State.buttonReleased_eq (s := s.begin) idle, if_neg long', if_pos early']
  refine ⟨?_, State.event_pends _ _ _ _, ?_⟩
  · rw [State.get_event _ _ _ _ _ (by decide) (by decide)]
    exact s.begin.get_bump_pressOver a (by decide) (by decide)
  · rw [State.event_seq]
    rfl

omit pressed idle

/-- The press of 8 s as it is reported. -/
def State.forcedTold (s : State) : State := (s.modSeq fun x => { x with pressActed := true }).event 0x4A2 2 Sev.note

theorem State.forcedTold_keeps : s.forcedTold.save = s.save ∧ s.forcedTold.shake = s.shake ∧ s.forcedTold.frame = s.frame ∧
    s.forcedTold.seq.pressActed = true := by
  unfold State.forcedTold
  rw [State.event_save, State.event_shake, State.event_frame, State.event_seq]
  exact ⟨rfl, rfl, rfl, rfl⟩

theorem State.flag_forcedTold (s : State) {f : Fld} (other : f.off ≠ 0x023000 + 0x4 * 0x4A2) (dropped : f.off ≠ 0x020050) :
    s.forcedTold.flag f = s.flag f := State.flag_event _ _ _ _ _ other dropped

/-- The forced save of a running device with triggers armed and no handshake. -/
theorem State.forcedOff_of_armed (run : s.seq.power = .run) (armed : s.flag Reg.SEQ_STATUS_ARMED = true) (shut : s.shake = none) :
    s.forcedOff = (s.forcedTold.modSave fun x => { x with forcedOff := true }).saveTrigger 3 := by
  have awake : ¬ ((s.modSeq fun x => { x with pressActed := true }).seq.power = .off ∨
      (s.modSeq fun x => { x with pressActed := true }).seq.power = .powerDown) := by
    show ¬ (s.seq.power = .off ∨ s.seq.power = .powerDown)
    rw [run]
    decide
  have told : (s.modSeq fun x => { x with pressActed := true }).event 0x4A2 2 Sev.note = s.forcedTold := rfl
  have armed' : s.forcedTold.flag Reg.SEQ_STATUS_ARMED = true := (s.flag_forcedTold (by decide) (by decide)).trans armed
  have armed'' : (s.forcedTold.modSave fun x => { x with forcedOff := true }).flag Reg.SEQ_STATUS_ARMED = true := armed'
  have closed : s.forcedTold.abandonHandshake false false = s.forcedTold := by
    unfold State.abandonHandshake
    rw [State.forcedTold_keeps.2.1, shut]
  unfold State.forcedOff
  dsimp only
  rw [if_neg awake, told, armed', Bool.or_true, Bool.true_or, if_pos rfl, closed, State.trigger_of_armed 3 armed'']

theorem State.saveTrigger_forcedOff (s : State) (cause : Nat) : (s.saveTrigger cause).save.forcedOff = s.save.forcedOff := by
  unfold State.saveTrigger
  split
  · rfl
  · split
    · split <;> rfl
    · rfl

include pressed idle

/-- A press of 8 s saves, where there is something to save (R429). -/
theorem exec_forcedOff_saves (long : a + sec 8 ≤ s.now) (run : s.seq.power = .run) (armed : s.flag Reg.SEQ_STATUS_ARMED = true)
    (inactive : s.flag Reg.PERS_STATUS_SAVE_ACTIVE = false) (none_ : s.save.frame0 = none) (shut : s.shake = none) :
    ∃ t, exec .forcedOff s = .next t ∧ t.save.frame0 = some s.frame ∧ t.save.causes = [3] ∧ t.save.forcedOff = true ∧
      t.pends 0x4A2 = true ∧ t.seq.pressActed = true := by
  show ∃ t, execForcedOff s = .next t ∧ _
  unfold execForcedOff
  rw [pressed]
  refine yields_occurs (by simp [idle, long]) ?_
  obtain ⟨save, -, frame, acted⟩ := State.forcedTold_keeps (s := s.begin)
  have idle_ : s.begin.forcedTold.flag Reg.PERS_STATUS_SAVE_ACTIVE = false :=
    (s.begin.flag_forcedTold (by decide) (by decide)).trans inactive
  rw [State.forcedOff_of_armed (s := s.begin) run armed shut]
  have saveless : s.begin.forcedTold.save.frame0 = none := by rw [save]; exact none_
  revert save frame acted idle_ saveless
  have waits : s.begin.forcedTold.pends 0x4A2 = true := State.event_pends _ _ _ _
  revert waits
  generalize s.begin.forcedTold = told
  intro waits save frame acted idle_ saveless
  obtain ⟨detected, causes, -⟩ := State.saveTrigger_detects (s := told.modSave fun x => { x with forcedOff := true }) 3 idle_ saveless
  have outside := State.saveTrigger_outside (told.modSave fun x => { x with forcedOff := true }) 3 2097153 rfl
  refine ⟨detected.trans (congrArg some frame), causes, (State.saveTrigger_forcedOff _ _).trans rfl, ?_, ?_⟩
  · rw [State.pends_congr (congrArg Events.pending (events_of_outside outside (by decide)))]
    exact waits
  · rw [seq_of_outside outside (by decide)]
    exact acted

end

/-! ## Which paths are served while the handshake opens -/

/-- Paths are served and windows shut by the link, LD and configuration registers, SAVE_ACTIVE, the power state and the cluster. -/
theorem State.reaches_of_rd {s t : State} (high : ∀ x, 0x080000 ≤ x → t.rd x = s.rd x) (saving : t.rd 0x030000 = s.rd 0x030000)
    (power : t.seq.power = s.seq.power) (drain : t.seq.warmDrain = s.seq.warmDrain) (porst : t.pins.porstN = s.pins.porstN)
    (cluster : t.cluster = s.cluster) (p off : Nat) : t.reaches p off = s.reaches p off := by
  have flags : ∀ f : Fld, 0x080000 ≤ f.off → t.flag f = s.flag f := fun f hf => State.flag_of_rd (high _ hf)
  have lds : ∀ k, 0x080000 ≤ Machine.ldBase k + 0 := fun k => by unfold Machine.ldBase; omega
  have heads : ∀ k, t.ldHead k = s.ldHead k := fun k => State.get_of_rd (high _ (lds k))
  have isSealed : t.isSealed = s.isSealed := flags _ (by decide)
  have mgmt : ∀ h, t.headMgmt h = s.headMgmt h := fun h => by
    simp only [State.headMgmt, State.ldOn, heads, flags (Reg.LD_CFG_ENABLE _) (lds _), flags (Reg.LD_CFG_MGMT _) (lds _)]
  have off' : t.mainOff = s.mainOff := by unfold State.mainOff; rw [power, porst]
  have recovery : t.inRecovery = s.inRecovery := by unfold State.inRecovery; rw [power]
  have aon : t.aonServes = s.aonServes := by unfold State.aonServes State.warmStep3; rw [off', power, drain]
  have save : t.flag Reg.PERS_STATUS_SAVE_ACTIVE = s.flag Reg.PERS_STATUS_SAVE_ACTIVE := State.flag_of_rd saving
  simp only [State.reaches, State.served, State.writeShut, isSealed, mgmt, off', recovery, aon, save, cluster,
    flags (Reg.FAB_STATUS_LINK_UP 0) (by decide), flags (Reg.FAB_STATUS_LINK_UP 1) (by decide)]

theorem State.handshakeOpened_ackComes (s : State) (ship : Bool) : (s.handshakeOpened ship).ackComes = s.ackComes := by
  have regs := s.handshakeOpened_writesOnly ship
  have same : ∀ p off, (s.handshakeOpened ship).reaches p off = s.reaches p off := fun p off => by
    refine State.reaches_of_rd (fun x hx => regs x ?_ ?_ ?_) (regs _ (by decide) (by decide) (by decide)) ?_ ?_ ?_ ?_ p off
    · simp only [List.mem_cons, List.not_mem_nil, or_false, not_or]
      omega
    · simp only [Reg.EVT_COUNT_RAISED]
      omega
    · simp only [Reg.EVT_DROPPED_COUNT]
      omega
    all_goals simp [State.handshakeOpened]
  have mates : (s.handshakeOpened ship).frameMates = s.frameMates := by
    unfold State.frameMates
    rw [show (s.handshakeOpened ship).pending = s.pending from by simp [State.handshakeOpened]]
  unfold State.ackComes
  rw [mates]
  simp only [same]

/-! ## Off requests (R547, R548, R550) -/

theorem State.learnVoid_pends (s : State) (result : Nat) {src : Nat} (waits : s.pends src = true) :
    (s.learnVoid result).pends src = true := by
  unfold State.learnVoid
  split
  · exact s.learnEnd_pends _ _ waits
  · exact waits

/-- The pre-ship step keeps the handshake and its messages, and sets SHIP. -/
theorem State.shipPrepare_shows (s : State) : s.shipPrepare.shake = s.shake ∧
    s.shipPrepare.flag Reg.PERS_OFF_PENDING = s.flag Reg.PERS_OFF_PENDING ∧ s.shipPrepare.flag Reg.PERS_OFF_SHIP = true ∧
    ∀ src, s.pends src = true → s.shipPrepare.pends src = true := by
  have word : ((((s.learnVoid 7).driveChg false).modGauge fun g => { g with shipWrite := true }).wantLearned).rd 0x030018 =
      s.rd 0x030018 := by
    rw [State.wantLearned, State.rd_putB_other _ _ _ (by decide), State.modGauge_rd, State.driveChg,
      State.rd_putB_other _ _ _ (by decide), State.modPins_rd]
    exact s.learnVoid_writesOnly 7 _ (by decide) (by decide) (by decide)
  unfold State.shipPrepare
  refine ⟨?_, ?_, State.flag_putB_same _ _ _ (by decide) rfl, fun src waits => ?_⟩
  · show (s.learnVoid 7).shake = s.shake
    exact shake_of_outside (State.learnVoid_outside s 7 2149122067 rfl) (by decide)
  · rw [State.flag_putB_other _ _ _ _ (by decide) (by decide)]
    exact State.flag_of_rd (f := Reg.PERS_OFF_PENDING) word
  · exact s.learnVoid_pends 7 waits

/-- An open handshake in which a condition of group A is met. -/
def State.metBy (s : State) (h : Handshake) (c : Nat) : State := { s with shake := some { h with met := some c } }

theorem State.shakeMet_of_open {s : State} {h : Handshake} {c : Nat} (open_ : s.shake = some h) (unmet : h.met = none)
    (first : ((decide (2 ≤ c) && s.ackComes) || (decide (c = 3) && s.linksGo h)) = false) : s.shakeMet c =
      (if c = 3 then ((s.metBy h c).putB Reg.PERS_OFF_TIMEOUT true).event 0x4AA 2 Sev.note else s.metBy h c).shakeEnds := by
  unfold State.shakeMet
  rw [open_]
  dsimp only
  rw [unmet, Option.isSome_none, if_neg Bool.false_ne_true, first, if_neg Bool.false_ne_true]
  rfl

/-- The end of a handshake whose conditions are met: the off begins as a save of cause 1. -/
theorem State.shakeEnds_of_met {s : State} {h : Handshake} {c : Nat} (open_ : s.shake = some h) (met : h.met = some c)
    (ended : h.shipEnded = true) : s.shakeEnds =
      ((({ s with shake := none } : State).putB Reg.PERS_OFF_PENDING false).put Reg.PERS_OFF_ENDED_BY c).trigger 1 := by
  unfold State.shakeEnds
  rw [open_]
  dsimp only
  rw [met, ended]

/-- A pre-ship step that has not ended keeps the handshake open. -/
theorem State.shakeEnds_of_unended {s : State} {h : Handshake} (open_ : s.shake = some h) (waiting : h.shipEnded = false) :
    s.shakeEnds = s := by
  unfold State.shakeEnds
  rw [open_]
  dsimp only
  rw [waiting]
  cases h.met <;> rfl

/-- A request on an armed device that runs opens the handshake (R547). -/
theorem State.offRequested_of_armed {s : State} (ship : Bool) (run : s.seq.power = .run) (armed : s.flag Reg.SEQ_STATUS_ARMED = true)
    (shut : s.shake = none) : s.offRequested ship = s.openHandshake ship := by
  unfold State.offRequested
  rw [run]
  dsimp only
  rw [armed, Bool.not_true, if_neg Bool.false_ne_true, shut]

section

variable {s : State} (run : s.seq.power = .run) (armed : s.flag Reg.SEQ_STATUS_ARMED = true) (shut : s.shake = none)
include run armed shut

theorem State.offRequested_opens (ship : Bool) (up : s.linksUp ≠ []) : (s.offRequested ship).shake.isSome = true ∧
    (s.offRequested ship).flag Reg.PERS_OFF_PENDING = true ∧ (s.offRequested ship).flag Reg.PERS_OFF_SHIP = ship ∧
    (s.offRequested ship).pends 0x4AA = true := by
  obtain ⟨pending, shipping, waits⟩ := s.handshakeOpened_shows ship
  rw [State.offRequested_of_armed ship run armed shut, State.openHandshake_eq, if_neg up]
  cases ship with
  | false =>
    rw [if_neg Bool.false_ne_true, State.handshakeOpened_shake]
    exact ⟨rfl, pending, shipping, waits⟩
  | true =>
    obtain ⟨shake, pending', shipping', kept⟩ := (s.handshakeOpened true).shipPrepare_shows
    rw [if_pos rfl, shake, State.handshakeOpened_shake, pending']
    exact ⟨rfl, pending, shipping', kept _ waits⟩

/-- Without a link up the handshake ends as it opens, by condition 2. -/
theorem State.offRequested_ends (down : s.linksUp = []) (unacked : s.ackComes = false) : (s.offRequested false).shake = none ∧
    (s.offRequested false).flag Reg.PERS_OFF_PENDING = false ∧ (s.offRequested false).get Reg.PERS_OFF_ENDED_BY = 2 ∧
    (s.offRequested false).pends 0x4AA = true := by
  have waits := (s.handshakeOpened_shows false).2.2
  have quiet := (s.handshakeOpened_ackComes false).trans unacked
  have opened := s.handshakeOpened_shake false
  have armed' : (s.handshakeOpened false).flag Reg.SEQ_STATUS_ARMED = true := by
    unfold State.handshakeOpened
    dsimp only
    rw [State.flag_putB_other _ _ _ _ (by decide) (by decide), State.modSeq_flag, State.flag_event _ _ _ _ _ (by decide) (by decide),
      State.flag_putB_other _ _ _ _ (by decide) (by decide), State.flag_putB_other _ _ _ _ (by decide) (by decide)]
    exact armed
  rw [State.offRequested_of_armed false run armed shut, State.openHandshake_eq, if_pos down, if_neg Bool.false_ne_true]
  revert waits quiet opened armed'
  generalize s.handshakeOpened false = o
  intro waits quiet opened armed'
  rw [State.shakeMet_of_open opened rfl (by rw [quiet]; rfl), if_neg (by decide)]
  rw [State.shakeEnds_of_met (s := o.metBy _ 2) rfl rfl rfl]
  have armed'' : ((({ o with shake := none } : State).putB Reg.PERS_OFF_PENDING false).put Reg.PERS_OFF_ENDED_BY 2).flag
      Reg.SEQ_STATUS_ARMED = true := by
    rw [State.flag_put_other _ _ _ _ (by decide) (by decide), State.flag_putB_other _ _ _ _ (by decide) (by decide)]
    exact armed'
  have ended : ({ o.metBy { openAt := s.now, linksUp := s.linksUp, shipEnded := !false } 2 with shake := none } : State) =
      { o with shake := none } := rfl
  rw [ended, State.trigger_of_armed 1 armed'']
  have outside := State.saveTrigger_outside
    ((({ o with shake := none } : State).putB Reg.PERS_OFF_PENDING false).put Reg.PERS_OFF_ENDED_BY 2) 1 2097153 rfl
  have word := State.rd_saveTrigger ((({ o with shake := none } : State).putB Reg.PERS_OFF_PENDING false).put
    Reg.PERS_OFF_ENDED_BY 2) 1 (x := 0x030018) (by decide)
  refine ⟨?_, ?_, ?_, ?_⟩
  · rw [shake_of_outside outside (by decide)]
    rfl
  · rw [State.flag_of_rd (f := Reg.PERS_OFF_PENDING) word, State.flag_put_other _ _ _ _ (by decide) (by decide)]
    exact State.flag_putB_same _ _ _ (by decide) rfl
  · exact (State.get_of_rd (f := Reg.PERS_OFF_ENDED_BY) word).trans (State.get_put_same _ _ _ (by decide))
  · exact (State.pends_congr (congrArg Events.pending (events_of_outside outside (by decide))) _).trans waits

end

/-! ## The commands of the off request -/

theorem State.linksUp_of_up {s : State} {h : HeadIx} (up : s.flag (Reg.FAB_STATUS_LINK_UP h) = true) : s.linksUp ≠ [] := by
  refine List.ne_nil_of_mem (a := h.val) (List.mem_filter.mpr ⟨?_, up⟩)
  have := h.isLt
  simp only [List.mem_cons, List.not_mem_nil, or_false]
  omega

theorem State.linksUp_of_down {s : State} (down : ∀ h : HeadIx, s.flag (Reg.FAB_STATUS_LINK_UP h) = false) : s.linksUp = [] := by
  have zero : s.flag (Reg.FAB_STATUS_LINK_UP 0) = false := down 0
  have one : s.flag (Reg.FAB_STATUS_LINK_UP 1) = false := down 1
  simp [State.linksUp, zero, one]

theorem exec_offRequest_next {p : PathIx} {s : State} (served : s.served p = true) (open_ : s.writeShut p 0x060004 = false) :
    exec (.offRequest p) s = .next (s.begin.offRequested false) ∧ exec (.shipOffRequest p) s = .next (s.begin.offRequested true) :=
  ⟨congrArg Host.Outcome.next (State.reach_of_open (fun s => s.offRequested false) (s := s.begin) served open_),
    congrArg Host.Outcome.next (State.reach_of_open (fun s => s.offRequested true) (s := s.begin) served open_)⟩

theorem exec_offAck_meets {p : PathIx} {s : State} {h : Handshake} (served : s.served p = true)
    (open_ : s.writeShut p 0x030018 = false) (shake : s.shake = some h) (unmet : h.met = none) (waiting : h.shipEnded = false) :
    ∃ t, exec (.offAck p) s = .next t ∧ t.shake = some { h with met := some 1 } := by
  refine ⟨s.begin.shakeMet 1, congrArg Host.Outcome.next
    (State.reach_of_open (fun s => s.shakeMet 1) (s := s.begin) served open_), ?_⟩
  rw [State.shakeMet_of_open (s := s.begin) shake unmet rfl, if_neg (by decide),
    State.shakeEnds_of_unended (s := s.begin.metBy h 1) rfl waiting]
  rfl

/-- Neither an acknowledgement nor the last link's going comes in the frame of the time-out. -/
theorem exec_offHandshakeTimeout_meets {s : State} {h : Handshake} (shake : s.shake = some h) (unmet : h.met = none)
    (waiting : h.shipEnded = false) (timed : s.get Reg.PERS_OFF_WAIT_S ≠ 0)
    (late : h.openAt + sec (s.get Reg.PERS_OFF_WAIT_S) ≤ s.now) (unacked : s.ackComes = false) (linked : s.linksGo h = false) :
    ∃ t, exec .offHandshakeTimeout s = .next t ∧ t.shake = some { h with met := some 3 } ∧
      t.flag Reg.PERS_OFF_TIMEOUT = true ∧ t.pends 0x4AA = true := by
  show ∃ t, execOffHandshakeTimeout s = .next t ∧ _
  unfold execOffHandshakeTimeout
  rw [shake]
  refine yields_occurs (by rw [if_neg timed]; exact decide_eq_true late) ?_
  have unacked' : s.begin.ackComes = false := unacked
  have linked' : s.begin.linksGo h = false := linked
  rw [State.shakeMet_of_open (s := s.begin) shake unmet (by rw [unacked', linked']; rfl), if_pos rfl]
  have told := State.event_shake ((s.begin.metBy h 3).putB Reg.PERS_OFF_TIMEOUT true) 0x4AA 2 Sev.note
  rw [State.shakeEnds_of_unended told waiting]
  refine ⟨told, ?_, State.event_pends _ _ _ _⟩
  rw [State.flag_event _ _ _ _ _ (by decide) (by decide)]
  exact State.flag_putB_same _ _ _ (by decide) rfl

/-- Settles O37: the button's marks pass through what it brings about, and a handshake opens, waits or ends by the lemmas above. -/
theorem buttonsAndOffRequestsAct : Obligations.ButtonsAndOffRequestsAct := by
  unfold Obligations.ButtonsAndOffRequestsAct
  refine ⟨fun s powered idle => exec_pwrbtnPress_begins powered idle,
    fun s a pressed idle short => exec_pwrbtnRelease_short pressed idle short,
    fun s a pressed idle long early => exec_pwrbtnRelease_ignored pressed idle long early,
    fun s a pressed idle long run armed inactive none_ shut =>
      exec_forcedOff_saves pressed idle long run armed inactive none_ shut,
    fun p s served open_ run armed shut up => ?_, fun p s served open_ run armed shut down unacked => ?_,
    fun p s h served open_ shake unmet waiting => exec_offAck_meets served open_ shake unmet waiting,
    fun s h shake unmet waiting timed late unacked linked =>
      exec_offHandshakeTimeout_meets shake unmet waiting timed late unacked linked⟩
  · obtain ⟨off, ship⟩ := exec_offRequest_next served open_
    obtain ⟨h, up⟩ := up
    have linked : s.begin.linksUp ≠ [] := State.linksUp_of_up (s := s.begin) up
    exact ⟨⟨_, off, State.offRequested_opens (s := s.begin) run armed shut false linked⟩,
      ⟨_, ship, State.offRequested_opens (s := s.begin) run armed shut true linked⟩⟩
  · have unlinked : s.begin.linksUp = [] := State.linksUp_of_down (s := s.begin) down
    exact ⟨_, (exec_offRequest_next served open_).1, State.offRequested_ends (s := s.begin) run armed shut unlinked unacked⟩

end Sys2Proof.Machine

/-!
PROOF. A power-down's stage 8 (14_power_sequencing R418, R428; SEQ_STATUS): R418 allows eight stages, and SEQ_STATUS.STAGE has three
bits.
-/

namespace Sys2Proof.Machine

/-! ## A power-down that reaches stage 8 -/

/-- A device that powers down, its gap over, with rail 9 enabled in stage 8, the highest that R418 allows. -/
def stageEightDown : State :=
  { (wRun.putB (Reg.RAIL_CFG0_PRESENT 9) true).put (Reg.RAIL_STATUS_STAGE 9) 8 with
    seq := { power := .powerDown }, rails := [(9, { en := true })], tick := { clocksOn := true, devTime := sec 10 } }

theorem stageEightDown_topStage : stageEightDown.topStage = 8 := by decide +kernel

/-- The stage under way is shown modulo 8. -/
theorem exec_powerDownStage_stageEightDown {t : State} (next : exec (.powerDownStage []) stageEightDown = .next t) :
    t.get Reg.SEQ_STATUS_STAGE = 0 := by
  have shown : (match exec (.powerDownStage []) stageEightDown with
    | .next u => u.get Reg.SEQ_STATUS_STAGE
    | _ => 1) = 0 := by decide +kernel
  rwa [next] at shown

/-- Refutes O36: its clause on POWER_DOWN_STAGE has SEQ_STATUS.STAGE read as the stage that goes down. That field has three bits, and
R418 allows a stage 8, which it shows as 0. -/
theorem not_railFaultsAreDeclaredAndRecorded : ¬ Obligations.RailFaultsAreDeclaredAndRecorded := by
  unfold Obligations.RailFaultsAreDeclaredAndRecorded
  rintro ⟨-, -, -, stage, -⟩
  obtain ⟨t, next, shown, -⟩ := stage stageEightDown rfl (by decide +kernel) (by rw [stageEightDown_topStage]; decide)
  rw [exec_powerDownStage_stageEightDown next, stageEightDown_topStage] at shown
  exact absurd shown (by decide)

end Sys2Proof.Machine

/-!
PROOF. Firmware and configuration updates (18_firmware_update R521, R526 to R530): the transfer from its initiate to its end, abort or
time-out, and the activation of a slot.
-/

namespace Sys2Proof.Machine

/-! ## What a transfer's steps leave -/

section

variable (s : State)

theorem State.reply_upd (fn : FnIx) (code : RetCode) (l : List Nat) : (s.reply fn code l).upd = s.upd :=
  upd_of_outside (State.reply_outside s fn code l 2151677969 rfl) (by decide)

theorem State.reply_cluster (fn : FnIx) (code : RetCode) (l : List Nat) : (s.reply fn code l).cluster = s.cluster :=
  cluster_of_outside (State.reply_outside s fn code l 2151677969 rfl) (by decide)

/-- UPD_STAGED is a register of its own. -/
theorem State.rd_putStaged (bytes slot : Nat) : (s.putStaged bytes slot).rd 0x0A0000 = s.rd 0x0A0000 :=
  (State.rd_put_other _ _ _ (by decide)).trans (State.rd_putSat_other _ _ _ (by decide))

theorem State.updRelease_upd : s.updRelease.upd = { s.upd with staging := none } := rfl

/-- UPD_STATUS once the lock is released. -/
theorem State.updRelease_shows : s.updRelease.flag Reg.UPD_STATUS_LOCK = false ∧ s.updRelease.get Reg.UPD_STATUS_OWNER = 0 ∧
    s.updRelease.get Reg.UPD_STATUS_PHASE = 0 ∧
    s.updRelease.get Reg.UPD_STATUS_RUNNING = s.get Reg.UPD_STATUS_RUNNING := by
  unfold State.updRelease
  dsimp only
  refine ⟨?_, ?_, ?_, ?_⟩
  · rw [State.flag_put_other _ _ _ _ (by decide) (by decide), State.flag_put_other _ _ _ _ (by decide) (by decide),
      State.flag_put_other _ _ _ _ (by decide) (by decide), State.flag_putB_same _ _ _ (by decide) rfl]
  · rw [State.get_put_other _ _ _ _ (by decide) (by decide), State.get_put_other _ _ _ _ (by decide) (by decide),
      State.get_put_same _ _ _ (by decide)]
    rfl
  · rw [State.get_put_other _ _ _ _ (by decide) (by decide), State.get_put_same _ _ _ (by decide)]
    rfl
  · rw [State.get_put_other _ _ _ _ (by decide) (by decide), State.get_put_other _ _ _ _ (by decide) (by decide),
      State.get_put_other _ _ _ _ (by decide) (by decide), State.get_putB_other _ _ _ _ (by decide) (by decide)]
    rfl

end

/-! ## The transfer (R526 to R528) -/

section

variable {fn : FnIx} {s : State} (served : s.fnServed fn = true) (run : s.inRecovery = false) (own : s.isMgmtFn fn = true)
include served run own

/-- A device-wide update command on a management function does its work. -/
theorem exec_of_update {c : Instr} (f : State → State) (h : exec c s = s.command fn true true f) : exec c s = .next (f s.begin) :=
  exec_of_command h served run fun _ => own

/-- The lock taken and the header staged. -/
def State.initiated (s : State) (fn : FnIx) (slot : Nat) (h : ImageHdr) : State :=
  ((((s.putB Reg.UPD_STATUS_LOCK true).put Reg.UPD_STATUS_OWNER (s.ownerOf fn)).put Reg.UPD_STATUS_PHASE 1).modUpd fun u =>
    { u with staging := some { slot := slot, hdr := h, next := hdrBytes h, at_ := s.now } }).putStaged (hdrBytes h) slot

omit served run own in
theorem State.initiated_shows (s : State) (fn : FnIx) (slot : Nat) (h : ImageHdr) :
    (s.initiated fn slot h).flag Reg.UPD_STATUS_LOCK = true ∧ (s.initiated fn slot h).get Reg.UPD_STATUS_PHASE = 1 ∧
      (s.initiated fn slot h).get Reg.UPD_STATUS_OWNER = s.ownerOf fn % 4 := by
  have word := State.rd_putStaged ((((s.putB Reg.UPD_STATUS_LOCK true).put Reg.UPD_STATUS_OWNER (s.ownerOf fn)).put
    Reg.UPD_STATUS_PHASE 1).modUpd fun u => { u with staging := some { slot := slot, hdr := h, next := hdrBytes h, at_ := s.now } })
    (hdrBytes h) slot
  refine ⟨(State.flag_of_rd (f := Reg.UPD_STATUS_LOCK) word).trans ?_, (State.get_of_rd (f := Reg.UPD_STATUS_PHASE) word).trans ?_,
    (State.get_of_rd (f := Reg.UPD_STATUS_OWNER) word).trans ?_⟩
  · rw [State.modUpd_flag, State.flag_put_other _ _ _ _ (by decide) (by decide),
      State.flag_put_other _ _ _ _ (by decide) (by decide), State.flag_putB_same _ _ _ (by decide) rfl]
  · rw [State.modUpd_get, State.get_put_same _ _ _ (by decide)]
    rfl
  · rw [State.modUpd_get, State.get_put_other _ _ _ _ (by decide) (by decide), State.get_put_same _ _ _ (by decide)]
    rfl

theorem exec_transferFwInitiate_locks {slot : Nat} {h : ImageHdr} (idle : s.flag Reg.PERS_STATUS_SAVE_ACTIVE = false)
    (unlocked : s.lockHeld = false) (low : 1 ≤ slot) (high : slot ≤ 4) (unused : s.slotInUse slot = false)
    (header : s.headerOk slot h = true) (first : s.lockLost (.transferFwInitiate fn slot h) = false) :
    ∃ t, exec (.transferFwInitiate fn slot h) s = .next t ∧ .mailbox fn .success [] ∈ t.out ∧
      t.flag Reg.UPD_STATUS_LOCK = true ∧ t.get Reg.UPD_STATUS_PHASE = 1 ∧ t.get Reg.UPD_STATUS_OWNER = s.ownerOf fn % 4 ∧
      t.upd.staging = some { slot := slot, hdr := h, next := hdrBytes h, at_ := s.now } := by
  have work := exec_of_update served run own (c := .transferFwInitiate fn slot h)
    (fun s => if s.lockLost (.transferFwInitiate fn slot h) then s.reply fn .busy []
    else s.fwInitiate fn slot h) rfl
  have idle' : s.begin.flag Reg.PERS_STATUS_SAVE_ACTIVE = false := idle
  have unlocked' : s.begin.lockHeld = false := unlocked
  have first' : s.begin.lockLost (.transferFwInitiate fn slot h) = false := first
  have target : ¬ (slot < 1 ∨ 4 < slot ∨ s.begin.slotInUse slot = true) := by
    have unused' : s.begin.slotInUse slot = false := unused
    rintro (below | above | used)
    · omega
    · omega
    · exact Bool.false_ne_true (unused'.symm.trans used)
  have header' : s.begin.headerOk slot h = true := header
  have initiates : (if s.begin.lockLost (.transferFwInitiate fn slot h) then s.begin.reply fn .busy []
      else s.begin.fwInitiate fn slot h) = (s.begin.initiated fn slot h).reply fn .success [] := by
    rw [first', if_neg Bool.false_ne_true]
    unfold State.fwInitiate
    dsimp only
    rw [idle', unlocked', Bool.or_self, if_neg Bool.false_ne_true, if_neg target, header', Bool.not_true, if_neg Bool.false_ne_true]
    rfl
  obtain ⟨lock, phase, owner⟩ := s.begin.initiated_shows fn slot h
  have regs := (s.begin.initiated fn slot h).reply_success_regs fn []
  refine ⟨_, work.trans (congrArg _ initiates), State.reply_mem _ _ _ _, ?_, ?_, ?_, ?_⟩
  · rw [State.flag, State.get_congr regs]
    exact lock
  · rw [State.get_congr regs, phase]
  · rw [State.get_congr regs, owner]
    rfl
  · rw [State.reply_upd]
    rfl

section

variable {p : FwPart} {x : Staging} (idle : s.flag Reg.PERS_STATUS_SAVE_ACTIVE = false) (staged : s.upd.staging = some x)
  (intime : s.now ≤ x.at_ + s.idleTime) (taken : s.partRefused fn p x = none)
include idle staged intime taken
omit served run own

/-- The owner's next part, in time and programmed, is staged before the command's own work. -/
theorem State.fwPart_of_taken (f : State → Staging → State) : s.begin.fwPart fn p f = f (s.begin.stagePart p x) x := by
  have idle' : s.begin.flag Reg.PERS_STATUS_SAVE_ACTIVE = false := idle
  have staged' : s.begin.upd.staging = some x := staged
  have intime' : ¬ x.at_ + s.begin.idleTime < s.begin.now := Nat.not_lt.mpr intime
  have taken' : s.begin.partRefused fn p x = none := taken
  unfold State.fwPart
  rw [idle', if_neg Bool.false_ne_true, staged']
  dsimp only
  rw [if_neg intime', taken']

include served run own

theorem exec_transferFwContinue_stages : ∃ t, exec (.transferFwContinue fn p) s = .next t ∧ .mailbox fn .success [] ∈ t.out ∧
    t.upd.staging = some { x with next := x.next + p.len, at_ := s.now } := by
  have work := exec_of_update served run own (c := .transferFwContinue fn p)
    (fun s => s.fwPart fn p fun s _ => s.reply fn .success []) rfl
  refine ⟨_, work.trans (congrArg _ (State.fwPart_of_taken idle staged intime taken _)), State.reply_mem _ _ _ _, ?_⟩
  rw [State.reply_upd]
  rfl

/-- The last part of a firmware image whose checks and copy succeed. -/
theorem exec_transferFwEnd_copies {h : FwHdr} (checked : s.stagedOk x.hdr (x.next + p.len) = true) (slot : x.slot = 1 ∨ x.slot = 2)
    (firmware : x.hdr = .fw h) : ∃ t, exec (.transferFwEnd fn p true) s = .next t ∧ .mailbox fn .success [] ∈ t.out ∧
      t.flag Reg.UPD_STATUS_LOCK = false ∧ t.upd.staging = none ∧ t.fwSlot (x.slot - 1) = { image := some h, act := none } := by
  have work := exec_of_update served run own (c := .transferFwEnd fn p true)
    (fun s => s.fwPart fn p fun s x =>
    (s.fwEnd fn x (x.next + p.len) true).putStaged (x.next + p.len) x.slot) rfl
  have checked' : (s.begin.stagePart p x).stagedOk x.hdr (x.next + p.len) = true := by
    rw [firmware] at checked ⊢
    exact checked
  have copied : (s.begin.stagePart p x).fwEnd fn x (x.next + p.len) true =
      ((s.begin.stagePart p x).updRelease.putTarget x.slot (some (.fw h))).reply fn .success [] := by
    unfold State.fwEnd
    dsimp only
    rw [checked', Bool.not_true, if_neg Bool.false_ne_true, if_neg Bool.false_ne_true, firmware]
  refine ⟨_, work.trans (congrArg _ (State.fwPart_of_taken idle staged intime taken _)), ?_⟩
  rw [copied]
  have target : ∀ u : State, (u.putTarget x.slot (some (.fw h))).regs = u.regs ∧
      (u.putTarget x.slot (some (.fw h))).upd.staging = u.upd.staging ∧
      (u.putTarget x.slot (some (.fw h))).fwSlot (x.slot - 1) = { image := some h, act := none } := fun u => by
    rcases slot with one | two
    · rw [one]
      exact ⟨rfl, rfl, rfl⟩
    · rw [two]
      exact ⟨rfl, rfl, rfl⟩
  obtain ⟨regs, freed, filled⟩ := target (s.begin.stagePart p x).updRelease
  generalize (s.begin.stagePart p x).updRelease.putTarget x.slot (some (.fw h)) = u at regs freed filled
  have upd : ((u.reply fn .success []).putStaged (x.next + p.len) x.slot).upd = u.upd := State.reply_upd _ _ _ _
  refine ⟨State.reply_mem _ _ _ _, ?_, ?_, ?_⟩
  · rw [State.flag_of_rd (f := Reg.UPD_STATUS_LOCK) (State.rd_putStaged _ _ _), State.flag,
      State.get_congr (State.reply_success_regs _ _ _), State.get_congr regs]
    exact (State.updRelease_shows _).1
  · rw [upd, freed, State.updRelease_upd]
  · rw [State.fwSlot, upd]
    exact filled

end

theorem exec_transferFwAbort_frees (staged : s.upd.staging.isSome = true) (owner : s.get Reg.UPD_STATUS_OWNER = s.ownerOf fn) :
    ∃ t, exec (.transferFwAbort fn) s = .next t ∧ .mailbox fn .success [] ∈ t.out ∧ t.upd = { s.upd with staging := none } ∧
      t.flag Reg.UPD_STATUS_LOCK = false := by
  have work := exec_of_update served run own (c := .transferFwAbort fn)
    (fun s =>
    if s.upd.staging.isSome && decide (s.get Reg.UPD_STATUS_OWNER = s.ownerOf fn) then s.updRelease.reply fn .success []
    else s.reply fn .invalidInput []) rfl
  have owned : (s.begin.upd.staging.isSome && decide (s.begin.get Reg.UPD_STATUS_OWNER = s.begin.ownerOf fn)) = true :=
    Bool.and_eq_true_iff.mpr ⟨staged, decide_eq_true owner⟩
  refine ⟨_, work.trans (congrArg _ (if_pos owned)), State.reply_mem _ _ _ _, State.reply_upd _ _ _ _, ?_⟩
  rw [State.flag, State.get_congr (State.reply_success_regs _ _ _)]
  exact s.begin.updRelease_shows.1

end

theorem exec_updateLockIdleTimeout_frees {s : State} {x : Staging} (staged : s.upd.staging = some x)
    (late : x.at_ + s.idleTime < s.now) :
    ∃ t, exec .updateLockIdleTimeout s = .next t ∧ t.upd = { s.upd with staging := none } ∧ t.flag Reg.UPD_STATUS_LOCK = false ∧
      t.get Reg.UPD_STATUS_OWNER = 0 ∧ t.get Reg.UPD_STATUS_PHASE = 0 := by
  show ∃ t, execUpdateLockIdleTimeout s = .next t ∧ _
  unfold execUpdateLockIdleTimeout
  rw [staged]
  obtain ⟨lock, owner, phase, -⟩ := s.begin.updRelease_shows
  exact yields_occurs (decide_eq_true late) ⟨rfl, lock, owner, phase⟩

/-! ## Activation (R521, R529, R530) -/

/-- The activation record of a firmware slot takes the next number; nothing else of the state changes. -/
theorem State.programSlot_shows (s : State) {slot : Nat} (firmware : slot = 1 ∨ slot = 2) :
    ((s.programSlot slot).fwSlot (slot - 1)).act = some s.nextActSeq ∧ (s.programSlot slot).cluster = s.cluster := by
  rcases firmware with rfl | rfl
  · exact ⟨rfl, rfl⟩
  · exact ⟨rfl, rfl⟩

/-- The number of the slot that runs, as UPD_STATUS shows it. -/
theorem State.get_runFw_running (s : State) {k : Nat} (small : k < 2) : (s.runFw k).get Reg.UPD_STATUS_RUNNING = k := by
  have run : (s.put Reg.UPD_STATUS_RUNNING k).get Reg.UPD_STATUS_RUNNING = k :=
    (State.get_put_same _ _ _ (by decide)).trans (Nat.mod_eq_of_lt small)
  unfold State.runFw
  dsimp only
  rw [State.get_put_other _ _ _ _ (by decide) (by decide), State.get_put_other _ _ _ _ (by decide) (by decide),
    State.get_put_other _ _ _ _ (by decide) (by decide), State.get_put_other _ _ _ _ (by decide) (by decide), run]

theorem State.runFw_upd (s : State) (k : Nat) : (s.runFw k).upd = s.upd :=
  upd_of_outside (State.runFw_outside s k 1 rfl) (by decide)

/-- What a restart of the cluster keeps of an activation. -/
def State.runMarks (s : State) : Nat × FwSlot × FwSlot := (s.get Reg.UPD_STATUS_RUNNING, s.upd.fwA, s.upd.fwB)

theorem State.clusterRestart_runMarks (s : State) : s.clusterRestart.runMarks = s.runMarks := by
  have released : s.updRelease.twReenabled.runMarks = s.runMarks :=
    congrArg (·, s.upd.fwA, s.upd.fwB) s.updRelease_shows.2.2.2
  have updated (t : State) (f : Update → Update) (keeps : ∀ u, (f u).fwA = u.fwA ∧ (f u).fwB = u.fwB) :
      (t.modUpd f).runMarks = t.runMarks := by
    unfold State.runMarks
    rw [State.modUpd_get, State.modUpd_same, (keeps t.upd).1, (keeps t.upd).2]
  have listed (t : State) (f : Fabric → Fabric) : (t.modFabric f).runMarks = t.runMarks := rfl
  have logged (t : State) (k : Nat) (f : Ld → Ld) : (t.modLd k f).runMarks = t.runMarks := rfl
  rw [← released]
  unfold State.clusterRestart
  generalize s.updRelease.twReenabled = u
  dsimp only
  split
  · rfl
  · rw [updated _ _ (by exact fun _ => ⟨rfl, rfl⟩), listed]
    exact State.each_proj State.runMarks (fun s k _ => logged s k _) _

section

variable {fn : FnIx} {s : State} (served : s.fnServed fn = true) (run : s.inRecovery = false) (own : s.isMgmtFn fn = true)
  (idle : s.flag Reg.PERS_STATUS_SAVE_ACTIVE = false)
include served run own idle

theorem exec_activateFwOffline_records {slot : Nat} (b : Bool) (holds : s.slotHolds slot = true) (firmware : slot = 1 ∨ slot = 2) :
    ∃ t, exec (.activateFwOffline fn slot b) s = .next t ∧ .mailbox fn .success [] ∈ t.out ∧
      (t.fwSlot (slot - 1)).act = some s.nextActSeq ∧ t.cluster = s.cluster := by
  have work := exec_of_update served run own (c := .activateFwOffline fn slot b)
    (fun s => s.activateOffline fn slot b) rfl
  have idle' : s.begin.flag Reg.PERS_STATUS_SAVE_ACTIVE = false := idle
  have holds' : s.begin.slotHolds slot = true := holds
  have here : ((s.begin.programSlot slot).reply fn .success []).inRecovery = false := by
    have seq : ((s.begin.programSlot slot).reply fn .success []).seq = s.begin.seq :=
      (seq_of_outside (State.reply_outside _ _ _ _ 2151677969 rfl) (by decide)).trans
        (seq_of_outside (State.programSlot_outside s.begin slot 67108864 rfl) (by decide))
    unfold State.inRecovery at run ⊢
    rw [seq]
    exact run
  have activates : s.begin.activateOffline fn slot b = (s.begin.programSlot slot).reply fn .success [] := by
    unfold State.activateOffline
    dsimp only
    rw [idle', if_neg Bool.false_ne_true, holds', Bool.not_true, if_neg Bool.false_ne_true, here, Bool.false_and,
      if_neg Bool.false_ne_true]
  obtain ⟨recorded, cluster⟩ := s.begin.programSlot_shows firmware
  refine ⟨_, work.trans (congrArg _ activates), State.reply_mem _ _ _ _, ?_, ?_⟩
  · rw [State.fwSlot, State.reply_upd]
    exact recorded
  · rw [State.reply_cluster, cluster]
    rfl

theorem exec_activateFwOnline_restarts {slot : Nat} (live : s.liveOk slot = true) :
    ∃ t, exec (.activateFwOnline fn slot) s = .next t ∧ t.get Reg.UPD_STATUS_RUNNING = slot - 1 ∧
      t.get Reg.UPD_STATUS_PHASE = 5 ∧ t.cluster.running = true ∧ t.cluster.bootOk = false ∧
      (t.fwSlot (slot - 1)).act = some s.nextActSeq ∧ t.upd.online = some (fn, s.get Reg.UPD_STATUS_RUNNING) := by
  have work := exec_of_update served run own (c := .activateFwOnline fn slot)
    (fun s => s.activateOnline fn slot) rfl
  have idle' : s.begin.flag Reg.PERS_STATUS_SAVE_ACTIVE = false := idle
  have live' : s.begin.liveOk slot = true := live
  have firmware : slot = 1 ∨ slot = 2 := by
    simp only [State.liveOk, Bool.and_eq_true, decide_eq_true_eq] at live
    exact live.1.2
  have activates : s.begin.activateOnline fn slot =
      (((((s.begin.programSlot slot).runFw (slot - 1)).clusterRestart).modUpd fun u =>
        { u with online := some (fn, s.get Reg.UPD_STATUS_RUNNING) }).put Reg.UPD_STATUS_PHASE 5) := by
    unfold State.activateOnline
    dsimp only
    rw [idle', if_neg Bool.false_ne_true, live', Bool.not_true, if_neg Bool.false_ne_true]
    rfl
  have marks := State.clusterRestart_runMarks ((s.begin.programSlot slot).runFw (slot - 1))
  have cluster := State.clusterRestart_cluster ((s.begin.programSlot slot).runFw (slot - 1))
  have running := State.get_runFw_running (s.begin.programSlot slot) (k := slot - 1) (by omega)
  have recorded := (s.begin.programSlot_shows firmware).1
  have upd := State.runFw_upd (s.begin.programSlot slot) (slot - 1)
  simp only [State.runMarks, Prod.mk.injEq, upd, running] at marks
  obtain ⟨shown, slotA, slotB⟩ := marks
  refine ⟨_, work.trans (congrArg _ activates), ?_, ?_, ?_, ?_, ?_, rfl⟩
  · rw [State.get_put_other _ _ _ _ (by decide) (by decide), State.modUpd_get, shown]
  · exact State.get_put_same _ _ _ (by decide)
  · exact congrArg Cluster.running cluster
  · exact congrArg Cluster.bootOk cluster
  · refine Eq.trans (congrArg FwSlot.act ?_) recorded
    show (if slot - 1 = 0 then _ else _ : FwSlot) = if slot - 1 = 0 then _ else _
    rw [← slotA, ← slotB]
    rfl

end

/-- Settles O49, each command on a function that serves it by its lemma above. -/
theorem updatesAreTransferredAndActivated : Obligations.UpdatesAreTransferredAndActivated := by
  unfold Obligations.UpdatesAreTransferredAndActivated
  refine ⟨fun fn slot h s served run own idle unlocked low high unused header first =>
      exec_transferFwInitiate_locks served run own idle unlocked low high unused header first,
    fun fn p s x served run own idle staged intime taken => exec_transferFwContinue_stages served run own idle staged intime taken,
    fun fn p s x h served run own idle staged intime taken checked slot firmware =>
      exec_transferFwEnd_copies served run own idle staged intime taken checked slot firmware,
    fun fn s served run own staged owner => exec_transferFwAbort_frees served run own staged owner,
    fun s x staged late => exec_updateLockIdleTimeout_frees staged late,
    fun fn slot b s served run own idle holds firmware => exec_activateFwOffline_records served run own idle b holds firmware,
    fun fn slot s served run own idle live => exec_activateFwOnline_restarts served run own idle live⟩

end Sys2Proof.Machine
